-- ==== Sys2Proof/Word.lean ====
section
/-! DEFINITION. The word types of the ST4 model: bytes, one value for each die, and tables with sorted keys. -/
namespace Sys2Proof

/-- One byte of memory, of a frame or of a message. -/
abbrev Byte := BitVec 8

/-- A byte string, lowest address (or first on the wire) first. -/
abbrev Bytes := List Byte

/-- One value for each of the dies D0 to D3 (R13). -/
structure PerDie (α : Type) where
  d0 : α
  d1 : α
  d2 : α
  d3 : α
  deriving DecidableEq, Repr, Inhabited

/-- The same value on every die. -/
def PerDie.all {α : Type} (a : α) : PerDie α := ⟨a, a, a, a⟩

/-- A table from numbers to values, keys strictly rising; a key not listed reads as the reader's default. -/
abbrev Tab (α : Type) := List (Nat × α)

end Sys2Proof
end

