-- ==== Sys2Proof/Syntax.lean ====
section
/-! DEFINITION. The commands of the ST4 block: one constructor of `Instr` for each row of spec/opcode_table.json. The table gives no fields; the operands are what a step's outcome depends on beside the state (log 6, log 7, log 8). -/
namespace Sys2Proof

/-- Where an access of the Object Dictionary comes from (R392, R398, R402, R410): BAR0 of a port, a signed request of an operator key slot in a session or outside one, an unsigned request, or the board controller. -/
inductive Via where
  | bar0 (port : Fin 2)
  | key (slot : Fin 8) (session : Option Nat)
  | unsigned
  | i3c
  deriving DecidableEq, Repr

/-- What a register write carries: a value for an entry by its name, or bytes from a byte of the entry's slot on in a port's BAR0 (R378, R392, R398). -/
inductive RegValue where
  | whole (value : Nat)
  | bytes (at_ : Fin 8) (bytes : List Byte)
  deriving DecidableEq, Repr

/-- What a register read asks for: a die's TRACKING_PEAK, or bytes at an offset of a port's BAR0 (R289, R378, R398; log 99). -/
inductive RegRead where
  | peak (die : Fin 4)
  | bytes (offset len : Nat)
  deriving DecidableEq, Repr

/-- What the end of an image fetch reports of a launch: the image has arrived, or the running image fails its parity and is fetched anew (R92, R275). -/
inductive ImageFetch where
  | arrived (launch : Nat)
  | parity (launch : Nat)
  deriving DecidableEq, Repr

/-- The operations of the SCALAR class (R84); the spec gives no OP codes for them (log 6). -/
inductive ScalarOp where
  | add | sub | mul | and | or | xor | shl | shr | sar | min | max | minu | maxu
  | cmpEq | cmpNe | cmpLt | cmpLe | cmpLtu | cmpLeu
  deriving DecidableEq, Repr

/-- The second operand of a SCALAR operation: register SRC_B of format F-R, or the 32-bit immediate of format F-I, sign- or zero-extended (R83, log 6). -/
inductive ScalarForm where
  | reg | immSigned | immZero
  deriving DecidableEq, Repr

/-- The conditions of a branch (R84); the spec gives no COND codes for them (log 6). -/
inductive BranchCond where
  | always | eq | ne | lt | ge | ltu | geu
  deriving DecidableEq, Repr

/-- What LOFT_READ reads: a request that waits for its slice, or a line (storage line number) whose data a read served in one step is about to use. -/
inductive LoftSource where
  | request (id : Nat)
  | line (n : Nat)
  deriving DecidableEq, Repr

/-- What the check bits of an access report (R275, R276): nothing, one corrected error, or an uncorrectable one, in a sector of the line. -/
inductive EccEvent where
  | clean
  | corrected (sector : Fin 8)
  | uncorrectable (sector : Fin 8)
  deriving DecidableEq, Repr

/-- What the check bits of an on-die SRAM word report (R275). -/
inductive WordEcc where
  | clean | corrected | uncorrectable
  deriving DecidableEq, Repr

/-- What a cycle of a core's scratch gives an access: its bank is lost to another access (R81), or the word is served with what its check bits report. -/
inductive ScratchCycle where
  | lost
  | served (ecc : WordEcc)
  deriving DecidableEq, Repr

/-- The tags or the data of a die's Eaves or Loft slices (R280). -/
structure SlicePart where
  eaves : Bool
  tags : Bool
  deriving DecidableEq, Repr

/-- A unit whose accesses are translated or tracked (R287, R289, R297); `action` is a RAFTER_WINDOW, REDUCE, TOKEN_EXCHANGE, MARK or COUNTER_SNAPSHOT by the number of its action. -/
inductive Agent where
  | thread (core : Nat) (thread : Nat)
  | image (core : Nat) (launch : Nat)
  | mover (die : Nat) (mover : Nat)
  | moverDesc (die : Nat) (mover : Nat)
  | update (job : Nat)
  | action (id : Nat)
  deriving DecidableEq, Repr

/-- A peer's identity message (R313). -/
structure IdentityMsg where
  serial : BitVec 64
  domain : BitVec 32
  rank : BitVec 10
  incarnation : BitVec 16
  link : BitVec 6
  role : BitVec 5
  deriving DecidableEq, Repr

/-- What the cryptographic checks of R416 give for one slot (log 7): whether the digest of SIGNER_KEY is the fused one, whether the signature verifies, whether the digest of the payload is PAYLOAD_DIGEST. -/
structure ImageCheck where
  signer : Bool
  sig : Bool
  digest : Bool
  deriving DecidableEq, Repr

/-- An instruction of a die's test access port (R480, R481); the spec gives no instruction codes (log 62). -/
inductive TapOp where
  | idcode | bypass | sample | extest | instrument | other
  deriving DecidableEq, Repr

/-- What a flit of a Seam or Ridge carries (R20); Rafter traffic names its virtual channel and dateline half (R318). -/
inductive SeamLoad where
  | slotBoundary | dispatch | agreement
  | lodestar | dictionary | report
  | request | response
  | rafter (vc : Fin 5) (half : Bool)
  deriving DecidableEq, Repr

/-- A hop, the first or the second, of the route between two dies (R19). -/
structure SeamHop where
  src : Fin 4
  dst : Fin 4
  hop : Fin 2
  deriving DecidableEq, Repr

/-- A flit of a Seam or Ridge as it arrives: whether it is an all-zero 64-byte payload (R30), and whether its CRC is right (R23). -/
structure SeamWire where
  zero : Bool
  crcOk : Bool
  deriving DecidableEq, Repr

/-- A FIRST or NEXT flit as it arrives, and the symbols that the FEC corrected since the last one (R314, R317). -/
structure RxFlit where
  bits : BitVec 1600
  fec : Nat
  deriving DecidableEq, Repr

/-- How a committed mailbox message is met (R402, R407): whether it finds the queue full, and whether its signature verifies (log 7). -/
structure MboxCommit where
  full : Bool
  sigOk : Bool
  deriving DecidableEq, Repr

/-- A command of the block. -/
inductive Instr where
  /-- SLOT_BOUNDARY: junction readings of each die (0.01 °C); bit d set for a die whose SDT an upset changed; what such a die holds. -/
  | slotBoundary (junction : List (List Int)) (upset : BitVec 4) (held : PerDie (BitVec 64))
  /-- GUARD_BAND_SAMPLE. -/
  | guardBandSample
  /-- DIM_SKYLIGHT_SNAPSHOT. -/
  | dimSkylightSnapshot
  /-- BEACON_REQUEST_SEND. -/
  | beaconRequestSend
  /-- UNUSED_PARENT_BEACON: link to a parent not in use. -/
  | unusedParentBeacon (link : Fin 36)
  /-- BEACON_REQUEST: fractions of the stamps t2 and t3 and the ticks between them. -/
  | beaconRequest (t2frac t3frac : Fin 256) (turn : Nat)
  /-- BEACON_RESPONSE: the fraction of the stamp t4. -/
  | beaconResponse (t4frac : Fin 256)
  /-- PARENT_CLOCK_LOST. -/
  | parentClockLost
  /-- PARENT_LINK_RECOVERED: link whose recovered clock is back. -/
  | parentLinkRecovered (link : Fin 36)
  /-- ROOT_PLL_LOCK: die. -/
  | rootPllLock (die : Fin 4)
  /-- PLL_UNLOCK: die. -/
  | pllUnlock (die : Fin 4)
  /-- REF_SWITCH. -/
  | refSwitch
  /-- ARM_A: where the write comes from. -/
  | armA (via : Via)
  /-- ARM_B: where the write comes from. -/
  | armB (via : Via)
  /-- STAGE_A: where the write comes from. -/
  | stageA (via : Via)
  /-- STAGE_B: where the write comes from. -/
  | stageB (via : Via)
  /-- UNSTAGE: where the write comes from. -/
  | unstage (via : Via)
  /-- DISARM: where the write comes from. -/
  | disarm (via : Via)
  /-- ALMANAC_CHECK_DONE. -/
  | almanacCheckDone
  /-- ALMANAC_START. -/
  | almanacStart
  /-- ALMANAC_DESCRIPTOR_READ. -/
  | almanacDescriptorRead
  /-- RESUME_SDT_WRITE: where the write comes from; the value. -/
  | resumeSdtWrite (via : Via) (value : BitVec 64)
  /-- PAUSE_RESUME. -/
  | pauseResume
  /-- AGREEMENT. -/
  | agreement
  /-- VECTOR_DEADLINE. -/
  | vectorDeadline
  /-- SEAL. -/
  | seal
  /-- SEAL_DEADLINE. -/
  | sealDeadline
  /-- CONJUNCTION_DECISION. -/
  | conjunctionDecision
  /-- CONJUNCTION_EFFECT. -/
  | conjunctionEffect
  /-- IMAGE_FETCH_DONE: core; the launch, and what is reported of its image. -/
  | imageFetchDone (core : Fin 384) (fetch : ImageFetch)
  /-- SCALAR: core and thread; the operation the OP field names (none: a reserved value) and its format. -/
  | scalar (core : Fin 384) (thread : Fin 32) (op : Option ScalarOp) (form : ScalarForm)
  /-- BRANCH: core and thread; the condition the OP field names. -/
  | branch (core : Fin 384) (thread : Fin 32) (cond : Option BranchCond)
  /-- SCRATCH_LOAD: core and thread; sign extension (none: a reserved OP); what the cycle gives it. -/
  | scratchLoad (core : Fin 384) (thread : Fin 32) (signed : Option Bool) (cycle : ScratchCycle)
  /-- SCRATCH_STORE: core and thread; what the cycle gives it, where a merged word is read (none: a reserved OP). -/
  | scratchStore (thread : Fin 384 × Fin 32) (cycle : Option ScratchCycle)
  /-- MEMORY_LOAD: core and thread; sign extension (none: a reserved OP). -/
  | memoryLoad (core : Fin 384) (thread : Fin 32) (signed : Option Bool)
  /-- MEMORY_STORE: core and thread; a reserved OP. -/
  | memoryStore (thread : Fin 384 × Fin 32) (reserved : Bool)
  /-- MEMORY_RESPONSE: the request answered. -/
  | memoryResponse (req : Nat)
  /-- CINC: core and thread. -/
  | cinc (core : Fin 384) (thread : Fin 32)
  /-- CWAIT: core and thread. -/
  | cwait (core : Fin 384) (thread : Fin 32)
  /-- CREAD: core and thread. -/
  | cread (core : Fin 384) (thread : Fin 32)
  /-- BARRIER: core and thread. -/
  | barrier (core : Fin 384) (thread : Fin 32)
  /-- GINC: core and thread. -/
  | ginc (core : Fin 384) (thread : Fin 32)
  /-- GREAD: core and thread. -/
  | gread (core : Fin 384) (thread : Fin 32)
  /-- SDTR: core and thread. -/
  | sdtr (core : Fin 384) (thread : Fin 32)
  /-- SLOTR: core and thread. -/
  | slotr (core : Fin 384) (thread : Fin 32)
  /-- WAITSDT: core and thread. -/
  | waitsdt (core : Fin 384) (thread : Fin 32)
  /-- END: core and thread. -/
  | endThread (core : Fin 384) (thread : Fin 32)
  /-- FENCE: core and thread. -/
  | fence (core : Fin 384) (thread : Fin 32)
  /-- VADD: core and thread. -/
  | vadd (core : Fin 384) (thread : Fin 32)
  /-- VSUB: core and thread. -/
  | vsub (core : Fin 384) (thread : Fin 32)
  /-- VMUL: core and thread. -/
  | vmul (core : Fin 384) (thread : Fin 32)
  /-- VFMA: core and thread. -/
  | vfma (core : Fin 384) (thread : Fin 32)
  /-- VMAX: core and thread. -/
  | vmax (core : Fin 384) (thread : Fin 32)
  /-- VMIN: core and thread. -/
  | vmin (core : Fin 384) (thread : Fin 32)
  /-- VABS: core and thread. -/
  | vabs (core : Fin 384) (thread : Fin 32)
  /-- VNEG: core and thread. -/
  | vneg (core : Fin 384) (thread : Fin 32)
  /-- VCMP: core and thread. -/
  | vcmp (core : Fin 384) (thread : Fin 32)
  /-- VSEL: core and thread. -/
  | vsel (core : Fin 384) (thread : Fin 32)
  /-- VRSUM: core and thread. -/
  | vrsum (core : Fin 384) (thread : Fin 32)
  /-- VRMAX: core and thread. -/
  | vrmax (core : Fin 384) (thread : Fin 32)
  /-- VRMIN: core and thread. -/
  | vrmin (core : Fin 384) (thread : Fin 32)
  /-- VBCAST: core and thread. -/
  | vbcast (core : Fin 384) (thread : Fin 32)
  /-- VGATHER: core and thread. -/
  | vgather (core : Fin 384) (thread : Fin 32)
  /-- VSCATTER: core and thread. -/
  | vscatter (core : Fin 384) (thread : Fin 32)
  /-- VSCATADD: core and thread. -/
  | vscatadd (core : Fin 384) (thread : Fin 32)
  /-- VAND: core and thread. -/
  | vand (core : Fin 384) (thread : Fin 32)
  /-- VOR: core and thread. -/
  | vor (core : Fin 384) (thread : Fin 32)
  /-- VXOR: core and thread. -/
  | vxor (core : Fin 384) (thread : Fin 32)
  /-- VSHL: core and thread. -/
  | vshl (core : Fin 384) (thread : Fin 32)
  /-- VSHR: core and thread. -/
  | vshr (core : Fin 384) (thread : Fin 32)
  /-- VCVT: core and thread. -/
  | vcvt (core : Fin 384) (thread : Fin 32)
  /-- VQUANT: core and thread. -/
  | vquant (core : Fin 384) (thread : Fin 32)
  /-- VDEQUANT: core and thread. -/
  | vdequant (core : Fin 384) (thread : Fin 32)
  /-- VSPLIT: core and thread. -/
  | vsplit (core : Fin 384) (thread : Fin 32)
  /-- VSCALE: core and thread. -/
  | vscale (core : Fin 384) (thread : Fin 32)
  /-- VEXP: core and thread. -/
  | vexp (core : Fin 384) (thread : Fin 32)
  /-- VEXP2: core and thread. -/
  | vexp2 (core : Fin 384) (thread : Fin 32)
  /-- VLN: core and thread. -/
  | vln (core : Fin 384) (thread : Fin 32)
  /-- VLOG2: core and thread. -/
  | vlog2 (core : Fin 384) (thread : Fin 32)
  /-- VRCP: core and thread. -/
  | vrcp (core : Fin 384) (thread : Fin 32)
  /-- VRSQRT: core and thread. -/
  | vrsqrt (core : Fin 384) (thread : Fin 32)
  /-- VTANH: core and thread. -/
  | vtanh (core : Fin 384) (thread : Fin 32)
  /-- VSIGMOID: core and thread. -/
  | vsigmoid (core : Fin 384) (thread : Fin 32)
  /-- VSINPI: core and thread. -/
  | vsinpi (core : Fin 384) (thread : Fin 32)
  /-- VCOSPI: core and thread. -/
  | vcospi (core : Fin 384) (thread : Fin 32)
  /-- MWLOAD: core and thread. -/
  | mwload (core : Fin 384) (thread : Fin 32)
  /-- MSTREAM: core and thread. -/
  | mstream (core : Fin 384) (thread : Fin 32)
  /-- MDRAIN: core and thread. -/
  | mdrain (core : Fin 384) (thread : Fin 32)
  /-- MWLOAD_START: core and array. -/
  | mwloadStart (core : Fin 384) (array : Fin 4)
  /-- MWLOAD_COMPLETE: core and array. -/
  | mwloadComplete (core : Fin 384) (array : Fin 4)
  /-- MSTREAM_START: core and an array that the instruction names. -/
  | mstreamStart (core : Fin 384) (array : Fin 4)
  /-- MSTREAM_ROW: core; a parity mismatch on the broadcast bus; hardware errors in the row: array, column (128 and 129 the parity columns), K-block, and what is added to its sum. -/
  | mstreamRow (core : Fin 384) (busErr : Bool) (upset : List (Fin 4 × Fin 130 × Fin 8 × Int))
  /-- MSTREAM_COMPLETE: core. -/
  | mstreamComplete (core : Fin 384)
  /-- MDRAIN_START: core and array. -/
  | mdrainStart (core : Fin 384) (array : Fin 4)
  /-- MDRAIN_STEP: core and array. -/
  | mdrainStep (core : Fin 384) (array : Fin 4)
  /-- MDRAIN_COMPLETE: core and array. -/
  | mdrainComplete (core : Fin 384) (array : Fin 4)
  /-- UPDATE_ENTRY: update job. -/
  | updateEntry (job : Nat)
  /-- UPDATE_CHUNK: update job. -/
  | updateChunk (job : Nat)
  /-- LAZY_ADAM_ROW: update job. -/
  | lazyAdamRow (job : Nat)
  /-- ORTHO_PRODUCT_TILE: update job. -/
  | orthoProductTile (job : Nat)
  /-- CHUNK_SUM_FOLD: update job. -/
  | chunkSumFold (job : Nat)
  /-- PUBLISH_ROW: follow-on record. -/
  | publishRow (rec : Nat)
  /-- RATIO_RECORD_WRITE: follow-on record. -/
  | ratioRecordWrite (rec : Nat)
  /-- SCALE_SWEEP_BLOCK: follow-on record. -/
  | scaleSweepBlock (rec : Nat)
  /-- LOFT_READ: request, or the line of an access served in one step; what the ECC of the sectors read reports. -/
  | loftRead (of_ : LoftSource) (ecc : EccEvent)
  /-- LOFT_WRITE: request; what the ECC of the sectors written reports. -/
  | loftWrite (req : Nat) (ecc : EccEvent)
  /-- CONTROLLER_WRITE_ADD: request; what the ECC of the sectors reports. -/
  | controllerWriteAdd (req : Nat) (ecc : EccEvent)
  /-- LOFT_FILL_RETURN: line address; what the ECC of the filled sectors reports. -/
  | loftFillReturn (line : Nat) (ecc : EccEvent)
  /-- EAVES_FILL_RETURN: die and line address. -/
  | eavesFillReturn (die : Fin 4) (line : Nat)
  /-- STAMP_REWRITE: shard guard. -/
  | stampRewrite (guard : Fin 64)
  /-- PREFETCH_DISTANCE_REVISE: die. -/
  | prefetchDistanceRevise (die : Fin 4)
  /-- SCRUB_DUSK: die; (sector, what its ECC reports) for the sectors read that report an error. -/
  | scrubDusk (die : Fin 4) (found : List (Nat × EccEvent))
  /-- SCRUB_PASS_END: die and tier. -/
  | scrubPassEnd (die : Fin 4) (thatch : Bool)
  /-- SRAM_SCRUB: core; the LPA of a row that reports an error, and what it reports. -/
  | sramScrub (core : Fin 384) (lpa : Nat) (found : EccEvent)
  /-- CACHE_SCRUB: die; Eaves or Loft; tags or data; the line that reports an error, and what it reports. -/
  | cacheScrub (die : Fin 4) (part : SlicePart) (line : Nat) (found : EccEvent)
  /-- IDLE_BANK_SCRUB: core; what the row reports. -/
  | idleBankScrub (core : Fin 384) (found : EccEvent)
  /-- PAGE_WALK: the agent whose translation is missing; whether a thread's access is a store; what the ECC of the sector of the first table entry read reports. -/
  | pageWalk (agent : Agent) (write : Bool) (ecc : EccEvent)
  /-- PARK_RECORD_WRITE. -/
  | parkRecordWrite
  /-- PARK_RELEASE: where the write comes from; the value (bits 31:0 SEQUENCE). -/
  | parkRelease (via : Via) (value : BitVec 64)
  /-- PARK_ABANDON: where the write comes from; the value (bit 32 set). -/
  | parkAbandon (via : Via) (value : BitVec 64)
  /-- PARK_TIMEOUT: SEQUENCE of the record. -/
  | parkTimeout (seq : Nat)
  /-- INVAL_RANGE: where the write comes from. -/
  | invalRange (via : Via)
  /-- INVAL_ASID: where the write comes from. -/
  | invalAsid (via : Via)
  /-- INVAL_ALL: where the write comes from. -/
  | invalAll (via : Via)
  /-- INVAL_COMPLETE. -/
  | invalComplete
  /-- STOP: where the write comes from. -/
  | stop (via : Via)
  /-- SAVE: where the write comes from. -/
  | save (via : Via)
  /-- RESUME: where the write comes from. -/
  | resume (via : Via)
  /-- PREEMPT_STOP_DONE. -/
  | preemptStopDone
  /-- PREEMPT_SAVE_DONE. -/
  | preemptSaveDone
  /-- PREEMPT_RESTORE_DONE. -/
  | preemptRestoreDone
  /-- STREAM: die and mover. -/
  | stream (die : Fin 4) (mover : Fin 64)
  /-- GATHER: die and mover. -/
  | gather (die : Fin 4) (mover : Fin 64)
  /-- SCATTER: die and mover. -/
  | scatter (die : Fin 4) (mover : Fin 64)
  /-- STREAM_ADD: die and mover. -/
  | streamAdd (die : Fin 4) (mover : Fin 64)
  /-- SCATTER_ADD: die and mover. -/
  | scatterAdd (die : Fin 4) (mover : Fin 64)
  /-- MOVER_DESCRIPTOR_READAHEAD: die and mover. -/
  | moverDescriptorReadahead (die : Fin 4) (mover : Fin 64)
  /-- MOVER_PIECE_ISSUE: die and mover. -/
  | moverPieceIssue (die : Fin 4) (mover : Fin 64)
  /-- DESCRIPTOR_RETIRE: die and mover. -/
  | descriptorRetire (die : Fin 4) (mover : Fin 64)
  /-- SEAM_RIDGE_FLIT: the hop; what the flit carries; how it arrives. -/
  | seamRidgeFlit (hop : SeamHop) (load : SeamLoad) (wire : SeamWire)
  /-- DIE_LOST: die. -/
  | dieLost (die : Fin 4)
  /-- LINK_RETRY_TIMER: link. -/
  | linkRetryTimer (link : Fin 36)
  /-- LINK_DETECTED: link. -/
  | linkDetected (link : Fin 36)
  /-- LINK_EQUALISED: link; lane map and polarity found; whether every lane meets its limit. -/
  | linkEqualised (link : Fin 36) (laneMap : BitVec 24) (polarity : BitVec 8) (ok : Bool)
  /-- IDENTITY: link; the peer's message. -/
  | identity (link : Fin 36) (flit : BitVec 1600)
  /-- LINK_RETRAIN: link. -/
  | linkRetrain (link : Fin 36)
  /-- LINK_DOWN: link. -/
  | linkDown (link : Fin 36)
  /-- FLIT_RECEIVED: link; the flit. -/
  | flitReceived (link : Fin 36) (flit : RxFlit)
  /-- CREDIT_UPDATE: link; the control flit. -/
  | creditUpdate (link : Fin 36) (flit : BitVec 1600)
  /-- NAK: link; the control flit. -/
  | nak (link : Fin 36) (flit : BitVec 1600)
  /-- REPLAY_TIMEOUT: link. -/
  | replayTimeout (link : Fin 36)
  /-- FENCE_NOTICE: link; the incarnation in the notice. -/
  | fenceNotice (link : Fin 36) (incarnation : BitVec 16)
  /-- FENCE_NOTICE_SEND: link. -/
  | fenceNoticeSend (link : Fin 36)
  /-- MEM_READ. -/
  | memRead
  /-- MEM_WRITE. -/
  | memWrite
  /-- MEM_WRITE_ADD. -/
  | memWriteAdd
  /-- READ_DATA. -/
  | readData
  /-- WRITE_ACK. -/
  | writeAck
  /-- WINDOW_FRAME_SEND: window. -/
  | windowFrameSend (window : Nat)
  /-- WINDOW_DATA. -/
  | windowData
  /-- WINDOW_DONE. -/
  | windowDone
  /-- GATE_INC. -/
  | gateInc
  /-- GATE_ACK. -/
  | gateAck
  /-- REDUCE_GRANT. -/
  | reduceGrant
  /-- REDUCE_CONTRIB. -/
  | reduceContrib
  /-- REDUCE_ACK. -/
  | reduceAck
  /-- REDUCE_SEGMENT_COMBINE: armed root and segment. -/
  | reduceSegmentCombine (root : Nat) (segment : Nat)
  /-- TOKEN_COUNTS. -/
  | tokenCounts
  /-- TOKEN_ROW. -/
  | tokenRow
  /-- TOKEN_ACK. -/
  | tokenAck
  /-- QUIET_REQUEST_ABANDON. -/
  | quietRequestAbandon
  /-- FABRIC_COMMIT: where the write comes from. -/
  | fabricCommit (via : Via)
  /-- DOMAIN_GEOMETRY_WRITE: where the write comes from; subindex of 0x2700 and value. -/
  | domainGeometryWrite (via : Via) (sub : Fin 256) (value : Nat)
  /-- INCARNATION_WRITE: where the write comes from; the value. -/
  | incarnationWrite (via : Via) (value : Nat)
  /-- ETH_LINK_UP: link. -/
  | ethLinkUp (link : Fin 36)
  /-- ETH_PACKET: link; the packet. -/
  | ethPacket (link : Fin 36) (packet : List Byte)
  /-- ETH_RETRANSMIT_TIMEOUT: link. -/
  | ethRetransmitTimeout (link : Fin 36)
  /-- ETH_ACK_TIMER: link. -/
  | ethAckTimer (link : Fin 36)
  /-- ETH_NEIGHBOR_SOLICITATION: link; the packet. -/
  | ethNeighborSolicitation (link : Fin 36) (packet : List Byte)
  /-- ETH_ECHO_REQUEST: link; the packet. -/
  | ethEchoRequest (link : Fin 36) (packet : List Byte)
  /-- PORT_RESET: port. -/
  | portReset (port : Fin 2)
  /-- BAR2_READ: port, offset and length of the read. -/
  | bar2Read (port : Fin 2) (offset : BitVec 64) (len : Nat)
  /-- BAR2_WRITE: port, offset and bytes of the write. -/
  | bar2Write (port : Fin 2) (offset : BitVec 64) (bytes : List Byte)
  /-- MIRROR_PERIOD_WRITE: where the write comes from; the value. -/
  | mirrorPeriodWrite (via : Via) (value : Nat)
  /-- HOST_GATE_INC: where the write comes from; the value. -/
  | hostGateInc (via : Via) (value : Nat)
  /-- HOST_PIECE_COMPLETION: request and the bytes the host returned. -/
  | hostPieceCompletion (req : Nat) (bytes : List Byte)
  /-- HOST_ACCESS: request and completion status. -/
  | hostAccess (req : Nat) (status : Fin 256)
  /-- REGISTER_WRITE: where the write comes from; index and subindex; what it carries. -/
  | registerWrite (via : Via) (index : BitVec 16) (sub : BitVec 8) (value : RegValue)
  /-- SEG_SELECT: port; the value. -/
  | segSelect (port : Fin 2) (value : BitVec 32)
  /-- SNAPSHOT: port. -/
  | segSnapshot (port : Fin 2)
  /-- COMMIT: port. -/
  | segCommit (port : Fin 2)
  /-- DISCARD: port. -/
  | segDiscard (port : Fin 2)
  /-- SEG_WINDOW_WRITE: port, offset in the window and bytes. -/
  | segWindowWrite (port : Fin 2) (offset : Nat) (bytes : List Byte)
  /-- READ: the frame that brings the request to the management port; whether it finds the queue full; whether its signature verifies. -/
  | dpRead (frame : List Byte) (full sigOk : Bool)
  /-- WRITE: the frame that brings the request to the management port; whether it finds the queue full; whether its signature verifies. -/
  | dpWrite (frame : List Byte) (full sigOk : Bool)
  /-- SESSION_OPEN: the frame that brings the request to the management port; whether it finds the queue full; whether its signature verifies. -/
  | sessionOpen (frame : List Byte) (full sigOk : Bool)
  /-- SESSION_CLOSE: the frame that brings the request to the management port; whether it finds the queue full; whether its signature verifies. -/
  | sessionClose (frame : List Byte) (full sigOk : Bool)
  /-- DISCOVER: the frame that brings the request to the management port; whether it finds the queue full; whether its signature verifies. -/
  | discover (frame : List Byte) (full sigOk : Bool)
  /-- SESSION_TIMEOUT: SESSION_ID. -/
  | sessionTimeout (session : Nat)
  /-- SEGMENT_LAPSE: holder of the snapshot or staging buffer. -/
  | segmentLapse (holder : Nat)
  /-- MBOX_REQUEST: port; how the committed message is met. -/
  | mboxRequest (port : Fin 2) (commit : MboxCommit)
  /-- OPERATOR_KEY_WRITE: where the write comes from; key slot and value. -/
  | operatorKeyWrite (via : Via) (slot : Fin 8) (value : List Byte)
  /-- MGMT_LINK_UP: whether duplicate address detection finds another holder. -/
  | mgmtLinkUp (duplicate : Bool)
  /-- MGMT_NEIGHBOR_SOLICITATION: the packet. -/
  | mgmtNeighborSolicitation (packet : List Byte)
  /-- MGMT_ECHO_REQUEST: the packet. -/
  | mgmtEchoRequest (packet : List Byte)
  /-- I3C_DICTIONARY_READ: the MCTP vendor message. -/
  | i3cDictionaryRead (request : List Byte)
  /-- I3C_PROVISIONING_WRITE: the MCTP vendor message. -/
  | i3cProvisioningWrite (request : List Byte)
  /-- SET_ENDPOINT_ID: the MCTP control message. -/
  | setEndpointId (request : List Byte)
  /-- GET_ENDPOINT_ID: the MCTP control message. -/
  | getEndpointId (request : List Byte)
  /-- GET_MCTP_VERSION_SUPPORT: the MCTP control message. -/
  | getMctpVersionSupport (request : List Byte)
  /-- GET_MESSAGE_TYPE_SUPPORT: the MCTP control message. -/
  | getMessageTypeSupport (request : List Byte)
  /-- I3C_TARGET_RESET. -/
  | i3cTargetReset
  /-- GET_VERSION: transport (0 I3C, 1 and 2 PCIe) and request bytes. -/
  | getVersion (transport : Fin 3) (request : List Byte)
  /-- GET_CAPABILITIES: transport and request bytes. -/
  | getCapabilities (transport : Fin 3) (request : List Byte)
  /-- NEGOTIATE_ALGORITHMS: transport and request bytes. -/
  | negotiateAlgorithms (transport : Fin 3) (request : List Byte)
  /-- GET_DIGESTS: transport and request bytes. -/
  | getDigests (transport : Fin 3) (request : List Byte)
  /-- GET_CERTIFICATE: transport and request bytes. -/
  | getCertificate (transport : Fin 3) (request : List Byte)
  /-- CHALLENGE: transport and request bytes. -/
  | challenge (transport : Fin 3) (request : List Byte)
  /-- GET_MEASUREMENTS: transport and request bytes. -/
  | getMeasurements (transport : Fin 3) (request : List Byte)
  /-- SPDM_UNSUPPORTED_REQUEST: transport and request bytes. -/
  | spdmUnsupportedRequest (transport : Fin 3) (request : List Byte)
  /-- ATTEST_NONCE: where the write comes from; the nonce. -/
  | attestNonce (via : Via) (nonce : List Byte)
  /-- PACKAGE_RESET_RELEASE. -/
  | packageResetRelease
  /-- ROM_PHASE_DONE: whether each Lodestar passes its self-test. -/
  | romPhaseDone (ok0 ok2 : Bool)
  /-- IMAGE_PHASE_DONE: what the cryptographic checks of slots A and B give (log 7). -/
  | imagePhaseDone (a b : ImageCheck)
  /-- POWER_PHASE_DONE. -/
  | powerPhaseDone
  /-- CLOCKS_PHASE_DONE: whether the REFCLK input carries a clock within 100 ppm of 100 MHz. -/
  | clocksPhaseDone (refclkGood : Bool)
  /-- PAIRING_PHASE_DONE. -/
  | pairingPhaseDone
  /-- SRAM_PHASE_DONE. -/
  | sramPhaseDone
  /-- CORES_PHASE_DONE: physical cores that fail the self-test. -/
  | coresPhaseDone (failed : List (Fin 4 × Nat))
  /-- MEMORY_PHASE_DONE. -/
  | memoryPhaseDone
  /-- FIRMWARE_LOAD_PHASE_DONE. -/
  | firmwareLoadPhaseDone
  /-- LINKS_PHASE_DONE. -/
  | linksPhaseDone
  /-- DICTIONARY_PHASE_DONE. -/
  | dictionaryPhaseDone
  /-- START_FAILED. -/
  | startFailed
  /-- LEADER_HEARTBEAT. -/
  | leaderHeartbeat
  /-- LEADER_CHANGE. -/
  | leaderChange
  /-- DIM_EXIT: where the write comes from; the value. -/
  | dimExit (via : Via) (value : Nat)
  /-- FW_CHUNK: where the write comes from; 1,024 bytes. -/
  | fwChunk (via : Via) (bytes : List Byte)
  /-- FW_ERASE_DONE. -/
  | fwEraseDone
  /-- VERIFY_TARGET: where the write comes from. -/
  | verifyTarget (via : Via)
  /-- VERIFY_TARGET_DONE: what the cryptographic checks of the target slot give (log 7). -/
  | verifyTargetDone (check : ImageCheck)
  /-- TRIAL_TARGET: where the write comes from. -/
  | trialTarget (via : Via)
  /-- CANCEL_TRIAL: where the write comes from. -/
  | cancelTrial (via : Via)
  /-- SVN_FLOOR_WRITE: where the write comes from; the value. -/
  | svnFloorWrite (via : Via) (value : Nat)
  /-- FW_KEY0_REVOKE: where the write comes from; the value. -/
  | fwKey0Revoke (via : Via) (value : Nat)
  /-- CORE_RETIRE_REQUEST: where the write comes from; die and logical core. -/
  | coreRetireRequest (via : Via) (die : Fin 4) (value : Nat)
  /-- SUPPLY_WARNING: input voltage (mV). -/
  | supplyWarning (mv : Nat)
  /-- SUPPLY_LOW: input voltage (mV). -/
  | supplyLow (mv : Nat)
  /-- SUPPLY_LOW_CLEARED: input voltage (mV). -/
  | supplyLowCleared (mv : Nat)
  /-- SUPPLY_RECOVERED: input voltage (mV). -/
  | supplyRecovered (mv : Nat)
  /-- OVER_VOLTAGE: input voltage (mV). -/
  | overVoltage (mv : Nat)
  /-- OVER_VOLTAGE_CLEARED: input voltage (mV). -/
  | overVoltageCleared (mv : Nat)
  /-- SUPPLY_RESET: input voltage (mV). -/
  | supplyReset (mv : Nat)
  /-- OVER_VOLTAGE_RESET: input voltage (mV). -/
  | overVoltageReset (mv : Nat)
  /-- OVER_CURRENT_RESET: input current (mA). -/
  | overCurrentReset (ma : Nat)
  /-- VIN_RISE: input voltage (mV). -/
  | vinRise (mv : Nat)
  /-- VIN_STABLE: input voltage (mV). -/
  | vinStable (mv : Nat)
  /-- REVERSE_POLARITY. -/
  | reversePolarity
  /-- RAIL_FAULT: die, rail number and reading (mV). -/
  | railFault (die : Fin 4) (rail : Nat) (mv : Nat)
  /-- RAIL_FAULT_RESET. -/
  | railFaultReset
  /-- SENSE_OPEN: what failed (0 remote sense, 1 divider, 2 junction sensor), die, rail or sensor number, and the reading used (mV or 0.01 °C). -/
  | senseOpen (kind : Nat) (die : Fin 4) (which : Nat) (reading : Nat)
  /-- COOLANT_SENSOR: sensor (INLET_A, INLET_B, OUTLET_A, OUTLET_B), whether its reading is out of range (otherwise it differs from its pair by more than 3.0 K), and the reading used (0.01 °C). -/
  | coolantSensor (sensor : Fin 4) (failed : Bool) (reading : Int)
  /-- THERMAL_DEMAND_REVISE. -/
  | thermalDemandRevise
  /-- THERMAL_TRIP: die. -/
  | thermalTrip (die : Fin 4)
  /-- THERMAL_TRIP_SHUTDOWN. -/
  | thermalTripShutdown
  /-- THERMAL_COOLDOWN_RESET. -/
  | thermalCooldownReset
  /-- THERMAL_CUTOFF: die. -/
  | thermalCutoff (die : Fin 4)
  /-- COOLANT_AVERAGE: present readings of the four sensors and averages of inlet and outlet (0.01 °C), average power (W). -/
  | coolantAverage (sensors : List Int) (tin tout : Int) (power : Nat)
  /-- POWER_CEILING_PUBLISH. -/
  | powerCeilingPublish
  /-- POWER_CONTROL: 100 µs average of package power (W) and input current (mA). -/
  | powerControl (power ma : Nat)
  /-- THROTTLE_STEP_RAISE. -/
  | throttleStepRaise
  /-- THROTTLE_STEP_LOWER. -/
  | throttleStepLower
  /-- CANARY_MEASURE: smallest timing margin of each die (ps). -/
  | canaryMeasure (margins : List Int)
  /-- GUARD_BAND_RAISE: die. -/
  | guardBandRaise (die : Fin 4)
  /-- SENSOR_CALIBRATION. -/
  | sensorCalibration
  /-- CURRENT_SENSE_CALIBRATION. -/
  | currentSenseCalibration
  /-- INTERFACE_CALIBRATION. -/
  | interfaceCalibration
  /-- FLASH_GARBAGE_COLLECT: erase count of the most-worn block after it. -/
  | flashGarbageCollect (wear : Nat)
  /-- CROSSING_OVERRUN: row of CROSSING_TABLE. -/
  | crossingOverrun (crossing : Nat)
  /-- OVERRUN_CLEAR: where the write comes from; the value. -/
  | overrunClear (via : Via) (value : Nat)
  /-- CROSSING_RESET: row of CROSSING_TABLE. -/
  | crossingReset (crossing : Nat)
  /-- CROSSING_RELEASE_HANDSHAKE: row of CROSSING_TABLE. -/
  | crossingReleaseHandshake (crossing : Nat)
  /-- RESET_REQUEST: where the write comes from; the value. -/
  | resetRequest (via : Via) (value : Nat)
  /-- RESET_FORCE: where the write comes from; the value. -/
  | resetForce (via : Via) (value : Nat)
  /-- RESET_DELAY_EXPIRY. -/
  | resetDelayExpiry
  /-- RESET_FORCE_WRITEBACK_TIMEOUT. -/
  | resetForceWritebackTimeout
  /-- LOG_RECORD_ARRIVAL. -/
  | logRecordArrival
  /-- LOG_PROGRAM. -/
  | logProgram
  /-- TELEMETRY_SAMPLE. -/
  | telemetrySample
  /-- TELEMETRY_WRITE. -/
  | telemetryWrite
  /-- CORE_TEST: where the write comes from; the value. -/
  | coreTest (via : Via) (value : Nat)
  /-- CORE_TEST_DONE: cores that fail and the first failing block, 0 when none does. -/
  | coreTestDone (failed : List (Fin 384)) (block : Nat)
  /-- TEST_ACCESS_WRITE: where the write comes from; the value. -/
  | testAccessWrite (via : Via) (value : Nat)
  /-- TAP_INSTRUCTION: the instructions that the chain loads into D0 and D1, and into D2 and D3. -/
  | tapInstruction (d01 d23 : TapOp × TapOp)
  /-- TEST_LOGIC_RESET. -/
  | testLogicReset
  /-- SHARD_GUARD_WRITE: where the write comes from; guard and record. -/
  | shardGuardWrite (via : Via) (guard : Fin 64) (value : List Byte)
  /-- TRACKING_PEAK_READ: where the read comes from; what it asks for. -/
  | trackingPeakRead (via : Via) (access : RegRead)
  /-- CONFIGURATION_WRITE: port; bus mastering enable, power state and binary logarithm of the BAR2 size written. -/
  | configurationWrite (port : Fin 2) (busMaster d3hot : Bool) (bar2 : Nat)
  /-- PCIE_LINK_UP: port. -/
  | pcieLinkUp (port : Fin 2)
  /-- ETH_LINK_LOST: link. -/
  | ethLinkLost (link : Fin 36)
  /-- ENTDAA: the dynamic address assigned. -/
  | entdaa (address : Fin 128)
  /-- POWER_LOSS: input voltage (mV). -/
  | powerLoss (mv : Nat)
  /-- LODESTAR_FAILURE: die of the failing Lodestar. -/
  | lodestarFailure (die : Fin 4)
  deriving DecidableEq, Repr

end Sys2Proof
end

