-- ==== Sys2Proof/Machine/Data.lean ====
section
/-! DEFINITION. Plain operations on data: bit fields, byte order, CRC-32C, tables with sorted keys and values for each die. -/
namespace Sys2Proof.Machine

/-- Bits [lo + len - 1 : lo] of a number (R8). -/
def field (n lo len : Nat) : Nat := (n >>> lo) % 2 ^ len

/-- Bit i of a number. -/
def bit (n i : Nat) : Bool := field n i 1 == 1

/-- 1 for true, 0 for false. -/
def ofBool (b : Bool) : Nat := if b then 1 else 0

/-- The two's complement value of a w-bit number. -/
def toSigned (w n : Nat) : Int := if n % 2 ^ w < 2 ^ (w - 1) then (n % 2 ^ w : Nat) else (n % 2 ^ w : Nat) - (2 ^ w : Nat)

/-- The w-bit two's complement form of an integer. -/
def ofSigned (w : Nat) (i : Int) : Nat := (i % (2 ^ w : Nat)).toNat

/-- The number that bytes form, first byte least significant (R9). -/
def leNat : Bytes → Nat
  | [] => 0
  | b :: bs => b.toNat + 256 * leNat bs

/-- The w bytes of a number, least significant first (R9). -/
def natLe : Nat → Nat → Bytes
  | 0, _ => []
  | w + 1, n => BitVec.ofNat 8 n :: natLe w (n / 256)

/-- A number from bytes, first byte most significant (network order). -/
def beNat (bs : Bytes) : Nat := leNat bs.reverse

/-- The w bytes of a number, most significant first (network order). -/
def natBe (w n : Nat) : Bytes := (natLe w n).reverse

/-- n bytes from offset off; bytes past the end read zero. -/
def slice (bs : Bytes) (off n : Nat) : Bytes :=
  let t := (bs.drop off).take n
  t ++ List.replicate (n - t.length) 0

/-- The little-endian number in n bytes at an offset. -/
def leAt (bs : Bytes) (off n : Nat) : Nat := leNat (slice bs off n)

/-- The bytes with those from offset off on replaced by new; the length is kept. -/
def patch (bs : Bytes) (off : Nat) (new : Bytes) : Bytes :=
  bs.take off ++ new.take (bs.length - off) ++ bs.drop (off + new.length)

/-- Bytes padded with zeros to length n, or cut to it. -/
def padTo (n : Nat) (bs : Bytes) : Bytes := slice bs 0 n

/-- Pieces of n bytes; the last may be shorter. `fuel` bounds their number. -/
def chunksOf {α : Type} (n : Nat) : Nat → List α → List (List α)
  | 0, _ => []
  | _ + 1, [] => []
  | fuel + 1, xs => xs.take n :: chunksOf n fuel (xs.drop n)

/-- One bit of the reflected CRC-32C. -/
def crcBit (c : Nat) : Nat := if c % 2 = 1 then (c / 2) ^^^ 0x82F63B78 else c / 2

/-- One byte of the reflected CRC-32C. -/
def crcByte (c : Nat) (b : Byte) : Nat :=
  crcBit (crcBit (crcBit (crcBit (crcBit (crcBit (crcBit (crcBit (c ^^^ b.toNat))))))))

/-- CRC-32C: polynomial 0x1EDC_6F41 reflected, initial value and final XOR all ones (file 02, after R46). -/
def crc32c (bs : Bytes) : Nat := bs.foldl crcByte 0xFFFFFFFF ^^^ 0xFFFFFFFF

/-- The value of a key, or the default. -/
def tget {α : Type} (d : α) : Tab α → Nat → α
  | [], _ => d
  | (k, v) :: t, key => if key = k then v else tget d t key

/-- The value of a key, if it is listed. -/
def tfind {α : Type} : Tab α → Nat → Option α
  | [], _ => none
  | (k, v) :: t, key => if key = k then some v else tfind t key

/-- The table with a key's value set; keys stay strictly rising. -/
def tset {α : Type} : Tab α → Nat → α → Tab α
  | [], key, v => [(key, v)]
  | (k, w) :: t, key, v =>
    if key < k then (key, v) :: (k, w) :: t
    else if key = k then (key, v) :: t
    else (k, w) :: tset t key v

/-- The table without a key. -/
def terase {α : Type} (t : Tab α) (key : Nat) : Tab α := t.filter (fun p => p.1 != key)

/-- The table with n added to a key's count. -/
def tadd (t : Tab Nat) (key n : Nat) : Tab Nat := tset t key (tget 0 t key + n)

/-- The value of a die. -/
def pget {α : Type} (p : PerDie α) (d : Nat) : α :=
  match d with
  | 0 => p.d0
  | 1 => p.d1
  | 2 => p.d2
  | _ => p.d3

/-- The values with one die's replaced. -/
def pset {α : Type} (p : PerDie α) (d : Nat) (v : α) : PerDie α :=
  match d with
  | 0 => { p with d0 := v }
  | 1 => { p with d1 := v }
  | 2 => { p with d2 := v }
  | _ => { p with d3 := v }

/-- The values of D0 to D3 in order. -/
def plist {α : Type} (p : PerDie α) : List α := [p.d0, p.d1, p.d2, p.d3]

/-- A function applied on every die. -/
def pmap {α β : Type} (f : α → β) (p : PerDie α) : PerDie β := ⟨f p.d0, f p.d1, f p.d2, f p.d3⟩

/-- Numbers from lo up to but not including hi. -/
def rangeFrom (lo hi : Nat) : List Nat := (List.range (hi - lo)).map (· + lo)

/-- The numbers below n whose bit of a mask is set, rising. -/
def maskList (n m : Nat) : List Nat := (List.range n).filter (bit m)

/-- An element added to a list that has no repeats. -/
def addNew {α : Type} [DecidableEq α] (a : α) (l : List α) : List α := if a ∈ l then l else l ++ [a]

/-- The list with the elements that meet p changed. -/
def mapIf {α : Type} (p : α → Bool) (f : α → α) (l : List α) : List α := l.map (fun a => if p a then f a else a)

/-- The bytes of a text. -/
def textBytes (t : String) : Bytes := t.toList.map (fun c => BitVec.ofNat 8 c.toNat)

/-- Offset in BAR0 of a byte of the slot of an index and a subindex (R378). The index counts modulo 2^16 from 0x1000, so one below it names an offset above the slots. -/
def barOffset (index : BitVec 16) (sub : BitVec 8) (at_ : Fin 8) : Nat := (index - 0x1000).toNat * 2048 + sub.toNat * 8 + at_.val

end Sys2Proof.Machine
end

