-- ==== Sys2Proof/Machine/Entries.lean ====
section
/-! DEFINITION. The entries of the Object Dictionary with their types, sizes, access, reset values and ranges, as the entry tables of the chapters give them (R390, R411 and the last section of each chapter). -/
namespace Sys2Proof.Machine

/-- Access codes in the order of R392. -/
inductive Access where
  | const | ro | rw | wo | rwa | rws
  deriving DecidableEq, Repr

/-- Where the value of an entry lives: `plain` in `State.dict`, `long` in `State.longs`, `view` in a field of a unit, `command` nowhere. -/
inductive Store where
  | plain | long | view | command
  deriving DecidableEq, Repr

/-- One row of an entry table: subindices lo to hi of an index. -/
structure Entry where
  index : Nat
  lo : Nat
  hi : Nat
  name : String
  type : Nat
  size : Nat
  access : Access
  store : Store
  /-- reset value of a short entry; 0 where it is a view -/
  reset : Nat
  /-- PERSISTENT (bit 0), PUBLIC (bit 1), I3C (bit 2) -/
  flags : Nat
  min : Nat
  max : Nat
  deriving DecidableEq, Repr

/-- Entry rows 0 to 29. -/
def entries0 : List Entry := [
  ⟨0x1001, 0, 0, "MODULE_SERIAL", 0x18, 8, .const, .view, 0, 6, 0, 18446744073709551615⟩,
  ⟨0x1002, 0, 0, "PART_NUMBER", 0x41, 16, .const, .view, 0, 6, 0, 18446744073709551615⟩,
  ⟨0x1008, 0, 0, "DIRECTORY", 0x40, 0, .ro, .view, 0, 0, 0, 0⟩,
  ⟨0x1009, 0, 0, "DIRECTORY_COUNT", 0x14, 4, .ro, .view, 0, 0, 0, 4294967295⟩,
  ⟨0x1010, 1, 4, "DIE_ID", 0x14, 4, .ro, .view, 0, 0, 0, 4294967295⟩,
  ⟨0x1011, 0, 0, "FEATURE_LEVEL", 0x11, 1, .ro, .view, 0, 0, 0, 255⟩,
  ⟨0x1012, 0, 0, "PAIRING_RESULT", 0x11, 1, .ro, .view, 0, 0, 0, 255⟩,
  ⟨0x1100, 1, 3, "PCI_IDS", 0x12, 2, .const, .view, 0, 0, 0, 65535⟩,
  ⟨0x1101, 1, 2, "LAST_ACCESS_STATUS", 0x14, 4, .ro, .plain, 0, 0, 0, 4294967295⟩,
  ⟨0x1105, 1, 1, "SEG_SELECT", 0x14, 4, .rw, .view, 0, 0, 0, 4294967295⟩,
  ⟨0x1105, 2, 2, "SEG_COMMAND", 0x11, 1, .wo, .command, 0, 0, 0, 255⟩,
  ⟨0x1105, 3, 3, "SEG_LENGTH", 0x14, 4, .ro, .view, 0, 0, 0, 4294967295⟩,
  ⟨0x1105, 4, 4, "SEG_BASE", 0x14, 4, .rw, .plain, 0, 0, 0, 4294967295⟩,
  ⟨0x1106, 1, 1, "SEG_SELECT", 0x14, 4, .rw, .view, 0, 0, 0, 4294967295⟩,
  ⟨0x1106, 2, 2, "SEG_COMMAND", 0x11, 1, .wo, .command, 0, 0, 0, 255⟩,
  ⟨0x1106, 3, 3, "SEG_LENGTH", 0x14, 4, .ro, .view, 0, 0, 0, 4294967295⟩,
  ⟨0x1106, 4, 4, "SEG_BASE", 0x14, 4, .rw, .plain, 0, 0, 0, 4294967295⟩,
  ⟨0x1110, 1, 2, "BAR2_BASE", 0x18, 8, .rw, .plain, 0, 0, 0, 18446744073709551615⟩,
  ⟨0x1121, 1, 1, "MIRROR_ADDR", 0x18, 8, .rw, .plain, 0, 0, 0, 18446744073709551615⟩,
  ⟨0x1121, 2, 2, "MIRROR_PERIOD_SLOTS", 0x12, 2, .rw, .plain, 0, 0, 0, 65535⟩,
  ⟨0x1121, 3, 3, "MIRROR_PORT", 0x11, 1, .rw, .plain, 0, 0, 0, 1⟩,
  ⟨0x1121, 4, 4, "MIRROR_STATUS", 0x11, 1, .ro, .plain, 0, 0, 0, 255⟩,
  ⟨0x1123, 1, 16, "SKYLIGHT_GATES", 0x12, 2, .rw, .plain, 0, 0, 0, 65535⟩,
  ⟨0x1124, 0, 0, "HOST_GATE_INC", 0x12, 2, .wo, .command, 0, 0, 0, 65535⟩,
  ⟨0x1130, 1, 16, "HOST_WINDOW", 0x40, 16, .rwa, .long, 0, 0, 0, 18446744073709551615⟩,
  ⟨0x1140, 1, 1, "MBOX_REQUEST", 0x40, 1232, .wo, .command, 0, 0, 0, 18446744073709551615⟩,
  ⟨0x1140, 2, 2, "MBOX_RESPONSE", 0x40, 1232, .ro, .long, 0, 0, 0, 18446744073709551615⟩,
  ⟨0x1140, 3, 3, "MBOX_STATE", 0x11, 1, .ro, .plain, 0, 0, 0, 255⟩,
  ⟨0x1141, 1, 1, "MBOX_REQUEST", 0x40, 1232, .wo, .command, 0, 0, 0, 18446744073709551615⟩,
  ⟨0x1141, 2, 2, "MBOX_RESPONSE", 0x40, 1232, .ro, .long, 0, 0, 0, 18446744073709551615⟩]

/-- Entry rows 30 to 59. -/
def entries1 : List Entry := [
  ⟨0x1141, 3, 3, "MBOX_STATE", 0x11, 1, .ro, .plain, 0, 0, 0, 255⟩,
  ⟨0x1150, 1, 1, "DP_UDP_PORT", 0x12, 2, .rws, .plain, 49601, 1, 1, 65535⟩,
  ⟨0x1150, 2, 2, "MGMT_MAC", 0x40, 6, .const, .view, 0, 0, 0, 281474976710655⟩,
  ⟨0x1151, 1, 1, "PLCA_NODE_ID", 0x11, 1, .rws, .plain, 255, 1, 0, 255⟩,
  ⟨0x1151, 2, 2, "PLCA_NODE_COUNT", 0x11, 1, .rws, .plain, 8, 1, 1, 255⟩,
  ⟨0x1151, 3, 3, "PLCA_TO_TIMER", 0x11, 1, .rws, .plain, 32, 1, 1, 255⟩,
  ⟨0x1151, 4, 4, "PLCA_BURST_COUNT", 0x11, 1, .rws, .plain, 0, 1, 0, 3⟩,
  ⟨0x1200, 0, 0, "IDENTITY_PUBLIC_KEY", 0x40, 32, .const, .view, 0, 6, 0, 18446744073709551615⟩,
  ⟨0x1201, 0, 0, "CERT_CHAIN", 0x40, 4096, .const, .view, 0, 6, 0, 18446744073709551615⟩,
  ⟨0x1202, 1, 2, "FW_KEY_DIGEST", 0x40, 64, .const, .view, 0, 0, 0, 18446744073709551615⟩,
  ⟨0x1203, 0, 0, "SVN_FLOOR", 0x11, 1, .rws, .view, 0, 0, 0, 255⟩,
  ⟨0x1204, 0, 0, "FW_KEY0_REVOKED", 0x01, 1, .rws, .view, 0, 0, 0, 1⟩,
  ⟨0x1210, 1, 8, "OPERATOR_KEY", 0x40, 40, .rws, .long, 0, 1, 0, 18446744073709551615⟩,
  ⟨0x1211, 1, 8, "REPLAY_COUNTER", 0x18, 8, .ro, .view, 0, 2, 0, 18446744073709551615⟩,
  ⟨0x1212, 0, 0, "SESSIONS_OPEN", 0x11, 1, .ro, .view, 0, 0, 0, 255⟩,
  ⟨0x1220, 0, 0, "ATTEST_NONCE", 0x40, 32, .rw, .long, 0, 0, 0, 18446744073709551615⟩,
  ⟨0x1221, 0, 0, "ATTEST_REPORT", 0x40, 704, .ro, .long, 0, 0, 0, 18446744073709551615⟩,
  ⟨0x1230, 1, 9, "MEASUREMENT", 0x40, 64, .ro, .long, 0, 6, 0, 18446744073709551615⟩,
  ⟨0x1300, 1, 1, "RUNNING_SLOT", 0x11, 1, .ro, .view, 0, 0, 0, 255⟩,
  ⟨0x1300, 2, 2, "PREFERRED_SLOT", 0x11, 1, .ro, .view, 0, 0, 0, 255⟩,
  ⟨0x1300, 3, 3, "TRIAL_SLOT", 0x11, 1, .ro, .view, 0, 0, 0, 255⟩,
  ⟨0x1301, 1, 2, "FW_VERIFY_RESULT", 0x11, 1, .ro, .view, 0, 0, 0, 255⟩,
  ⟨0x1302, 1, 2, "FW_VERSION", 0x14, 4, .ro, .view, 0, 0, 0, 4294967295⟩,
  ⟨0x1303, 0, 0, "FW_CONTROL", 0x11, 1, .wo, .command, 0, 0, 0, 255⟩,
  ⟨0x1304, 1, 1, "FW_CHUNK_OFFSET", 0x14, 4, .rw, .plain, 0, 0, 0, 4294967295⟩,
  ⟨0x1304, 2, 2, "FW_CHUNK", 0x40, 1024, .wo, .command, 0, 0, 0, 18446744073709551615⟩,
  ⟨0x1305, 0, 0, "FW_STATE", 0x11, 1, .ro, .view, 0, 0, 0, 255⟩,
  ⟨0x1310, 1, 1, "START_PHASE", 0x11, 1, .ro, .view, 0, 0, 0, 255⟩,
  ⟨0x1310, 2, 2, "LAST_FAILED_PHASE", 0x11, 1, .ro, .view, 0, 0, 0, 255⟩,
  ⟨0x1310, 3, 3, "FAILED_STARTS", 0x11, 1, .ro, .view, 0, 0, 0, 255⟩]

/-- Entry rows 60 to 89. The tables of R74 give no sizes: UNSIGNED32 positions and the counts of slips and conjunctions, 0x2104:01, :02 and :04 among them, take 4 bytes (DEDUCED, logs 37 and 91). -/
def entries2 : List Entry := [
  ⟨0x1310, 4, 4, "BOOT_COUNT", 0x14, 4, .ro, .view, 0, 0, 0, 4294967295⟩,
  ⟨0x1312, 1, 1, "LEADER_DIE", 0x11, 1, .ro, .view, 0, 0, 0, 255⟩,
  ⟨0x1312, 2, 2, "STANDBY_READY", 0x01, 1, .ro, .view, 0, 0, 0, 1⟩,
  ⟨0x1320, 0, 0, "DIM_REASON", 0x11, 1, .ro, .view, 0, 0, 0, 255⟩,
  ⟨0x1321, 0, 0, "DIM_EXIT", 0x11, 1, .wo, .command, 0, 0, 0, 255⟩,
  ⟨0x2001, 0, 0, "VETO_GATE", 0x12, 2, .rwa, .plain, 0, 0, 0, 4095⟩,
  ⟨0x2003, 0, 0, "FENCE_DRAIN", 0x01, 1, .ro, .view, 0, 0, 0, 1⟩,
  ⟨0x2010, 0, 0, "SHARD_GUARD_COUNT", 0x11, 1, .const, .plain, 64, 0, 0, 255⟩,
  ⟨0x2010, 1, 64, "SHARD_GUARD", 0x40, 24, .rw, .long, 0, 0, 0, 18446744073709551615⟩,
  ⟨0x2100, 0, 0, "SDT_NOW", 0x18, 8, .ro, .view, 0, 0, 0, 18446744073709551615⟩,
  ⟨0x2101, 0, 0, "LOCK_STATE", 0x11, 1, .ro, .view, 0, 0, 0, 255⟩,
  ⟨0x2102, 0, 0, "TIME_ROOT_RANK", 0x12, 2, .rwa, .plain, 0, 0, 0, 511⟩,
  ⟨0x2104, 1, 1, "CONJUNCTIONS_TAKEN", 0x14, 4, .ro, .plain, 0, 0, 0, 4294967295⟩,
  ⟨0x2104, 2, 2, "CONJUNCTIONS_REQUESTED", 0x14, 4, .ro, .plain, 0, 0, 0, 4294967295⟩,
  ⟨0x2104, 3, 3, "SLIP_COUNT", 0x14, 4, .ro, .plain, 0, 0, 0, 4294967295⟩,
  ⟨0x2104, 4, 4, "LAST_SLIP_KEY", 0x14, 4, .ro, .plain, 0, 0, 0, 4294967295⟩,
  ⟨0x2110, 1, 1, "BASE", 0x18, 8, .rwa, .plain, 0, 0, 0, 18446744073709551615⟩,
  ⟨0x2110, 2, 2, "SIZE", 0x18, 8, .rwa, .plain, 0, 0, 0, 18446744073709551615⟩,
  ⟨0x2111, 1, 1, "BASE", 0x18, 8, .rwa, .plain, 0, 0, 0, 18446744073709551615⟩,
  ⟨0x2111, 2, 2, "SIZE", 0x18, 8, .rwa, .plain, 0, 0, 0, 18446744073709551615⟩,
  ⟨0x2112, 0, 0, "ALMANAC_CONTROL", 0x11, 1, .wo, .command, 0, 0, 0, 255⟩,
  ⟨0x2113, 0, 0, "ALMANAC_STATE", 0x11, 1, .ro, .view, 0, 0, 0, 255⟩,
  ⟨0x2113, 1, 1, "STANDBY_STATE", 0x11, 1, .ro, .view, 0, 0, 0, 255⟩,
  ⟨0x2114, 0, 0, "START_SDT", 0x18, 8, .rwa, .plain, 0, 0, 0, 18446744073709551615⟩,
  ⟨0x2115, 0, 0, "PAUSE_REQUEST", 0x01, 1, .rw, .plain, 0, 0, 0, 1⟩,
  ⟨0x2116, 0, 0, "RESUME_SDT", 0x18, 8, .rw, .plain, 0, 0, 0, 18446744073709551615⟩,
  ⟨0x2117, 0, 0, "SWAP_REQUEST", 0x01, 1, .rw, .plain, 0, 0, 0, 1⟩,
  ⟨0x2118, 1, 1, "ITERATION", 0x14, 4, .ro, .view, 0, 0, 0, 4294967295⟩,
  ⟨0x2118, 2, 2, "ALMANAC_SLOT", 0x14, 4, .ro, .view, 0, 0, 0, 4294967295⟩,
  ⟨0x2118, 3, 3, "CONJ_INDEX", 0x14, 4, .ro, .view, 0, 0, 0, 4294967295⟩]

/-- Entry rows 90 to 119. -/
def entries3 : List Entry := [
  ⟨0x2118, 4, 4, "STEP", 0x14, 4, .ro, .view, 0, 0, 0, 4294967295⟩,
  ⟨0x2118, 5, 5, "ACTIVE_BUFFER", 0x11, 1, .ro, .view, 0, 0, 0, 255⟩,
  ⟨0x2120, 0, 0, "LAST_AGREEMENT", 0x40, 128, .ro, .view, 0, 0, 0, 18446744073709551615⟩,
  ⟨0x2121, 0, 0, "STOP_REASON", 0x11, 1, .ro, .plain, 0, 0, 0, 255⟩,
  ⟨0x2122, 1, 36, "BEACON_ASYM_TRIM", 0x22, 2, .rw, .plain, 0, 0, 0, 65535⟩,
  ⟨0x2123, 0, 0, "TIME_OFFSET", 0x28, 8, .ro, .view, 0, 0, 0, 18446744073709551615⟩,
  ⟨0x2124, 0, 0, "GATE_TABLE", 0x40, 32768, .ro, .view, 0, 0, 0, 18446744073709551615⟩,
  ⟨0x2125, 0, 0, "TIME_PARENT_LINK", 0x11, 1, .ro, .view, 255, 0, 0, 255⟩,
  ⟨0x2126, 1, 1, "LATE_TIME_FRAMES", 0x18, 8, .ro, .plain, 0, 0, 0, 18446744073709551615⟩,
  ⟨0x2126, 2, 2, "ALMANAC_WRITE_REFUSED", 0x18, 8, .ro, .plain, 0, 0, 0, 18446744073709551615⟩,
  ⟨0x2126, 3, 3, "SWAP_NOT_READY", 0x18, 8, .ro, .plain, 0, 0, 0, 18446744073709551615⟩,
  ⟨0x2126, 4, 4, "DISCARDED_TRANSITS", 0x18, 8, .ro, .plain, 0, 0, 0, 18446744073709551615⟩,
  ⟨0x2127, 0, 0, "STAGE_REJECT_REASON", 0x11, 1, .ro, .plain, 0, 0, 0, 255⟩,
  ⟨0x2201, 1, 4, "CORE_ENABLE_MAP", 0x40, 13, .const, .view, 0, 0, 0, 18446744073709551615⟩,
  ⟨0x2202, 1, 4, "CORE_LOGICAL_MAP", 0x40, 96, .ro, .view, 0, 0, 0, 18446744073709551615⟩,
  ⟨0x2203, 1, 4, "CORE_RETIRE_REQUEST", 0x11, 1, .rws, .view, 0, 0, 0, 95⟩,
  ⟨0x2204, 1, 4, "SPARES_REMAINING", 0x11, 1, .ro, .view, 0, 0, 0, 255⟩,
  ⟨0x2210, 0, 0, "CORE_STALL_COUNTERS", 0x40, 24576, .ro, .view, 0, 0, 0, 18446744073709551615⟩,
  ⟨0x2211, 1, 4, "SCRATCH_CONFLICTS", 0x18, 8, .ro, .plain, 0, 0, 0, 18446744073709551615⟩,
  ⟨0x2212, 1, 4, "IMAGE_FETCHES", 0x18, 8, .ro, .plain, 0, 0, 0, 18446744073709551615⟩,
  ⟨0x2220, 1, 4, "PARITY_UNCOVERED", 0x18, 8, .ro, .plain, 0, 0, 0, 18446744073709551615⟩,
  ⟨0x2221, 1, 4, "PARITY_RETRIES", 0x18, 8, .ro, .plain, 0, 0, 0, 18446744073709551615⟩,
  ⟨0x2222, 1, 4, "PARITY_FAULTS", 0x18, 8, .ro, .plain, 0, 0, 0, 18446744073709551615⟩,
  ⟨0x2223, 0, 0, "PARITY_RETRY_LIMIT", 0x11, 1, .rwa, .plain, 2, 0, 0, 7⟩,
  ⟨0x2225, 1, 4, "ARRAY_STOPS", 0x18, 8, .ro, .plain, 0, 0, 0, 18446744073709551615⟩,
  ⟨0x2230, 1, 4, "GATHER_CYCLES", 0x18, 8, .ro, .plain, 0, 0, 0, 18446744073709551615⟩,
  ⟨0x2301, 0, 0, "JOB_SEED", 0x18, 8, .rwa, .plain, 0, 0, 0, 18446744073709551615⟩,
  ⟨0x2302, 1, 1, "HALVE_AFTER_STEPS", 0x12, 2, .rwa, .plain, 1024, 0, 0, 65535⟩,
  ⟨0x2302, 2, 2, "NF_DRAIN_VOTE", 0x01, 1, .rwa, .plain, 1, 0, 0, 1⟩,
  ⟨0x2302, 3, 3, "NF_REDUCE_VOTE", 0x01, 1, .rwa, .plain, 1, 0, 0, 1⟩]

/-- Entry rows 120 to 149. -/
def entries4 : List Entry := [
  ⟨0x2302, 4, 4, "NF_GATE", 0x12, 2, .rwa, .plain, 0, 0, 0, 4095⟩,
  ⟨0x2303, 1, 1, "UWR_LOW", 0x34, 4, .rwa, .plain, 0, 0, 0, 4294967295⟩,
  ⟨0x2303, 2, 2, "UWR_HIGH", 0x34, 4, .rwa, .plain, 1028443341, 0, 0, 4294967295⟩,
  ⟨0x2401, 0, 0, "FREEZE_TABLE_COUNT", 0x11, 1, .rwa, .plain, 0, 0, 0, 255⟩,
  ⟨0x2401, 1, 255, "FREEZE_TABLE", 0x14, 4, .rwa, .plain, 0, 0, 0, 4294967295⟩,
  ⟨0x2501, 0, 0, "SLATE_INTERLEAVE", 0x40, 36, .rwa, .long, 0, 0, 0, 18446744073709551615⟩,
  ⟨0x2502, 0, 0, "EPOCH_FAULT_EN", 0x01, 1, .rwa, .plain, 0, 0, 0, 1⟩,
  ⟨0x2503, 1, 1, "PREFETCH_ENABLE", 0x01, 1, .rw, .plain, 1, 0, 0, 1⟩,
  ⟨0x2503, 2, 2, "PREFETCH_MAX_DISTANCE", 0x11, 1, .rw, .plain, 32, 0, 1, 64⟩,
  ⟨0x2504, 1, 4, "PREFETCH_DISTANCE", 0x11, 1, .ro, .plain, 32, 0, 0, 255⟩,
  ⟨0x2505, 1, 1, "SCRUB_MIN_LEVEL_SLATE", 0x11, 1, .rw, .plain, 0, 0, 0, 3⟩,
  ⟨0x2505, 2, 2, "SCRUB_MIN_LEVEL_THATCH", 0x11, 1, .rw, .plain, 0, 0, 0, 2⟩,
  ⟨0x2506, 1, 4, "SCRUB_LEVEL_SLATE", 0x11, 1, .ro, .plain, 0, 0, 0, 255⟩,
  ⟨0x2507, 1, 4, "SCRUB_LEVEL_THATCH", 0x11, 1, .ro, .plain, 0, 0, 0, 255⟩,
  ⟨0x2600, 0, 0, "ASID_TABLE_BASE", 0x18, 8, .rwa, .plain, 0, 0, 0, 18446744073709551615⟩,
  ⟨0x2610, 1, 1, "INVAL_VA", 0x18, 8, .rw, .plain, 0, 0, 0, 18446744073709551615⟩,
  ⟨0x2610, 2, 2, "INVAL_PAGES", 0x14, 4, .rw, .plain, 0, 0, 0, 4294967295⟩,
  ⟨0x2610, 3, 3, "INVAL_COMMAND", 0x11, 1, .wo, .command, 0, 0, 0, 255⟩,
  ⟨0x2610, 4, 4, "INVAL_ASID", 0x12, 2, .rw, .plain, 0, 0, 0, 65535⟩,
  ⟨0x2610, 5, 5, "INVAL_STATE", 0x11, 1, .ro, .view, 0, 0, 0, 255⟩,
  ⟨0x2620, 0, 0, "PARK_RING_BASE", 0x18, 8, .rwa, .plain, 0, 0, 0, 18446744073709551615⟩,
  ⟨0x2621, 0, 0, "PARK_RELEASE", 0x18, 8, .wo, .command, 0, 0, 0, 18446744073709551615⟩,
  ⟨0x2622, 0, 0, "PARK_TIMEOUT_SLOTS", 0x14, 4, .rw, .plain, 781250, 0, 0, 4294967295⟩,
  ⟨0x2640, 0, 0, "PREEMPT_CONTROL", 0x11, 1, .wo, .command, 0, 0, 0, 255⟩,
  ⟨0x2641, 0, 0, "PREEMPT_STATE", 0x11, 1, .ro, .view, 0, 0, 0, 255⟩,
  ⟨0x2642, 0, 0, "SAVE_AREA_BASE", 0x18, 8, .rwa, .plain, 0, 0, 0, 18446744073709551615⟩,
  ⟨0x2700, 1, 1, "DOMAIN_X", 0x12, 2, .rwa, .plain, 1, 0, 1, 8⟩,
  ⟨0x2700, 2, 2, "DOMAIN_Y", 0x12, 2, .rwa, .plain, 1, 0, 1, 8⟩,
  ⟨0x2700, 3, 3, "DOMAIN_Z", 0x12, 2, .rwa, .plain, 1, 0, 1, 8⟩,
  ⟨0x2700, 4, 4, "OWN_RANK", 0x12, 2, .rwa, .plain, 0, 0, 0, 65535⟩]

/-- Entry rows 150 to 179. -/
def entries5 : List Entry := [
  ⟨0x2700, 5, 5, "DOMAIN_ID", 0x14, 4, .rwa, .plain, 0, 0, 0, 4294967295⟩,
  ⟨0x2701, 0, 0, "INCARNATION", 0x12, 2, .rwa, .plain, 0, 0, 0, 65535⟩,
  ⟨0x2702, 0, 0, "FENCE_STATE", 0x01, 1, .ro, .view, 0, 0, 0, 1⟩,
  ⟨0x2703, 0, 0, "LAYOUT_GEN_FLOOR", 0x12, 2, .rw, .plain, 0, 0, 0, 65535⟩,
  ⟨0x2710, 1, 36, "LINK_STATE", 0x11, 1, .ro, .view, 0, 0, 0, 255⟩,
  ⟨0x2711, 1, 36, "LINK_WIRING", 0x18, 8, .ro, .view, 0, 0, 0, 18446744073709551615⟩,
  ⟨0x2720, 1, 36, "PORT_MAP", 0x14, 4, .ro, .plain, 0, 0, 0, 4294967295⟩,
  ⟨0x2721, 1, 36, "PORT_MAP_STAGED", 0x14, 4, .rw, .plain, 0, 0, 0, 4294967295⟩,
  ⟨0x2722, 1, 36, "PEER_INCARNATION", 0x12, 2, .rw, .plain, 0, 0, 0, 65535⟩,
  ⟨0x2723, 0, 0, "RANK_INCARNATIONS", 0x40, 1024, .rw, .long, 0, 0, 0, 18446744073709551615⟩,
  ⟨0x2730, 0, 0, "ROUTE_TABLE", 0x40, 512, .ro, .long, 0, 0, 0, 18446744073709551615⟩,
  ⟨0x2731, 0, 0, "ROUTE_TABLE_STAGED", 0x40, 512, .rw, .long, 0, 0, 0, 18446744073709551615⟩,
  ⟨0x2732, 1, 16, "ROUTE_GROUP", 0x18, 8, .ro, .plain, 0, 0, 0, 18446744073709551615⟩,
  ⟨0x2733, 1, 16, "ROUTE_GROUP_STAGED", 0x18, 8, .rw, .plain, 0, 0, 0, 18446744073709551615⟩,
  ⟨0x2740, 0, 0, "FABRIC_COMMIT", 0x11, 1, .wo, .command, 0, 0, 0, 255⟩,
  ⟨0x2741, 0, 0, "COMMIT_ON_SWAP", 0x01, 1, .rw, .plain, 0, 0, 0, 1⟩,
  ⟨0x2750, 1, 4, "ETH_MAC", 0x40, 6, .ro, .view, 0, 0, 0, 281474976710655⟩,
  ⟨0x2751, 1, 4, "ETH_LOCAL_IPV6", 0x40, 16, .rwa, .long, 0, 0, 0, 18446744073709551615⟩,
  ⟨0x2752, 1, 4, "ETH_PEER_IPV6", 0x40, 16, .rwa, .long, 0, 0, 0, 18446744073709551615⟩,
  ⟨0x2753, 1, 4, "ETH_NEXT_HOP_MAC", 0x40, 6, .rwa, .plain, 0, 0, 0, 281474976710655⟩,
  ⟨0x2754, 1, 4, "ETH_VLAN", 0x12, 2, .rwa, .plain, 0, 0, 0, 65535⟩,
  ⟨0x2755, 1, 4, "ETH_PEER_DOMAIN", 0x14, 4, .rwa, .plain, 0, 0, 0, 4294967295⟩,
  ⟨0x2756, 0, 0, "ETH_UDP_PORT", 0x12, 2, .rwa, .plain, 49152, 0, 0, 65535⟩,
  ⟨0x2757, 0, 0, "ETH_DSCP", 0x11, 1, .rwa, .plain, 0, 0, 0, 255⟩,
  ⟨0x2758, 0, 0, "ETH_RTO_US", 0x14, 4, .rw, .plain, 200, 0, 0, 4294967295⟩,
  ⟨0x2760, 0, 0, "RETRAIN_THRESHOLD", 0x14, 4, .rw, .plain, 1000000, 0, 0, 4294967295⟩,
  ⟨0x2800, 0, 0, "INPUT_VOLTAGE", 0x12, 2, .ro, .plain, 0, 0, 0, 65535⟩,
  ⟨0x2801, 0, 0, "INPUT_CURRENT", 0x14, 4, .ro, .plain, 0, 0, 0, 4294967295⟩,
  ⟨0x2802, 0, 0, "INPUT_POWER", 0x12, 2, .ro, .plain, 0, 0, 0, 65535⟩,
  ⟨0x2803, 0, 0, "SUPPLY_STATE", 0x11, 1, .ro, .view, 0, 0, 0, 255⟩]

/-- Entry rows 180 to 209. -/
def entries6 : List Entry := [
  ⟨0x2810, 1, 1, "POWER_CAP", 0x12, 2, .rw, .plain, 6400, 1, 1200, 6400⟩,
  ⟨0x2810, 2, 2, "POWER_CEILING", 0x12, 2, .ro, .plain, 3200, 0, 0, 65535⟩,
  ⟨0x2810, 3, 3, "CEILING_LIMITER", 0x11, 1, .ro, .plain, 4, 0, 0, 255⟩,
  ⟨0x2811, 1, 1, "THROTTLE_STEP", 0x11, 1, .ro, .plain, 0, 0, 0, 255⟩,
  ⟨0x2811, 2, 2, "THROTTLE_FLOOR", 0x11, 1, .rw, .plain, 0, 0, 0, 7⟩,
  ⟨0x2811, 3, 3, "THERMAL_DEMAND", 0x11, 1, .ro, .plain, 0, 0, 0, 255⟩,
  ⟨0x2811, 4, 4, "POWER_DEMAND", 0x11, 1, .ro, .plain, 0, 0, 0, 255⟩,
  ⟨0x2811, 5, 5, "SUPPLY_DEMAND", 0x11, 1, .ro, .view, 0, 0, 0, 255⟩,
  ⟨0x2811, 6, 6, "FLOOR_DEMAND", 0x11, 1, .ro, .view, 0, 0, 0, 255⟩,
  ⟨0x2820, 1, 1, "INLET_A", 0x22, 2, .ro, .plain, 0, 0, 0, 65535⟩,
  ⟨0x2820, 2, 2, "INLET_B", 0x22, 2, .ro, .plain, 0, 0, 0, 65535⟩,
  ⟨0x2820, 3, 3, "OUTLET_A", 0x22, 2, .ro, .plain, 0, 0, 0, 65535⟩,
  ⟨0x2820, 4, 4, "OUTLET_B", 0x22, 2, .ro, .plain, 0, 0, 0, 65535⟩,
  ⟨0x2821, 0, 0, "COOLANT_FLOW", 0x12, 2, .ro, .plain, 0, 0, 0, 65535⟩,
  ⟨0x2822, 0, 0, "COOLANT_CV", 0x12, 2, .rw, .plain, 4180, 1, 3000, 4300⟩,
  ⟨0x2830, 1, 4, "TJ_MAX", 0x22, 2, .ro, .plain, 0, 0, 0, 65535⟩,
  ⟨0x2840, 1, 4, "GUARD_BAND", 0x11, 1, .ro, .plain, 20, 1, 0, 255⟩,
  ⟨0x2841, 1, 4, "AGING_MARGIN", 0x22, 2, .ro, .plain, 0, 0, 0, 65535⟩,
  ⟨0x2842, 1, 4, "VDD_CORE_SETPOINT", 0x12, 2, .ro, .view, 0, 0, 0, 65535⟩,
  ⟨0x2850, 0, 0, "FLASH_WEAR_MAX", 0x14, 4, .ro, .plain, 0, 0, 0, 4294967295⟩,
  ⟨0x2900, 1, 1, "RESET_REQUEST", 0x11, 1, .wo, .command, 0, 0, 0, 255⟩,
  ⟨0x2900, 2, 2, "RESET_FORCE", 0x01, 1, .rws, .command, 0, 0, 0, 1⟩,
  ⟨0x2901, 1, 1, "LAST_RESET_CAUSE", 0x11, 1, .ro, .view, 0, 1, 0, 255⟩,
  ⟨0x2901, 2, 2, "PRIOR_RESET_CAUSE", 0x11, 1, .ro, .view, 0, 1, 0, 255⟩,
  ⟨0x2902, 0, 0, "REF_SOURCE", 0x11, 1, .ro, .view, 0, 0, 0, 255⟩,
  ⟨0x2903, 1, 4, "ROOT_PLL_STATE", 0x11, 1, .ro, .view, 0, 0, 0, 255⟩,
  ⟨0x2910, 1, 4, "OVERRUN_CLASSES", 0x14, 4, .ro, .view, 0, 0, 0, 4294967295⟩,
  ⟨0x2911, 0, 0, "CROSSING_TABLE", 0x40, 0, .ro, .view, 0, 0, 0, 0⟩,
  ⟨0x2912, 0, 0, "OVERRUN_CLEAR", 0x11, 1, .wo, .command, 0, 0, 0, 255⟩,
  ⟨0x3000, 1, 1, "POWER_ON_SECONDS", 0x18, 8, .ro, .plain, 0, 1, 0, 18446744073709551615⟩,
  ⟨0x3000, 2, 2, "PACKAGE_RESETS", 0x18, 8, .ro, .plain, 0, 1, 0, 18446744073709551615⟩,
  ⟨0x3001, 1, 4, "ARRAY_ROWS", 0x18, 8, .ro, .plain, 0, 0, 0, 18446744073709551615⟩,
  ⟨0x3002, 1, 4, "ARRAY_BUSY_CYCLES", 0x18, 8, .ro, .plain, 0, 0, 0, 18446744073709551615⟩]

/-- Entry rows 210 to 239. -/
def entries7 : List Entry := [
  ⟨0x3003, 1, 4, "VECTOR_ISSUE_CYCLES", 0x18, 8, .ro, .plain, 0, 0, 0, 18446744073709551615⟩,
  ⟨0x3010, 1, 4, "SEAM_RIDGE_REPLAYS", 0x18, 8, .ro, .plain, 0, 0, 0, 18446744073709551615⟩,
  ⟨0x3011, 1, 4, "SEAM_RIDGE_MEM_FLITS", 0x18, 8, .ro, .plain, 0, 0, 0, 18446744073709551615⟩,
  ⟨0x3012, 1, 4, "SEAM_RIDGE_RAFT_FLITS", 0x18, 8, .ro, .plain, 0, 0, 0, 18446744073709551615⟩,
  ⟨0x3020, 1, 1, "VETO_VOTES", 0x18, 8, .ro, .plain, 0, 0, 0, 18446744073709551615⟩,
  ⟨0x3020, 2, 2, "STAMP_WRITES_REFUSED", 0x18, 8, .ro, .plain, 0, 0, 0, 18446744073709551615⟩,
  ⟨0x3020, 3, 3, "GUARDED_WRITES", 0x18, 8, .ro, .plain, 0, 0, 0, 18446744073709551615⟩,
  ⟨0x3030, 1, 1, "TELEMETRY_RING_BASE", 0x18, 8, .rwa, .plain, 0, 0, 0, 18446744073709551615⟩,
  ⟨0x3030, 2, 2, "TELEMETRY_RING_SIZE", 0x12, 2, .rwa, .plain, 0, 0, 0, 65535⟩,
  ⟨0x3030, 3, 3, "TELEMETRY_PERIOD", 0x12, 2, .rwa, .plain, 64, 0, 1, 65535⟩,
  ⟨0x3030, 4, 4, "TELEMETRY_GROUPS", 0x11, 1, .rwa, .plain, 48, 0, 0, 255⟩,
  ⟨0x3030, 5, 5, "TELEMETRY_WRITE_OFFSET", 0x14, 4, .ro, .plain, 0, 0, 0, 4294967295⟩,
  ⟨0x3031, 0, 0, "TELEMETRY_DROPPED", 0x18, 8, .ro, .plain, 0, 0, 0, 18446744073709551615⟩,
  ⟨0x3100, 1, 4, "DUSK_DEFERRALS", 0x18, 8, .ro, .plain, 0, 0, 0, 18446744073709551615⟩,
  ⟨0x3110, 1, 2, "BAR2_REFUSED", 0x18, 8, .ro, .plain, 0, 0, 0, 18446744073709551615⟩,
  ⟨0x3110, 3, 3, "MIRROR_SUSPENDS", 0x18, 8, .ro, .plain, 0, 0, 0, 18446744073709551615⟩,
  ⟨0x3120, 1, 1, "DP_REQUESTS", 0x18, 8, .ro, .plain, 0, 0, 0, 18446744073709551615⟩,
  ⟨0x3120, 2, 2, "DP_AUTH_FAILURES", 0x18, 8, .ro, .plain, 0, 0, 0, 18446744073709551615⟩,
  ⟨0x3120, 3, 3, "DP_DROPPED", 0x18, 8, .ro, .plain, 0, 0, 0, 18446744073709551615⟩,
  ⟨0x3300, 1, 4, "NONFINITE_EVENTS", 0x18, 8, .ro, .plain, 0, 0, 0, 18446744073709551615⟩,
  ⟨0x3301, 1, 1, "SKIPPED_STEPS", 0x14, 4, .ro, .plain, 0, 0, 0, 4294967295⟩,
  ⟨0x3301, 2, 2, "LAST_SKIPPED_STEP", 0x14, 4, .ro, .plain, 4294967295, 0, 0, 4294967295⟩,
  ⟨0x3301, 3, 3, "NF_VOTES_REDUNDANT", 0x14, 4, .ro, .plain, 0, 0, 0, 4294967295⟩,
  ⟨0x3302, 1, 1, "SCALES_DOUBLED", 0x18, 8, .ro, .plain, 0, 0, 0, 18446744073709551615⟩,
  ⟨0x3302, 2, 2, "SCALES_HALVED", 0x18, 8, .ro, .plain, 0, 0, 0, 18446744073709551615⟩,
  ⟨0x3302, 3, 3, "SCALES_AT_LIMIT", 0x18, 8, .ro, .plain, 0, 0, 0, 18446744073709551615⟩,
  ⟨0x3302, 4, 4, "MASKED_SATURATION_BLOCKS", 0x18, 8, .ro, .plain, 0, 0, 0, 18446744073709551615⟩,
  ⟨0x3302, 5, 5, "NAN_SCALE_BLOCKS", 0x18, 8, .ro, .plain, 0, 0, 0, 18446744073709551615⟩,
  ⟨0x3303, 0, 0, "UWR_ALERTS", 0x18, 8, .ro, .plain, 0, 0, 0, 18446744073709551615⟩]

/-- Entry rows 240 to 269. -/
def entries8 : List Entry := [
  ⟨0x3305, 1, 4, "VECTOR_INVALID_LANES", 0x18, 8, .ro, .plain, 0, 0, 0, 18446744073709551615⟩,
  ⟨0x3400, 1, 4, "UPDATE_ELEMENTS", 0x18, 8, .ro, .plain, 0, 0, 0, 18446744073709551615⟩,
  ⟨0x3401, 1, 4, "FROZEN_REFUSALS", 0x18, 8, .ro, .plain, 0, 0, 0, 18446744073709551615⟩,
  ⟨0x3402, 1, 1, "COMMITS", 0x18, 8, .ro, .plain, 0, 0, 0, 18446744073709551615⟩,
  ⟨0x3402, 2, 2, "COMMITS_DEFERRED", 0x18, 8, .ro, .plain, 0, 0, 0, 18446744073709551615⟩,
  ⟨0x3402, 3, 3, "COMMITS_SKIPPED", 0x18, 8, .ro, .plain, 0, 0, 0, 18446744073709551615⟩,
  ⟨0x3402, 4, 4, "ALREADY_COMMITTED", 0x18, 8, .ro, .plain, 0, 0, 0, 18446744073709551615⟩,
  ⟨0x3402, 5, 5, "RECORDS_DISCARDED", 0x18, 8, .ro, .plain, 0, 0, 0, 18446744073709551615⟩,
  ⟨0x3403, 1, 4, "LAZY_ROWS", 0x18, 8, .ro, .plain, 0, 0, 0, 18446744073709551615⟩,
  ⟨0x3500, 1, 4, "LOFT_HITS", 0x18, 8, .ro, .plain, 0, 0, 0, 18446744073709551615⟩,
  ⟨0x3501, 1, 4, "LOFT_MISSES", 0x18, 8, .ro, .plain, 0, 0, 0, 18446744073709551615⟩,
  ⟨0x3502, 1, 4, "EAVES_HITS", 0x18, 8, .ro, .plain, 0, 0, 0, 18446744073709551615⟩,
  ⟨0x3503, 1, 4, "EAVES_FILLS", 0x18, 8, .ro, .plain, 0, 0, 0, 18446744073709551615⟩,
  ⟨0x3504, 1, 4, "EPOCH_VIOLATIONS", 0x18, 8, .ro, .plain, 0, 0, 0, 18446744073709551615⟩,
  ⟨0x3505, 1, 4, "PF_ISSUED", 0x18, 8, .ro, .plain, 0, 0, 0, 18446744073709551615⟩,
  ⟨0x3506, 1, 4, "PF_USEFUL", 0x18, 8, .ro, .plain, 0, 0, 0, 18446744073709551615⟩,
  ⟨0x3507, 1, 4, "PF_LATE", 0x18, 8, .ro, .plain, 0, 0, 0, 18446744073709551615⟩,
  ⟨0x3508, 1, 4, "PF_UNUSED", 0x18, 8, .ro, .plain, 0, 0, 0, 18446744073709551615⟩,
  ⟨0x3509, 1, 4, "PF_STOPPED_AT_PAGE", 0x18, 8, .ro, .plain, 0, 0, 0, 18446744073709551615⟩,
  ⟨0x350A, 1, 4, "PF_DROPPED_BUSY", 0x18, 8, .ro, .plain, 0, 0, 0, 18446744073709551615⟩,
  ⟨0x350B, 1, 12, "ECC_CORRECTED", 0x18, 8, .ro, .plain, 0, 0, 0, 18446744073709551615⟩,
  ⟨0x350C, 1, 12, "ECC_UNCORRECTABLE", 0x18, 8, .ro, .plain, 0, 0, 0, 18446744073709551615⟩,
  ⟨0x350D, 1, 8, "SCRUB_PASSES", 0x18, 8, .ro, .plain, 0, 0, 0, 18446744073709551615⟩,
  ⟨0x350E, 1, 4, "IRREGULAR_SECTORS", 0x18, 8, .ro, .plain, 0, 0, 0, 18446744073709551615⟩,
  ⟨0x350F, 1, 4, "EAVES_FILLS_DROPPED", 0x18, 8, .ro, .plain, 0, 0, 0, 18446744073709551615⟩,
  ⟨0x3600, 1, 4, "TRACKING_PEAK", 0x14, 4, .ro, .plain, 0, 0, 0, 4294967295⟩,
  ⟨0x3601, 1, 1, "PARKS_OUTSTANDING", 0x12, 2, .ro, .view, 0, 0, 0, 65535⟩,
  ⟨0x3601, 2, 2, "PARK_RING_FULL", 0x18, 8, .ro, .plain, 0, 0, 0, 18446744073709551615⟩,
  ⟨0x3601, 3, 3, "PARK_RELEASE_STALE", 0x18, 8, .ro, .plain, 0, 0, 0, 18446744073709551615⟩,
  ⟨0x3601, 4, 4, "SAVE_WRITE_REFUSED", 0x18, 8, .ro, .plain, 0, 0, 0, 18446744073709551615⟩]

/-- Entry rows 270 to 297. -/
def entries9 : List Entry := [
  ⟨0x3602, 1, 4, "WALKS", 0x18, 8, .ro, .plain, 0, 0, 0, 18446744073709551615⟩,
  ⟨0x3603, 1, 4, "PARKS", 0x18, 8, .ro, .plain, 0, 0, 0, 18446744073709551615⟩,
  ⟨0x3700, 1, 36, "LINK_REPLAYS", 0x18, 8, .ro, .plain, 0, 0, 0, 18446744073709551615⟩,
  ⟨0x3701, 1, 36, "LINK_RETRAINS", 0x18, 8, .ro, .plain, 0, 0, 0, 18446744073709551615⟩,
  ⟨0x3702, 1, 2, "STALE_INCARNATION_DROPS", 0x18, 8, .ro, .plain, 0, 0, 0, 18446744073709551615⟩,
  ⟨0x3703, 0, 0, "STALE_LAYOUT_DROPS", 0x18, 8, .ro, .plain, 0, 0, 0, 18446744073709551615⟩,
  ⟨0x3704, 1, 1, "TOKEN_ROUTES_ACCEPTED", 0x18, 8, .ro, .plain, 0, 0, 0, 18446744073709551615⟩,
  ⟨0x3704, 2, 2, "TOKEN_ROUTES_OVERFLOWED", 0x18, 8, .ro, .plain, 0, 0, 0, 18446744073709551615⟩,
  ⟨0x3705, 1, 4, "ETH_RETRANSMITS", 0x18, 8, .ro, .plain, 0, 0, 0, 18446744073709551615⟩,
  ⟨0x3706, 0, 0, "HOP_LIMIT_DROPS", 0x18, 8, .ro, .plain, 0, 0, 0, 18446744073709551615⟩,
  ⟨0x3707, 1, 36, "FEC_CORRECTED", 0x18, 8, .ro, .plain, 0, 0, 0, 18446744073709551615⟩,
  ⟨0x3800, 1, 1, "SUPPLY_WARNINGS", 0x18, 8, .ro, .plain, 0, 0, 0, 18446744073709551615⟩,
  ⟨0x3800, 2, 2, "THERMAL_TRIPS", 0x18, 8, .ro, .plain, 0, 0, 0, 18446744073709551615⟩,
  ⟨0x3800, 3, 3, "THROTTLED_SLOTS", 0x18, 8, .ro, .plain, 0, 0, 0, 18446744073709551615⟩,
  ⟨0x3800, 4, 4, "SENSE_FAULTS", 0x18, 8, .ro, .plain, 0, 0, 0, 18446744073709551615⟩,
  ⟨0x3900, 1, 4, "CROSSING_OVERRUNS", 0x18, 8, .ro, .plain, 0, 0, 0, 18446744073709551615⟩,
  ⟨0x4000, 1, 1, "LOG_NEXT", 0x18, 8, .ro, .view, 0, 0, 0, 18446744073709551615⟩,
  ⟨0x4000, 2, 2, "LOG_SINCE_RESET", 0x14, 4, .ro, .view, 0, 0, 0, 4294967295⟩,
  ⟨0x4000, 3, 3, "LOG_OLDEST", 0x18, 8, .ro, .view, 0, 0, 0, 18446744073709551615⟩,
  ⟨0x4000, 4, 4, "LOG_LOST", 0x18, 8, .ro, .plain, 0, 0, 0, 18446744073709551615⟩,
  ⟨0x4001, 0, 0, "LOG_SELECT", 0x18, 8, .rw, .plain, 0, 0, 0, 18446744073709551615⟩,
  ⟨0x4002, 0, 0, "LOG_RECORD", 0x40, 128, .ro, .view, 0, 0, 0, 18446744073709551615⟩,
  ⟨0x4003, 0, 0, "LOG_RECENT", 0x40, 32768, .ro, .view, 0, 0, 0, 18446744073709551615⟩,
  ⟨0x5000, 0, 0, "TEST_ACCESS", 0x01, 1, .rws, .plain, 0, 0, 0, 1⟩,
  ⟨0x5010, 0, 0, "CORE_TEST", 0x12, 2, .wo, .command, 0, 0, 0, 65535⟩,
  ⟨0x5011, 1, 1, "CORE_TEST_STATE", 0x11, 1, .ro, .view, 0, 0, 0, 255⟩,
  ⟨0x5011, 2, 2, "CORE_TEST_RESULT", 0x11, 1, .ro, .view, 0, 0, 0, 255⟩,
  ⟨0x5012, 0, 0, "CORE_TEST_FAILMAP", 0x40, 48, .ro, .view, 0, 0, 0, 18446744073709551615⟩]

/-- Every row of the entry tables, index and subindex rising. -/
def entryTable : List Entry :=
  entries0 ++ entries1 ++ entries2 ++ entries3 ++ entries4 ++ entries5 ++ entries6 ++ entries7 ++ entries8 ++ entries9

/-- The row that holds a subindex of an index, if one does. -/
def entryRow (idx sub : Nat) : Option Entry :=
  entryTable.find? (fun e => e.index == idx && e.lo <= sub && sub <= e.hi)

/-- The highest member subindex of an index that has members (R390); 0 otherwise. -/
def recordCount (idx : Nat) : Nat :=
  (entryTable.filter (fun e => e.index == idx)).foldl (fun n e => max n e.hi) 0

/-- The row of subindex 0 of a record that no table names (R390): a constant UNSIGNED8 holding the highest member subindex. -/
def recordRow (idx : Nat) : Option Entry :=
  match (entryTable.filter (fun e => e.index == idx)).head? with
  | some e => some ⟨idx, 0, 0, e.name, 0x11, 1, .const, .plain, recordCount idx, e.flags / 2 * 2, 0, 255⟩
  | none => none

/-- The entry of an index and subindex (R390). -/
def findEntry (idx sub : Nat) : Option Entry :=
  match entryRow idx sub with
  | some e => some e
  | none => if sub = 0 then recordRow idx else none

/-- Reset value of a short entry. -/
def entryReset (idx sub : Nat) : Nat :=
  match findEntry idx sub with
  | some e => e.reset
  | none => 0

end Sys2Proof.Machine
end

