-- ==== Sys2Proof/Config.lean ====
section
/-! DEFINITION. What one module fixes (fuses, certificates, the crossing list) and the free values: constants with no body, of which nothing can be proved but their type. -/
namespace Sys2Proof

/-- MODULE_SERIAL fuses (R397). -/
opaque Config.moduleSerial : BitVec 64
/-- MGMT_MAC fuses, 6 bytes (R401). -/
opaque Config.mgmtMac : Nat → BitVec 8
/-- ETH_MAC of the four Ethernet-mode links from the identity data, 6 bytes each: port, byte (R348). -/
opaque Config.ethMac : Nat → Nat → BitVec 8
/-- PCI Vendor ID, Subsystem Vendor ID and Subsystem ID (R376). -/
opaque Config.pciIds : Nat → BitVec 16
/-- IDENTITY_PUBLIC_KEY, byte by byte (R412). -/
opaque Config.identityKey : Nat → BitVec 8
/-- The certificates of CERT_CHAIN, byte by byte (R413). -/
opaque Config.certChain : Nat → BitVec 8
/-- L of R413: the length of the three certificates (log 9). -/
opaque Config.certLength : Fin 4095
/-- Digests of the firmware keys: key, byte (R416). -/
opaque Config.fwKeyDigest : Nat → Nat → BitVec 8
/-- Ed25519 signature by the identity key over a message: byte n (R412). -/
opaque Config.sign : List (BitVec 8) → Nat → BitVec 8
/-- SHA-512 of a message: byte n (R415, R420). -/
opaque Config.sha512 : List (BitVec 8) → Nat → BitVec 8
/-- Firmware image found in slot 0 (A) or 1 (B) of the flash: byte n (R414). -/
opaque Config.slotImage : Nat → Nat → BitVec 8
/-- Boot ROM contents: byte n (R420); and their length. -/
opaque Config.bootRom : Nat → BitVec 8
/-- Length of the boot ROM (R420). -/
opaque Config.bootRomSize : Nat
/-- Fused voltage of a die for 1.6 GHz at 105 °C, mV (R448). -/
opaque Config.vFuse : Nat → Nat
/-- Manufacturer code of the BSDL description, 11 bits (R480). -/
opaque Config.tapManufacturer : BitVec 11
/-- Random bytes drawn by the SPDM responder: draw, byte (R422). -/
opaque Config.nonce : Nat → Nat → BitVec 8
/-- Byte that lost or never initialised memory reads as: loss, address (log 3). -/
opaque Config.lostByte : Nat → Nat → BitVec 8
/-- Byte of a range whose contents became undefined: the event's number, address (log 3). -/
opaque Config.staleByte : Nat → Nat → BitVec 8
/-- Credits of a virtual channel of a Seam or Ridge, less one, by direction * 16 + channel (R20; log 90). -/
opaque Config.seamCredits : Nat → Nat
/-- The free values: draw n (log 5). -/
opaque Config.free : Nat → Nat
/-- Result of a scalar shift by 64 or more, of which the spec states none: operation (0 SHL, 1 SHR, 2 SAR), value and amount (log 5). -/
opaque Config.shiftBeyond : Nat → BitVec 64 → BitVec 64 → BitVec 64
/-- Contents of a vector register that one instruction names as two destinations: the instruction word and the two results (log 5). -/
opaque Config.clash : BitVec 64 → BitVec 2048 → BitVec 2048 → BitVec 2048
/-- Set of the Loft and Eaves caches a line falls in (log 21). -/
opaque Config.cacheSet : Nat → Nat
/-- Number of records of CROSSING_TABLE after its first (R460). -/
opaque Config.furtherCrossings : Nat
/-- Number of records of CROSSING_TABLE; a package has at least one crossing (R460; log 75). -/
def Config.crossings : Nat := Config.furtherCrossings + 1
/-- CROSSING_TABLE by record: die, source class, destination class, instance (R460). -/
opaque Config.crossing : Nat → Nat × Nat × Nat × Nat

end Sys2Proof
end

