-- ==== Sys2Proof/Machine/State.lean ====
section
/-! DEFINITION. The state of the ST4 block: plain data, one record for each unit, every field with its value at package reset at power-on. -/
namespace Sys2Proof.Machine

/-! ### Time and the Almanac (file 02) -/

/-- LOCK_STATE (R42), in code order. -/
inductive LockState where
  | free | syntonising | aligning | locked | holdover
  deriving DecidableEq, Repr

/-- ALMANAC_STATE (R55), in code order. -/
inductive AlmanacState where
  | idle | checking | armed | running | paused | halted | complete | rejected
  deriving DecidableEq, Repr

/-- STANDBY_STATE (R55), in code order. -/
inductive StandbyState where
  | none | checking | staged | rejected
  deriving DecidableEq, Repr

/-- The two Almanac buffers (R54). -/
inductive Buf where
  | a | b
  deriving DecidableEq, Repr

/-- The header fields latched when a check succeeds (R52, R504), and the base the table is read from. -/
structure AlmHeader where
  buf : Buf
  base : Nat
  id : Nat
  asid : Nat
  count : Nat
  epochSlots : Nat
  epochCount : Nat
  iterations : Nat
  stepBase : Nat
  variant : Nat
  chain : Bool
  ranks : BitVec 512
  deriving DecidableEq, Repr

/-- A transit descriptor (R57). -/
structure Transit where
  slot : Nat
  action : Nat
  die : Fin 4
  unit : Nat
  coreFirst : Nat
  coreCount : Nat
  threadMask : BitVec 32
  waitGate : Nat
  doneGate : Nat
  waitValue : BitVec 32
  param : Nat
  addr : Nat
  noSlip : Bool
  deriving DecidableEq, Repr

/-- A transit in a die's fire queue: its place in the table, its iteration, what the last gate sample saw (R58) and whether it has passed its slot unfired (R61, R62). -/
structure QTransit where
  idx : Nat
  iter : Nat
  transit : Transit
  open_ : Bool
  held : Bool
  deriving DecidableEq, Repr

/-- An action that a fired transit started and that is not complete (R59, R60); `gen` is the Almanac that issued it. -/
structure Action where
  id : Nat
  gen : Nat
  asid : Nat
  iter : Nat
  step : Nat
  transit : Transit
  /-- parts still to complete (threads of a launch, 1 otherwise) -/
  left : Nat
  /-- a thread of the launch raised a fatal fault (R94) -/
  failed : Bool
  deriving DecidableEq, Repr

/-- The fields of an agreement vector that merge (R64). -/
structure AVec where
  presence : BitVec 512
  idMin : Nat
  idMax : Nat
  conjMin : Nat
  conjMax : Nat
  standbyMin : Nat
  standbyMax : Nat
  skipMin : Nat
  faultRankMin : Nat
  slipKey : Nat
  flags : BitVec 8
  deriving DecidableEq, Repr

/-- What a conjunction decided (R67). -/
inductive Decision where
  | halt (code : Nat)
  | pause
  | swap
  | complete (chain : Bool)
  | slip (s : Nat)
  | nothing
  deriving DecidableEq, Repr

/-- The window of one conjunction (R500): its age in working-slot boundaries since the contribution was fixed. -/
structure Window where
  conj : Nat
  /-- first Almanac slot of a slip that it decides, c + 4 -/
  first : Nat
  /-- Almanac that it belongs to, with its EXPECTED_RANKS and CHAIN -/
  gen : Nat
  ranks : BitVec 512
  chain : Bool
  age : Nat
  final : Bool
  vec : AVec
  /-- 0 open, 1 past the vector deadline, 2 past the seal deadline -/
  closed : Nat
  sealMin : BitVec 32
  sealMax : BitVec 32
  decision : Option Decision
  deriving DecidableEq, Repr

/-- A pending vote for a step (R215, R362). -/
structure Vote where
  step : Nat
  nonfinite : Bool
  veto : Bool
  deriving DecidableEq, Repr

/-! ### Cores, arrays, movers and translation (files 03, 05, 11) -/

/-- A resident program image (R91, R92). -/
structure Image where
  asid : Nat
  va : Nat
  crc : BitVec 32
  /-- launches that hold it -/
  pinned : List Nat
  code : Bytes
  deriving DecidableEq, Repr

/-- The state of a hardware thread. -/
inductive ThreadStatus where
  | idle | running | parked | stopped | ended
  deriving DecidableEq, Repr

/-- The state of a mover. -/
inductive MoverStatus where
  | idle | running | parked | stopped
  deriving DecidableEq, Repr

/-- One issued matrix instruction (R133 to R135): its word, command block, OPND and POS as latched, and how far it has come. -/
structure MatInstr where
  seq : Nat
  thread : Nat
  iter : Nat
  step : Nat
  mask : BitVec 4
  word : BitVec 64
  block : BitVec 512
  opnd : Nat
  pos : BitVec 64
  /-- arrays in which it has started -/
  started : BitVec 4
  /-- arrays in which it is complete -/
  done : BitVec 4
  /-- rows of an MSTREAM written, or drain steps of an MDRAIN done -/
  rows : Nat
  /-- failed attempts at the present row (R156) -/
  tries : Nat
  deriving DecidableEq, Repr

/-- A weight set (R127, R139, R152): the attributes declared when its load was issued; and its contents: element codes and block scales of each loaded column, K-block number and output column, Xmax and coverage of each K-block, and the parity columns in units of 2^-24. -/
structure WeightSet where
  declType : Nat := 3
  declBlock16 : Bool := false
  declK : Nat := 0
  elemType : Nat := 3
  block16 : Bool := false
  k : Nat := 0
  kBlock : Nat := 0
  outCol : Nat := 0
  elems : List (List Nat) := []
  scales : List (List Nat) := []
  xmax : List Nat := []
  covered : List (BitVec 128) := []
  p0 : List Int := []
  p1 : List Int := []
  deriving DecidableEq, Repr

/-- An entry of a translation cache (R287). -/
structure TlbEntry where
  asid : Nat
  va : Nat
  size : Nat
  leaf : BitVec 64
  deriving DecidableEq, Repr

/-- A cached table entry of level 3, 2 or 1 (R287). -/
structure WalkEntry where
  asid : Nat
  level : Nat
  va : Nat
  entry : BitVec 64
  deriving DecidableEq, Repr

/-- An invalidation in progress (R288). -/
structure InvalCmd where
  kind : Nat
  asid : Nat
  lo : Nat
  hi : Nat
  deriving DecidableEq, Repr

/-- What a request does. -/
inductive ReqKind where
  | load | store | add (fmt : Nat)
  deriving DecidableEq, Repr

/-- Where translated bytes are: an LPA here, an LPA of another rank, or a bus address of a host port (R286, R386). -/
inductive Target where
  | here (lpa : Nat)
  | remote (rank : Nat) (lpa : Nat)
  | host (port : Nat) (addr : Nat)
  deriving DecidableEq, Repr

/-- One request that holds a tracking entry (R289, R501). -/
structure Req where
  id : Nat
  agent : Agent
  /-- die whose tracking entry it holds -/
  die : Nat
  kind : ReqKind
  target : Target
  len : Nat
  data : Bytes
  /-- performed at the owning slice, or answered by the peer or the host -/
  done : Bool
  /-- waits for the Eaves fill to return -/
  eaves : Bool
  alloc : Bool
  irregular : Bool
  poison : Option Nat
  /-- LSU destination: register, sign extension, byte offset of this part -/
  reg : Nat
  signed : Bool
  off : Nat
  /-- mover: descriptor index, and the write that follows a read with its LOFT_ALLOC and VA; thread: bytes of the whole access -/
  desc : Nat
  next : Option (Target × ReqKind × Bool × Nat)
  step : Nat
  /-- address space and VA it was translated from (R288) -/
  asid : Nat
  va : Nat
  /-- where its agent was when it issued (R503): PC of a thread; descriptor, element and offset of a mover; unit of work of an engine -/
  pos : Nat × Nat × Nat
  deriving DecidableEq, Repr

/-- An agent that parks, with the SDT and ALMANAC_SLOT of the park (R296, R297). -/
structure ParkInfo where
  agent : Agent
  kind : Nat
  level : Nat
  asid : Nat
  va : Nat
  access : Nat
  code : Nat
  die : Nat
  unit : Nat
  core : Nat
  position : Nat
  step : Nat
  sdt : Nat
  almSlot : Nat
  deriving DecidableEq, Repr

/-- An outstanding park record (R297): its number, page and agents. -/
structure ParkRec where
  seq : Nat
  asid : Nat
  page : Nat
  first : ParkInfo
  joined : List ParkInfo
  deriving DecidableEq, Repr

/-- PREEMPT_STATE (R301), in code order. -/
inductive PreemptState where
  | running | stopping | stopped | saving | saved | restoring
  deriving DecidableEq, Repr

/-- A descriptor wholly translated and not retired (R292). -/
structure MoverDesc where
  idx : Nat
  desc : BitVec 512
  deriving DecidableEq, Repr

/-! ### Caches (file 10) -/

/-- A Loft line (R254): storage line, valid and dirty sectors, EXPORTED, and the die whose prefetcher brought it in, while no demand read has touched it (R271). -/
structure LoftLine where
  line : Nat
  valid : BitVec 8
  dirty : BitVec 8
  exported : Bool
  prefetched : Option Nat
  deriving DecidableEq, Repr

/-- A Loft fill outstanding (R255): its storage line, sectors, whether it is installed, whether the prefetcher of die `asker` asked for it, and the requests held on it in arrival order. -/
structure Fill where
  line : Nat
  sectors : BitVec 8
  install : Bool
  prefetch : Bool
  asker : Nat
  held : List Nat
  deriving DecidableEq, Repr

/-- A line of an Eaves cache (R259): its die, global line, valid sectors and the 256 bytes it copies. -/
structure EavesLine where
  die : Nat
  line : Nat
  valid : BitVec 8
  bytes : Bytes
  deriving DecidableEq, Repr

/-- An Eaves fill outstanding (R260): its die, global line, the request it serves; `dead` after an invalidation. -/
structure EavesFill where
  die : Nat
  line : Nat
  req : Nat
  dead : Bool
  deriving DecidableEq, Repr

/-- A prefetch tracker (R268): reader (core, or 1000 + mover), ASID, last address, stride, and whether the stride was seen twice. -/
structure Tracker where
  reader : Nat
  asid : Nat
  last : Nat
  stride : Int
  confirmed : Bool
  /-- VA of the target that it may not enter, while it is stopped (R270) -/
  stop : Option Nat
  deriving DecidableEq, Repr

/-- A guarded write not yet visible (R359): the guards still to be stamped, its address and the bytes that reads still see. -/
structure HiddenWrite where
  guards : List Nat
  addr : Nat
  old : Bytes
  deriving DecidableEq, Repr

/-! ### The update engine (file 09) -/

/-- The stage of an update job's entry in hand (R233, R240, R242, R244). -/
inductive UpdPhase where
  | idle | chunk | norm | product | apply | rows | ratio
  deriving DecidableEq, Repr

/-- A commit word or row record as the compute phase found it (R232, R233, R236): row, where it is with its LOFT_ALLOC, LAST_STEP and committed bank. -/
structure UpdRow where
  row : Nat
  at_ : Target
  alloc : Bool
  last : Nat
  bank : Bool
  deriving DecidableEq, Repr

/-- An update job on the cores (R223): its action and list, and the entry in hand. -/
structure UpdJob where
  /-- number of the action -/
  id : Nat
  die : Fin 4
  cores : List Nat
  base : Nat
  count : Nat
  asid : Nat
  iter : Nat
  step : Nat
  /-- the Almanac that fired the transit: its generation here, and its header (R63, R68, R233) -/
  gen : Nat
  hdr : Option AlmHeader
  /-- the list holds an ORTHO_MOMENTUM entry, as far as it has been read (R225) -/
  ortho : Bool
  /-- COMMIT_CONJ of the list, and whether it is a list of REPUBLISH entries (R226) -/
  conj : Option (Nat × Bool)
  /-- entries not retired -/
  left : Nat
  /-- list position of the entry in hand or next -/
  pos : Nat
  phase : UpdPhase := .idle
  desc : BitVec 1024 := 0
  /-- next chunk, list row or tile (R249) -/
  next : Nat := 0
  /-- iteration and product of ORTHO_MOMENTUM (R250) -/
  ns : Nat := 0
  product : Nat := 0
  /-- hyperparameter block (R230) -/
  hp : BitVec 512 := 0
  rows : List UpdRow := []
  /-- rows of the row list, as read (R242) -/
  list : List Nat := []
  /-- sums U and W of the chunk in progress, AQ48 (R219) -/
  u : Nat := 0
  w : Nat := 0
  /-- matrices of ORTHO_MOMENTUM, FP32, row-major: X, A or B, and the product being formed (R240) -/
  mx : List Nat := []
  ma : List Nat := []
  mo : List (List Nat) := []
  parked : Bool := false
  deriving DecidableEq, Repr

/-- A pending update record (R233): its job and list position, target CONJ_INDEX, and what its commit writes. -/
structure PendRec where
  job : Nat
  die : Fin 4
  pos : Nat
  step : Nat
  target : Nat
  due : Bool
  desc : BitVec 1024
  /-- the entry writes nothing: frozen, or without elements (R231, R245) -/
  nothing : Bool
  /-- the entry has no element, row or block: it only retires at its commit point (R12, R231) -/
  empty : Bool
  rows : List UpdRow
  u : Nat
  w : Nat
  deriving DecidableEq, Repr

/-- The kinds of follow-on work (R234). -/
inductive FollowKind where
  | publish | ratio | sweep
  deriving DecidableEq, Repr

/-- Follow-on work of a record (R234): next row or block, and the counts of a sweep (R210). -/
structure FollowOn where
  id : Nat
  job : Nat
  kind : FollowKind
  pos : Nat
  step : Nat
  desc : BitVec 1024
  rows : List UpdRow
  u : Nat
  w : Nat
  next : Nat
  skipped : Bool
  counts : List Nat
  deriving DecidableEq, Repr

/-! ### The Rafter fabric (file 12) -/

/-- LINK_STATE (R312), in code order. -/
inductive LinkSt where
  | down | detect | equalise | identify | active | miswired | fenced | ethTraining | ethUp | disabled
  deriving DecidableEq, Repr

/-- A frame waiting to be sent on a link (R318): its virtual channel, dateline half and bytes, the flits already sent, and the link and flits whose credits a forwarded frame holds (link 255 for none). -/
structure TxFrame where
  vc : Nat
  half : Bool
  bytes : Bytes
  sent : Nat
  inLink : Nat
  inFlits : Nat
  deriving DecidableEq, Repr

/-- A frame being received on one virtual channel (R318). -/
structure RxPart where
  half : Bool
  flits : Nat
  bytes : Bytes
  deriving DecidableEq, Repr

/-- A frame delivered to this package (R326): the link it came by (255 for none), its dateline half and the flits whose credits it holds. -/
structure RxFrame where
  link : Nat
  half : Bool
  vc : Nat
  flits : Nat
  bytes : Bytes
  deriving DecidableEq, Repr

/-- A window being sent (R335, R336): its action, WINDOW_SEQ, descriptor, frames (offset, length), the next frame, whether WINDOW_DONE has come, and the working slot in which it fired. -/
structure WinOut where
  action : Nat
  seq : Nat
  desc : BitVec 256
  frames : List (Nat × Nat)
  next : Nat
  done : Bool
  opened : Nat
  deriving DecidableEq, Repr

/-- An incoming window (R336): SRC_RANK with its incarnation, SRC_DIE and WINDOW_SEQ, the die that tracks it and the bytes counted. -/
structure WinIn where
  rank : Nat
  inc : Nat
  die : Nat
  seq : Nat
  owner : Nat
  got : Nat
  deriving DecidableEq, Repr

/-- A segment in staging (R338): its number and the contributions that have arrived. -/
structure RedSeg where
  seg : Nat
  got : List (Nat × Bytes)
  deriving DecidableEq, Repr

/-- A staging buffer armed as root of a reduction (R337, R338): descriptor header, contributor entries (rank, die), segments not yet granted, in flight and written. -/
structure RedRoot where
  action : Nat
  die : Nat
  unit : Nat
  desc : BitVec 512
  entries : List (Nat × Nat)
  next : Nat
  open_ : List RedSeg
  written : Nat
  deriving DecidableEq, Repr

/-- A contribution of this package (R338): contributor index, SRC, segments granted and not sent, sent, and acknowledged. -/
structure RedContrib where
  action : Nat
  desc : BitVec 512
  index : Nat
  src : Nat
  toSend : List Nat
  sent : List Nat
  acked : List Nat
  deriving DecidableEq, Repr

/-- A window of a peer domain that this package forwards to another rank (R347): the WINDOW_SEQ that it has on the way, the Ethernet-mode link it came by, and its own SRC_RANK, SRC_DIE and WINDOW_SEQ. -/
structure WinRelay where
  seq : Nat
  link : Nat
  rank : Nat
  die : Nat
  orig : Nat
  deriving DecidableEq, Repr

/-- A grant that arrived before its contributor's REDUCE fired (R338), with the root's rank and incarnation. -/
structure RedGrant where
  rank : Nat
  inc : Nat
  tag : Nat
  gen : Nat
  index : Nat
  first : Nat
  count : Nat
  deriving DecidableEq, Repr

/-- A count vector as far as it has arrived (R322, R342): tag, LAYOUT_GEN, source rank with its incarnation, the die whose inbox it waits in, and the parts (first expert, counts). -/
structure TokVector where
  tag : Nat
  gen : Nat
  rank : Nat
  inc : Nat
  die : Nat
  parts : List (Nat × List Nat)
  deriving DecidableEq, Repr

/-- A row or fragment still to be sent by an exchange: its source VA, destination rank, local slot, position, metadata. -/
structure TokSend where
  va : Nat
  dest : Nat
  local_ : Nat
  pos : Nat
  info : Nat
  /-- next fragment (R322) -/
  frag : Nat
  deriving DecidableEq, Repr

/-- A row being received (R322): source rank, local slot, position, metadata, and the fragments that have arrived. -/
structure TokRow where
  rank : Nat
  local_ : Nat
  pos : Nat
  info : Nat
  frags : List Nat
  deriving DecidableEq, Repr

/-- A token exchange in flight (R341, R342): descriptor, group ranks, expert map, routes, whether the allocation has been made, rows to send, rows sent and not acknowledged, rows of which fragments are missing, rows received whole, and rows to be received in all. -/
structure Exchange where
  action : Nat
  desc : BitVec 1024
  group : List Nat
  map : List (Nat × Nat)
  routes : List Nat
  allocated : Bool
  toSend : List TokSend
  unacked : Nat
  rows : List TokRow
  arrived : Nat
  awaited : Nat
  deriving DecidableEq, Repr

/-! ### Dictionary protocol and host (files 14 to 16) -/

/-- A signed session (R405). -/
structure Session where
  id : Nat
  slot : Fin 8
  /-- SDT of its latest request (R405) -/
  last : Nat
  deriving DecidableEq, Repr

/-- A protocol snapshot or staging buffer (R403): its holder (session, key slot or I3C), entry and bytes. -/
structure ProtSeg where
  holder : Nat
  index : Nat
  sub : Nat
  snapshot : Option Bytes
  staging : Option Bytes
  /-- the snapshot was lost at a change of leader (R395) -/
  snapLost : Bool
  /-- the staging buffer was lost at a change of leader (R395) -/
  stageLost : Bool
  /-- SDT of the latest access to it (R403) -/
  last : Nat
  deriving DecidableEq, Repr

/-- DEVICE_MODE (R380), in code order. -/
inductive DeviceMode where
  | starting | ready | dim | faulted
  deriving DecidableEq, Repr

/-- SUPPLY_STATE (R432), in code order. -/
inductive SupplyState where
  | normal | warning | low | over | reset
  deriving DecidableEq, Repr

/-- A crossing instance (R458, R460). -/
structure Crossing where
  overrun : Bool
  inReset : Bool
  count : Nat
  deriving DecidableEq, Repr

/-- A log record (R469) before its bytes are formed; `seq` is given by the leader. -/
structure LogRec where
  seq : Nat
  boot : Nat
  code : Nat
  severity : Nat
  die : Nat
  source : Nat
  sdt : Nat
  almId : Nat
  almSlot : Nat
  step : Nat
  loc : Nat
  sub : Nat
  detail : Bytes
  deriving DecidableEq, Repr

/-- What the package drives outside, appended in order (log 11). -/
inductive Out where
  /-- a flit on a Rafter link (R315) -/
  | flit (link : Nat) (bits : BitVec 1600)
  /-- an Ethernet packet on an Ethernet-mode link (R345) -/
  | eth (link : Nat) (packet : Bytes)
  /-- a posted write to host memory (R382, R387) -/
  | hostWrite (port : Nat) (addr : Nat) (bytes : Bytes)
  /-- a read of host memory for a request (R387) -/
  | hostRead (port : Nat) (addr len req : Nat)
  /-- the abort code that answers an access (R394) -/
  | status (code : Nat)
  /-- the completion of a BAR2 read (R379): completion status and bytes -/
  | completion (port : Nat) (status : Nat) (bytes : Bytes)
  /-- a frame on the management port (R401, R403) -/
  | mgmt (packet : Bytes)
  /-- an MCTP or I3C message (R409) -/
  | i3c (msg : Bytes)
  /-- an SPDM response on a transport (R422) -/
  | spdm (transport : Nat) (msg : Bytes)
  /-- the value a read returned -/
  | value (v : Nat)
  /-- a flit on a direction of a Seam or Ridge (R19, R20, R23): direction, class, whether it was sent as a header flit alone (R30), whether it was right -/
  | seam (dir cls : Nat) (header ok : Bool)
  /-- a scan of the test access chain (R480): the registers in the order in which they leave TDO, each a length and its bits; none for a register the spec does not lay out -/
  | scan (regs : List (Option (Nat × Nat)))
  deriving DecidableEq, Repr

/-- Physical memory (R35): bytes in the canonical form, and the loss whose contents the unlisted bytes still have. -/
structure Memory where
  cells : List Host.Cell
  undef : Option Nat
  /-- the self-test after which scratch holds nothing (log 3) -/
  sram : Nat
  /-- ranges whose contents became undefined: first address, length, tag; newest first (log 3) -/
  stale : List (Nat × Nat × Nat)
  deriving DecidableEq, Repr

/-! ### The units -/

/-- Sidereal time, lock state and beacon exchange of the package. -/
structure TimeState where
  /-- SDT counter of each die, 64 bits (R40). -/
  sdt : PerDie (BitVec 64) := PerDie.all 0
  /-- SDT counters released and counting (R423, R463). -/
  counting : Bool := false
  /-- MODEL: SDT stands at tick 0 of a slot whose SLOT_BOUNDARY step has not run (R61). -/
  boundaryOpen : Bool := false
  /-- MODEL: the guard-band sample of the present slot has been taken (R41). -/
  sampled : Bool := false
  /-- LOCK_STATE, 5 codes (R42, R423). -/
  lock : LockState := .free
  /-- phase slewed so far, signed 1/512 tick (R47). -/
  phase : Int := 0
  /-- last 8 beacon samples (delay, offset) in 1/512 tick, newest first (R47). -/
  samples : List (Int × Int) := []
  /-- consecutive samples with best offset within 32/256 tick (R47). -/
  inTolerance : Nat := 0
  /-- filtered offset, signed 1/512 tick (R47, R74). -/
  offset : Int := 0
  /-- SDT step owed at the next slot boundary (R47). -/
  stepDue : Option Int := none
  /-- SEQUENCE of the next beacon request (R46). -/
  beaconSeq : BitVec 16 := 0
  /-- beacon requests in flight: SEQUENCE and link (R46). -/
  beaconOut : List (BitVec 16 × Nat) := []
  /-- working slots until the next beacon request is due (R46). -/
  beaconWait : Nat := 0
  /-- per link, the slot after that of the last beacon request to a parent not in use (R46). -/
  unusedSent : Tab Nat := []
  /-- delay and offset measured to parents not in use, per link, 1/512 tick (R46). -/
  linkOffsets : Tab (Int × Int) := []
  /-- links whose recovered clock is present (R43, R44). -/
  rxClock : BitVec 36 := 0
  /-- TIME_PARENT_LINK, 8 bits (R45, R74). -/
  parentLink : Nat := 255
  /-- depth in the time tree (R46). -/
  hops : Nat := 0
  deriving DecidableEq, Repr

/-- The Almanac buffers, the active Almanac and the dispatch of transits. -/
structure AlmState where
  /-- ALMANAC_STATE, 8 codes (R55). -/
  state : AlmanacState := .idle
  /-- STANDBY_STATE, 4 codes (R55). -/
  standby : StandbyState := .none
  /-- ACTIVE_BUFFER (R504). -/
  activeBuf : Buf := .a
  /-- buffer being checked for arming (R53, R54). -/
  armCheck : Option Buf := none
  /-- buffer being checked for staging (R53, R54). -/
  stageCheck : Option Buf := none
  /-- latched header of the active Almanac (R504). -/
  hdr : Option AlmHeader := none
  /-- latched header of the staged Almanac (R504). -/
  stagedHdr : Option AlmHeader := none
  /-- ITERATION, 32 bits (R52). -/
  iteration : Nat := 0
  /-- absolute Almanac slot of the present physical slot; none in a slip slot, a dusk slot and outside Almanac time (R50, R496). -/
  cur : Option Nat := none
  /-- absolute Almanac slot that begins next (R50). -/
  nextAlm : Nat := 0
  /-- slips in force: first Almanac slot delayed, slip slots still to pass (R70). -/
  slips : List (Nat × Nat) := []
  /-- CONJ_INDEX, 32 bits (R63). -/
  conjIndex : Nat := 0
  /-- iteration whose descriptors are being read (R56). -/
  readIter : Nat := 0
  /-- table index of the next descriptor read (R56). -/
  readIdx : Nat := 0
  /-- fire queue of each die, held transits included (at most 1,024 held) (R56, R61). -/
  queues : PerDie (List QTransit) := PerDie.all []
  /-- gate counters as the last guard-band sample saw them, keyed as `gates` (R58). -/
  gateSample : Tab (BitVec 32) := []
  /-- actions started by transits and not complete (R59, R60). -/
  actions : List Action := []
  /-- MODEL: number of the Almanac now active, counted as Almanacs become RUNNING (R68). -/
  gen : Nat := 0
  /-- MODEL: number given to the next action, request, job or record (R60). -/
  nextId : Nat := 0
  /-- iterations whose first transit has fired, the latest ones (R58). -/
  fired : List Nat := []
  /-- accepted RESUME_SDT still to be reached (R68). -/
  resumeAt : Option (BitVec 64) := none
  deriving DecidableEq, Repr

/-- Conjunction windows, votes and contributions. -/
structure ConjState where
  /-- open conjunction windows (R500). -/
  windows : List Window := []
  /-- LAST_AGREEMENT, last merged vector, 128 bytes (R66). -/
  lastAgreement : BitVec 1024 := 0
  /-- pending voted steps (at most 8), non-finite and veto (R215, R362). -/
  votes : List Vote := []
  /-- binding skips recorded (R67, R217). -/
  skips : List Nat := []
  /-- steps a commit of which has taken place on this package (R216, R362). -/
  committed : List Nat := []
  /-- FAULT waiting for the next contribution (R65). -/
  fault : Bool := false
  /-- UWR_ALERT waiting for the next contribution (R221). -/
  uwr : Bool := false
  /-- THROTTLED waiting for the next contribution (R442). -/
  throttled : Bool := false
  /-- largest explicit slip request since the last contribution (R65). -/
  explicitReq : Nat := 0
  /-- working slots in which an array, mover, update engine or the pre-emption was stopped since the last contribution (R164, R249, R303, R498). -/
  stopSlots : Tab Nat := []
  /-- stopped agents already counted in the present slot (R498). -/
  stopMarked : List Nat := []
  deriving DecidableEq, Repr

/-- One core: counters, instruction memory, matrix queues and weight sets. -/
structure Core where
  /-- core counters c0 to c63, 32 bits each (R85). -/
  counters : Tab (BitVec 32) := []
  /-- resident program images, least recently used first (instruction memory, 128 KiB) (R92). -/
  images : List Image := []
  /-- launches whose image is being fetched (R92). -/
  fetches : List Nat := []
  /-- issued matrix instructions in issue order (queues of MA0 to MA3, at most 8 each) (R84, R135). -/
  matrix : List MatInstr := []
  /-- weight sets 0 and 1 of MA0 to MA3 with their declared attributes, parity columns and coverage (R127, R139, R152). -/
  sets : Tab WeightSet := []
  /-- MSTREAM holding the activation broadcast bus (R129). -/
  bus : Option Nat := none
  /-- arrays stopped at a safe point (R156, R162). -/
  arraysStopped : BitVec 4 := 0
  /-- arrays stopped by a persistent parity fault (R156). -/
  faultStop : BitVec 4 := 0
  /-- CORE_STALL_COUNTERS: eight 64-bit counters (R99). -/
  stalls : Tab (BitVec 64) := []
  /-- 64-entry translation cache (R287). -/
  tlb : List TlbEntry := []
  /-- next scratch row of the idle-bank scrub (R280). -/
  scrubRow : Nat := 0
  deriving DecidableEq, Repr

/-- One hardware thread. -/
structure Thread where
  /-- idle, running, parked, stopped or ended (R94, R96). -/
  status : ThreadStatus := .idle
  /-- PC, byte offset within the code (R92, R97). -/
  pc : Nat := 0
  /-- action that started the thread (R92). -/
  launch : Nat := 0
  /-- launching ITERATION (R93). -/
  iter : Nat := 0
  /-- STEP of the launching iteration (R93). -/
  step : Nat := 0
  /-- s0 to s31, 64 bits each; s0 reads zero (R75, R76). -/
  sregs : Tab (BitVec 64) := []
  /-- p0 to p7; p0 reads 1 (R75, R76). -/
  preds : BitVec 8 := 1
  /-- v0 to v15, 2,048 bits each (R75). -/
  vregs : Tab (BitVec 2048) := []
  /-- ASID of the image (R97). -/
  asid : Nat := 0
  /-- virtual address of the image (R97). -/
  imgVa : Nat := 0
  /-- IMAGE_CRC of the image (R97). -/
  imgCrc : BitVec 32 := 0
  /-- executions of BARRIER per identifier (R87). -/
  barriers : Tab Nat := []
  /-- the BARRIER at the PC is counted and has not retired (R87). -/
  atBarrier : Bool := false
  deriving DecidableEq, Repr

/-- One mover (64 per die). -/
structure Mover where
  /-- idle, running, parked or stopped (R306). -/
  status : MoverStatus := .idle
  /-- MOVER_STREAM being served (R290). -/
  action : Nat := 0
  /-- VA of the first descriptor (R290, R306). -/
  addr : Nat := 0
  /-- descriptor count (R290, R306). -/
  count : Nat := 0
  /-- index of the oldest unretired descriptor (R292, R306). -/
  oldest : Nat := 0
  /-- index of the descriptor being translated (R292, R306). -/
  cur : Nat := 0
  /-- descriptor being translated, as read (R290, R306). -/
  desc : Option (BitVec 512) := none
  /-- next element (R292, R306). -/
  elem : Nat := 0
  /-- byte offset of the next piece in the element (R292, R306). -/
  off : Nat := 0
  /-- launching ITERATION (R306). -/
  iter : Nat := 0
  /-- ASID (R306). -/
  asid : Nat := 0
  /-- descriptors read ahead (at most 4) (R295). -/
  ahead : List (Nat × BitVec 512) := []
  /-- descriptors wholly translated and not retired (R292). -/
  open_ : List MoverDesc := []
  deriving DecidableEq, Repr

/-- Loft and Eaves caches, poison, prefetcher, scrub and shard guards. -/
structure CacheState where
  /-- lines of the four Loft caches: sectors valid and dirty, EXPORTED, prefetched; most recently used first (R254, R263, R271). -/
  loft : List LoftLine := []
  /-- Loft fills outstanding, with the accesses held on them (R255). -/
  fills : List Fill := []
  /-- lines of the four Eaves caches with the bytes they copy (R259). -/
  eaves : List EavesLine := []
  /-- Eaves fills outstanding (R260). -/
  eavesFills : List EavesFill := []
  /-- poisoned sectors of Slate and Thatch (sector numbers) (R277). -/
  poison : List Nat := []
  /-- sectors found uncorrectable in memory under a good Loft copy, which keeps the value until its write-back (R277, R279). -/
  under : List Nat := []
  /-- Thatch check sectors held by the controllers, most recent first (R267). -/
  checkBuffer : List Nat := []
  /-- 64 prefetch trackers per die (R268). -/
  trackers : PerDie (List Tracker) := PerDie.all []
  /-- useful, late and unused prefetch outcomes since the last revision (R271). -/
  outcomes : PerDie (Nat × Nat × Nat) := PerDie.all (0, 0, 0)
  /-- lines that have counted an epoch violation in this epoch (R263). -/
  violated : List Nat := []
  /-- an EPOCH_VIOLATION fault has been raised in this epoch (R263). -/
  epochFaulted : Bool := false
  /-- next sector of each channel scrubber (R278). -/
  scrubPos : Tab Nat := []
  /-- dusk slot in which each die's scrubbers last read, plus 1 (R278). -/
  scrubbed : PerDie Nat := PerDie.all 0
  /-- sectors each channel corrected in the present pass (R278). -/
  scrubCorrected : Tab Nat := []
  /-- VERSION of each shard guard, 32 bits (R358). -/
  versions : Tab (BitVec 32) := []
  /-- guard increments waiting for a stamp rewrite (R359). -/
  stampDue : Tab Nat := []
  /-- guarded writes not yet visible (R359). -/
  hiddenWrites : List HiddenWrite := []
  /-- second in which each stack, device and die SRAM last logged a corrected error (R276). -/
  eccLogged : Tab Nat := []
  deriving DecidableEq, Repr

/-- Translation caches, tracking, invalidation and parking. -/
structure TransState where
  /-- shared translation cache of each die, 8,192 entries (R287). -/
  dieTlb : PerDie (List TlbEntry) := PerDie.all []
  /-- level-3, -2 and -1 entries each die has read (R287). -/
  walkCache : PerDie (List WalkEntry) := PerDie.all []
  /-- invalidations in progress (INVAL_STATE) (R288). -/
  inval : List InvalCmd := []
  /-- requests holding a tracking entry (R289). -/
  reqs : List Req := []
  /-- outstanding park records (R297). -/
  parks : List ParkRec := []
  /-- parks waiting for a free ring slot (R297). -/
  parkWait : List ParkInfo := []
  /-- releases that wait for RESUME (R302). -/
  released : List Nat := []
  /-- abandonments that wait for RESUME (R302). -/
  abandons : List Nat := []
  /-- SEQUENCE of the next park record (R297). -/
  nextSeq : Nat := 0
  /-- PREEMPT_STATE, 6 codes (R301). -/
  preempt : PreemptState := .running
  /-- ALMANAC_SLOT at the pre-emption request (R305). -/
  stopSlot : BitVec 32 := 0xFFFFFFFF
  /-- the SAVE in progress came from STOPPED (R301). -/
  saveFrom : Bool := false
  /-- SDT at which the last unit reached its safe point (R305). -/
  stopSdt : Nat := 0
  /-- the RESUME in progress came from SAVED (R301). -/
  restoreAll : Bool := false
  /-- a context failed its CRC: the package stays in RESTORING (R307). -/
  restoreFailed : Bool := false
  deriving DecidableEq, Repr

/-- Update engine jobs, pending records and follow-on work. -/
structure UpdState where
  /-- update jobs running on the cores, with their progress (R223, R250). -/
  jobs : List UpdJob := []
  /-- pending records (at most 4,096 per die) (R233). -/
  records : List PendRec := []
  /-- follow-on work: publishing, ratio records, sweeps (R234). -/
  follow : List FollowOn := []
  /-- LAYER_IDs whose refusal has been logged for this Almanac (R245). -/
  frozenLogged : List (BitVec 32) := []
  /-- writes to other packages that wait for the engine's tracking share, oldest first (R224, R289). -/
  waiting : List Req := []
  deriving DecidableEq, Repr

/-- One Rafter link. -/
structure Link where
  /-- LINK_STATE, 10 codes (R312). -/
  state : LinkSt := .down
  /-- LINK_WIRING.WIRING_FAULT (R313). -/
  wiringFault : BitVec 8 := 0
  /-- LINK_WIRING.RX_POLARITY_INVERTED (R313). -/
  polarity : BitVec 8 := 0
  /-- LINK_WIRING.RX_LANE_MAP (R313). -/
  laneMap : BitVec 24 := 0
  /-- LINK_WIRING.PEER_RANK_SEEN (R313). -/
  peerRank : BitVec 10 := 0
  /-- LINK_WIRING.PEER_LINK_SEEN (R313). -/
  peerLink : BitVec 6 := 0
  /-- identity message last seen (R313). -/
  peerMsg : Option IdentityMsg := none
  /-- SEQ of the next FIRST or NEXT flit, 12 bits (R315, R462). -/
  txSeq : Nat := 0
  /-- SEQ expected next, 12 bits (R317). -/
  rxSeq : Nat := 0
  /-- replay buffer, at most 512 flits (R317). -/
  replay : List (Nat × BitVec 1600) := []
  /-- NAK sent and the expected flit not yet arrived (R317). -/
  nakSent : Bool := false
  /-- times the oldest unacknowledged flit has been resent (R317). -/
  resends : Nat := 0
  /-- SDT at which ACK last advanced, or flits became outstanding, or were resent (R317). -/
  progress : Nat := 0
  /-- SDT from which the next fence notice may be sent (R331). -/
  noticeNext : Nat := 0
  /-- dateline half of each flit sent and not freed, oldest first, per virtual channel (credits) (R316, R318). -/
  flight : Tab (List Bool) := []
  /-- virtual channel (2 to 4) whose turn is next (R318). -/
  turn : Nat := 2
  /-- a retrain outside the dusk-slot rule is due (R317). -/
  retrainDue : Bool := false
  /-- second of the last corrected FEC symbol, and the symbols corrected in it (R314). -/
  fec : Nat × Nat := (0, 0)
  /-- a retrain is due in a dusk slot: more symbols than RETRAIN_THRESHOLD were corrected in 1 s (R314). -/
  fecDue : Bool := false
  /-- CREDITS last received per virtual channel, 16 bits (R316). -/
  peerFreed : Tab Nat := []
  /-- flits freed per virtual channel since link reset (R316). -/
  freed : Tab Nat := []
  /-- frames waiting for credits or replay space (R318). -/
  txq : List TxFrame := []
  /-- frame being received on each virtual channel (R318). -/
  rxPart : Tab RxPart := []
  deriving DecidableEq, Repr

/-- The Rafter fabric above the links. -/
structure FabState where
  /-- links L00 to L35 (R312). -/
  links : Tab Link := []
  /-- frames delivered to this package and not yet acted on (R326). -/
  inbox : List RxFrame := []
  /-- BULK counter of each route group (R326). -/
  groupCtr : Tab Nat := []
  /-- the port map has been committed since reset (R313). -/
  committedOnce : Bool := false
  /-- FENCE_STATE (R332). -/
  fenced : Bool := false
  /-- windows being sent (R336). -/
  winOut : List WinOut := []
  /-- incoming windows tracked (at most 1,024 per die) (R336). -/
  winIn : List WinIn := []
  /-- windows of a peer domain forwarded to another rank (R347). -/
  relays : List WinRelay := []
  /-- WINDOW_SEQ of the next window (R321). -/
  nextWin : Nat := 0
  /-- staging buffers armed as root (16 of 256 KiB per die) (R337, R338). -/
  roots : List RedRoot := []
  /-- contributions of this package in progress (R338). -/
  contribs : List RedContrib := []
  /-- token exchanges in flight (R341, R342). -/
  exchanges : List Exchange := []
  /-- count vectors that arrived before their exchange (1 MiB per die) (R342). -/
  tokInbox : List TokVector := []
  /-- GATE_SIGNAL awaiting GATE_ACK: action, rank, gate (R334). -/
  gateOut : List (Nat × Nat × Nat) := []
  /-- grants that arrived before their contributor fired (R338). -/
  grants : List RedGrant := []
  /-- actions done but for stores to other packages not yet acknowledged (R334). -/
  closing : List Nat := []
  /-- replays of the flit in hand on each direction of a Seam or Ridge (R23). -/
  seamTries : Tab Nat := []
  /-- flit in hand on a direction that is being replayed: virtual channel * 16 + source die * 4 + destination die (R20, R23). -/
  seamHand : Tab Nat := []
  /-- credits in use of each virtual channel of a direction, keyed direction * 16 + channel: flits that wait at the die in between for the Ridge of their route (R19, R20). -/
  seamHeld : Tab Nat := []
  /-- SDT of the effect slot of a halt whose units are not all at their safe points (R69, R503). -/
  haltWait : Option Nat := none
  deriving DecidableEq, Repr

/-- One Ethernet-mode link. -/
structure EthPort where
  /-- TX_SEQ of the next packet, 32 bits (R346). -/
  txSeq : Nat := 0
  /-- packets sent and not acknowledged (at most 4,096) (R346). -/
  unacked : List (Nat × List Byte) := []
  /-- packets not yet sent: UDP source port in two bytes, then the Rafter frame (R346). -/
  queue : List (List Byte) := []
  /-- TX_SEQ expected next (R346). -/
  rxNext : Nat := 0
  /-- SDT at which ACK_SEQ last advanced, or packets became outstanding, or were resent (R346). -/
  progress : Nat := 0
  /-- packets received since the last acknowledgement (R346). -/
  sinceAck : Nat := 0
  /-- ECN CE to be echoed (R346). -/
  eceDue : Bool := false
  /-- sender window in packets (R346). -/
  window : Nat := 4096
  /-- packets acknowledged towards the next window growth (R346). -/
  ackedInWin : Nat := 0
  /-- other received traffic dropped (R345). -/
  dropped : Nat := 0
  deriving DecidableEq, Repr

/-- One PCIe port. -/
structure HostPort where
  /-- port in L0 (R377, R423). -/
  l0 : Bool := false
  /-- power state D3hot (R376, R377). -/
  d3hot : Bool := false
  /-- bus mastering enabled (R382). -/
  busMaster : Bool := false
  /-- SEG_SELECT (R400). -/
  segSelect : BitVec 32 := 0
  /-- snapshot of the selected entry (R400). -/
  segSnap : Option (List Byte) := none
  /-- the snapshot was lost at a change of leader (R395). -/
  segLost : Bool := false
  /-- the staging buffer was lost at a change of leader (R395). -/
  stageLost : Bool := false
  /-- numbers of the requests that were in flight when the port was reset (R377). -/
  discarded : List Nat := []
  /-- committed mailbox request not yet processed (R407). -/
  mbox : Option (List Byte) := none
  /-- binary logarithm of the BAR2 size (R378). -/
  bar2 : Nat := 38
  /-- staging buffer (R400). -/
  segStage : Option (List Byte) := none
  deriving DecidableEq, Repr

/-- PCIe ports, the Skylight and its mirror. -/
structure HostState where
  /-- port P0 (R376). -/
  p0 : HostPort := {}
  /-- port P1 (R376). -/
  p1 : HostPort := {}
  /-- generation number of the Skylight, 64 bits (R380). -/
  skyGen : Nat := 0
  /-- latest Skylight snapshot (bytes 0 to 319; the rest reads zero but GEN_TAIL) (R380). -/
  sky : List Byte := []
  /-- snapshots since the last mirrored one (R382). -/
  mirrorCount : Nat := 0
  deriving DecidableEq, Repr

/-- Dictionary Protocol, management port, I3C and SPDM. -/
structure ProtState where
  /-- signed sessions open (at most 4) (R405). -/
  sessions : List Session := []
  /-- SESSION_ID given next, 32 bits, non-zero (R405). -/
  nextSession : Nat := 1
  /-- REPLAY_COUNTER of the eight key slots, 64 bits (R406). -/
  replay : Tab Nat := []
  /-- protocol snapshots and staging buffers per session or key slot (R403). -/
  segs : List ProtSeg := []
  /-- management port link up, duplicate address detection done (R401). -/
  mgmtUp : Bool := false
  /-- I3C dynamic address, 7 bits (R409). -/
  i3cAddr : Option Nat := none
  /-- MCTP endpoint ID, 8 bits (R409). -/
  eid : Option Nat := none
  /-- SPDM connection state of each transport: 0 none, 1 version, 2 capabilities, 3 algorithms, 4 resync needed (R422). -/
  spdm : Tab Nat := []
  /-- messages of each transport up to ALGORITHMS, for its signatures (SPDM 1.2) (R422). -/
  spdmVca : Tab Bytes := []
  /-- digest and certificate messages of each transport since, for CHALLENGE_AUTH (R422). -/
  spdmCert : Tab Bytes := []
  /-- measurement messages of each transport not yet signed (R422). -/
  spdmMeas : Tab Bytes := []
  deriving DecidableEq, Repr

/-- One firmware slot. -/
structure FlashSlot where
  /-- chunks programmed since the last erase: offset and 1,024 bytes (R415, R418). -/
  bytes : List (Nat × List Byte) := []
  /-- erases of the slot so far (R418). -/
  erases : Nat := 0
  /-- FW_VERIFY_RESULT (R419). -/
  verify : Nat := 0
  /-- FW_VERSION, 32 bits (R419). -/
  version : Nat := 0
  deriving DecidableEq, Repr

/-- Fuses, flash, start sequence, Dim mode and leadership. -/
structure BootState where
  /-- DEVICE_MODE (R380). -/
  mode : DeviceMode := .starting
  /-- package reset asserted (R423, R463). -/
  inReset : Bool := true
  /-- START_PHASE (R423). -/
  phase : Nat := 0
  /-- DIM_REASON (R428). -/
  dimReason : Nat := 0
  /-- LAST_FAILED_PHASE (flash) (R425). -/
  lastFailedPhase : Nat := 0
  /-- FAILED_STARTS (flash) (R425). -/
  failedStarts : Nat := 0
  /-- the previous start failed (flash slot state) (R417). -/
  prevFailed : Bool := false
  /-- slot the previous start ran (flash slot state) (R417). -/
  prevSlot : Nat := 0
  /-- BOOT_COUNT (flash) (R424). -/
  bootCount : Nat := 0
  /-- RUNNING_SLOT (R419). -/
  running : Nat := 255
  /-- PREFERRED_SLOT (flash) (R419). -/
  preferred : Nat := 0
  /-- TRIAL_SLOT (flash) (R419). -/
  trial : Nat := 255
  /-- flash slot A (R414). -/
  slotA : FlashSlot := {}
  /-- flash slot B (R414). -/
  slotB : FlashSlot := {}
  /-- FW_STATE: 0 idle, 1 erasing, 3 verifying (R419). -/
  fwState : Nat := 0
  /-- chunk waiting for the erase of the target slot (R418). -/
  eraseChunk : Option (List Byte) := none
  /-- LEADER_DIE, 0 or 2 (R426). -/
  leader : Nat := 0
  /-- Lodestar of D0 in service (R426). -/
  lodestar0 : Bool := true
  /-- Lodestar of D2 in service (R426). -/
  lodestar2 : Bool := true
  /-- LAST_RESET_CAUSE (R465). -/
  lastCause : Nat := 1
  /-- PRIOR_RESET_CAUSE (R465). -/
  priorCause : Nat := 1
  /-- bit 7 of the cause: the Loft write-back was cut short (R464). -/
  cutShort : Bool := false
  /-- memory contents to be initialised at phase MEMORY (power-on) (R423). -/
  memLost : Bool := true
  /-- requested reset waiting for its 10 ms: cause (R464). -/
  resetDue : Option Nat := none
  /-- SDT at which the reset was requested (R464). -/
  resetAt : Nat := 0
  /-- SDT of the last heartbeat of the leader, or of the takeover that made it the leader (R426). -/
  heartAt : Nat := 0
  deriving DecidableEq, Repr

/-- Fused and flash-held identity of cores, dies and firmware keys. -/
structure FuseState where
  /-- MODULE_SERIAL fuse, 64 bits (R397). -/
  serial : BitVec 64 := Config.moduleSerial
  /-- die identity words (R30). -/
  dieId : PerDie (BitVec 32) := ⟨0x5A411104, 0x5A411144, 0x5A411184, 0x5A4111C4⟩
  /-- the die answers the leading Lodestar (R31). -/
  answers : PerDie Bool := PerDie.all true
  /-- cores that package test enabled: the 96 lowest that pass (CORE_ENABLE_MAP) (R25). -/
  good : PerDie (BitVec 104) := PerDie.all (BitVec.ofNat 104 (2 ^ 96 - 1))
  /-- CORE_LOGICAL_MAP, 96 bytes (R26). -/
  logical : PerDie (List Nat) := PerDie.all (List.range 96)
  /-- retirements recorded for the next start (R27). -/
  pendingRetire : PerDie (List Nat) := PerDie.all []
  /-- retirement record: physical cores retired (flash) (R27). -/
  retired : PerDie (List Nat) := PerDie.all []
  /-- standby spares, physical numbers (R25, R27). -/
  spares : PerDie (List Nat) := PerDie.all (List.range' 96 8)
  /-- value last accepted in CORE_RETIRE_REQUEST (R27). -/
  retireReq : PerDie Nat := PerDie.all 0
  /-- FEATURE_LEVEL (R32). -/
  featureLevel : Nat := 0
  /-- PAIRING_RESULT (R32). -/
  pairing : Nat := 0
  /-- SVN_FLOOR fuses (R416). -/
  svnFloor : Nat := 0
  /-- FW_KEY0_REVOKED fuse (R416). -/
  key0Revoked : Bool := false
  /-- replay ceilings held in flash (R406). -/
  ceilings : Tab Nat := []
  deriving DecidableEq, Repr

/-- Supply, throttle, thermal and calibration state. -/
structure PowerState where
  /-- SUPPLY_STATE, 5 codes (R432). -/
  supply : SupplyState := .normal
  /-- the reset in force is an over-voltage one (R435). -/
  resetOver : Bool := false
  /-- input polarity reversed (R436). -/
  reversed : Bool := false
  /-- VIN has risen through 31.0 V (power-on order 1) (R451). -/
  charging : Bool := false
  /-- housekeeping rails up (R451). -/
  hkUp : Bool := true
  /-- stage-2 rails up (R451). -/
  railsUp : Bool := false
  /-- a rail fault waits for its package reset (R438). -/
  railFault : Bool := false
  /-- junction sensors excluded (die, sensor) (R439). -/
  excluded : List (Nat × Nat) := []
  /-- coolant sensors failed: INLET_A, INLET_B, OUTLET_A, OUTLET_B (R439). -/
  coolantFailed : BitVec 4 := 0
  /-- rails, by die and number, whose regulators have gone over to local sense (R439). -/
  localSense : List (Nat × Nat) := []
  /-- withheld cycles accumulated in working slots (R442). -/
  withheld : Nat := 0
  /-- working ticks counted when the demand fell below the step, or the step was lowered last (R441). -/
  lowerFrom : Option Nat := none
  /-- working slots since the last revision of the thermal demand (R443). -/
  thermSlots : Nat := 0
  /-- consecutive 100 µs periods below 92 % of the ceiling (R447). -/
  calmPeriods : Nat := 0
  /-- flow ceiling, W (R445). -/
  flowCeiling : Nat := 3200
  /-- a valid flow estimate has been made since start (R445). -/
  flowValid : Bool := false
  /-- T_in is above 45.0 °C (R446). -/
  inletHot : Bool := false
  /-- T_in, 10 s average, 0.01 °C (R445). -/
  tIn : Int := 0
  /-- a thermal trip is in force (R444). -/
  tripped : Bool := false
  /-- core and SERDES rails off after a trip (R444). -/
  shutdown : Bool := false
  /-- thermal cutoff latched in the HK domain (R444, R473). -/
  cutoffLatch : Bool := false
  /-- last ten 100 µs averages of the input power, newest first, W (R447, R452). -/
  samples : List Nat := []
  /-- SDT of the slot since which T_j is at 105.0 °C or above (R444). -/
  hotSince : Option Nat := none
  /-- SDT of the slot since which every die is at 85.0 °C or below (R444). -/
  coolSince : Option Nat := none
  /-- SDT of the thermal trip (R444). -/
  trippedAt : Option Nat := none
  /-- consecutive canary measurements below 12 ps (R448). -/
  canaryLow : PerDie Nat := PerDie.all 0
  /-- guard-band rise waiting for the next dusk slot (R448). -/
  raiseDue : PerDie Bool := PerDie.all false
  /-- regulator phase calibrated next (R449). -/
  calPhase : Nat := 0
  /-- memory channel calibrated next (R449). -/
  calChannel : Nat := 0
  /-- dusk slot, counted from SDT 0, from which the next canary measurement may come (R448). -/
  canaryNext : Nat := 0
  /-- dusk slot from which the next sensor calibration may come (R449). -/
  sensorNext : Nat := 0
  /-- dusk slot from which the next regulator phase may be calibrated (R449). -/
  phaseNext : Nat := 0
  /-- dusk slot from which the next memory channel may be calibrated (R449). -/
  channelNext : Nat := 0
  deriving DecidableEq, Repr

/-- References, PLLs and crossings. -/
structure ClkState where
  /-- ROOT_PLL_STATE (R454). -/
  pll : PerDie Nat := PerDie.all 0
  /-- REF_SOURCE (R453). -/
  refSource : Nat := 0
  /-- CROSSING_TABLE: every crossing instance with OVERRUN, IN_RESET and its count (R460). -/
  crossings : Tab Crossing := []
  deriving DecidableEq, Repr

/-- The fault and event log, telemetry and test. -/
structure LogState where
  /-- records queued in the Lodestars (at most 4,096) (R473). -/
  queue : List LogRec := []
  /-- records programmed in flash, newest first (at most 917,504) (R469). -/
  ring : List LogRec := []
  /-- LOG_NEXT (flash), 64 bits (R479). -/
  next : Nat := 0
  /-- LOG_OLDEST (flash), 64 bits (R474). -/
  oldest : Nat := 0
  /-- LOG_SINCE_RESET (R479). -/
  sinceReset : Nat := 0
  /-- records sent by units and not yet at the Lodestars (R472). -/
  arrivals : List LogRec := []
  /-- records dropped since the last LOG_LOST record (R473). -/
  droppedRun : Nat := 0
  /-- deferrals in a row of each background task (R51). -/
  deferRun : Tab Nat := []
  /-- background tasks deferred in the present dusk slot (R51). -/
  deferred : List Nat := []
  /-- telemetry records queued (256 KiB) (R478). -/
  teleBuf : List (List Byte) := []
  /-- telemetry sequence (R476). -/
  teleSeq : Nat := 0
  /-- ring offset of the next telemetry record (R478). -/
  teleNext : Nat := 0
  /-- dusk slots since the last sample (R478). -/
  teleDusk : Nat := 0
  /-- EXTEST or an instrument has been used (R481). -/
  testUsed : Bool := false
  /-- CORE_TEST_STATE (R482). -/
  coreTest : Nat := 0
  /-- CORE_TEST_RESULT (R482). -/
  coreResult : Nat := 0
  /-- CORE_TEST_FAILMAP: failing global cores (R482). -/
  coreFails : List Nat := []
  /-- cores under self-test (R482). -/
  coreNamed : List Nat := []
  /-- TAP instruction of each die (R480). -/
  tapIr : PerDie TapOp := PerDie.all .idcode
  deriving DecidableEq, Repr

/-- The whole block. -/
structure State where
  /-- commands waiting, first in first out -/
  pending : List Instr := []
  /-- the model's counter of free values (log 5) -/
  free : Nat := 0
  /-- what the package has driven outside, newest first (log 11) -/
  out : List Out := []
  /-- short dictionary entries that hold a value of their own, keyed index * 256 + subindex; an entry not listed has its reset value (R389) -/
  dict : Tab Nat := []
  /-- long dictionary entries that hold a value of their own; an entry not listed has its reset value (R389) -/
  longs : Tab Bytes := []
  /-- Slate, Thatch and the SRAM windows (R35 to R38); lost at power-on -/
  mem : Memory := ⟨[], some 0, 0, []⟩
  /-- gate counters, keyed gate * 2 + parity (R58) -/
  gates : Tab (BitVec 32) := []
  /-- cores by global number (R13) -/
  cores : Tab Core := []
  /-- threads, keyed core * 32 + thread (R75) -/
  threads : Tab Thread := []
  /-- movers, keyed die * 64 + mover (R290) -/
  movers : Tab Mover := []
  /-- Ethernet-mode transport by link (R346) -/
  eth : Tab EthPort := []
  time : TimeState := {}
  alm : AlmState := {}
  conj : ConjState := {}
  cache : CacheState := {}
  trans : TransState := {}
  upd : UpdState := {}
  fab : FabState := {}
  host : HostState := {}
  prot : ProtState := {}
  boot : BootState := {}
  fuse : FuseState := {}
  power : PowerState := {}
  clk : ClkState := {}
  log : LogState := {}
  deriving DecidableEq, Repr

/-- The package at power-on with package reset asserted: every field at the value the spec states, or the value that the log names (log 4, log 10). The start sequence then runs from PACKAGE_RESET_RELEASE. -/
def State.reset : State := {}

/-- Reasons for which the model stops: none. Every fault of the device is a change of its state (R467 to R473), and no rule of the spec stops it. -/
inductive Fault where
  deriving DecidableEq, Repr

/-- Reasons for which the model refuses a command. -/
inductive Refusal where
  /-- Raised by an arm of `exec` that has no meaning yet. Safe. -/
  | notModelled (mnemonic : String)
  /-- Raised when an operand has a form that the command cannot have (a byte string of the wrong length, a message of another type; log 2). Safe: no claim speaks of such a command. -/
  | malformedCommand
  deriving DecidableEq, Repr

end Sys2Proof.Machine
end

