-- ==== Sys2Proof/Machine/Ops.lean ====
section
/-! DEFINITION. The named operations that every unit uses: units by number, dictionary values and counters, physical memory, time, the log and faults, votes and gates. -/
namespace Sys2Proof.Machine

/-- What a meaning answers. -/
abbrev Result := Host.Outcome State Fault Refusal

/-- The state t when the event takes place, else s: an event whose conditions do not hold does not take place, and what comes from outside to a unit that does not answer now is lost (R377, R401, R423, R462; log 101). -/
def when (c : Bool) (s t : State) : Result := .next (if c then t else s)

/-! ### Units by number -/

/-- Core g (global number, R13). -/
def State.core (s : State) (g : Nat) : Core := tget {} s.cores g
/-- The state with core g replaced. -/
def State.setCore (s : State) (g : Nat) (c : Core) : State := { s with cores := tset s.cores g c }
/-- Key of thread t of core g. -/
def threadKey (g t : Nat) : Nat := g * 32 + t
/-- Thread t of core g (R75). -/
def State.thread (s : State) (g t : Nat) : Thread := tget {} s.threads (threadKey g t)
/-- The state with a thread replaced. -/
def State.setThread (s : State) (g t : Nat) (th : Thread) : State :=
  { s with threads := tset s.threads (threadKey g t) th }
/-- Key of mover m of die d. -/
def moverKey (d m : Nat) : Nat := d * 64 + m
/-- Mover m of die d (R290). -/
def State.mover (s : State) (d m : Nat) : Mover := tget {} s.movers (moverKey d m)
/-- The state with a mover replaced. -/
def State.setMover (s : State) (d m : Nat) (v : Mover) : State :=
  { s with movers := tset s.movers (moverKey d m) v }
/-- Link l (R13). -/
def State.link (s : State) (l : Nat) : Link := tget {} s.fab.links l
/-- The state with a link replaced. -/
def State.setLink (s : State) (l : Nat) (k : Link) : State :=
  { s with fab := { s.fab with links := tset s.fab.links l k } }
/-- Transport of an Ethernet-mode link (R346). -/
def State.ethPort (s : State) (l : Nat) : EthPort := tget {} s.eth l
/-- The state with a transport replaced. -/
def State.setEthPort (s : State) (l : Nat) (e : EthPort) : State := { s with eth := tset s.eth l e }
/-- Port P0 or P1 (R376). -/
def State.port (s : State) (p : Nat) : HostPort := if p = 0 then s.host.p0 else s.host.p1
/-- The state with a port replaced. -/
def State.setPort (s : State) (p : Nat) (h : HostPort) : State :=
  if p = 0 then { s with host := { s.host with p0 := h } } else { s with host := { s.host with p1 := h } }
/-- Die of a core (R13). -/
def coreDie (g : Nat) : Nat := g / 96
/-- Die of a link (R13). -/
def linkDie (l : Nat) : Nat := l / 9
/-- Something driven outside (log 11). -/
def State.emit (s : State) (o : Out) : State := { s with out := o :: s.out }
/-- A fresh number for an action, request, job or record. -/
def State.takeId (s : State) : Nat × State := (s.alm.nextId, { s with alm := { s.alm with nextId := s.alm.nextId + 1 } })
/-- A free value below 2^w and the state with the counter advanced (log 5). -/
def State.takeFree (s : State) (w : Nat) : Nat × State := (Config.free s.free % 2 ^ w, { s with free := s.free + 1 })

/-! ### Dictionary values -/

/-- Key of an entry. -/
def entryKey (idx sub : Nat) : Nat := idx * 256 + sub
/-- The value of a short entry that the dictionary holds (R389). -/
def State.dget (s : State) (idx sub : Nat) : Nat :=
  match tfind s.dict (entryKey idx sub) with
  | some v => v
  | none => entryReset idx sub
/-- The state with a short entry's value set. -/
def State.dset (s : State) (idx sub v : Nat) : State := { s with dict := tset s.dict (entryKey idx sub) v }
/-- A counter entry raised by n; counters wrap at their width (log 22). -/
def State.dadd (s : State) (idx sub n : Nat) : State :=
  match findEntry idx sub with
  | some e => s.dset idx sub ((s.dget idx sub + n) % 2 ^ (8 * e.size))
  | none => s
/-- A long entry that the dictionary holds; its reset value is all zero. -/
def State.lget (s : State) (idx sub : Nat) : Bytes :=
  match tfind s.longs (entryKey idx sub) with
  | some v => v
  | none => List.replicate (match findEntry idx sub with | some e => e.size | none => 0) 0
/-- The state with a long entry's bytes set. -/
def State.lset (s : State) (idx sub : Nat) (v : Bytes) : State := { s with longs := tset s.longs (entryKey idx sub) v }

/-- JOB_SEED (R122). -/
def State.jobSeed (s : State) : Nat := s.dget 0x2301 0

/-! ### Physical memory (R35 to R38) -/

/-- The regions of the local physical address space (R35, R37). -/
inductive Region where
  | slate | thatch | scratch | accumulator | control | reserved
  deriving DecidableEq, Repr

/-- Region of an LPA (R35, R37). -/
def region (a : Nat) : Region :=
  if a < 0x12000000000 then .slate
  else if 0x20000000000 ≤ a ∧ a < 0x30000000000 then .thatch
  else if 0xF0000000000 ≤ a ∧ a < 0xF8000000000 then
    let o := a % 0x2000000000
    if o < 0x18000000 then (if o % 0x400000 < 0x300000 then .scratch else .reserved)
    else if 0x40000000 ≤ o ∧ o < 0x46000000 then (if o % 0x100000 < 0xC0000 then .accumulator else .reserved)
    else .reserved
  else if 0xFF000000000 ≤ a ∧ a < 0x100000000000 then .control
  else .reserved

/-- Die that owns an LPA (R36). -/
def lpaDie (a : Nat) : Nat :=
  match region a with
  | .slate => a / 0x4800000000
  | .thatch => (a - 0x20000000000) / 0x4000000000
  | _ => (a - 0xF0000000000) / 0x2000000000 % 4

/-- An LPA that memory answers (R38). -/
def isMemory (a : Nat) : Bool :=
  match region a with
  | .slate | .thatch | .scratch | .accumulator => true
  | _ => false

/-- LPA of scratch offset o of core g (R37). -/
def scratchLpa (g o : Nat) : Nat := 0xF0000000000 + coreDie g * 0x2000000000 + (g % 96) * 0x400000 + o
/-- LPA of offset o of the accumulator file of core g (R37). -/
def accLpa (g o : Nat) : Nat := 0xF0000000000 + coreDie g * 0x2000000000 + 0x40000000 + (g % 96) * 0x100000 + o

/-- The tag of the newest range that covers an address. -/
def staleTag : List (Nat × Nat × Nat) → Nat → Option Nat
  | [], _ => none
  | (lo, n, tag) :: t, a => if lo ≤ a ∧ a < lo + n then some tag else staleTag t a

/-- What a byte that nothing has written reads as: a free value in a range whose contents are undefined; accumulator windows zero (R131); Slate and Thatch zero once initialised (R423), else a free value; scratch a free value (log 3). -/
def Memory.unlisted (m : Memory) (a : Nat) : Byte :=
  match staleTag m.stale a with
  | some tag => Config.staleByte tag a
  | none =>
    match region a with
    | .slate | .thatch =>
      match m.undef with
      | none => 0
      | some tag => Config.lostByte (2 * tag) a
    | .scratch => Config.lostByte (2 * m.sram + 1) a
    | _ => 0

/-- The contents of n bytes from an address become undefined. -/
def Memory.forget (m : Memory) (a n tag : Nat) : Memory :=
  { m with cells := m.cells.filter (fun c => !(decide (a ≤ c.1) && decide (c.1 < a + n))), stale := (a, n, tag) :: m.stale }

/-- Every byte of a range takes what its region reads as when nothing has written it: the range's cells go, and the ranges of undefined contents inside it. -/
def Memory.clear (m : Memory) (a n : Nat) : Memory :=
  { m with
    cells := m.cells.filter (fun c => !(decide (a ≤ c.1) && decide (c.1 < a + n)))
    stale := m.stale.filter (fun r => !(decide (a ≤ r.1) && decide (r.1 + r.2.1 ≤ a + n))) }

/-- The listed value of an address, if any. -/
def findCell : List Host.Cell → Nat → Option Byte
  | [], _ => none
  | (k, v) :: t, a => if a = k then some v else findCell t a

/-- The byte at an address. -/
def Memory.get (m : Memory) (a : Nat) : Byte := (findCell m.cells a).getD (m.unlisted a)

/-- The cells with one address set to v, or dropped when v is what an unlisted address reads as (`keep` false). -/
def setCell (keep : Bool) (a : Nat) (v : Byte) : List Host.Cell → List Host.Cell
  | [] => if keep then [(a, v)] else []
  | (k, w) :: t =>
    if a < k then (if keep then (a, v) :: (k, w) :: t else (k, w) :: t)
    else if a = k then (if keep then (a, v) :: t else t)
    else (k, w) :: setCell keep a v t

/-- Memory with the byte at an address set. -/
def Memory.set (m : Memory) (a : Nat) (v : Byte) : Memory :=
  { m with cells := setCell (v != m.unlisted a) a v m.cells }

/-- The n bytes from an address. -/
def Memory.read (m : Memory) (a : Nat) : Nat → Bytes
  | 0 => []
  | n + 1 => m.get a :: m.read (a + 1) n

/-- Memory with bytes stored from an address. -/
def Memory.write (m : Memory) (a : Nat) : Bytes → Memory
  | [] => m
  | b :: bs => (m.set a b).write (a + 1) bs

/-- Addresses of the cells strictly rise from lo on. -/
def cellsSorted : Nat → List Host.Cell → Bool
  | _, [] => true
  | lo, (k, _) :: t => lo ≤ k && cellsSorted (k + 1) t

/-- The canonical form: addresses strictly rising, no cell equal to what its address reads as unlisted. -/
def Memory.wf (m : Memory) : Bool :=
  cellsSorted 0 m.cells && m.cells.all (fun c => c.2 != m.unlisted c.1)


/-! ### Time (R40, R41, R49, R50) -/

/-- Die of the leading Lodestar and Sidereal unit (R426). -/
def State.leader (s : State) : Nat := s.boot.leader
/-- SDT of the leading die. -/
def State.sdt (s : State) : Nat := (pget s.time.sdt s.leader).toNat
/-- Slot number of an SDT (R41). -/
def slotOf (t : Nat) : Nat := t / 2048
/-- Tick within the slot (R41). -/
def tickOf (t : Nat) : Nat := t % 2048
/-- A dusk slot (R49). -/
def isDusk (slot : Nat) : Bool := slot % 64 == 63
/-- The present slot. -/
def State.slot (s : State) : Nat := slotOf s.sdt
/-- The present slot is a dusk slot. -/
def State.inDusk (s : State) : Bool := isDusk s.slot
/-- Every die's counter at a value. -/
def State.setSdt (s : State) (t : Nat) : State :=
  { s with time := { s.time with sdt := PerDie.all (BitVec.ofNat 64 t) } }
/-- An interval of n ticks has passed since an SDT; while the counters stand still no interval is measured (log 100). -/
def State.elapsed (s : State) (since n : Nat) : Bool := !s.time.counting || decide (since + n ≤ s.sdt)
/-- Dusk slots before the present one, counted from SDT 0. -/
def State.duskIndex (s : State) : Nat := s.slot / 64
/-- Withheld cycles of a throttle step before tick t, counted from tick 0 of a window boundary: 8 at the end of each 64 for each step (R440). -/
def withheldBefore (step t : Nat) : Nat := t / 64 * (8 * step) + (t % 64 + 8 * step - 64)
/-- The present ARC cycle is one that the throttle step withholds (R440). -/
def State.withheldNow (s : State) : Bool := decide (64 ≤ s.sdt % 64 + 8 * s.dget 0x2811 1)
/-- Time passes up to an SDT within the present slot: the withheld cycles of a working slot accumulate, and a throttle step above 0 is noted (R442). -/
def State.passTo (s : State) (t : Nat) : State :=
  let step := s.dget 0x2811 1
  if step = 0 ∨ t ≤ s.sdt then s.setSdt t
  else
    let n := if s.inDusk then 0 else withheldBefore step t - withheldBefore step s.sdt
    let s : State := { s with power := { s.power with withheld := s.power.withheld + n }, conj := { s.conj with throttled := true } }
    s.setSdt t

/-- Length of an iteration in working slots (R50). -/
def AlmHeader.length (h : AlmHeader) : Nat := h.epochCount * h.epochSlots
/-- Step of an iteration (R52). -/
def AlmHeader.step (h : AlmHeader) (iter : Nat) : Nat := (h.stepBase + iter) % 2 ^ 32
/-- ALMANAC_SLOT (R496). -/
def State.almanacSlot (s : State) : Nat :=
  match s.alm.cur, s.alm.hdr with
  | some c, some h => if h.length = 0 then 0xFFFFFFFF else c % h.length
  | _, _ => 0xFFFFFFFF
/-- STEP of the present iteration (R52); zero while no Almanac has been armed (log 74). -/
def State.stepNow (s : State) : Nat :=
  match s.alm.hdr with
  | some h => h.step s.alm.iteration
  | none => 0
/-- An Almanac is active (R504). -/
def State.almActive (s : State) : Bool :=
  match s.alm.state with
  | .armed | .running | .paused | .halted | .complete => true
  | _ => false
/-- ALMANAC_ID of the active Almanac, 0 when there is none (R504). -/
def State.almanacId (s : State) : Nat :=
  match s.alm.hdr with
  | some h => if s.almActive then h.id else 0
  | none => 0
/-- Code of ALMANAC_STATE (R55). -/
def AlmanacState.code : AlmanacState → Nat
  | .idle => 0 | .checking => 1 | .armed => 2 | .running => 3 | .paused => 4 | .halted => 5 | .complete => 6 | .rejected => 7
/-- The states in which RWA entries are refused (R392). -/
def State.rwaLocked (s : State) : Bool :=
  match s.alm.state with
  | .checking | .armed | .running | .paused => true
  | _ => false
/-- RUNNING or PAUSED. -/
def State.running (s : State) : Bool :=
  match s.alm.state with
  | .running | .paused => true
  | _ => false

/-- The package takes part in work: started, not faulted, not in reset, its rails on (R23, R40, R438, R444, R468). -/
def State.alive (s : State) : Bool := s.boot.mode == .ready && !s.boot.inReset && !s.power.shutdown && !s.power.railFault
/-- A Lodestar of D0 or D2 is in service (R426). -/
def State.served (s : State) : Bool := s.boot.lodestar0 || s.boot.lodestar2
/-- The package takes part, and a Lodestar with its Sidereal unit is there to dispatch and to contribute (R426). -/
def State.leads (s : State) : Bool := s.alive && s.served
/-- The package stays quiet on the Rafter fabric (R23, R332, R427, R503). -/
def State.quiet (s : State) : Bool := s.boot.mode == .faulted || s.boot.mode == .dim || s.fab.fenced || s.boot.inReset || s.power.shutdown || s.power.railFault

/-! ### The log and faults (R467 to R473) -/

/-- Sources of a log record (R469). -/
inductive Source where
  | package | thread | array | update | mover | memory | translation | link | hostPort | lodestar | power | clocks
  deriving DecidableEq, Repr

/-- Code of a source (R469). -/
def Source.code : Source → Nat
  | .package => 0 | .thread => 1 | .array => 2 | .update => 3 | .mover => 4 | .memory => 5
  | .translation => 6 | .link => 7 | .hostPort => 8 | .lodestar => 9 | .power => 10 | .clocks => 11

/-- A record sent to the Lodestars (R472). -/
def State.record (s : State) (code severity die : Nat) (src : Source) (step loc sub : Nat) (detail : Bytes) : State :=
  { s with log := { s.log with arrivals := s.log.arrivals ++
      [⟨0, s.boot.bootCount, code, severity, die, src.code, s.sdt, s.almanacId, s.almanacSlot, step, loc, sub, padTo 84 detail⟩] } }
/-- An event record of the package: severity 0. -/
def State.event (s : State) (code : Nat) (src : Source) (die loc : Nat) (detail : Bytes) : State :=
  s.record code 0 die src 0xFFFFFFFF loc 0xFFFF detail
/-- A job-fatal fault: a record of severity 1 and FAULT in the next contribution (R65, R467). -/
def State.fatal (s : State) (code die : Nat) (src : Source) (step loc sub : Nat) (detail : Bytes) : State :=
  let s := s.record code 1 die src step loc sub detail
  { s with conj := { s.conj with fault := true } }
/-- A package-fatal fault: DEVICE_MODE 3, foreground work stopped, quiet on the fabric (R23, R40, R467). -/
def State.packageFatal (s : State) (code die : Nat) (src : Source) (loc : Nat) (detail : Bytes) : State :=
  let s := s.record code 1 die src 0xFFFFFFFF loc 0xFFFF detail
  { s with boot := { s.boot with mode := .faulted } }

/-- Result lanes that are NaN though no operand lane was, on a core (R218). -/
def State.invalidLanes (s : State) (g n : Nat) : State := if n = 0 then s else s.dadd 0x3305 (coreDie g + 1) n

/-! ### Votes and gates (R58, R214 to R216, R362) -/

/-- A vote for a step enters the pending set, or is redundant, late or one too many (R215, R216, R362). `src` is the row of R214, 4 for a veto; `core` is that of the work of a thread, 0xFFFF for none (R375). -/
def State.vote (s : State) (veto : Bool) (step src die core : Nat) : State :=
  let det := natLe 4 step ++ natLe 1 src
  let by_ : Source := if core = 0xFFFF then .package else .thread
  if step ∈ s.conj.committed then
    s.fatal (if veto then 0xA0 else 0x50) die by_ step core 0xFFFF det
  else if step ∈ s.conj.skips then s.dadd 0x3301 3 1
  else if s.conj.votes.any (fun v => v.step == step) then
    let mark := fun (v : Vote) => { v with nonfinite := v.nonfinite || !veto, veto := v.veto || veto }
    { s with conj := { s.conj with votes := mapIf (fun v => v.step == step) mark s.conj.votes } }
  else if s.conj.votes.length < 8 then
    { s with conj := { s.conj with votes := s.conj.votes ++ [⟨step, !veto, veto⟩] } }
  else s.fatal 0x51 die by_ step core 0xFFFF det

/-- A non-finite observation of work on a core, 0xFFFF for none: counted, and voted when its source votes (R214). -/
def State.nonfiniteOn (s : State) (die core step src : Nat) : State :=
  let s := s.dadd 0x3300 (die + 1) 1
  let votes := match src with
    | 1 => s.dget 0x2302 2 == 1
    | 2 => s.dget 0x2302 3 == 1
    | _ => true
  if votes then s.vote false step src die core else s
/-- A non-finite observation of an engine (R214). -/
def State.nonfinite (s : State) (die step src : Nat) : State := s.nonfiniteOn die 0xFFFF step src

/-- Counter of a gate for a parity (R58). -/
def State.gate (s : State) (g : Nat) (odd : Bool) : BitVec 32 := tget 0 s.gates (g * 2 + ofBool odd)
/-- One increment of a gate's counter; gate 0 is never used (R58). -/
def State.bumpGate (s : State) (g : Nat) (odd : Bool) : State :=
  if g = 0 ∨ 4096 ≤ g then s else { s with gates := tset s.gates (g * 2 + ofBool odd) (s.gate g odd + 1) }
/-- An increment by GINC of a thread on `core`, or by a DONE_GATE of this package (core 0xFFFF; log 74): the vote of NF_GATE or VETO_GATE goes with it (R214, R362). -/
def State.localInc (s : State) (g : Nat) (odd : Bool) (step die core : Nat) : State :=
  let s := s.bumpGate g odd
  if g = 0 then s
  else if g = s.dget 0x2302 4 then s.nonfiniteOn die core step 3
  else if g = s.dget 0x2001 0 then (s.dadd 0x3020 1 1).vote true step 4 die core
  else s
/-- A gate is open for a wait value (R58). -/
def gateOpen (c v : BitVec 32) : Bool := (c - v).toNat < 2 ^ 31

/-! ### Actions (R59, R60) -/

/-- The action with a number. -/
def State.action (s : State) (id : Nat) : Option Action := s.alm.actions.find? (fun a => a.id == id)
/-- An action completes: it leaves the list and increments its DONE_GATE, unless the Almanac that issued it has been swapped out (R60, R68) or a thread of the launch failed (R94). -/
def State.completeAction (s : State) (id : Nat) : State :=
  match s.action id with
  | none => s
  | some a =>
    let s := { s with alm := { s.alm with actions := s.alm.actions.filter (fun b => b.id != id) } }
    if a.gen = s.alm.gen ∧ !a.failed then s.localInc a.transit.doneGate (a.iter % 2 == 1) a.step a.transit.die 0xFFFF else s
/-- One part of an action completes; the last completes it. -/
def State.partDone (s : State) (id : Nat) : State :=
  match s.action id with
  | none => s
  | some a =>
    if a.left ≤ 1 then s.completeAction id
    else { s with alm := { s.alm with actions := mapIf (fun b => b.id == id) (fun b => { b with left := b.left - 1 }) s.alm.actions } }

/-- An explicit slip request for the next contribution (R65). -/
def State.requestSlip (s : State) (n : Nat) : State :=
  { s with conj := { s.conj with explicitReq := max s.conj.explicitReq n } }
/-- A working slot in which an agent was stopped, counted once until the next contribution (R498). -/
def State.countStop (s : State) (agent : Nat) : State :=
  if agent ∈ s.conj.stopMarked then s
  else { s with conj := { s.conj with stopSlots := tadd s.conj.stopSlots agent 1, stopMarked := s.conj.stopMarked ++ [agent] } }

end Sys2Proof.Machine
end

