-- ==== Sys2Proof/Machine/Links.lean ====
section
/-! DEFINITION. Frames, routes and the sending side of the Rafter links (file 12, R315 to R330): forming frames and flits, choosing a link, credits, the replay buffer and delivery. -/
namespace Sys2Proof.Machine

/-! ### Geometry, port maps and routes (R18, R323 to R326) -/

/-- Size of the domain in dimension 0 to 2 (R323). -/
def State.domainSize (s : State) (dim : Nat) : Nat := s.dget 0x2700 (dim + 1)
/-- Own rank (R323). -/
def State.rank (s : State) : Nat := s.dget 0x2700 4
/-- INCARNATION (R330). -/
def State.incarnation (s : State) : Nat := s.dget 0x2701 0

/-- Coordinates of a rank in a domain of sizes x, y, z (R323). -/
def coords (x y z rank : Nat) : Nat × Nat × Nat := (rank % x, rank / x % y, rank / (x * y) % z)

/-- Default role code of a link (R18, R325): neighbours at offsets 0 to 5, skips at 6 to 8. -/
def defaultRole (l : Nat) : Nat :=
  let j := l % 9
  if j < 6 then j + 1 else 7 + 2 * (j - 6) + (if l / 9 % 2 = 0 then 0 else 1)

/-- Dimension, direction (true for +) and distance of a role (R325). -/
def roleHop (role : Nat) : Option (Nat × Bool × Nat) :=
  if 1 ≤ role ∧ role ≤ 6 then some ((role - 1) / 2, role % 2 == 1, 1)
  else if 7 ≤ role ∧ role ≤ 12 then some ((role - 7) / 2, role % 2 == 1, 2)
  else if 13 ≤ role ∧ role ≤ 18 then some ((role - 13) / 2, role % 2 == 1, 2)
  else none

/-- Coordinate a moved d steps in a ring of size n, and whether it passed the wrap-around (R323, R325). -/
def ringMove (n a : Nat) (plus : Bool) (d : Nat) : Nat × Bool :=
  if plus then ((a + d) % n, n ≤ a + d) else ((a + 2 * n - d) % n, a < d)

/-- The port map record that the geometry gives a link by default (R325). -/
def defaultPortMap (x y z rank l : Nat) : Nat :=
  let (cx, cy, cz) := coords x y z rank
  let role := defaultRole l
  let peerLink := if l % 9 < 6 then l / 9 * 9 + ((l % 9) ^^^ 1) else ((l / 9) ^^^ 1) * 9 + l % 9
  match roleHop role with
  | none => 2 ^ 31
  | some (dim, plus, d) =>
    let (n, a) := match dim with | 0 => (x, cx) | 1 => (y, cy) | _ => (z, cz)
    let (b, wrap) := ringMove n a plus d
    let peer := match dim with
      | 0 => b + x * (cy + y * cz)
      | 1 => cx + x * (b + y * cz)
      | _ => cx + x * (cy + y * b)
    2 ^ 31 + ofBool wrap * 2 ^ 29 + role * 2 ^ 24 + peer % 1024 * 2 ^ 14 + peerLink * 2 ^ 8

/-- Active port map record of a link (R324). -/
def State.portMap (s : State) (l : Nat) : Nat :=
  match tfind s.dict (entryKey 0x2720 (l + 1)) with
  | some v => v
  | none => defaultPortMap 1 1 1 0 l
/-- Staged port map record of a link (R324). -/
def State.portMapStaged (s : State) (l : Nat) : Nat :=
  match tfind s.dict (entryKey 0x2721 (l + 1)) with
  | some v => v
  | none => defaultPortMap 1 1 1 0 l

/-- ENABLE of a port map record. -/
def pmEnable (v : Nat) : Bool := bit v 31
/-- FENCED of a port map record. -/
def pmFenced (v : Nat) : Bool := bit v 30
/-- WRAP of a port map record. -/
def pmWrap (v : Nat) : Bool := bit v 29
/-- ROLE of a port map record. -/
def pmRole (v : Nat) : Nat := field v 24 5
/-- PEER_RANK of a port map record. -/
def pmPeerRank (v : Nat) : Nat := field v 14 10
/-- PEER_LINK of a port map record. -/
def pmPeerLink (v : Nat) : Nat := field v 8 6

/-- Next step from coordinate a towards b in a ring of n: the shorter way, ties in the + direction (R45, R326). -/
def ringStep (n a b : Nat) : Option Bool :=
  if a = b then none else some (2 * ((b + n - a) % n) ≤ n)

/-- The neighbour group towards a rank: X first, then Y, then Z (R45, R326); none for the own coordinates. -/
def stepTowards (x y z src dst : Nat) : Option Nat :=
  let (ax, ay, az) := coords x y z src
  let (bx, b_y, bz) := coords x y z dst
  match ringStep x ax bx with
  | some p => some (if p then 0 else 1)
  | none => match ringStep y ay b_y with
    | some p => some (if p then 2 else 3)
    | none => match ringStep z az bz with
      | some p => some (if p then 4 else 5)
      | none => none

/-- Default route table byte of a rank (R326): the neighbour group towards it; ranks beyond the domain, and the own rank, unreachable. -/
def defaultRoute (x y z own dst : Nat) : Nat :=
  if x * y * z ≤ dst then 0xFF
  else match stepTowards x y z own dst with
    | some g => g
    | none => 0xFF

/-- Active route table byte of a rank (R326). -/
def State.route (s : State) (dst : Nat) : Nat :=
  match tfind s.longs (entryKey 0x2730 0) with
  | some bs => leAt bs dst 1
  | none => defaultRoute 1 1 1 0 dst
/-- Staged route table (R326): as written, else the default of the present geometry. -/
def State.routeStaged (s : State) : Bytes :=
  match tfind s.longs (entryKey 0x2731 0) with
  | some bs => bs
  | none => (List.range 512).map (fun r =>
      BitVec.ofNat 8 (defaultRoute (s.domainSize 0) (s.domainSize 1) (s.domainSize 2) s.rank r))

/-- Links that a port map puts in a default group (R326): those whose ROLE is n + 1. -/
def groupOf (pm : Nat → Nat) (g : Nat) : Nat :=
  if 12 ≤ g then 0
  else (List.range 36).foldl (fun m l => if pmRole (pm l) = g + 1 then m + 2 ^ l else m) 0
/-- Active record of a route group (R326). -/
def State.group (s : State) (g : Nat) : Nat :=
  match tfind s.dict (entryKey 0x2732 (g + 1)) with
  | some v => v
  | none => groupOf s.portMap g
/-- Staged record of a route group (R326). -/
def State.groupStaged (s : State) (g : Nat) : Nat :=
  match tfind s.dict (entryKey 0x2733 (g + 1)) with
  | some v => v
  | none => groupOf s.portMapStaged g

/-- A link that frames may take: ENABLE set, ACTIVE, FENCED clear (R326). -/
def State.live (s : State) (l : Nat) : Bool :=
  pmEnable (s.portMap l) && !pmFenced (s.portMap l) && (s.link l).state == .active
/-- Every live link, rising; Ethernet-mode links are never ACTIVE. -/
def State.liveLinks (s : State) : List Nat := (List.range 36).filter s.live
/-- Live links of a route group, rising. -/
def State.groupLinks (s : State) (g : Nat) : List Nat := (maskList 36 (s.group g)).filter s.live

/-! ### Frames (R320, R321) -/

/-- A frame by its fields (R320). -/
structure Frame where
  ftype : Nat
  dest : Nat
  src : Nat
  inc : Nat
  gen : Nat
  hops : Nat
  die : Nat
  parity : Bool
  tf : Nat
  body : Bytes
  deriving DecidableEq, Repr

/-- The bytes of a frame (R320). -/
def encodeFrame (f : Frame) : Bytes :=
  natLe 16 (f.tf % 2 ^ 48 + ofBool f.parity * 2 ^ 48 + f.die % 4 * 2 ^ 49 + f.hops % 16 * 2 ^ 51 +
    f.body.length % 8192 * 2 ^ 55 + f.gen % 65536 * 2 ^ 68 + f.inc % 65536 * 2 ^ 84 + f.src % 1024 * 2 ^ 100 +
    f.dest % 1024 * 2 ^ 110 + f.ftype % 256 * 2 ^ 120) ++ f.body

/-- LENGTH of the frame whose header the bytes begin with. -/
def frameLength (bs : Bytes) : Nat := field (leAt bs 0 16) 55 13

/-- The frame that bytes hold (R320). -/
def parseFrame (bs : Bytes) : Frame :=
  let h := leAt bs 0 16
  ⟨field h 120 8, field h 110 10, field h 100 10, field h 84 16, field h 68 16, field h 51 4, field h 49 2, bit h 48,
    field h 0 48, slice bs 16 (field h 55 13)⟩

/-- Virtual channel of a frame type (R321); none for a reserved code. -/
def frameVc (t : Nat) : Option Nat :=
  match t with
  | 0x01 | 0x02 | 0x03 => some 0
  | 0x21 | 0x28 | 0x29 | 0x30 | 0x32 | 0x3A => some 1
  | 0x10 | 0x11 | 0x12 => some 2
  | 0x18 | 0x19 => some 3
  | 0x20 | 0x31 | 0x38 | 0x39 => some 4
  | _ => none

/-! ### Sending (R315 to R318, R327) -/

/-- Credits of a virtual channel; for REQ, RSP and BULK, of each dateline half (R318). -/
def vcCredits (vc : Nat) : Nat :=
  match vc with
  | 0 => 32 | 1 => 64 | 2 => 64 | 3 => 64 | 4 => 336 | _ => 0

/-- A flit of a virtual channel and half has a credit. -/
def Link.credit (k : Link) (vc : Nat) (half : Bool) : Bool :=
  let fl := tget [] k.flight vc
  if vc < 2 then fl.length < vcCredits vc else (fl.filter (· == half)).length < vcCredits vc

/-- The flits of a frame: 192 bytes of payload each (R315). -/
def flitCount (n : Nat) : Nat := (n + 191) / 192

/-- A flit without its CRC as a number (R315). -/
def flitBody (ftype vc : Nat) (half : Bool) (seq ack payload : Nat) : Nat :=
  ftype * 2 ^ 1598 + vc * 2 ^ 1595 + ofBool half * 2 ^ 1594 + seq % 4096 * 2 ^ 1582 + ack % 4096 * 2 ^ 1570 +
    payload % 2 ^ 1536 * 2 ^ 32

/-- A flit with its CRC over bytes 4 to 199 (R315). -/
def flitOf (ftype vc : Nat) (half : Bool) (seq ack payload : Nat) : BitVec 1600 :=
  let n := flitBody ftype vc half seq ack payload
  BitVec.ofNat 1600 (n + crc32c (natLe 196 (n >>> 32)))

/-- ACK field: the last SEQ received in order. -/
def Link.ackSeq (k : Link) : Nat := (k.rxSeq + 4095) % 4096

/-- The frame of a virtual channel that sends next: the one part sent, since a frame's flits are contiguous within their channel; else the first whose dateline half has a credit, so that a half without credits does not block the other (R318). -/
def Link.front (k : Link) (vc : Nat) : Option TxFrame :=
  match k.txq.find? (fun f => f.vc == vc && decide (0 < f.sent)) with
  | some f => some f
  | none => k.txq.find? (fun f => f.vc == vc && k.credit vc f.half)

/-- The virtual channel that may send its next flit: TIME, then CTRL, then REQ, RSP and BULK in turn (R318). -/
def Link.arbitrate (k : Link) : Option Nat :=
  let ready := fun vc => match k.front vc with
    | some f => k.credit vc f.half
    | none => false
  if ready 0 then some 0
  else if ready 1 then some 1
  else [k.turn, 2 + (k.turn - 1) % 3, 2 + k.turn % 3].find? ready

/-- A control flit: the cumulative freed counts, the acknowledgement, the NAK flag, and a message of 1,440 bits (R316). -/
def Link.controlFlit (k : Link) (nak : Bool) (kind msg : Nat) : BitVec 1600 :=
  let credits := (List.range 5).foldl (fun n vc => n + tget 0 k.freed vc % 65536 * 2 ^ (16 * vc)) 0
  flitOf 0 0 false 0 k.ackSeq (credits * 2 ^ 1456 + ofBool nak * 2 ^ 1448 + kind % 256 * 2 ^ 1440 + msg % 2 ^ 1440)

/-- A control flit without a message. -/
def State.sendControl (s : State) (l : Nat) (nak : Bool) : State :=
  if s.quiet || pmFenced (s.portMap l) then s else s.emit (.flit l ((s.link l).controlFlit nak 0 0))

/-- Flits that are done with are freed on the link they came by, and its peer hears of it (R316); a fenced link returns no credits (R331, R332). -/
def State.freeFlits (s : State) (l vc n : Nat) : State :=
  if 36 ≤ l || n == 0 || s.quiet || pmFenced (s.portMap l) then s
  else
    let k := s.link l
    (s.setLink l { k with freed := tadd k.freed vc n }).sendControl l false

/-- One flit sent if the replay buffer and the credits allow (R317, R318). -/
def sendFlit (s : State) (l : Nat) : State :=
  let k := s.link l
  if 512 ≤ k.replay.length then s
  else match k.arbitrate with
    | none => s
    | some vc =>
      match k.front vc with
      | none => s
      | some f =>
        let ftype := if f.sent = 0 then 1 else 2
        let flit := flitOf ftype vc f.half k.txSeq k.ackSeq (leAt f.bytes (192 * f.sent) 192)
        let sent := f.sent + 1
        let last := flitCount f.bytes.length ≤ sent
        let txq := if last then k.txq.erase f
          else (k.txq.takeWhile (fun g => g != f)) ++ { f with sent := sent } :: (k.txq.dropWhile (fun g => g != f)).drop 1
        let k := { k with txq := txq, replay := k.replay ++ [(k.txSeq, flit)], txSeq := (k.txSeq + 1) % 4096,
                          progress := if k.replay = [] then s.sdt else k.progress,
                          flight := tset k.flight vc (tget [] k.flight vc ++ [f.half]),
                          turn := if vc < 2 then k.turn else 2 + (vc - 1) % 3 }
        let s := (s.setLink l k).emit (.flit l flit)
        if last then s.freeFlits f.inLink vc f.inFlits else s

/-- Flits sent until nothing more may go; `fuel` bounds their number. -/
def pumpLink (l : Nat) : Nat → State → State
  | 0, s => s
  | n + 1, s => pumpLink l n (sendFlit s l)

/-- Flits still to send on a link. -/
def Link.backlog (k : Link) : Nat := k.txq.foldl (fun n f => n + (flitCount f.bytes.length - f.sent)) 0

/-- The link sends what it can: nothing unless it is ACTIVE and the package is not quiet (R312, R331, R503). -/
def State.pump (s : State) (l : Nat) : State :=
  if s.quiet || !s.live l then s else pumpLink l (s.link l).backlog s

/-- A frame put on a link's queue and sent as credits allow (R318); a forwarded frame holds the credits of the link it came by. -/
def State.enqueue (s : State) (l vc : Nat) (half : Bool) (bytes : Bytes) (inLink inFlits : Nat) : State :=
  let k := s.link l
  (s.setLink l { k with txq := k.txq ++ [⟨vc, half, bytes, 0, inLink, inFlits⟩] }).pump l

/-- Dateline half of a frame leaving on a link (R327): reset when the dimension changes, 1 once it crosses the wrap-around. -/
def datelineOut (s : State) (inLink : Nat) (inHalf : Bool) (l : Nat) : Bool :=
  let dim := fun k => (roleHop (pmRole (s.portMap k))).map (fun h => h.1)
  let half := if inLink < 36 && dim inLink == dim l then inHalf else false
  half || pmWrap (s.portMap l)

/-- LINK_WIRING of a link as a number (R313). -/
def State.wiring (s : State) (l : Nat) : Nat :=
  if 36 ≤ l then 0
  else
    let k := s.link l
    k.wiringFault.toNat * 2 ^ 56 + k.polarity.toNat * 2 ^ 48 + k.laneMap.toNat * 2 ^ 24 + k.peerRank.toNat * 2 ^ 14 + k.peerLink.toNat * 2 ^ 8

/-- DETAIL of 0x90 to 0x96 (R470). -/
def State.linkDetail (s : State) (l tag : Nat) : Bytes := natLe 1 l ++ natLe 4 tag ++ natLe 8 (s.wiring l)

/-- Tag or WINDOW_SEQ of a frame in a log record (R470): the TAG of a request or answer, the WINDOW_SEQ of a window frame, else what TYPE_FIELD holds (R321). -/
def Frame.logTag (f : Frame) : Nat :=
  match frameVc f.ftype with
  | some 2 | some 3 => leAt f.body 0 4
  | _ => if f.ftype = 0x20 then leAt f.body 12 4 else f.tf % 2 ^ 32

/-- Fault 0x92 NO_ROUTE (R319, R326). -/
def State.noRoute (s : State) (l tag : Nat) : State :=
  s.fatal 0x92 (if l < 36 then linkDie l else 0xFF) .link 0xFFFFFFFF (if l < 36 then l else 0xFFFF) 0xFFFF (s.linkDetail l tag)

/-- Entry of RANK_INCARNATIONS (R330). -/
def State.rankIncarnation (s : State) (r : Nat) : Nat := leAt (s.lget 0x2723 0) (2 * r) 2

/-- LAYOUT_GEN is non-zero and below LAYOUT_GEN_FLOOR, by the serial rule on 16 bits (R333). -/
def State.staleGen (s : State) (gen : Nat) : Bool := gen != 0 && 32768 ≤ (gen + 65536 - s.dget 0x2703 0 % 65536) % 65536

/-- A whole frame that reaches this package, its destination: dropped when its incarnation or layout generation is not current, else delivered (R330, R333). -/
def State.deliver (s : State) (r : RxFrame) : State :=
  let f := parseFrame r.bytes
  if 512 ≤ f.src ∨ f.inc ≠ s.rankIncarnation f.src then (s.dadd 0x3702 2 1).freeFlits r.link r.vc r.flits
  else if s.staleGen f.gen then (s.dadd 0x3703 0 1).freeFlits r.link r.vc r.flits
  else { s with fab := { s.fab with inbox := s.fab.inbox ++ [r] } }

/-- A frame sent towards its destination rank (R326): `key` chooses among the live links of the group for REQ, RSP and CTRL frames, the group's counter for BULK. `inLink`, `inHalf` and `inFlits` tell where a forwarded frame came from and the credits it holds. -/
def State.forward (s : State) (f : Frame) (key inLink : Nat) (inHalf : Bool) (inFlits : Nat) : State :=
  match frameVc f.ftype with
  | none => s.dadd 0x3706 0 1
  | some vc =>
    if s.quiet then s
    else if f.dest = s.rank then s.deliver ⟨255, false, vc, 0, encodeFrame f⟩
    else
      let g := s.route f.dest
      let ls := if 16 ≤ g then [] else s.groupLinks g
      if ls = [] then (s.noRoute 0xFF f.logTag).freeFlits inLink vc inFlits
      else
        let i := if vc = 4 then tget 0 s.fab.groupCtr g else key
        let s := if vc = 4 then { s with fab := { s.fab with groupCtr := tset s.fab.groupCtr g ((i + 1) % 2 ^ 32) } } else s
        let l := ls.getD (i % ls.length) 0
        s.enqueue l vc (datelineOut s inLink inHalf l) (encodeFrame f) inLink inFlits

/-- Link choice of REQ and RSP frames by the LPA of the request (R326). -/
def reqKey (lpa : Nat) : Nat := field lpa 8 8 ^^^ field lpa 16 8 ^^^ field lpa 24 8

/-- A frame of this package. -/
def State.frame (s : State) (ftype dest gen die : Nat) (parity : Bool) (tf : Nat) (body : Bytes) : Frame :=
  ⟨ftype, dest, s.rank, s.incarnation, gen, 0, die, parity, tf, body⟩

/-- A frame of this package sent by the route table. -/
def State.send (s : State) (ftype dest gen die : Nat) (parity : Bool) (tf : Nat) (body : Bytes) (key : Nat) : State :=
  s.forward (s.frame ftype dest gen die parity tf body) key 255 false 0

/-- A frame of this package sent on one link, whatever the route table says (R66, R326). -/
def State.sendOn (s : State) (l ftype gen die : Nat) (parity : Bool) (tf : Nat) (body : Bytes) (dest : Nat) : State :=
  match frameVc ftype with
  | none => s
  | some vc =>
    if s.quiet || !s.live l then s
    else s.enqueue l vc (datelineOut s 255 false l) (encodeFrame (s.frame ftype dest gen die parity tf body)) 255 0

/-- A TIME frame sent on every live link (R66). -/
def State.sendAll (s : State) (ftype tf : Nat) (body : Bytes) : State :=
  s.liveLinks.foldl (fun s l => s.sendOn l ftype 0 s.leader false tf body (pmPeerRank (s.portMap l))) s

/-! ### Taking delivered frames -/

/-- The oldest delivered frame of a type. -/
def State.takeFrame (s : State) (ftype : Nat) : Option (RxFrame × Frame × State) :=
  match s.fab.inbox.find? (fun r => field (leAt r.bytes 0 16) 120 8 == ftype) with
  | none => none
  | some r => some (r, parseFrame r.bytes, { s with fab := { s.fab with inbox := s.fab.inbox.erase r } })

/-- The flits of a frame that has been acted on are freed. -/
def State.free_ (s : State) (r : RxFrame) : State := s.freeFlits r.link r.vc r.flits

end Sys2Proof.Machine
end

