-- ==== Sys2Proof/Machine/Numerics.lean ====
section
/-! DEFINITION. Number formats and rounding (file 04): exact values, every encoding, the three rounding modes and the stochastic-rounding generator. -/
namespace Sys2Proof.Machine

/-- An exact value: NaN, an infinity, or (-1)^neg × m × 2^e. -/
inductive Val where
  | nan
  | inf (neg : Bool)
  | fin (neg : Bool) (m : Nat) (e : Int)
  deriving DecidableEq, Repr

/-- The rounding modes (R101), in code order. -/
inductive RMode where
  | rne | rto | sr
  deriving DecidableEq, Repr

/-- The mode of a rounding field; reserved codes have none (R101). -/
def rmodeOf : Nat → Option RMode
  | 0 => some .rne
  | 1 => some .rto
  | 2 => some .sr
  | _ => none

/-- Plus zero. -/
def Val.zero : Val := .fin false 0 0
/-- The value of an integer. -/
def Val.ofInt (i : Int) : Val := .fin (i < 0) i.natAbs 0
/-- The value 2^e. -/
def Val.pow2 (e : Int) : Val := .fin false 1 e
/-- NaN. -/
def Val.isNan : Val → Bool
  | .nan => true
  | _ => false
/-- NaN or an infinity. -/
def Val.nonfinite : Val → Bool
  | .fin _ _ _ => false
  | _ => true
/-- Zero of either sign. -/
def Val.isZero : Val → Bool
  | .fin _ m _ => m == 0
  | _ => false
/-- The sign bit; NaN has none. -/
def Val.neg? : Val → Bool
  | .nan => false
  | .inf n => n
  | .fin n _ _ => n
/-- Sign inversion. -/
def Val.negate : Val → Val
  | .nan => .nan
  | .inf n => .inf (!n)
  | .fin n m e => .fin (!n) m e
/-- Magnitude. -/
def Val.abs : Val → Val
  | .nan => .nan
  | .inf _ => .inf false
  | .fin _ m e => .fin false m e
/-- The value times 2^k. -/
def Val.scale (k : Int) : Val → Val
  | .fin n m e => .fin n m (e + k)
  | v => v

/-- A finite value as a signed integer in units of 2^lo, for lo at or below its exponent. -/
def signedAt (neg : Bool) (m : Nat) (e lo : Int) : Int :=
  let a : Nat := m <<< (e - lo).toNat
  if neg then -(a : Int) else (a : Int)

/-- Exact sum (R113, R114): infinities of opposite sign give NaN, an exact zero is +0 unless both operands are -0. -/
def Val.add : Val → Val → Val
  | .nan, _ => .nan
  | _, .nan => .nan
  | .inf a, .inf b => if a = b then .inf a else .nan
  | .inf a, _ => .inf a
  | _, .inf b => .inf b
  | .fin n1 m1 e1, .fin n2 m2 e2 =>
    if m1 = 0 then (if m2 = 0 then .fin (n1 && n2) 0 0 else .fin n2 m2 e2)
    else if m2 = 0 then .fin n1 m1 e1
    else
      let lo := min e1 e2
      let t := signedAt n1 m1 e1 lo + signedAt n2 m2 e2 lo
      .fin (t < 0) t.natAbs lo

/-- Exact sum in AQ48, where every exact zero is +0 (R113, R171). -/
def Val.addAq (a b : Val) : Val :=
  match a.add b with
  | .fin _ 0 _ => .fin false 0 0
  | v => v

/-- Exact difference. -/
def Val.sub (a b : Val) : Val := a.add b.negate

/-- Exact product: an infinity times zero is NaN. -/
def Val.mul : Val → Val → Val
  | .nan, _ => .nan
  | _, .nan => .nan
  | .inf a, .inf b => .inf (a != b)
  | .inf a, .fin n m _ => if m = 0 then .nan else .inf (a != n)
  | .fin n m _, .inf b => if m = 0 then .nan else .inf (n != b)
  | .fin n1 m1 e1, .fin n2 m2 e2 => .fin (n1 != n2) (m1 * m2) (e1 + e2)

/-- Exact comparison of two values neither of which is NaN; zeros are equal. -/
def Val.cmp : Val → Val → Ordering
  | .inf a, .inf b => if a = b then .eq else if a then .lt else .gt
  | .inf a, _ => if a then .lt else .gt
  | _, .inf b => if b then .gt else .lt
  | .fin n1 m1 e1, .fin n2 m2 e2 =>
    let lo := min e1 e2
    compare (signedAt n1 m1 e1 lo) (signedAt n2 m2 e2 lo)
  | _, _ => .eq

/-- a < b, false when either is NaN. -/
def Val.lt (a b : Val) : Bool := !a.isNan && !b.isNan && a.cmp b == .lt

/-! ### Rounding (R117 to R119) -/

/-- A magnitude m × 2^e rounded to an integer in units of 2^E; u is the draw of the SRG. -/
def roundUnit (mode : RMode) (u : Nat) (m : Nat) (e unit : Int) : Nat :=
  if unit ≤ e then m <<< (e - unit).toNat
  else
    let sh := (unit - e).toNat
    let q := m >>> sh
    let r := m % 2 ^ sh
    if r = 0 then q
    else match mode with
      | .rne => if 2 * r < 2 ^ sh then q else if 2 ^ sh < 2 * r then q + 1 else q + q % 2
      | .rto => if q % 2 = 1 then q else q + 1
      | .sr => if 2 ^ 32 - r * 2 ^ 32 / 2 ^ sh ≤ u then q + 1 else q

/-- A floating format: significant bits, exponent of the least unit (subnormals at it), largest magnitude maxM × 2^maxE, exponent field width, and whether beyond-range values become infinite. -/
structure Fmt where
  p : Nat
  emin : Int
  maxM : Nat
  maxE : Int
  ebits : Nat
  infinite : Bool
  deriving DecidableEq, Repr

/-- binary32. -/
def fp32 : Fmt := ⟨24, -149, 2 ^ 24 - 1, 104, 8, true⟩
/-- BF16. -/
def bf16 : Fmt := ⟨8, -133, 2 ^ 8 - 1, 120, 8, true⟩
/-- E2M3 (R102, R103). -/
def e2m3 : Fmt := ⟨4, -3, 15, -1, 2, false⟩
/-- E3M2 (R102, R103). -/
def e3m2 : Fmt := ⟨3, -4, 7, 2, 3, false⟩
/-- E2M1 (R102, R103). -/
def e2m1 : Fmt := ⟨2, -1, 3, 1, 2, false⟩

/-- m1 × 2^e1 > m2 × 2^e2. -/
def magGt (m1 : Nat) (e1 : Int) (m2 : Nat) (e2 : Int) : Bool :=
  let lo := min e1 e2
  m2 <<< (e2 - lo).toNat < m1 <<< (e1 - lo).toNat

/-- Unit exponent of a magnitude in a format of p significant bits whose least unit is 2^emin. -/
def unitOf (p : Nat) (emin : Int) (m : Nat) (e : Int) : Int :=
  max ((Nat.log2 m : Int) + e - (p : Int) + 1) emin

/-- Exponent and fraction fields of q × 2^unit in a format, q at most 2^p. -/
def packMag (f : Fmt) (q : Nat) (unit : Int) : Nat :=
  let (q, unit) := if q = 2 ^ f.p then (2 ^ (f.p - 1), unit + 1) else (q, unit)
  if q < 2 ^ (f.p - 1) then q
  else (unit - f.emin + 1).toNat * 2 ^ (f.p - 1) + (q - 2 ^ (f.p - 1))

/-- The code of a finite non-negative magnitude rounded to a format, without the sign, and whether the magnitude exceeds the largest (R108, R117 to R119). -/
def roundMag (f : Fmt) (mode : RMode) (u m : Nat) (e : Int) : Nat × Bool :=
  let maxCode := packMag f f.maxM f.maxE
  let infCode := (2 ^ f.ebits - 1) * 2 ^ (f.p - 1)
  if m = 0 then (0, false)
  else
    let big := magGt m e f.maxM f.maxE
    let unit := unitOf f.p f.emin m e
    let q := roundUnit mode u m e unit
    if big then
      if !f.infinite then (maxCode, true)
      else match mode with
        | .rto => (maxCode, true)
        | .sr => (infCode, true)
        | .rne => (if magGt q unit f.maxM f.maxE then infCode else maxCode, true)
    else (packMag f q unit, false)

/-- The code of a value in FP32 or BF16 (R114, R117 to R119). -/
def encodeFp (f : Fmt) (mode : RMode) (u : Nat) : Val → Nat
  | .nan => (2 ^ f.ebits - 1) * 2 ^ (f.p - 1) + 2 ^ (f.p - 2)
  | .inf n => ofBool n * 2 ^ (f.ebits + f.p - 1) + (2 ^ f.ebits - 1) * 2 ^ (f.p - 1)
  | .fin n m e => ofBool n * 2 ^ (f.ebits + f.p - 1) + (roundMag f mode u m e).1

/-- The exact value of an FP32 or BF16 code. -/
def decodeFp (f : Fmt) (c : Nat) : Val :=
  let neg := bit c (f.ebits + f.p - 1)
  let ex := field c (f.p - 1) f.ebits
  let fr := c % 2 ^ (f.p - 1)
  if ex = 2 ^ f.ebits - 1 then (if fr = 0 then .inf neg else .nan)
  else if ex = 0 then .fin neg fr f.emin
  else .fin neg (2 ^ (f.p - 1) + fr) (f.emin + (ex : Int) - 1)

/-- The AQ48 code of a value (R111): 39 significant bits at its own exponent, then the flush below 2^-254. -/
def encodeAq (mode : RMode) (u : Nat) : Val → Nat
  | .nan => 0x7FE000000000
  | .inf n => ofBool n * 2 ^ 47 + 0x7FC000000000
  | .fin n m e =>
    let sign := ofBool n * 2 ^ 47
    if m = 0 then sign
    else
      let unit := (Nat.log2 m : Int) + e - 38
      let q := roundUnit mode u m e unit
      let (q, unit) := if q = 2 ^ 39 then (2 ^ 38, unit + 1) else (q, unit)
      let ex := unit + 38 + 255
      if ex < 1 then sign
      else if 510 < ex then sign + 0x7FC000000000
      else if mode = .sr ∧ magGt m e (2 ^ 39 - 1) 217 then sign + 0x7FC000000000
      else sign + ex.toNat * 2 ^ 38 + (q - 2 ^ 38)

/-- The exact value of an AQ48 code (R111). -/
def decodeAq (c : Nat) : Val :=
  let neg := bit c 47
  let ex := field c 38 9
  let fr := c % 2 ^ 38
  if ex = 511 then (if fr = 0 then .inf neg else .nan)
  else if ex = 0 then .fin neg 0 0
  else .fin neg (2 ^ 38 + fr) ((ex : Int) - 255 - 38)

/-- The MX format of a type code (R100). -/
def mxFmt : Nat → Option Fmt
  | 3 => some e2m3
  | 4 => some e3m2
  | 5 => some e2m1
  | _ => none

/-- Storage bits of an element of a type code (R100). -/
def typeBits : Nat → Nat
  | 0 => 32 | 1 => 16 | 2 => 64 | 3 => 6 | 4 => 6 | 5 => 4 | 6 => 8 | 7 => 8 | 8 => 4 | 9 => 4 | 10 => 8 | 11 => 32
  | _ => 0

/-- An MX element code: quotient of the value by the block scale 2^(X - 127), and whether it exceeds the largest magnitude (R108). The value is finite. -/
def encodeMx (f : Fmt) (mode : RMode) (u x : Nat) : Val → Nat × Bool
  | .fin n m e =>
    let (c, big) := roundMag f mode u m (e - ((x : Int) - 127))
    (ofBool n * 2 ^ (f.ebits + f.p - 1) + c, big)
  | _ => (0, false)

/-- The exact value of an MX element code under a scale (R102 to R105). -/
def decodeMx (f : Fmt) (x c : Nat) : Val :=
  if x = 255 then .nan
  else
    let neg := bit c (f.ebits + f.p - 1)
    let ex := field c (f.p - 1) f.ebits
    let fr := c % 2 ^ (f.p - 1)
    let i := if ex = 0 then fr else (2 ^ (f.p - 1) + fr) <<< (ex - 1)
    .fin neg i (f.emin + ((x : Int) - 127))

/-- The signed element integer of an MX code (R103). -/
def mxInt (f : Fmt) (c : Nat) : Int :=
  let ex := field c (f.p - 1) f.ebits
  let fr := c % 2 ^ (f.p - 1)
  let i : Nat := if ex = 0 then fr else (2 ^ (f.p - 1) + fr) <<< (ex - 1)
  if bit c (f.ebits + f.p - 1) then -(i : Int) else (i : Int)

/-- Lowest and highest value of an integer type code (R109). -/
def intRange : Nat → Int × Int
  | 6 => (-128, 127)
  | 7 => (0, 255)
  | 8 => (-8, 7)
  | 9 => (0, 15)
  | _ => (-(2 ^ 31), 2 ^ 31 - 1)

/-- The integer an integer code stands for (R109). -/
def decodeInt (ty c : Nat) : Int :=
  match ty with
  | 7 | 9 => ((c % 2 ^ typeBits ty : Nat) : Int)
  | _ => toSigned (typeBits ty) c

/-- Round to nearest even to an integer. -/
def roundInt : Val → Int
  | .fin n m e =>
    let q := roundUnit .rne 0 m e 0
    if n then -(q : Int) else (q : Int)
  | _ => 0

/-- The code of a value in an integer type: RNE, NaN gives 0, beyond range the nearest limit (R117, R126); and whether it was beyond the range. -/
def encodeInt (ty : Nat) (v : Val) : Nat × Bool :=
  let (lo, hi) := intRange ty
  match v with
  | .nan => (0, false)
  | .inf n => (ofSigned (typeBits ty) (if n then lo else hi), true)
  | v =>
    let i := roundInt v
    if i < lo then (ofSigned (typeBits ty) lo, true)
    else if hi < i then (ofSigned (typeBits ty) hi, true)
    else (ofSigned (typeBits ty) i, false)

/-- The exact value of a lane of a vector lane type (R100). -/
def decodeLane (ty c : Nat) : Val :=
  match ty with
  | 0 => decodeFp fp32 c
  | 1 => decodeFp bf16 c
  | 2 => decodeAq (c % 2 ^ 48)
  | _ => Val.ofInt (toSigned 32 c)

/-- The code of a value in a vector lane type. -/
def encodeLane (ty : Nat) (mode : RMode) (u : Nat) (v : Val) : Nat :=
  match ty with
  | 0 => encodeFp fp32 mode u v
  | 1 => encodeFp bf16 mode u v
  | 2 => encodeAq mode u v
  | _ => (encodeInt 11 v).1

/-- FP32 code by RNE. -/
def toF32 (v : Val) : Nat := encodeFp fp32 .rne 0 v
/-- Exact value of an FP32 code. -/
def ofF32 (c : Nat) : Val := decodeFp fp32 c
/-- A value rounded by RNE to FP32. -/
def rndF32 (v : Val) : Val := ofF32 (toF32 v)
/-- A value rounded by RNE to AQ48. -/
def rndAq (v : Val) : Val := decodeAq (encodeAq .rne 0 v)

/-! ### The stochastic-rounding generator (R121) -/

/-- The mixing step of R121. -/
def srgMix (z : Nat) : Nat :=
  let z := (z ^^^ (z >>> 31)) * 0xA3B195C46F27D0E9 % 2 ^ 64
  let z := (z ^^^ (z >>> 29)) * 0xC2D41F7B38E69A05 % 2 ^ 64
  z ^^^ (z >>> 32)

/-- The 32-bit draw for the coordinates (R121). -/
def srg (seed tensor row col kidx step : Nat) : Nat :=
  let z := seed % 2 ^ 64 ^^^ (step % 2 ^ 32 * 0x8F1BBCDC5A437E21 % 2 ^ 64)
  let z := srgMix (z ^^^ ((tensor % 2 ^ 32) * 2 ^ 32 ||| kidx % 2 ^ 32))
  let z := srgMix (z ^^^ ((row % 2 ^ 32) * 2 ^ 32 ||| col % 2 ^ 32))
  z >>> 32

/-! ### Packed elements (R107) -/

/-- Element codes of w bits as bytes, first element least significant. -/
def packBits (w : Nat) (cs : List Nat) : Bytes :=
  natLe ((w * cs.length + 7) / 8) (cs.foldr (fun c n => c % 2 ^ w + n * 2 ^ w) 0)

/-- n element codes of w bits from bytes. -/
def unpackBits (w n : Nat) (bs : Bytes) : List Nat :=
  let v := leNat bs
  (List.range n).map (fun i => field v (w * i) w)

/-! ### Square roots -/

/-- Integer square root by bisection, `bits` steps. -/
def isqrtAux : Nat → Nat → Nat → Nat
  | 0, _, r => r
  | b + 1, n, r => let t := r + 2 ^ b; isqrtAux b n (if t * t ≤ n then t else r)

/-- Floor of the square root. -/
def isqrt (n : Nat) : Nat := isqrtAux (Nat.log2 n / 2 + 1) n 0

/-- √(a / b) for positive magnitudes, with a sticky bit below the precision kept: exact enough for one correct rounding to 24 bits. -/
def sqrtRatio (ma : Nat) (ea : Int) (mb : Nat) (eb : Int) : Val :=
  -- scale the quotient to about 200 bits with an even exponent
  let d := ea - eb
  let sh := 200 + (Nat.log2 mb) - (Nat.log2 ma)
  let sh := if (d - sh) % 2 = 0 then sh else sh + 1
  let q := (ma <<< sh) / mb
  let r := (ma <<< sh) % mb
  let t := isqrt q
  let sticky := if t * t = q ∧ r = 0 then 0 else 1
  .fin false (2 * t + sticky) ((d - sh) / 2 - 1)

end Sys2Proof.Machine
end

