-- ==== Sys2Proof/Machine/Memory.lean ====
section
/-! DEFINITION. Physical memory as the units see it (files 10 and 13): placement of addresses, the Loft and Eaves caches, poison, the ranges that refuse writes, shard guards and write-adds. -/
namespace Sys2Proof.Machine

/-! ### Units of access -/

/-- Pieces of n bytes from an address that cross no boundary of `unit` bytes: (address, length). -/
def pieces (unit : Nat) : Nat → Nat → Nat → List (Nat × Nat)
  | 0, _, _ => []
  | fuel + 1, a, n =>
    if n = 0 then []
    else
      let k := min n (unit - a % unit)
      (a, k) :: pieces unit fuel (a + k) (n - k)
/-- Slate or Thatch of this package (R285). -/
def inTiers (a : Nat) : Bool :=
  match region a with
  | .slate | .thatch => true
  | _ => false

/-! ### Placement (R264 to R267) -/

/-- A quad is package-wide (R266). -/
def State.packageWide (s : State) (q : Nat) : Bool := bit (leNat (s.lget 0x2501 0)) q

/-- The storage location of an LPA: its die-local address on the owning die, whatever the interleave (R265). -/
def State.place (s : State) (a : Nat) : Nat :=
  match region a with
  | .slate =>
    let d := a / 0x4800000000
    let o := a % 0x4800000000
    let q := o / 2 ^ 30
    if s.packageWide q then
      let y := d * 2 ^ 30 + o % 2 ^ 30
      field y 8 2 * 0x4800000000 + q * 2 ^ 30 + (y / 2 ^ 10 * 2 ^ 8 + y % 2 ^ 8)
    else a
  | _ => a
/-- The LPA of a storage location: `place` undone (R265). -/
def State.lpaAt (s : State) (p : Nat) : Nat :=
  match region p with
  | .slate =>
    let d := p / 0x4800000000
    let o := p % 0x4800000000
    let q := o / 2 ^ 30
    if s.packageWide q then
      let z := o % 2 ^ 30
      let y := z / 2 ^ 8 * 2 ^ 10 + d * 2 ^ 8 + z % 2 ^ 8
      y / 2 ^ 30 * 0x4800000000 + q * 2 ^ 30 + y % 2 ^ 30
    else p
  | _ => p

/-- Die whose Loft slice serves an LPA (R254, R266). -/
def State.owner (s : State) (a : Nat) : Nat := lpaDie (s.place a)

/-- Stack of a storage address in the Slate tier (R264). -/
def stackOf (p : Nat) : Nat :=
  let o := p % 0x4800000000
  p / 0x4800000000 * 8 + (field o 8 3 ^^^ field o 20 3)
/-- Channel of a storage address: of its stack, or of its Thatch device (R264, R267). -/
def channelOf (p : Nat) : Nat :=
  match region p with
  | .slate => let o := p % 0x4800000000; stackOf p * 32 + (field o 11 5 ^^^ field o 23 5)
  | _ =>
    let o := (p - 0x20000000000) % 0x4000000000
    1024 + (lpaDie p * 4 + (field o 8 2 ^^^ field o 20 2)) * 4 + (field o 10 2 ^^^ field o 22 2)

/-! ### Bytes -/

/-- The bytes that reads see: hidden guarded writes still show the old bytes (R359). -/
def overlay (h : List HiddenWrite) (p : Nat) (b : Byte) : Byte :=
  h.foldr (fun w b => if w.addr ≤ p ∧ p < w.addr + w.old.length then w.old.getD (p - w.addr) b else b) b

/-- One byte at an LPA as a read returns it. -/
def State.byte (s : State) (a : Nat) : Byte :=
  let p := s.place a
  overlay s.cache.hiddenWrites p (s.mem.get p)

/-- n bytes from an LPA as a read returns them. -/
def State.read (s : State) (a : Nat) : Nat → Bytes
  | 0 => []
  | n + 1 => s.byte a :: s.read (a + 1) n

/-- The little-endian number in n bytes from an LPA. -/
def State.readNat (s : State) (a n : Nat) : Nat := leNat (s.read a n)

/-- Bytes stored from an LPA, with no check. -/
def State.store (s : State) (a : Nat) : Bytes → State
  | [] => s
  | b :: bs => ({ s with mem := s.mem.set (s.place a) b } : State).store (a + 1) bs

/-- Storage sector of an LPA: 32 bytes (R252). -/
def State.sector (s : State) (a : Nat) : Nat := s.place a / 32

/-- The first poisoned sector among n bytes from an LPA, as the LPA of that sector (R277). -/
def State.poisonedAt (s : State) (a n : Nat) : Option Nat :=
  if s.cache.poison = [] then none
  else ((List.range ((a % 32 + n + 31) / 32)).map (fun i => a / 32 * 32 + 32 * i)).find? (fun x => s.sector x ∈ s.cache.poison)

/-- A sector becomes poisoned and the error is counted (R277). -/
def State.poisonSector (s : State) (storage : Nat) : State :=
  let die := lpaDie storage
  let sub := match region storage with | .slate => die + 1 | .thatch => die + 5 | _ => die + 9
  let s := s.dadd 0x350C sub 1
  { s with cache := { s.cache with poison := addNew (storage / 32) s.cache.poison } }

/-! ### Error reports (R275, R276) -/

/-- Subindex of a storage address in ECC_CORRECTED and ECC_UNCORRECTABLE (R276). -/
def eccSub (storage : Nat) : Nat :=
  match region storage with
  | .slate => lpaDie storage + 1
  | .thatch => lpaDie storage + 5
  | _ => lpaDie storage + 9

/-- The stack, device or die SRAM that a corrected error belongs to. -/
def eccUnit (storage : Nat) : Nat :=
  match region storage with
  | .slate => stackOf storage
  | .thatch => 32 + channelOf storage / 4 % 16
  | _ => 48 + lpaDie storage

/-- A corrected error: counted, and logged at most once per second for its unit (R276). -/
def State.eccCorrected (s : State) (storage sub unit : Nat) : State :=
  let s := s.dadd 0x350B sub 1
  let second := s.sdt / 1600000000 + 1
  if tget 0 s.cache.eccLogged unit = second then s
  else
    let s := { s with cache := { s.cache with eccLogged := tset s.cache.eccLogged unit second } }
    s.event 0x74 .memory ((sub - 1) % 4) unit (natLe 8 (s.lpaAt storage) ++ natLe 1 Source.memory.code)

/-- Event 0x72 POISON_FOUND (R272, R277). -/
def State.poisonFound (s : State) (storage : Nat) : State :=
  s.event 0x72 .memory (lpaDie storage) (eccUnit storage) (natLe 8 (s.lpaAt storage) ++ natLe 1 Source.memory.code)

/-- Fatal fault 0x71 MEMORY_POISON of a consuming agent (R277). -/
def State.memoryPoison (s : State) (lpa : Nat) (src : Source) (die step loc sub : Nat) : State :=
  s.fatal 0x71 die src step loc sub (natLe 8 lpa ++ natLe 1 src.code)

/-! ### The Loft cache (R254 to R257, R263, R271) -/

/-- Storage line of an LPA: 256 bytes. -/
def State.line (s : State) (a : Nat) : Nat := s.place a / 256
/-- Sectors of a line that n bytes from an address within it touch. -/
def sectorMask (a n : Nat) : BitVec 8 :=
  BitVec.ofNat 8 ((List.range 8).foldl (fun m i =>
    if 32 * i < a % 256 + n && a % 256 < 32 * (i + 1) && n != 0 then m + 2 ^ i else m) 0)
/-- Sectors of a line that n bytes from an address cover whole. -/
def wholeMask (a n : Nat) : BitVec 8 :=
  BitVec.ofNat 8 ((List.range 8).foldl (fun m i => if a % 256 ≤ 32 * i && 32 * (i + 1) ≤ a % 256 + n then m + 2 ^ i else m) 0)

/-- Loft slice of a line (R254): LPA[10:8] XOR LPA[13:11] XOR LPA[16:14]. -/
def sliceOf (line : Nat) : Nat := line % 8 ^^^ line / 8 % 8 ^^^ line / 64 % 8
/-- Die, slice and set of a storage line: the slice goes by the bits of its LPA (R254), and the set is not stated (log 21). -/
def State.loftSet (s : State) (line : Nat) : Nat × Nat × Nat :=
  (lpaDie (line * 256), sliceOf (s.lpaAt (line * 256) / 256), Config.cacheSet line % 2048)

/-- The Loft line, if it is present. -/
def State.loftLine (s : State) (line : Nat) : Option LoftLine := s.cache.loft.find? (fun l => l.line == line)
/-- The fill outstanding for a line. -/
def State.fill (s : State) (line : Nat) : Option Fill := s.cache.fills.find? (fun f => f.line == line)
/-- Sectors of a line that n bytes from an address touch and the Loft does not hold. -/
def State.missing (s : State) (line a n : Nat) : BitVec 8 :=
  sectorMask a n &&& ~~~(match s.loftLine line with | some l => l.valid | none => 0)

/-- One prefetch outcome of a die: useful, late or unused (R271). -/
def State.outcome (s : State) (die : Nat) (useful late unused : Nat) : State :=
  let (a, b, c) := pget s.cache.outcomes die
  let s := { s with cache := { s.cache with outcomes := pset s.cache.outcomes die (a + useful, b + late, c + unused) } }
  ((s.dadd 0x3506 (die + 1) useful).dadd 0x3507 (die + 1) late).dadd 0x3508 (die + 1) unused

/-- Sector numbers of a line. -/
def lineSectors (line : Nat) : List Nat := rangeFrom (line * 8) (line * 8 + 8)
/-- The sectors poisoned once the Loft lines are written back: a dirty sector replaces a bad one, a clean one leaves it poisoned (R277, R279). -/
def CacheState.settled (c : CacheState) : List Nat :=
  let dirty := fun (n : Nat) => c.loft.any (fun l => l.line == n / 8 && l.dirty.getLsbD (n % 8))
  (c.under.filter (fun n => !dirty n)).foldl (fun ps n => addNew n ps) c.poison

/-- A line leaves the Loft, its dirty sectors written back: an untouched prefetched line was unused (R271), and a bad sector beneath it is replaced or becomes poison (R277, R279). -/
def State.loftEvict (s : State) (l : LoftLine) : State :=
  let s := match l.prefetched with
    | some d => s.outcome d 0 0 1
    | none => s
  let loft := s.cache.loft.filter (fun m => m.line != l.line)
  if s.cache.under = [] then { s with cache := { s.cache with loft := loft } }
  else
    let mine := s.cache.under.filter (fun n => n / 8 == l.line)
    let bad := mine.filter (fun n => !l.dirty.getLsbD (n % 8))
    { s with cache := { s.cache with
        loft := loft
        under := s.cache.under.filter (fun n => n / 8 != l.line)
        poison := bad.foldl (fun ps n => addNew n ps) s.cache.poison } }

/-- The line put first among the Loft lines; a set above 20 ways loses its least recently used line (R254). -/
def State.loftInstall (s : State) (l : LoftLine) : State :=
  let mates := s.cache.loft.filter (fun m => m.line != l.line && s.loftSet m.line == s.loftSet l.line)
  let s := match (if mates.length < 20 then none else mates.getLast?) with
    | some v => s.loftEvict v
    | none => s
  { s with cache := { s.cache with loft := l :: s.cache.loft.filter (fun m => m.line != l.line) } }

/-- An access makes a present line the most recently used one (R254). -/
def State.loftRefresh (s : State) (l : LoftLine) : State :=
  { s with cache := { s.cache with loft := l :: s.cache.loft.filter (fun m => m.line != l.line) } }

/-- A demand read touches a present line: most recently used, and a prefetched line becomes useful (R271). -/
def State.loftTouch (s : State) (l : LoftLine) : State :=
  (match l.prefetched with
    | some d => s.outcome d 1 0 0
    | none => s).loftRefresh { l with prefetched := none }

/-- A Thatch fill reads the line's check sector, which the controller's buffer of 4,096 per die then holds (R267). -/
def State.checkSector (s : State) (line : Nat) : State :=
  match region (line * 256) with
  | .thatch =>
    let mine := fun l => lpaDie (l * 256) == lpaDie (line * 256)
    let old := s.cache.checkBuffer.filter (· != line)
    let keep := (old.filter mine).take 4095
    { s with cache := { s.cache with checkBuffer := line :: old.filter (fun l => !mine l || l ∈ keep) } }
  | _ => s

/-- The EXPORTED bit of a line that serves an Eaves fill (R263). -/
def State.export_ (s : State) (line : Nat) : State :=
  { s with cache := { s.cache with loft := mapIf (fun l => l.line == line) (fun l => { l with exported := true }) s.cache.loft } }

/-! ### Ranges that refuse writes (R56, R304, R360) -/

/-- [base, base + size) and [a, a + n) overlap. -/
def overlaps (a n base size : Nat) : Bool := a < base + size && base < a + n && n != 0 && size != 0

/-- BASE and SIZE of an Almanac buffer (R54). -/
def State.bufRange (s : State) (buf : Buf) : Nat × Nat :=
  let i := match buf with | .a => 0x2110 | .b => 0x2111
  (s.dget i 1, s.dget i 2)

/-- A buffer whose range refuses writes (R56). -/
def State.bufLocked (s : State) (buf : Buf) : Bool :=
  s.alm.armCheck == some buf || s.alm.stageCheck == some buf ||
  (s.alm.activeBuf == buf && (match s.alm.state with | .armed | .running | .paused => true | _ => false)) ||
  (s.alm.standby == .staged && s.alm.activeBuf != buf)

/-- Fields of a shard guard (R358): base, limit, stamp, id, generation, enable. -/
def guardFields (bs : Bytes) : Nat × Nat × Nat × Nat × Nat × Bool :=
  let v := leNat bs
  (field v 148 44, field v 104 44, field v 60 44, field v 28 32, field v 12 16, bit v 0)
/-- The record of guard g. -/
def State.guard (s : State) (g : Nat) : Bytes := s.lget 0x2010 (g + 1)
/-- Guards whose record has been written. -/
def State.guardList (s : State) : List Nat :=
  (List.range 64).filter (fun g => (tfind s.longs (entryKey 0x2010 (g + 1))).isSome)

/-- The bytes of the save area that refuse writes: all of it while scratch and accumulator images are there, the contexts otherwise (R304). -/
def State.saveGuarded (s : State) : Nat :=
  if s.trans.preempt = .running then (if s.alm.state = .halted then 0x6000000 else 0)
  else if s.trans.preempt = .saved ∨ s.trans.preempt = .saving ∨ s.trans.restoreAll then 0x60000000
  else 0x6000000

/-- Why n bytes at an LPA refuse a write of any agent, if they do: a locked Almanac buffer or a stamp, with the counter to raise (R56, R360). -/
def State.writeBarred (s : State) (a n : Nat) : Option (Nat × Nat) :=
  let (ab, asz) := s.bufRange .a
  let (bb, bsz) := s.bufRange .b
  if (s.bufLocked .a && overlaps a n ab asz) || (s.bufLocked .b && overlaps a n bb bsz) then some (0x2126, 2)
  else if s.guardList.any (fun g => let (_, _, st, _, _, _) := guardFields (s.guard g); overlaps a n st 32) then some (0x3020, 2)
  else none

/-- Why n bytes at an LPA refuse a write, if they do: as `writeBarred`, or in the save area (R304). A write that both refuse counts once, under the first (log 96). -/
def State.writeRefused (s : State) (a n : Nat) : Option (Nat × Nat) :=
  let save := s.dget 0x2642 0
  match s.writeBarred a n with
  | some c => some c
  | none => if save ≠ 0 ∧ overlaps a n save s.saveGuarded then some (0x3601, 4) else none

/-! ### Writes at the slice (R256, R257, R263, R277, R359) -/

/-- The write of bytes within one line marks the line dirty and counts an epoch violation on an exported line (R263). -/
def State.markWrite (s : State) (a n : Nat) (alloc : Bool) (src : Source) (loc sub step : Nat) : State :=
  match region a with
  | .slate | .thatch =>
    let line := s.line a
    let die := s.owner a
    match s.loftLine line with
    | none =>
      let s := s.dadd 0x3501 (die + 1) 1
      if alloc then s.loftInstall ⟨line, sectorMask a n, sectorMask a n, false, none⟩ else s
    | some l =>
      let s := (s.dadd 0x3500 (die + 1) 1).loftRefresh
        { l with valid := l.valid ||| sectorMask a n, dirty := l.dirty ||| sectorMask a n }
      if l.exported && !(line ∈ s.cache.violated) then
        let s := s.dadd 0x3504 (die + 1) 1
        let s := { s with cache := { s.cache with violated := s.cache.violated ++ [line] } }
        if s.dget 0x2502 0 = 1 ∧ !s.cache.epochFaulted then
          let s := { s with cache := { s.cache with epochFaulted := true } }
          s.fatal 0x70 die src step loc sub (natLe 8 a ++ natLe 1 src.code)
        else s
      else s
  | _ => s

/-- Enabled guards that watch an LPA range (R359). -/
def State.watching (s : State) (a n : Nat) : List Nat :=
  s.guardList.filter (fun g => let (b, l, _, _, _, en) := guardFields (s.guard g); en && overlaps a n b (l - b))

/-- A counted request: VERSION of each guard rises and its stamp is due (R359). -/
def State.countGuards (s : State) (gs : List Nat) : State :=
  let s := if gs = [] then s else s.dadd 0x3020 3 1
  gs.foldl (fun s g =>
    let c := { s.cache with versions := tset s.cache.versions g (tget 0 s.cache.versions g + 1), stampDue := tadd s.cache.stampDue g 1 }
    { s with cache := c }) s

/-- Bytes become the current value; while guards' stamps are due, reads still see the old ones (R359). -/
def State.putBytes (s : State) (gs : List Nat) (a : Nat) (bs : Bytes) : State :=
  if gs = [] then s.store a bs
  else
    let old := (List.range bs.length).map (fun i => s.mem.get (s.place (a + i)))
    let s := s.store a bs
    { s with cache := { s.cache with hiddenWrites := s.cache.hiddenWrites ++ [⟨gs, s.place a, old⟩] } }

/-- The bytes of one sector of a write: a write that covers it whole clears its poison, another leaves a poisoned sector as it is (R277). -/
def State.putSector (s : State) (gs : List Nat) (a : Nat) (bs : Bytes) : State :=
  let sec := s.sector a
  if sec ∈ s.cache.poison then
    if bs.length = 32 then
      ({ s with cache := { s.cache with poison := s.cache.poison.erase sec } } : State).putBytes gs a bs
    else s
  else s.putBytes gs a bs

/-- Bytes cut at sector boundaries: (address, bytes) of each part. -/
def sectorParts : Nat → Nat → Bytes → List (Nat × Bytes)
  | 0, _, _ => []
  | fuel + 1, a, bs =>
    if bs = [] then []
    else
      let n := 32 - a % 32
      (a, bs.take n) :: sectorParts fuel (a + n) (bs.drop n)

/-- A write of bytes within one line, applied at the owning slice. SRAM windows take it directly. -/
def State.acceptWrite (s : State) (a : Nat) (bs : Bytes) (alloc : Bool) (src : Source) (loc sub step : Nat) : State :=
  let gs := s.watching a bs.length
  let s := s.markWrite a bs.length alloc src loc sub step
  let s := s.countGuards gs
  match region a with
  | .slate | .thatch =>
    if s.cache.poison = [] then s.putBytes gs a bs
    else (sectorParts (bs.length / 32 + 2) a bs).foldl (fun s p => s.putSector gs p.1 p.2) s
  | _ => s.store a bs

/-- A write of bytes within one line, applied at the owning slice, or discarded and counted where a range refuses it. -/
def State.applyWrite (s : State) (a : Nat) (bs : Bytes) (alloc : Bool) (src : Source) (loc sub step : Nat) : State :=
  match s.writeRefused a bs.length with
  | some (i, j) => s.dadd i j 1
  | none => s.acceptWrite a bs alloc src loc sub step

/-- Element size of a write-add type: FP32 or an AQ48 container (R257). -/
def addSize (fmt : Nat) : Nat := if fmt = 0 then 4 else 8

/-- One element of a write-add: RNE of m + x (R257). -/
def addElement (fmt m x : Nat) : Nat :=
  if fmt = 0 then encodeFp fp32 .rne 0 ((ofF32 m).add (ofF32 x))
  else encodeAq .rne 0 ((decodeAq (m % 2 ^ 48)).addAq (decodeAq (x % 2 ^ 48)))

/-- The sum of the current bytes and the operand, element by element (R257). -/
def addBytes (fmt : Nat) : Nat → Bytes → Bytes → Bytes
  | 0, _, _ => []
  | fuel + 1, m, x =>
    if x = [] then []
    else natLe (addSize fmt) (addElement fmt (leAt m 0 (addSize fmt)) (leAt x 0 (addSize fmt))) ++
      addBytes fmt fuel (m.drop (addSize fmt)) (x.drop (addSize fmt))

/-- A write-add at the slice: every element of a clean sector receives its addition, a poisoned sector is left unchanged and reported (R257). -/
def State.applyAdd (s : State) (a fmt : Nat) (bs : Bytes) (src : Source) (loc sub step : Nat) : State × Option Nat :=
  match s.writeRefused a bs.length with
  | some (i, j) => (s.dadd i j 1, none)
  | none =>
    let gs := s.watching a bs.length
    let poison := s.poisonedAt a bs.length
    let s := s.markWrite a bs.length true src loc sub step
    let s := s.countGuards gs
    let s := (sectorParts (bs.length / 32 + 2) a bs).foldl (fun s p =>
      if s.sector p.1 ∈ s.cache.poison then s
      else
        let cur := (List.range p.2.length).map (fun i => s.mem.get (s.place (p.1 + i)))
        s.putBytes gs p.1 (addBytes fmt (p.2.length + 1) cur p.2)) s
    (s, poison)

/-- The stamp of a guard (R360); a disabled guard's stamp is 32 zero bytes (R358). -/
def stampBytes (rec : Bytes) (version : BitVec 32) : Bytes :=
  let (_, _, _, id, gen, en) := guardFields rec
  if en then
    let body := natLe 28 (gen * 2 ^ 144 + version.toNat * 2 ^ 160 + id * 2 ^ 192)
    natLe 4 (crc32c body) ++ body
  else List.replicate 32 0

/-! ### The Eaves cache (R259 to R261) -/

/-- Global line of a target: rank and LPA divided by 256 (R39); this package's own memory under its own rank. -/
def State.globalLine (s : State) : Target → Option Nat
  | .here a => some ((s.rank * 2 ^ 44 + a) / 256)
  | .remote r a => some ((r * 2 ^ 44 + a) / 256)
  | .host _ _ => none

/-- The target belongs to another die or another package, in Slate or Thatch (R252, R259). -/
def State.foreign (s : State) (die : Nat) : Target → Bool
  | .here a => inTiers a && s.owner a != die
  | .remote _ a => inTiers a
  | .host _ _ => false

/-- The Eaves line that holds every sector of a read (R259). -/
def State.eavesHit (s : State) (die line : Nat) (need : BitVec 8) : Option EavesLine :=
  s.cache.eaves.find? (fun l => l.die == die && l.line == line && l.valid &&& need == need)

/-- The Eaves line becomes its die's most recently used one (R259). -/
def State.eavesTouch (s : State) (l : EavesLine) : State :=
  { s with cache := { s.cache with eaves := l :: s.cache.eaves.erase l } }

/-- Die, slice and set of an Eaves line (R259); the set is not stated (log 21). -/
def eavesSet (die line : Nat) : Nat × Nat × Nat := (die, sliceOf line, Config.cacheSet line % 512)

/-- Sectors installed in an Eaves line; a set above 16 ways loses its least recently used line (R259). -/
def State.eavesInstall (s : State) (die line : Nat) (sectors : BitVec 8) (off : Nat) (bs : Bytes) : State :=
  let old := (s.cache.eaves.find? (fun l => l.die == die && l.line == line)).getD ⟨die, line, 0, List.replicate 256 0⟩
  let new := { old with valid := old.valid ||| sectors, bytes := patch old.bytes off bs }
  let rest := s.cache.eaves.filter (fun l => !(l.die == die && l.line == line))
  let mates := rest.filter (fun l => eavesSet l.die l.line == eavesSet die line)
  let rest := if mates.length < 16 then rest else match mates.getLast? with
    | some v => rest.filter (fun l => !(l.die == v.die && l.line == v.line))
    | none => rest
  { s with cache := { s.cache with eaves := new :: rest } }

/-- A die writes a remote line: its own Eaves copy goes (R261). -/
def State.eavesDrop (s : State) (die : Nat) (t : Target) : State :=
  match s.globalLine t with
  | some line => { s with cache := { s.cache with eaves := s.cache.eaves.filter (fun l => !(l.die == die && l.line == line)) } }
  | none => s

/-- Every Eaves line becomes invalid, and fills in flight will not be installed (R260). -/
def State.eavesInvalidate (s : State) : State :=
  { s with cache := { s.cache with eaves := [], eavesFills := s.cache.eavesFills.map (fun f => { f with dead := true }) } }

/-! ### Requests performed at the slice (R255 to R257, R275 to R277) -/

/-- SOURCE, LOCATION and SUBLOCATION of an agent in a log record (R469). -/
def agentPlace : Agent → Source × Nat × Nat
  | .thread g t => (.thread, g, t)
  | .image g _ => (.thread, g, 0xFFFF)
  | .mover d m => (.mover, 0xFFFF, d * 64 + m)
  | .moverDesc d m => (.mover, 0xFFFF, d * 64 + m)
  | .update _ => (.update, 0xFFFF, 0xFFFF)
  | .action _ => (.link, 0xFFFF, 0xFFFF)

/-- The request with a number. -/
def State.req (s : State) (id : Nat) : Option Req := s.trans.reqs.find? (fun r => r.id == id)
/-- The state with a request changed. -/
def State.mapReq (s : State) (id : Nat) (f : Req → Req) : State :=
  { s with trans := { s.trans with reqs := mapIf (fun r => r.id == id) f s.trans.reqs } }
/-- The bytes that a request asks of its owner: an Eaves fill brings whole sectors (R259). -/
def Req.span (r : Req) (a : Nat) : Nat × Nat := if r.eaves then (a / 32 * 32, (a % 32 + r.len + 31) / 32 * 32) else (a, r.len)

/-- A request performed on local memory at the owning slice: the data of a read, the effect of a write or write-add, and the poison met (R255, R257, R277). -/
def State.perform (s : State) (r : Req) : State :=
  match r.target with
  | .here a =>
    let (src, loc, sub) := agentPlace r.agent
    match r.kind with
    | .load =>
      let poison := s.poisonedAt a r.len
      let data := s.read (r.span a).1 (r.span a).2
      s.mapReq r.id (fun q => { q with done := true, data := data, poison := poison })
    | .store => (s.applyWrite a r.data r.alloc src loc sub r.step).mapReq r.id (fun q => { q with done := true })
    | .add fmt =>
      let (s, poison) := s.applyAdd a fmt r.data src loc sub r.step
      s.mapReq r.id (fun q => { q with done := true, poison := poison })
  | _ => s

/-- A request performed at the slice; a read that fills an Eaves cache exports its line (R263). -/
def State.serve (s : State) (r : Req) (line : Nat) : State :=
  let s := s.perform r
  if r.eaves then s.export_ line else s

/-- What the check bits of Loft data report of a sector that the line holds: an uncorrectable clean one is fetched again, and is poisoned if memory is bad beneath it; a dirty one is poisoned (R275, R277). -/
def State.loftEcc (s : State) (line : Nat) (e : EccEvent) : State :=
  let die := lpaDie (line * 256)
  match e with
  | .clean => s
  | .corrected _ => s.eccCorrected (line * 256) (9 + die) (48 + die)
  | .uncorrectable k =>
    let sec := line * 8 + k.val
    match s.loftLine line with
    | some l =>
      if !l.valid.getLsbD k.val then s
      else if l.dirty.getLsbD k.val || decide (sec ∈ s.cache.under) then
        let s := s.dadd 0x350C (9 + die) 1
        { s with cache := { s.cache with poison := addNew sec s.cache.poison, under := s.cache.under.erase sec } }
      else s.eccCorrected (line * 256) (9 + die) (48 + die)
    | none => s

/-- What the code of a Slate or Thatch sector reports: corrected in place, or poisoned (R275, R277). A sector poisoned already is not counted again. -/
def State.memoryEcc (s : State) (line : Nat) (e : EccEvent) : State :=
  match e with
  | .clean => s
  | .corrected k => let p := line * 256 + 32 * k.val; s.eccCorrected p (eccSub p) (eccUnit p)
  | .uncorrectable k => let p := line * 256 + 32 * k.val; if p / 32 ∈ s.cache.poison then s else s.poisonSector p

/-- What the codes report to a read of a line: those of the Loft data where the line is present, those of memory otherwise. -/
def State.readEcc (s : State) (line : Nat) (e : EccEvent) : State :=
  if (s.loftLine line).isSome then s.loftEcc line e else s.memoryEcc line e

/-- The sector that a corrected error touched is marked dirty, so that it is written back (R275). -/
def eccDirtied : EccEvent → BitVec 8
  | .corrected k => BitVec.ofNat 8 (2 ^ k.val)
  | _ => 0

/-- A fill lands: the line is installed as R256 says, and the held accesses are applied in arrival order (R255). An uncorrectable error met by a prefetch installs nothing, and event 0x72 names its sector (R272). -/
def State.landFill (s : State) (f : Fill) (e : EccEvent) : State :=
  let s := { s with cache := { s.cache with fills := s.cache.fills.filter (fun g => g.line != f.line) } }
  let s := (s.checkSector f.line).memoryEcc f.line e
  let s := match f.prefetch, e with
    | true, .uncorrectable k => s.poisonFound (f.line * 256 + 32 * k.val)
    | _, _ =>
      if f.install then
        match s.loftLine f.line with
        | some l => s.loftInstall { l with valid := l.valid ||| f.sectors, dirty := l.dirty ||| (eccDirtied e &&& f.sectors) }
        | none => s.loftInstall ⟨f.line, f.sectors, eccDirtied e &&& f.sectors, false, if f.prefetch then some f.asker else none⟩
      else s
  f.held.foldl (fun s id => match s.req id with
    | some r => s.serve r f.line
    | none => s) s

/-! ### Accesses served in one step (R254, R255)

Walks, engines, the host, other packages and the device's own writes reach the slice in one step. -/

/-- A fill outstanding for a line lands before the access that comes after it (R255). -/
def State.settle (s : State) (line : Nat) : State :=
  match s.fill line with
  | some f => s.landFill f .clean
  | none => s

/-- As `settle`, for a demand read, which makes a prefetched line useful and late (R255, R271). -/
def State.settleRead (s : State) (line : Nat) : State :=
  match s.fill line with
  | some f => if f.prefetch then (s.outcome f.asker 1 1 0).landFill { f with prefetch := false } .clean else s.landFill f .clean
  | none => s

/-- A read of bytes within one line, served by the owning slice: a hit, or a miss that fetches the sectors it lacks (R256). -/
def State.loftRead (s : State) (a n : Nat) (alloc : Bool) : State :=
  match region a with
  | .slate | .thatch =>
    let line := s.line a
    let die := s.owner a
    let need := sectorMask a n
    let s := s.settleRead line
    match s.loftLine line with
    | some l =>
      if l.valid &&& need = need then (s.dadd 0x3500 (die + 1) 1).loftTouch l
      else
        let s := ((s.dadd 0x3501 (die + 1) 1).loftTouch l).checkSector line
        if alloc then s.loftRefresh { l with valid := l.valid ||| need, prefetched := none } else s
    | none =>
      let s := (s.dadd 0x3501 (die + 1) 1).checkSector line
      if alloc then s.loftInstall ⟨line, need, 0, false, none⟩ else s
  | _ => s

/-- A read of n bytes, line by line. -/
def State.loftReads (s : State) (a n : Nat) (alloc : Bool) : State :=
  (pieces 256 (n / 256 + 2) a n).foldl (fun s p => s.loftRead p.1 p.2 alloc) s

/-- The writer is no die: the host, or another package. -/
def noDie : Nat := 4
/-- A write that reaches the slices in one step, line by line, each a request of its own (R56, R254, R359). `die` is the die that writes, whose Eaves copy goes (R261), or `noDie`. -/
def State.arriveWrite (s : State) (die a : Nat) (bs : Bytes) (alloc : Bool) (src : Source) (loc sub step : Nat) : State :=
  (pieces 256 (bs.length / 256 + 2) a bs.length).foldl (fun s p =>
    ((s.eavesDrop die (.here p.1)).settle (s.line p.1)).applyWrite p.1 (slice bs (p.1 - a) p.2) alloc src loc sub step) s

/-- A write of the device into its own save area, which refuses those of others (R304). -/
def State.ownWrite (s : State) (a : Nat) (bs : Bytes) : State :=
  (pieces 256 (bs.length / 256 + 2) a bs.length).foldl (fun s p =>
    match s.writeBarred p.1 p.2 with
    | some (i, j) => s.dadd i j 1
    | none => (s.settle (s.line p.1)).acceptWrite p.1 (slice bs (p.1 - a) p.2) true .translation 0xFFFF 0xFFFF 0xFFFFFFFF) s

/-- A write whose bytes nothing defines: the line is written and counted as by any other write, and the bytes read as free values (R359; log 31). -/
def State.forgetBytes (s : State) (a n : Nat) (src : Source) (loc sub step : Nat) : State :=
  match s.writeRefused a n with
  | some (i, j) => s.dadd i j 1
  | none =>
    let gs := s.watching a n
    let old := (List.range n).map (fun i => s.mem.get (s.place (a + i)))
    let s := ((s.settle (s.line a)).markWrite a n true src loc sub step).countGuards gs
    let clean := (sectorParts (n / 32 + 2) a (List.replicate n 0)).filter (fun p => p.2.length == 32)
    let (tag, s) := s.takeId
    let hw := if gs = [] then s.cache.hiddenWrites else s.cache.hiddenWrites ++ [⟨gs, s.place a, old⟩]
    { s with
      mem := s.mem.forget (s.place a) n tag
      cache := { s.cache with poison := s.cache.poison.filter (fun x => !clean.any (fun p => s.sector p.1 == x)), hiddenWrites := hw } }

/-- The device rewrites a guard's stamp, and its hidden writes become visible once no stamp is due for them (R359, R360). -/
def State.rewriteStamp (s : State) (g : Nat) : State :=
  let rec_ := s.guard g
  let (_, _, st, _, _, _) := guardFields rec_
  let s := ((s.settle (s.line st)).markWrite st 32 true .memory 0xFFFF 0xFFFF 0xFFFFFFFF).putSector [] st (stampBytes rec_ (tget 0 s.cache.versions g))
  let hw := (s.cache.hiddenWrites.map (fun h => { h with guards := h.guards.erase g })).filter (fun h => h.guards != [])
  { s with cache := { s.cache with stampDue := terase s.cache.stampDue g, hiddenWrites := hw } }

end Sys2Proof.Machine
end

