-- ==== Sys2Proof/Machine/Translate.lean ====
section
/-! DEFINITION. Translation, parking and request tracking (file 11): lookups in the translation caches, the walk of the page tables, park records, and issuing and serving requests. -/
namespace Sys2Proof.Machine

/-- The need for a translation: address space, VA, access (0 read, 1 write, 2 write-add, 3 descriptor or image read), whether a mover asks, its core if a thread does, and the die. -/
structure XCtx where
  asid : Nat
  va : Nat
  access : Nat
  mover : Bool
  core : Option Nat
  die : Nat
  deriving DecidableEq, Repr

/-- What a translation gives (R283, R285, R286, R296). -/
inductive Xlate where
  /-- target and MEM_ATTR -/
  | ok (t : Target) (attr : Nat)
  /-- no cache holds it: a walk is needed -/
  | miss
  | park (kind level : Nat)
  | fault (code : Nat)
  | poison (lpa : Nat)
  deriving DecidableEq, Repr

/-! ### Leaves (R285, R286) -/

/-- WRITABLE of a leaf. -/
def leafWritable (e : Nat) : Bool := bit e 61
/-- REMOTE of a leaf. -/
def leafRemote (e : Nat) : Bool := bit e 60
/-- MEM_ATTR of a leaf. -/
def leafAttr (e : Nat) : Nat := field e 56 4
/-- RANK of a leaf. -/
def leafRank (e : Nat) : Nat := field e 44 10
/-- ADDR of an entry as an LPA. -/
def entryAddr (e : Nat) : Nat := field e 8 36 * 256

/-- The host bus address that a window page maps, if it is within an enabled window (R385, R386): port and bus address. -/
def State.hostTarget (s : State) (y : Nat) : Option (Nat × Nat) :=
  let w := leNat (s.lget 0x1130 (field y 40 4 + 1))
  let off := y % 2 ^ 40
  if bit w 0 && decide (off < field w 32 32 * 65536) then some (field w 1 1, (field w 64 64 + off) % 2 ^ 64) else none

/-- The page of a leaf, of this package or another, is memory that the access may reach: one tier, or an on-die SRAM window for what is no write-add (R38, R286, R291; log 58). -/
def leafReaches (c : XCtx) (e size : Nat) : Bool :=
  let first := region (entryAddr e)
  let one := region (entryAddr e + size - 1) == first
  match first with
  | .slate | .thatch => one
  | .scratch | .accumulator => one && c.access != 2
  | _ => false

/-- The translation that a valid leaf of a page of `size` bytes gives (R286, R291, R296, R386). -/
def State.useLeaf (s : State) (c : XCtx) (e size : Nat) : Xlate :=
  let y := entryAddr e + c.va % size
  let write := c.access == 1 || c.access == 2
  if write && !leafWritable e then .park 0x81 0
  else if leafRemote e && leafRank e != s.rank then
    if leafRank e = 0x3FF then
      if !c.mover || c.access == 2 then .fault 0x82
      else match s.hostTarget y with
        | some (p, a) => .ok (.host p a) (leafAttr e)
        | none => .fault 0x82
    else if 512 ≤ leafRank e then .fault 0x82
    else if leafReaches c e size then .ok (.remote (leafRank e) y) (leafAttr e) else .fault 0x82
  else if leafReaches c e size then .ok (.here y) (leafAttr e) else .fault 0x82

/-! ### Caches (R287) -/

/-- An entry of a list of translations that covers an address. -/
def findTlb (asid va : Nat) (l : List TlbEntry) : Option TlbEntry :=
  l.find? (fun e => e.asid == asid && e.va == va / e.size * e.size)

/-- The cached entry for an address: the core's cache, then the die's (R287). -/
def State.cachedLeaf (s : State) (c : XCtx) : Option TlbEntry :=
  match c.core with
  | some g => (findTlb c.asid c.va (s.core g).tlb).or (findTlb c.asid c.va (pget s.trans.dieTlb c.die))
  | none => findTlb c.asid c.va (pget s.trans.dieTlb c.die)

/-- The translation as the caches give it; a cached leaf without WRITABLE does not serve a write, which walks again (R298). -/
def State.lookup (s : State) (c : XCtx) : Xlate :=
  if 2 ^ 56 ≤ c.va then .fault 0x82
  else match s.cachedLeaf c with
    | none => .miss
    | some e =>
      match s.useLeaf c e.leaf.toNat e.size with
      | .park _ _ => .miss
      | x => x

/-- A translation put in the caches of the core and die: 64 and 8,192 entries, the oldest lost (log 23). -/
def State.fillTlb (s : State) (c : XCtx) (e : TlbEntry) : State :=
  let s := match c.core with
    | some g => let k := s.core g; s.setCore g { k with tlb := (e :: k.tlb.erase e).take 64 }
    | none => s
  { s with trans := { s.trans with dieTlb := pset s.trans.dieTlb c.die ((e :: (pget s.trans.dieTlb c.die).erase e).take 8192) } }

/-! ### The walk (R282, R284, R285) -/

/-- One level of the page table: number, lowest VA bit, index width, alignment of the table it points to, and page size. -/
structure Level where
  n : Nat
  lsb : Nat
  width : Nat
  align : Nat
  page : Nat
  deriving DecidableEq, Repr

/-- The levels from the root (R284). -/
def levels : List Level := [⟨3, 43, 13, 65536, 2 ^ 43⟩, ⟨2, 30, 13, 4096, 2 ^ 30⟩, ⟨1, 21, 9, 256, 2 ^ 21⟩, ⟨0, 16, 5, 1, 2 ^ 16⟩]

/-- What a walk finds. -/
inductive WalkOut where
  | leaf (e size : Nat)
  | invalid (level : Nat)
  | malformed
  | poison (lpa : Nat)
  deriving DecidableEq, Repr

/-- A valid entry that breaks R285 at a level. -/
def entryMalformed (lv : Level) (e : Nat) : Bool :=
  let leaf := bit e 62
  field e 54 2 != 0 || field e 0 8 != 0 ||
  (if leaf then lv.n == 3 || entryAddr e % lv.page != 0 || bit e 59 || (!leafRemote e && leafRank e != 0)
   else lv.n == 0 || field e 56 6 != 0 || leafRank e != 0 || entryAddr e % lv.align != 0 || !inTiers (entryAddr e))

/-- The walk through the levels below a table; table entries read are kept in the die's walk cache. -/
def walkLevels (die asid va : Nat) : List Level → Nat → State → State × WalkOut
  | [], _, s => (s, .malformed)
  | lv :: rest, table, s =>
    let a := table + 8 * field va lv.lsb lv.width
    let s := s.loftRead a 8 true
    match s.poisonedAt a 8 with
    | some p => (s, .poison p)
    | none =>
      let e := s.readNat a 8
      if !bit e 63 then (s, .invalid lv.n)
      else if entryMalformed lv e then (s, .malformed)
      else if bit e 62 then (s, .leaf e lv.page)
      else
        let w : WalkEntry := ⟨asid, lv.n, va >>> lv.lsb, BitVec.ofNat 64 e⟩
        let s := { s with trans := { s.trans with walkCache := pset s.trans.walkCache die (w :: (pget s.trans.walkCache die).erase w) } }
        walkLevels die asid va rest (entryAddr e) s

/-- The cached table entry closest to the leaf: the table it names and the levels left. -/
def State.walkStart (s : State) (die asid va : Nat) : Option (Nat × List Level) :=
  let find := fun (lv : Level) => (pget s.trans.walkCache die).find? (fun w => w.asid == asid && w.level == lv.n && w.va == va >>> lv.lsb)
  [(1, 3), (2, 2), (3, 1)].findSome? (fun (p : Nat × Nat) =>
    match levels.find? (fun lv => lv.n == p.1) with
    | some lv => (find lv).map (fun w => (entryAddr w.entry.toNat, levels.drop p.2))
    | none => none)

/-- n tracking entries of a die are in use at once (R289). -/
def State.peakAt (s : State) (die n : Nat) : State := if s.dget 0x3600 (die + 1) < n then s.dset 0x3600 (die + 1) n else s
/-- The request holds a tracking entry: until its agent has the answer, of a thread or mover; until it is answered, of an engine (R289). -/
def Req.tracked (r : Req) : Bool :=
  match r.agent with
  | .thread _ _ | .mover _ _ | .moverDesc _ _ => true
  | _ => !r.done
/-- Tracking entries of a die in use (R289). -/
def State.entriesUsed (s : State) (die : Nat) : Nat :=
  (s.trans.reqs.filter (fun r => r.die == die && r.tracked)).length + (s.cache.fills.filter (fun f => f.prefetch && f.asker == die)).length
/-- The largest number of entries in use on a die since it was last read (R289). -/
def State.notePeak (s : State) (die : Nat) : State := s.peakAt die (s.entriesUsed die)
/-- An access served in one step holds an entry of its die while it is served (R289): a walk, a piece that an engine reads or writes here, a BAR2 or Lodestar access. -/
def State.noteOne (s : State) (die : Nat) : State := s.peakAt die (s.entriesUsed die + 1)

/-- A walk for an address (R282, R284): counted on its die. -/
def State.walk (s : State) (die asid va : Nat) : State × WalkOut :=
  let s := (s.dadd 0x3602 (die + 1) 1).noteOne die
  match s.walkStart die asid va with
  | some (table, lvs) => walkLevels die asid va lvs table s
  | none =>
    let base := s.dget 0x2600 0
    if base = 0 then (s, .invalid 4)
    else
      let a := base + 8 * asid
      let s := s.loftRead a 8 true
      match s.poisonedAt a 8 with
      | some p => (s, .poison p)
      | none =>
        let e := s.readNat a 8
        if !bit e 63 then (s, .invalid 4)
        else if field e 44 19 != 0 || field e 0 8 != 0 || field e 8 8 != 0 || !inTiers (entryAddr e) then (s, .malformed)
        else walkLevels die asid va levels (entryAddr e) s

/-- A walk and what it gives the access; a usable leaf enters the caches. -/
def State.walkFor (s : State) (c : XCtx) : State × Xlate :=
  if 2 ^ 56 ≤ c.va then (s, .fault 0x82)
  else match s.walk c.die c.asid c.va with
    | (s, .invalid l) => (s, .park 0x80 l)
    | (s, .malformed) => (s, .fault 0x83)
    | (s, .poison p) => (s, .poison p)
    | (s, .leaf e size) =>
      match s.useLeaf c e size with
      | .ok t a => (s.fillTlb c ⟨c.asid, c.va / size * size, size, BitVec.ofNat 64 e⟩, .ok t a)
      | x => (s, x)

/-- The translation from the caches, or from a walk made in the same step. -/
def State.translate (s : State) (c : XCtx) : State × Xlate :=
  match s.lookup c with
  | .miss => s.walkFor c
  | x => (s, x)

/-- The translations of every 64 KiB page that n bytes touch, walked as needed; the first that fails ends it. Answers (VA, length, target) pieces within 256 B, or the failure with its VA. -/
def State.translateRange (c : XCtx) : List (Nat × Nat) → State → State × Except (Nat × Xlate) (List (Nat × Nat × Target × Nat))
  | [], s => (s, .ok [])
  | (va, n) :: rest, s =>
    match s.translate { c with va := va } with
    | (s, .ok t a) =>
      match State.translateRange c rest s with
      | (s, .ok l) => (s, .ok ((va, n, t, a) :: l))
      | (s, .error e) => (s, .error e)
    | (s, x) => (s, .error (va, x))

/-- The 256-byte pieces of n bytes from a VA. -/
def vaPieces (va n : Nat) : List (Nat × Nat) := pieces 256 (n / 256 + 2) va n

/-! ### Faults and parks (R296 to R299, R308, R470) -/

/-- DETAIL of 0x82 to 0x89 (R470). -/
def xDetail (asid va agent : Nat) : Bytes := natLe 2 asid ++ natLe 8 va ++ natLe 1 agent

/-- SOURCE of a fault of R308: the mover for what the mover itself finds wrong, translation for the rest (R467, R469; log 74). -/
def xSource (code : Nat) : Source := if code = 0x84 ∨ code = 0x88 then .mover else .translation
/-- A fatal translation fault (R308). -/
def State.xFault (s : State) (code die step loc sub asid va agent : Nat) : State :=
  s.fatal code die (xSource code) step loc sub (xDetail asid va agent)

/-- Slot of the park ring is free for sequence number q (R297). -/
def State.ringFree (s : State) (q : Nat) : Bool := !s.trans.parks.any (fun r => r.seq % 1024 == q % 1024)

/-- A record that an agent joins: same ASID and 64 KiB page (R297). -/
def State.parkMatch (s : State) (p : ParkInfo) : Option ParkRec :=
  s.trans.parks.find? (fun r => r.asid == p.asid && r.page == p.va / 65536)

/-- LOCATION and SUBLOCATION of a parked agent in a log record: a mover has no core, and only a thread or mover has a number (R469). -/
def ParkInfo.logAt (p : ParkInfo) : Nat × Nat :=
  match p.agent with
  | .thread g t => (g, t)
  | .image g _ => (g, 0xFFFF)
  | .mover _ m | .moverDesc _ m => (0xFFFF, m)
  | .update _ => (p.core, 0xFFFF)
  | .action _ => (0xFFFF, 0xFFFF)

/-- An agent parks (R296, R297): counted, and its record waits to be written; with no ring the park is fatal. The caller has put the agent in its parked state. -/
def State.park (s : State) (p : ParkInfo) : State :=
  let s := s.dadd 0x3603 (p.die + 1) 1
  let p := { p with sdt := s.sdt, almSlot := s.almanacSlot }
  if s.dget 0x2620 0 = 0 then s.xFault 0x86 p.die p.step p.logAt.1 p.logAt.2 p.asid p.va p.code
  else
    let ahead := (s.trans.parkWait.filter (fun w => !(s.parkMatch w).isSome)).length
    let fits := decide (s.trans.parks.length + ahead < 1024) && s.ringFree (s.trans.nextSeq + ahead)
    let s := if (s.parkMatch p).isSome || fits then s else s.dadd 0x3601 2 1
    { s with trans := { s.trans with parkWait := s.trans.parkWait ++ [p] } }

/-- The 64 bytes of a park record (R297). -/
def parkBytes (r : ParkRec) : Bytes :=
  let p := r.first
  let body := natLe 60
    (min r.joined.length 0xFFFF * 2 ^ (200 - 32) + p.sdt % 2 ^ 64 * 2 ^ (216 - 32) + p.step % 2 ^ 32 * 2 ^ (280 - 32) +
     p.almSlot % 2 ^ 32 * 2 ^ (312 - 32) + p.position % 2 ^ 32 * 2 ^ (344 - 32) + p.va % 2 ^ 56 * 2 ^ (376 - 32) +
     p.access % 16 * 2 ^ (432 - 32) + p.asid % 4096 * 2 ^ (436 - 32) + p.level % 8 * 2 ^ (448 - 32) +
     p.core % 512 * 2 ^ (451 - 32) + p.unit % 64 * 2 ^ (460 - 32) + p.die % 4 * 2 ^ (466 - 32) +
     p.code % 16 * 2 ^ (468 - 32) + p.kind % 256 * 2 ^ (472 - 32) + r.seq % 2 ^ 32 * 2 ^ (480 - 32))
  natLe 4 (crc32c body) ++ body

/-- The record as it stands in the ring. -/
def State.writePark (s : State) (r : ParkRec) : State :=
  s.arriveWrite r.first.die (s.dget 0x2620 0 + 64 * (r.seq % 1024)) (parkBytes r) true .translation 0xFFFF 0xFFFF r.first.step

/-! ### Requests (R289, R334, R387, R501) -/

/-- Requests in the share that a new one would draw on, and the share's size (R289). Descriptor reads of an action draw on the share of image fetches; no share is named for its stores. -/
def State.shareUsed (s : State) (a : Agent) (die : Nat) : Nat × Nat :=
  let n := fun (p : Req → Bool) => (s.trans.reqs.filter (fun r => r.tracked && p r)).length
  match a with
  | .thread g _ => (n (fun r => match r.agent with | .thread h _ => h == g | _ => false), 256)
  | .image _ _ | .action _ => (n (fun r => r.die == die && r.kind == .load && (match r.agent with | .image _ _ | .action _ => true | _ => false)), 1024)
  | .mover d m | .moverDesc d m => (n (fun r => match r.agent with | .mover e k | .moverDesc e k => e == d && k == m | _ => false), 512)
  | .update _ => (n (fun r => r.die == die && (match r.agent with | .update _ => true | _ => false)), 4096)

/-- k more requests fit the agent's share (R289). -/
def State.canTrack (s : State) (a : Agent) (die k : Nat) : Bool :=
  let (u, n) := s.shareUsed a die
  u + k ≤ n

/-- Extension of a request frame: LENGTH and TAG (R321), and what the owner's Loft slice must know of the access, for which no field is laid out: an Eaves fill, the irregular path, LOFT_ALLOC (R256, R263, R274; log 89). -/
def reqExt (len tag : Nat) (eaves irregular alloc : Bool) : Bytes :=
  natLe 8 (tag % 2 ^ 46 + len % 512 * 2 ^ 46 + ofBool eaves * 2 ^ 59 + ofBool irregular * 2 ^ 60 + ofBool alloc * 2 ^ 61)

/-- A fatal host fault of a mover: the port is its LOCATION (R387, R469). -/
def State.hostFault (s : State) (die step mover port status addr : Nat) : State :=
  s.fatal 0xB0 die .hostPort step port mover (natLe 1 port ++ natLe 1 status ++ natLe 8 addr)

/-- ITERATION of the work that an agent does, whose parity its frames carry (R58, R320). -/
def State.agentIter (s : State) (a : Agent) : Nat :=
  let of := fun id => match s.action id with | some a => a.iter | none => 0
  match a with
  | .thread g t => (s.thread g t).iter
  | .mover d m | .moverDesc d m => (s.mover d m).iter
  | .image _ id | .update id | .action id => of id

/-- A request issued: a read looks in the Eaves cache when it may (R259), a write drops the own copy (R261), a remote one is sent to its rank (R334) and a host one leaves by its port, a write followed by the zero-length read that acknowledges it (R387). Answers its number. -/
def State.issue (s : State) (r : Req) (mayEaves : Bool) : State × Nat :=
  let (id, s) := s.takeId
  let r := { r with id := id }
  let load := r.kind == .load
  let eaves := load && mayEaves && s.running && s.foreign r.die r.target
  let lpa := match r.target with | .here a => a | .remote _ a => a | .host _ a => a
  let need := sectorMask lpa r.len
  let hit := if eaves then (s.globalLine r.target).bind (fun g => s.eavesHit r.die g need) else none
  let s := if load then s else s.eavesDrop r.die r.target
  match hit with
  | some l =>
    let s := (s.dadd 0x3502 (r.die + 1) 1).eavesTouch l
    let r := { r with done := true, data := slice l.bytes (lpa % 256) r.len }
    (({ s with trans := { s.trans with reqs := s.trans.reqs ++ [r] } } : State).notePeak r.die, id)
  | none =>
    let r := { r with eaves := eaves }
    let s := match s.globalLine r.target with
      | some g => if eaves then { s with cache := { s.cache with eavesFills := s.cache.eavesFills ++ [(⟨r.die, g, id, false⟩ : EavesFill)] } } else s
      | none => s
    let s := ({ s with trans := { s.trans with reqs := s.trans.reqs ++ [r] } } : State).notePeak r.die
    let s := match r.target with
      | .here _ => s
      | .remote rank a =>
        let odd := s.agentIter r.agent % 2 == 1
        match r.kind with
        | .load => s.send 0x10 rank 0 r.die odd ((r.span a).1 % 2 ^ 44) (reqExt (r.span a).2 id r.eaves r.irregular r.alloc) (reqKey a)
        | .store => s.send 0x11 rank 0 r.die odd (a % 2 ^ 44) (reqExt r.len id false r.irregular r.alloc ++ r.data) (reqKey a)
        | .add fmt => s.send 0x12 rank 0 r.die odd (a % 2 ^ 44 + fmt % 16 * 2 ^ 44) (reqExt r.len id false r.irregular r.alloc ++ r.data) (reqKey a)
      | .host p a =>
        if load then s.emit (.hostRead p a r.len id) else (s.emit (.hostWrite p a r.data)).emit (.hostRead p a 0 id)
    (s, id)

/-- The state without a request: its tracking entry frees. -/
def State.dropReq (s : State) (id : Nat) : State :=
  { s with trans := { s.trans with reqs := s.trans.reqs.filter (fun r => r.id != id) } }

/-- AGENT code of R297; the actions of the fabric have none, and all ones stands in their records (log 46). -/
def agentCode : Agent → Nat
  | .thread _ _ => 0
  | .image _ _ => 1
  | .mover _ _ => 2
  | .moverDesc _ _ => 3
  | .update _ => 4
  | .action _ => 0xFF

/-- A request that the port holds for the host: one not answered, nor discarded by a reset of the port (R377). -/
def State.atHost (s : State) (p : Nat) (r : Req) : Bool :=
  !r.done && (match r.target with | .host q _ => q == p && !decide (r.id ∈ (s.port p).discarded) | _ => false)
/-- A request to the target may leave: at most 4,096 requests that await a completion are outstanding on a port (R376). -/
def State.hostRoom (s : State) : Target → Bool
  | .host p _ => decide ((s.trans.reqs.filter (s.atHost p)).length < 4096)
  | _ => true

/-- A target in another package. -/
def Target.isRemote : Target → Bool
  | .remote _ _ => true
  | _ => false
/-- A target outside this package: reads of it are issued and awaited. -/
def Target.isAway : Target → Bool
  | .here _ => false
  | _ => true

/-- A request of an engine, which issues it at position `pos` of its work. -/
def engineReq (a : Agent) (die : Nat) (kind : ReqKind) (t : Target) (len : Nat) (data : Bytes) (alloc : Bool) (step asid va : Nat) (pos : Nat × Nat × Nat) : Req :=
  { id := 0, agent := a, die := die, kind := kind, target := t, len := len, data := data, done := false, eaves := false, alloc := alloc,
    irregular := false, poison := none, reg := 99, signed := false, off := 0, desc := 0, next := none, step := step, asid := asid, va := va,
    pos := pos }

/-- The agent holds no request any more. -/
def State.dropAgent (s : State) (a : Agent) : State :=
  { s with trans := { s.trans with reqs := s.trans.reqs.filter (fun r => r.agent != a) } }

/-- What an engine's read of translated pieces gives. -/
inductive Fetched where
  | bytes (bs : Bytes)
  | poison (lpa : Nat)
  /-- reads of another package are under way -/
  | waits
  deriving DecidableEq, Repr

/-- The bytes of translated pieces as an engine reads them: local pieces at once through the Loft, remote and host ones by requests that it issues as its share and the port allow and waits for (R60, R92, R289, R334, R376, R387). Pieces are (VA, length, target, MEM_ATTR). -/
def State.fetchPieces (s : State) (agent : Agent) (die step asid : Nat) (pos : Nat × Nat × Nat) (ps : List (Nat × Nat × Target × Nat)) : State × Fetched :=
  let mine := s.trans.reqs.filter (fun r => r.agent == agent && r.kind == .load)
  let reqOf := fun (p : Nat × Nat × Target × Nat) => mine.find? (fun r => r.target == p.2.2.1 && r.len == p.2.1)
  let missing := ps.filter (fun p => p.2.2.1.isAway && (reqOf p).isNone)
  if missing ≠ [] then
    (missing.foldl (fun s p =>
      if s.canTrack agent die 1 && s.hostRoom p.2.2.1 then (s.issue (engineReq agent die .load p.2.2.1 p.2.1 [] (bit p.2.2.2 0) step asid p.1 pos) false).1 else s) s, .waits)
  else if ps.any (fun p => match reqOf p with | some r => p.2.2.1.isAway && !r.done | none => false) then (s, .waits)
  else
    let s := ps.foldl (fun s p => match p.2.2.1 with | .here a => (s.loftRead a p.2.1 (bit p.2.2.2 0)).noteOne die | _ => s) s
    let bad := ps.findSome? (fun p => match p.2.2.1 with
      | .here a => s.poisonedAt a p.2.1
      | _ => (reqOf p).bind (fun r => r.poison))
    match bad with
    | some lpa => (s, .poison lpa)
    | none =>
      (s, .bytes ((ps.map (fun p => match p.2.2.1 with
        | .here a => s.read a p.2.1
        | _ => match reqOf p with | some r => r.data | none => [])).flatten))

end Sys2Proof.Machine
end

