-- ==== Sys2Proof/Machine/Prefetch.lean ====
section
/-! DEFINITION. The hardware prefetcher (R268 to R270): training on demand reads and the allocate-only requests of a confirmed tracker. -/
namespace Sys2Proof.Machine

/-- A tracker that a read matches: same reader and ASID, within 64 KiB (R268). -/
def Tracker.matches (t : Tracker) (reader asid va : Nat) : Bool :=
  t.reader == reader && t.asid == asid && va ≤ t.last + 65536 && t.last ≤ va + 65536

/-- A VA lies in the 64 KiB page of a mark, or past it in the direction of a stride. -/
def reaches (stride : Int) (mark va : Nat) : Bool := if 0 ≤ stride then mark / 65536 ≤ va / 65536 else va / 65536 ≤ mark / 65536

/-- A tracker after a read that matches it: a usable stride seen twice in succession confirms it (R268), and a read that enters the page at which it stopped lets it run on (R270). -/
def Tracker.see (t : Tracker) (va : Nat) : Tracker :=
  let d : Int := (va : Int) - (t.last : Int)
  let confirmed := d == t.stride && d != 0 && d.natAbs ≤ 65536
  { t with last := va, stride := d, confirmed := confirmed, stop := t.stop.filter (fun v => confirmed && !reaches d v va) }

/-- Demand requests that the controller of a storage address's channel holds (R269). -/
def State.channelDemand (s : State) (p : Nat) : Nat :=
  (s.cache.fills.filter (fun f => !f.prefetch && channelOf (f.line * 256) == channelOf p)).length

/-- One allocate-only request for the line of an LPA (R269). -/
def State.prefetchLine (s : State) (die lpa : Nat) : State :=
  let line := s.line lpa
  if (s.loftLine line).isSome || (s.fill line).isSome then s
  else if 8 ≤ s.channelDemand (s.place lpa) ∨
      2048 ≤ (s.cache.fills.filter (fun f => f.prefetch && f.asker == die)).length then s.dadd 0x350A (die + 1) 1
  else
    let s := s.dadd 0x3505 (die + 1) 1
    ({ s with cache := { s.cache with fills := s.cache.fills ++ [⟨line, 0xFF, true, true, die, []⟩] } } : State).notePeak die

/-- The LPA that a prefetch may go to in a page held as a leaf: local, in Slate or Thatch, PREFETCHABLE (R269, R270). -/
def State.prefetchable (s : State) (c : XCtx) (e : TlbEntry) : Option Nat :=
  match s.useLeaf c e.leaf.toNat e.size with
  | .ok (.here a) attr => if bit attr 2 && inTiers a then some a else none
  | _ => none

/-- The requests of a confirmed tracker for lines n to D ahead, up to the target at which it stops; answers that target (R269, R270). A target in the page of the read needs that page PREFETCHABLE; one in another page needs its translation held and PREFETCHABLE, and otherwise stops the tracker, once. -/
def prefetchRun (die asid va : Nat) (stride : Int) (page : Option TlbEntry) (stop : Option Nat) : List Nat → State → State × Option Nat
  | [], s => (s, stop)
  | n :: rest, s =>
    let target := (va : Int) + n * stride
    if target < 0 ∨ 2 ^ 56 ≤ target then (s, stop)
    else
      let t := target.toNat
      let c : XCtx := ⟨asid, t, 0, false, none, die⟩
      let own := page.filter (fun p => p.va == t / p.size * p.size)
      match own with
      | some p => prefetchRun die asid va stride page stop rest (match s.prefetchable c p with | some a => s.prefetchLine die a | none => s)
      | none =>
        if stop.any (fun v => reaches stride v t) then (s, stop)
        else match (findTlb asid t (pget s.trans.dieTlb die)).bind (s.prefetchable c) with
          | some a => prefetchRun die asid va stride page stop rest (s.prefetchLine die a)
          | none => (s.dadd 0x3509 (die + 1) 1, some t)

/-- A demand read trains the die's trackers, and a confirmed one sends its requests (R268, R269). Readers below 384 are cores. -/
def State.train (s : State) (die reader asid va : Nat) : State :=
  let trackers := pget s.cache.trackers die
  let (t, rest) := match trackers.find? (fun t => t.matches reader asid va) with
    | some t => (t.see va, trackers.eraseP (fun (u : Tracker) => u.matches reader asid va))
    | none => (⟨reader, asid, va, 0, false, none⟩, trackers.take 63)
  let page := s.cachedLeaf ⟨asid, va, 0, false, if reader < 384 then some reader else none, die⟩
  let (s, stop) := if t.confirmed && s.dget 0x2503 1 == 1 then
      prefetchRun die asid va t.stride page t.stop ((List.range (s.dget 0x2504 (die + 1))).map (· + 1)) s
    else (s, t.stop)
  { s with cache := { s.cache with trackers := pset s.cache.trackers die ({ t with stop := stop } :: rest) } }

end Sys2Proof.Machine
end

