-- ==== Sys2Proof/Machine/Slices.lean ====
section
/-! DEFINITION. What happens at the memory slices and controllers (file 10): reads, writes and write-adds at the owning Loft slice, fills, Eaves fills, prefetch distance, stamp rewrites and scrubbing. -/
namespace Sys2Proof.Machine

/-! ### Requests at the slice (R255 to R257, R263, R273) -/

/-- The local tier address of a request that waits for its slice. -/
def Req.sliceLpa (r : Req) : Option Nat :=
  match r.target with
  | .here a => if inTiers a && !r.done then some a else none
  | _ => none

/-- A write-add. -/
def ReqKind.isAdd : ReqKind → Bool
  | .add _ => true
  | _ => false

/-- Sectors counted on the irregular access path (R274). -/
def State.countSectors (s : State) (die : Nat) (sectors : BitVec 8) : State :=
  s.dadd 0x350E (die + 1) ((List.range 8).filter (fun i => sectors.getLsbD i)).length
/-- The sectors that an irregular access transfers on a Loft miss, beside those already asked for (R273, R274). -/
def State.countIrregular (s : State) (r : Req) (line : Nat) (asked : BitVec 8) : State :=
  match r.irregular, r.target with
  | true, .here a => s.countSectors (lpaDie (line * 256)) (s.missing line a r.len &&& ~~~asked)
  | _, _ => s

/-- A request held on an outstanding fill, which then also brings its sectors, and installs them if the request allocates; a demand read makes a prefetched fill useful and late, for the die that asked for it (R255, R256, R271). -/
def State.holdOn (s : State) (f : Fill) (r : Req) (need : BitVec 8) : State :=
  let die := lpaDie (f.line * 256)
  let s := (s.dadd 0x3501 (die + 1) 1).countIrregular r f.line f.sectors
  let s := if f.prefetch && r.kind == .load then s.outcome f.asker 1 1 0 else s
  let f' : Fill := { f with sectors := f.sectors ||| need, install := f.install || r.eaves || r.alloc || r.kind.isAdd,
                            prefetch := f.prefetch && r.kind != .load, held := addNew r.id f.held }
  { s with cache := { s.cache with fills := mapIf (fun g => g.line == f.line) (fun _ => f') s.cache.fills } }

/-- A new fill for a request (R256). A fill that an Eaves read needs, or a write-add, always allocates (R256, R257). -/
def State.newFill (s : State) (line : Nat) (r : Req) (sectors : BitVec 8) (install : Bool) : State :=
  let s := (s.dadd 0x3501 (lpaDie (line * 256) + 1) 1).countIrregular r line 0
  { s with cache := { s.cache with fills := s.cache.fills ++ [⟨line, sectors, install, false, r.die, [r.id]⟩] } }

/-- A read at the owning slice: a hit is served, a miss fetches what it lacks and installs it where the access allocates (R255, R256). -/
def State.sliceRead (s : State) (r : Req) (a : Nat) (e : EccEvent) : State :=
  let line := s.line a
  let die := lpaDie (line * 256)
  let need := sectorMask a r.len
  match s.fill line with
  | some f => s.holdOn f r need
  | none =>
    match s.loftLine line with
    | some l =>
      if l.valid &&& need = need then ((((s.dadd 0x3500 (die + 1) 1).loftTouch l).loftEcc line e).serve r line)
      else (s.loftTouch l).newFill line r (need &&& ~~~l.valid) (r.alloc || r.eaves)
    | none => s.newFill line r (if r.len = 256 then 0xFF else need) (r.alloc || r.eaves)

/-- A write at the owning slice: whole sectors need no read, part of a sector is read first; without LOFT_ALLOC a missing line is written at the controller, which reads the check sector of a part that it reads (R256, R267). -/
def State.sliceWrite (s : State) (r : Req) (a : Nat) (e : EccEvent) : State :=
  let line := s.line a
  let part := sectorMask a r.len &&& ~~~wholeMask a r.len
  match s.fill line with
  | some f => s.holdOn f r part
  | none =>
    match s.loftLine line with
    | some l =>
      if l.valid &&& part = part then (s.loftEcc line e).perform r else s.newFill line r (part &&& ~~~l.valid) true
    | none =>
      if r.alloc && part != 0 then s.newFill line r part true
      else
        let s := s.countIrregular r line 0
        ((if part = 0 then s else s.checkSector line).memoryEcc line e).perform r

/-- A write-add at the owning slice: the line is allocated, then every element receives its addition (R257). -/
def State.sliceAdd (s : State) (r : Req) (a : Nat) (e : EccEvent) : State :=
  let line := s.line a
  let need := sectorMask a r.len
  match s.fill line with
  | some f => s.holdOn f r need
  | none =>
    match s.loftLine line with
    | some l =>
      if l.valid &&& need = need then (s.loftEcc line e).perform r else s.newFill line r (need &&& ~~~l.valid) true
    | none => s.newFill line r need true

/-- An earlier request that a later one may not pass: between the same two dies (R21), or of the same thread to the same bytes (R89). A request is past its way once it is answered or held on a fill. -/
def State.passes (s : State) (q r : Req) : Bool :=
  match q.target, r.target with
  | .here x, .here y =>
    !q.done && !s.cache.fills.any (fun f => q.id ∈ f.held) &&
      ((q.die == r.die && s.owner x == s.owner y && s.owner y != r.die) ||
       (q.agent == r.agent && (match r.agent with | .thread _ _ => true | _ => false) && decide (x < y + r.len) && decide (y < x + q.len)))
  | _, _ => false
/-- A request whose turn at its slice or SRAM window it is (R21, R89). -/
def State.inTurn (s : State) (r : Req) : Bool := !(s.trans.reqs.takeWhile (fun q => q.id != r.id)).any (fun q => s.passes q r)

/-- A request of a kind that waits at its slice. -/
def State.atSlice (s : State) (req : Nat) (p : ReqKind → Bool) : Option (Req × Nat) :=
  match s.req req with
  | some r =>
    match r.sliceLpa with
    | some a => if p r.kind && !s.cache.fills.any (fun f => req ∈ f.held) then some (r, a) else none
    | none => none
  | none => none
/-- A request served at its slice in its turn. -/
def State.serveAt (s : State) (req : Nat) (p : ReqKind → Bool) (k : Req → Nat → State) : Result :=
  match s.atSlice req p with
  | some (r, a) => when (s.inTurn r) s (k r a)
  | none => .next s

/-- LOFT_READ: a waiting load; or the errors that a line's data shows to a read served in one step, which comes after it (R275 to R277; log 96). -/
def execLoftRead (of_ : LoftSource) (ecc : EccEvent) (s : State) : Result :=
  match of_ with
  | .request req => s.serveAt req (· == .load) (fun r a => s.sliceRead r a ecc)
  | .line n => when (s.alive && inTiers (n * 256) && (s.fill n).isNone) s (s.readEcc n ecc)

/-- LOFT_WRITE. -/
def execLoftWrite (req : Nat) (ecc : EccEvent) (s : State) : Result := s.serveAt req (· == .store) (fun r a => s.sliceWrite r a ecc)

/-- CONTROLLER_WRITE_ADD. -/
def execControllerWriteAdd (req : Nat) (ecc : EccEvent) (s : State) : Result := s.serveAt req ReqKind.isAdd (fun r a => s.sliceAdd r a ecc)

/-- LOFT_FILL_RETURN. -/
def execLoftFillReturn (line : Nat) (ecc : EccEvent) (s : State) : Result :=
  match s.fill line with
  | some f => .next (s.landFill f ecc)
  | none => .next s

/-- The Eaves fill outstanding for a die and global line whose data is back. -/
def State.eavesReady (s : State) (die line : Nat) : Option (EavesFill × Req) :=
  s.cache.eavesFills.findSome? (fun f =>
    if f.die = die ∧ f.line = line then
      match s.req f.req with
      | some r => if r.done then some (f, r) else none
      | none => none
    else none)

/-- An Eaves fill returns: installed, unless an invalidation came after its request (R259, R260). -/
def State.landEaves (s : State) (f : EavesFill) (r : Req) : State :=
  let s := { s with cache := { s.cache with eavesFills := s.cache.eavesFills.filter (fun g => g.req != f.req) } }
  let a := match r.target with | .here a => a | .remote _ a => a | .host _ a => a
  let s := s.mapReq r.id (fun q => { q with eaves := false, data := slice r.data (a % 32) r.len })
  if f.dead then s.dadd 0x350F (f.die + 1) 1
  else if r.poison.isSome then s
  else (s.dadd 0x3503 (f.die + 1) 1).eavesInstall f.die f.line (sectorMask a r.len) (a % 256 / 32 * 32) r.data

/-- EAVES_FILL_RETURN. -/
def execEavesFillReturn (die : Fin 4) (line : Nat) (s : State) : Result :=
  match s.eavesReady die line with
  | some (f, r) => .next (s.landEaves f r)
  | none => .next s

/-! ### Guards and prefetch distance (R271, R360) -/

/-- STAMP_REWRITE. -/
def execStampRewrite (guard : Fin 64) (s : State) : Result :=
  when (decide (0 < tget 0 s.cache.stampDue guard)) s (s.rewriteStamp guard)

/-- The revised prefetch distance (R271). -/
def nextDistance (useful late unused d most : Nat) : Nat :=
  if useful * 100 < 40 * (useful + unused) then max 1 (d / 2)
  else if 70 * (useful + unused) ≤ useful * 100 ∧ useful < 4 * late then min most (2 * d)
  else d

/-- PREFETCH_DISTANCE_REVISE: after every 4,096 outcomes of the die. -/
def execPrefetchDistanceRevise (die : Fin 4) (s : State) : Result :=
  let (useful, late, unused) := pget s.cache.outcomes die
  let s' := s.dset 0x2504 (die + 1) (nextDistance useful late unused (s.dget 0x2504 (die + 1)) (s.dget 0x2503 2))
  when (decide (4096 ≤ useful + unused)) s
    { s' with cache := { s'.cache with outcomes := pset s'.cache.outcomes die (0, 0, 0) } }

/-! ### Scrub (R278 to R280) -/

/-- Sector number of a storage address within its channel (R264, R267). -/
def channelSector (p : Nat) : Nat :=
  match region p with
  | .slate => let o := p % 0x4800000000; (o / 65536 * 256 + o % 256) / 32
  | _ => let o := (p - 0x20000000000) % 0x4000000000; (o / 4096 * 256 + o % 256) / 32

/-- Channels of a die's tier. -/
def tierChannels (die : Nat) (thatch : Bool) : List Nat :=
  if thatch then rangeFrom (1024 + 16 * die) (1040 + 16 * die) else rangeFrom (256 * die) (256 * die + 256)
/-- Sectors of a channel. -/
def channelSize (thatch : Bool) : Nat := if thatch then 536870912 else 37748736
/-- Index of the scrub level entry of a tier. -/
def levelEntry (thatch : Bool) : Nat := if thatch then 0x2507 else 0x2506
/-- Sectors per channel and dusk slot (R278). -/
def State.scrubRate (s : State) (die : Nat) (thatch : Bool) : Nat :=
  (if thatch then 128 else 36) * 2 ^ s.dget (levelEntry thatch) (die + 1)

/-- Key of a channel among the deferred resources of a dusk slot (R51): channel c is c, the SRAM of core g is 3000 + g, link l is 2000 + l. -/
def State.deferredNow (s : State) (key : Nat) : Bool := decide (key ∈ s.log.deferred)

/-- A sector is among those that the scrubber of its channel reads in this dusk slot. -/
def State.scrubReads (s : State) (die sector : Nat) : Bool :=
  let p := sector * 32
  let thatch := match region p with | .thatch => true | _ => false
  let c := channelOf p
  let pos := tget 0 s.cache.scrubPos c
  inTiers p && lpaDie p == die && !s.deferredNow c &&
    decide (pos ≤ channelSector p) && decide (channelSector p < min (channelSize thatch) (pos + s.scrubRate die thatch))

/-- A sector of memory that scrub finds uncorrectable: poisoned, unless the Loft holds a good copy, which scrub leaves in force (R277, R279). -/
def State.scrubPoison (s : State) (sector : Nat) : State :=
  let p := sector * 32
  if (s.loftLine (sector / 8)).any (fun l => l.valid.getLsbD (sector % 8)) then
    let s := s.dadd 0x350C (eccSub p) 1
    { s with cache := { s.cache with under := addNew sector s.cache.under } }
  else s.poisonSector p

/-- One sector that scrub finds in error (R276 to R279): corrected, or poisoned and logged as 0x72. -/
def State.scrubFound (s : State) (sector : Nat) (e : EccEvent) : State :=
  let p := sector * 32
  match e with
  | .clean => s
  | .corrected _ =>
    let s := s.eccCorrected p (eccSub p) (eccUnit p)
    { s with cache := { s.cache with scrubCorrected := tadd s.cache.scrubCorrected (channelOf p) 1 } }
  | .uncorrectable _ => if sector ∈ s.cache.poison ∨ sector ∈ s.cache.under then s else (s.scrubPoison sector).poisonFound p

/-- The scrubbers of a die's tier advance on every channel that is not deferred. -/
def State.scrubAdvance (s : State) (die : Nat) (thatch : Bool) : State :=
  (tierChannels die thatch).foldl (fun s c =>
    if s.deferredNow c then s
    else
      let pos := min (channelSize thatch) (tget 0 s.cache.scrubPos c + s.scrubRate die thatch)
      { s with cache := { s.cache with scrubPos := tset s.cache.scrubPos c pos } }) s

/-- The die's scrubbers have read in the present dusk slot. -/
def State.scrubMark (s : State) (die : Nat) : State := { s with cache := { s.cache with scrubbed := pset s.cache.scrubbed die (s.slot + 1) } }
/-- SCRUB_DUSK: once in a dusk slot, with the errors found among the sectors that it reads. -/
def execScrubDusk (die : Fin 4) (found : List (Nat × EccEvent)) (s : State) : Result :=
  when (s.alive && s.inDusk && pget s.cache.scrubbed die != s.slot + 1 && found.all (fun f => s.scrubReads die f.1)) s ((((found.foldl (fun s f => s.scrubFound f.1 f.2) s).scrubAdvance die false).scrubAdvance die true).scrubMark die)

/-- The level after a pass (R278). -/
def nextLevel (level least most : Nat) (corrected : List Nat) : Nat :=
  if corrected.any (fun n => decide (64 < n)) then min most (level + 1)
  else if corrected.all (· == 0) then max least (level - 1)
  else level

/-- A tier's pass ends: counted, the level revised, and the next pass begins (R278). -/
def State.passEnd (s : State) (die : Nat) (thatch : Bool) : State :=
  let cs := tierChannels die thatch
  let idx := levelEntry thatch
  let level := nextLevel (s.dget idx (die + 1)) (min (s.dget 0x2505 (if thatch then 2 else 1)) (s.dget idx (die + 1)))
    (if thatch then 2 else 3) (cs.map (fun c => tget 0 s.cache.scrubCorrected c))
  let s := (s.dset idx (die + 1) level).dadd 0x350D (if thatch then die + 5 else die + 1) 1
  let clear := fun (t : Tab Nat) => t.filter (fun p => !(p.1 ∈ cs))
  { s with cache := { s.cache with scrubPos := clear s.cache.scrubPos, scrubCorrected := clear s.cache.scrubCorrected } }

/-- SCRUB_PASS_END: every channel of the tier has been read to its end. -/
def execScrubPassEnd (die : Fin 4) (thatch : Bool) (s : State) : Result :=
  when (s.alive && (tierChannels die thatch).all (fun c => tget 0 s.cache.scrubPos c == channelSize thatch)) s
    (s.passEnd die thatch)

/-- An error that a scrub of on-die SRAM reports (R275, R276). -/
def State.sramScrubFound (s : State) (g lpa : Nat) (e : EccEvent) : State :=
  let die := coreDie g
  match e with
  | .clean => s
  | .corrected _ => s.eccCorrected lpa (9 + die) (48 + die)
  | .uncorrectable _ =>
    let s := s.dadd 0x350C (9 + die) 1
    s.fatal 0x73 die .memory 0xFFFFFFFF g 0xFFFF (natLe 8 lpa ++ natLe 1 Source.memory.code)

/-- An LPA in the scratch or accumulator file of a core. -/
def inCoreSram (g lpa : Nat) : Bool :=
  (decide (scratchLpa g 0 ≤ lpa) && decide (lpa < scratchLpa g 0 + 0x300000)) ||
  (decide (accLpa g 0 ≤ lpa) && decide (lpa < accLpa g 0 + 0xC0000))

/-- SRAM_SCRUB: in a dusk slot, of a core that is not deferred (R280). -/
def execSramScrub (core : Fin 384) (lpa : Nat) (found : EccEvent) (s : State) : Result :=
  when (s.alive && s.inDusk && !s.deferredNow (3000 + core) && inCoreSram core lpa) s (s.sramScrubFound core lpa found)

/-- A scrub of cache data: a clean or Eaves line is fetched again and counts as corrected, a dirty sector is poisoned (R275, R280). -/
def State.cacheScrubFound (s : State) (die : Nat) (eaves : Bool) (line : Nat) (e : EccEvent) : State :=
  if eaves then
    match e with
    | .clean => s
    | .corrected _ => s.eccCorrected 0 (9 + die) (48 + die)
    | .uncorrectable _ =>
      let s := s.eccCorrected 0 (9 + die) (48 + die)
      { s with cache := { s.cache with eaves := s.cache.eaves.filter (fun l => !(l.die == die && l.line == line)) } }
  else
    let s' := s.loftEcc line e
    match e, s.loftLine line with
    | .uncorrectable k, some l =>
      if l.dirty.getLsbD k.val then s'
      else
        let drop := fun (m : LoftLine) => { m with valid := m.valid &&& ~~~BitVec.ofNat 8 (2 ^ k.val) }
        { s' with cache := { s'.cache with loft := mapIf (fun m => m.line == line) drop s'.cache.loft } }
    | _, _ => s'

/-- The line that a cache scrub names is present in the die's cache. -/
def State.cached (s : State) (die : Nat) (eaves : Bool) (line : Nat) : Bool :=
  if eaves then s.cache.eaves.any (fun l => l.die == die && l.line == line)
  else (s.loftLine line).isSome && lpaDie (line * 256) == die

/-- Lines of the set of a cache in which a line lies. -/
def State.dropSet (s : State) (die : Nat) (eaves : Bool) (line : Nat) : State :=
  if eaves then
    { s with cache := { s.cache with eaves := s.cache.eaves.filter (fun l => !(eavesSet l.die l.line == eavesSet die line)) } }
  else (s.cache.loft.filter (fun l => s.loftSet l.line == s.loftSet line)).foldl State.loftEvict s
/-- A scrub of the tags of a set: corrected, or the set is invalidated after its dirty lines are written back, and counted (R275, R280). -/
def State.tagScrubFound (s : State) (die : Nat) (eaves : Bool) (line : Nat) (e : EccEvent) : State :=
  match e with
  | .clean => s
  | .corrected _ => s.eccCorrected (line * 256) (9 + die) (48 + die)
  | .uncorrectable _ => (s.dadd 0x350C (9 + die) 1).dropSet die eaves line

/-- CACHE_SCRUB: data of a line, or tags of its set. -/
def execCacheScrub (die : Fin 4) (part : SlicePart) (line : Nat) (found : EccEvent) (s : State) : Result :=
  when (s.alive && (found == .clean || part.tags || s.cached die part.eaves line)) s
    (if part.tags then s.tagScrubFound die part.eaves line found else s.cacheScrubFound die part.eaves line found)

/-- IDLE_BANK_SCRUB: one scratch row, at feature level 2 only (R30, R280). -/
def execIdleBankScrub (core : Fin 384) (found : EccEvent) (s : State) : Result :=
  let k := s.core core
  let s' := s.sramScrubFound core (scratchLpa core (64 * k.scrubRow)) found
  when (s.alive && s.fuse.featureLevel == 2) s
    (let k' := s'.core core
     s'.setCore core { k' with scrubRow := (k.scrubRow + 1) % 49152 })

end Sys2Proof.Machine
end

