-- ==== Sys2Proof/Machine/Flags.lean ====
section
/-! DEFINITION. Everything that is computed as a flag: compares of the core's scalar and vector instructions, branch conditions, open tests, and the status bits of a quantised block. -/
namespace Sys2Proof.Machine

/-- The predicate that a scalar compare writes (R84); none for an operation that is no compare. -/
def scalarCompare (op : ScalarOp) (x y : Nat) : Option Bool :=
  let sx := toSigned 64 x
  let sy := toSigned 64 y
  match op with
  | .cmpEq => some (x == y)
  | .cmpNe => some (x != y)
  | .cmpLt => some (decide (sx < sy))
  | .cmpLe => some (decide (sx ≤ sy))
  | .cmpLtu => some (decide (x < y))
  | .cmpLeu => some (decide (x ≤ y))
  | _ => none

/-- A branch is taken (R84). -/
def branchTaken (c : BranchCond) (x y : Nat) : Bool :=
  let sx := toSigned 64 x
  let sy := toSigned 64 y
  match c with
  | .always => true
  | .eq => x == y
  | .ne => x != y
  | .lt => decide (sx < sy)
  | .ge => decide (sy ≤ sx)
  | .ltu => decide (x < y)
  | .geu => decide (y ≤ x)

/-- The VCMP condition of a code on two exact values: a NaN makes every condition false but NE and UNORD; zeros are equal (R188). -/
def vcmpHolds (cond : Nat) (x y : Val) : Bool :=
  if x.isNan || y.isNan then cond == 1 || cond == 6
  else
    let o := x.cmp y
    match cond with
    | 0 => o == .eq
    | 1 => o != .eq
    | 2 => o == .lt
    | 3 => o != .gt
    | 4 => o == .gt
    | 5 => o != .lt
    | _ => false

/-- Magnitude of a finite value above k quarters of a format's largest magnitude times 2^(X - 127). -/
def Val.aboveQuarters (v : Val) (f : Fmt) (x k : Nat) : Bool :=
  match v with
  | .fin _ m e => magGt m e (k * f.maxM) (f.maxE - 2 + ((x : Int) - 127))
  | _ => false

/-- A quantised MX block: element codes, written scale, status byte (R149) and overflow bit (R108). -/
structure QBlock where
  codes : List Nat
  scale : Nat
  status : Nat
  overflow : Bool
  deriving DecidableEq, Repr

/-- One block quantised with scale x (R108, R149). Each element carries its draw and whether its channel is a saturating one. -/
def quantBlock (f : Fmt) (mode : RMode) (x : Nat) (es : List (Val × Nat × Bool)) : QBlock :=
  if x = 255 ∨ es.any (fun e => e.1.nonfinite) then ⟨es.map (fun _ => 0), 255, 0, false⟩
  else
    let codes := es.map (fun e => (encodeMx f mode e.2.1 x e.1).1)
    let sat := es.any (fun e => !e.2.2 && e.1.aboveQuarters f x 4)
    let head := es.any (fun e => !e.2.2 && e.1.aboveQuarters f x 1)
    let masked := es.any (fun e => e.2.2 && e.1.aboveQuarters f x 4)
    ⟨codes, x, ofBool sat + 2 * ofBool head + 4 * ofBool masked, sat⟩

end Sys2Proof.Machine
end

