-- ==== Sys2Proof/Machine/Operands.lean ====
section
/-! DEFINITION. The operand forms of the core instruction set (files 03, 05 and 07): fields of the instruction word, the encodings that the word alone makes legal, the registers of a thread, lanes of vector registers and operand checks. -/
namespace Sys2Proof.Machine

/-! ### Fields of the word (R82, R83, R132) -/

/-- CLASS. -/
def wClass (w : Nat) : Nat := field w 60 4
/-- OP. -/
def wOp (w : Nat) : Nat := field w 52 8
/-- PRED. -/
def wPred (w : Nat) : Nat := field w 49 3
/-- PNEG. -/
def wPneg (w : Nat) : Bool := bit w 48
/-- DST of F-R, F-I and F-S; DATA of F-M; SRC_A of F-B. -/
def wDst (w : Nat) : Nat := field w 43 5
/-- SRC_A of F-R, F-I and F-S; BASE of F-M; SRC_B of F-B. -/
def wSrcA (w : Nat) : Nat := field w 38 5
/-- SRC_B of F-R. -/
def wSrcB (w : Nat) : Nat := field w 33 5
/-- IMM of F-I and F-S; OFFSET of F-M and F-B, unsigned. -/
def wImm (w : Nat) : Nat := field w 0 32
/-- OFFSET of F-M and F-B. -/
def wOffset (w : Nat) : Int := toSigned 32 (wImm w)
/-- COUNTER of F-S and MOD of F-I. -/
def wCounter (w : Nat) : Nat := field w 32 6
/-- SIZE of F-M. -/
def wSize (w : Nat) : Nat := field w 35 3
/-- VD of F-V. -/
def wVd (w : Nat) : Nat := field w 44 4
/-- VA of F-V. -/
def wVa (w : Nat) : Nat := field w 40 4
/-- VB of F-V. -/
def wVb (w : Nat) : Nat := field w 36 4
/-- VC of F-V. -/
def wVc (w : Nat) : Nat := field w 32 4
/-- TYPE of F-V. -/
def wType (w : Nat) : Nat := field w 28 4
/-- RND of F-V. -/
def wRnd (w : Nat) : Nat := field w 25 3
/-- SCALAR of F-V. -/
def wScalar (w : Nat) : Nat := field w 20 5
/-- MOD of F-V. -/
def wMod (w : Nat) : Nat := field w 0 20
/-- ARRAY_MASK of F-X. -/
def wMask (w : Nat) : Nat := field w 44 4
/-- CMD of F-X. -/
def wCmd (w : Nat) : Nat := field w 39 5
/-- OPND of F-X. -/
def wOpnd (w : Nat) : Nat := field w 34 5
/-- POS of F-X. -/
def wPos (w : Nat) : Nat := field w 29 5
/-- COUNTER of F-X. -/
def wMatCounter (w : Nat) : Nat := field w 23 6
/-- COUNT_EN of F-X. -/
def wCountEn (w : Nat) : Bool := bit w 22
/-- WSET of MWLOAD and MSTREAM. -/
def wWset (w : Nat) : Nat := field w 21 1
/-- K of MWLOAD. -/
def wK (w : Nat) : Nat := field w 13 8
/-- ROWS: of MSTREAM [20:12], of MDRAIN [21:13]. -/
def wRows (w : Nat) : Nat := if wOp w = 2 then field w 12 9 else field w 13 9
/-- ACC_ROW: of MSTREAM [11:4], of MDRAIN [12:5]. -/
def wAccRow (w : Nat) : Nat := if wOp w = 2 then field w 4 8 else field w 5 8
/-- ACCUM of MSTREAM. -/
def wAccum (w : Nat) : Bool := bit w 3
/-- PASS of MSTREAM. -/
def wPass (w : Nat) : Nat := field w 1 2

/-- Bytes of a SIZE code (R83). -/
def sizeBytes (size : Nat) : Nat := if size = 4 then 256 else 2 ^ size

/-! ### Legal words (R82 to R86, R187 to R199) -/

/-- FP32, BF16, AQ48 or INT32. -/
def isLaneType (t : Nat) : Bool := t == 0 || t == 1 || t == 2 || t == 11
/-- E2M3, E3M2 or E2M1. -/
def isMxType (t : Nat) : Bool := t == 3 || t == 4 || t == 5
/-- INT8, UINT8, INT4 or UINT4. -/
def isIntType (t : Nat) : Bool := 6 ≤ t && t ≤ 9
/-- Bytes of a lane (R185). -/
def laneBytes (t : Nat) : Nat :=
  match t with
  | 1 => 2
  | 2 => 8
  | _ => 4

/-- The F-V register fields that an operation does not use are zero (R187). -/
def vUnused (w : Nat) (d a b c s : Bool) : Bool :=
  (d || wVd w == 0) && (a || wVa w == 0) && (b || wVb w == 0) && (c || wVc w == 0) && (s || wScalar w == 0)

/-- A legal VECTOR_ARITH word (R187, R188, R189, R201). -/
def arithLegal (w : Nat) : Bool :=
  let t := wType w
  let m := wMod w
  wRnd w == 0 &&
  match wOp w with
  | 0x01 | 0x02 => isLaneType t && vUnused w true true true false false && m == 0
  | 0x03 => (t == 0 || t == 1 || t == 11) && vUnused w true true true false false && m == 0
  | 0x04 => (t == 0 || t == 1) && vUnused w true true true true false && m == 0
  | 0x05 => isLaneType t && vUnused w true true true false false && decide (m ≤ 1)
  | 0x06 => isLaneType t && vUnused w true true true false false && m == 0
  | 0x07 | 0x08 => isLaneType t && vUnused w true true false false false && m == 0
  | 0x09 => isLaneType t && vUnused w true true true false false && decide (m < 7)
  | 0x0A => isLaneType t && vUnused w true true true true false && m == 0
  | 0x0B => (t == 0 || t == 2 || t == 11) && vUnused w true true false false false && decide (m < 3)
  | 0x0C => t == 0 && vUnused w true true false false false && decide (m < 8) && m % 4 != 3
  | 0x0D => t == 0 && vUnused w true true false false false && decide (m < 3)
  | 0x0E => isLaneType t && vUnused w true false false false true && m == 0
  | 0x10 => (t == 0 || t == 2 || t == 11) && vUnused w true true false false true && m == 0
  | 0x11 => (t == 0 || t == 2 || t == 11) && vUnused w false true true false true && m == 0
  | 0x12 => (t == 0 || t == 2) && vUnused w false true true false true && m == 0
  | 0x14 | 0x15 | 0x16 | 0x17 | 0x18 => t == 11 && vUnused w true true true false false && m == 0
  | _ => false

/-- Conversions for which RND may be any mode (R192). -/
def cvtNarrow (src dst : Nat) : Bool := (src == 0 && dst == 1) || (src == 2 && dst == 0) || (src == 2 && dst == 1)
/-- Ratio of the two lane widths (R192). -/
def cvtRatio (src dst : Nat) : Nat := max (laneBytes src) (laneBytes dst) / min (laneBytes src) (laneBytes dst)

/-- A packed vector operand of 64 elements at byte `at_` lies within a register (R193, R194). -/
def packedFits (t at_ : Nat) : Bool := at_ % 8 == 0 && decide (at_ + 8 * typeBits t ≤ 256)

/-- A legal VECTOR_CONVERT word (R187, R192 to R195, R199). -/
def convertLegal (w : Nat) : Bool :=
  let t := wType w
  let m := wMod w
  let r := wRnd w
  let sr := r == 2
  match wOp w with
  | 0x01 =>
    let src := field m 0 4
    isLaneType t && isLaneType src && decide (r ≤ 2) && (r == 0 || cvtNarrow src t) && decide (m < 64) &&
      decide (field m 4 2 < cvtRatio src t) && (!sr || wScalar w % 2 == 0) && vUnused w true true false false sr
  | 0x02 =>
    let mask := bit m 9
    packedFits t (field m 0 8) && decide (m < 1024) &&
    if isMxType t then
      (r == 0 || (sr && wScalar w % 2 == 0 && (!mask || decide (wScalar w ≤ 28)))) && vUnused w true true true true (sr || mask)
    else isIntType t && r == 0 && decide (m < 256) && vUnused w true true true false false
  | 0x03 =>
    r == 0 && packedFits t (field m 0 8) && (if isMxType t then decide (m < 512) else isIntType t && decide (m < 256)) &&
      vUnused w true true true false false
  | 0x04 => t == 3 && r == 0 && packedFits 3 (field m 0 8) && decide (m < 512) && vUnused w true true true true false
  | 0x05 => isMxType t && r == 0 && decide (m < 4) && vUnused w true true false false false
  | _ => false

/-- A legal VECTOR_SFU word (R187, R191). -/
def sfuLegal (w : Nat) : Bool :=
  decide (1 ≤ wOp w) && decide (wOp w ≤ 10) && decide (wType w ≤ 1) && wRnd w == 0 && wMod w == 0 &&
    vUnused w true true false false false

/-- A legal MATRIX word (R132, R137, R139, R141, R146): values beyond a field's stated range are reserved. -/
def matrixLegal (w : Nat) : Bool :=
  match wOp w with
  | 0x01 => field w 0 13 == 0 && decide (wK w ≤ 128)
  | 0x02 => !bit w 0 && decide (wRows w ≤ 256) && wPass w != 3
  | 0x03 => field w 0 5 == 0 && decide (wRows w ≤ 256)
  | _ => false

/-- What the word alone makes legal (R82); SCALAR and BRANCH operations are named by their command (log 6). -/
def wordLegal (w : Nat) : Bool :=
  match wClass w with
  | 0x0 => true
  | 0x1 => field w 32 3 == 0
  | 0x2 | 0x3 => decide (wSize w ≤ 4) && field w 32 3 == 0 && (wSize w != 4 || decide (wDst w < 16))
  | 0x4 => arithLegal w
  | 0x5 => convertLegal w
  | 0x6 => sfuLegal w
  | 0x8 => matrixLegal w
  | 0x9 => decide (1 ≤ wOp w) && decide (wOp w ≤ 9) && (wOp w != 4 || decide (wCounter w < 8))
  | 0xB => wOp w == 1 || (wOp w == 2 && decide (wCounter w ≤ 1))
  | _ => false

/-- The class is one that the thread may execute (R78). -/
def classPermitted (t w : Nat) : Bool :=
  if wClass w = 0x3 then decide (4 ≤ t) else if wClass w = 0x8 then decide (t < 4) else true

/-! ### Registers of a thread (R75, R76) -/

/-- Scalar register i; s0 reads zero. -/
def Thread.s (th : Thread) (i : Nat) : Nat := if i = 0 then 0 else (tget 0 th.sregs i).toNat
/-- Scalar register i written; writes to s0 are discarded. -/
def Thread.setS (th : Thread) (i v : Nat) : Thread :=
  if i = 0 then th else { th with sregs := tset th.sregs i (BitVec.ofNat 64 v) }
/-- Predicate i; p0 reads 1. -/
def Thread.p (th : Thread) (i : Nat) : Bool := i == 0 || th.preds.getLsbD i
/-- Predicate i written; p0 stays 1. -/
def Thread.setP (th : Thread) (i : Nat) (b : Bool) : Thread :=
  if i = 0 then th
  else { th with preds := BitVec.ofNat 8 ((List.range 8).foldl (fun n k => n + ofBool (if k = i then b else th.p k) * 2 ^ k) 0) }
/-- Bits of vector register i. -/
def Thread.v (th : Thread) (i : Nat) : Nat := (tget 0 th.vregs i).toNat
/-- Vector register i written. -/
def Thread.setV (th : Thread) (i v : Nat) : Thread := { th with vregs := tset th.vregs i (BitVec.ofNat 2048 v) }
/-- Bytes of a vector register (R185). -/
def Thread.vBytes (th : Thread) (i : Nat) : Bytes := natLe 256 (th.v i)
/-- The thread at the next instruction. -/
def Thread.advance (th : Thread) : Thread := { th with pc := th.pc + 8 }
/-- The instruction executes (R82). -/
def Thread.executes (th : Thread) (w : Nat) : Bool := th.p (wPred w) != wPneg w

/-- Registers of an instruction, scalar register i as i and vector register v as 32 + v: those that it reads, and those that it writes (R77). -/
structure Regs where
  reads : List Nat
  writes : List Nat
  deriving DecidableEq, Repr

/-! ### Lanes (R185) -/

/-- Lanes of a register in a lane type. -/
def lanesOf (t v : Nat) : List Nat := (List.range (256 / laneBytes t)).map (fun n => field v (8 * laneBytes t * n) (8 * laneBytes t))
/-- The register that holds lanes. -/
def packLanes (t : Nat) (ls : List Nat) : Nat := ls.foldr (fun c n => c % 2 ^ (8 * laneBytes t) + n * 2 ^ (8 * laneBytes t)) 0

/-! ### Operands (R80, R83, R201) -/

/-- Effective address of an F-M instruction, formed in 64 bits (R80, R83). -/
def effAddr (th : Thread) (w : Nat) : Nat := ofSigned 64 ((th.s (wSrcA w) : Int) + wOffset w)

/-- n bytes at a scratch offset lie within scratch (R80). -/
def inScratch (o n : Nat) : Bool := o + n ≤ 0x300000

/-- A scratch access of n bytes is in range and aligned (R80). -/
def scratchOk (o n : Nat) : Bool := inScratch o n && o % (if n = 256 then 64 else n) == 0

/-- Value of a store's data register: n bytes. -/
def storeData (th : Thread) (w : Nat) : Bytes :=
  if wSize w = 4 then th.vBytes (wDst w % 16) else natLe (sizeBytes (wSize w)) (th.s (wDst w))

/-- A loaded value in its register: scalar loads extend by sign or zero. -/
def loadValue (signed : Bool) (bs : Bytes) : Nat :=
  if signed then ofSigned 64 (toSigned (8 * bs.length) (leNat bs)) else leNat bs

end Sys2Proof.Machine
end

