-- ==== Sys2Proof/Machine/Threads.lean ====
section
/-! DEFINITION. Hardware threads (file 03): launching, issuing, ending and faults, and the scalar, branch, scratch, memory, synchronisation and system instructions. -/
namespace Sys2Proof.Machine

/-! ### Program images (R91, R92) -/

/-- The resident image of a core by its identity (R92). -/
def Core.image (k : Core) (asid va : Nat) (crc : BitVec 32) : Option Image :=
  k.images.find? (fun i => i.asid == asid && i.va == va && i.crc == crc)

/-- The image a thread runs. -/
def State.imageOf (s : State) (g t : Nat) : Option Image :=
  let th := s.thread g t
  (s.core g).image th.asid th.imgVa th.imgCrc

/-- The instruction word at the thread's PC. -/
def State.word (s : State) (g t : Nat) : Nat :=
  match s.imageOf g t with
  | some i => leAt i.code (s.thread g t).pc 8
  | none => 0

/-- Fields of an image header (R91): LENGTH, ENTRY_OFFSET and IMAGE_CRC, if the header is well formed. A LENGTH of 0, which R12 and R92 let pass, has ENTRY_OFFSET 0, and its IMAGE_CRC is that of no bytes (DESIGN CHOICE, log 91). -/
def headerFields (bs : Bytes) : Option (Nat × Nat × Nat) :=
  let h := leNat bs
  let len := field h 160 32
  let entry := field h 128 32
  if field h 224 32 = 0x5A434950 ∧ field h 208 16 = 1 ∧ field h 192 16 = 0 ∧ field h 0 96 = 0 ∧
      len % 8 = 0 ∧ len ≤ 65536 ∧ entry % 8 = 0 ∧ (entry < len ∨ (len = 0 ∧ entry = 0)) then
    some (len, entry, field h 96 32)
  else none

/-- Bytes of instruction memory that pinned images hold (R92). -/
def Core.pinnedBytes (k : Core) : Nat := ((k.images.filter (fun i => i.pinned != [])).map (fun i => i.code.length)).sum

/-- Unpinned images evicted, least recently used first, until n more bytes fit in 128 KiB (R92). -/
def evict (n : Nat) : Nat → List Image → List Image
  | 0, l => l
  | fuel + 1, l =>
    if (l.map (fun i => i.code.length)).sum + n ≤ 131072 then l
    else if l.any (fun i => i.pinned == []) then evict n fuel (l.eraseP (fun i => i.pinned == []))
    else l

/-! ### Ending and faults (R94, R95, R98) -/

/-- MEMORY requests of a thread that are still outstanding. -/
def State.requestsOf (s : State) (g t : Nat) : List Req := s.trans.reqs.filter (fun r => r.agent == .thread g t)
/-- A MEMORY store of the thread is not acknowledged. -/
def State.storesOpen (s : State) (g t : Nat) : Bool := (s.requestsOf g t).any (fun r => r.kind != .load)
/-- One of the registers awaits a MEMORY load. -/
def State.awaits (s : State) (g t : Nat) (keys : List Nat) : Bool :=
  (s.requestsOf g t).any (fun r => r.kind == .load && r.reg ∈ keys)

/-- Loads whose registers a later instruction of the thread has written: they return, and write nothing (R77). -/
def State.overwrite (s : State) (g t : Nat) (keys : List Nat) : State :=
  let late := fun (r : Req) => r.agent == Agent.thread g t && r.kind == .load && decide (r.reg ∈ keys)
  { s with trans := { s.trans with reqs := mapIf late (fun r => { r with reg := 99 }) s.trans.reqs } }

/-- n threads of a launch have ended; the last completes the launch and releases the pins of its image (R94). -/
def State.threadsDone (s : State) (launch n : Nat) : State :=
  match s.action launch with
  | none => s
  | some a =>
    if a.left ≤ n then
      let unpin := fun (k : Core) => { k with images := k.images.map (fun i => { i with pinned := i.pinned.filter (· != launch) }) }
      ({ s with cores := s.cores.map (fun p => (p.1, unpin p.2)) } : State).completeAction launch
    else { s with alm := { s.alm with actions := mapIf (fun b => b.id == launch) (fun b => { b with left := b.left - n }) s.alm.actions } }

/-- The launch will not increment its DONE_GATE (R94). -/
def State.failLaunch (s : State) (launch : Nat) : State :=
  { s with alm := { s.alm with actions := mapIf (fun b => b.id == launch) (fun b => { b with failed := true }) s.alm.actions } }

/-- A thread ends (R94): loads still outstanding write no register. -/
def State.endThread (s : State) (g t : Nat) (failed : Bool) : State :=
  let th := s.thread g t
  let s := s.setThread g t { th with status := .ended }
  let s := { s with trans := { s.trans with reqs := mapIf (fun r => r.agent == Agent.thread g t) (fun r => { r with reg := 99 }) s.trans.reqs } }
  let s := if failed then s.failLaunch th.launch else s
  s.threadsDone th.launch 1

/-- DETAIL of a thread fault (R470). -/
def State.threadDetail (s : State) (g t : Nat) : Bytes := natLe 8 (s.thread g t).pc ++ natLe 8 (s.word g t)

/-- A fatal thread fault: recorded, and the thread ends (R95). -/
def State.threadFault (s : State) (g t code : Nat) : State :=
  (s.fatal code (coreDie g) .thread (s.thread g t).step g t (s.threadDetail g t)).endThread g t true

/-- Fault 0x73 of a thread's or array's access to scratch (R275). -/
def State.sramFault (s : State) (src : Source) (g sub step lpa : Nat) : State :=
  let s := s.dadd 0x350C (coreDie g + 9) 1
  s.fatal 0x73 (coreDie g) src step g sub (natLe 8 lpa ++ natLe 1 src.code)

/-- A stall of a thread, counted under its cause on its core (R99). -/
def State.stall (s : State) (g cause : Nat) : State :=
  let k := s.core g
  s.setCore g { k with stalls := tset k.stalls cause (tget 0 k.stalls cause + 1) }

/-! ### Issue (R77, R78, R82, R95) -/

/-- The thread may issue: its image is resident, it is running, and neither a pre-emption nor a halt stops it (R96). -/
def State.mayIssue (s : State) (g t : Nat) : Bool :=
  s.alive && s.trans.preempt == .running && s.alm.state != .halted && (s.thread g t).status == .running && (s.imageOf g t).isSome

/-- The thread has an instruction to issue and stands still: it is parked or stopped, or its package is pre-empted or halted (R96, R99). -/
def State.standsStill (s : State) (g t : Nat) : Bool :=
  s.alive && (s.imageOf g t).isSome && (match (s.thread g t).status with | .idle | .ended => false | _ => true)

/-- A thread whose next instruction lies outside its image faults (R95). -/
def State.checkPc (s : State) (g t : Nat) : State :=
  match s.imageOf g t with
  | some i => if (s.thread g t).status = .running ∧ i.code.length < (s.thread g t).pc + 8 then s.threadFault g t 0x34 else s
  | none => s

/-- The thread goes on to the next instruction. -/
def State.next (s : State) (g t : Nat) : State := s.setThread g t (s.thread g t).advance

/-- The issue of one instruction, or the cause for which this cycle does not issue it (R99; log 30). `mine` says that the word belongs to the command, `bad` that the command makes it a reserved encoding. Encoding and class faults come before the predicate (R82, R78). A register that the instruction writes takes no more from an earlier load (R77). -/
def State.issueInstr (s : State) (g t : Nat) (mine bad : Nat → Bool) (regs : Nat → Regs)
    (effect : State → Thread → Nat → State) : Result :=
  let w := s.word g t
  let th := s.thread g t
  if !s.mayIssue g t then (if s.standsStill g t then .next (s.stall g 6) else .next s)
  else if s.withheldNow then .next (s.stall g 7)
  else if !wordLegal w then .next (s.threadFault g t 0x30)
  else if !mine w then .next s
  else if bad w then .next (s.threadFault g t 0x30)
  else if !classPermitted t w then .next (s.threadFault g t 0x31)
  else if !th.executes w then .next ((s.next g t).checkPc g t)
  else if s.awaits g t (regs w).reads then .next (s.stall g 2)
  else .next ((effect (s.overwrite g t (regs w).writes) th w).checkPc g t)

/-- A word of a class and OP. -/
def isOp (cls op w : Nat) : Bool := wClass w == cls && wOp w == op

/-! ### Scalar and branch (R84) -/

/-- A shift by 64 or more: a free value, the same for the same operands (R72; log 5). -/
def shiftBeyond (op x y : Nat) : Nat := (Config.shiftBeyond op (BitVec.ofNat 64 x) (BitVec.ofNat 64 y)).toNat
/-- The value of a SCALAR operation (R84). -/
def scalarValue (op : ScalarOp) (x y : Nat) : Nat :=
  let sx := toSigned 64 x
  let sy := toSigned 64 y
  match op with
  | .add => (x + y) % 2 ^ 64
  | .sub => ofSigned 64 (sx - sy)
  | .mul => x * y % 2 ^ 64
  | .and => x &&& y
  | .or => x ||| y
  | .xor => x ^^^ y
  | .shl => if y < 64 then x <<< y % 2 ^ 64 else shiftBeyond 0 x y
  | .shr => if y < 64 then x >>> y else shiftBeyond 1 x y
  | .sar => if y < 64 then ofSigned 64 (sx / 2 ^ y) else shiftBeyond 2 x y
  | .min => ofSigned 64 (min sx sy)
  | .max => ofSigned 64 (max sx sy)
  | .minu => min x y
  | .maxu => max x y
  | _ => 0

/-- Second operand of a SCALAR operation. -/
def scalarOperand (th : Thread) (form : ScalarForm) (w : Nat) : Nat :=
  match form with
  | .reg => th.s (wSrcB w)
  | .immSigned => ofSigned 64 (toSigned 32 (wImm w))
  | .immZero => wImm w

/-- A scalar operation executes: a compare writes p[DST[2:0]], another operation s[DST] (R84). -/
def scalarEffect (g t : Nat) (op : ScalarOp) (form : ScalarForm) (s : State) (th : Thread) (w : Nat) : State :=
  let x := th.s (wSrcA w)
  let y := scalarOperand th form w
  match scalarCompare op x y with
  | some b => s.setThread g t (th.setP (wDst w % 8) b).advance
  | none => s.setThread g t (th.setS (wDst w) (scalarValue op x y)).advance

/-- Registers of a SCALAR word: a compare writes no scalar register. -/
def scalarRegs (op : Option ScalarOp) (form : ScalarForm) (w : Nat) : Regs :=
  let compares := match op with | some o => (scalarCompare o 0 0).isSome | none => false
  ⟨wSrcA w :: (if form = .reg then [wSrcB w] else []), if compares then [] else [wDst w]⟩

/-- SCALAR. A reserved OP and, in format F-R, a non-zero reserved field [19:0] are illegal (R82, R83). -/
def execScalar (core : Fin 384) (thread : Fin 32) (op : Option ScalarOp) (form : ScalarForm) (s : State) : Result :=
  s.issueInstr core thread (fun w => wClass w == 0) (fun w => op.isNone || (form == .reg && field w 0 20 != 0))
    (scalarRegs op form)
    (fun s th w => match op with
      | some o => scalarEffect core thread o form s th w
      | none => s)

/-- A branch executes: its target is relative to its own position, in instructions, formed in 64 bits (R83, R84); one outside the image faults as the next instruction (R95). -/
def branchEffect (g t : Nat) (c : BranchCond) (s : State) (th : Thread) (w : Nat) : State :=
  if branchTaken c (th.s (wDst w)) (th.s (wSrcA w)) then
    s.setThread g t { th with pc := ofSigned 64 ((th.pc : Int) + 8 * wOffset w) }
  else s.setThread g t th.advance

/-- BRANCH. -/
def execBranch (core : Fin 384) (thread : Fin 32) (cond : Option BranchCond) (s : State) : Result :=
  s.issueInstr core thread (fun w => wClass w == 1) (fun _ => cond.isNone) (fun w => ⟨[wDst w, wSrcA w], []⟩)
    (fun s th w => match cond with
      | some c => branchEffect core thread c s th w
      | none => s)

/-! ### Scratch (R79 to R81, R275) -/

/-- Key of the data register of an F-M word. -/
def dataKey (w : Nat) : Nat := if wSize w = 4 then 32 + wDst w % 16 else wDst w

/-- A value loaded into the data register of an F-M word. -/
def Thread.loaded (th : Thread) (key : Nat) (signed : Bool) (bs : Bytes) : Thread :=
  if 32 ≤ key then (if key < 48 then th.setV (key - 32) (leNat bs) else th) else th.setS key (loadValue signed bs)

/-- A scratch access that loses its bank is tried again in the next cycle, and the lost cycle is counted (R81, R99). -/
def State.lostBank (s : State) (g : Nat) : State := (s.stall g 0).dadd 0x2211 (coreDie g + 1) 1

/-- What the check bits of a scratch word that a thread reads report: a corrected error is counted and changes nothing, an uncorrectable one ends the thread (R275, R276). -/
def State.scratchEcc (s : State) (g t : Nat) (th : Thread) (o : Nat) (ecc : WordEcc) (k : State → State) : State :=
  match ecc with
  | .clean => k s
  | .corrected => k (s.eccCorrected (scratchLpa g o) (9 + coreDie g) (48 + coreDie g))
  | .uncorrectable => (s.sramFault .thread g t th.step (scratchLpa g o)).endThread g t true

/-- A SCRATCH load executes. -/
def scratchLoadEffect (g t : Nat) (signed : Bool) (cycle : ScratchCycle) (s : State) (th : Thread) (w : Nat) : State :=
  let o := effAddr th w
  let n := sizeBytes (wSize w)
  if !scratchOk o n then s.threadFault g t 0x32
  else match cycle with
    | .lost => s.lostBank g
    | .served ecc => s.scratchEcc g t th o ecc (fun s => (s.overwrite g t [dataKey w]).setThread g t (th.loaded (dataKey w) signed (s.read (scratchLpa g o) n)).advance)

/-- SCRATCH_LOAD; a reserved OP is illegal (R82; log 6). -/
def execScratchLoad (core : Fin 384) (thread : Fin 32) (signed : Option Bool) (cycle : ScratchCycle) (s : State) : Result :=
  s.issueInstr core thread (fun w => wClass w == 2) (fun _ => signed.isNone) (fun w => ⟨[wSrcA w], []⟩)
    (scratchLoadEffect core thread (signed.getD false) cycle)

/-- A SCRATCH store executes; one of 1, 2 or 4 bytes is merged with the word that it reads (R275). -/
def scratchStoreEffect (g t : Nat) (cycle : ScratchCycle) (s : State) (th : Thread) (w : Nat) : State :=
  let o := effAddr th w
  if !scratchOk o (sizeBytes (wSize w)) then s.threadFault g t 0x32
  else match cycle with
    | .lost => s.lostBank g
    | .served ecc => s.scratchEcc g t th o (if wSize w < 3 then ecc else .clean) (fun s => (s.store (scratchLpa g o) (storeData th w)).setThread g t th.advance)

/-- SCRATCH_STORE; a reserved OP is illegal (R82; log 6). -/
def execScratchStore (thread : Fin 384 × Fin 32) (cycle : Option ScratchCycle) (s : State) : Result :=
  s.issueInstr thread.1 thread.2 (fun w => wClass w == 2) (fun _ => cycle.isNone) (fun w => ⟨[dataKey w, wSrcA w], []⟩)
    (scratchStoreEffect thread.1 thread.2 (cycle.getD .lost))

/-! ### Memory (R98, R501) -/

/-- What the caches give a thread's access. -/
def threadCtx (g : Nat) (th : Thread) (va access : Nat) : XCtx := ⟨th.asid, va, access, false, some g, coreDie g⟩

/-- Cached translations of the parts of an access, in order: their targets and attributes, or the first that is not ready. -/
def State.lookupParts (s : State) (g : Nat) (th : Thread) (access : Nat) : List (Nat × Nat) → Except (Nat × Xlate) (List (Nat × Nat × Target × Nat))
  | [] => .ok []
  | (va, n) :: rest =>
    match s.lookup (threadCtx g th va access) with
    | .ok x a =>
      match s.lookupParts g th access rest with
      | .ok l => .ok ((va, n, x, a) :: l)
      | .error e => .error e
    | x => .error (va, x)

/-- The parts of an access of n bytes: split at a 256-byte boundary (R501). -/
def accessParts (va n : Nat) : List (Nat × Nat) := pieces 256 3 va n

/-- One request of a thread for each part. -/
def State.issueParts (s : State) (g t : Nat) (th : Thread) (kind : ReqKind) (key : Nat) (signed : Bool) (total : Nat) (data : Bytes)
    (base : Nat) : List (Nat × Nat × Target × Nat) → State
  | [] => s
  | (va, n, x, attr) :: rest =>
    let off := va - base
    let r : Req := { id := 0, agent := .thread g t, die := coreDie g, kind := kind, target := x, len := n, data := slice data off n,
                     done := false, eaves := false, alloc := bit attr 0, irregular := n != 256, poison := none, reg := key,
                     signed := signed, off := off, desc := total, next := none, step := th.step, asid := th.asid, va := va, pos := (th.pc, 0, 0) }
    (s.issue r (bit attr 1)).1.issueParts g t th kind key signed total data base rest

/-- The request is the second part of a split access whose first is outstanding too. -/
def State.follows (s : State) (r : Req) : Bool :=
  r.off != 0 && s.trans.reqs.any (fun q => q.id + 1 == r.id && q.agent == r.agent && q.off == 0 && q.desc == r.desc)
/-- MEMORY loads of a thread and of a core that are outstanding, a split one counted once (R98). -/
def State.loadsOf (s : State) (p : Nat → Nat → Bool) : Nat :=
  (s.trans.reqs.filter (fun r => r.kind == .load && !s.follows r && (match r.agent with | .thread g t => p g t | _ => false))).length

/-- A MEMORY access executes: it waits for its translations, the load limits and tracking entries, and otherwise issues every part. -/
def memoryEffect (g t : Nat) (kind : ReqKind) (signed : Bool) (s : State) (th : Thread) (w : Nat) : State :=
  let va := effAddr th w
  let n := sizeBytes (wSize w)
  let load := kind == .load
  let access := if load then 0 else 1
  let parts := accessParts va n
  let limited := (load && (decide (16 ≤ s.loadsOf (fun h u => h == g && u == t)) || decide (256 ≤ s.loadsOf (fun h _ => h == g)))) ||
    !s.canTrack (.thread g t) (coreDie g) parts.length
  match s.lookupParts g th access parts with
  | .error (a, .fault code) => (s.xFault code (coreDie g) th.step g t th.asid (a % 2 ^ 64) 0).endThread g t true
  | .error _ => s
  | .ok l =>
    if limited then (if load then s.stall g 2 else s)
    else
      let s := if load then s.overwrite g t [dataKey w] else s
      let data := if load then [] else storeData th w
      let s := s.issueParts g t th kind (dataKey w) signed n data va l
      let s := if load && decide (4 ≤ t) then s.train (coreDie g) g th.asid va else s
      s.next g t

/-- MEMORY_LOAD; a reserved OP is illegal (R82; log 6). -/
def execMemoryLoad (core : Fin 384) (thread : Fin 32) (signed : Option Bool) (s : State) : Result :=
  s.issueInstr core thread (fun w => wClass w == 3) (fun _ => signed.isNone) (fun w => ⟨[wSrcA w], []⟩)
    (memoryEffect core thread .load (signed.getD false))

/-- MEMORY_STORE; a reserved OP is illegal (R82; log 6). -/
def execMemoryStore (thread : Fin 384 × Fin 32) (reserved : Bool) (s : State) : Result :=
  s.issueInstr thread.1 thread.2 (fun w => wClass w == 3) (fun _ => reserved) (fun w => ⟨[dataKey w, wSrcA w], []⟩)
    (memoryEffect thread.1 thread.2 .store false)

/-! ### Synchronisation and system (R85 to R89, R94) -/

/-- Core counter n of core g raised by an amount (R85). -/
def State.cinc (s : State) (g n : Nat) (amount : BitVec 32) : State :=
  let k := s.core g
  s.setCore g { k with counters := tset k.counters n (tget 0 k.counters n + amount) }
/-- Core counter n of core g. -/
def State.counter (s : State) (g n : Nat) : BitVec 32 := tget 0 (s.core g).counters n

/-- IMM + s[SRC_A] (R86). -/
def syncAmount (th : Thread) (w : Nat) : BitVec 32 := BitVec.ofNat 32 (wImm w + th.s (wSrcA w))

/-- CINC executes: a release (R89). -/
def cincEffect (g t : Nat) (s : State) (th : Thread) (w : Nat) : State :=
  if s.storesOpen g t then s else (s.cinc g (wCounter w) (syncAmount th w)).next g t
/-- CINC. -/
def execCinc (core : Fin 384) (thread : Fin 32) (s : State) : Result :=
  s.issueInstr core thread (isOp 9 1) (fun _ => false) (fun w => ⟨[wSrcA w], []⟩) (cincEffect core thread)

/-- CWAIT executes: not ready until the counter is open (R85, R86). -/
def cwaitEffect (g t : Nat) (s : State) (th : Thread) (w : Nat) : State :=
  if gateOpen (s.counter g (wCounter w)) (syncAmount th w) then s.next g t else s.stall g 5
/-- CWAIT. -/
def execCwait (core : Fin 384) (thread : Fin 32) (s : State) : Result :=
  s.issueInstr core thread (isOp 9 2) (fun _ => false) (fun w => ⟨[wSrcA w], []⟩) (cwaitEffect core thread)

/-- CREAD executes. -/
def creadEffect (g t : Nat) (s : State) (th : Thread) (w : Nat) : State :=
  s.setThread g t (th.setS (wDst w) (s.counter g (wCounter w)).toNat).advance
/-- CREAD. -/
def execCread (core : Fin 384) (thread : Fin 32) (s : State) : Result :=
  s.issueInstr core thread (isOp 9 3) (fun _ => false) (fun w => ⟨[], [wDst w]⟩) (creadEffect core thread)

/-- Every other thread of the launch on the core has executed the barrier n times or ended (R87). -/
def State.barrierMet (s : State) (g t launch b n : Nat) : Bool :=
  (List.range 32).all (fun u =>
    let o := s.thread g u
    u == t || o.launch != launch || o.status == .idle || o.status == .ended || decide (n ≤ tget 0 o.barriers b))

/-- BARRIER executes: counted when the thread's earlier stores are acknowledged, retired when every thread of the launch has arrived (R87, R89). -/
def barrierEffect (g t : Nat) (s : State) (th : Thread) (w : Nat) : State :=
  if s.storesOpen g t then s
  else
    let b := wCounter w % 8
    let th := if th.atBarrier then th else { th with atBarrier := true, barriers := tadd th.barriers b 1 }
    let s := s.setThread g t th
    if s.barrierMet g t th.launch b (tget 0 th.barriers b) then s.setThread g t { th.advance with atBarrier := false }
    else s.stall g 5
/-- BARRIER. -/
def execBarrier (core : Fin 384) (thread : Fin 32) (s : State) : Result :=
  s.issueInstr core thread (isOp 9 4) (fun _ => false) (fun _ => ⟨[], []⟩) (barrierEffect core thread)

/-- The launch of a thread belongs to the Almanac now active (R68). -/
def State.sameAlmanac (s : State) (launch : Nat) : Bool :=
  match s.action launch with
  | some a => a.gen == s.alm.gen
  | none => false

/-- GINC executes: a release; gate 0 does nothing, and no gate of a newer Almanac is raised (R58, R68, R86). -/
def gincEffect (g t : Nat) (s : State) (th : Thread) (w : Nat) : State :=
  if s.storesOpen g t then s
  else
    let s := if s.sameAlmanac th.launch then s.localInc (wImm w % 4096) (th.iter % 2 == 1) th.step (coreDie g) g else s
    s.next g t
/-- GINC. -/
def execGinc (core : Fin 384) (thread : Fin 32) (s : State) : Result :=
  s.issueInstr core thread (isOp 9 5) (fun _ => false) (fun _ => ⟨[], []⟩) (gincEffect core thread)

/-- GREAD executes. -/
def greadEffect (g t : Nat) (s : State) (th : Thread) (w : Nat) : State :=
  s.setThread g t (th.setS (wDst w) (s.gate (wImm w % 4096) (th.iter % 2 == 1)).toNat).advance
/-- GREAD. -/
def execGread (core : Fin 384) (thread : Fin 32) (s : State) : Result :=
  s.issueInstr core thread (isOp 9 6) (fun _ => false) (fun w => ⟨[], [wDst w]⟩) (greadEffect core thread)

/-- SDTR executes: the counter of the core's die. -/
def sdtrEffect (g t : Nat) (s : State) (th : Thread) (w : Nat) : State :=
  s.setThread g t (th.setS (wDst w) (pget s.time.sdt (coreDie g)).toNat).advance
/-- SDTR. -/
def execSdtr (core : Fin 384) (thread : Fin 32) (s : State) : Result :=
  s.issueInstr core thread (isOp 9 7) (fun _ => false) (fun w => ⟨[], [wDst w]⟩) (sdtrEffect core thread)

/-- SLOTR executes: all ones in a slip slot or a dusk slot (R86). -/
def slotrEffect (g t : Nat) (s : State) (th : Thread) (w : Nat) : State :=
  let v := s.almanacSlot
  s.setThread g t (th.setS (wDst w) (if v = 0xFFFFFFFF then 2 ^ 64 - 1 else v)).advance
/-- SLOTR. -/
def execSlotr (core : Fin 384) (thread : Fin 32) (s : State) : Result :=
  s.issueInstr core thread (isOp 9 8) (fun _ => false) (fun w => ⟨[], [wDst w]⟩) (slotrEffect core thread)

/-- WAITSDT executes: not ready until SDT reaches s[SRC_A] + IMM (R86). -/
def waitsdtEffect (g t : Nat) (s : State) (th : Thread) (w : Nat) : State :=
  if ofSigned 64 ((th.s (wSrcA w) : Int) + toSigned 32 (wImm w)) ≤ (pget s.time.sdt (coreDie g)).toNat then s.next g t
  else s.stall g 5
/-- WAITSDT. -/
def execWaitsdt (core : Fin 384) (thread : Fin 32) (s : State) : Result :=
  s.issueInstr core thread (isOp 9 9) (fun _ => false) (fun w => ⟨[wSrcA w], []⟩) (waitsdtEffect core thread)

/-- END executes: once the thread's stores are acknowledged and its matrix instructions complete (R94). -/
def endEffect (g t : Nat) (s : State) (_ : Thread) (_ : Nat) : State :=
  if s.storesOpen g t || (s.core g).matrix.any (fun m => m.thread == t) then s else s.endThread g t false
/-- END. -/
def execEndThread (core : Fin 384) (thread : Fin 32) (s : State) : Result :=
  s.issueInstr core thread (isOp 11 1) (fun _ => false) (fun _ => ⟨[], []⟩) (endEffect core thread)

/-- FENCE executes: SCRATCH stores are in their banks already; MOD 1 waits for MEMORY stores (R89). -/
def fenceEffect (g t : Nat) (s : State) (_ : Thread) (w : Nat) : State :=
  if wCounter w = 1 ∧ s.storesOpen g t then s else s.next g t
/-- FENCE. -/
def execFence (core : Fin 384) (thread : Fin 32) (s : State) : Result :=
  s.issueInstr core thread (isOp 11 2) (fun _ => false) (fun _ => ⟨[], []⟩) (fenceEffect core thread)

/-! ### Launching (R91 to R93) -/

/-- The registers of a thread at its start (R93). -/
def startThread (a : Action) (g t entry : Nat) (va : Nat) (crc : Nat) : Thread :=
  let th : Thread := { status := .running, pc := entry, launch := a.id, iter := a.iter, step := a.step, asid := a.asid,
                       imgVa := va, imgCrc := BitVec.ofNat 32 crc }
  (((((th.setS 1 a.transit.param).setS 2 t).setS 3 g).setS 4 (g - a.transit.coreFirst)).setS 5 a.step).setS 6 a.iter

/-- The threads that a launch names. -/
def Action.threads (a : Action) : List Nat := maskList 32 a.transit.threadMask.toNat

/-- The launch has started on the core: its image was fetched again (R275). -/
def State.launchRuns (s : State) (a : Action) (g : Nat) : Bool :=
  a.threads.any (fun t => (s.thread g t).launch == a.id && (s.thread g t).status != .idle)

/-- Every named thread of a core starts, and its image is pinned and most recently used (R92, R93); the threads of an image fetched again run on (R275). -/
def State.startThreads (s : State) (a : Action) (g : Nat) (img : Image) (entry : Nat) : State :=
  let k := s.core g
  let runs := (List.range 32).filterMap (fun t =>
    let th := s.thread g t
    if th.imgVa = img.va ∧ th.asid = img.asid ∧ th.imgCrc = img.crc ∧ th.status ≠ .idle ∧ th.status ≠ .ended then some th.launch else none)
  let img := { img with pinned := (runs ++ [a.id]).foldl (fun l n => if n ∈ l then l else l ++ [n]) img.pinned }
  let s := s.setCore g { k with images := k.images.filter (fun i => !(i.asid == img.asid && i.va == img.va && i.crc == img.crc)) ++ [img] }
  if s.launchRuns a g then s
  else a.threads.foldl (fun s t => s.setThread g t (startThread a g t entry img.va img.crc.toNat)) s

/-- No thread of the launch starts or goes on on a core (R92, R95). -/
def State.launchFails (s : State) (a : Action) (g : Nat) : State :=
  let mine := fun (t : Nat) => (s.thread g t).launch == a.id && (s.thread g t).status != .idle
  let left := a.threads.filter (fun t => !(mine t && (s.thread g t).status == .ended))
  let s := (left.filter mine).foldl (fun s t => s.setThread g t { s.thread g t with status := .ended }) s
  (s.failLaunch a.id).threadsDone a.id left.length

/-- IMAGE_MALFORMED on a core: no thread of the launch starts there (R92, R95). -/
def State.imageMalformed (s : State) (a : Action) (g : Nat) : State :=
  (s.fatal 0x33 (coreDie g) .thread a.step g 0xFFFF (natLe 16 0)).launchFails a g

/-- Bytes of an image read through translation by a core; a miss as the failure means that the read waits for another package (R92). -/
def State.readThrough (s : State) (a : Action) (g va n : Nat) : State × Except (Nat × Xlate) Bytes :=
  match State.translateRange ⟨a.asid, va, 3, false, some g, coreDie g⟩ (vaPieces va n) s with
  | (s, .error e) => (s, .error e)
  | (s, .ok ps) =>
    match s.fetchPieces (.image g a.id) (coreDie g) a.step a.asid (0, 0, 0) ps with
    | (s, .bytes bs) => (s, .ok bs)
    | (s, .poison lpa) => (s, .error (va, .poison lpa))
    | (s, .waits) => (s, .error (va, .miss))

/-- The image of a launch on a core has been looked for: resident and started, or waiting to be fetched (R92). -/
def State.launchOn (s : State) (a : Action) (g : Nat) : State :=
  let va := a.transit.addr
  if va % 32 ≠ 0 then s.imageMalformed a g
  else
    let fetch := fun (s : State) => let k := s.core g; s.setCore g { k with fetches := k.fetches ++ [a.id] }
    match s.readThrough a g va 32 with
    | (s, .ok h) =>
      match headerFields h with
      | some (len, entry, crc) =>
        if len = 0 then (if field (leNat h) 96 32 = crc32c [] then s.threadsDone a.id a.threads.length else s.imageMalformed a g)
        else match (s.core g).image a.asid va (BitVec.ofNat 32 crc) with
          | some img => s.startThreads a g img entry
          | none => fetch s
      | none => s.imageMalformed a g
    | (s, .error _) => fetch s

/-- The launch leaves the fetches of a core. -/
def State.dropFetch (s : State) (g launch : Nat) : State :=
  let k := s.core g
  (s.setCore g { k with fetches := k.fetches.filter (· != launch) }).dropAgent (.image g launch)

/-- An image fetch that fails for good: the fault is fatal and no thread of the launch starts on the core (R92, R308). -/
def State.fetchFailed (s : State) (a : Action) (g : Nat) (f : State → State) : State :=
  (f (s.dropFetch g a.id)).launchFails a g

/-- A launch whose image fetch parks: one agent for the core, reported with 0x35, no thread, PC or word being concerned (R95, R296; log 95); with no ring the park is fatal (R297). -/
def State.parkFetch (s : State) (a : Action) (g va kind level : Nat) : State :=
  let s := s.record 0x35 2 (coreDie g) .thread a.step g 0xFFFF (natLe 16 0 ++ natLe 8 va)
  let s' := (s.dropFetch g a.id).park ⟨.image g a.id, kind, level, a.asid, va, 3, 1, coreDie g, 0, g, 0, a.step, 0, 0⟩
  if s.dget 0x2620 0 = 0 then s'.launchFails a g else s'

/-- A launch finds room for len bytes of code beside the pinned images (R92). -/
def State.roomFor (s : State) (g len : Nat) : Bool := (s.core g).pinnedBytes + len ≤ 131072

/-- The header and code of a launch's image arrive: checked, installed and started, or the fetch fails or parks (R91, R92). -/
def State.imageArrives (s : State) (a : Action) (g : Nat) : State :=
  let va := a.transit.addr
  let fail := fun (s : State) (e : Nat × Xlate) => match e with
    | (x, .park kind level) => s.parkFetch a g x kind level
    | (x, .fault code) => s.fetchFailed a g (fun s => s.xFault code (coreDie g) a.step g 0xFFFF a.asid x 1)
    | (_, .poison lpa) => s.fetchFailed a g (fun s => s.memoryPoison lpa .thread (coreDie g) a.step g 0xFFFF)
    | (_, _) => s
  match s.readThrough a g va 32 with
  | (s, .error e) => fail s e
  | (s, .ok h) =>
    match headerFields h with
    | none => (s.dropFetch g a.id).imageMalformed a g
    | some (len, entry, crc) =>
      match (s.core g).image a.asid va (BitVec.ofNat 32 crc) with
      | some img => (s.dropFetch g a.id).startThreads a g img entry
      | none =>
        match s.readThrough a g (va + 32) len with
        | (s, .error e) => fail s e
        | (s, .ok code) =>
          if !s.roomFor g len then s
          else
          let s := s.dadd 0x2212 (coreDie g + 1) 1
          if crc32c code ≠ crc then (s.dropFetch g a.id).imageMalformed a g
          else if len = 0 then (s.dropFetch g a.id).threadsDone a.id a.threads.length
          else
            let s := s.dropFetch g a.id
            let k := s.core g
            let s := s.setCore g { k with images := evict len (k.images.length + 1) k.images }
            s.startThreads a g ⟨a.asid, va, BitVec.ofNat 32 crc, [], code⟩ entry

/-- Parity fails in the resident image that a launch runs on a core: the image is dropped and fetched again, counted as corrected (R275, R276). -/
def State.imageParity (s : State) (a : Action) (g : Nat) : State :=
  let k := s.core g
  (s.setCore g { k with images := k.images.filter (fun i => !decide (a.id ∈ i.pinned)), fetches := k.fetches ++ [a.id] }).eccCorrected
    (scratchLpa g 0) (9 + coreDie g) (48 + coreDie g)

/-- IMAGE_FETCH_DONE. An image arrives for a launch that waits for it; the fetch goes on waiting while pinned images leave no room or another package has not answered. A parity error in the running image of a launch begins its fetch anew (R275; log 38). -/
def execImageFetchDone (core : Fin 384) (fetch : ImageFetch) (s : State) : Result :=
  let may := s.alive && s.trans.preempt == .running && s.alm.state != .halted
  match fetch with
  | .arrived launch =>
    match s.action launch with
    | none => .next s
    | some a => when (may && decide (launch ∈ (s.core core).fetches)) s (s.imageArrives a core)
  | .parity launch =>
    match s.action launch with
    | none => .next s
    | some a => when (may && (s.core core).images.any (fun i => decide (launch ∈ i.pinned))) s (s.imageParity a core)

end Sys2Proof.Machine
end

