-- ==== Sys2Proof/Machine/Movers.lean ====
section
/-! DEFINITION. Parking, movers and the responses of memory (file 11): how agents park, end and resume, mover descriptors and pieces, invalidation and the release of park records. -/
namespace Sys2Proof.Machine

/-! ### Agents that park, end and resume (R296 to R300) -/

/-- A working slot is in progress. -/
def State.inWorking (s : State) : Bool := !s.inDusk

/-- Keys of agents whose stopped slots are counted (R303, R498): 0 the pre-emption, 1000 + mover, 2000 + array, 4000 + update job. -/
def stopKeyMover (d m : Nat) : Nat := 1000 + moverKey d m

/-- A fatal fault ends a mover without completing its transit (R308). -/
def State.endMover (s : State) (d m : Nat) : State :=
  let v := s.mover d m
  s.setMover d m { v with status := .idle, desc := none, open_ := [], ahead := [], action := 0 }

/-- An update job leaves the engine. -/
def State.dropJob (s : State) (id : Nat) : State :=
  { s with upd := { s.upd with jobs := s.upd.jobs.filter (fun j => j.id != id) } }

/-- The agent ends with a fatal fault, its transit incomplete (R308). -/
def State.endAgent (s : State) (a : Agent) : State :=
  match a with
  | .thread g t => s.endThread g t true
  | .image g l => match s.action l with
    | some x => ((s.dropFetch g l).failLaunch l).threadsDone l x.threads.length
    | none => s
  | .mover d m | .moverDesc d m => s.endMover d m
  | .update j => s.dropJob j
  | .action _ => s

/-- The agent is put in its parked state. -/
def State.setParked (s : State) (a : Agent) : State :=
  match a with
  | .thread g t => s.setThread g t { s.thread g t with status := .parked }
  | .image g l => s.dropFetch g l
  | .mover d m | .moverDesc d m =>
    let s := s.setMover d m { s.mover d m with status := .parked }
    if s.inWorking then s.countStop (stopKeyMover d m) else s
  | .update j =>
    let s := { s with upd := { s.upd with jobs := mapIf (fun x => x.id == j) (fun x => { x with parked := true }) s.upd.jobs } }
    if s.inWorking then s.countStop (4000 + j) else s
  | .action _ => s

/-- The agent goes on from its park position; a launch starts again from its lookup (R92, R298). -/
def State.unpark (s : State) (a : Agent) : State :=
  match a with
  | .thread g t => let th := s.thread g t; if th.status = .parked then s.setThread g t { th with status := .running } else s
  | .image g l => match s.action l with
    | some x => s.launchOn x g
    | none => s
  | .mover d m | .moverDesc d m => let v := s.mover d m; if v.status = .parked then s.setMover d m { v with status := .running } else s
  | .update j => { s with upd := { s.upd with jobs := mapIf (fun x => x.id == j) (fun x => { x with parked := false }) s.upd.jobs } }
  | .action _ => s

/-- The agent that a park record names (AGENT, DIE, UNIT and CORE). -/
def ParkInfo.who (p : ParkInfo) : Agent := p.agent

/-- An agent parks at its position; with no ring the park is fatal with 0x86 (R296, R297). A thread also reports 0x35 (R95). -/
def State.parkAgent (s : State) (p : ParkInfo) : State :=
  let s := match p.agent with
    | .thread g t => s.record 0x35 2 (coreDie g) .thread p.step g t (s.threadDetail g t ++ natLe 8 p.va)
    | _ => s
  if s.dget 0x2620 0 = 0 then (s.park p).endAgent p.agent else (s.setParked p.agent).park p

/-! ### Mover descriptors (R290, R291) -/

/-- OPCODE. -/
def mdOp (d : Nat) : Nat := field d 508 4
/-- ADD_TYPE. -/
def mdAdd (d : Nat) : Nat := field d 504 4
/-- FENCE. -/
def mdFence (d : Nat) : Bool := bit d 503
/-- COUNT_EN. -/
def mdCountEn (d : Nat) : Bool := bit d 502
/-- COUNTER. -/
def mdCounter (d : Nat) : Nat := field d 496 6
/-- COUNTER_CORE. -/
def mdCounterCore (d : Nat) : Nat := field d 487 9
/-- SRC. -/
def mdSrc (d : Nat) : Nat := field d 424 56
/-- DST. -/
def mdDst (d : Nat) : Nat := field d 368 56
/-- INDEX_ADDR. -/
def mdIndex (d : Nat) : Nat := field d 312 56
/-- LENGTH. -/
def mdLength (d : Nat) : Nat := field d 280 32
/-- COUNT. -/
def mdCount (d : Nat) : Nat := field d 248 32
/-- SRC_STRIDE. -/
def mdSrcStride (d : Nat) : Int := toSigned 32 (field d 216 32)
/-- DST_STRIDE. -/
def mdDstStride (d : Nat) : Int := toSigned 32 (field d 184 32)
/-- GATHER, SCATTER or SCATTER_ADD. -/
def mdIndexed (d : Nat) : Bool := mdOp d == 2 || mdOp d == 3 || mdOp d == 5
/-- STREAM_ADD or SCATTER_ADD. -/
def mdAdds (d : Nat) : Bool := mdOp d == 4 || mdOp d == 5
/-- Element size of an add. -/
def mdElem (d : Nat) : Nat := if mdAdd d = 2 then 8 else 4
/-- Alignment that a source address must have (R291). -/
def mdSrcAlign (d : Nat) : Nat := if mdIndexed d then 4 else 1
/-- Alignment that a destination address must have (R291). -/
def mdDstAlign (d : Nat) : Nat := if mdAdds d then mdElem d else if mdIndexed d then 4 else 1
/-- COUNT or LENGTH zero: the descriptor does nothing (R12). -/
def mdEmpty (d : Nat) : Bool := mdCount d == 0 || mdLength d == 0

/-- A descriptor that breaks R10, R290 or R291 whatever its indices. -/
def mdMalformed (die d : Nat) : Bool :=
  mdOp d == 0 || decide (5 < mdOp d) || field d 480 7 != 0 || field d 0 184 != 0 ||
  (if mdAdds d then mdAdd d != 0 && mdAdd d != 2 else mdAdd d != 0) ||
  (mdCountEn d && mdCounterCore d / 96 != die) ||
  (if mdIndexed d then mdIndex d % 4 != 0 else mdIndex d != 0) ||
  (!mdEmpty d && (
    (mdIndexed d && (mdLength d % 4 != 0 || decide (65536 < mdLength d))) ||
    (mdAdds d && mdLength d % mdElem d != 0) ||
    mdSrc d % mdSrcAlign d != 0 || mdDst d % mdDstAlign d != 0))

/-- VA of the descriptor with an index. -/
def Mover.descVa (v : Mover) (i : Nat) : Nat := v.addr + 64 * i

/-- What the caches give a mover's access. -/
def moverCtx (d : Nat) (v : Mover) (va access : Nat) : XCtx := ⟨v.asid, va, access, true, none, d⟩

/-- POSITION of a mover's park (R297). -/
def Mover.position (v : Mover) : Nat := v.cur % 4096 * 2 ^ 20 + v.elem % 2 ^ 20

/-- STEP of the action a mover serves. -/
def State.stepOf (s : State) (action : Nat) : Nat :=
  match s.action action with
  | some a => a.step
  | none => 0xFFFFFFFF

/-- A park of a mover. -/
def State.moverPark (s : State) (d m kind level va access code : Nat) : State :=
  let v := s.mover d m
  s.parkAgent ⟨if code = 3 then .moverDesc d m else .mover d m, kind, level, v.asid, va, access, code, d, m, 0x1FF, v.position, s.stepOf v.action, 0, 0⟩

/-- A fatal translation fault of a mover. -/
def State.moverFault (s : State) (d m code va agent : Nat) : State :=
  let v := s.mover d m
  (s.xFault code d (s.stepOf v.action) 0xFFFF m v.asid va agent).endMover d m

/-- Fault 0x71 of a mover (R277). -/
def State.moverPoison (s : State) (d m lpa : Nat) : State :=
  (s.memoryPoison lpa .mover d (s.stepOf (s.mover d m).action) 0xFFFF m).endMover d m

/-- The mover may work. -/
def State.moverMay (s : State) (d m : Nat) : Bool :=
  s.alive && s.trans.preempt == .running && s.alm.state != .halted && (s.mover d m).status == .running

/-- A host target whose port cannot issue (R387). -/
def State.hostBarred (s : State) : Target → Option (Nat × Nat)
  | .host p a => if (s.port p).busMaster && (s.port p).l0 && !(s.port p).d3hot then none else some (p, a)
  | _ => none

/-- Fault 0xB0 of a mover; without a completion its status is not stated (log 5). -/
def State.moverHostFault (s : State) (d m p a : Nat) : State :=
  let (x, s) := s.takeFree 8
  (s.hostFault d (s.stepOf (s.mover d m).action) m p x a).endMover d m

/-- A read of the mover's own, of a descriptor or an index, through a translation that it holds: its bytes, the poison or barred port met, or a wait for bytes of another package or the host (R290, R387). -/
inductive MoverRead where
  | bytes (bs : Bytes)
  | wait
  | stop (x : Xlate)
  | barred (port addr : Nat)
  deriving DecidableEq, Repr

/-- n bytes at a VA read by a mover for itself. -/
def State.moverRead (s : State) (d m va access n : Nat) : State × MoverRead :=
  let v := s.mover d m
  match s.lookup (moverCtx d v va access) with
  | .ok t a =>
    match s.hostBarred t with
    | some (p, x) => (s, .barred p x)
    | none =>
      match s.fetchPieces (.moverDesc d m) d (s.stepOf v.action) v.asid (v.cur, v.elem, v.off) [(va, n, t, a)] with
      | (s, .bytes bs) => (s.dropAgent (.moverDesc d m), .bytes bs)
      | (s, .poison lpa) => (s.dropAgent (.moverDesc d m), .stop (.poison lpa))
      | (s, .waits) => (s, .wait)
  | .miss => (s, .wait)
  | x => (s, .stop x)

/-- The descriptor at an index as the mover holds it: read ahead, or read now through cached translations. -/
def State.readDesc (s : State) (d m i : Nat) : State × MoverRead :=
  let v := s.mover d m
  match v.ahead.find? (fun p => p.1 == i) with
  | some p => (s, .bytes (natLe 64 p.2.toNat))
  | none => s.moverRead d m (v.descVa i) 3 64

/-- What the mover meets in a read of its own that it needs ends it, or is awaited. -/
def State.moverReadEnd (s : State) (d m va agent : Nat) : MoverRead → State
  | .stop (.fault code) => s.moverFault d m code va agent
  | .stop (.poison lpa) => s.moverPoison d m lpa
  | .barred p a => s.moverHostFault d m p a
  | _ => s

/-- The next descriptor taken up: malformed, fenced, empty, or ready to translate (R290 to R295). -/
def State.takeDesc (s : State) (d m desc : Nat) : State :=
  let v := s.mover d m
  let ahead := v.ahead.filter (fun p => p.1 != v.cur)
  if mdMalformed d desc then s.moverFault d m 0x84 (v.descVa v.cur) 3
  else if mdFence desc && v.open_ != [] then s
  else if mdEmpty desc then
    s.setMover d m { v with ahead := ahead, cur := v.cur + 1, open_ := v.open_ ++ [⟨v.cur, BitVec.ofNat 512 desc⟩] }
  else s.setMover d m { v with ahead := ahead, desc := some (BitVec.ofNat 512 desc), elem := 0, off := 0 }

/-- A mover takes up its next descriptor, which has the OPCODE of the command; while its translation is not held the mover waits for the walk. -/
def State.takeOp (s : State) (d m op : Nat) : Result :=
  let v := s.mover d m
  if !(s.moverMay d m && v.desc.isNone && decide (v.cur < v.count)) then .next s
  else if v.addr % 64 ≠ 0 then .next (s.moverFault d m 0x84 v.addr 3)
  else match s.readDesc d m v.cur with
    | (s, .bytes bs) =>
      let desc := leNat bs
      if mdOp desc = op ∨ mdMalformed d desc then .next (s.takeDesc d m desc) else .next s
    | (s, x) => .next (s.moverReadEnd d m (v.descVa v.cur) 3 x)

/-- STREAM. -/
def execStream (die : Fin 4) (mover : Fin 64) (s : State) : Result := s.takeOp die mover 1
/-- GATHER. -/
def execGather (die : Fin 4) (mover : Fin 64) (s : State) : Result := s.takeOp die mover 2
/-- SCATTER. -/
def execScatter (die : Fin 4) (mover : Fin 64) (s : State) : Result := s.takeOp die mover 3
/-- STREAM_ADD. -/
def execStreamAdd (die : Fin 4) (mover : Fin 64) (s : State) : Result := s.takeOp die mover 4
/-- SCATTER_ADD. -/
def execScatterAdd (die : Fin 4) (mover : Fin 64) (s : State) : Result := s.takeOp die mover 5

/-- MOVER_DESCRIPTOR_READAHEAD: the next descriptor not read yet, at most 4 ahead; a failed read-ahead is discarded (R295). -/
def execMoverDescriptorReadahead (die : Fin 4) (mover : Fin 64) (s : State) : Result :=
  let v := s.mover die mover
  let i := v.cur + 1 + v.ahead.length
  if !(s.moverMay die mover && v.addr % 64 == 0 && decide (i < v.count) && decide (v.ahead.length < 4)) then .next s
  else match s.translate (moverCtx die v (v.descVa i) 3) with
    | (s, .ok _ _) =>
      match s.readDesc die mover i with
      | (s, .bytes bs) =>
        let v := s.mover die mover
        .next (if mdMalformed die (leNat bs) then s else s.setMover die mover { v with ahead := v.ahead ++ [(i, BitVec.ofNat 512 (leNat bs))] })
      | (s, _) => .next s
    | (s, _) => .next s

/-! ### Pieces (R291, R292, R294) -/

/-- VA of the index of the present element. -/
def Mover.indexVa (v : Mover) (desc : Nat) : Nat := mdIndex desc + 4 * v.elem
/-- The index of the present element, its number where none is read (R291). -/
def State.readIndex (s : State) (d m : Nat) (desc : Nat) : State × MoverRead :=
  let v := s.mover d m
  if mdIndexed desc then s.moverRead d m (v.indexVa desc) 0 4 else (s, .bytes (natLe 4 v.elem))

/-- Source and destination VA of an element with index idx, formed in 64 bits (R283, R291). -/
def elemAddrs (desc n idx : Nat) : Nat × Nat :=
  let at_ := fun (base : Nat) (k : Nat) (stride : Int) => ofSigned 64 ((base : Int) + (k : Int) * stride)
  let len : Int := (mdLength desc : Int)
  match mdOp desc with
  | 2 => (at_ (mdSrc desc) idx (mdSrcStride desc), at_ (mdDst desc) n len)
  | 3 | 5 => (at_ (mdSrc desc) n len, at_ (mdDst desc) idx (mdDstStride desc))
  | _ => (at_ (mdSrc desc) n (mdSrcStride desc), at_ (mdDst desc) n (mdDstStride desc))

/-- Access code of a mover's destination. -/
def mdDstAccess (desc : Nat) : Nat := if mdAdds desc then 2 else 1

/-- The mover's translation moves past a piece of len bytes; the last piece of the last element completes the descriptor's translation. -/
def Mover.past (v : Mover) (desc len : Nat) : Mover :=
  let v := if mdLength desc ≤ v.off + len then { v with elem := v.elem + 1, off := 0 } else { v with off := v.off + len }
  if mdCount desc ≤ v.elem then
    { v with desc := none, elem := 0, off := 0, cur := v.cur + 1, open_ := v.open_ ++ [⟨v.cur, BitVec.ofNat 512 desc⟩] }
  else v

/-- Bytes that two targets of the same kind have in common. -/
def Target.overlaps (a : Target) (n : Nat) (b : Target) (k : Nat) : Bool :=
  match a, b with
  | .here x, .here y => x < y + k && y < x + n
  | .remote r x, .remote q y => r == q && x < y + k && y < x + n
  | .host p x, .host q y => p == q && x < y + k && y < x + n
  | _, _ => false

/-- A write of this mover to the destination is not acknowledged (R294). -/
def State.moverClash (s : State) (d m : Nat) (t : Target) (n : Nat) : Bool :=
  s.trans.reqs.any (fun r => r.agent == .mover d m && (match r.next with
    | some (x, _, _, _) => x.overlaps r.len t n
    | none => r.kind != .load && r.target.overlaps r.len t n))

/-- A mover request. -/
def moverReq (d m : Nat) (v : Mover) (step : Nat) (kind : ReqKind) (t : Target) (len : Nat) (data : Bytes) (alloc irregular : Bool)
    (next : Option (Target × ReqKind × Bool × Nat)) (va : Nat) : Req :=
  { id := 0, agent := .mover d m, die := d, kind := kind, target := t, len := len, data := data, done := false, eaves := false,
    alloc := alloc, irregular := irregular, poison := none, reg := 99, signed := false, off := 0, desc := v.cur, next := next,
    step := step, asid := v.asid, va := va, pos := (v.cur, v.elem, v.off) }

/-- What a mover's destination write does. -/
def mdKind (desc : Nat) : ReqKind := if mdAdds desc then .add (mdAdd desc) else .store

/-- A translation that is not held ends the attempt: a walk is awaited, or the fault is fatal. -/
def State.moverXlate (s : State) (d m va : Nat) : Xlate → State
  | .fault code => s.moverFault d m code va 2
  | .poison lpa => s.moverPoison d m lpa
  | _ => s

/-- The piece at the mover's position, of an element with index idx, is issued once both translations are held (R292). -/
def State.issuePiece (s : State) (d m desc idx : Nat) : State :=
  let v := s.mover d m
  let step := s.stepOf v.action
  let (src, dst) := elemAddrs desc v.elem idx
  let skip := mdIndexed desc && idx == 0xFFFFFFFF
  let room := fun (a : Nat) => 256 - a % 256
  if skip && mdOp desc != 2 then s.setMover d m (v.past desc (mdLength desc))
  else if (!skip && src % mdSrcAlign desc != 0) || dst % mdDstAlign desc != 0 then
    s.moverFault d m 0x84 (if !skip && src % mdSrcAlign desc != 0 then src else dst) 2
  else
    let x := (src + v.off) % 2 ^ 64
    let y := (dst + v.off) % 2 ^ 64
    let len := if skip then min (mdLength desc - v.off) (room y) else min (mdLength desc - v.off) (min (room x) (room y))
    let irregular := mdIndexed desc && len != 256
    match (if skip then .ok (.here 0) 0 else s.lookup (moverCtx d v x 0)), s.lookup (moverCtx d v y (mdDstAccess desc)) with
    | .ok ts as_, .ok td ad =>
      if !s.canTrack (.mover d m) d 1 || !s.hostRoom (if skip then td else ts) || ((mdOp desc == 3 || mdOp desc == 5) && s.moverClash d m td len) then s
      else match (if skip then none else s.hostBarred ts).or (s.hostBarred td) with
        | some (p, a) => s.moverHostFault d m p a
        | none =>
          let s := s.setMover d m (v.past desc len)
          if skip then
            (s.issue (moverReq d m v step .store td len (List.replicate len 0) (bit ad 0) irregular none y) false).1
          else
            let s := if mdOp desc = 2 then s.train d (1000 + m) v.asid x else s
            (s.issue (moverReq d m v step .load ts len [] (bit as_ 0) irregular (some (td, mdKind desc, bit ad 0, y)) x)
              (mdOp desc == 2 && bit as_ 1)).1
    | .ok _ _, e => s.moverXlate d m y e
    | e, _ => s.moverXlate d m x e

/-- MOVER_PIECE_ISSUE. -/
def execMoverPieceIssue (die : Fin 4) (mover : Fin 64) (s : State) : Result :=
  match (s.mover die mover).desc with
  | none => .next s
  | some desc =>
    if !s.moverMay die mover then .next s
    else match s.readIndex die mover desc.toNat with
      | (s, .bytes bs) => .next (s.issuePiece die mover desc.toNat (leNat bs))
      | (s, x) => .next (s.moverReadEnd die mover ((s.mover die mover).indexVa desc.toNat) 2 x)

/-- The oldest descriptor retires: its counter rises, and after the last the MOVER_STREAM completes (R292). -/
def State.retire (s : State) (d m : Nat) (o : MoverDesc) : State :=
  let v := s.mover d m
  let desc := o.desc.toNat
  let s := if mdCountEn desc then s.cinc (mdCounterCore desc) (mdCounter desc) 1 else s
  let v' := { v with open_ := v.open_.drop 1, oldest := o.idx + 1 }
  if v.count ≤ o.idx + 1 then (s.setMover d m { v' with status := .idle }).completeAction v.action
  else s.setMover d m v'

/-- DESCRIPTOR_RETIRE: every write of the oldest descriptor is acknowledged. -/
def execDescriptorRetire (die : Fin 4) (mover : Fin 64) (s : State) : Result :=
  match (s.mover die mover).open_ with
  | o :: _ =>
    when (!s.trans.reqs.any (fun r => r.agent == Agent.mover die mover && r.desc == o.idx)) s (s.retire die mover o)
  | [] => .next s

/-! ### Responses (R89, R255, R277, R334) -/

/-- A response to a thread: the bytes go to its register, the last part extends; poison ends the thread (R277, R501). -/
def State.threadResponse (s : State) (r : Req) (g t : Nat) : State :=
  let s := s.dropReq r.id
  match r.poison with
  | some lpa =>
    let s := s.memoryPoison lpa .thread (coreDie g) r.step g t
    if (s.thread g t).status = .ended then s else s.endThread g t true
  | none =>
    if r.kind ≠ .load ∨ 48 ≤ r.reg then s
    else
      let th := s.thread g t
      let old := if 32 ≤ r.reg then th.vBytes (r.reg - 32) else natLe 8 (th.s r.reg)
      let bs := patch (slice old 0 r.desc) r.off r.data
      let more := (s.requestsOf g t).any (fun q => q.kind == .load && q.reg == r.reg)
      s.setThread g t (th.loaded r.reg (r.signed && !more) bs)

/-- The write that follows a mover's read may be issued. -/
def State.nextRoom (s : State) (r : Req) : Bool := r.next.all (fun n => s.hostRoom n.1)
/-- A response to a mover: a read is followed by its write, whose VA it then has, once the port of the write has room for it (R376); a write is acknowledged; poison is fatal (R257, R277, R288, R292). -/
def State.moverResponse (s : State) (r : Req) (d m : Nat) : State :=
  let t := s.dropReq r.id
  match r.poison, r.next with
  | some lpa, _ => t.moverPoison d m lpa
  | none, none => t
  | none, some (target, kind, alloc, va) =>
    if !s.nextRoom r then s
    else match t.hostBarred target with
      | some (p, a) => t.moverHostFault d m p a
      | none =>
        (t.issue { r with kind := kind, target := target, data := r.data, done := false, eaves := false, alloc := alloc, poison := none,
                          next := none, va := va } false).1

/-- A request that the agent may take the answer of: done, or addressed to an SRAM window, which serves it now. -/
def Req.answered (r : Req) : Bool :=
  !r.eaves && (r.done || (match r.target with | .here a => !inTiers a && isMemory a | _ => false))

/-- The response of a request reaches its agent; an SRAM window serves the request now. -/
def State.respond (s : State) (r : Req) : State :=
  let s := if r.done then s else s.perform r
  match s.req r.id with
  | none => s
  | some r =>
    match r.agent with
    | .thread g t => s.threadResponse r g t
    | .mover d m => s.moverResponse r d m
    | _ => s

/-- MEMORY_RESPONSE. The engines take the answers of their own reads when they use them. -/
def execMemoryResponse (req : Nat) (s : State) : Result :=
  match s.req req with
  | none => .next s
  | some r =>
    if !(r.answered && s.nextRoom r && (match r.agent with | .thread _ _ => true | .mover _ _ => true | _ => false)) then .next s
    else when (r.done || s.inTurn r) s (s.respond r)

/-- HOST_PIECE_COMPLETION: the data of a host read, or the completion that acknowledges a posted write (R387). -/
def execHostPieceCompletion (req : Nat) (bytes : List Byte) (s : State) : Result :=
  match s.req req with
  | none => .next s
  | some r =>
    match r.target with
    | .host p _ =>
      let ok := if r.kind = .load then bytes.length == r.len else bytes.length == 0
      if !(ok && s.atHost p r) then .next s
      else .next ((s.mapReq req (fun q => { q with done := true, data := if q.kind = .load then bytes else q.data })).respond { r with done := true })
    | _ => .next s

/-- HOST_ACCESS: a host piece whose completion reports an error, or that times out: fatal fault 0xB0 (R387). -/
def execHostAccess (req : Nat) (status : Fin 256) (s : State) : Result :=
  match s.req req with
  | none => .next s
  | some r =>
    match r.target, r.agent with
    | .host p a, .mover d m | .host p a, .moverDesc d m =>
      when (!r.done) s (((s.dropReq req).hostFault d r.step m p status a).endMover d m)
    | _, _ => .next s

/-! ### Park records (R297 to R300) -/

/-- Every copy of a record's bytes in the ring and the count of records outstanding (R297). -/
def State.setParks (s : State) (ps : List ParkRec) : State :=
  ({ s with trans := { s.trans with parks := ps } } : State).dset 0x3601 1 ps.length

/-- A waiting park joins its page's record, or takes the next sequence number and its ring slot (R297). -/
def State.writeParkOf (s : State) (p : ParkInfo) : State :=
  let s := { s with trans := { s.trans with parkWait := s.trans.parkWait.erase p } }
  match s.parkMatch p with
  | some r =>
    let r' := { r with joined := r.joined ++ [p] }
    (s.writePark r').setParks (mapIf (fun x => x.seq == r.seq) (fun _ => r') s.trans.parks)
  | none =>
    let r : ParkRec := ⟨s.trans.nextSeq, p.asid, p.va / 65536, p, []⟩
    let s := (s.writePark r).record p.kind 2 p.die .translation p.step p.logAt.1 p.logAt.2 ((parkBytes r).drop 4)
    ({ s with trans := { s.trans with nextSeq := s.trans.nextSeq + 1 } } : State).setParks (s.trans.parks ++ [r])

/-- PARK_RECORD_WRITE: the oldest park that can be written; one whose page has no record needs the next ring slot free (R297). -/
def execParkRecordWrite (s : State) : Result :=
  if s.trans.parkWait = [] then .next s
  else match s.trans.parkWait.find? (fun p => (s.parkMatch p).isSome || s.ringFree s.trans.nextSeq) with
    | some p => .next (s.writeParkOf p)
    | none => .next s

/-- The agents of a record. -/
def ParkRec.agents (r : ParkRec) : List ParkInfo := r.first :: r.joined

/-- The record leaves the ring and its agents walk again (R298). -/
def State.releasePark (s : State) (r : ParkRec) : State :=
  let s := s.setParks (s.trans.parks.filter (fun x => x.seq != r.seq))
  r.agents.foldl (fun s p => s.unpark p.agent) s

/-- The record is abandoned: its agents end with a fatal fault (R298, R299). -/
def State.abandonPark (s : State) (r : ParkRec) (code : Nat) : State :=
  let s := s.setParks (s.trans.parks.filter (fun x => x.seq != r.seq))
  r.agents.foldl (fun s p => (s.xFault code p.die p.step p.logAt.1 p.logAt.2 p.asid p.va p.code).endAgent p.agent) s

/-- A write of PARK_RELEASE (R298, R302): a stale number is counted; while the package is stopped or saved a release or abandonment waits for RESUME. -/
def State.parkRelease (s : State) (v : Nat) : State :=
  match s.trans.parks.find? (fun r => r.seq == v % 2 ^ 32) with
  | none => s.dadd 0x3601 3 1
  | some r =>
    if s.trans.preempt = .running then (if bit v 32 then s.abandonPark r 0x86 else s.releasePark r)
    else if bit v 32 then { s with trans := { s.trans with abandons := addNew r.seq s.trans.abandons } }
    else { s with trans := { s.trans with released := addNew r.seq s.trans.released } }

/-- PARK_TIMEOUT: a record outstanding for longer than PARK_TIMEOUT_SLOTS; while the package is stopped or saved it waits for RESUME, as an abandonment does (R299, R302). -/
def execParkTimeout (seq : Nat) (s : State) : Result :=
  match s.trans.parks.find? (fun r => r.seq == seq) with
  | none => .next s
  | some r =>
    when (s.trans.preempt == .running && decide (s.dget 0x2622 0 ≠ 0) && decide (r.first.sdt / 2048 + s.dget 0x2622 0 < s.slot)) s (s.abandonPark r 0x87)

/-- Every outstanding record is discarded and the ring restarts (R299). -/
def State.discardParks (s : State) : State :=
  ({ s with trans := { s.trans with nextSeq := 0, parkWait := [], released := [], abandons := [] } } : State).setParks []

/-! ### Invalidation (R288) -/

/-- An invalidation covers a page of an address space. -/
def InvalCmd.covers (c : InvalCmd) (asid lo size : Nat) : Bool :=
  c.kind == 3 || (c.asid == asid && (c.kind == 2 || (lo < c.hi && c.lo < lo + size)))

/-- Matching entries leave every cache of the package; table entries of the address space go with them. -/
def State.purge (s : State) (c : InvalCmd) : State :=
  let keep := fun (e : TlbEntry) => !c.covers e.asid e.va e.size
  let span := fun (w : WalkEntry) => match w.level with | 3 => 2 ^ 43 | 2 => 2 ^ 30 | _ => 2 ^ 21
  let keepW := fun (w : WalkEntry) => !c.covers w.asid (w.va * span w) (span w)
  { s with
    cores := s.cores.map (fun p => (p.1, { p.2 with tlb := p.2.tlb.filter keep }))
    trans := { s.trans with dieTlb := pmap (fun l => l.filter keep) s.trans.dieTlb,
                            walkCache := pmap (fun l => l.filter keepW) s.trans.walkCache,
                            inval := s.trans.inval ++ [c] } }

/-- A write of INVAL_COMMAND (R288): 1 the range, 2 the ASID, 3 every ASID. A range of no pages does nothing (R12). -/
def State.invalidate (s : State) (kind : Nat) : State :=
  let lo := s.dget 0x2610 1
  let pages := s.dget 0x2610 2
  if kind = 1 ∧ pages = 0 then s else s.purge ⟨kind, s.dget 0x2610 4 % 4096, lo, lo + pages * 65536⟩

/-- A request still to complete was translated, for its read or for the write that follows, with an entry that an invalidation covers. -/
def InvalCmd.holds (c : InvalCmd) (r : Req) : Bool :=
  c.covers r.asid r.va r.len || r.next.any (fun n => c.covers r.asid n.2.2.2 r.len)
/-- INVAL_COMPLETE: every request translated with a matching entry has completed (R288). -/
def execInvalComplete (s : State) : Result :=
  when (decide (s.trans.inval ≠ []) && !s.trans.reqs.any (fun r => s.trans.inval.any (fun c => c.holds r))) s
    { s with trans := { s.trans with inval := [] } }

end Sys2Proof.Machine
end

