-- ==== Sys2Proof/Machine/Sfu.lean ====
section
/-! DEFINITION. The special functions (R191): each value computed in fixed point with 400 fraction bits, far below any rounding of FP32 or BF16, exact where the function is exact (log 12). -/
namespace Sys2Proof.Machine

/-- One in fixed point with 400 fraction bits. -/
def fxOne : Int := 2 ^ 400

/-- Terms t r / k, t r² / (k (k+1)), ... of an exponential series added to acc. -/
def expSum : Nat → Nat → Int → Int → Int → Int
  | 0, _, _, _, acc => acc
  | n + 1, k, r, t, acc => let t := t * r / fxOne / (k : Int); expSum n (k + 1) r t (acc + t)

/-- e^r for |r| at most 1. -/
def fxExp (r : Int) : Int := expSum 100 1 r fxOne fxOne

/-- Odd powers z + z³/3 + z⁵/5 + ...; `p` is the present power of z, `z2` its square, `s` the sign of successive terms. -/
def oddSum : Nat → Nat → Int → Int → Int → Int → Int
  | 0, _, _, _, _, acc => acc
  | n + 1, k, z2, p, s, acc => oddSum n (k + 2) z2 (p * z2 / fxOne * s) s (acc + p / (k : Int))

/-- 2 artanh z for |z| at most 1/3. -/
def fxAtanh2 (z : Int) : Int := 2 * oddSum 140 1 (z * z / fxOne) z 1 0
/-- ln 2 = 2 artanh (1/3). -/
def fxLn2 : Int := fxAtanh2 (fxOne / 3)
/-- arctan (1/n). -/
def fxAtanInv (n : Nat) : Int := let z := fxOne / (n : Int); oddSum 100 1 (z * z / fxOne) z (-1) 0
/-- π = 16 arctan (1/5) - 4 arctan (1/239). -/
def fxPi : Int := 16 * fxAtanInv 5 - 4 * fxAtanInv 239

/-- Terms of a sine series. -/
def sinSum : Nat → Nat → Int → Int → Int → Int
  | 0, _, _, _, acc => acc
  | n + 1, k, x2, t, acc => let t := -(t * x2 / fxOne / ((k * (k + 1) : Nat) : Int)); sinSum n (k + 2) x2 t (acc + t)
/-- sin x for 0 ≤ x ≤ π/2. -/
def fxSin (x : Int) : Int := sinSum 60 2 (x * x / fxOne) x x

/-- A fixed-point number as a value. -/
def Val.ofFx (a : Int) : Val := .fin (a < 0) a.natAbs (-400)
/-- A finite magnitude in fixed point, truncated. -/
def toFx (m : Nat) (e : Int) : Int := if 0 ≤ e + 400 then ((m <<< (e + 400).toNat : Nat) : Int) else ((m >>> (-(e + 400)).toNat : Nat) : Int)
/-- Above every finite FP32 value. -/
def Val.huge : Val := .fin false 1 1000
/-- Below every FP32 subnormal, and not zero. -/
def Val.tiny (neg : Bool) : Val := .fin neg 1 (-1000)

/-- e^x, x finite. -/
def expVal (neg : Bool) (m : Nat) (e : Int) : Val :=
  if m = 0 then .fin false 1 0
  else if magGt m e 200 0 then (if neg then .tiny false else .huge)
  else
    let a := toFx m e
    let x := if neg then -a else a
    let n := x / fxLn2
    (Val.ofFx (fxExp (x - n * fxLn2))).scale n

/-- 2^x, x finite: exact for integers. -/
def exp2Val (neg : Bool) (m : Nat) (e : Int) : Val :=
  if m = 0 then .fin false 1 0
  else if magGt m e 300 0 then (if neg then .tiny false else .huge)
  else
    let a := toFx m e
    let x := if neg then -a else a
    let n := x / fxOne
    (Val.ofFx (fxExp ((x - n * fxOne) * fxLn2 / fxOne))).scale n

/-- m as 2^k × r with 1 ≤ r < 2: k and r in fixed point. -/
def normFx (m : Nat) (e : Int) : Int × Int :=
  let k := (Nat.log2 m : Int)
  (k + e, toFx m (-k))

/-- ln of a positive magnitude in fixed point. -/
def lnFx (m : Nat) (e : Int) : Int :=
  let (k, r) := normFx m e
  k * fxLn2 + fxAtanh2 ((r - fxOne) * fxOne / (r + fxOne))

/-- ln x. -/
def lnVal : Val → Val
  | .fin n m e => if m = 0 then .inf true else if n then .nan else .ofFx (lnFx m e)
  | .inf n => if n then .nan else .inf false
  | .nan => .nan

/-- log₂ x: exact for powers of 2. -/
def log2Val : Val → Val
  | .fin n m e =>
    if m = 0 then .inf true
    else if n then .nan
    else if m = 2 ^ Nat.log2 m then .ofInt ((Nat.log2 m : Int) + e)
    else .ofFx (lnFx m e * fxOne / fxLn2)
  | .inf n => if n then .nan else .inf false
  | .nan => .nan

/-- A quotient a/b of positive numbers to 400 bits with a sticky bit, times 2^e. -/
def quotVal (neg : Bool) (a b : Nat) (e : Int) : Val :=
  let q := (a <<< 400) / b
  .fin neg (2 * q + (if (a <<< 400) % b = 0 then 0 else 1)) (e - 401)

/-- 1/x. -/
def rcpVal : Val → Val
  | .fin n m e => if m = 0 then .inf n else quotVal n 1 m (-e)
  | .inf n => .fin n 0 0
  | .nan => .nan

/-- 1/√x. -/
def rsqrtVal : Val → Val
  | .fin n m e => if m = 0 then .inf n else if n then .nan else sqrtRatio 1 0 m e
  | .inf n => if n then .nan else .fin false 0 0
  | .nan => .nan

/-- tanh x. Below 2^-14 it is x less a relative amount too small to reach a rounding. -/
def tanhVal : Val → Val
  | .fin n m e =>
    if m = 0 then .fin n 0 0
    else if magGt 1 (-14) m e then .fin n (m * 2 ^ 100 - 1) (e - 100)
    else if magGt m e 64 0 then .fin n (2 ^ 100 - 1) (-100)
    else
      match expVal true m (e + 1) with
      | .fin _ t k => let x := toFx t k; quotVal n (fxOne - x).toNat (fxOne + x).toNat 0
      | v => v
  | .inf n => .fin n 1 0
  | .nan => .nan

/-- 1 / (1 + e^-x). -/
def sigmoidVal : Val → Val
  | .fin n m e =>
    if m = 0 then .fin false 1 (-1)
    else if magGt m e 200 0 then (if n then .tiny false else .fin false (2 ^ 100 - 1) (-100))
    else
      match expVal true m e with
      | .fin _ t k =>
        -- t 2^k = e^-|x|, k negative
        let one := 1 <<< (-k).toNat
        if n then quotVal false t (one + t) 0 else quotVal false one (one + t) 0
      | v => v
  | .inf n => if n then .fin false 0 0 else .fin false 1 0
  | .nan => .nan

/-- sin(π a) of a fixed-point 0 ≤ a < 2 whose lower bits are exact: sign and magnitude. -/
def sinpiFx (a : Int) : Int :=
  let half := fxOne / 2
  let (sg, b) := if a < fxOne then (1, a) else (-1, a - fxOne)
  let c := if b ≤ half then b else fxOne - b
  sg * fxSin (c * fxPi / fxOne)

/-- |x| mod 2 in fixed point: exact for every FP32 magnitude, for its least bit is 2^-149. -/
def mod2Fx (m : Nat) (e : Int) : Int := if 2 ≤ e then 0 else toFx m e % (2 * fxOne)

/-- sin(πx): an integer gives a zero of the sign of x. -/
def sinpiVal : Val → Val
  | .fin n m e =>
    let a := mod2Fx m e
    if a % fxOne = 0 then .fin n 0 0 else .ofFx (if n then -sinpiFx a else sinpiFx a)
  | _ => .nan

/-- cos(πx): n + 0.5 gives +0. -/
def cospiVal : Val → Val
  | .fin _ m e =>
    let a := (mod2Fx m e + fxOne / 2) % (2 * fxOne)
    if a % fxOne = 0 then .fin false 0 0 else .ofFx (sinpiFx a)
  | _ => .nan

/-- The special function of an OP code (R191), before rounding. -/
def sfuVal (op : Nat) (v : Val) : Val :=
  match op, v with
  | _, .nan => .nan
  | 0x01, .fin n m e => expVal n m e
  | 0x02, .fin n m e => exp2Val n m e
  | 0x01, .inf n => if n then .fin false 0 0 else .inf false
  | 0x02, .inf n => if n then .fin false 0 0 else .inf false
  | 0x03, v => lnVal v
  | 0x04, v => log2Val v
  | 0x05, v => rcpVal v
  | 0x06, v => rsqrtVal v
  | 0x07, v => tanhVal v
  | 0x08, v => sigmoidVal v
  | 0x09, v => sinpiVal v
  | 0x0A, v => cospiVal v
  | _, _ => .nan

/-- The exponential of the drain and of row statistics, rounded to FP32 (R150, R183). -/
def exp32 (v : Val) : Val := rndF32 (sfuVal 0x01 v)

end Sys2Proof.Machine
end

