-- ==== Sys2Proof/Machine/Combine.lean ====
section
/-! DEFINITION. Combining steps and tree shapes (file 06): maxima and minima, indexed pairs, row statistics, and the fold and pairwise trees of reductions. -/
namespace Sys2Proof.Machine

/-- a lies above b in the order of R180: real order with -0 below +0. -/
def Val.above (a b : Val) : Bool :=
  match a.cmp b with
  | .gt => true
  | .eq => a.isZero && b.isZero && !a.neg? && b.neg?
  | .lt => false

/-- Maximum (R180). -/
def valMax (a b : Val) : Val := if a.isNan || b.isNan then .nan else if b.above a then b else a
/-- Minimum (R180). -/
def valMin (a b : Val) : Val := if a.isNan || b.isNan then .nan else if a.above b then b else a

/-- Indexed maximum, or minimum when `least` (R181). -/
def idxComb (least : Bool) (p q : Val × Nat) : Val × Nat :=
  if p.1.isNan && q.1.isNan then (.nan, min p.2 q.2)
  else if p.1.isNan then (.nan, p.2)
  else if q.1.isNan then (.nan, q.2)
  else
    let first := if least then q.1.above p.1 else p.1.above q.1
    let second := if least then p.1.above q.1 else q.1.above p.1
    if first then p else if second then q else (p.1, min p.2 q.2)

/-- Row statistics of two parts (R183). -/
def rowStat (p q : Val × Val) : Val × Val :=
  let m := valMax p.1 q.1
  if m.isNan || m == .inf false then (m, .nan)
  else if m = .inf true then (m, .fin false 0 0)
  else if p.1.cmp q.1 = .eq then (m, rndF32 (p.2.add q.2))
  else if q.1 = .inf true then (m, p.2)
  else if p.1 = .inf true then (m, q.2)
  else if q.1.lt p.1 then (m, rndF32 (p.2.add (rndF32 (q.2.mul (exp32 (rndF32 (q.1.sub p.1)))))))
  else (m, rndF32 ((rndF32 (p.2.mul (exp32 (rndF32 (p.1.sub q.1))))).add q.2))

/-- Row statistics of one part alone (R178). -/
def rowStatOne (p : Val × Val) : Val × Val :=
  if p.1.isNan || p.1 == .inf false then (p.1, .nan)
  else if p.1 = .inf true then (p.1, .fin false 0 0)
  else p

/-! ### Tree shapes (R177) -/

/-- One level of the pairwise shape. -/
def pairLevel {α : Type} (comb : α → α → α) : List α → List α
  | a :: b :: r => comb a b :: pairLevel comb r
  | l => l

/-- The pairwise shape; `fuel` bounds its levels. -/
def pairwise {α : Type} (comb : α → α → α) : Nat → List α → Option α
  | _, [] => none
  | _, [a] => some a
  | 0, a :: _ => some a
  | n + 1, l => pairwise comb n (pairLevel comb l)

/-- The tree of a shape bit: 0 fold, 1 pairwise (R177). -/
def treeOf {α : Type} (shape : Nat) (comb : α → α → α) (l : List α) : Option α :=
  match shape, l with
  | _, [] => none
  | 0, a :: r => some (r.foldl comb a)
  | _, l => pairwise comb (l.length + 1) l

/-! ### Scale selection and plane split (R195, R199) -/

/-- The E8M0 scale of an amax a with headroom h for a format (R195). -/
def vscale (f : Fmt) (h : Nat) : Val → Nat
  | .fin _ m e =>
    if m = 0 then 0x7F
    else ((List.range 255).find? (fun (x : Nat) => !magGt m (e + h) f.maxM (f.maxE + (x : Int) - 127))).getD 0xFE
  | _ => 0xFF

/-- Largest magnitude of a list of finite values. -/
def amax (l : List Val) : Val := l.foldl (fun a v => valMax a v.abs) (.fin false 0 0)

/-- High and low E2M3 codes of a block, and their scales (R199). -/
def splitBlock (xs : List Val) : List Nat × List Nat × Nat × Nat :=
  if xs.any Val.nonfinite then (xs.map (fun _ => 0), xs.map (fun _ => 0), 0xFF, 0xFF)
  else
    let xh := vscale e2m3 0 (amax xs)
    let hi := xs.map (fun x => (encodeMx e2m3 .rne 0 xh x).1)
    let rs := (xs.zip hi).map (fun p => p.1.sub (decodeMx e2m3 xh p.2))
    let xl := vscale e2m3 0 (amax rs)
    (hi, rs.map (fun r => (encodeMx e2m3 .rne 0 xl r).1), xh, xl)

end Sys2Proof.Machine
end

