-- ==== Sys2Proof/Machine/Matrix.lean ====
section
/-! DEFINITION. The matrix arrays (files 05 and 06): issuing MWLOAD, MSTREAM and MDRAIN, weight sets and their parity columns, rows of a stream and steps of a drain. -/
namespace Sys2Proof.Machine

/-! ### Command blocks (R138, R142, R147) -/

/-- ELEM_TYPE or OUT_TYPE. -/
def bType (b : Nat) : Nat := field b 508 4
/-- Block size of an MX type with BLOCK16. -/
def blockSize (b16 : Bool) : Nat := if b16 then 16 else 32
/-- BLOCK16 of MWLOAD and MSTREAM. -/
def bBlock16 (b : Nat) : Bool := bit b 507
/-- COLS of MWLOAD. -/
def lCols (b : Nat) : Nat := field b 499 8
/-- COL_STRIDE of MWLOAD and ROW_STRIDE of MSTREAM. -/
def bStride (b : Nat) : Nat := field b 448 32
/-- ARRAY_STRIDE of MWLOAD. -/
def lArrayStride (b : Nat) : Nat := field b 416 32
/-- SCALE_OFFSET of MWLOAD. -/
def lScale (b : Nat) : Nat := field b 392 24
/-- SCALE_COL_STRIDE. -/
def lScaleCol (b : Nat) : Nat := field b 352 32
/-- SCALE_ARRAY_STRIDE. -/
def lScaleArray (b : Nat) : Nat := field b 320 32
/-- COL_STEP of MWLOAD. -/
def lColStep (b : Nat) : Nat := field b 304 16
/-- RND of MSTREAM. -/
def sRnd (b : Nat) : Nat := field b 504 3
/-- SCALE_OFFSET of MSTREAM. -/
def sScale (b : Nat) : Nat := field b 424 24
/-- SCALE_ROW_STRIDE of MSTREAM. -/
def sScaleRow (b : Nat) : Nat := field b 384 32
/-- TENSOR_ID of MSTREAM. -/
def sTensor (b : Nat) : Nat := field b 352 32
/-- RND of MDRAIN. -/
def dRnd (b : Nat) : Nat := field b 505 3
/-- BLOCK16 of MDRAIN. -/
def dBlock16 (b : Nat) : Bool := bit b 504
/-- COLS of MDRAIN. -/
def dCols (b : Nat) : Nat := field b 496 8
/-- STATS_EN. -/
def dStatsEn (b : Nat) : Bool := bit b 495
/-- MASK_EN. -/
def dMaskEn (b : Nat) : Bool := bit b 494
/-- BITMAP_EN. -/
def dBitmapEn (b : Nat) : Bool := bit b 493
/-- INT_PRODUCT. -/
def dIntProduct (b : Nat) : Bool := bit b 492
/-- A_SCALE_MODE. -/
def dAMode (b : Nat) : Nat := field b 490 2
/-- W_SCALE_MODE. -/
def dWMode (b : Nat) : Nat := field b 488 2
/-- OUT_ROW_STRIDE. -/
def dStride (b : Nat) : Nat := field b 448 32
/-- COL_STEP of MDRAIN. -/
def dColStep (b : Nat) : Nat := field b 432 16
/-- BITMAP_ROW_BITS. -/
def dBitmapRow (b : Nat) : Nat := field b 416 16
/-- OUT_SCALE_OFFSET. -/
def dOutScale (b : Nat) : Nat := field b 392 24
/-- BITMAP_OFFSET. -/
def dBitmap (b : Nat) : Nat := field b 368 24
/-- CARRY_OFFSET. -/
def dCarry (b : Nat) : Nat := field b 344 24
/-- STATUS_OFFSET. -/
def dStatus (b : Nat) : Nat := field b 320 24
/-- MASK_OFFSET. -/
def dMask (b : Nat) : Nat := field b 296 24
/-- STATS_OFFSET. -/
def dStats (b : Nat) : Nat := field b 272 24
/-- A_ISCALE_OFFSET. -/
def dAScale (b : Nat) : Nat := field b 248 24
/-- W_ISCALE_OFFSET. -/
def dWScale (b : Nat) : Nat := field b 224 24
/-- OUT_SCALE_ROW_STRIDE. -/
def dOutScaleRow (b : Nat) : Nat := field b 192 32
/-- A_TENSOR_SCALE. -/
def dATensor (b : Nat) : Nat := field b 160 32
/-- W_TENSOR_SCALE. -/
def dWTensor (b : Nat) : Nat := field b 128 32
/-- STAT_SCALE. -/
def dStatScale (b : Nat) : Nat := field b 96 32
/-- TENSOR_ID of MDRAIN. -/
def dTensor (b : Nat) : Nat := field b 64 32

/-! ### Arrays, sets and queues (R127, R133, R135) -/

/-- Weight set of an array. -/
def Core.wset (k : Core) (n set : Nat) : WeightSet := tget {} k.sets (2 * n + set)
/-- The core with a weight set replaced. -/
def Core.setWset (k : Core) (n set : Nat) (w : WeightSet) : Core := { k with sets := tset k.sets (2 * n + set) w }
/-- The attributes that an MWLOAD declares for a set at issue (R139). -/
def WeightSet.declare (x : WeightSet) (w b : Nat) : WeightSet := { x with declType := bType b, declBlock16 := bBlock16 b, declK := wK w }
/-- Arrays of a mask, rising. -/
def arraysOf (m : Nat) : List Nat := maskList 4 m
/-- Matrix instructions that still occupy a queue entry of an array. -/
def Core.queue (k : Core) (n : Nat) : List MatInstr := k.matrix.filter (fun m => m.mask.getLsbD n && !m.done.getLsbD n)
/-- The array is stopped, by a stop or by a persistent fault (R156, R162). -/
def Core.stopped (k : Core) (n : Nat) : Bool := k.arraysStopped.getLsbD n || k.faultStop.getLsbD n
/-- OP of an issued instruction: 1 MWLOAD, 2 MSTREAM, 3 MDRAIN. -/
def MatInstr.op (m : MatInstr) : Nat := wOp m.word.toNat
/-- Weight set an instruction names. -/
def MatInstr.set (m : MatInstr) : Nat := wWset m.word.toNat
/-- Rows of an MSTREAM or MDRAIN. -/
def MatInstr.total (m : MatInstr) : Nat := wRows m.word.toNat
/-- Number of arrays an instruction names. -/
def MatInstr.width (m : MatInstr) : Nat := (arraysOf m.mask.toNat).length
/-- First window row. -/
def MatInstr.accRow (m : MatInstr) : Nat := wAccRow m.word.toNat
/-- Row of an MDRAIN done in every array, and rows of an MSTREAM written (R162). -/
def MatInstr.rowsDone (m : MatInstr) : Nat := if m.op = 3 then m.rows / max 1 m.width else m.rows

/-! ### Element types (R107, R115, R116, R128) -/

/-- Bytes of n elements of a type. -/
def elemBytes (ty n : Nat) : Nat := (typeBits ty * n + 7) / 8
/-- Number of K-blocks of K positions. -/
def kBlocks (ty : Nat) (b16 : Bool) (k : Nat) : Nat := if isMxType ty then k / blockSize b16 else 1
/-- Largest K of a weight set (R139). -/
def maxK (ty : Nat) : Nat := if ty = 5 ∨ ty = 8 ∨ ty = 9 then 128 else 64
/-- A permitted pairing (R115, R116). -/
def pairs (a w : Nat) : Bool := (isMxType a && isMxType w) || (isIntType a && isIntType w)
/-- Depth of a pairing (R128). -/
def depth (a w : Nat) : Nat := min (maxK a) (maxK w)
/-- The integer of an element code. -/
def elemInt (ty c : Nat) : Int :=
  match mxFmt ty with
  | some f => mxInt f c
  | none => decodeInt ty c
/-- Unit exponent of an element type. -/
def unitExp (ty : Nat) : Int :=
  match mxFmt ty with
  | some f => f.emin
  | none => 0

/-! ### Checks at issue (R133, R139, R143, R147) -/

/-- Bytes from the least to the greatest address lie in scratch. -/
def spanOk (base last n : Nat) : Bool := inScratch base 0 && inScratch (base + last) n

/-- Highest array of a mask. -/
def topArray (mask : Nat) : Nat := (arraysOf mask).getLastD 0

/-- Fault of an MWLOAD's checks, if any. -/
def loadCheck (w b opnd : Nat) : Option Nat :=
  let ty := bType b
  let k := wK w
  let mx := isMxType ty
  let top := topArray (wMask w)
  if !(mx || isIntType ty) || (!mx && bBlock16 b) || decide (128 < lCols b) || field b 480 19 != 0 || field b 384 8 != 0 ||
      field b 0 304 != 0 || (mx && k % blockSize (bBlock16 b) != 0) || decide (maxK ty < k) then some 0x30
  else if k = 0 ∨ lCols b = 0 then none
  else if !spanOk opnd (top * lArrayStride b + (lCols b - 1) * bStride b) (elemBytes ty k) ||
      (mx && !spanOk (lScale b) (top * lScaleArray b + (lCols b - 1) * lScaleCol b) (k / blockSize (bBlock16 b))) then some 0x32
  else none

/-- Fault of an MSTREAM's checks, if any. -/
def streamCheck (c : Core) (w b opnd : Nat) : Option Nat :=
  let sets := ((arraysOf (wMask w)).map (fun n => c.wset n (wWset w))).filter (fun x => x.declK != 0)
  let ty := bType b
  if (sRnd b != 0 && sRnd b != 2) || field b 480 24 != 0 || field b 416 8 != 0 || field b 0 352 != 0 then some 0x30
  else match sets with
    | [] => none
    | x :: _ =>
      if !sets.all (fun y => y.declType == x.declType && y.declBlock16 == x.declBlock16 && y.declK == x.declK) ||
          !pairs ty x.declType || decide (depth ty x.declType < x.declK) || bBlock16 b != x.declBlock16 then some 0x30
      else if wRows w = 0 then none
      else if !spanOk opnd ((wRows w - 1) * bStride b) (elemBytes ty x.declK) ||
          (isMxType ty && !spanOk (sScale b) ((wRows w - 1) * sScaleRow b) (x.declK / blockSize x.declBlock16)) then some 0x32
      else none

/-- Bytes of a non-MX output element (R148). -/
def outSize (ty : Nat) : Nat := laneBytes ty

/-- Fault of an MDRAIN's checks, if any. -/
def drainCheck (w b opnd : Nat) : Option Nat :=
  let ty := bType b
  let r := dRnd b
  let mx := isMxType ty
  let bs := blockSize (dBlock16 b)
  let cols := dCols b
  let rows := wRows w
  let last := topArray (wMask w) * dColStep b + cols - 1
  let rnds := if mx then r == 0 || r == 2 else if ty = 2 then r == 0 else decide (r ≤ 2)
  if !(mx || decide (ty ≤ 2)) || !rnds || decide (128 < cols) || field b 480 8 != 0 || field b 0 64 != 0 ||
      dAMode b == 3 || dWMode b == 3 || (mx && (cols % bs != 0 || dColStep b % bs != 0)) then some 0x30
  else if rows = 0 ∨ cols = 0 then none
  else
    let k := last / bs
    let blockBytes := elemBytes ty bs
    let ok :=
      (if mx then
        spanOk opnd ((rows - 1) * dStride b + k * blockBytes) blockBytes &&
        spanOk (dOutScale b) ((rows - 1) * dOutScaleRow b + k) 1 && spanOk (dCarry b) k 1 && spanOk (dStatus b) k 1 &&
        (!dBitmapEn b || spanOk (dBitmap b) (((rows - 1) * dBitmapRow b + k) / 8) 1) &&
        (!dMaskEn b || spanOk (dMask b) (last / 8) 1)
      else spanOk opnd ((rows - 1) * dStride b + last * outSize ty) (outSize ty)) &&
      (!dStatsEn b || spanOk (dStats b) ((4 * (rows - 1) + topArray (wMask w)) * 8) 8) &&
      (!dIntProduct b || dAMode b == 0 || spanOk (dAScale b) (4 * (rows - 1)) 4) &&
      (!dIntProduct b || dWMode b == 0 || spanOk (dWScale b) (4 * last) 4)
    if ok then none else some 0x32

/-- The instruction does nothing and completes at once (R12, R139, R144, R148). -/
def matEmpty (w b : Nat) : Bool :=
  match wOp w with
  | 1 => wK w == 0 || lCols b == 0
  | 2 => wRows w == 0
  | _ => wRows w == 0 || dCols b == 0

/-- COUNTER rises when COUNT_EN is 1 (R132). -/
def State.matCount (s : State) (g w : Nat) : State := if wCountEn w then s.cinc g (wMatCounter w) 1 else s

/-- Attributes declared by an MWLOAD at issue (R139). -/
def declare (k : Core) (w b : Nat) : Core :=
  (arraysOf (wMask w)).foldl (fun k n =>
    k.setWset n (wWset w) ((k.wset n (wWset w)).declare w b)) k

/-- A matrix instruction executes: it waits for queue entries, is checked, and enters the queues of its arrays (R133, R134). -/
def matEffect (g t : Nat) (s : State) (th : Thread) (w : Nat) : State :=
  let k := s.core g
  if wMask w = 0 then (s.matCount g w).next g t
  else if (arraysOf (wMask w)).any (fun n => decide (8 ≤ (k.queue n).length)) then s.stall g 4
  else
    let cmd := th.s (wCmd w)
    if cmd % 64 ≠ 0 ∨ !inScratch cmd 64 then s.threadFault g t 0x32
    else
      let b := s.readNat (scratchLpa g cmd) 64
      let opnd := th.s (wOpnd w)
      let check := match wOp w with
        | 1 => loadCheck w b opnd
        | 2 => streamCheck k w b opnd
        | _ => drainCheck w b opnd
      match check with
      | some code => s.threadFault g t code
      | none =>
        if matEmpty w b then (s.matCount g w).next g t
        else
          let (seq, s) := s.takeId
          let m : MatInstr := { seq := seq, thread := t, iter := th.iter, step := th.step, mask := BitVec.ofNat 4 (wMask w),
                                word := BitVec.ofNat 64 w, block := BitVec.ofNat 512 b, opnd := opnd,
                                pos := BitVec.ofNat 64 (th.s (wPos w)), started := 0, done := 0, rows := 0, tries := 0 }
          let k := if wOp w = 1 then declare k w b else k
          (s.setCore g { k with matrix := k.matrix ++ [m] }).next g t

/-- Registers of a matrix word. -/
def matKeys (w : Nat) : Regs := ⟨if wMask w = 0 then [] else [wCmd w, wOpnd w, wPos w], []⟩

/-- MWLOAD. -/
def execMwload (core : Fin 384) (thread : Fin 32) (s : State) : Result :=
  s.issueInstr core thread (isOp 8 1) (fun _ => false) matKeys (matEffect core thread)
/-- MSTREAM. -/
def execMstream (core : Fin 384) (thread : Fin 32) (s : State) : Result :=
  s.issueInstr core thread (isOp 8 2) (fun _ => false) matKeys (matEffect core thread)
/-- MDRAIN. -/
def execMdrain (core : Fin 384) (thread : Fin 32) (s : State) : Result :=
  s.issueInstr core thread (isOp 8 3) (fun _ => false) matKeys (matEffect core thread)

/-! ### Progress of the queues (R129, R135) -/

/-- The state with an issued instruction changed. -/
def State.mapMat (s : State) (g seq : Nat) (f : MatInstr → MatInstr) : State :=
  let k := s.core g
  s.setCore g { k with matrix := mapIf (fun m => m.seq == seq) f k.matrix }

/-- The instruction is complete in an array; after the last its counter rises and it leaves the queues (R89, R132). -/
def State.matDone (s : State) (g : Nat) (m : MatInstr) (arrays : BitVec 4) : State :=
  let done := m.done ||| (arrays &&& m.mask)
  if done = m.mask then
    let k := s.core g
    (s.setCore g { k with matrix := k.matrix.filter (fun x => x.seq != m.seq) }).matCount g m.word.toNat
  else s.mapMat g m.seq (fun x => { x with done := done })

/-- Bit n of a mask of arrays. -/
def arrayBit (n : Nat) : BitVec 4 := BitVec.ofNat 4 (2 ^ n)

/-- Window row r is covered by a stream or drain, as its row number. -/
def MatInstr.rowOf (m : MatInstr) (r : Nat) : Option Nat :=
  let i := (r + 256 - m.accRow % 256) % 256
  if i < m.total then some i else none

/-- The oldest MWLOAD of an array's load path (R135). -/
def Core.loadHead (k : Core) (n : Nat) : Option MatInstr := (k.queue n).find? (fun m => m.op == 1)

/-- An MWLOAD may start: every earlier MSTREAM that names its set in the array has broadcast its last row. -/
def Core.loadMay (k : Core) (n : Nat) (m : MatInstr) : Bool :=
  !k.stopped n && !m.started.getLsbD n &&
  (k.queue n).all (fun x => decide (m.seq ≤ x.seq) || x.op != 2 || x.set != m.set || x.rows == x.total)

/-- Instructions of the stream path of an array, oldest first. -/
def Core.streamPath (k : Core) (n : Nat) : List MatInstr := (k.queue n).filter (fun m => m.op != 1)

/-- An MSTREAM may start: first on the bus and on the stream path of its arrays, its weight sets loaded (R129, R135). -/
def Core.streamMay (k : Core) (m : MatInstr) : Bool :=
  k.bus.isNone && m.started == 0 &&
  k.matrix.all (fun x => x.op != 2 || decide (m.seq ≤ x.seq) || x.rows == x.total) &&
  (arraysOf m.mask.toNat).all (fun n =>
    !k.stopped n &&
    (k.streamPath n).all (fun x => decide (m.seq ≤ x.seq) || x.started.getLsbD n) &&
    (k.queue n).all (fun x => decide (m.seq ≤ x.seq) || x.op != 1 || x.set != m.set))

/-- An MSTREAM that a persistent parity fault stopped still holds the bus: no stream path of the core starts anything (R156). -/
def Core.busStuck (k : Core) : Bool := k.faultStop != 0 && k.bus.isSome

/-- An MDRAIN may start in an array: in order on its stream path, no earlier drain unfinished there. -/
def Core.drainMay (k : Core) (n : Nat) (m : MatInstr) : Bool :=
  !k.busStuck && !k.stopped n && !m.started.getLsbD n &&
  (k.streamPath n).all (fun x => decide (m.seq ≤ x.seq) || (x.started.getLsbD n && x.op != 3))

/-- The matrix commands run while the package works and neither a pre-emption nor a halt stops it (R162). -/
def State.arraysRun (s : State) : Bool := s.alive && s.trans.preempt == .running && s.alm.state != .halted

/-- MWLOAD_START. -/
def execMwloadStart (core : Fin 384) (array : Fin 4) (s : State) : Result :=
  match (s.core core).loadHead array with
  | none => .next s
  | some m =>
    when (s.arraysRun && (s.core core).loadMay array m) s
      (s.mapMat core m.seq (fun x => { x with started := x.started ||| arrayBit array }))

/-! ### Loading a weight set (R139, R152, R153) -/

/-- Scale of a column's block; columns beyond COLS hold zeros. -/
def WeightSet.scale (x : WeightSet) (c b : Nat) : Nat := (x.scales.getD c []).getD b 0
/-- Element integers of a column's K-block, all of K for integer types. -/
def WeightSet.ints (x : WeightSet) (c b : Nat) : List Int :=
  let col := x.elems.getD c []
  let n := if isMxType x.elemType then blockSize x.block16 else x.k
  ((col.drop (b * n)).take n).map (elemInt x.elemType)
/-- K-blocks of a set. -/
def WeightSet.blocks (x : WeightSet) : Nat := kBlocks x.elemType x.block16 x.k
/-- Largest scale of a K-block, leaving out 0xFF (R152). -/
def WeightSet.xmaxOf (x : WeightSet) (b : Nat) : Nat :=
  (List.range 128).foldl (fun m c => let v := x.scale c b; if v = 255 then m else max m v) 0
/-- The scale lies within 24 binades of Xmax. -/
def WeightSet.near (x : WeightSet) (c b xm : Nat) : Bool := let v := x.scale c b; v != 255 && decide (xm ≤ v + 24)
/-- Coverage of a column in a K-block (R152). -/
def WeightSet.covers (x : WeightSet) (c b xm : Nat) : Bool :=
  !isMxType x.elemType || x.near c b xm || (x.ints c b).all (· == 0)
/-- Parity weight of a covered column in units of 2^-24. -/
def WeightSet.weight (x : WeightSet) (c b xm : Nat) : Int :=
  if isMxType x.elemType && x.near c b xm then 2 ^ (24 + x.scale c b - xm) else 2 ^ 24

/-- Element k of a list, or zero. -/
def nth (l : List Int) (k : Nat) : Int := l.getD k 0

/-- The parity columns and coverage of a loaded set (R152). -/
def WeightSet.withParity (x : WeightSet) : WeightSet :=
  let bs := List.range x.blocks
  let xm := bs.map (fun b => if isMxType x.elemType then x.xmaxOf b else 0)
  let n := if isMxType x.elemType then blockSize x.block16 else x.k
  let cover := bs.map (fun b => (List.range 128).map (fun c => x.covers c b (xm.getD b 0)))
  let sum := fun (f : Nat → Int) => (bs.map (fun b => (List.range n).map (fun k =>
    (List.range x.elems.length).foldl (fun a c =>
      if (cover.getD b []).getD c true then a + f c * nth (x.ints c b) k * x.weight c b (xm.getD b 0) else a) 0))).flatten
  { x with
    xmax := xm
    covered := cover.map (fun l => BitVec.ofNat 128 (l.zipIdx.foldl (fun m p => if p.1 then m + 2 ^ p.2 else m) 0))
    p0 := sum (fun _ => 1)
    p1 := sum (fun c => (c : Int) + 1) }

/-- The contents that an MWLOAD brings to an array's set. -/
def State.loadSet (s : State) (g n : Nat) (m : MatInstr) : WeightSet :=
  let b := m.block.toNat
  let w := m.word.toNat
  let ty := bType b
  let k := wK w
  let old := (s.core g).wset n (wWset w)
  let cols := List.range (lCols b)
  let bytes := elemBytes ty k
  let elems := cols.map (fun c => unpackBits (typeBits ty) k (s.read (scratchLpa g (m.opnd + n * lArrayStride b + c * bStride b)) bytes))
  let scales := if isMxType ty then
      cols.map (fun c => (s.read (scratchLpa g (lScale b + n * lScaleArray b + c * lScaleCol b)) (k / blockSize (bBlock16 b))).map (fun x => x.toNat))
    else []
  ({ old with elemType := ty, block16 := bBlock16 b, k := k, kBlock := m.pos.toNat % 2 ^ 32,
              outCol := (m.pos.toNat / 2 ^ 32 + n * lColStep b) % 2 ^ 32, elems := elems, scales := scales } : WeightSet).withParity

/-- (column, K-block) pairs that are not covered (R153). -/
def WeightSet.uncovered (x : WeightSet) : Nat :=
  (x.covered.map (fun v => ((List.range 128).filter (fun c => !v.getLsbD c)).length)).sum

/-- An MWLOAD completes in an array. -/
def State.loadComplete (s : State) (g n : Nat) (m : MatInstr) : State :=
  let x := s.loadSet g n m
  let s := s.setCore g ((s.core g).setWset n m.set x)
  (s.dadd 0x2220 (coreDie g + 1) x.uncovered).matDone g m (arrayBit n)

/-- MWLOAD_COMPLETE. -/
def execMwloadComplete (core : Fin 384) (array : Fin 4) (s : State) : Result :=
  match (s.core core).loadHead array with
  | none => .next s
  | some m =>
    when (s.arraysRun && !(s.core core).stopped array && m.started.getLsbD array) s (s.loadComplete core array m)

/-! ### Rows of a stream (R130, R143 to R145, R154 to R157) -/

/-- The MSTREAM that may start and names an array. -/
def Core.streamFor (k : Core) (n : Nat) : Option MatInstr :=
  (k.queue n).find? (fun m => m.op == 2 && m.started == 0)

/-- MSTREAM_START: the stream takes the bus in every array it names. -/
def execMstreamStart (core : Fin 384) (array : Fin 4) (s : State) : Result :=
  match (s.core core).streamFor array with
  | none => .next s
  | some m =>
    let k := s.core core
    when (s.arraysRun && k.streamMay m) s
      (s.setCore core { k with bus := some m.seq, matrix := mapIf (fun x => x.seq == m.seq) (fun x => { x with started := x.mask }) k.matrix })

/-- An activation row: element integers and block scales. -/
structure ActRow where
  ints : List Int
  scales : List Nat
  deriving DecidableEq, Repr

/-- Row i of an MSTREAM as read from scratch for a set of k positions. -/
def State.actRow (s : State) (g : Nat) (m : MatInstr) (i k : Nat) (b16 : Bool) : ActRow :=
  let b := m.block.toNat
  let ty := bType b
  ⟨(unpackBits (typeBits ty) k (s.read (scratchLpa g (m.opnd + i * bStride b)) (elemBytes ty k))).map (elemInt ty),
   if isMxType ty then (s.read (scratchLpa g (sScale b + i * sScaleRow b)) (k / blockSize b16)).map (fun x => x.toNat) else []⟩

/-- The activation integers of K-block b. -/
def ActRow.part (a : ActRow) (x : WeightSet) (b : Nat) : List Int :=
  let n := if isMxType x.elemType then blockSize x.block16 else x.k
  (a.ints.drop (b * n)).take n

/-- Exact sum of products. -/
def dot (a w : List Int) : Int := (List.zipWith (· * ·) a w).sum

/-- Hardware errors of a row: what is added to column c (128 and 129 the parity sums) of K-block b in array n. -/
def upsetOf (u : List (Fin 4 × Fin 130 × Fin 8 × Int)) (n c b : Nat) : Int :=
  (u.map (fun e => if e.1.val = n ∧ e.2.1.val = c ∧ e.2.2.1.val = b then e.2.2.2 else 0)).sum

/-- The block integers of a row in an array: for each K-block, 128 columns (R168). -/
def blockInts (x : WeightSet) (a : ActRow) (u : List (Fin 4 × Fin 130 × Fin 8 × Int)) (n : Nat) : List (List Int) :=
  (List.range x.blocks).map (fun b => (List.range 128).map (fun c => dot (a.part x b) (x.ints c b) + upsetOf u n c b))

/-- E0 and E1 of a K-block (R154, R155). -/
def parityErrors (x : WeightSet) (a : ActRow) (u : List (Fin 4 × Fin 130 × Fin 8 × Int)) (n b : Nat) (sums : List Int) : Int × Int :=
  let cover := x.covered.getD b 0
  let sz := if isMxType x.elemType then blockSize x.block16 else x.k
  let d := fun (f : Nat → Int) => (List.range 128).foldl (fun acc c =>
    if cover.getLsbD c then acc + f c * nth sums c * x.weight c b (x.xmax.getD b 0) else acc) 0
  let q := fun (p : List Int) => dot (a.part x b) ((p.drop (b * sz)).take sz)
  (d (fun _ => 1) - q x.p0 - upsetOf u n 128 b, d (fun c => (c : Int) + 1) - q x.p1 - upsetOf u n 129 b)

/-- Location of a failed block (R155). -/
def location (e0 e1 : Int) : Nat :=
  if e0 ≠ 0 ∧ e1 ≠ 0 then
    (if e1 % e0 = 0 ∧ 1 ≤ e1 / e0 ∧ e1 / e0 ≤ 128 then (e1 / e0).toNat - 1 else 0xFF)
  else if e0 ≠ 0 then 0x80
  else if e1 ≠ 0 then 0x81
  else 0xFF

/-- The block term added to an accumulator element (R113, R169). -/
def blockTerm (ta tw xa xb : Nat) (sum : Int) : Val :=
  if isMxType ta then
    if xa = 255 ∨ xb = 255 then .nan
    else if sum = 0 then .zero
    else .fin (sum < 0) sum.natAbs ((xa : Int) - 127 + (xb : Int) - 127 + unitExp ta + unitExp tw)
  else .ofInt sum

/-- The accumulator elements of a row in an array after its additions (R130, R143). -/
def addRow (s : State) (m : MatInstr) (x : WeightSet) (a : ActRow) (i : Nat) (sums : List (List Int)) (old : List Nat) : List Nat :=
  let b := m.block.toNat
  let w := m.word.toNat
  let ta := bType b
  let mode := if isMxType ta && sRnd b == 2 then RMode.sr else RMode.rne
  let base := if wAccum w then old else List.replicate 128 0
  base.zipIdx.map (fun p =>
    (List.range x.blocks).foldl (fun acc j =>
      let t := blockTerm ta x.elemType (a.scales.getD j 0) (x.scale p.2 j) (nth (sums.getD j []) p.2)
      let u := if mode = .sr then
          srg s.jobSeed (sTensor b) ((m.pos.toNat + i) % 2 ^ 32) ((x.outCol + p.2) % 2 ^ 32)
            ((4 * (x.kBlock + j) + wPass w) % 2 ^ 32) m.step
        else 0
      encodeAq mode u ((decodeAq acc).addAq t)) p.1)

/-- LPA of window row r of array n (R131). -/
def windowLpa (g n r : Nat) : Nat := accLpa g (n * 0x30000 + r * 0x300)
/-- The 128 elements of a window row. -/
def State.windowRow (s : State) (g n r : Nat) : List Nat :=
  let bs := s.read (windowLpa g n r) 768
  (List.range 128).map (fun c => leAt bs (6 * c) 6)

/-- Signed 48-bit saturation (R159). -/
def sat48 (e : Int) : Nat := ofSigned 48 (max (-(2 ^ 47)) (min (2 ^ 47 - 1) e))

/-- DETAIL of 0x40 and 0x41 (R159, R470). -/
def parityDetail (m : MatInstr) (i kblock loc attempt : Nat) (e0 e1 : Int) : Bytes :=
  natLe 4 i ++ natLe 2 ((m.accRow + i) % 256) ++ natLe 4 kblock ++ natLe 1 (wPass m.word.toNat) ++ natLe 1 loc ++
    natLe 1 attempt ++ natLe 1 0 ++ natLe 6 (sat48 e0) ++ natLe 6 (sat48 e1)

/-- A row fails its check: read again, or beyond the limit the stream stops with fault 0x41, a stop request to every named array (R156, R162). -/
def State.rowFails (s : State) (g : Nat) (m : MatInstr) (n kblock loc : Nat) (e0 e1 : Int) : State :=
  let die := coreDie g
  let attempt := m.tries + 1
  let det := parityDetail m m.rows kblock loc attempt e0 e1
  if s.dget 0x2223 0 < attempt then
    let s := (s.dadd 0x2222 (die + 1) 1).dadd 0x2225 (die + 1) (arraysOf m.mask.toNat).length
    let s := if s.inDusk then s else (arraysOf m.mask.toNat).foldl (fun s n => s.countStop (2000 + g * 4 + n)) s
    let k := s.core g
    (s.setCore g { k with faultStop := k.faultStop ||| m.mask }).fatal 0x41 die .array m.step g n det
  else
    let s := s.dadd 0x2221 (die + 1) 1
    let s := s.mapMat g m.seq (fun x => { x with tries := attempt })
    s.record 0x40 0 die .array m.step g n det

/-- A row passes: every named array adds it and writes its window row. -/
def State.rowPasses (s : State) (g : Nat) (m : MatInstr) (rows : List (Nat × WeightSet × ActRow × List (List Int))) : State :=
  let r := (m.accRow + m.rows) % 256
  let s' := rows.foldl (fun t p =>
    let (n, x, a, sums) := p
    if x.k = 0 ∧ wAccum m.word.toNat then t
    else t.store (windowLpa g n r) ((addRow s m x a m.rows sums (s.windowRow g n r)).map (natLe 6)).flatten) s
  let s' := s'.mapMat g m.seq (fun y => { y with rows := y.rows + 1, tries := 0 })
  let k := s'.core g
  if m.total ≤ m.rows + 1 then s'.setCore g { k with bus := none } else s'

/-- One activation row: read, broadcast, checked, added and written, or failed (R130, R145, R154 to R157). -/
def State.streamRow (s : State) (g : Nat) (m : MatInstr) (busErr : Bool) (u : List (Fin 4 × Fin 130 × Fin 8 × Int)) : State :=
  let die := coreDie g
  let s := (s.dadd 0x3001 (die + 1) 1).dadd 0x3002 (die + 1) 1
  let rows := (arraysOf m.mask.toNat).map (fun n =>
    let x := (s.core g).wset n m.set
    let a := s.actRow g m m.rows x.k x.block16
    (n, x, a, blockInts x a u n))
  match busErr, rows with
  | true, (n, x, _, _) :: _ => s.rowFails g m n x.kBlock 0xFE 0 0
  | _, _ =>
    let bad := rows.findSome? (fun p =>
      let (n, x, a, sums) := p
      (List.range x.blocks).findSome? (fun b =>
        let (e0, e1) := parityErrors x a u n b (sums.getD b [])
        if e0 = 0 ∧ e1 = 0 then none else some (n, x.kBlock + b, e0, e1)))
    match bad with
    | some (n, kb, e0, e1) => s.rowFails g m n kb (location e0 e1) e0 e1
    | none => s.rowPasses g m rows

/-- The MSTREAM that holds the bus. -/
def Core.onBus (k : Core) : Option MatInstr := k.bus.bind (fun seq => k.matrix.find? (fun m => m.seq == seq))

/-- The next row may be written: every earlier drain of a named array has read that window row in each of its own arrays, so that a drain that stops can begin its row again (R135, R162). -/
def Core.rowMay (k : Core) (m : MatInstr) : Bool :=
  let r := (m.accRow + m.rows) % 256
  (arraysOf m.mask.toNat).all (fun n =>
    !k.stopped n && (k.queue n).all (fun x => decide (m.seq ≤ x.seq) || x.op != 3 ||
      (match x.rowOf r with
       | some i => decide (i < x.rows / max 1 x.width)
       | none => true)))

/-- MSTREAM_ROW; in a withheld cycle no row is read (R440). -/
def execMstreamRow (core : Fin 384) (busErr : Bool) (upset : List (Fin 4 × Fin 130 × Fin 8 × Int)) (s : State) : Result :=
  match (s.core core).onBus with
  | none => .next s
  | some m => if s.arraysRun && (s.core core).rowMay m then when (!s.withheldNow) s (s.streamRow core m busErr upset) else .next s

/-- The MSTREAM whose rows are all written. -/
def Core.streamed (k : Core) : Option MatInstr := k.matrix.find? (fun m => m.op == 2 && m.started != 0 && m.rows == m.total)

/-- MSTREAM_COMPLETE. -/
def execMstreamComplete (core : Fin 384) (s : State) : Result :=
  match (s.core core).streamed with
  | none => .next s
  | some m => when s.arraysRun s (s.matDone core m m.mask)

/-! ### Steps of a drain (R146 to R151) -/

/-- The MDRAIN of an array's stream path that is next to start, or in progress. -/
def Core.drainFor (k : Core) (n : Nat) (begun : Bool) : Option MatInstr :=
  (k.queue n).find? (fun m => m.op == 3 && m.started.getLsbD n == begun)

/-- MDRAIN_START. -/
def execMdrainStart (core : Fin 384) (array : Fin 4) (s : State) : Result :=
  match (s.core core).drainFor array false with
  | none => .next s
  | some m =>
    when (s.arraysRun && (s.core core).drainMay array m) s
      (s.mapMat core m.seq (fun x => { x with started := x.started ||| arrayBit array }))

/-- An FP32 value at a scratch offset. -/
def State.f32At (s : State) (g o : Nat) : Val := ofF32 (s.readNat (scratchLpa g o) 4)

/-- A scale by its mode: tensor, row, or their product (R110, R148). -/
def State.scaleBy (s : State) (g mode off i tensor : Nat) : Val :=
  match mode with
  | 0 => ofF32 tensor
  | 1 => s.f32At g (off + 4 * i)
  | _ => rndF32 ((s.f32At g (off + 4 * i)).mul (ofF32 tensor))

/-- The exact values of a drain row in an array: the window row, scaled when it holds integer products. -/
def State.drainVals (s : State) (g n i : Nat) (m : MatInstr) : List Val :=
  let b := m.block.toNat
  let vs := ((s.windowRow g n ((m.accRow + i) % 256)).take (dCols b)).map decodeAq
  if dIntProduct b then
    let sa := s.scaleBy g (dAMode b) (dAScale b) i (dATensor b)
    vs.zipIdx.map (fun p => p.1.mul (rndF32 (sa.mul (s.scaleBy g (dWMode b) (dWScale b) (n * dColStep b + p.2) (dWTensor b)))))
  else vs

/-- The SRG draw of drain element (i, column g). -/
def State.drainDraw (s : State) (m : MatInstr) (i col : Nat) : Nat :=
  let p := m.pos.toNat
  srg s.jobSeed (dTensor m.block.toNat) ((p + i) % 2 ^ 32) ((p / 2 ^ 32 + col) % 2 ^ 32) 0xFFFFFFF0 m.step

/-- Observations of one kind, each counted and voted (R214). -/
def State.nonfinites (s : State) (die step src n : Nat) : State := (List.range n).foldl (fun s _ => s.nonfinite die step src) s

/-- A row of a non-MX drain (R148). -/
def State.drainPlain (s : State) (g n i : Nat) (m : MatInstr) (vs : List Val) : State :=
  let b := m.block.toNat
  let ty := bType b
  let mode := (rmodeOf (dRnd b)).getD .rne
  let codes := vs.zipIdx.map (fun p =>
    let col := n * dColStep b + p.2
    (encodeLane ty mode (if dRnd b = 2 then s.drainDraw m i col else 0) p.1, col))
  let bad := (codes.filter (fun c => (decodeLane ty c.1).nonfinite)).length
  let s := codes.foldl (fun s c => s.store (scratchLpa g (m.opnd + i * dStride b + c.2 * outSize ty)) (natLe (outSize ty) c.1)) s
  s.nonfinites (coreDie g) m.step 1 bad

/-- One bit of scratch set or cleared. -/
def State.putBit (s : State) (g o index : Nat) (v : Bool) : State :=
  let a := scratchLpa g (o + index / 8)
  let old := s.readNat a 1
  let k := index % 8
  s.store a (natLe 1 (old - ofBool (bit old k) * 2 ^ k + ofBool v * 2 ^ k))

/-- A block of an MX drain: scale, elements, bitmap bit and status bits (R149). -/
def State.drainBlock (s : State) (g i k : Nat) (m : MatInstr) (f : Fmt) (vs : List (Val × Nat)) : State :=
  let b := m.block.toNat
  let ty := bType b
  let bs := blockSize (dBlock16 b)
  let x := s.readNat (scratchLpa g (dCarry b + k)) 1
  let maskBit := fun (col : Nat) => dMaskEn b && bit (s.readNat (scratchLpa g (dMask b + col / 8)) 1) (col % 8)
  let q := quantBlock f ((rmodeOf (dRnd b)).getD .rne) x
    (vs.map (fun p => (p.1, if dRnd b = 2 then s.drainDraw m i p.2 else 0, maskBit p.2)))
  let s := s.store (scratchLpa g (dOutScale b + i * dOutScaleRow b + k)) (natLe 1 q.scale)
  let s := s.store (scratchLpa g (m.opnd + i * dStride b + k * elemBytes ty bs)) (packBits (typeBits ty) q.codes)
  let s := if dBitmapEn b then s.putBit g (dBitmap b) (i * dBitmapRow b + k) q.overflow else s
  let st := scratchLpa g (dStatus b + k)
  let s := s.store st (natLe 1 (s.readNat st 1 ||| q.status))
  if q.scale = 255 then s.nonfinite (coreDie g) m.step 1 else s

/-- A row of an MX drain. -/
def State.drainMx (s : State) (g n i : Nat) (m : MatInstr) (f : Fmt) (vs : List Val) : State :=
  let b := m.block.toNat
  let bs := blockSize (dBlock16 b)
  let cols := vs.zipIdx.map (fun p => (p.1, n * dColStep b + p.2))
  (chunksOf bs 8 cols).zipIdx.foldl (fun s p => s.drainBlock g i (n * dColStep b / bs + p.2) m f p.1) s

/-- Row maximum and exp-sum (R150). -/
def rowStats (xs : List Val) : Val × Val :=
  let m := match xs with | [] => Val.nan | x :: r => r.foldl valMax x
  if m.isNan || m == .inf false then (m, .nan)
  else if m = .inf true then (m, .zero)
  else (m, xs.foldl (fun e x => rndF32 (e.add (exp32 (rndF32 (x.sub m))))) .zero)

/-- One drain step: row i of array n (R148 to R150). -/
def State.drainStep (s : State) (g n : Nat) (m : MatInstr) : State :=
  let b := m.block.toNat
  let i := m.rows / max 1 m.width
  let vs := s.drainVals g n i m
  let t := match mxFmt (bType b) with
    | some f => s.drainMx g n i m f vs
    | none => s.drainPlain g n i m vs
  let t := if dStatsEn b then
      let st := rowStats (vs.map (fun v => rndF32 (v.mul (ofF32 (dStatScale b)))))
      t.store (scratchLpa g (dStats b + (4 * i + n) * 8)) (natLe 4 (toF32 st.1) ++ natLe 4 (toF32 st.2))
    else t
  t.mapMat g m.seq (fun x => { x with rows := x.rows + 1 })

/-- The next drain step belongs to array n, and every earlier MSTREAM has written its window row (R135, R148). -/
def Core.stepMay (k : Core) (n : Nat) (m : MatInstr) : Bool :=
  let i := m.rows / max 1 m.width
  !k.stopped n && decide (m.rows < m.total * m.width) && (arraysOf m.mask.toNat).getD (m.rows % max 1 m.width) 4 == n &&
  (k.queue n).all (fun x => decide (m.seq ≤ x.seq) || x.op != 2 ||
    (match x.rowOf ((m.accRow + i) % 256) with
     | some j => decide (j < x.rows)
     | none => true))

/-- MDRAIN_STEP; in a withheld cycle no drain step begins (R440). -/
def execMdrainStep (core : Fin 384) (array : Fin 4) (s : State) : Result :=
  match (s.core core).drainFor array true with
  | none => .next s
  | some m => if s.arraysRun && (s.core core).stepMay array m then when (!s.withheldNow) s (s.drainStep core array m) else .next s

/-- MDRAIN_COMPLETE: every step of the drain is done, so that a stop never undoes a row of an array in which it is complete (R162). -/
def execMdrainComplete (core : Fin 384) (array : Fin 4) (s : State) : Result :=
  match (s.core core).drainFor array true with
  | none => .next s
  | some m =>
    when (s.arraysRun && decide (m.total * m.width ≤ m.rows)) s (s.matDone core m (arrayBit array))

end Sys2Proof.Machine
end

