-- ==== Sys2Proof/Machine/UpdateRules.lean ====
section
/-! DEFINITION. The update engine's data (file 09): fields of update list entries and hyperparameter blocks, the checks of an entry, the rule families as exact arithmetic, the products of ORTHO_MOMENTUM and the conversion of working weights. -/
namespace Sys2Proof.Machine

/-! ### Update list entries (R226, R227, R229) -/

/-- KIND. -/
def ueKind (e : Nat) : Nat := field e 1020 4
/-- RULE. -/
def ueRule (e : Nat) : Nat := field e 1016 4
/-- FROZEN. -/
def ueFrozen (e : Nat) : Bool := bit e 1015
/-- NESTEROV. -/
def ueNesterov (e : Nat) : Bool := bit e 1014
/-- GRAD_CLEAR. -/
def ueGradClear (e : Nat) : Bool := bit e 1013
/-- WORK_EN. -/
def ueWorkEn (e : Nat) : Bool := bit e 1012
/-- WORK_TYPE. -/
def ueWorkType (e : Nat) : Nat := field e 1008 4
/-- SPLIT. -/
def ueSplit (e : Nat) : Bool := bit e 1007
/-- Working-weight block size. -/
def ueBlock (e : Nat) : Nat := if bit e 1006 then 16 else 32
/-- WORK_RND. -/
def ueWorkRnd (e : Nat) : Nat := field e 1003 3
/-- GRAD_TYPE. -/
def ueGradType (e : Nat) : Nat := field e 999 4
/-- Bytes of a gradient element. -/
def ueGradSize (e : Nat) : Nat := if ueGradType e = 2 then 8 else 4
/-- NS_ITERS. -/
def ueNsIters (e : Nat) : Nat := field e 995 4
/-- LAYER_ID. -/
def ueLayer (e : Nat) : Nat := field e 960 32
/-- ROWS. -/
def ueRows (e : Nat) : Nat := field e 928 32
/-- COLS. -/
def ueCols (e : Nat) : Nat := field e 896 32
/-- COMMIT_CONJ. -/
def ueConj (e : Nat) : Nat := field e 880 16
/-- HP_PERIOD. -/
def ueHpPeriod (e : Nat) : Nat := field e 864 16
/-- MASTER_ADDR. -/
def ueMaster (e : Nat) : Nat := field e 808 56
/-- M1_ADDR. -/
def ueM1 (e : Nat) : Nat := field e 752 56
/-- M2_ADDR. -/
def ueM2 (e : Nat) : Nat := field e 696 56
/-- GRAD_ADDR. -/
def ueGrad (e : Nat) : Nat := field e 640 56
/-- WORK_ADDR. -/
def ueWork (e : Nat) : Nat := field e 584 56
/-- WORK_SCALE_ADDR. -/
def ueWorkScale (e : Nat) : Nat := field e 528 56
/-- HP_ADDR. -/
def ueHp (e : Nat) : Nat := field e 472 56
/-- RATIO_ADDR. -/
def ueRatio (e : Nat) : Nat := field e 416 56
/-- COMMIT_ADDR. -/
def ueCommit (e : Nat) : Nat := field e 360 56
/-- AUX_ADDR. -/
def ueAux (e : Nat) : Nat := field e 304 56
/-- BANK_OFFSET. -/
def ueBankOffset (e : Nat) : Nat := field e 256 48
/-- AUX_COUNT. -/
def ueAuxCount (e : Nat) : Nat := field e 224 32
/-- TENSOR_ID. -/
def ueTensor (e : Nat) : Nat := field e 192 32
/-- LAZY_ADAM. -/
def ueLazy (e : Nat) : Bool := ueRule e == 5
/-- ORTHO_MOMENTUM. -/
def ueOrtho (e : Nat) : Bool := ueRule e == 4
/-- The rule has a second moment. -/
def ueHasM2 (e : Nat) : Bool := ueRule e == 2 || ueRule e == 5
/-- An MX working type. -/
def ueMx (e : Nat) : Bool := (mxFmt (ueWorkType e)).isSome
/-- Elements of the matrix. -/
def ueSize (e : Nat) : Nat := ueRows e * ueCols e
/-- Chunks of 4,096 elements (R223). -/
def ueChunks (e : Nat) : Nat := (ueSize e + 4095) / 4096
/-- Smaller and larger dimension (R240). -/
def ueP (e : Nat) : Nat := min (ueRows e) (ueCols e)
/-- The larger dimension. -/
def ueQ (e : Nat) : Nat := max (ueRows e) (ueCols e)
/-- Byte offset of a bank (R232). -/
def ueBank (e : Nat) (b : Bool) : Nat := if b then ueBankOffset e else 0

/-- Working-weight fields that break R227 or R231. -/
def ueWorkBad (e : Nat) : Bool :=
  ueWorkEn e && (
    !(ueMx e || ueWorkType e == 1) || !(ueWorkRnd e == 0 || ueWorkRnd e == 2) ||
    (ueSplit e && !(ueWorkType e == 3 && ueWorkRnd e == 0)) ||
    (ueMx e && ueCols e % ueBlock e != 0) || ueWork e == 0 || (ueMx e && ueWorkScale e == 0))

/-- A workspace that breaks R241. -/
def ueSpaceBad (e : Nat) : Bool :=
  decide (16384 < ueP e) || decide (ueAuxCount e * 65536 < 12 * ueP e * (ueP e + ueQ e) + 8 * ueChunks e)

/-- A PARAMETER entry that breaks R10, R226, R227 or R231 by its own fields. -/
def ueParameterBad (e : Nat) : Bool :=
  field e 992 3 != 0 || field e 0 192 != 0 || ueRule e == 0 || decide (5 < ueRule e) || ueWorkBad e ||
  !(ueGradType e == 0 || ueGradType e == 2) || (ueOrtho e && (ueNsIters e == 0 || ueSpaceBad e)) || ueHpPeriod e == 0 ||
  ueMaster e == 0 || ueM1 e == 0 || (ueHasM2 e && ueM2 e == 0) || ueGrad e == 0 || ueHp e == 0 || ueRatio e == 0 ||
  ueRatio e % 32 != 0 || ueCommit e == 0 || ((ueLazy e || ueOrtho e) && ueAux e == 0) ||
  ueBankOffset e == 0 || ueBankOffset e % 64 != 0

/-- A REPUBLISH entry that breaks R10, R226 or R231. -/
def ueRepublishBad (e : Nat) : Bool :=
  field e 992 3 != 0 || field e 0 192 != 0 || ueRule e == 0 || decide (5 < ueRule e) || ueWorkBad e || ueConj e != 0 ||
  ueMaster e == 0 || ueCommit e == 0 || ueBankOffset e == 0 || ueBankOffset e % 64 != 0

/-! ### Scale tables (R206, R229) -/

/-- SCALE_ADDR. -/
def stScale (e : Nat) : Nat := field e 200 56
/-- STATUS_ADDR. -/
def stStatus (e : Nat) : Nat := field e 144 56
/-- QUIET_ADDR. -/
def stQuiet (e : Nat) : Nat := field e 88 56
/-- STATS_ADDR. -/
def stStats (e : Nat) : Nat := field e 32 56
/-- BLOCK_COUNT. -/
def stBlocks (e : Nat) : Nat := field e 16 16
/-- STATUS_COPIES. -/
def stCopies (e : Nat) : Nat := field e 8 8

/-- A SCALE_SWEEP entry that breaks R10, R206 or R229. -/
def ueSweepBad (e : Nat) : Bool :=
  field e 896 124 != 0 || field e 256 624 != 0 || field e 0 8 != 0 || stCopies e == 0 ||
  (stBlocks e != 0 && (stScale e == 0 || stStatus e == 0 || stQuiet e == 0 || stQuiet e % 2 != 0 || stStats e % 32 != 0))

/-- An entry malformed by its own fields (R226, R231). -/
def ueBad (e : Nat) : Bool :=
  match ueKind e with
  | 1 => ueParameterBad e
  | 2 => ueSweepBad e
  | 3 => ueRepublishBad e
  | _ => true

/-! ### Hyperparameters (R230) -/

/-- An FP32 value of the hyperparameter block, counted from the top: 0 LR, 1 BETA1, 2 BETA2, 3 EPS, 4 WEIGHT_DECAY, 5 GRAD_SCALE, 6 BIAS_C1, 7 BIAS_C2, 8 NS_A, 9 NS_B, 10 NS_C, 11 ORTHO_GAIN. -/
def hpVal (h n : Nat) : Val := ofF32 (field h (480 - 32 * n) 32)

/-! ### The rules (R238, R239, R242) -/

/-- One FP32 product, sum, or multiply-add, rounded by RNE (R238). -/
def mul32 (a b : Val) : Val := rndF32 (a.mul b)
/-- FP32 sum. -/
def add32 (a b : Val) : Val := rndF32 (a.add b)
/-- FP32 multiply-add, rounded once. -/
def fma32 (a b c : Val) : Val := rndF32 ((a.mul b).add c)
/-- One less a value. -/
def omb (b : Val) : Val := rndF32 ((Val.ofInt 1).sub b)

/-- What a rule makes of an element: direction, first moment and second moment. -/
structure RuleOut where
  u : Val
  m1 : Val
  v1 : Val
  deriving DecidableEq, Repr

/-- The direction and moments of an elementwise rule (R239); LAZY_ADAM applies ADAM_DECOUPLED (R242). -/
def ruleStep (rule : Nat) (nesterov : Bool) (h : Nat) (g m v : Val) : RuleOut :=
  let b1 := hpVal h 1
  let b2 := hpVal h 2
  match rule with
  | 2 | 5 =>
    let m1 := fma32 b1 m (mul32 (omb b1) g)
    let v1 := fma32 b2 v (mul32 (omb b2) (mul32 g g))
    let mh := mul32 m1 (hpVal h 6)
    let vh := mul32 v1 (hpVal h 7)
    let sq := if vh.isZero then Val.zero else mul32 vh (rndF32 (rsqrtVal vh))
    ⟨mul32 mh (rndF32 (rcpVal (add32 sq (hpVal h 3)))), m1, v1⟩
  | 3 =>
    let t := fma32 b1 m (mul32 (omb b1) g)
    let u := if t.isNan then t else if t.isZero then Val.zero else Val.ofInt (if t.neg? then -1 else 1)
    ⟨u, fma32 b2 m (mul32 (omb b2) g), v⟩
  | _ =>
    let m1 := fma32 b1 m g
    ⟨if nesterov then fma32 b1 m1 g else m1, m1, v⟩

/-- A vector operation of the engine: its operands and its result. -/
abbrev VectorOp := List Val × Val
/-- Invalid operations among those given: a NaN from operands of which none is NaN (R218). -/
def invalidOps (l : List VectorOp) : Nat := (l.filter (fun o => o.2.isNan && !o.1.any Val.isNan)).length

/-- The vector operations of `ruleStep`, in its order. -/
def ruleOps (rule : Nat) (nesterov : Bool) (h : Nat) (g m v : Val) : List VectorOp :=
  let b1 := hpVal h 1
  let b2 := hpVal h 2
  let r := ruleStep rule nesterov h g m v
  let mul := fun (a b : Val) => (([a, b], mul32 a b) : VectorOp)
  let fma := fun (a b c : Val) => (([a, b, c], fma32 a b c) : VectorOp)
  match rule with
  | 2 | 5 =>
    let g1 := mul (omb b1) g
    let gg := mul g g
    let g2 := mul (omb b2) gg.2
    let mh := mul r.m1 (hpVal h 6)
    let vh := mul r.v1 (hpVal h 7)
    let rs : VectorOp := ([vh.2], rndF32 (rsqrtVal vh.2))
    let sq := if vh.2.isZero then ([], Val.zero) else mul vh.2 rs.2
    let den : VectorOp := ([sq.2, hpVal h 3], add32 sq.2 (hpVal h 3))
    let rc : VectorOp := ([den.2], rndF32 (rcpVal den.2))
    [g1, fma b1 m g1.2, gg, g2, fma b2 v g2.2, mh, vh] ++ (if vh.2.isZero then [] else [rs, sq]) ++ [den, rc, mul mh.2 rc.2]
  | 3 =>
    let g1 := mul (omb b1) g
    let g2 := mul (omb b2) g
    [g1, fma b1 m g1.2, g2, fma b2 m g2.2]
  | _ => fma b1 m g :: (if nesterov then [fma b1 r.m1 g] else [])

/-- The gradient element a rule uses (R238). -/
def gradVal (h : Nat) (stored : Val) : Val := mul32 (rndF32 stored) (hpVal h 5)

/-- The new weight (R239, R240). -/
def newWeight (h : Nat) (u w : Val) : Val :=
  fma32 (hpVal h 0).negate (add32 u (mul32 (hpVal h 4) w)) w

/-- The vector operations of the new weight. -/
def weightOps (h : Nat) (u w : Val) : List VectorOp :=
  let dw := mul32 (hpVal h 4) w
  let d := add32 u dw
  [([hpVal h 4, w], dw), ([u, dw], d), ([(hpVal h 0).negate, d, w], newWeight h u w)]

/-- The new weight of ORTHO_MOMENTUM (R240). -/
def orthoWeight (h : Nat) (x w : Val) : Val :=
  fma32 (hpVal h 0).negate (fma32 (hpVal h 11) x (mul32 (hpVal h 4) w)) w
/-- The vector operations of the new weight of ORTHO_MOMENTUM. -/
def orthoOps (h : Nat) (x w : Val) : List VectorOp :=
  let dw := mul32 (hpVal h 4) w
  let d := fma32 (hpVal h 11) x dw
  [([hpVal h 4, w], dw), ([hpVal h 11, x, dw], d), ([(hpVal h 0).negate, d, w], orthoWeight h x w)]

/-- A square added to an AQ48 sum (R219). -/
def addSquare (acc : Nat) (x : Val) : Nat := encodeAq .rne 0 ((decodeAq acc).addAq (rndAq (x.mul x)))

/-- The vector operations of a chunk's sums: each difference of weights, and each square added to U and W (R219). -/
def sumOps (u w : Nat) : List (Val × Val) → List VectorOp
  | [] => []
  | (new, old) :: t =>
    let d := rndF32 (new.sub old)
    let step := fun (acc : Nat) (x : Val) => (([decodeAq acc, x], decodeAq (addSquare acc x)) : VectorOp)
    ([new, old], d) :: step u d :: step w old :: sumOps (addSquare u d) (addSquare w old) t

/-- pow of R242: `fuel` bounds the bits of n. -/
def pow32 : Nat → Val → Nat → Val → Val
  | 0, _, _, r => r
  | fuel + 1, x, n, r =>
    if n = 0 then r else pow32 fuel (mul32 x x) (n / 2) (if n % 2 = 1 then mul32 r x else r)

/-- x to the power n (R242). -/
def lazyPow (x : Val) (n : Nat) : Val := pow32 33 x n (Val.ofInt 1)

/-! ### The products of ORTHO_MOMENTUM (R160, R199, R240) -/

/-- Row i of a matrix of `cols` columns. -/
def matRow (m : List Nat) (cols i : Nat) : List Nat := (m.drop (i * cols)).take cols
/-- Column j of a matrix of `rows` rows. -/
def matCol (m : List Nat) (rows cols j : Nat) : List Nat := (List.range rows).map (fun i => m.getD (i * cols + j) 0)
/-- The transpose of a matrix of rows × cols. -/
def transpose (m : List Nat) (rows cols : Nat) : List Nat :=
  ((List.range cols).map (fun j => matCol m rows cols j)).flatten

/-- One block of 32 positions along K in two planes: element integers and scale of each (R199). -/
structure PlaneBlock where
  hi : List Int
  lo : List Int
  xh : Nat
  xl : Nat
  deriving DecidableEq, Repr

/-- A vector of FP32 codes split along K, the last block filled with zeros. -/
def planesOf (row : List Nat) : List PlaneBlock :=
  (chunksOf 32 (row.length / 32 + 1) row).map (fun b =>
    let (hi, lo, xh, xl) := splitBlock ((b ++ List.replicate (32 - b.length) 0).map ofF32)
    ⟨hi.map (mxInt e2m3), lo.map (mxInt e2m3), xh, xl⟩)

/-- One pass over a K tile of two blocks: block terms added in order by RNE (R160). -/
def passTile (acc : Nat) (ps : List ((List Int × Nat) × (List Int × Nat))) : Nat :=
  ps.foldl (fun acc p => encodeAq .rne 0 ((decodeAq acc).addAq (blockTerm 3 3 p.1.2 p.2.2 (dot p.1.1 p.2.1)))) acc

/-- Output element of a two-plane product: K tiles ascending, in each hi·hi, lo·hi and hi·lo with the activation plane first (R160), then rounded by RNE to FP32 (R240). -/
def productElem (act wt : List PlaneBlock) : Nat :=
  let tiles := chunksOf 2 (act.length + 1) (act.zip wt)
  toF32 (decodeAq (tiles.foldl (fun acc t =>
    let acc := passTile acc (t.map (fun p => ((p.1.hi, p.1.xh), (p.2.hi, p.2.xh))))
    let acc := passTile acc (t.map (fun p => ((p.1.lo, p.1.xl), (p.2.hi, p.2.xh))))
    passTile acc (t.map (fun p => ((p.1.hi, p.1.xh), (p.2.lo, p.2.xl))))) 0))

/-- Rows and columns of a product of ORTHO_MOMENTUM: X·Xᵀ and A·A are p × p, B·X is p × q. -/
def productCols (e product : Nat) : Nat := if product = 2 then ueQ e else ueP e
/-- Tiles across a product of that many columns. -/
def tilesAcross (cols : Nat) : Nat := (cols + 127) / 128
/-- Tiles of a product: 256 rows by 128 columns, row-major tile order. -/
def productTiles (e product : Nat) : Nat := ((ueP e + 255) / 256) * tilesAcross (productCols e product)

/-- The elements of tile t of a product: activation rows of the left operand, weight columns of the right. X is mx, A or B is ma. -/
def productTile (e product : Nat) (mx ma : List Nat) (t : Nat) : List Nat :=
  let p := ueP e
  let q := ueQ e
  let cols := productCols e product
  let r0 := t / tilesAcross cols * 256
  let c0 := t % tilesAcross cols * 128
  let act := fun (i : Nat) => planesOf (if product = 0 then matRow mx q i else matRow ma p i)
  let wt := fun (j : Nat) => planesOf (match product with
    | 0 => matRow mx q j
    | 1 => matCol ma p p j
    | _ => matCol mx p q j)
  let ws := (rangeFrom c0 (min cols (c0 + 128))).map wt
  ((rangeFrom r0 (min p (r0 + 256))).map (fun i => let a := act i; ws.map (fun w => productElem a w))).flatten

/-- A product put together from its tiles. -/
def assemble (e product : Nat) (tiles : List (List Nat)) : List Nat :=
  let cols := productCols e product
  let n := tilesAcross cols
  ((List.range (ueP e)).map (fun i => (List.range cols).map (fun j =>
    ((tiles.getD (i / 256 * n + j / 128) []).getD (i % 256 * min 128 (cols - j / 128 * 128) + j % 128) 0)))).flatten

/-- Elementwise FP32 combination of two matrices. -/
def zipF32 (f : Val → Val → Val) (a b : List Nat) : List Nat := List.zipWith (fun x y => toF32 (f (ofF32 x) (ofF32 y))) a b

/-! ### Working weights (R243) -/

/-- One row of working weights: element bytes and scale bytes of the single or high plane, and of the low plane. -/
structure WorkRow where
  hi : Bytes
  sh : Bytes
  lo : Bytes
  sl : Bytes
  deriving DecidableEq, Repr

/-- The conversion of a row of FP32 codes; `draw` is the SRG draw of a column. -/
def workRow (e : Nat) (row : List Nat) (draw : Nat → Nat) : WorkRow :=
  let mode := (rmodeOf (ueWorkRnd e)).getD .rne
  let u := fun c => if mode = .sr then draw c else 0
  match mxFmt (ueWorkType e) with
  | none => ⟨(row.zipIdx.map (fun p => natLe 2 (encodeFp bf16 mode (u p.2) (ofF32 p.1)))).flatten, [], [], []⟩
  | some f =>
    let blocks := chunksOf (ueBlock e) (row.length + 1) (row.zipIdx.map (fun p => (ofF32 p.1, u p.2, false)))
    let w := typeBits (ueWorkType e)
    if ueSplit e then
      let sp := blocks.map (fun b => splitBlock (b.map (fun x => x.1)))
      ⟨packBits w (sp.map (fun x => x.1)).flatten, sp.map (fun x => BitVec.ofNat 8 x.2.2.1),
        packBits w (sp.map (fun x => x.2.1)).flatten, sp.map (fun x => BitVec.ofNat 8 x.2.2.2)⟩
    else
      let qs := blocks.map (fun b => quantBlock f mode (vscale f 0 (amax (b.map (fun x => x.1)))) b)
      ⟨packBits w (qs.map (fun x => x.codes)).flatten, qs.map (fun x => BitVec.ofNat 8 x.scale), [], []⟩

/-- Bytes of a row of working weights. -/
def workStride (e : Nat) : Nat := ueCols e * typeBits (ueWorkType e) / 8

/-! ### The ratio (R219, R220) -/

/-- The ratio of U and W as an FP32 code (R219). -/
def ratioCode (u w : Nat) : Nat :=
  match decodeAq u, decodeAq w with
  | .fin _ mu eu, .fin _ mw ew =>
    if mw = 0 then (if mu = 0 then 0 else toF32 (.inf false))
    else if mu = 0 then 0
    else toF32 (sqrtRatio mu eu mw ew)
  | _, _ => toF32 .nan

/-- HIGH and LOW of a ratio against UWR_HIGH and UWR_LOW (R220). -/
def ratioHigh (ratio high : Nat) : Bool := (ofF32 ratio).isNan || (ofF32 high).lt (ofF32 ratio)
/-- LOW. -/
def ratioLow (ratio low : Nat) : Bool := (ofF32 ratio).lt (ofF32 low)

/-- The 32 bytes of the ratio record (R220). -/
def ratioBytes (step layer u w ratio : Nat) (high low : Bool) : Bytes :=
  natLe 32 (step % 2 ^ 32 * 2 ^ 224 + layer * 2 ^ 192 + u * 2 ^ 144 + w * 2 ^ 96 + ratio * 2 ^ 64 + 2 * ofBool high + ofBool low)

/-! ### The scale sweep (R207, R210) -/

/-- What the sweep does with one block: carried scale, quiet count, and the counts DOUBLED, AT_LIMIT, HALVED, MASKED, NAN_SCALE, NO_HEADROOM it raises. -/
def sweepBlock (halveAfter : Nat) (skipped : Bool) (st x q : Nat) : Nat × Nat × List Nat :=
  let masked := ofBool (bit st 2)
  if x = 255 then (x, q, [0, 0, 0, masked, 1, 0])
  else if bit st 0 then
    if x < 254 then (x + 1, 0, [1, 0, 0, masked, 0, 0]) else (x, 0, [0, 1, 0, masked, 0, 0])
  else if skipped then (x, q, [0, 0, 0, masked, 0, 0])
  else if bit st 1 then (x, 0, [0, 0, 0, masked, 0, 1])
  else
    let q := min (q + 1) 65535
    if halveAfter ≠ 0 ∧ halveAfter ≤ q ∧ 0 < x then (x - 1, 0, [0, 0, 1, masked, 0, 0]) else (x, q, [0, 0, 0, masked, 0, 0])

/-- The 32 bytes of the sweep record (R210), counts in the order of `sweepBlock`. -/
def sweepBytes (step : Nat) (counts : List Nat) (skipped : Bool) : Bytes :=
  let c := fun n => counts.getD n 0 % 2 ^ 32
  natLe 32 (step % 2 ^ 32 * 2 ^ 224 + c 0 * 2 ^ 192 + c 1 * 2 ^ 160 + c 2 * 2 ^ 128 + c 3 * 2 ^ 96 + c 4 * 2 ^ 64 + c 5 * 2 ^ 32 + ofBool skipped)

end Sys2Proof.Machine
end

