-- ==== Sys2Proof/Machine/Update.lean ====
section
/-! DEFINITION. The update engine (file 09): jobs and their entries, compute phases, pending records, commits at a conjunction and follow-on work. -/
namespace Sys2Proof.Machine

/-! ### Jobs -/

/-- The update job of an action. -/
def State.updJob (s : State) (id : Nat) : Option UpdJob := s.upd.jobs.find? (fun j => j.id == id)
/-- The state with a job replaced. -/
def State.setJob (s : State) (j : UpdJob) : State :=
  { s with upd := { s.upd with jobs := mapIf (fun x => x.id == j.id) (fun _ => j) s.upd.jobs } }
/-- The engine works: not stopped, and the Almanac not halted (R69, R249). -/
def State.updMay (s : State) : Bool := s.alive && s.trans.preempt == .running && s.alm.state != .halted
/-- The job may do its next unit of work. -/
def State.jobMay (s : State) (j : UpdJob) : Bool := s.updMay && !j.parked
/-- A unit of work of a job in its turn; in a withheld cycle the engine issues nothing (R440). -/
def State.jobTurn (s : State) (j : UpdJob) (ok : Bool) (t : State) : Result :=
  if s.jobMay j && ok then when (!s.withheldNow) s t else .next s

/-- Core that handles a chunk: round-robin (R223). -/
def UpdJob.coreOf (j : UpdJob) (n : Nat) : Nat := j.cores.getD (n % max 1 j.cores.length) 0

/-- DETAIL of 0x60 to 0x63 (R470). -/
def UpdJob.detail (j : UpdJob) : Bytes := natLe 4 j.step ++ natLe 4 (ueLayer j.desc.toNat) ++ natLe 4 j.pos

/-- A fatal fault of the engine: the UPDATE_JOB never completes (R231). -/
def State.jobFault (s : State) (j : UpdJob) (code : Nat) : State :=
  (s.fatal code j.die .update j.step (j.coreOf 0) 0xFFFF j.detail).dropJob j.id

/-- The staging rows of the named cores hold nothing defined (R224). -/
def State.forgetStaging (s : State) (cores : List Nat) : State :=
  cores.foldl (fun s g =>
    let (tag, s) := s.takeId
    { s with mem := s.mem.forget (scratchLpa g 0x2C0000) 0x40000 tag }) s

/-- Arrays of the named cores after an ORTHO_MOMENTUM job: every set K = 0, every window element +0 (R225). -/
def State.clearArrays (s : State) (cores : List Nat) : State :=
  cores.foldl (fun s g =>
    let s := s.setCore g { s.core g with sets := [] }
    { s with mem := s.mem.clear (accLpa g 0) 0xC0000 }) s

/-- The job is complete once every entry has retired and every remote write is acknowledged (R60). -/
def State.finishJob (s : State) (id : Nat) : State :=
  match s.updJob id with
  | none => s
  | some j =>
    if j.left = 0 ∧ !s.trans.reqs.any (fun r => r.agent == Agent.update id) ∧ !s.upd.waiting.any (fun r => r.agent == Agent.update id) then
      let s := (s.dropJob id).forgetStaging j.cores
      (if j.ortho then s.clearArrays j.cores else s).completeAction id
    else s

/-- An entry of the job retires. -/
def State.retireEntry (s : State) (id : Nat) : State :=
  match s.updJob id with
  | none => s
  | some j => (s.setJob { j with left := j.left - 1 }).finishJob id

/-- The next entry of the list becomes the one to reach. -/
def UpdJob.onward (j : UpdJob) : UpdJob :=
  { j with pos := j.pos + 1, phase := .idle, next := 0, ns := 0, product := 0, rows := [], list := [], u := 0, w := 0,
           mx := [], ma := [], mo := [] }

/-! ### Units of work: translation, reading and writing (R224, R296) -/

/-- A range that a unit of work touches: VA, length, whether it is written, whether it is read. -/
structure Span where
  va : Nat
  len : Nat
  write : Bool
  read : Bool
  deriving DecidableEq, Repr

/-- Translated pieces: (VA, length, target, MEM_ATTR). -/
abbrev Pieces := List (Nat × Nat × Target × Nat)

/-- What the engine's access needs. -/
def UpdJob.ctx (j : UpdJob) (va : Nat) (write : Bool) : XCtx := ⟨j.asid, va, if write then 1 else 0, false, none, j.die⟩

/-- Every span translated in order, walked as needed, one that is read and written first for its read; the first failure with its VA and whether it was a write. -/
def State.translateSpans (ctx : Nat → Bool → XCtx) : List Span → State → State × Except (Nat × Bool × Xlate) (List Pieces)
  | [], s => (s, .ok [])
  | sp :: rest, s =>
    match State.translateRange (ctx sp.va false) (if sp.write && sp.read then vaPieces sp.va sp.len else []) s with
    | (s, .error (va, x)) => (s, .error (va, false, x))
    | (s, .ok _) =>
      match State.translateRange (ctx sp.va sp.write) (vaPieces sp.va sp.len) s with
      | (s, .error (va, x)) => (s, .error (va, sp.write, x))
      | (s, .ok ps) =>
        match State.translateSpans ctx rest s with
        | (s, .ok l) => (s, .ok (ps :: l))
        | (s, .error e) => (s, .error e)

/-- What spans give an engine: the bytes read of each span and the pieces of each span; or the translation that fails, with its VA and whether it was a write; or poison read; or reads still to be answered. -/
inductive SpanData where
  | ready (bytes : List Bytes) (pieces : List Pieces)
  | fails (va : Nat) (write : Bool) (x : Xlate)
  | poison (lpa : Nat)
  | waits

/-- The work of an engine over spans: every address is translated before anything is read (R296), then the spans that are read are read. -/
def State.spanData (s : State) (ctx : Nat → Bool → XCtx) (a : Agent) (die step asid : Nat) (pos : Nat × Nat × Nat) (spans : List Span) : State × SpanData :=
  match State.translateSpans ctx spans s with
  | (s, .error (va, w, x)) => (s, .fails va w x)
  | (s, .ok pss) =>
    let reads := (spans.zip pss).map (fun p => if p.1.read then p.2 else [])
    match s.fetchPieces a die step asid pos reads.flatten with
    | (s, .waits) => (s, .waits)
    | (s, .poison lpa) => (s, .poison lpa)
    | (s, .bytes bs) =>
      let cut := reads.foldl (fun (acc : List Bytes × Bytes) ps =>
        let n := (ps.map (fun p => p.2.1)).sum
        (acc.1 ++ [acc.2.take n], acc.2.drop n)) ([], bs)
      (s, .ready cut.1 pss)

/-- The engine's reads that have served. -/
def State.dropLoads (s : State) (a : Agent) : State :=
  { s with trans := { s.trans with reqs := s.trans.reqs.filter (fun r => !(r.agent == a && r.kind == .load)) } }

/-- The job parks at a unit of work (R296, R297). -/
def State.parkJob (s : State) (j : UpdJob) (kind level va : Nat) (write : Bool) (unit : Nat) : State :=
  s.parkAgent ⟨.update j.id, kind, level, j.asid, va, if write then 1 else 0, 4, j.die, 0, j.coreOf unit, unit, j.step, 0, 0⟩

/-- The engine's work waits while writes of the job wait for the tracking share, so that its reads come after them (R224, R289). -/
def State.writesWait (s : State) (id : Nat) : Bool := s.upd.waiting.any (fun r => r.agent == Agent.update id)

/-- The spans of a unit of work of a job. -/
def State.unitData (s : State) (j : UpdJob) (unit : Nat) (spans : List Span) : State × SpanData :=
  s.spanData j.ctx (.update j.id) j.die j.step j.asid (unit, j.pos, 0) spans
/-- A unit of work, which `k` applies to the bytes read of each span and the pieces of each span. Reads of other packages that have served are kept until the whole unit is done. -/
def State.unitWork (s : State) (j : UpdJob) (unit : Nat) (spans : List Span) (k : State → List Bytes → List Pieces → State) : State :=
  let g := j.coreOf unit
  if s.writesWait j.id then s
  else match s.unitData j unit spans with
  | (s, .fails va w (.park kind level)) => s.parkJob j kind level va w unit
  | (s, .fails va _ (.fault code)) => (s.xFault code j.die j.step g 0xFFFF j.asid va 4).dropJob j.id
  | (s, .fails _ _ (.poison lpa)) | (s, .poison lpa) => (s.memoryPoison lpa .update j.die j.step g 0xFFFF).dropJob j.id
  | (s, .fails _ _ _) | (s, .waits) => s
  | (s, .ready bss pss) => k s bss pss

/-- Bytes written at a target: applied at the slice of this package, or sent to the owner once the engine's share has an entry (R224, R289). -/
def State.writeTarget (s : State) (j : UpdJob) (g va : Nat) (t : Target) (alloc : Bool) (bs : Bytes) : State :=
  let r := engineReq (.update j.id) j.die .store t bs.length bs alloc j.step j.asid va (j.next, j.pos, 0)
  match t with
  | .here a => (s.arriveWrite j.die a bs alloc .update g 0xFFFF j.step).noteOne j.die
  | _ =>
    if bs = [] then s
    else if s.upd.waiting = [] && s.canTrack r.agent j.die 1 then (s.issue r false).1
    else { s with upd := { s.upd with waiting := s.upd.waiting ++ [r] } }

/-- The waiting writes go out, oldest first, as far as each die's share allows; `fuel` bounds them. -/
def State.sendWaiting : Nat → State → State
  | 0, s => s
  | fuel + 1, s =>
    match s.upd.waiting.find? (fun r => s.canTrack r.agent r.die 1) with
    | some r => State.sendWaiting fuel (({ s with upd := { s.upd with waiting := s.upd.waiting.erase r } } : State).issue r false).1
    | none => s

/-- Bytes written over translated pieces. -/
def State.writePieces (s : State) (j : UpdJob) (g : Nat) (ps : Pieces) (bs : Bytes) : State :=
  (ps.foldl (fun (acc : State × Bytes) p =>
    (acc.1.writeTarget j g p.1 p.2.2.1 (bit p.2.2.2 0) (acc.2.take p.2.1), acc.2.drop p.2.1)) (s, bs)).1

/-- Item n of a list of byte strings. -/
def nthBytes (l : List Bytes) (n : Nat) : Bytes := l.getD n []
/-- Item n of a list of pieces. -/
def nthPieces (l : List Pieces) (n : Nat) : Pieces := l.getD n []
/-- The FP32 codes in bytes. -/
def codes32 (bs : Bytes) : List Nat := (chunksOf 4 (bs.length / 4 + 1) bs).map leNat
/-- Bytes of FP32 codes. -/
def bytes32 (cs : List Nat) : Bytes := (cs.map (natLe 4)).flatten

/-! ### UPDATE_ENTRY (R226, R231, R233, R236, R245) -/

/-- The list's LAYER_ID is frozen (R245, R246). -/
def State.frozen (s : State) (e : Nat) : Bool :=
  ueFrozen e || (List.range (s.dget 0x2401 0)).any (fun n => s.dget 0x2401 (n + 1) == ueLayer e)

/-- Target CONJ_INDEX of a job with COMMIT_CONJ c, in the Almanac that fired it (R233). -/
def UpdJob.target (j : UpdJob) (c : Nat) : Nat :=
  match j.hdr with
  | some h => j.iter * h.epochCount + c
  | none => 0

/-- An entry that R226 or R231 refuses: malformed, unlike the list's first, beyond the final conjunction, or too late for its transit's SLOT. -/
def State.entryBad (s : State) (j : UpdJob) (e : Nat) : Bool :=
  ueBad e || decide (j.base % 128 ≠ 0) ||
  (match j.conj with
    | some (c, re) => c != ueConj e || re != (ueKind e == 3)
    | none => false) ||
  (ueKind e != 3 && (decide (j.step % 2 ^ 32 = 0xFFFFFFFF) ||
    (match j.hdr, s.action j.id with
      | some h, some a => decide (h.iterations * h.epochCount < j.target (ueConj e)) || decide (ueConj e * h.epochSlots ≤ a.transit.slot)
      | _, _ => false)))

/-- The entry in hand becomes a pending record (R233). -/
def State.pend (s : State) (j : UpdJob) (nothing empty : Bool) (u w : Nat) : State :=
  let r : PendRec := ⟨j.id, j.die, j.pos, j.step, j.target (ueConj j.desc.toNat), false, j.desc, nothing, empty, j.rows, u, w⟩
  ({ s with upd := { s.upd with records := s.upd.records ++ [r] } } : State).setJob j.onward

/-- The refusal of a frozen entry (R245): counted, logged once for its LAYER_ID, and its gradient cleared when GRAD_CLEAR asks. -/
def State.refuseFrozen (s : State) (j : UpdJob) (ps : Pieces) : State :=
  let s := s.dropLoads (.update j.id)
  let e := j.desc.toNat
  let n := (ps.map (fun p => p.2.1)).sum
  let s := (s.writePieces j (j.coreOf 0) ps (List.replicate n 0)).dadd 0x3401 (j.die + 1) 1
  let s := if BitVec.ofNat 32 (ueLayer e) ∈ s.upd.frozenLogged then s
    else
      let s := s.record 0x60 0 j.die .update j.step (j.coreOf 0) 0xFFFF j.detail
      { s with upd := { s.upd with frozenLogged := s.upd.frozenLogged ++ [BitVec.ofNat 32 (ueLayer e)] } }
  s.pend j true false 0 0

/-- Elements of the gradient: LAZY_ADAM holds only the listed rows (R242). -/
def gradCount (e : Nat) : Nat := if ueLazy e then ueAuxCount e * ueCols e else ueSize e

/-- A commit word as it is read. -/
def rowOf (row : Nat) (ps : Pieces) (bs : Bytes) : UpdRow :=
  match ps with
  | (_, _, t, a) :: _ => ⟨row, t, bit a 0, leAt bs 4 4, bit (leAt bs 0 4) 0⟩
  | [] => ⟨row, .here 0, false, leAt bs 4 4, bit (leAt bs 0 4) 0⟩

/-- A commit word or row record whose reserved bits are not zero (R10, R232). -/
def wordBad (bs : Bytes) : Bool := field (leAt bs 0 4) 2 30 != 0

/-- The rows of a list up to the first that is not below ROWS or does not rise (R242). -/
def goodRows (rows : Nat) : Option Nat → List Nat → List Nat
  | _, [] => []
  | prev, r :: t => if decide (r < rows) && (match prev with | some p => decide (p < r) | none => true) then r :: goodRows rows (some r) t else []

/-- The stage in which an entry's compute phase begins. -/
def firstPhase (e : Nat) : UpdPhase := if ueLazy e then .rows else .chunk

/-- The commit word or row records, the row list and the hyperparameter block are read (R230, R233, R236): an entry already committed retires at once, another begins its compute phase. -/
def State.beginEntry (s : State) (j : UpdJob) (list : List Nat) (bss : List Bytes) (pss : List Pieces) : State :=
  let s := s.dropLoads (.update j.id)
  let e := j.desc.toNat
  let hp := leNat (nthBytes bss 0)
  let words := if ueLazy e then goodRows (ueRows e) none list else [0]
  let rows := words.zipIdx.map (fun p => rowOf p.1 (nthPieces pss (p.2 + 1)) (nthBytes bss (p.2 + 1)))
  if field hp 0 128 != 0 || (bss.drop 1).any wordBad then s.jobFault j 0x62
  else if rows ≠ [] ∧ (!ueLazy e || rows.length == list.length) ∧ rows.all (fun r => r.last == j.step % 2 ^ 32) then
    ((s.dadd 0x3402 4 1).setJob j.onward).retireEntry j.id
  else s.setJob { j with rows := rows, list := list, hp := BitVec.ofNat 512 hp, phase := firstPhase e, next := 0 }

/-- A PARAMETER entry is taken up: a commit word or each listed row record is translated for writing (R236). -/
def State.takeParameter (s : State) (j : UpdJob) : State :=
  let e := j.desc.toNat
  let hp : Span := ⟨ueHp e + 64 * (j.iter % ueHpPeriod e), 64, false, true⟩
  let word := fun (r : Nat) => (⟨ueCommit e + 8 * r, 8, true, true⟩ : Span)
  if ueLazy e then
    s.unitWork j j.pos [⟨ueAux e, 4 * ueAuxCount e, false, true⟩] (fun s bss _ =>
      let list := codes32 (nthBytes bss 0)
      s.unitWork j j.pos (hp :: (goodRows (ueRows e) none list).map word) (fun s bss pss => s.beginEntry j list bss pss))
  else s.unitWork j j.pos [hp, word 0] (fun s bss pss => s.beginEntry j [] bss pss)

/-- Whether the last step of a REPUBLISH entry works row by row (R231, R243). -/
def ueByRow (e : Nat) : Bool := ueWorkEn e || (ueKind e == 3 && ueLazy e)

/-- Follow-on work added to the engine. -/
def State.addFollow (s : State) (j : UpdJob) (kind : FollowKind) (pos : Nat) (desc : BitVec 1024) (rows : List UpdRow) (u w : Nat) (skipped : Bool) : State :=
  let (id, s) := s.takeId
  { s with upd := { s.upd with follow := s.upd.follow ++ [⟨id, j.id, kind, pos, j.step, desc, rows, u, w, 0, skipped, [0, 0, 0, 0, 0, 0]⟩] } }

/-- A commit word with PUBLISHED as given (R232). -/
def wordBytes (last : Nat) (published bank : Bool) : Bytes := natLe 8 (last % 2 ^ 32 * 2 ^ 32 + 2 * ofBool published + ofBool bank)

/-- Commit words written where the compute phase found them; they never walk and never park (R236). -/
def State.writeWords (s : State) (j : UpdJob) (va : Nat) (rows : List UpdRow) (bytes : UpdRow → Bytes) : State :=
  rows.foldl (fun s r => s.writeTarget j (j.coreOf 0) (va + 8 * r.row) r.at_ r.alloc (bytes r)) s

/-- A REPUBLISH entry is taken up (R231, R243). -/
def State.takeRepublish (s : State) (j : UpdJob) : State :=
  let e := j.desc.toNat
  let t := s.dropLoads (.update j.id)
  if ueSize e = 0 then (t.setJob j.onward).retireEntry j.id
  else if ueLazy e then (t.addFollow j .publish j.pos j.desc [] 0 0 false).setJob j.onward
  else s.unitWork j j.pos [⟨ueCommit e, 8, true, true⟩] (fun s bss pss =>
    let s := s.dropLoads (.update j.id)
    let r := rowOf 0 (nthPieces pss 0) (nthBytes bss 0)
    if wordBad (nthBytes bss 0) then s.jobFault j 0x62
    else if ueByRow e then (s.addFollow j .publish j.pos j.desc [r] 0 0 false).setJob j.onward
    else ((s.writeWords j (ueCommit e) [r] (fun r => wordBytes r.last true r.bank)).setJob j.onward).retireEntry j.id)

/-- An entry without elements, list rows or blocks does nothing and retires at its commit point (R12, R231, R242). -/
def ueEmpty (e : Nat) : Bool := if ueKind e == 2 then stBlocks e == 0 else ueSize e == 0 || (ueKind e == 1 && ueLazy e && ueAuxCount e == 0)

/-- The die holds as many pending records as it may, those that compute phases under way will make among them (R233). -/
def State.recordsFull (s : State) (die : Nat) : Bool :=
  decide (4096 ≤ (s.upd.records.filter (fun r => r.die == die)).length + (s.upd.jobs.filter (fun j => j.die == die && j.phase != .idle)).length)

/-- The entry that the engine has read is checked and taken up by its kind; one that would become a pending record waits while the die can hold no more (R233). -/
def State.takeEntry (s : State) (j : UpdJob) (e : Nat) : State :=
  let j : UpdJob := { j with desc := BitVec.ofNat 1024 e }
  let t := s.dropLoads (.update j.id)
  if s.entryBad j e then t.jobFault j 0x62
  else
    let j : UpdJob := { j with conj := some (ueConj e, ueKind e == 3), ortho := j.ortho || (ueKind e == 1 && ueOrtho e) }
    let s := s.setJob j
    let t := t.setJob j
    if ueKind e = 3 then s.takeRepublish j
    else if s.recordsFull j.die then s
    else if ueEmpty e then t.pend j true true 0 0
    else if ueKind e = 2 then t.pend j false false 0 0
    else if s.frozen e then
      s.unitWork j j.pos (if ueGradClear e then [⟨ueGrad e, gradCount e * ueGradSize e, true, false⟩] else [])
        (fun s _ pss => s.refuseFrozen j (nthPieces pss 0))
    else s.takeParameter j

/-- UPDATE_ENTRY: the engine reaches the next entry of the job's list. -/
def execUpdateEntry (job : Nat) (s : State) : Result :=
  match s.updJob job with
  | none => .next s
  | some j =>
    s.jobTurn j (j.phase == .idle && decide (j.pos < j.count))
      (s.unitWork j j.pos [⟨j.base + 128 * j.pos, 128, false, true⟩] (fun s bss _ => s.takeEntry j (leNat (nthBytes bss 0))))

/-! ### UPDATE_CHUNK (R239, R240, R244) -/

/-- The committed bank of the entry in hand. -/
def UpdJob.bank (j : UpdJob) : Bool := match j.rows with | r :: _ => r.bank | [] => false

/-- The stored gradient elements (R238). -/
def gradCodes (e : Nat) (bs : Bytes) : List Val :=
  (chunksOf (ueGradSize e) (bs.length + 1) bs).map (fun b => if ueGradType e = 2 then decodeAq (leNat b % 2 ^ 48) else ofF32 (leNat b))

/-- An element as a rule leaves it. -/
structure Elem where
  w1 : Val
  m1 : Val
  v1 : Val
  /-- observations of R214: the stored gradient and the values written -/
  bad : Nat
  deriving DecidableEq, Repr

/-- Non-finite values among those given. -/
def countBad (l : List Val) : Nat := (l.filter Val.nonfinite).length

/-- One element of an elementwise rule; w, m and v as the rule reads them. -/
def elemStep (e h : Nat) (g w m v : Val) : Elem :=
  let r := ruleStep (ueRule e) (ueNesterov e) h (gradVal h g) m v
  let w1 := newWeight h r.u w
  ⟨w1, r.m1, r.v1, countBad (g :: w1 :: r.m1 :: (if ueHasM2 e then [r.v1] else []))⟩

/-- The vector operations of `elemStep`. -/
def elemOps (e h : Nat) (g w m v : Val) : List VectorOp :=
  let x := gradVal h g
  ([rndF32 g, hpVal h 5], x) :: (ruleOps (ueRule e) (ueNesterov e) h x m v ++ weightOps h (ruleStep (ueRule e) (ueNesterov e) h x m v).u w)

/-- U or W of a chunk from +0, in element order (R219, R244). -/
def sumSquares (init : Nat) (l : List Val) : Nat := l.foldl addSquare init

/-- Δ of each element, rounded to FP32 (R219). -/
def deltas (w1 w : List Val) : List Val := List.zipWith (fun a b => rndF32 (a.sub b)) w1 w

/-- FP32 elements of a bank: VA of chunk c of an array. -/
def chunkSpan (e base : Nat) (bank write : Bool) (c n : Nat) : Span := ⟨base + ueBank e bank + 16384 * c, 4 * n, write, !write⟩

/-- Elements of chunk c. -/
def chunkLen (e c : Nat) : Nat := min 4096 (ueSize e - 4096 * c)

/-- Spans of a chunk of an elementwise rule: weights, first moment, second moment, gradient and chunk sums. -/
def chunkSpans (e : Nat) (b : Bool) (c : Nat) : List Span :=
  let n := chunkLen e c
  let second := if ueHasM2 e then [chunkSpan e (ueM2 e) b false c n, chunkSpan e (ueM2 e) (!b) true c n] else []
  [chunkSpan e (ueMaster e) b false c n, chunkSpan e (ueMaster e) (!b) true c n, chunkSpan e (ueM1 e) b false c n, chunkSpan e (ueM1 e) (!b) true c n,
    ⟨ueGrad e + ueGradSize e * 4096 * c, ueGradSize e * n, ueGradClear e, true⟩, ⟨ueRatio e + 32 + 16 * c, 16, true, false⟩] ++ second

/-- The gradient is cleared after it is read (R227). -/
def State.clearGrad (s : State) (j : UpdJob) (ps : Pieces) (n : Nat) : State :=
  if ueGradClear j.desc.toNat then s.writePieces j (j.coreOf j.next) ps (List.replicate n 0) else s

/-- The last chunk ends a stage. -/
def UpdJob.afterChunk (j : UpdJob) (then_ : UpdPhase) : UpdJob :=
  if ueChunks j.desc.toNat ≤ j.next + 1 then { j with next := 0, phase := then_ } else { j with next := j.next + 1 }

/-- A chunk of an elementwise rule: the other bank, the chunk's sums and the votes (R214, R239, R244). -/
def State.chunkDone (s : State) (j : UpdJob) (bss : List Bytes) (pss : List Pieces) : State :=
  let s := s.dropLoads (.update j.id)
  let e := j.desc.toNat
  let h := j.hp.toNat
  let g := j.coreOf j.next
  let w := (codes32 (nthBytes bss 0)).map ofF32
  let m := (codes32 (nthBytes bss 2)).map ofF32
  let v := (codes32 (nthBytes bss 6)).map ofF32
  let each := fun {α : Type} (f : Val → Val → Val → Val → α) => (List.range w.length).map (fun i =>
    f ((gradCodes e (nthBytes bss 4)).getD i .zero) (w.getD i .zero) (m.getD i .zero) (v.getD i .zero))
  let es := each (elemStep e h)
  let w1 := es.map (fun x => x.w1)
  let s := s.invalidLanes g (invalidOps ((each (elemOps e h)).flatten ++ sumOps 0 0 (w1.zip w)))
  let s := s.clearGrad j (nthPieces pss 4) (nthBytes bss 4).length
  let s := s.writePieces j g (nthPieces pss 1) (bytes32 (w1.map toF32))
  let s := s.writePieces j g (nthPieces pss 3) (bytes32 (es.map (fun x => toF32 x.m1)))
  let s := if ueHasM2 e then s.writePieces j g (nthPieces pss 7) (bytes32 (es.map (fun x => toF32 x.v1))) else s
  let s := s.writePieces j g (nthPieces pss 5) (natLe 8 (sumSquares 0 (deltas w1 w)) ++ natLe 8 (sumSquares 0 w))
  let s := (s.dadd 0x3400 (j.die + 1) w.length).nonfinites j.die j.step 0 (es.map (fun x => x.bad)).sum
  s.setJob (j.afterChunk .ratio)

/-- Spans of a momentum chunk of ORTHO_MOMENTUM: first moment, gradient, and the chunk's sum of squares. -/
def momentumSpans (e : Nat) (b : Bool) (c : Nat) : List Span :=
  let n := chunkLen e c
  [chunkSpan e (ueM1 e) b false c n, chunkSpan e (ueM1 e) (!b) true c n,
    ⟨ueGrad e + ueGradSize e * 4096 * c, ueGradSize e * n, ueGradClear e, true⟩, ⟨ueAux e + 8 * c, 8, true, false⟩]

/-- A momentum chunk of ORTHO_MOMENTUM: m1, the direction kept for the products, and the chunk's sum (R240, R244). -/
def State.momentumDone (s : State) (j : UpdJob) (bss : List Bytes) (pss : List Pieces) : State :=
  let s := s.dropLoads (.update j.id)
  let e := j.desc.toNat
  let h := j.hp.toNat
  let g := j.coreOf j.next
  let gs := gradCodes e (nthBytes bss 2)
  let rs := ((codes32 (nthBytes bss 0)).zip gs).map (fun p => (ruleStep 1 (ueNesterov e) h (gradVal h p.2) (ofF32 p.1) .zero, p.2))
  let s := s.clearGrad j (nthPieces pss 2) (nthBytes bss 2).length
  let s := s.writePieces j g (nthPieces pss 1) (bytes32 (rs.map (fun r => toF32 r.1.m1)))
  let s := s.writePieces j g (nthPieces pss 3) (natLe 8 (sumSquares 0 (rs.map (fun r => r.1.u))))
  let s := s.nonfinites j.die j.step 0 (rs.map (fun r => countBad [r.2, r.1.m1])).sum
  let ops := ((codes32 (nthBytes bss 0)).zip gs).map (fun p =>
    ([rndF32 p.2, hpVal h 5], gradVal h p.2) :: ruleOps 1 (ueNesterov e) h (gradVal h p.2) (ofF32 p.1) .zero)
  let s := s.invalidLanes g (invalidOps (ops.flatten ++ sumOps 0 0 (rs.map (fun r => (r.1.u, .zero)))))
  let j : UpdJob := { j with mx := j.mx ++ rs.map (fun r => toF32 r.1.u) }
  s.setJob (j.afterChunk .norm)

/-- Spans of an applying chunk of ORTHO_MOMENTUM: weights and chunk sums. -/
def applySpans (e : Nat) (b : Bool) (c : Nat) : List Span :=
  let n := chunkLen e c
  [chunkSpan e (ueMaster e) b false c n, chunkSpan e (ueMaster e) (!b) true c n, ⟨ueRatio e + 32 + 16 * c, 16, true, false⟩]

/-- An applying chunk of ORTHO_MOMENTUM (R240, R244). -/
def State.applyDone (s : State) (j : UpdJob) (bss : List Bytes) (pss : List Pieces) : State :=
  let s := s.dropLoads (.update j.id)
  let h := j.hp.toNat
  let g := j.coreOf j.next
  let w := (codes32 (nthBytes bss 0)).map ofF32
  let x := (j.mx.drop (4096 * j.next)).map ofF32
  let w1 := (w.zip x).map (fun p => orthoWeight h p.2 p.1)
  let s := s.invalidLanes g (invalidOps (((w.zip x).map (fun p => orthoOps h p.2 p.1)).flatten ++ sumOps 0 0 (w1.zip w)))
  let s := s.writePieces j g (nthPieces pss 1) (bytes32 (w1.map toF32))
  let s := s.writePieces j g (nthPieces pss 2) (natLe 8 (sumSquares 0 (deltas w1 w)) ++ natLe 8 (sumSquares 0 w))
  let s := (s.dadd 0x3400 (j.die + 1) w.length).nonfinites j.die j.step 0 (countBad w1)
  s.setJob (j.afterChunk .ratio)

/-- UPDATE_CHUNK: the next chunk of the entry in hand. -/
def execUpdateChunk (job : Nat) (s : State) : Result :=
  match s.updJob job with
  | none => .next s
  | some j =>
    let e := j.desc.toNat
    match j.phase with
    | .chunk =>
      s.jobTurn j true
        (if ueOrtho e then s.unitWork j j.next (momentumSpans e j.bank j.next) (fun s bss pss => s.momentumDone j bss pss)
         else s.unitWork j j.next (chunkSpans e j.bank j.next) (fun s bss pss => s.chunkDone j bss pss))
    | .apply => s.jobTurn j true (s.unitWork j j.next (applySpans e j.bank j.next) (fun s bss pss => s.applyDone j bss pss))
    | _ => .next s

/-! ### LAZY_ADAM_ROW (R242) -/

/-- The distance k of a row, if it is legal. -/
def lazyDistance (step last : Nat) : Option Nat :=
  let k := if last = 0xFFFFFFFF then 1 else (step % 2 ^ 32 + 2 ^ 32 - last) % 2 ^ 32
  if 1 ≤ k ∧ k < 2 ^ 31 then some k else none

/-- Spans of list row n: weights and moments of row r in both banks, its gradient row, and the chunk sums that end in it. -/
def lazySpans (e : Nat) (b : Bool) (n r : Nat) : List Span :=
  let cols := ueCols e
  let at_ := fun (base : Nat) (bank write : Bool) => (⟨base + ueBank e bank + 4 * cols * r, 4 * cols, write, !write⟩ : Span)
  let first := n * cols / 4096
  let last := ((n + 1) * cols - 1) / 4096
  [at_ (ueMaster e) b false, at_ (ueMaster e) (!b) true, at_ (ueM1 e) b false, at_ (ueM1 e) (!b) true, at_ (ueM2 e) b false, at_ (ueM2 e) (!b) true,
    ⟨ueGrad e + n * cols * ueGradSize e, cols * ueGradSize e, ueGradClear e, true⟩, ⟨ueRatio e + 32 + 16 * first, 16 * (last + 1 - first), true, false⟩]

/-- Chunk sums over elements from position `at_` on: the sums that complete, as bytes, and the running U and W. A new chunk starts from +0 (R244). -/
def runSums (total : Nat) : Nat → Nat × Nat → List (Val × Val) → Bytes × Nat × Nat
  | _, acc, [] => ([], acc)
  | i, (u, w), (d, x) :: t =>
    let u := addSquare u d
    let w := addSquare w x
    if (i + 1) % 4096 = 0 ∨ i + 1 = total then
      let (bs, r) := runSums total (i + 1) (0, 0) t
      (natLe 8 u ++ natLe 8 w ++ bs, r)
    else runSums total (i + 1) (u, w) t

/-- One listed row caught up and updated (R242). -/
def State.lazyDone (s : State) (j : UpdJob) (k : Nat) (bss : List Bytes) (pss : List Pieces) : State :=
  let s := s.dropLoads (.update j.id)
  let e := j.desc.toNat
  let h := j.hp.toNat
  let g := j.coreOf j.next
  let pm := lazyPow (hpVal h 1) (k - 1)
  let pv := lazyPow (hpVal h 2) (k - 1)
  let pw := lazyPow (rndF32 ((Val.ofInt 1).sub (mul32 (hpVal h 0) (hpVal h 4)))) (k - 1)
  let old := (codes32 (nthBytes bss 0)).map ofF32
  let m := (codes32 (nthBytes bss 2)).map ofF32
  let v := (codes32 (nthBytes bss 4)).map ofF32
  let gs := gradCodes e (nthBytes bss 6)
  let each := fun {α : Type} (f : Val → Val → Val → Val → α) => (List.range old.length).map (fun i =>
    f (gs.getD i .zero) (mul32 (old.getD i .zero) pw) (mul32 (m.getD i .zero) pm) (mul32 (v.getD i .zero) pv))
  let es := each (elemStep e h)
  let w1 := es.map (fun x => x.w1)
  let decay := fun (l : List Val) (p : Val) => l.map (fun x => (([x, p], mul32 x p) : VectorOp))
  let s := s.invalidLanes g (invalidOps (decay old pw ++ decay m pm ++ decay v pv ++ (each (elemOps e h)).flatten ++ sumOps j.u j.w (w1.zip old)))
  let total := ueAuxCount e * ueCols e
  let (sums, u, w) := runSums total (j.next * ueCols e) (j.u, j.w) ((deltas w1 old).zip old)
  let s := s.clearGrad j (nthPieces pss 6) (nthBytes bss 6).length
  let s := s.writePieces j g (nthPieces pss 1) (bytes32 (w1.map toF32))
  let s := s.writePieces j g (nthPieces pss 3) (bytes32 (es.map (fun x => toF32 x.m1)))
  let s := s.writePieces j g (nthPieces pss 5) (bytes32 (es.map (fun x => toF32 x.v1)))
  let s := s.writePieces j g (nthPieces pss 7) sums
  let s := ((s.dadd 0x3400 (j.die + 1) old.length).dadd 0x3403 (j.die + 1) 1).nonfinites j.die j.step 0 (es.map (fun x => x.bad)).sum
  let j := { j with u := u, w := w, next := j.next + 1 }
  s.setJob (if ueAuxCount e ≤ j.next then { j with phase := .ratio, next := 0 } else j)

/-- LAZY_ADAM_ROW: the next listed row; an invalid row or distance is fatal fault 0x63. -/
def execLazyAdamRow (job : Nat) (s : State) : Result :=
  match s.updJob job with
  | none => .next s
  | some j =>
    if j.phase ≠ .rows then .next s
    else s.jobTurn j true
      (match j.rows[j.next]? with
        | none => s.jobFault j 0x63
        | some r =>
          match lazyDistance j.step r.last with
          | none => s.jobFault j 0x63
          | some k => s.unitWork j j.next (lazySpans j.desc.toNat r.bank j.next r.row) (fun s bss pss => s.lazyDone j k bss pss))

/-! ### CHUNK_SUM_FOLD and ORTHO_PRODUCT_TILE (R177, R240, R244) -/

/-- AQ48 sums folded by the pairwise shape, with the invalid operations met (R218); none gives +0. -/
def foldTree (l : List Nat) : Nat × Nat :=
  (treeOf 1 (fun (a b : Nat × Nat) =>
    let x := decodeAq a.1
    let y := decodeAq b.1
    let r := x.addAq y
    (encodeAq .rne 0 r, a.2 + b.2 + invalidOps [([x, y], decodeAq (encodeAq .rne 0 r))])) (l.map (fun x => (x, 0)))).getD (0, 0)
/-- The folded sum. -/
def foldSums (l : List Nat) : Nat := (foldTree l).1

/-- Chunks of the entry in hand, in its element order (R244). -/
def entryChunks (e : Nat) : Nat := (gradCount e + 4095) / 4096

/-- The factor of the norm: rsqrt of n2, rounded (R240). -/
def normFactor (n2 : Nat) : Val := rndF32 (rsqrtVal (rndF32 (decodeAq n2)))
/-- The vector operations of the norm. -/
def normOps (u : List Nat) (n2 : Nat) : List VectorOp :=
  if n2 = 0 then [] else ([rndF32 (decodeAq n2)], normFactor n2) :: u.map (fun c => ([ofF32 c, normFactor n2], (ofF32 c).mul (normFactor n2)))
/-- X after the norm: u times rsqrt of n2, or zero (R240), transposed to p × q. -/
def normalised (e : Nat) (u : List Nat) (n2 : Nat) : List Nat :=
  let k := normFactor n2
  let x := u.map (fun c => if n2 = 0 then 0 else toF32 ((ofF32 c).mul k))
  if ueCols e < ueRows e then transpose x (ueRows e) (ueCols e) else x

/-- The folds: of the norm's sums, after which the products begin; of U and W, after which the entry is a pending record. -/
def State.foldDone (s : State) (j : UpdJob) (bss : List Bytes) : State :=
  let s := s.dropLoads (.update j.id)
  let e := j.desc.toNat
  let cs := (chunksOf 8 ((nthBytes bss 0).length + 1) (nthBytes bss 0)).map (fun b => leNat b % 2 ^ 48)
  match j.phase with
  | .norm =>
    (s.invalidLanes (j.coreOf 0) ((foldTree cs).2 + invalidOps (normOps j.mx (foldSums cs)))).setJob
      { j with mx := normalised e j.mx (foldSums cs), phase := .product, next := 0 }
  | _ =>
    let us := (List.range (cs.length / 2)).map (fun i => cs.getD (2 * i) 0)
    let ws := (List.range (cs.length / 2)).map (fun i => cs.getD (2 * i + 1) 0)
    (s.invalidLanes (j.coreOf 0) ((foldTree us).2 + (foldTree ws).2)).pend j false false (foldSums us) (foldSums ws)

/-- CHUNK_SUM_FOLD. -/
def execChunkSumFold (job : Nat) (s : State) : Result :=
  match s.updJob job with
  | none => .next s
  | some j =>
    let e := j.desc.toNat
    match j.phase with
    | .norm => s.jobTurn j true (s.unitWork j 0 [⟨ueAux e, 8 * ueChunks e, false, true⟩] (fun s bss _ => s.foldDone j bss))
    | .ratio => s.jobTurn j true (s.unitWork j 0 [⟨ueRatio e + 32, 16 * entryChunks e, false, true⟩] (fun s bss _ => s.foldDone j bss))
    | _ => .next s

/-- The vector operations that combine a complete product (R240). -/
def UpdJob.productOps (j : UpdJob) (out : List Nat) : List VectorOp :=
  let h := j.hp.toNat
  match j.product with
  | 0 => []
  | 1 => ((out.zip j.ma).map (fun p =>
      let ba := mul32 (hpVal h 9) (ofF32 p.2)
      [([hpVal h 9, ofF32 p.2], ba), ([hpVal h 10, ofF32 p.1, ba], fma32 (hpVal h 10) (ofF32 p.1) ba)])).flatten
  | _ => (j.mx.zip out).map (fun p => ([hpVal h 8, ofF32 p.1, ofF32 p.2], fma32 (hpVal h 8) (ofF32 p.1) (ofF32 p.2)))

/-- A product is complete: A, then B, then the next X; after NS_ITERS the result is applied (R240). -/
def UpdJob.productDone (j : UpdJob) : UpdJob :=
  let e := j.desc.toNat
  let h := j.hp.toNat
  let out := assemble e j.product j.mo
  let j := { j with mo := [], next := 0 }
  match j.product with
  | 0 => { j with ma := out, product := 1 }
  | 1 => { j with ma := zipF32 (fun aa a => fma32 (hpVal h 10) aa (mul32 (hpVal h 9) a)) out j.ma, product := 2 }
  | _ =>
    let x := zipF32 (fun x bx => fma32 (hpVal h 8) x bx) j.mx out
    if ueNsIters e ≤ j.ns + 1 then
      { j with mx := if ueCols e < ueRows e then transpose x (ueCols e) (ueRows e) else x, ma := [], phase := .apply, product := 0 }
    else { j with mx := x, ma := [], product := 0, ns := j.ns + 1 }

/-- The workspace beyond the chunk sums holds nothing defined (log 31). -/
def State.forgetSpace (s : State) (j : UpdJob) (ps : Pieces) : State :=
  ps.foldl (fun s p =>
    match p.2.2.1 with
    | .here a => (s.eavesDrop j.die (.here a)).forgetBytes a p.2.1 .update (j.coreOf 0) 0xFFFF j.step
    | _ => s) s

/-- One output tile formed (R240). -/
def State.tileDone (s : State) (j : UpdJob) : State :=
  let e := j.desc.toNat
  let j := { j with mo := j.mo ++ [productTile e j.product j.mx j.ma j.next], next := j.next + 1 }
  if productTiles e j.product ≤ j.next then
    (s.invalidLanes (j.coreOf 0) (invalidOps (j.productOps (assemble e j.product j.mo)))).setJob j.productDone
  else s.setJob j

/-- The workspace of ORTHO_MOMENTUM beyond its chunk sums (R241). -/
def spaceSpan (e : Nat) : Span :=
  ⟨ueAux e + 8 * ueChunks e, 12 * ueP e * (ueP e + ueQ e), true, false⟩

/-- ORTHO_PRODUCT_TILE. -/
def execOrthoProductTile (job : Nat) (s : State) : Result :=
  match s.updJob job with
  | none => .next s
  | some j =>
    if j.phase ≠ .product then .next s
    else s.jobTurn j true
      (s.unitWork j j.next [spaceSpan j.desc.toNat] (fun s _ pss =>
        (if j.ns == 0 && j.product == 0 && j.next == 0 then s.forgetSpace j (nthPieces pss 0) else s).tileDone j))

/-! ### Commits (R232 to R237) -/

/-- A record placed by firing order of its job, then list position (R234). -/
def insertRec (r : PendRec) : List PendRec → List PendRec
  | [] => [r]
  | x :: t => if r.job < x.job ∨ (r.job = x.job ∧ r.pos < x.pos) then r :: x :: t else x :: insertRec r t

/-- The commit writes of a record in the committed form (R234, R236); an empty one leaves no trace (R12). -/
def State.commitRec (s : State) (r : PendRec) : State :=
  if r.empty then s
  else
  let s := { s with conj := { s.conj with committed := addNew r.step s.conj.committed } }
  let s := s.dadd 0x3402 1 1
  match s.updJob r.job with
  | none => s
  | some j =>
    if r.nothing || ueKind r.desc.toNat != 1 then s
    else s.writeWords j (ueCommit r.desc.toNat) r.rows (fun x => wordBytes r.step false (!x.bank))

/-- The rows of a committed record, with the bank that its commit made the committed one. -/
def PendRec.newRows (r : PendRec) : List UpdRow := r.rows.map (fun x => { x with last := r.step % 2 ^ 32, bank := !x.bank })

/-- The follow-on work of a record, or its retirement when it has none (R234, R243). -/
def State.followRec (s : State) (r : PendRec) (skipped : Bool) : State :=
  let e := r.desc.toNat
  match s.updJob r.job with
  | none => s
  | some j =>
    if r.nothing then s.retireEntry r.job
    else if ueKind e = 2 then s.addFollow j .sweep r.pos r.desc [] 0 0 skipped
    else if skipped then s.retireEntry r.job
    else if ueWorkEn e && r.rows != [] then s.addFollow j .publish r.pos r.desc r.newRows r.u r.w false
    else (s.writeWords j (ueCommit e) r.newRows (fun x => wordBytes x.last true x.bank)).addFollow j .ratio r.pos r.desc r.newRows r.u r.w false

/-- What the engine of every die does at the effect slot of a conjunction, after the skip record (R234). -/
def State.updateEffect (s : State) (conj : Nat) (d : Decision) : State :=
  match d with
  | .halt _ => s
  | _ =>
    let swap := match d with | .swap => true | _ => false
    let recs := s.upd.records.map (fun r => { r with due := r.due || swap || decide (r.target ≤ conj) })
    let due := recs.filter (fun r => r.due)
    let goOn := match d with | .nothing | .complete _ => true | _ => false
    if goOn then
      let s := { s with upd := { s.upd with records := recs.filter (fun r => !r.due) } }
      let due := due.foldl (fun l r => insertRec r l) []
      let skipped := fun (r : PendRec) => decide (r.step ∈ s.conj.skips)
      let s' := due.foldl (fun s r => if skipped r && !r.empty then s.dadd 0x3402 3 1 else s.commitRec r) s
      due.foldl (fun s r => s.followRec r (skipped r)) s'
    else ({ s with upd := { s.upd with records := recs } } : State).dadd 0x3402 2 (due.filter (fun r => !r.empty)).length

/-- Pending records and all other work of the engine discarded when the package leaves HALTED (R237). -/
def State.discardUpdate (s : State) : State :=
  let s := s.dadd 0x3402 5 (s.upd.records.filter (fun r => !r.empty)).length
  { s with upd := { s.upd with records := [], follow := [], jobs := [], waiting := [] } }

/-- The entries of a list as far as they can be read here without parking; none for an entry of another package or without a translation. -/
def State.peekList (s : State) (asid die base count : Nat) : List (Option Nat) :=
  (List.range count).map (fun i =>
    match (s.translate ⟨asid, base + 128 * i, 0, false, none, die⟩).2 with
    | .ok (.here a) _ => some (leNat (s.read a 128))
    | _ => none)

/-- COMMIT_CONJ of a job's list, and whether it is a list of REPUBLISH entries: as the engine has read it, or as it can be read now. -/
def State.conjOf (s : State) (j : UpdJob) : Option (Nat × Bool) :=
  match j.conj, s.peekList j.asid j.die j.base 1 with
  | some c, _ => some c
  | none, [some e] => some (ueConj e, ueKind e == 3)
  | none, _ => none

/-- The job's compute phase has not ended for every entry. -/
def UpdJob.computing (j : UpdJob) : Bool := decide (j.pos < j.count)

/-- A job of this Almanac whose target has come and whose compute phase has not ended (R235). One whose first entry cannot be read yet counts as due (log 97). -/
def State.lateJob (s : State) (conj : Nat) (j : UpdJob) : Bool :=
  j.computing && j.gen == s.alm.gen && (match s.conjOf j with
    | some (c, re) => !re && decide (j.target c ≤ conj)
    | none => true)

/-- Late jobs at a conjunction: an explicit slip request of 1, or fatal fault 0x61 before the final one (R235). -/
def State.commitNotReady (s : State) (conj : Nat) (final : Bool) : State :=
  let late := s.upd.jobs.filter (s.lateJob conj)
  if late = [] then s
  else if final then late.foldl (fun s j => s.jobFault j 0x61) s
  else s.requestSlip 1

/-! ### Follow-on work (R207, R220, R221, R243) -/

/-- A follow-on record with its job. -/
def State.followOn (s : State) (id : Nat) (kind : FollowKind) : Option (FollowOn × UpdJob) :=
  match s.upd.follow.find? (fun f => f.id == id && f.kind == kind) with
  | some f => (s.updJob f.job).map (fun j => (f, j))
  | none => none
/-- The state with a follow-on record replaced. -/
def State.setFollow (s : State) (f : FollowOn) : State :=
  { s with upd := { s.upd with follow := mapIf (fun x => x.id == f.id) (fun _ => f) s.upd.follow } }
/-- The follow-on work ends and its entry retires. -/
def State.endFollow (s : State) (f : FollowOn) : State :=
  ({ s with upd := { s.upd with follow := s.upd.follow.filter (fun x => x.id != f.id) } } : State).retireEntry f.job

/-- A REPUBLISH entry of LAZY_ADAM, whose record is read with each row. -/
def FollowOn.reads (f : FollowOn) : Bool := ueKind f.desc.toNat == 3 && ueLazy f.desc.toNat
/-- Row that publishing converts next: a listed row of LAZY_ADAM, else every row (R243). -/
def FollowOn.row (f : FollowOn) : Nat :=
  if ueLazy f.desc.toNat && !f.reads then (match f.rows[f.next]? with | some r => r.row | none => 0) else f.next
/-- Rows that publishing converts. -/
def FollowOn.total (f : FollowOn) : Nat := if ueLazy f.desc.toNat && !f.reads then f.rows.length else ueRows f.desc.toNat
/-- The committed bank of the next row. -/
def FollowOn.bank (f : FollowOn) : Bool :=
  match (if ueLazy f.desc.toNat then f.rows[f.next]? else f.rows.head?) with
  | some r => r.bank
  | none => false

/-- Spans of a published row: weights read; working weights and scales written, of both planes with SPLIT. -/
def publishSpans (e r : Nat) (bank : Bool) : List Span :=
  let n := workStride e
  let k := ueCols e / ueBlock e
  let work := fun (va len : Nat) => (⟨va, len, true, false⟩ : Span)
  if !ueWorkEn e then []
  else
    (⟨ueMaster e + ueBank e bank + 4 * ueCols e * r, 4 * ueCols e, false, true⟩ : Span) ::
      (if ueMx e then [work (ueWork e + r * n) n, work (ueWorkScale e + r * k) k] else [work (ueWork e + r * n) n]) ++
      (if ueSplit e then [work (ueWork e + ueRows e * n + r * n) n, work (ueWorkScale e + ueRows e * k + r * k) k] else [])

/-- A row is published; after the last, PUBLISHED is set in every word covered, and a PARAMETER goes on to its ratio record (R243). -/
def State.publishDone (s : State) (f : FollowOn) (j : UpdJob) (bss : List Bytes) (pss : List Pieces) : State :=
  let s := s.dropLoads (.update j.id)
  let e := f.desc.toNat
  let g := j.coreOf f.next
  let out := workRow e (codes32 (nthBytes bss 0)) (fun c => srg s.jobSeed (ueTensor e) f.row c 0xFFFFFFF2 f.step)
  let s := [out.hi, out.sh, out.lo, out.sl].zipIdx.foldl (fun s p => s.writePieces j g (nthPieces pss (p.2 + 1)) p.1) s
  if f.total ≤ f.next + 1 then
    let s := s.writeWords j (ueCommit e) f.rows (fun x => wordBytes x.last true x.bank)
    if ueKind e = 3 then s.endFollow f else s.setFollow { f with kind := .ratio, next := 0 }
  else s.setFollow { f with next := f.next + 1 }

/-- PUBLISH_ROW. -/
def execPublishRow (rec : Nat) (s : State) : Result :=
  match s.followOn rec .publish with
  | none => .next s
  | some (f, j) =>
    let e := f.desc.toNat
    s.jobTurn j true
      (if f.reads then
        s.unitWork j f.next [⟨ueCommit e + 8 * f.next, 8, true, true⟩] (fun s bss pss =>
          let r := rowOf f.next (nthPieces pss 0) (nthBytes bss 0)
          if wordBad (nthBytes bss 0) then (s.dropLoads (.update j.id)).jobFault { j with desc := f.desc, pos := f.pos } 0x62
          else s.unitWork j f.next (publishSpans e f.next r.bank) (fun s bss pss => s.publishDone { f with rows := f.rows ++ [r] } j bss pss))
       else s.unitWork j f.next (publishSpans e f.row f.bank) (fun s bss pss => s.publishDone f j bss pss))

/-- The ratio record is written; HIGH or LOW raises an alert (R220, R221). -/
def State.ratioDone (s : State) (f : FollowOn) (j : UpdJob) (ps : Pieces) : State :=
  let ratio := ratioCode f.u f.w
  let high := ratioHigh ratio (s.dget 0x2303 2)
  let low := ratioLow ratio (s.dget 0x2303 1)
  let s := s.writePieces j (j.coreOf 0) ps (ratioBytes f.step (ueLayer f.desc.toNat) f.u f.w ratio high low)
  let s := if high || low then
      let s := s.dadd 0x3303 0 1
      { s with conj := { s.conj with uwr := true } }
    else s
  s.endFollow f

/-- RATIO_RECORD_WRITE. -/
def execRatioRecordWrite (rec : Nat) (s : State) : Result :=
  match s.followOn rec .ratio with
  | none => .next s
  | some (f, j) =>
    s.jobTurn j true
      (s.unitWork j 0 [⟨ueRatio f.desc.toNat, 32, true, false⟩] (fun s _ pss => s.ratioDone f j (nthPieces pss 0)))

/-- Spans of block k of a sweep: carried scale, quiet count, the record at the last block, and every status copy (R206, R209). -/
def sweepSpans (e k : Nat) : List Span :=
  [⟨stScale e + k, 1, true, true⟩, ⟨stQuiet e + 2 * k, 2, true, true⟩,
    ⟨stStats e, if stStats e ≠ 0 ∧ stBlocks e ≤ k + 1 then 32 else 0, true, false⟩] ++
  (List.range (stCopies e)).map (fun n => ⟨stStatus e + n * stBlocks e + k, 1, true, true⟩)

/-- The counts of a sweep go to the counters of R222. -/
def State.sweepCounts (s : State) (c : List Nat) : State :=
  ((((s.dadd 0x3302 1 (c.getD 0 0)).dadd 0x3302 2 (c.getD 2 0)).dadd 0x3302 3 (c.getD 1 0)).dadd 0x3302 4 (c.getD 3 0)).dadd 0x3302 5 (c.getD 4 0)

/-- One block swept (R207); the last writes the sweep record (R210). -/
def State.sweepDone (s : State) (f : FollowOn) (j : UpdJob) (bss : List Bytes) (pss : List Pieces) : State :=
  let s := s.dropLoads (.update j.id)
  let e := f.desc.toNat
  let g := j.coreOf 0
  let st := ((bss.drop 3).flatten.map (fun b => b.toNat % 8)).foldl (fun a b => a ||| b) 0
  let (x, q, n) := sweepBlock (s.dget 0x2302 1) f.skipped st (leNat (nthBytes bss 0)) (leNat (nthBytes bss 1))
  let counts := List.zipWith (· + ·) f.counts n
  let s := s.writePieces j g (nthPieces pss 0) (natLe 1 x)
  let s := s.writePieces j g (nthPieces pss 1) (natLe 2 q)
  let s := (pss.drop 3).foldl (fun s ps => s.writePieces j g ps [0]) s
  if stBlocks e ≤ f.next + 1 then
    ((s.writePieces j g (nthPieces pss 2) (sweepBytes f.step counts f.skipped)).sweepCounts counts).endFollow f
  else s.setFollow { f with next := f.next + 1, counts := counts }

/-- SCALE_SWEEP_BLOCK. -/
def execScaleSweepBlock (rec : Nat) (s : State) : Result :=
  match s.followOn rec .sweep with
  | none => .next s
  | some (f, j) => s.jobTurn j true (s.unitWork j f.next (sweepSpans f.desc.toNat f.next) (fun s bss pss => s.sweepDone f j bss pss))

/-! ### Starting a job (R223 to R225) -/

/-- An UPDATE_JOB's list holds an ORTHO_MOMENTUM entry, or may hold one in a part that cannot be read here (R225; log 97). -/
def State.listOrtho (s : State) (asid die base count : Nat) : Bool :=
  (s.peekList asid die base count).any (fun e => match e with | some x => ueKind x == 1 && ueOrtho x | none => true)

/-- An UPDATE_JOB begins on the cores it names; one that names no entry or no core completes at once (R12, R60, R223). -/
def State.startUpdate (s : State) (a : Action) : State :=
  let t := a.transit
  if t.param = 0 ∨ t.coreCount = 0 then s.completeAction a.id
  else
    let cores := (List.range t.coreCount).map (fun i => t.coreFirst + i)
    let j : UpdJob := { id := a.id, die := t.die, cores := cores, base := t.addr, count := t.param, asid := a.asid, iter := a.iter,
                        step := a.step, gen := a.gen, hdr := s.alm.hdr, ortho := false, conj := none, left := t.param, pos := 0 }
    ({ s with upd := { s.upd with jobs := s.upd.jobs ++ [j] } } : State).forgetStaging cores

/-- A core runs a job whose list holds, or may hold, an ORTHO_MOMENTUM entry (R225). -/
def State.orthoOn (s : State) (g : Nat) : Bool :=
  s.upd.jobs.any (fun j => decide (g ∈ j.cores) && (j.ortho || s.listOrtho j.asid j.die j.base j.count))

end Sys2Proof.Machine
end

