-- ==== Sys2Proof/Machine/Preempt.lean ====
section
/-! DEFINITION. Pre-emption (file 11, R301 to R307; R96, R97, R162 to R167, R250): stopping at safe points, the contexts of the save area, saving and restoring. -/
namespace Sys2Proof.Machine

/-! ### Stopping (R96, R162, R302) -/

/-- Keys of arrays whose stopped slots are counted (R164, R498). -/
def stopKeyArray (g n : Nat) : Nat := 2000 + g * 4 + n

/-- An instruction of a stopped array: an MWLOAD in progress is abandoned, an MDRAIN goes back to its last whole row (R162). -/
def MatInstr.atSafePoint (m : MatInstr) : MatInstr :=
  match m.op with
  | 1 => { m with started := m.done }
  | 3 => { m with rows := m.rows / max 1 m.width * m.width }
  | _ => m

/-- The arrays of a core stop; each that has an instruction in its queue counts one request, and its stopped slots (R162, R164). -/
def State.stopCoreArrays (s : State) (g : Nat) : State :=
  let k := s.core g
  let busy := (List.range 4).filter (fun n => k.queue n != [])
  let s := s.setCore g { k with arraysStopped := busy.foldl (fun b n => b ||| arrayBit n) k.arraysStopped,
                                matrix := k.matrix.map MatInstr.atSafePoint }
  let s := if busy = [] then s else s.dadd 0x2225 (coreDie g + 1) busy.length
  if s.inWorking then busy.foldl (fun s n => s.countStop (stopKeyArray g n)) s else s

/-- Every array stops. -/
def State.stopArrays (s : State) : State := (s.cores.map (fun p => p.1)).foldl (fun s g => s.stopCoreArrays g) s

/-- Image loads are abandoned (R96). -/
def State.stopFetches (s : State) : State :=
  { s with trans := { s.trans with reqs := s.trans.reqs.filter (fun r => match r.agent with | .image _ _ => false | _ => true) } }

/-- A stop is requested of every foreground unit (R301, R302). -/
def State.stopUnits (s : State) : State := s.stopArrays.stopFetches

/-- Every foreground unit is at its safe point: every access that it had issued is complete (R96, R249, R302). Reads that have served the update engine stay with it. -/
def State.allSafe (s : State) : Bool :=
  s.upd.waiting == [] && s.trans.reqs.all (fun r => match r.agent with | .image _ _ | .action _ => true | .update _ => r.done | _ => false)

/-- STOP (R301): STOPPING. -/
def State.preStop (s : State) : State :=
  let s := { s with trans := { s.trans with preempt := .stopping, stopSlot := BitVec.ofNat 32 s.almanacSlot, saveFrom := false } }
  let s := if s.inWorking then (s.upd.jobs.map (fun j => 4000 + j.id)).foldl State.countStop (s.countStop 0) else s
  s.stopUnits

/-- SAVE (R301): SAVING, from RUNNING with the stop of STOP. -/
def State.preSave (s : State) : State :=
  if s.trans.preempt = .stopped then
    { s with trans := { s.trans with preempt := .saving, stopSlot := BitVec.ofNat 32 s.almanacSlot, saveFrom := true } }
  else
    let t := s.preStop
    { t with trans := { t.trans with preempt := .saving } }

/-- RESUME (R301): RESTORING. -/
def State.preResume (s : State) : State :=
  { s with trans := { s.trans with preempt := .restoring, restoreAll := s.trans.preempt == .saved, restoreFailed := false } }

/-- A command code is permitted in the present state (R301). -/
def State.prePermits (s : State) (code : Nat) : Bool :=
  s.dget 0x2642 0 != 0 &&
  (match code with
    | 1 => s.trans.preempt == .running
    | 2 => (s.trans.preempt == .running || s.trans.preempt == .stopped) && s.alm.state == .paused
    | 3 => s.trans.preempt == .stopped || s.trans.preempt == .saved
    | _ => false)

/-! ### Contexts (R97, R165, R166, R250, R306) -/

/-- Bytes followed by their CRC-32C. -/
def withCrc (bs : Bytes) : Bytes := bs ++ natLe 4 (crc32c bs)

/-- A thread context (R97). -/
def Thread.context (th : Thread) (t : Nat) : Bytes :=
  natLe 8 th.pc ++ natLe 8 (th.imgVa % 2 ^ 56) ++ natLe 8 (th.imgCrc.toNat * 2 ^ 32 + th.asid % 4096) ++
    natLe 8 (th.iter % 2 ^ 32 * 2 ^ 32 + t * 256 + th.preds.toNat) ++
    ((List.range 32).map (fun r => natLe 8 (th.s r))).flatten ++
    ((List.range 16).map (fun r => natLe 256 (tget 0 th.vregs r).toNat)).flatten ++ List.replicate 32 0

/-- A mover context (R306). -/
def State.moverContext (s : State) (d m : Nat) : Bytes :=
  let v := s.mover d m
  let seq := match s.trans.parks.find? (fun r => (r.first :: r.joined).any (fun p => p.agent == Agent.mover d m || p.agent == Agent.moverDesc d m)) with
    | some r => r.seq % 2 ^ 32
    | none => 0xFFFFFFFF
  let st := match v.status with | .idle => 0 | .running => 1 | .parked => 2 | .stopped => 3
  withCrc (natLe 8 (v.addr % 2 ^ 56) ++ natLe 4 v.count ++ natLe 4 v.oldest ++ natLe 4 v.cur ++ natLe 4 v.elem ++ natLe 4 v.off ++
    natLe 4 v.iter ++ natLe 2 (v.asid % 4096) ++ natLe 1 st ++ natLe 1 0 ++ natLe 4 seq ++
    natLe 64 (match v.desc with | some d => d.toNat | none => 0) ++ List.replicate 20 0)

/-- Phase code of an update engine context (R250). -/
def UpdPhase.code : UpdPhase → Nat
  | .idle => 0
  | .norm | .ratio => 2
  | _ => 1

/-- The first unit from n on that falls to a core of the job, dealt round-robin (R223, R250). -/
def UpdJob.nextOf (j : UpdJob) (g n : Nat) : Nat :=
  let k := max 1 j.cores.length
  n + (j.cores.findIdx (· == g) + k - n % k) % k

/-- What an update engine context shows of a core (R250): the oldest job on it that computes there, else its follow-on work, else the oldest job. The layout has room for one. -/
def State.updShown (s : State) (g : Nat) : Option (UpdJob × Option FollowOn) :=
  let mine := s.upd.jobs.filter (fun j => decide (g ∈ j.cores))
  match mine.find? (fun j => j.phase != .idle) with
  | some j => some (j, none)
  | none =>
    match s.upd.follow.findSome? (fun f => (mine.find? (fun j => j.id == f.job)).map (fun j => (f, j))) with
    | some (f, j) => some (j, some f)
    | none => mine.head?.map (fun j => (j, none))

/-- An update engine context (R250). -/
def State.updContext (s : State) (g : Nat) : Bytes :=
  match s.updShown g with
  | none => withCrc (List.replicate 60 0)
  | some (j, f) =>
    let (pos, phase, next) := match f with
      | some f => (f.pos, (if f.kind = .sweep then 4 else 3), j.nextOf g f.next)
      | none => (j.pos, j.phase.code, j.nextOf g j.next)
    withCrc (natLe 8 (j.base % 2 ^ 56) ++ natLe 4 pos ++ natLe 1 phase ++ natLe 1 j.ns ++ natLe 1 j.product ++ natLe 1 0 ++
      natLe 8 next ++ natLe 4 j.iter ++ natLe 4 j.step ++ List.replicate 28 0)

/-- The work that a context shows goes on from it (R250, R301): the first unit that any core of the job has left. -/
def State.restoreUpd (s : State) (ctx : Nat → Bytes) : State :=
  (List.range 384).foldl (fun s g =>
    let bs := ctx g
    let least := fun (j : UpdJob) =>
      ((j.cores.filter (fun h => (s.updShown h).any (fun p => p.1.id == j.id))).map (fun h => leAt (ctx h) 16 8)).foldl min (leAt bs 16 8)
    match s.updShown g with
    | some (j, none) =>
      s.setJob { j with base := leAt bs 0 8, pos := leAt bs 8 4, ns := leAt bs 13 1, product := leAt bs 14 1, next := least j,
                        iter := leAt bs 24 4, step := leAt bs 28 4 }
    | some (j, some f) =>
      { s with upd := { s.upd with follow := mapIf (fun x => x.id == f.id) (fun x => { x with pos := leAt bs 8 4, next := least j }) s.upd.follow } }
    | none => s) s

/-- ROWS_DONE of a queue entry (R165). -/
def MatInstr.savedRows (m : MatInstr) : Nat :=
  match m.op with
  | 1 => 0
  | 3 => m.rows / max 1 m.width
  | _ => m.rows

/-- One queue entry (R165). -/
def MatInstr.entry (m : MatInstr) : Bytes :=
  natLe 8 m.word.toNat ++ natLe 8 m.pos.toNat ++ natLe 4 (m.opnd % 2 ^ 22) ++ natLe 4 m.savedRows ++ natLe 1 m.thread ++
    List.replicate 7 0 ++ natLe 64 m.block.toNat

/-- The queue record of an array (R165). -/
def Core.queueRecord (k : Core) (n : Nat) : Bytes :=
  let q := (k.queue n).take 8
  padTo 784 (natLe 1 q.length ++ List.replicate 15 0 ++ (q.map MatInstr.entry).flatten)

/-- A weight set image (R166). Every column is covered in a K-block that the set does not hold, and so in every block of an empty set (R127). -/
def WeightSet.image (x : WeightSet) : Bytes :=
  let w := typeBits x.elemType
  let col := fun c => padTo 64 (packBits w (x.elems.getD c []))
  let scales := fun c => padTo 8 ((x.scales.getD c []).map (BitVec.ofNat 8))
  let parity := fun p => natLe 8 (ofSigned 64 (nth x.p0 p)) ++ natLe 8 (ofSigned 64 (nth x.p1 p))
  ((List.range 128).map col).flatten ++ ((List.range 128).map scales).flatten ++ ((List.range 128).map parity).flatten ++
    ((List.range 8).map (fun b => natLe 16 (x.covered.getD b (BitVec.allOnes 128)).toNat)).flatten ++
    natLe 1 x.elemType ++ natLe 1 (ofBool x.block16) ++ natLe 2 x.k ++ natLe 2 x.elems.length ++ natLe 2 0 ++
    natLe 4 x.kBlock ++ natLe 4 x.outCol ++ padTo 8 (x.xmax.map (BitVec.ofNat 8)) ++ List.replicate 872 0

/-- An array context (R165). -/
def Core.arrayContext (k : Core) : Bytes :=
  let head := ((List.range 4).map k.queueRecord).flatten ++ List.replicate 956 0
  let sets := ((List.range 8).map (fun i => (k.wset (i / 2) (i % 2)).image)).flatten
  head ++ natLe 4 (crc32c (head ++ sets)) ++ sets

/-! ### Writing the save area (R304, R305) -/

/-- The device's own write of its save area. -/
def State.saveBytes (s : State) (off : Nat) (bs : Bytes) : State :=
  s.ownWrite (s.dget 0x2642 0 + off) bs

/-- The thread contexts of a core. -/
def State.threadContexts (s : State) (g : Nat) : Bytes := ((List.range 32).map (fun t => (s.thread g t).context t)).flatten

/-- The scratch and accumulator images of a core. -/
def State.coreImages (s : State) (g : Nat) : Bytes × Bytes := (s.read (scratchLpa g 0) 0x300000, s.read (accLpa g 0) 0xC0000)

/-- The header with the CRCs of the cores (R305): KIND 1 STOP, 2 SAVE, 3 halt. -/
def State.saveHeader (s : State) (kind abandoned : Nat) : Bytes :=
  let head := padTo 1020 (natLe 4 0x53564541 ++ natLe 2 1 ++ natLe 1 kind ++ natLe 1 0 ++ natLe 8 s.trans.stopSdt ++ natLe 4 s.almanacId ++
    natLe 4 s.alm.iteration ++ natLe 4 s.trans.stopSlot.toNat ++ natLe 4 s.stepNow ++ natLe 4 (if kind = 3 then abandoned else 0))
  withCrc head ++ ((List.range 384).map (fun g => natLe 4 (crc32c (s.threadContexts g)))).flatten ++
    ((List.range 384).map (fun g =>
      let (a, b) := s.coreImages g
      natLe 4 (if kind = 2 then crc32c (a ++ b) else 0))).flatten

/-- Every context written to the save area; with SAVE every scratch and accumulator file too (R301, R304). -/
def State.writeSaveArea (s : State) (kind abandoned : Nat) : State :=
  let t := s.saveBytes 0 (s.saveHeader kind abandoned)
  let t := t.saveBytes 0x1000 ((List.range 256).map (fun m => s.moverContext (m / 64) (m % 64))).flatten
  let t := t.saveBytes 0x9000 ((List.range 384).map (fun g => s.updContext g)).flatten
  let t := (List.range 384).foldl (fun t g => t.saveBytes (0x10000 + 4416 * 32 * g) (s.threadContexts g)) t
  let t := (List.range 384).foldl (fun t g => t.saveBytes (0x33D0000 + 102400 * g) (s.core g).arrayContext) t
  if kind = 2 then
    (List.range 384).foldl (fun t g =>
      let (a, b) := s.coreImages g
      (t.saveBytes (0x6000000 + 0x300000 * g) a).saveBytes (0x4E000000 + 0xC0000 * g) b) t
  else t

/-- The state of every mover that works becomes stopped. -/
def State.stopMovers (s : State) : State :=
  { s with movers := s.movers.map (fun p => (p.1, if p.2.status = .running then { p.2 with status := .stopped } else p.2)) }

/-- The units are at their safe points (R305). -/
def State.reachSafe (s : State) : State := { s.stopMovers with trans := { s.trans with stopSdt := s.sdt } }

/-- PREEMPT_STOP_DONE: contexts written, STOPPED. -/
def execPreemptStopDone (s : State) : Result :=
  when (s.trans.preempt == .stopping && s.allSafe) s
    (let t := s.reachSafe.writeSaveArea 1 0
     { t with trans := { t.trans with preempt := .stopped } })

/-- PREEMPT_SAVE_DONE: contexts and files written, SAVED. -/
def execPreemptSaveDone (s : State) : Result :=
  when (s.trans.preempt == .saving && s.allSafe) s
    (let t := (if s.trans.saveFrom then s else s.reachSafe).writeSaveArea 2 0
     { t with trans := { t.trans with preempt := .saved } })

/-! ### Restoring (R167, R307) -/

/-- Bytes of the save area. -/
def State.savedBytes (s : State) (off n : Nat) : Bytes := s.read (s.dget 0x2642 0 + off) n

/-- The last four bytes are the CRC of the others. -/
def crcOk (bs : Bytes) : Bool := leAt bs (bs.length - 4) 4 == crc32c (bs.take (bs.length - 4))

/-- CRC found and CRC expected (R470). -/
def crcDetail (found expected : Nat) : Bytes := natLe 4 found ++ natLe 4 expected

/-- Fault 0x88 for each mover context whose CRC fails. -/
def State.checkMovers (s : State) : State :=
  (List.range 256).foldl (fun s m =>
    if crcOk (s.savedBytes (0x1000 + 128 * m) 128) then s
    else s.xFault 0x88 (m / 64) 0xFFFFFFFF 0xFFFF (m % 64) (s.mover (m / 64) (m % 64)).asid (s.mover (m / 64) (m % 64)).addr 2) s

/-- Fault 0x64 for each update engine context whose CRC fails (R250). -/
def State.checkUpdates (s : State) : State :=
  (List.range 384).foldl (fun s g =>
    let bs := s.savedBytes (0x9000 + 64 * g) 64
    if crcOk bs then s
    else s.fatal 0x64 (coreDie g) .update 0xFFFFFFFF g 0xFFFF (crcDetail (crc32c (bs.take 60)) (leAt bs 60 4))) s

/-- Fault 0x89 for each core whose thread contexts or images fail their CRC. -/
def State.checkCores (s : State) : State :=
  (List.range 384).foldl (fun s g =>
    let th := s.savedBytes (0x10000 + 4416 * 32 * g) (4416 * 32)
    let im := s.savedBytes (0x6000000 + 0x300000 * g) 0x300000 ++ s.savedBytes (0x4E000000 + 0xC0000 * g) 0xC0000
    let ok := crc32c th == leNat (s.savedBytes (1024 + 4 * g) 4) && crc32c im == leNat (s.savedBytes (2560 + 4 * g) 4)
    if ok then s else s.xFault 0x89 (coreDie g) 0xFFFFFFFF g 0xFFFF 0 0 0) s

/-- Fault 0x42 for each array context whose CRC fails (R167). -/
def State.checkArrays (s : State) : State :=
  (List.range 384).foldl (fun s g =>
    let bs := s.savedBytes (0x33D0000 + 102400 * g) 102400
    let found := crc32c (bs.take 4092 ++ bs.drop 4096)
    if leAt bs 4092 4 = found then s
    else s.fatal 0x42 (coreDie g) .array 0xFFFFFFFF g 0xFFFF (crcDetail found (leAt bs 4092 4))) s

/-- A thread's registers from its context (R97); its step is that of the launching iteration. -/
def Thread.restored (th : Thread) (bs : Bytes) (stepOf : Nat → Nat) : Thread :=
  let w := leAt bs 24 8
  { th with pc := leAt bs 0 8, imgVa := leAt bs 8 8, imgCrc := BitVec.ofNat 32 (leAt bs 20 4), asid := leAt bs 16 4,
            iter := w / 2 ^ 32, step := stepOf (w / 2 ^ 32), preds := BitVec.ofNat 8 w,
            sregs := ((List.range 32).map (fun r => (r, BitVec.ofNat 64 (leAt bs (32 + 8 * r) 8)))).filter (fun p => p.2 != 0),
            vregs := ((List.range 16).map (fun r => (r, BitVec.ofNat 2048 (leAt bs (288 + 256 * r) 256)))).filter (fun p => p.2 != 0) }

/-- A mover's registers from its context (R306). -/
def Mover.restored (v : Mover) (bs : Bytes) : Mover :=
  let status := match leAt bs 34 1 with | 0 => .idle | 1 => .running | 2 => .parked | _ => .stopped
  { v with status := status, addr := leAt bs 0 8, count := leAt bs 8 4, oldest := leAt bs 12 4, cur := leAt bs 16 4, elem := leAt bs 20 4, off := leAt bs 24 4,
           iter := leAt bs 28 4, asid := leAt bs 32 2, desc := if v.desc.isSome then some (BitVec.ofNat 512 (leAt bs 40 64)) else none }

/-- A weight set from its image (R166). -/
def WeightSet.restored (x : WeightSet) (bs : Bytes) : WeightSet :=
  let ty := leAt bs 11392 1
  let b16 := leAt bs 11393 1 == 1
  let k := leAt bs 11394 2
  let cols := leAt bs 11396 2
  let blocks := kBlocks ty b16 k
  { x with elemType := ty, block16 := b16, k := k, kBlock := leAt bs 11400 4, outCol := leAt bs 11404 4,
           elems := (List.range cols).map (fun c => unpackBits (typeBits ty) k (slice bs (64 * c) 64)),
           scales := (List.range cols).map (fun c => if isMxType ty then (slice bs (8192 + 8 * c) blocks).map (fun b => b.toNat) else []),
           p0 := (List.range k).map (fun p => toSigned 64 (leAt bs (9216 + 16 * p) 8)),
           p1 := (List.range k).map (fun p => toSigned 64 (leAt bs (9224 + 16 * p) 8)),
           covered := (List.range blocks).map (fun b => BitVec.ofNat 128 (leAt bs (11264 + 16 * b) 16)),
           xmax := (List.range blocks).map (fun b => leAt bs (11408 + b) 1) }

/-- An issued instruction takes its latched values from its entry (R165, R167). -/
def MatInstr.restored (m : MatInstr) (bs : Bytes) : MatInstr :=
  let rows := leAt bs 20 4
  { m with word := BitVec.ofNat 64 (leAt bs 0 8), pos := BitVec.ofNat 64 (leAt bs 8 8), opnd := leAt bs 16 4 % 2 ^ 22,
           rows := (match m.op with | 1 => m.rows | 3 => rows * max 1 m.width | _ => rows), thread := leAt bs 24 1,
           block := BitVec.ofNat 512 (leAt bs 32 64) }

/-- The matrix queues and weight sets of a core from its array context (R167). The attributes declared for a set are those of the last MWLOAD still queued for it, or of its contents. -/
def Core.restoreArrays (k : Core) (bs : Bytes) : Core :=
  let step := fun (k : Core) (n : Nat) =>
    let q := (k.queue n).take 8
    let new := q.zipIdx.map (fun p => (p.1.seq, p.1.restored (slice bs (784 * n + 16 + 96 * p.2) 96)))
    { k with matrix := k.matrix.map (fun m => match new.find? (fun p => p.1 == m.seq) with | some p => p.2 | none => m) }
  let k := (List.range 4).foldl step k
  let set := fun (i : Nat) =>
    let x := (k.wset (i / 2) (i % 2)).restored (slice bs (4096 + 12288 * i) 12288)
    ((k.queue (i / 2)).filter (fun m => m.op == 1 && m.set == i % 2)).foldl (fun x m => x.declare m.word.toNat m.block.toNat)
      { x with declType := x.elemType, declBlock16 := x.block16, declK := x.k }
  { k with sets := ((List.range 8).map (fun i => (i, set i))).filter (fun p => p.2 != {}) }

/-- Step of an iteration of the Almanac that launched a thread: of the active one, by its header; of one swapped out, the step that the thread holds (R52, R97). -/
def State.threadStep (s : State) (th : Thread) (iter : Nat) : Nat :=
  match s.action th.launch, s.alm.hdr with
  | some a, some h => if a.gen = s.alm.gen then h.step iter else th.step
  | _, _ => th.step

/-- Everything that a SAVE wrote restored: threads, movers, the update engine, arrays, scratch and accumulators (R301, R307). -/
def State.restoreAll (s : State) : State :=
  let ctx := fun (key : Nat) => s.savedBytes (0x10000 + 4416 * key) 4416
  let t : State := { s with
    threads := s.threads.map (fun p => (p.1, p.2.restored (ctx p.1) (s.threadStep p.2)))
    movers := s.movers.map (fun p => (p.1, p.2.restored (s.savedBytes (0x1000 + 128 * p.1) 128)))
    cores := s.cores.map (fun p => (p.1, p.2.restoreArrays (s.savedBytes (0x33D0000 + 102400 * p.1) 102400))) }
  let t := t.restoreUpd (fun g => s.savedBytes (0x9000 + 64 * g) 64)
  (List.range 384).foldl (fun t g =>
    (t.store (scratchLpa g 0) (s.savedBytes (0x6000000 + 0x300000 * g) 0x300000)).store (accLpa g 0) (s.savedBytes (0x4E000000 + 0xC0000 * g) 0xC0000)) t

/-- Launches whose image load was abandoned start again from the lookup (R96). -/
def State.restartFetches (s : State) : State :=
  (s.cores.map (fun p => (p.1, p.2.fetches))).foldl (fun s p =>
    p.2.foldl (fun s l => match s.action l with
      | some a => (s.dropFetch p.1 l).launchOn a p.1
      | none => s) s) s

/-- The units go on: arrays and movers run, releases that came meanwhile take effect (R167, R302). -/
def State.goOn (s : State) : State :=
  let run := fun (v : Mover) => if v.status = .stopped then { v with status := .running } else v
  let free := fun (k : Core) => { k with arraysStopped := 0 }
  let s : State := { s with
    trans := { s.trans with preempt := .running, released := [], abandons := [], restoreAll := false }
    cores := s.cores.map (fun p => (p.1, free p.2))
    movers := s.movers.map (fun p => (p.1, run p.2)) }
  s.restartFetches

/-- The releases and abandonments that wait are applied (R302). -/
def State.applyReleases (seqs abandons : List Nat) (s : State) : State :=
  let each := fun (f : State → ParkRec → State) (l : List Nat) (s : State) =>
    l.foldl (fun s q => match s.trans.parks.find? (fun r => r.seq == q) with | some r => f s r | none => s) s
  each (fun s r => s.abandonPark r 0x86) abandons (each State.releasePark seqs s)

/-- Fault 0x89 for a header whose CRC fails (R305, R307; log 98). -/
def State.checkHeader (s : State) : State :=
  if crcOk (s.savedBytes 0 1024) then s else s.xFault 0x89 0xFF 0xFFFFFFFF 0xFFFF 0xFFFF 0 0 0

/-- Every CRC of a saved image checked (R307). -/
def State.checkSaved (s : State) : State := s.checkHeader.checkMovers.checkUpdates.checkCores.checkArrays

/-- PREEMPT_RESTORE_DONE: from SAVED every CRC is checked first; a failure leaves the package in RESTORING (R307). -/
def execPreemptRestoreDone (s : State) : Result :=
  when (s.trans.preempt == .restoring && !s.trans.restoreFailed) s
    (let t := if s.trans.restoreAll then s.checkSaved else s
     if t.log.arrivals.length = s.log.arrivals.length then
       State.applyReleases s.trans.released s.trans.abandons (if s.trans.restoreAll then s.restoreAll else s).goOn
     else { t with trans := { t.trans with restoreFailed := true } })

end Sys2Proof.Machine
end

