-- ==== Sys2Proof/Machine/Halt.lean ====
section
/-! DEFINITION. Halts (file 02, R69; file 11, R304; file 12, R332 and R503): stopping dispatch and the units, the save area of a halt, requests that are never answered, and the fenced state. -/
namespace Sys2Proof.Machine

/-- Every running thread stops (R69, R96). -/
def State.stopThreads (s : State) : State :=
  { s with threads := s.threads.map (fun p => (p.1, if p.2.status = .running then { p.2 with status := .stopped } else p.2)) }

/-- The save area of a halt, when there is one (R304). -/
def State.saveHalt (s : State) (abandoned : Nat) : State :=
  if s.dget 0x2642 0 = 0 then s else s.writeSaveArea 3 abandoned

/-- A halted package whose units have all reached their safe points records where they stopped (R69, R304). -/
def State.finishHalt (s : State) : State :=
  if s.fab.haltWait.isSome && s.allSafe then
    let s : State := { s with fab := { s.fab with haltWait := none }, trans := { s.trans with stopSdt := s.sdt } }
    s.saveHalt 0
  else s

/-- A halt (R69): dispatch stops, the units stop at their safe points, the state becomes HALTED with its code, and the package takes part in no further conjunction. The record 0xF4 holds the code and the missing ranks (R470); the Eaves lines become invalid (R260). -/
def State.haltNow (s : State) (code : Nat) (missing : BitVec 512) : State :=
  let s := ((s.stopUnits.stopThreads.stopMovers).dset 0x2121 0 code).eavesInvalidate
  let s := s.event 0xF4 .package 0xFF 0xFFFF (natLe 1 code ++ natLe 3 0 ++ natLe 64 missing.toNat)
  let trans := { s.trans with stopSlot := BitVec.ofNat 32 s.almanacSlot }
  let s : State := { s with
    alm := { s.alm with state := .halted, armCheck := none, resumeAt := none, cur := none }
    conj := { s.conj with windows := [] }
    fab := { s.fab with haltWait := some s.sdt }
    trans := trans }
  s.finishHalt

/-- The fenced state (R332): dispatch stops at once, the package halts with code 0x14 and goes quiet on every link. -/
def State.enterFence (s : State) (l : Nat) : State :=
  if s.fab.fenced then s
  else
    let s := s.event 0x94 .link (linkDie l) l (s.linkDetail l 0)
    let s := s.haltNow 0x14 0
    { s with fab := { s.fab with fenced := true } }

/-- Requests that threads, movers and the update engine have to other packages and that are unanswered. -/
def State.unanswered (s : State) : List Req :=
  s.trans.reqs.filter (fun r => r.target.isRemote && !r.done)

/-- A mover goes back to the position from which a request was issued: its descriptor, of those not retired, its element and offset. -/
def Mover.backTo (v : Mover) (pos : Nat × Nat × Nat) : Mover :=
  let desc := match v.open_.find? (fun o => o.idx == pos.1) with
    | some o => some o.desc
    | none => v.desc
  { v with cur := pos.1, elem := pos.2.1, off := pos.2.2, desc := desc, open_ := v.open_.filter (fun o => decide (o.idx < pos.1)), ahead := [] }
/-- An agent is taken as stopped where it issued a request (R503). -/
def State.stopAt (s : State) (r : Req) : State :=
  match r.agent with
  | .thread g t => s.setThread g t { s.thread g t with pc := r.pos.1 }
  | .mover d m | .moverDesc d m => s.setMover d m ((s.mover d m).backTo r.pos)
  | .update j => match s.updJob j with
    | some x => if x.pos = r.pos.2.1 then s.setJob { x with next := min x.next r.pos.1 } else s
    | none => s
  | _ => s

/-- The unanswered requests are abandoned, each agent is taken as stopped at the oldest of its own, and their number goes into the save area (R503). -/
def State.abandon (s : State) : State :=
  let n := s.unanswered.length
  let s := s.unanswered.reverse.foldl State.stopAt s
  let gone := s.unanswered.map (fun r => r.id)
  let s : State := { s with
    cache := { s.cache with eavesFills := s.cache.eavesFills.filter (fun f => !decide (f.req ∈ gone)) }
    trans := { s.trans with reqs := s.trans.reqs.filter (fun r => !(r.target.isRemote && !r.done)), stopSdt := s.sdt }
    fab := { s.fab with haltWait := none } }
  s.saveHalt n

/-- QUIET_REQUEST_ABANDON: 1 ms (1,600,000 ticks) after the effect slot of a halt. -/
def execQuietRequestAbandon (s : State) : Result :=
  match s.fab.haltWait with
  | none => .next s
  | some t =>
    if s.unanswered = [] then .next s
    else when (decide (t + 1600000 ≤ s.sdt)) s s.abandon

end Sys2Proof.Machine
end

