-- ==== Sys2Proof/Machine/LinkLayer.lean ====
section
/-! DEFINITION. The link layer of the Rafter fabric (file 12, R310 to R319, R328 to R333; file 01, R19 to R23): bring-up and wiring, flits received, credits, replay, retrains, fences, commits of the port map and routes, and the Seams and Ridges. -/
namespace Sys2Proof.Machine

/-! ### Bring-up (R311 to R313) -/

/-- The package takes part in link training: training has started and the package is not quiet (R423, R503). -/
def State.linksOn (s : State) : Bool := !s.quiet && (s.boot.mode == .ready || decide (0x0A ≤ s.boot.phase))

/-- The link is in Ethernet mode by its active role (R344). -/
def State.ethRole (s : State) (l : Nat) : Bool := pmRole (s.portMap l) == 0x13

/-- A link enters a state with a WIRING_FAULT code; a non-zero code newly entered is event 0x96 (R313). -/
def State.enterLink (s : State) (l : Nat) (st : LinkSt) (code : Nat) : State :=
  let k := s.link l
  let new := code != 0 && !(k.state == st && k.wiringFault.toNat == code)
  let s := s.setLink l { k with state := st, wiringFault := BitVec.ofNat 8 code }
  if new then s.event 0x96 .link (linkDie l) l (s.linkDetail l 0) else s

/-- The identity message that this package sends on a link (R313). -/
def State.ownIdentity (s : State) (l : Nat) : IdentityMsg :=
  ⟨s.fuse.serial, BitVec.ofNat 32 (s.dget 0x2700 5), BitVec.ofNat 10 s.rank, BitVec.ofNat 16 s.incarnation, BitVec.ofNat 6 l,
    BitVec.ofNat 5 (pmRole (s.portMap l))⟩

/-- The body of an identity message (R313), whose layout the spec does not give (DESIGN CHOICE, log 92): serial number, DOMAIN_ID, rank, incarnation, link number and ROLE from bit 0 up. -/
def identityBits (m : IdentityMsg) : Nat :=
  m.serial.toNat + m.domain.toNat * 2 ^ 64 + m.rank.toNat * 2 ^ 96 + m.incarnation.toNat * 2 ^ 112 + m.link.toNat * 2 ^ 128 + m.role.toNat * 2 ^ 136
/-- The identity message in a control flit. -/
def identityOf (x : Nat) : IdentityMsg :=
  ⟨BitVec.ofNat 64 (field x 32 64), BitVec.ofNat 32 (field x 96 32), BitVec.ofNat 10 (field x 128 10), BitVec.ofNat 16 (field x 144 16),
    BitVec.ofNat 6 (field x 160 6), BitVec.ofNat 5 (field x 168 5)⟩

/-- WIRING_FAULT that the peer's message gives (R313): loopback first, then mode, domain and peer (log 47). -/
def State.wiringCode (s : State) (l : Nat) (m : IdentityMsg) : Nat :=
  let pm := s.portMap l
  if m.serial = s.fuse.serial ∧ m.link.toNat = l then 4
  else if m.role.toNat = 0x13 then 5
  else if m.domain.toNat ≠ s.dget 0x2700 5 then 6
  else if m.rank.toNat ≠ pmPeerRank pm ∨ (pmPeerLink pm ≠ 0x3F ∧ m.link.toNat ≠ pmPeerLink pm) then 3
  else 0

/-- A trained link with the peer's message compared against the active port map (R313): ACTIVE, FENCED, MISWIRED or back to DETECT. Until the first commit nothing is compared. -/
def State.compareIdentity (s : State) (l : Nat) : State :=
  match (s.link l).peerMsg with
  | none => s
  | some m =>
    if !s.fab.committedOnce then s
    else match s.wiringCode l m with
      | 0 => (s.enterLink l (if pmFenced (s.portMap l) then .fenced else .active) 0).pump l
      | 5 => s.enterLink l .detect 5
      | c => s.enterLink l .miswired c

/-- LINK_RETRY_TIMER: a link that is DOWN tries again; one that has found no signal since the last try reports NO_SIGNAL (R312, R313, log 47). -/
def execLinkRetryTimer (link : Fin 36) (s : State) : Result :=
  let k := s.link link
  if !s.linksOn then .next s
  else if !pmEnable (s.portMap link) then .next s
  else match k.state with
    | .down => .next (if s.ethRole link then s.enterLink link .ethTraining 0 else s.enterLink link .detect 0)
    | .detect => .next (s.enterLink link .detect (if k.wiringFault = 0 then 1 else k.wiringFault.toNat))
    | _ => .next s

/-- LINK_DETECTED: DETECT to EQUALISE. -/
def execLinkDetected (link : Fin 36) (s : State) : Result :=
  when (s.linksOn && (s.link link).state == .detect) s (s.enterLink link .equalise 0)

/-- The lane map and polarity found are recorded, and the identity message is sent (R311, R313). -/
def State.equalised (s : State) (l : Nat) (laneMap : BitVec 24) (polarity : BitVec 8) : State :=
  let s := s.enterLink l .identify 0
  let s := s.setLink l { s.link l with laneMap := laneMap, polarity := polarity, peerMsg := none }
  let s : State := { s with time := { s.time with rxClock := s.time.rxClock ||| BitVec.ofNat 36 (2 ^ l) } }
  s.emit (.flit l ((s.link l).controlFlit false 1 (identityBits (s.ownIdentity l))))

/-- LINK_EQUALISED: IDENTIFY, or back to DETECT with LANE_MISSING when a lane is not there. -/
def execLinkEqualised (link : Fin 36) (laneMap : BitVec 24) (polarity : BitVec 8) (ok : Bool) (s : State) : Result :=
  when (s.linksOn && (s.link link).state == .equalise) s
    (if ok then s.equalised link laneMap polarity else s.enterLink link .detect 2)

/-- The peer's message is recorded and compared (R313). -/
def State.takeIdentity (s : State) (l : Nat) (m : IdentityMsg) : State :=
  let k := s.link l
  let s := s.setLink l { k with peerMsg := some m, peerRank := m.rank, peerLink := m.link }
  s.compareIdentity l

/-! ### Down and retrain (R314, R317, R319) -/

/-- A frame that waits on a link that went down: it goes on waiting, unless its route group has no live link left (R319). Beacons, vectors and seals are dropped (log 48). -/
def State.strand (s : State) (l : Nat) (f : TxFrame) : State :=
  let h := parseFrame f.bytes
  let g := s.route h.dest
  if f.vc = 0 then s.freeFlits f.inLink f.vc f.inFlits
  else if 16 ≤ g ∨ s.groupLinks g = [] then (s.noRoute l h.logTag).freeFlits f.inLink f.vc f.inFlits
  else
    let k := s.link l
    s.setLink l { k with txq := k.txq ++ [{ f with sent := 0 }] }

/-- The link reset on entry into DOWN (R319, R462): LINK_LOST when flits were unacknowledged, else event 0x91. -/
def State.linkDown (s : State) (l : Nat) : State :=
  let k := s.link l
  let waiting := k.txq
  let s := if k.replay ≠ [] then s.fatal 0x90 (linkDie l) .link 0xFFFFFFFF l 0xFFFF (s.linkDetail l 0)
    else s.event 0x91 .link (linkDie l) l (s.linkDetail l 0)
  let fresh : Link := { laneMap := k.laneMap, polarity := k.polarity, peerRank := k.peerRank, peerLink := k.peerLink }
  let s := s.setLink l fresh
  let s : State := { s with
    time := { s.time with rxClock := s.time.rxClock &&& ~~~ (BitVec.ofNat 36 (2 ^ l)) }
    fab := { s.fab with
      links := s.fab.links.map (fun p => (p.1, { p.2 with txq := mapIf (fun f => f.inLink == l) (fun f => { f with inFlits := 0 }) p.2.txq }))
      inbox := mapIf (fun r => r.link == l) (fun r => { r with flits := 0 }) s.fab.inbox } }
  waiting.foldl (fun s f => s.strand l f) s

/-- LINK_DOWN. -/
def execLinkDown (link : Fin 36) (s : State) : Result :=
  match (s.link link).state with
  | .down | .disabled | .ethTraining | .ethUp => .next s
  | _ => .next (s.linkDown link)

/-- A retrain keeps sequence state and replay buffer (R314). -/
def State.retrain (s : State) (l : Nat) : State :=
  let s := s.dadd 0x3701 (l + 1) 1
  s.setLink l { s.link l with retrainDue := false, fecDue := false, fec := (0, 0), resends := 0 }

/-- LINK_RETRAIN: for a link whose corrected symbols passed RETRAIN_THRESHOLD, in a dusk slot at whose start it had nothing unacknowledged; or at once after 16 resends (R314, R317). -/
def execLinkRetrain (link : Fin 36) (s : State) : Result :=
  let k := s.link link
  when (!s.quiet && (k.state == .active || k.state == .fenced || k.state == .miswired || k.state == .identify) &&
      (k.retrainDue || (s.inDusk && k.fecDue && !decide (2000 + link.val ∈ s.log.deferred))))
    s (s.retrain link)

/-! ### Control flits (R316, R317) -/

/-- FTYPE of a flit. -/
def flitType (x : Nat) : Nat := field x 1598 2
/-- VC of a flit. -/
def flitVc (x : Nat) : Nat := field x 1595 3
/-- SEQ of a flit. -/
def flitSeq (x : Nat) : Nat := field x 1582 12
/-- ACK of a flit. -/
def flitAck (x : Nat) : Nat := field x 1570 12
/-- PAYLOAD of a flit, 192 bytes. -/
def flitPayload (x : Nat) : Bytes := natLe 192 (field x 32 1536)
/-- FLIT_CRC is right (R315). -/
def flitCrcOk (x : Nat) : Bool := field x 0 32 == crc32c (natLe 196 (x >>> 32))

/-- IDENTITY: a control flit of MSG_TYPE 1 (R313, R316); one that fails its CRC is discarded. -/
def execIdentity (link : Fin 36) (flit : BitVec 1600) (s : State) : Result :=
  let x := flit.toNat
  let st := (s.link link).state
  if flitType x ≠ 0 ∨ field x 1472 8 ≠ 1 then .refused .malformedCommand
  else when (s.linksOn && (st == .identify || st == .miswired)) s
    (if flitCrcOk x then s.takeIdentity link (identityOf x) else s)

/-- Flits up to and including an acknowledged one leave the replay buffer (R317). -/
def Link.acked (k : Link) (ack now : Nat) : Link :=
  if k.replay.any (fun p => p.1 == ack) then
    { k with replay := (k.replay.dropWhile (fun p => p.1 != ack)).drop 1, resends := 0, progress := now }
  else k

/-- Cumulative credits taken up on a virtual channel; the oldest flits are freed first (R316, log 49). -/
def Link.credited (k : Link) (vc new : Nat) : Link :=
  let n := (new + 65536 - tget 0 k.peerFreed vc) % 65536
  { k with flight := tset k.flight vc ((tget [] k.flight vc).drop n), peerFreed := tset k.peerFreed vc new }

/-- The acknowledgement and credits of a control flit (R316). -/
def State.takeCredits (s : State) (l x : Nat) : State :=
  let k := (s.link l).acked (flitAck x) s.sdt
  let k := (List.range 5).foldl (fun k vc => k.credited vc (field x (1488 + 16 * vc) 16)) k
  (s.setLink l k).pump l

/-- A resend from ACK + 1, counted; the sixteenth makes a retrain due (R317). -/
def State.resend (s : State) (l : Nat) : State :=
  let k := s.link l
  if k.replay = [] ∨ k.retrainDue ∨ k.state ≠ .active then s
  else
    let s := (s.dadd 0x3700 (l + 1) 1).setLink l { k with resends := k.resends + 1, progress := s.sdt, retrainDue := 16 ≤ k.resends + 1 }
    k.replay.foldl (fun s p => s.emit (.flit l p.2)) s

/-- States in which a link carries control flits (R312, R331). -/
def Link.trained (k : Link) : Bool := k.state == .identify || k.state == .active || k.state == .miswired || k.state == .fenced

/-- CREDIT_UPDATE: a control flit without NAK; one that fails its CRC is discarded, and a quiet package takes up nothing (R316, R503). -/
def execCreditUpdate (link : Fin 36) (flit : BitVec 1600) (s : State) : Result :=
  let x := flit.toNat
  if flitType x ≠ 0 ∨ field x 1480 8 = 1 then .refused .malformedCommand
  else when (s.link link).trained s
    (if flitCrcOk x && !s.quiet && (s.link link).state == .active then s.takeCredits link x else s)

/-- NAK: a control flit that asks for a replay from ACK + 1 (R317). -/
def execNak (link : Fin 36) (flit : BitVec 1600) (s : State) : Result :=
  let x := flit.toNat
  if flitType x ≠ 0 ∨ field x 1480 8 ≠ 1 then .refused .malformedCommand
  else when (s.link link).trained s
    (if flitCrcOk x && !s.quiet && (s.link link).state == .active then (s.takeCredits link x).resend link else s)

/-- REPLAY_TIMEOUT: flits are outstanding and ACK has not advanced for 2 µs (3,200 ticks). -/
def execReplayTimeout (link : Fin 36) (s : State) : Result :=
  let k := s.link link
  when (!s.quiet && k.state == .active && k.replay != [] && !k.retrainDue && s.elapsed k.progress 3200) s (s.resend link)

/-! ### Flits and frames received (R317 to R321, R327, R330 to R333) -/

/-- Bits of the request that a forwarded frame's link choice is taken from (R326): the LPA of a request, TYPE_FIELD otherwise. A response carries no LPA; its TAG stands for it (log 50). -/
def Frame.key (f : Frame) : Nat :=
  match frameVc f.ftype with
  | some 2 => reqKey (f.tf % 2 ^ 44)
  | some 3 => leAt f.body 0 8 % 2 ^ 46
  | _ => f.tf % 2 ^ 32

/-- A whole frame that arrived on a link: dropped on a fenced link, counted when its type is reserved or its incarnation superseded at ingress, delivered here, or sent on with one hop more (R320, R321, R326, R330, R331). -/
def State.frameArrived (s : State) (l vc : Nat) (p : RxPart) : State :=
  let f := parseFrame p.bytes
  let pm := s.portMap l
  if pmFenced pm then s
  else if (frameVc f.ftype).isNone then (s.dadd 0x3706 0 1).freeFlits l vc p.flits
  else if f.src = pmPeerRank pm ∧ f.inc ≠ s.dget 0x2722 (l + 1) then (s.dadd 0x3702 1 1).freeFlits l vc p.flits
  else if f.dest = s.rank ∨ frameVc f.ftype = some 0 then s.deliver ⟨l, p.half, vc, p.flits, p.bytes⟩
  else if 15 ≤ f.hops + 1 then (s.dadd 0x3706 0 1).freeFlits l vc p.flits
  else s.forward { f with hops := f.hops + 1 } f.key l p.half p.flits

/-- The payload of an accepted flit joins its frame; the frame is complete once its header's LENGTH has arrived (R318, R320). -/
def State.takePayload (s : State) (l x : Nat) : State :=
  let k := s.link l
  let vc := flitVc x
  let half := bit x 1594
  let old := tfind k.rxPart vc
  let part : Option RxPart :=
    if flitType x = 1 then some ⟨half, 1, flitPayload x⟩
    else old.map (fun p => { p with flits := p.flits + 1, bytes := p.bytes ++ flitPayload x })
  let lost := if flitType x = 1 then (match old with | some p => p.flits | none => 0) else (if old.isNone then 1 else 0)
  let s := if lost = 0 then s else s.freeFlits l vc lost
  let k := s.link l
  match part with
  | none => s
  | some p =>
    if 16 + frameLength p.bytes ≤ p.bytes.length then
      (s.setLink l { k with rxPart := terase k.rxPart vc }).frameArrived l vc p
    else s.setLink l { k with rxPart := tset k.rxPart vc p }

/-- A flit accepted in order, acknowledged by a control flit (R317; log 49). -/
def State.acceptFlit (s : State) (l x : Nat) : State :=
  let k := (s.link l).acked (flitAck x) s.sdt
  let s := s.setLink l { k with rxSeq := (k.rxSeq + 1) % 4096, nakSent := false }
  ((s.sendControl l false).takePayload l x).pump l

/-- A flit that fails its CRC or comes out of order is discarded; NAK is sent once until the expected flit arrives (R317). -/
def State.discardFlit (s : State) (l : Nat) : State :=
  let k := s.link l
  if k.nakSent then s else (s.setLink l { k with nakSent := true }).sendControl l true

/-- Symbols that the FEC corrected on a link, counted; more than RETRAIN_THRESHOLD of them in one second of SDT make a retrain due (R314). -/
def State.fecCorrected (s : State) (l n : Nat) : State :=
  if n = 0 then s
  else
    let k := s.link l
    let second := s.slot / 781250
    let total := (if k.fec.1 = second then k.fec.2 else 0) + n
    (s.dadd 0x3707 (l + 1) n).setLink l { k with fec := (second, total), fecDue := k.fecDue || decide (s.dget 0x2760 0 < total) }

/-- FLIT_RECEIVED: a FIRST or NEXT flit, and the symbols that the FEC corrected since the last one. Only an ACTIVE or FENCED link takes it; a quiet package takes nothing; a reserved FTYPE or VC is ignored. -/
def execFlitReceived (link : Fin 36) (flit : RxFlit) (s : State) : Result :=
  let x := flit.bits.toNat
  let t := s.fecCorrected link flit.fec
  let k := t.link link
  if flitType x = 0 then .refused .malformedCommand
  else when k.trained s
    (if t.quiet || !(k.state == .active || k.state == .fenced) then t
     else if !flitCrcOk x then t.discardFlit link
     else if flitType x = 3 ∨ 5 ≤ flitVc x then t
     else if flitSeq x ≠ k.rxSeq then t.discardFlit link
     else t.acceptFlit link x)

/-! ### Fences (R331, R332) -/

/-- FENCE_NOTICE: on an ACTIVE link, from a peer that expects another incarnation. -/
def execFenceNotice (link : Fin 36) (incarnation : BitVec 16) (s : State) : Result :=
  when (s.link link).trained s
    (if !s.quiet && (s.link link).state == .active && incarnation.toNat != s.incarnation then s.enterFence link else s)

/-- The control flit that carries a fence notice: PEER_INCARNATION in the low bits of MSG (R316, R331; log 51). -/
def State.fenceFlit (s : State) (l : Nat) : BitVec 1600 :=
  (s.link l).controlFlit false 2 (s.dget 0x2722 (l + 1))

/-- FENCE_NOTICE_SEND: once per millisecond on a link whose active FENCED bit is set. -/
def execFenceNoticeSend (link : Fin 36) (s : State) : Result :=
  when (!s.quiet && (s.link link).trained && pmFenced (s.portMap link) && s.elapsed (s.link link).noticeNext 0) s
    ((s.setLink link { s.link link with noticeNext := s.sdt + 1600000 }).emit (.flit link (s.fenceFlit link)))

/-- The count vectors, early grants and windows of superseded holders are dropped when RANK_INCARNATIONS is written, so that none of them can still be applied (R367, R368; log 93). -/
def State.dropStale (s : State) : State :=
  let current := fun rank inc => inc == s.rankIncarnation rank
  { s with fab := { s.fab with
      tokInbox := s.fab.tokInbox.filter (fun v => current v.rank v.inc)
      grants := s.fab.grants.filter (fun g => current g.rank g.inc)
      winIn := s.fab.winIn.filter (fun w => current w.rank w.inc) } }

/-- FENCE_DRAIN (R367): a frame waits to be applied whose incarnation is no longer the one its rank or link should bear. What waits in another form is dropped by `dropStale`. -/
def State.fenceDrain (s : State) : Bool :=
  s.fab.inbox.any (fun r =>
    let f := parseFrame r.bytes
    f.inc != s.rankIncarnation f.src ||
    (decide (r.link < 36) && f.src == pmPeerRank (s.portMap r.link) && f.inc != s.dget 0x2722 (r.link + 1)))

/-! ### Port map, routes and geometry (R323 to R328) -/

/-- A link's state after its port map record has changed (R312, R313, R331, R344). -/
def State.reviewLink (s : State) (l : Nat) : State :=
  let k := s.link l
  let pm := s.portMap l
  if !pmEnable pm then (if k.state = .disabled then s else s.setLink l { k with state := .disabled })
  else if s.ethRole l then
    (match k.state with
      | .ethTraining | .ethUp => s
      | _ => s.setLink l { k with state := .ethTraining })
  else match k.state with
    | .disabled | .ethTraining | .ethUp => s.linkDown l
    | .identify | .miswired | .active | .fenced => s.compareIdentity l
    | _ => s

/-- The staged port map, route table and groups become the active ones (R328), and every link is compared anew (R313). -/
def State.commitFabric (s : State) : State :=
  let routes := s.routeStaged
  let groups := (List.range 16).map s.groupStaged
  let s := (List.range 36).foldl (fun s l => s.dset 0x2720 (l + 1) (s.portMapStaged l)) s
  let s := s.lset 0x2730 0 routes
  let s := (List.range 16).foldl (fun s g => s.dset 0x2732 (g + 1) (groups.getD g 0)) s
  let s : State := { s with fab := { s.fab with committedOnce := true } }
  (List.range 36).foldl (fun s l => s.reviewLink l) s

/-- The staged port map takes the defaults of the geometry (R325). -/
def State.recomputeStaged (s : State) : State :=
  (List.range 36).foldl (fun s l =>
    s.dset 0x2721 (l + 1) (defaultPortMap (s.domainSize 0) (s.domainSize 1) (s.domainSize 2) s.rank l)) s

/-- A write of INCARNATION ends the fenced state (R332). -/
def State.unfence (s : State) : State := { s with fab := { s.fab with fenced := false } }

/-! ### Seams, Ridges and dies (R19 to R23, R471) -/

/-- The route of R19 from one die to another: directions numbered twice the subindex of `0x3010` less two, plus 1 against the order in which that entry names the dies. -/
def dieRoute : Nat → Nat → List Nat
  | 0, 1 => [0] | 1, 0 => [1] | 3, 2 => [2] | 2, 3 => [3] | 0, 3 => [4] | 3, 0 => [5] | 1, 2 => [6] | 2, 1 => [7]
  | 0, 2 => [0, 6] | 2, 0 => [3, 5] | 1, 3 => [1, 4] | 3, 1 => [2, 7]
  | _, _ => []
/-- The traffic class (R20): 0 TIME, 1 CTRL, 2 MEM, 3 RAFT. -/
def loadClass : SeamLoad → Nat
  | .slotBoundary | .dispatch | .agreement => 0
  | .lodestar | .dictionary | .report => 1
  | .request | .response => 2
  | .rafter _ _ => 3
/-- The virtual channel: one for each class, and within RAFT one for each channel and dateline half of R318. -/
def loadVc : SeamLoad → Nat
  | .rafter vc half => 3 + 2 * vc.val + ofBool half
  | load => loadClass load
/-- Feature level 2 sends an all-zero 64-byte payload on a Ridge as a single header flit (R30). -/
def State.headerOnly (s : State) (dir : Nat) (zero : Bool) : Bool := zero && decide (4 ≤ dir) && s.fuse.featureLevel == 2

/-- The credits that a right flit moves (R19, R20): a diagonal one holds a credit of its first hop until it has crossed the second. -/
def State.seamCredit (s : State) (route : List Nat) (hop vc : Nat) : State :=
  let at_ := route.getD 0 0 * 16 + vc
  let used := tget 0 s.fab.seamHeld at_
  match route, hop with
  | [_, _], 0 => { s with fab := { s.fab with seamHeld := tset s.fab.seamHeld at_ (used + 1) } }
  | [_, _], _ => { s with fab := { s.fab with seamHeld := if used ≤ 1 then terase s.fab.seamHeld at_ else tset s.fab.seamHeld at_ (used - 1) } }
  | _, _ => s
/-- A flit whose CRC is right ends its replays and is counted by class (R479); one that is not is replayed and counted, and after 16 replays the package is faulted and quiet (R23). -/
def State.seamFlit (s : State) (dir hand cls : Nat) (header ok : Bool) : State :=
  let tries := tget 0 s.fab.seamTries dir
  let done : State := { s with fab := { s.fab with seamTries := terase s.fab.seamTries dir, seamHand := terase s.fab.seamHand dir } }
  if ok then
    let done := if cls = 2 then done.dadd 0x3011 (dir / 2 + 1) 1 else if cls = 3 then done.dadd 0x3012 (dir / 2 + 1) 1 else done
    done.emit (.seam dir cls header true)
  else if tries < 16 then
    let again : State := { s with fab := { s.fab with seamTries := tset s.fab.seamTries dir (tries + 1), seamHand := tset s.fab.seamHand dir hand } }
    (again.dadd 0x3010 (dir / 2 + 1) 1).emit (.seam dir cls header false)
  else done.packageFatal 0xF0 0xFF .package 0xFFFF (natLe 1 (dir / 2 + 1))

/-- A flit may be sent on a hop of its route: a direction replays its flit in hand before it sends another (R23), a new flit needs a credit of its channel (R20; log 90), and the second hop needs a flit that waits for it. -/
def State.seamMay (s : State) (route : List Nat) (hop dir hand vc : Nat) : Bool :=
  let used := tget 0 s.fab.seamHeld (route.getD 0 0 * 16 + vc)
  (if tget 0 s.fab.seamTries dir = 0 then hop == 1 || decide (used ≤ Config.seamCredits (dir * 16 + vc)) else tget 0 s.fab.seamHand dir == hand) &&
    (hop == 0 || decide (0 < used))
/-- SEAM_RIDGE_FLIT: one crossing of a flit, by the only route of R19. -/
def execSeamRidgeFlit (hop : SeamHop) (load : SeamLoad) (wire : SeamWire) (s : State) : Result :=
  let route := dieRoute hop.src hop.dst
  match route[hop.hop.val]? with
  | none => .next s
  | some dir =>
    let hand := loadVc load * 16 + hop.src.val * 4 + hop.dst.val
    let t := s.seamFlit dir hand (loadClass load) (s.headerOnly dir wire.zero) wire.crcOk
    if s.boot.inReset || s.boot.mode == .dim then .next s
    else when (s.seamMay route hop.hop dir hand (loadVc load)) s (if wire.crcOk then t.seamCredit route hop.hop (loadVc load) else t)

/-- DIE_LOST: the die stops answering on every Seam and Ridge. -/
def execDieLost (die : Fin 4) (s : State) : Result :=
  when (!s.boot.inReset && s.boot.mode != .faulted && s.boot.mode != .dim) s
    (({ s with fuse := { s.fuse with answers := pset s.fuse.answers die false } } : State).packageFatal 0xF1 die .package 0xFFFF [])

end Sys2Proof.Machine
end

