-- ==== Sys2Proof/Machine/Fabric.lean ====
section
/-! DEFINITION. The actions of the Rafter fabric (file 12, R334 to R336, R502): the memory accesses an action makes, gate signals, and windows as sent and as received. -/
namespace Sys2Proof.Machine

/-! ### What an action reads and writes (R502) -/

/-- What an action's access needs. -/
def Action.ctx (a : Action) (va : Nat) (write : Bool) : XCtx := ⟨a.asid, va, if write then 1 else 0, false, none, a.transit.die⟩

/-- Parity of the iteration that an action belongs to (R58). -/
def Action.parity (a : Action) : Bool := a.iter % 2 == 1

/-- A fabric action ends: nothing of it is left in the fabric (R502). Its transit stays incomplete. -/
def State.dropFabric (s : State) (id : Nat) : State :=
  let s := s.dropAgent (.action id)
  { s with fab := { s.fab with
      winOut := s.fab.winOut.filter (fun w => w.action != id)
      roots := s.fab.roots.filter (fun r => r.action != id)
      contribs := s.fab.contribs.filter (fun c => c.action != id)
      exchanges := s.fab.exchanges.filter (fun x => x.action != id)
      gateOut := s.fab.gateOut.filter (fun g => g.1 != id)
      closing := s.fab.closing.filter (fun c => c != id) } }

/-- Fatal fault 0x93 RAFTER_DESCRIPTOR (R502): the link, the tag and the faulting VA, zero when it is not one of translation. -/
def State.descFault (s : State) (a : Action) (l tag va : Nat) : State :=
  (s.fatal 0x93 a.transit.die .link a.step (if l < 36 then l else 0xFFFF) 0xFFFF (s.linkDetail l tag ++ natLe 8 va)).dropFabric a.id

/-- A failed translation of a fabric action (R502). -/
def State.fabricXFault (s : State) (a : Action) (tag va : Nat) (x : Xlate) : State :=
  match x with
  | .park _ _ => s.descFault a 0xFF tag va
  | .fault code => (s.xFault code a.transit.die a.step 0xFFFF 0xFFFF a.asid va (agentCode (.action a.id))).dropFabric a.id
  | .poison lpa => (s.memoryPoison lpa .link a.transit.die a.step 0xFFFF 0xFFFF).dropFabric a.id
  | _ => s

/-- An action's work over spans: every address is translated first, then the spans to be read are read, and `k` goes on with the bytes and pieces of each span. Reads of other packages are waited for and kept for the next attempt. -/
def State.actionWork (s : State) (a : Action) (tag : Nat) (spans : List Span) (k : State → List Bytes → List Pieces → State) : State :=
  match s.spanData a.ctx (.action a.id) a.transit.die a.step a.asid (0, 0, 0) spans with
  | (s, .fails va _ x) => s.fabricXFault a tag va x
  | (s, .waits) => s
  | (s, .poison lpa) => (s.memoryPoison lpa .link a.transit.die a.step 0xFFFF 0xFFFF).dropFabric a.id
  | (s, .ready bss pss) => k s bss pss

/-- Bytes that an action writes at a target: applied here, or sent to the owner. -/
def State.actionStore (s : State) (a : Action) (va : Nat) (t : Target) (alloc : Bool) (bs : Bytes) : State :=
  let r := engineReq (.action a.id) a.transit.die .store t bs.length bs alloc a.step a.asid va (0, 0, 0)
  match t with
  | .here lpa => (s.arriveWrite a.transit.die lpa bs alloc .link 0xFFFF 0xFFFF a.step).noteOne a.transit.die
  | _ => if bs = [] then s else (s.issue r false).1

/-- Bytes that an action writes over translated pieces. -/
def State.actionWrite (s : State) (a : Action) (ps : Pieces) (bs : Bytes) : State :=
  (ps.foldl (fun (acc : State × Bytes) p =>
    (acc.1.actionStore a p.1 p.2.2.1 (bit p.2.2.2 0) (acc.2.take p.2.1), acc.2.drop p.2.1)) (s, bs)).1

/-- The action's stores to other packages are all acknowledged. -/
def State.storesDone (s : State) (id : Nat) : Bool :=
  !s.trans.reqs.any (fun r => r.agent == Agent.action id && r.kind != .load)

/-- A fabric action is done; it completes once its stores to other packages are acknowledged (R60, R334). -/
def State.closeAction (s : State) (id : Nat) : State :=
  if s.storesDone id then (s.dropFabric id).completeAction id
  else { s with fab := { s.fab with closing := addNew id s.fab.closing } }

/-- The fabric's own work goes on: the package takes part and is not halted (R69). -/
def State.fabricMay (s : State) : Bool := s.alive && !s.quiet && s.alm.state != .halted

/-! ### Gate signals (R334) -/

/-- A GATE_SIGNAL fires: gate 0 completes at once, another sends GATE_INC. -/
def State.startGate (s : State) (a : Action) : State :=
  let rank := field a.transit.param 0 10
  let gate := field a.transit.param 10 12
  if gate = 0 then s.completeAction a.id
  else
    let s : State := { s with fab := { s.fab with gateOut := s.fab.gateOut ++ [(a.id, rank, gate)] } }
    s.send 0x28 rank 0 a.transit.die a.parity gate [] gate

/-- The gate counter of this package rises, and the increment is acknowledged by the die that holds it (R58, R320, R334). A GATE_SIGNAL raises no vote (R214). -/
def State.takeGateInc (s : State) (f : Frame) : State :=
  let gate := f.tf % 4096
  let s := s.bumpGate gate f.parity
  s.send 0x29 f.src 0 (gate / 1024) f.parity gate [] gate

/-- GATE_INC: the oldest delivered GATE_INC frame is applied. -/
def execGateInc (s : State) : Result :=
  match s.takeFrame 0x28 with
  | none => .next s
  | some (r, f, t) => .next ((t.takeGateInc f).free_ r)

/-- The GATE_SIGNAL that an acknowledgement answers completes (R334). -/
def State.takeGateAck (s : State) (f : Frame) : State :=
  match s.fab.gateOut.find? (fun g => g.2.1 == f.src && g.2.2 == f.tf % 4096) with
  | none => s
  | some g => ({ s with fab := { s.fab with gateOut := s.fab.gateOut.erase g } } : State).completeAction g.1

/-- GATE_ACK. -/
def execGateAck (s : State) : Result :=
  match s.takeFrame 0x29 with
  | none => .next s
  | some (r, f, t) => .next ((t.takeGateAck f).free_ r)

/-! ### Windows sent (R335, R336) -/

/-- Working slots from the beginning of time up to a slot (R49). -/
def workIndex (slot : Nat) : Nat := slot - (slot + 1) / 64

/-- SRC of a window descriptor. -/
def wdSrc (d : Nat) : Nat := field d 200 56
/-- DST of a window descriptor. -/
def wdDst (d : Nat) : Nat := field d 144 56
/-- LENGTH of a window descriptor. -/
def wdLength (d : Nat) : Nat := field d 112 32
/-- REMOTE_GATE of a window descriptor. -/
def wdGate (d : Nat) : Nat := field d 100 12
/-- LAYOUT_GEN of a window descriptor. -/
def wdGen (d : Nat) : Nat := field d 84 16

/-- Frames of a window: at most 4,096 bytes, none across a 64 KiB page of the destination (log 52). `fuel` bounds their number. -/
def windowFrames (dst : Nat) : Nat → Nat → Nat → List (Nat × Nat)
  | 0, _, _ => []
  | fuel + 1, off, n =>
    if n = 0 then []
    else
      let k := min n (min 4096 (65536 - (dst + off) % 65536))
      (off, k) :: windowFrames dst fuel (off + k) (n - k)

/-- Rank at which a target lies. -/
def State.targetRank (s : State) : Target → Nat
  | .remote r _ => r
  | _ => s.rank

/-- LPA of a target at its owner. -/
def Target.lpa : Target → Nat
  | .here a => a
  | .remote _ a => a
  | .host _ a => a

/-- The destination is permitted on the link that UNIT names (R326, R347): the PEER_RANK of a Rafter link, another package's page on an Ethernet-mode link; the router takes any. -/
def State.windowDestOk (s : State) (a : Action) (t : Target) : Bool :=
  if a.transit.unit = 63 then true
  else
    let l := a.transit.die.val * 9 + a.transit.unit
    if s.ethRole l then t.isRemote else s.targetRank t == pmPeerRank (s.portMap l)

/-- A window's record is opened once its descriptor and every address it names are found good. -/
def State.openWindow (s : State) (a : Action) (d : Nat) (dst : Pieces) : State :=
  if dst.any (fun p => !s.windowDestOk a p.2.2.1) then s.descFault a (if a.transit.unit = 63 then 0xFF else a.transit.die.val * 9 + a.transit.unit) 0 0
  else
    let seq := s.fab.nextWin
    let n := wdLength d
    let frames := if n = 0 then [(0, 0)] else windowFrames (wdDst d) (n / 2048 + 2) 0 n
    let w : WinOut := ⟨a.id, seq, BitVec.ofNat 256 d, frames, 0, false, workIndex s.slot⟩
    { s with fab := { s.fab with winOut := s.fab.winOut ++ [w], nextWin := (seq + 1) % 2 ^ 32 } }

/-- A RAFTER_WINDOW fires (R335, R336, R502). -/
def State.startWindow (s : State) (a : Action) : State :=
  s.actionWork a 0 [⟨a.transit.addr, 32, false, true⟩] (fun s bs _ =>
    let d := leNat (nthBytes bs 0)
    if field d 0 84 ≠ 0 then s.descFault a 0xFF 0 0
    else
      let n := wdLength d
      s.actionWork a 0 [⟨wdSrc d, n, false, false⟩, ⟨wdDst d, max 1 n, true, false⟩] (fun s _ pss =>
        (s.openWindow a d (nthPieces pss 1)).dropLoads (.action a.id)))

/-- The window being sent with a WINDOW_SEQ. -/
def State.window (s : State) (seq : Nat) : Option WinOut := s.fab.winOut.find? (fun w => w.seq == seq)

/-- Working slots since the window fired. -/
def State.windowAge (s : State) (w : WinOut) : Nat := workIndex s.slot - w.opened

/-- The frame at the head of a window may be sent now (R336): its pacing slot has come. -/
def State.windowDue (s : State) (a : Action) (w : WinOut) : Bool :=
  decide (w.next < w.frames.length) && decide (w.next * a.transit.param / max 1 w.frames.length ≤ s.windowAge w)

/-- Window extension (R321). -/
def windowExt (seq total off gate : Nat) : Bytes :=
  natLe 16 (gate % 4096 * 2 ^ 20 + off % 2 ^ 32 * 2 ^ 32 + total % 2 ^ 32 * 2 ^ 64 + seq % 2 ^ 32 * 2 ^ 96)

/-- One frame of a window leaves by the route table or by the link that UNIT names (R326). `eth` sends it on an Ethernet-mode link. -/
def State.windowOut (s : State) (a : Action) (w : WinOut) (t : Target) (body : Bytes) (eth : Nat → Nat → Frame → State → State) : State :=
  let rank := s.targetRank t
  let gen := wdGen w.desc.toNat
  let tf := t.lpa % 2 ^ 44
  if a.transit.unit = 63 then s.send 0x20 rank gen a.transit.die a.parity tf body 0
  else
    let l := a.transit.die.val * 9 + a.transit.unit
    if s.ethRole l then eth l w.seq (s.frame 0x20 rank gen a.transit.die a.parity tf body) s
    else if s.live l then s.sendOn l 0x20 gen a.transit.die a.parity tf body rank
    else s.noRoute l w.seq

/-- The next frame of a window is read and sent. -/
def State.sendWindow (s : State) (a : Action) (w : WinOut) (eth : Nat → Nat → Frame → State → State) : State :=
  let d := w.desc.toNat
  let (off, n) := w.frames.getD w.next (0, 0)
  s.actionWork a w.seq [⟨wdSrc d + off, n, false, true⟩, ⟨wdDst d + off, max 1 n, true, false⟩] (fun s bs pss =>
    let t := match nthPieces pss 1 with
      | p :: _ => p.2.2.1
      | [] => .here 0
    let s : State := { s with fab := { s.fab with
      winOut := mapIf (fun x => x.seq == w.seq) (fun x => { x with next := x.next + 1 }) s.fab.winOut } }
    (s.windowOut a w t (windowExt w.seq (wdLength d) off (wdGate d) ++ nthBytes bs 0) eth).dropLoads (.action a.id))

/-- A window completes at the later of the end of its PARAM working slots and WINDOW_DONE (R336). -/
def State.finishWindow (s : State) (w : WinOut) : State :=
  match s.action w.action with
  | none => s
  | some a =>
    if w.done ∧ a.transit.param ≤ s.windowAge w then
      ({ s with fab := { s.fab with winOut := s.fab.winOut.filter (fun x => x.seq != w.seq) } } : State).closeAction w.action
    else s

/-- Every window whose time has come completes; done at each slot boundary. -/
def State.finishWindows (s : State) : State := s.fab.winOut.foldl State.finishWindow s

/-! ### Windows received (R336) -/

/-- Key of the window that a frame belongs to, and its tracking record. -/
def State.winIn (s : State) (f : Frame) (seq : Nat) : Option WinIn :=
  s.fab.winIn.find? (fun w => w.rank == f.src && w.die == f.die && w.seq == seq)

/-- WINDOW_SEQ, TOTAL_LENGTH, OFFSET and REMOTE_GATE of a window frame. -/
def windowFields (f : Frame) : Nat × Nat × Nat × Nat :=
  let x := leAt f.body 0 16
  (field x 96 32, field x 64 32, field x 32 32, field x 20 12)

/-- A window frame can be taken: its window is tracked, is whole in one frame, or an entry of the die that owns its bytes is free (R336; log 53). -/
def State.winRoom (s : State) (f : Frame) : Bool :=
  let (seq, total, _, _) := windowFields f
  (s.winIn f seq).isSome || decide (total ≤ f.body.length - 16) ||
    decide ((s.fab.winIn.filter (fun w => w.owner == lpaDie (f.tf % 2 ^ 44))).length < 1024)

/-- Every byte of a range is memory (R38). -/
def memoryRange (a n : Nat) : Bool := isMemory a && isMemory (a + (n - 1)) && region a == region (a + (n - 1))

/-- Bytes from another package written here; an address that memory does not answer is refused with fault 0x82 (R38). -/
def State.foreignWrite (s : State) (a : Nat) (bs : Bytes) : State :=
  if bs = [] then s
  else if !memoryRange a bs.length then
    s.xFault 0x82 (lpaDie a) 0xFFFFFFFF 0xFFFF 0xFFFF 0 a (agentCode (.action 0))
  else s.arriveWrite noDie a bs true .link 0xFFFF 0xFFFF 0xFFFFFFFF

/-- The bytes of a window frame are written and counted; the last increments REMOTE_GATE and returns WINDOW_DONE. `back` sends the answer. -/
def State.takeWindow (s : State) (f : Frame) (back : Frame → State → State) : State :=
  let (seq, total, _, gate) := windowFields f
  let bs := f.body.drop 16
  let old := s.winIn f seq
  let got := (match old with | some w => w.got | none => 0) + bs.length
  let owner := match old with | some w => w.owner | none => lpaDie (f.tf % 2 ^ 44)
  let s := s.foreignWrite (f.tf % 2 ^ 44) bs
  let rest := s.fab.winIn.filter (fun w => !(w.rank == f.src && w.die == f.die && w.seq == seq))
  if total ≤ got then
    let s : State := { s with fab := { s.fab with winIn := rest } }
    let s := s.bumpGate gate f.parity
    back (s.frame 0x21 f.src 0 owner f.parity seq []) s
  else
    let w : WinIn := ⟨f.src, f.inc, f.die, seq, owner, got⟩
    { s with fab := { s.fab with winIn := rest ++ [w] } }

/-- WINDOW_DONE comes back (R336). -/
def State.takeWindowDone (s : State) (f : Frame) : State :=
  match s.window (f.tf % 2 ^ 32) with
  | none => s
  | some w =>
    let w := { w with done := true }
    let s : State := { s with fab := { s.fab with winOut := mapIf (fun x => x.seq == w.seq) (fun _ => w) s.fab.winOut } }
    s.finishWindow w

end Sys2Proof.Machine
end

