-- ==== Sys2Proof/Machine/Net.lean ====
section
/-! DEFINITION. Network packets as the Ethernet-mode links and the management port send and check them (R345, R401): Ethernet II, IPv6, UDP and ICMPv6. The formats are those of IEEE 802.3, RFC 8200, RFC 768, RFC 4443 and RFC 4861 (log 54). -/
namespace Sys2Proof.Machine

/-- One's complement sum of 16-bit words in network order. -/
def onesSum : Bytes → Nat
  | [] => 0
  | [a] => a.toNat * 256
  | a :: b :: r => a.toNat * 256 + b.toNat + onesSum r

/-- The checksum that a sum leaves. -/
def foldSum (n : Nat) : Nat :=
  let n := n % 65536 + n / 65536
  let n := n % 65536 + n / 65536
  65535 - (n % 65536 + n / 65536) % 65536

/-- Checksum of an upper-layer packet over its IPv6 pseudo-header. -/
def netChecksum (src dst : Bytes) (proto : Nat) (payload : Bytes) : Nat :=
  foldSum (onesSum (src ++ dst ++ natBe 4 payload.length ++ natBe 4 proto) + onesSum payload)

/-- An IPv6 packet in an Ethernet frame, with its FCS removed. -/
structure NetPacket where
  dstMac : Bytes
  srcMac : Bytes
  /-- 802.1Q tag, 0 for none -/
  vlan : Nat
  tclass : Nat
  flow : Nat
  proto : Nat
  hop : Nat
  src : Bytes
  dst : Bytes
  payload : Bytes
  deriving DecidableEq, Repr

/-- The bytes of a packet. -/
def NetPacket.encode (p : NetPacket) : Bytes :=
  p.dstMac ++ p.srcMac ++ (if p.vlan = 0 then [] else natBe 2 0x8100 ++ natBe 2 p.vlan) ++ natBe 2 0x86DD ++
    natBe 4 (6 * 2 ^ 28 + p.tclass % 256 * 2 ^ 20 + p.flow % 2 ^ 20) ++ natBe 2 p.payload.length ++ natBe 1 p.proto ++ natBe 1 p.hop ++
    p.src ++ p.dst ++ p.payload

/-- Big-endian number in n bytes at an offset. -/
def beAt (bs : Bytes) (off n : Nat) : Nat := beNat (slice bs off n)

/-- The packet that bytes hold, if they are an IPv6 packet whose payload is all there. -/
def parseNet (bs : Bytes) : Option NetPacket :=
  let tagged := beAt bs 12 2 = 0x8100
  let o := if tagged then 18 else 14
  let first := beAt bs o 4
  let len := beAt bs (o + 4) 2
  if beAt bs (o - 2) 2 = 0x86DD ∧ first / 2 ^ 28 = 6 ∧ o + 40 + len ≤ bs.length then
    some ⟨bs.take 6, slice bs 6 6, if tagged then beAt bs 14 2 else 0, field first 20 8, field first 0 20, beAt bs (o + 6) 1,
      beAt bs (o + 7) 1, slice bs (o + 8) 16, slice bs (o + 24) 16, slice bs (o + 40) len⟩
  else none

/-- A UDP datagram with its checksum; a computed zero is sent as all ones. -/
def udpBytes (src dst : Bytes) (sport dport : Nat) (data : Bytes) : Bytes :=
  let head := fun c => natBe 2 sport ++ natBe 2 dport ++ natBe 2 (8 + data.length) ++ natBe 2 c
  let c := netChecksum src dst 17 (head 0 ++ data)
  head (if c = 0 then 0xFFFF else c) ++ data

/-- An upper-layer packet whose checksum field is right sums to zero. -/
def NetPacket.sumOk (p : NetPacket) : Bool := netChecksum p.src p.dst p.proto p.payload == 0

/-- Source port, destination port and data of a UDP datagram whose length and checksum are right. -/
def NetPacket.udp (p : NetPacket) : Option (Nat × Nat × Bytes) :=
  let len := beAt p.payload 4 2
  if p.proto = 17 ∧ 8 ≤ len ∧ len = p.payload.length ∧ beAt p.payload 6 2 ≠ 0 ∧ p.sumOk then
    some (beAt p.payload 0 2, beAt p.payload 2 2, p.payload.drop 8)
  else none

/-- An ICMPv6 message with its checksum: type, code and what follows the checksum. -/
def icmpBytes (src dst : Bytes) (type code : Nat) (rest : Bytes) : Bytes :=
  let head := fun c => natBe 1 type ++ natBe 1 code ++ natBe 2 c
  head (netChecksum src dst 58 (head 0 ++ rest)) ++ rest

/-- The all-nodes multicast address ff02::1. -/
def allNodes : Bytes := [0xFF, 0x02] ++ List.replicate 13 0 ++ [0x01]
/-- Ethernet address of an IPv6 multicast address. -/
def multicastMac (dst : Bytes) : Bytes := [0x33, 0x33] ++ dst.drop 12

/-- The Neighbor Advertisement that answers a Neighbor Solicitation for one's own address. -/
def answerNs (own : Bytes) (mac : Bytes) (p : NetPacket) : Option NetPacket :=
  if p.proto = 58 ∧ p.hop = 255 ∧ p.sumOk ∧ 24 ≤ p.payload.length ∧ beAt p.payload 0 1 = 135 ∧ slice p.payload 8 16 = own then
    let anon := beNat p.src = 0
    let dst := if anon then allNodes else p.src
    let rest := natBe 4 (if anon then 0x20000000 else 0x60000000) ++ own ++ [0x02, 0x01] ++ mac
    some ⟨if anon then multicastMac dst else p.srcMac, mac, p.vlan, 0, 0, 58, 255, own, dst, icmpBytes own dst 136 0 rest⟩
  else none

/-- The Echo Reply that answers an Echo Request to one's own address. -/
def answerEcho (own : Bytes) (mac : Bytes) (p : NetPacket) : Option NetPacket :=
  if p.proto = 58 ∧ p.sumOk ∧ 8 ≤ p.payload.length ∧ beAt p.payload 0 1 = 128 ∧ p.dst = own then
    some ⟨p.srcMac, mac, p.vlan, 0, 0, 58, 64, own, p.src, icmpBytes own p.src 129 0 (p.payload.drop 4)⟩
  else none

end Sys2Proof.Machine
end

