-- ==== Sys2Proof/Machine/Ether.lean ====
section
/-! DEFINITION. Ethernet mode of L08, L17, L26 and L35 (file 12, R344 to R347): packets, the transport, and windows to and from a peer domain. -/
namespace Sys2Proof.Machine

/-! ### Packets (R345) -/

/-- Subindex of a link's Ethernet entries (R347). -/
def ethSub (l : Nat) : Nat := l / 9 + 1
/-- Own MAC address of a link (R348). -/
def ethMac (l : Nat) : Bytes := (List.range 6).map (Config.ethMac (l / 9))
/-- Own IPv6 address of a link. -/
def State.ethLocal (s : State) (l : Nat) : Bytes := padTo 16 (s.lget 0x2751 (ethSub l))

/-- Transport header (R346): TX_SEQ, ACK_SEQ, DOMAIN_ID and flags, stored little-endian as R9 has it. -/
def transportHead (tx ack domain : Nat) (ackOnly ece : Bool) : Bytes :=
  natLe 16 (tx % 2 ^ 32 * 2 ^ 96 + ack % 2 ^ 32 * 2 ^ 64 + domain % 2 ^ 32 * 2 ^ 32 + ofBool ackOnly * 2 ^ 31 + ofBool ece * 2 ^ 30)

/-- A packet built and sent on a link; the flow label is not stated and is a free value. ECE goes with it when a CE mark is to be echoed. -/
def State.ethSend (s : State) (l sport tx : Nat) (ackOnly : Bool) (frame : Bytes) : State :=
  let e := s.ethPort l
  let src := s.ethLocal l
  let dst := padTo 16 (s.lget 0x2752 (ethSub l))
  let (flow, s) := s.takeFree 20
  let data := transportHead tx (e.rxNext + 2 ^ 32 - 1) (s.dget 0x2700 5) ackOnly e.eceDue ++ frame
  let p : NetPacket := ⟨natLe 6 (s.dget 0x2753 (ethSub l)), ethMac l, s.dget 0x2754 (ethSub l), s.dget 0x2757 0 % 64 * 4 + 2, flow, 17, 64, src, dst,
    udpBytes src dst sport (s.dget 0x2756 0) data⟩
  (s.setEthPort l { e with sinceAck := 0, eceDue := false }).emit (.eth l p.encode)

/-- Packets still to be sent leave while the window allows (R346). `fuel` bounds their number. -/
def ethPump (l : Nat) : Nat → State → State
  | 0, s => s
  | fuel + 1, s =>
    let e := s.ethPort l
    match e.queue with
    | [] => s
    | x :: rest =>
      if (s.link l).state ≠ .ethUp ∨ min e.window 4096 ≤ e.unacked.length then s
      else
        let s := s.ethSend l (leAt x 0 2) e.txSeq false (x.drop 2)
        let e := s.ethPort l
        ethPump l fuel (s.setEthPort l { e with queue := rest, unacked := e.unacked ++ [(e.txSeq, x)], progress := if e.unacked = [] then s.sdt else e.progress, txSeq := (e.txSeq + 1) % 2 ^ 32 })

/-- The link sends and takes nothing: the package is quiet, or the link's active FENCED bit is set (R331, R332). -/
def State.ethBarred (s : State) (l : Nat) : Bool := s.quiet || pmFenced (s.portMap l)
/-- The transport sends what it may. -/
def State.pumpEth (s : State) (l : Nat) : State := if s.ethBarred l then s else ethPump l (s.ethPort l).queue.length s

/-- A frame of a window, or its WINDOW_DONE, given to the transport: the UDP source port is 0xC000 OR (WINDOW_SEQ mod 0x4000) (R345). -/
def ethFrame (l seq : Nat) (f : Frame) (s : State) : State :=
  let e := s.ethPort l
  (s.setEthPort l { e with queue := e.queue ++ [natLe 2 (0xC000 + seq % 0x4000) ++ encodeFrame f] }).pumpEth l

/-- A packet that carries only an acknowledgement. -/
def State.ethAck (s : State) (l : Nat) : State := if s.ethBarred l then s else s.ethSend l 0xC000 (s.ethPort l).txSeq true []

/-- Received traffic that is dropped and counted (R345). -/
def State.ethDrop (s : State) (l : Nat) : State :=
  let e := s.ethPort l
  s.setEthPort l { e with dropped := e.dropped + 1 }

/-! ### The transport (R346) -/

/-- The window after n packets more are acknowledged: one packet wider for each window of packets. -/
def EthPort.grown (e : EthPort) (n : Nat) : EthPort :=
  let total := e.ackedInWin + n
  if e.window ≤ total then { e with window := min 4096 (e.window + 1), ackedInWin := total - e.window } else { e with ackedInWin := total }

/-- ACK_SEQ: every packet up to it is acknowledged. -/
def EthPort.takeAck (e : EthPort) (ack now : Nat) : EthPort :=
  if e.unacked.any (fun p => p.1 == ack) then
    let rest := (e.unacked.dropWhile (fun p => p.1 != ack)).drop 1
    ({ e with unacked := rest, progress := now }).grown (e.unacked.length - rest.length)
  else e

/-- ECE: the sender halves its window, with a floor of 16. -/
def EthPort.takeEce (e : EthPort) (ece : Bool) : EthPort := if ece then { e with window := max 16 (e.window / 2), ackedInWin := 0 } else e

/-- The relay of a peer domain's window: the one it has, or a new one under a WINDOW_SEQ of this package (R347; log 94). -/
def State.relay (s : State) (l : Nat) (f : Frame) : WinRelay × State :=
  let seq := leAt f.body 12 4
  match s.fab.relays.find? (fun r => r.link == l && r.rank == f.src && r.die == f.die && r.orig == seq) with
  | some r => (r, s)
  | none =>
    let r : WinRelay := ⟨s.fab.nextWin, l, f.src, f.die, seq⟩
    (r, { s with fab := { s.fab with relays := s.fab.relays ++ [r], nextWin := (s.fab.nextWin + 1) % 2 ^ 32 } })
/-- A window frame for another rank goes on as this package's, so that its WINDOW_DONE comes back here (R347; log 94). -/
def State.relayFrame (s : State) (l : Nat) (f : Frame) : State :=
  let (r, s) := s.relay l f
  s.forward { f with src := s.rank, inc := s.incarnation, hops := f.hops + 1, body := f.body.take 12 ++ natLe 4 r.seq ++ f.body.drop 16 } f.key 255 false 0

/-- A frame of the peer domain: only window traffic is carried; its incarnation is checked at ingress, and it is delivered by the own route table (R330, R347). -/
def State.ethDeliver (s : State) (l : Nat) (bs : Bytes) : State :=
  let f := parseFrame bs
  if bs.length < 16 + f.body.length ∨ !(f.ftype == 0x20 || f.ftype == 0x21) then s.ethDrop l
  else if f.src = pmPeerRank (s.portMap l) ∧ f.inc ≠ s.dget 0x2722 (l + 1) then s.dadd 0x3702 1 1
  else if f.dest = s.rank then s.deliver ⟨100 + l, false, 4, 0, bs⟩
  else if 15 ≤ f.hops + 1 then s.dadd 0x3706 0 1
  else if f.ftype = 0x20 then s.relayFrame l f
  else s.forward { f with hops := f.hops + 1 } f.key 255 false 0

/-- A datagram of the peer: acknowledgements and ECE are taken, and the next packet in TX_SEQ order is accepted. -/
def State.ethDatagram (s : State) (l : Nat) (ce : Bool) (data : Bytes) : State :=
  let h := leAt data 0 16
  let e := ((s.ethPort l).takeAck (field h 64 32) s.sdt).takeEce (bit h 30)
  let e := { e with eceDue := e.eceDue || ce }
  let s := s.setEthPort l e
  let s :=
    if bit h 31 then s
    else if field h 96 32 = e.rxNext then
      let s := s.setEthPort l { e with rxNext := (e.rxNext + 1) % 2 ^ 32, sinceAck := e.sinceAck + 1 }
      s.ethDeliver l (data.drop 16)
    else s
  let s := s.pumpEth l
  if 16 ≤ (s.ethPort l).sinceAck then s.ethAck l else s

/-- A packet received: for this link's address, port and peer domain, with a right checksum; anything else is dropped and counted (R345, R346). -/
def State.ethPacket (s : State) (l : Nat) (bs : Bytes) : State :=
  match parseNet bs with
  | none => s.ethDrop l
  | some p =>
    match p.udp with
    | none => s.ethDrop l
    | some (_, dport, data) =>
      if p.dst = s.ethLocal l ∧ dport = s.dget 0x2756 0 ∧ 16 ≤ data.length ∧ field (leAt data 0 16) 32 32 = s.dget 0x2755 (ethSub l) ∧
          bs.length ≤ 9216 then
        s.ethDatagram l (p.tclass % 4 == 3) data
      else s.ethDrop l

/-- The link is in Ethernet mode and up, and may send. -/
def State.ethLive (s : State) (l : Nat) : Bool := (s.link l).state == .ethUp && !s.ethBarred l

/-- ETH_PACKET. -/
def execEthPacket (link : Fin 36) (packet : List Byte) (s : State) : Result :=
  when ((s.link link).state == .ethUp) s (if s.ethBarred link then s else s.ethPacket link packet)

/-- Every unacknowledged packet sent again. -/
def State.ethResend (s : State) (l : Nat) : State :=
  if s.ethBarred l then s else (s.ethPort l).unacked.foldl (fun s p => s.ethSend l (leAt p.2 0 2) p.1 false (p.2.drop 2)) s

/-- ETH_LINK_UP (R344): unacknowledged packets are resent (R462). -/
def execEthLinkUp (link : Fin 36) (s : State) : Result :=
  when (s.linksOn && (s.link link).state == .ethTraining) s
    (((s.setLink link { s.link link with state := .ethUp }).ethResend link).pumpEth link)

/-- ETH_LINK_LOST (R462): ETH_TRAINING; the transport's state is kept. -/
def execEthLinkLost (link : Fin 36) (s : State) : Result :=
  when ((s.link link).state == .ethUp) s (s.setLink link { s.link link with state := .ethTraining })

/-- ETH_RETRANSMIT_TIMEOUT: after ETH_RTO_US without progress (1,600 ticks each), resent from ACK_SEQ + 1, each resend counted (R346). -/
def execEthRetransmitTimeout (link : Fin 36) (s : State) : Result :=
  let e := s.ethPort link
  let t := (s.dadd 0x3705 (ethSub link) e.unacked.length).ethResend link
  when (s.ethLive link && decide (0 < e.unacked.length) && s.elapsed e.progress (1600 * s.dget 0x2758 0)) s
    (t.setEthPort link { t.ethPort link with progress := s.sdt })

/-- ETH_ACK_TIMER: the receiver acknowledges (R346). -/
def execEthAckTimer (link : Fin 36) (s : State) : Result :=
  when (s.ethLive link) s (s.ethAck link)

/-- ETH_NEIGHBOR_SOLICITATION for the own address is answered; another is dropped and counted. -/
def execEthNeighborSolicitation (link : Fin 36) (packet : List Byte) (s : State) : Result :=
  when ((s.link link).state == .ethUp) s
    (if s.ethBarred link then s else match (parseNet packet).bind (answerNs (s.ethLocal link) (ethMac link)) with
      | some p => s.emit (.eth link p.encode)
      | none => s.ethDrop link)

/-- ETH_ECHO_REQUEST to the own address is answered; another is dropped and counted. -/
def execEthEchoRequest (link : Fin 36) (packet : List Byte) (s : State) : Result :=
  when ((s.link link).state == .ethUp) s
    (if s.ethBarred link then s else match (parseNet packet).bind (answerEcho (s.ethLocal link) (ethMac link)) with
      | some p => s.emit (.eth link p.encode)
      | none => s.ethDrop link)

/-! ### Windows (R336, R347) -/

/-- WINDOW_FRAME_SEND: the next frame of a window, once its pacing slot has come. -/
def execWindowFrameSend (window : Nat) (s : State) : Result :=
  match s.window window with
  | none => .next s
  | some w =>
    match s.action w.action with
    | none => .next s
    | some a =>
      if !s.fabricMay then .next s
      else when (s.windowDue a w) s (s.sendWindow a w ethFrame)

/-- WINDOW_DONE comes back: to the window that this package sent, or over the Ethernet-mode link by which a relayed one came (R336, R347). -/
def State.takeDone (s : State) (f : Frame) : State :=
  match s.fab.relays.find? (fun r => r.seq == f.tf % 2 ^ 32) with
  | none => s.takeWindowDone f
  | some r =>
    let s : State := { s with fab := { s.fab with relays := s.fab.relays.erase r } }
    ethFrame r.link r.orig (s.frame 0x21 r.rank 0 f.die f.parity r.orig []) s
/-- WINDOW_DONE. -/
def execWindowDone (s : State) : Result :=
  match s.takeFrame 0x21 with
  | none => .next s
  | some (r, f, t) => .next ((t.takeDone f).free_ r)

/-- The answer of a window's destination goes back: by the Ethernet-mode link the frame came by, or by the route table. -/
def windowBack (r : RxFrame) (f : Frame) (s : State) : State :=
  if 100 ≤ r.link then ethFrame (r.link - 100) (f.tf % 2 ^ 32) f s else s.forward f (f.tf % 2 ^ 32) 255 false 0

/-- The oldest delivered window frame that can be taken (R336). -/
def State.takeWindowFrame (s : State) : Option (RxFrame × Frame × State) :=
  match s.fab.inbox.find? (fun r => (parseFrame r.bytes).ftype == 0x20 && s.winRoom (parseFrame r.bytes)) with
  | none => none
  | some r => some (r, parseFrame r.bytes, { s with fab := { s.fab with inbox := s.fab.inbox.erase r } })

/-- WINDOW_DATA. -/
def execWindowData (s : State) : Result :=
  match s.takeWindowFrame with
  | none => .next s
  | some (r, f, t) => .next ((t.takeWindow f (windowBack r)).free_ r)

end Sys2Proof.Machine
end

