-- ==== Sys2Proof/Machine/Reduce.lean ====
section
/-! DEFINITION. The REDUCE action (file 06, R176 to R183; file 12, R337 to R339): combining elements, staging buffers, grants, contributions and acknowledgements. -/
namespace Sys2Proof.Machine

/-! ### Elements (R176 to R183) -/

/-- Bytes of an element of a contribution and of the result (R176); none for a reserved code. -/
def redSizes (op : Nat) : Option (Nat × Nat) :=
  match op with
  | 0 => some (8, 8)
  | 1 | 2 | 6 => some (4, 4)
  | 3 => some (8, 4)
  | 4 | 5 | 7 => some (8, 8)
  | _ => none

/-- A value or the canonical NaN; any other single operand stays as it is (R178). -/
def keepOne (nan : Bool) (canon code : Nat) : Nat := if nan then canon else code

/-- A sum of AQ48 values, each addition rounded by RNE (R177). -/
def sumAq (shape : Nat) (xs : List Val) : Val := (treeOf shape (fun a b => rndAq (a.addAq b)) xs).getD .nan
/-- A sum of FP32 values, each addition rounded by RNE. -/
def sumF32 (shape : Nat) (xs : List Val) : Val := (treeOf shape (fun a b => rndF32 (a.add b)) xs).getD .nan

/-- One result element from the element codes in descriptor order, and whether it raises a non-finite vote (R176, R178, R214). -/
def redElement (op shape : Nat) (xs : List Nat) : Nat × Bool :=
  let one := xs.length == 1
  let first := xs.headD 0
  let aq := xs.map (fun x => decodeAq (x % 2 ^ 48))
  let f32 := xs.map (fun x => ofF32 (x % 2 ^ 32))
  let hi := xs.map (fun x => x / 2 ^ 32 % 2 ^ 32)
  match op with
  | 0 => let v := sumAq shape aq; ((if one then keepOne v.isNan (encodeAq .rne 0 .nan) (first % 2 ^ 48) else encodeAq .rne 0 v), v.nonfinite)
  | 1 => let v := sumF32 shape f32; ((if one then keepOne v.isNan (toF32 .nan) first else toF32 v), v.nonfinite)
  | 2 =>
    let c := toF32 (sumAq shape f32)
    let c := if one then keepOne (ofF32 first).isNan (toF32 .nan) first else c
    (c, (ofF32 c).nonfinite)
  | 3 => let c := toF32 (sumAq shape aq); (c, (ofF32 c).nonfinite)
  | 6 => let c := toF32 ((treeOf shape valMax (f32.map Val.abs)).getD .nan); (c, (ofF32 c).nonfinite)
  | 7 =>
    let parts := f32.zip (hi.map ofF32)
    let p := rowStatOne ((treeOf shape rowStat parts).getD (.nan, .nan))
    let m := if one then keepOne p.1.isNan (toF32 .nan) (first % 2 ^ 32) else toF32 p.1
    (m + toF32 p.2 * 2 ^ 32, p.1.isNan || p.2.isNan)
  | _ =>
    let p := (treeOf shape (idxComb (op == 5)) (f32.zip hi)).getD (.nan, 0)
    (toF32 p.1 + p.2 % 2 ^ 32 * 2 ^ 32, p.1.isNan)

/-- The elements of a segment reduced position by position: the result's bytes and the number of non-finite results. -/
def redSegment (op shape isz osz : Nat) (parts : List Bytes) : Bytes × Nat :=
  let n := (parts.headD []).length / isz
  (List.range n).foldl (fun (acc : Bytes × Nat) i =>
    let (c, bad) := redElement op shape (parts.map (fun b => leAt b (isz * i) isz))
    (acc.1 ++ natLe osz c, acc.2 + ofBool bad)) ([], 0)

/-! ### Descriptors (R337) -/

/-- OPCODE of a reduction descriptor. -/
def rdOp (d : Nat) : Nat := field d 508 4
/-- SHAPE. -/
def rdShape (d : Nat) : Nat := field d 507 1
/-- ROOT_RANK. -/
def rdRootRank (d : Nat) : Nat := field d 497 10
/-- ROOT_DIE. -/
def rdRootDie (d : Nat) : Nat := field d 495 2
/-- REDUCE_TAG. -/
def rdTag (d : Nat) : Nat := field d 448 32
/-- LAYOUT_GEN. -/
def rdGen (d : Nat) : Nat := field d 432 16
/-- ELEMENTS. -/
def rdElements (d : Nat) : Nat := field d 400 32
/-- DST. -/
def rdDst (d : Nat) : Nat := field d 344 56

/-- The header and entries obey R10, R176 and R337. -/
def redDescOk (d : Nat) (entries : List Nat) : Bool :=
  (redSizes (rdOp d)).isSome && field d 480 15 == 0 && field d 0 344 == 0 && rdTag d != 0 && entries.all (fun e => field e 56 60 == 0)

/-- Bytes of a whole contribution, and its segments of 256 bytes (R338). -/
def redBytes (d : Nat) : Nat := rdElements d * ((redSizes (rdOp d)).getD (4, 4)).1
/-- Segments of a contribution. -/
def redSegments (d : Nat) : Nat := (redBytes d + 255) / 256

/-! ### Grants and contributions (R338, R339) -/

/-- The 8-byte extension of a grant or acknowledgement (R321). -/
def grantExt (first count index : Nat) : Bytes := natLe 8 (first % 2 ^ 32 * 2 ^ 32 + count % 65536 * 65536 + index % 65536)

/-- The state with the root of an action replaced. -/
def State.setRoot (s : State) (r : RedRoot) : State :=
  { s with fab := { s.fab with roots := mapIf (fun x => x.action == r.action) (fun _ => r) s.fab.roots } }

/-- The root grants segments in ascending order while it has staging room, the same to every contributor (R338). -/
def State.grantMore (s : State) (a : Action) (r : RedRoot) : State :=
  let d := r.desc.toNat
  let k := min (redSegments d - r.next) (1024 / max 1 r.entries.length - r.open_.length)
  if k = 0 then s
  else
    let segs := (rangeFrom r.next (r.next + k)).map (fun i => (⟨i, []⟩ : RedSeg))
    let s := s.setRoot { r with next := r.next + k, open_ := r.open_ ++ segs }
    (r.entries.zipIdx).foldl (fun s p =>
      s.send 0x30 p.1.1 (rdGen d) r.die a.parity (rdTag d) (grantExt r.next k p.2) (rdTag d)) s

/-- The REDUCE of an action is complete once its root and its contributions are (R60, R338). -/
def State.reduceDone (s : State) (id : Nat) : State :=
  if s.fab.roots.any (fun r => r.action == id) || s.fab.contribs.any (fun c => c.action == id) then s else s.closeAction id

/-- The state with a contribution replaced. -/
def State.setContrib (s : State) (c : RedContrib) : State :=
  { s with fab := { s.fab with contribs := mapIf (fun x => x.action == c.action && x.index == c.index) (fun _ => c) s.fab.contribs } }

/-- A contribution's granted segments are read and sent (R338). `fuel` bounds their number. -/
def pumpContrib (a : Action) (index : Nat) : Nat → State → State
  | 0, s => s
  | fuel + 1, s =>
    match s.fab.contribs.find? (fun c => c.action == a.id && c.index == index) with
    | none => s
    | some c =>
      match c.toSend with
      | [] => s
      | seg :: rest =>
        let d := c.desc.toNat
        let off := 256 * seg
        pumpContrib a index fuel (s.actionWork a (rdTag d) [⟨c.src + off, min 256 (redBytes d - off), false, true⟩] (fun s bs _ =>
          let s := s.setContrib { c with toSend := rest, sent := c.sent ++ [seg] }
          let s := s.dropLoads (.action a.id)
          s.send 0x31 (rdRootRank d) (rdGen d) a.transit.die a.parity (rdTag d) (natLe 8 (seg * 2 ^ 32 + index) ++ nthBytes bs 0) 0))

/-- Every contribution of an action goes on. -/
def State.pumpContribs (s : State) (a : Action) : State :=
  if !s.fabricMay then s
  else (s.fab.contribs.filter (fun c => c.action == a.id)).foldl (fun s c => pumpContrib a c.index (c.toSend.length + 1) s) s

/-- The grants that came before a contribution was there (R338). -/
def State.takeEarly (s : State) (c : RedContrib) : State × RedContrib :=
  let d := c.desc.toNat
  let mine := fun (g : RedGrant) => g.tag == rdTag d && g.gen == rdGen d && g.index == c.index
  let segs := (s.fab.grants.filter mine).flatMap (fun g => rangeFrom g.first (g.first + g.count))
  ({ s with fab := { s.fab with grants := s.fab.grants.filter (fun g => !mine g) } }, { c with toSend := segs })

/-- The root is armed and the contributions are opened, every address having been found good. -/
def State.openReduce (s : State) (a : Action) (d : Nat) (entries : List Nat) (root : Bool) (mine : List (Nat × Nat)) : State :=
  let r : RedRoot := ⟨a.id, a.transit.die, a.transit.unit, BitVec.ofNat 512 d, entries.map (fun e => (field e 118 10, field e 116 2)), 0, [], 0⟩
  let s : State := if root then { s with fab := { s.fab with roots := s.fab.roots ++ [r] } } else s
  let s := mine.foldl (fun (s : State) (p : Nat × Nat) =>
    let (s, c) := s.takeEarly ⟨a.id, BitVec.ofNat 512 d, p.2, field p.1 0 56, [], [], []⟩
    { s with fab := { s.fab with contribs := s.fab.contribs ++ [c] } }) s
  (if root then s.grantMore a r else s).pumpContribs a

/-- A REDUCE fires (R338, R502). One that is neither root nor contributor on its die has nothing to do (log 55). -/
def State.startReduce (s : State) (a : Action) : State :=
  let n := a.transit.param
  if n = 0 then s.completeAction a.id
  else if 1024 < n then s.descFault a 0xFF 0 0
  else s.actionWork a 0 [⟨a.transit.addr, 64 + 16 * n, false, true⟩] (fun s bs _ =>
    let d := leNat ((nthBytes bs 0).take 64)
    let entries := (List.range n).map (fun i => leAt (nthBytes bs 0) (64 + 16 * i) 16)
    if !redDescOk d entries then s.descFault a 0xFF (rdTag d) 0
    else
      let root := rdRootRank d == s.rank && rdRootDie d == a.transit.die.val
      let mine := entries.zipIdx.filter (fun p => field p.1 118 10 == s.rank && field p.1 116 2 == a.transit.die.val)
      if rdElements d = 0 ∨ (!root ∧ mine = []) then (s.dropLoads (.action a.id)).closeAction a.id
      else
        let out := rdElements d * ((redSizes (rdOp d)).getD (4, 4)).2
        let spans := mine.map (fun p => (⟨field p.1 0 56, redBytes d, false, false⟩ : Span)) ++
          (if root then [⟨rdDst d, out, true, false⟩] else [])
        s.actionWork a (rdTag d) spans (fun s _ _ => (s.dropLoads (.action a.id)).openReduce a d entries root mine))

/-- A frame of a reduction that matches nothing: dropped, counted and logged (R339). -/
def State.stagingDrop (s : State) (die tag : Nat) : State :=
  (s.dadd 0x3703 0 1).event 0x95 .link die 0xFFFF (s.linkDetail 0xFF tag)

/-- A grant reaches its contribution, or waits for the contributor's REDUCE (R338). -/
def State.takeGrant (s : State) (f : Frame) : State :=
  let x := leAt f.body 0 8
  let tag := f.tf % 2 ^ 32
  let g : RedGrant := ⟨f.src, f.inc, tag, f.gen, field x 0 16, field x 32 32, field x 16 16⟩
  match s.fab.contribs.find? (fun c => rdTag c.desc.toNat == tag && rdGen c.desc.toNat == f.gen && c.index == g.index) with
  | none => { s with fab := { s.fab with grants := s.fab.grants ++ [g] } }
  | some c =>
    let s := s.setContrib { c with toSend := c.toSend ++ rangeFrom g.first (g.first + g.count) }
    match s.action c.action with
    | some a => s.pumpContribs a
    | none => s

/-- REDUCE_GRANT. -/
def execReduceGrant (s : State) : Result :=
  match s.takeFrame 0x30 with
  | none => .next s
  | some (r, f, t) => .next ((t.takeGrant f).free_ r)

/-- The segment takes a contribution that it does not hold yet. -/
def RedRoot.accepts (r : RedRoot) (seg index : Nat) : Bool :=
  decide (index < r.entries.length) && r.open_.any (fun x => x.seg == seg && !x.got.any (fun p => p.1 == index))

/-- A contributed segment enters staging and is acknowledged, or is dropped (R338, R339). -/
def State.takeContrib (s : State) (f : Frame) : State :=
  let x := leAt f.body 0 8
  let tag := f.tf % 2 ^ 32
  let seg := field x 32 32
  let index := field x 0 16
  match s.fab.roots.find? (fun r => rdTag r.desc.toNat == tag && rdGen r.desc.toNat == f.gen) with
  | none => s.stagingDrop 0xFF tag
  | some r =>
    if !r.accepts seg index then s.stagingDrop r.die tag
    else
      let s := s.setRoot { r with open_ := mapIf (fun x => x.seg == seg) (fun x => { x with got := x.got ++ [(index, f.body.drop 8)] }) r.open_ }
      s.send 0x32 f.src f.gen r.die f.parity tag (grantExt seg 1 index) tag

/-- REDUCE_CONTRIB. -/
def execReduceContrib (s : State) : Result :=
  match s.takeFrame 0x31 with
  | none => .next s
  | some (r, f, t) => .next ((t.takeContrib f).free_ r)

/-- An acknowledged segment; the contribution is complete when all are (R338). -/
def State.takeReduceAck (s : State) (f : Frame) : State :=
  let x := leAt f.body 0 8
  let tag := f.tf % 2 ^ 32
  let seg := field x 32 32
  match s.fab.contribs.find? (fun c => rdTag c.desc.toNat == tag && rdGen c.desc.toNat == f.gen && c.index == field x 0 16 &&
      decide (seg ∈ c.sent) && !decide (seg ∈ c.acked)) with
  | none => s.stagingDrop 0xFF tag
  | some c =>
    let c := { c with acked := c.acked ++ [seg] }
    if c.acked.length = redSegments c.desc.toNat then
      let s : State := { s with fab := { s.fab with contribs := s.fab.contribs.filter (fun x => !(x.action == c.action && x.index == c.index)) } }
      s.reduceDone c.action
    else s.setContrib c

/-- REDUCE_ACK. -/
def execReduceAck (s : State) : Result :=
  match s.takeFrame 0x32 with
  | none => .next s
  | some (r, f, t) => .next ((t.takeReduceAck f).free_ r)

/-- Contributions of a segment in descriptor order. -/
def RedRoot.parts (r : RedRoot) (x : RedSeg) : List Bytes :=
  (List.range r.entries.length).map (fun i => match x.got.find? (fun p => p.1 == i) with | some p => p.2 | none => [])

/-- The segment has been written: its staging is free, more is granted, and the root completes with the last (R338). -/
def State.segmentWritten (s : State) (a : Action) (r : RedRoot) (seg : Nat) : State :=
  let r := { r with open_ := r.open_.filter (fun x => x.seg != seg), written := r.written + 1 }
  if r.written = redSegments r.desc.toNat then
    ({ s with fab := { s.fab with roots := s.fab.roots.filter (fun x => x.action != r.action) } } : State).reduceDone a.id
  else (s.setRoot r).grantMore a r

/-- A segment combined in its tree and written to DST; each non-finite result element is observed (R177, R178, R214). -/
def State.combineSegment (s : State) (a : Action) (r : RedRoot) (x : RedSeg) : State :=
  let d := r.desc.toNat
  let (isz, osz) := (redSizes (rdOp d)).getD (4, 4)
  let (out, bad) := redSegment (rdOp d) (rdShape d) isz osz (r.parts x)
  s.actionWork a (rdTag d) [⟨rdDst d + x.seg * (256 / isz) * osz, out.length, true, false⟩] (fun s _ pss =>
    let s := s.actionWrite a (nthPieces pss 0) out
    let s := (List.range bad).foldl (fun s _ => s.nonfinite r.die a.step 2) s
    s.segmentWritten a r x.seg)

/-- REDUCE_SEGMENT_COMBINE: of an armed root (named by its action), a segment all of whose contributions are present. -/
def execReduceSegmentCombine (root segment : Nat) (s : State) : Result :=
  match s.fab.roots.find? (fun r => r.action == root), s.action root with
  | some r, some a =>
    match r.open_.find? (fun x => x.seg == segment) with
    | none => .next s
    | some x => when (s.fabricMay && decide (x.got.length = r.entries.length)) s (s.combineSegment a r x)
  | _, _ => .next s

end Sys2Proof.Machine
end

