-- ==== Sys2Proof/Machine/Tokens.lean ====
section
/-! DEFINITION. The TOKEN_EXCHANGE action (file 12, R340 to R343): descriptors, count vectors, the allocation, rows and their acknowledgements. -/
namespace Sys2Proof.Machine

/-! ### Descriptor (R340) -/

/-- EXCHANGE_TAG. -/
def txTag (d : Nat) : Nat := field d 992 32
/-- LAYOUT_GEN. -/
def txGen (d : Nat) : Nat := field d 976 16
/-- MODE is RETURN. -/
def txReturn (d : Nat) : Bool := bit d 975
/-- OVERFLOW_MODE is DEFER. -/
def txDefer (d : Nat) : Bool := bit d 974
/-- ROUTES, K. -/
def txK (d : Nat) : Nat := field d 970 4
/-- GROUP_COUNT, G. -/
def txG (d : Nat) : Nat := field d 960 10
/-- CAPACITY, C. -/
def txC (d : Nat) : Nat := field d 936 24
/-- ROW_BYTES. -/
def txRow (d : Nat) : Nat := field d 920 16
/-- TOKENS, T. -/
def txT (d : Nat) : Nat := field d 888 32
/-- GROUP_ADDR. -/
def txGroupVa (d : Nat) : Nat := field d 832 56
/-- EXPERT_MAP. -/
def txMapVa (d : Nat) : Nat := field d 776 56
/-- ROUTE_ADDR. -/
def txRouteVa (d : Nat) : Nat := field d 720 56
/-- ROW_ADDR. -/
def txRowVa (d : Nat) : Nat := field d 664 56
/-- RECV_ADDR. -/
def txRecvVa (d : Nat) : Nat := field d 608 56
/-- META_ADDR. -/
def txMetaVa (d : Nat) : Nat := field d 552 56
/-- COUNTS_ADDR. -/
def txCountsVa (d : Nat) : Nat := field d 496 56
/-- OVERFLOW_ADDR. -/
def txOverVa (d : Nat) : Nat := field d 440 56

/-- The descriptor obeys R10 and R340. -/
def txDescOk (d experts : Nat) : Bool :=
  field d 0 440 == 0 && txTag d != 0 && decide (1 ≤ txK d) && decide (txK d ≤ 8) && decide (1 ≤ txG d) && decide (txG d ≤ 512) &&
    decide (64 ≤ txRow d) && decide (txRow d ≤ 32768) && txRow d % 64 == 0 && decide (txG d * experts ≤ 262144)

/-- Fragments of a row (R322). -/
def txFrags (d : Nat) : Nat := (txRow d + 4095) / 4096
/-- Bytes of fragment f of a row. -/
def txFragLen (d f : Nat) : Nat := min 4096 (txRow d - 4096 * f)
/-- The numbers of w bytes each that bytes hold. -/
def numbers (w : Nat) (bs : Bytes) : List Nat := (chunksOf w (bs.length / max 1 w + 1) bs).map leNat
/-- Metadata record of R340. -/
def metaRecord (rank k t : Nat) : Nat := rank % 1024 * 2 ^ 54 + k % 8 * 2 ^ 51 + t % 2 ^ 32

/-- Local slots that this package owns in an expert map. -/
def ownSlots (rank : Nat) (map : List (Nat × Nat)) : List Nat := (map.filter (fun m => m.1 == rank)).map (fun m => m.2)

/-! ### The allocation (R341) -/

/-- One expert's rows given to the sources: equal shares while they reach, then the remainder in a group order that rotates with the step. `fuel` bounds the rounds. -/
def allocRounds (step : Nat) (n : List Nat) : Nat → List Nat → Nat → List Nat → List Nat
  | 0, a, _, _ => a
  | fuel + 1, a, rem, act =>
    if rem = 0 ∨ act = [] then a
    else
      let share := rem / act.length
      if share = 0 then
        (List.range rem).foldl (fun a i => let g := act.getD ((step + i) % act.length) 0; a.set g (a.getD g 0 + 1)) a
      else
        let (a, rem) := act.foldl (fun (acc : List Nat × Nat) g =>
          let d := min share (n.getD g 0 - acc.1.getD g 0)
          (acc.1.set g (acc.1.getD g 0 + d), acc.2 - d)) (a, rem)
        allocRounds step n fuel a rem (act.filter (fun g => decide (a.getD g 0 < n.getD g 0)))

/-- The allocation of one expert: rows accepted of each source, in group order. -/
def allocate (step cap : Nat) (n : List Nat) : List Nat :=
  allocRounds step n (n.length + 2) (n.map (fun _ => 0)) cap ((List.range n.length).filter (fun g => decide (0 < n.getD g 0)))

/-- What becomes of the routes of the own tokens: rows to send as (t, k, e, position) and overflows as (t, k, e), in ascending order of t and k. -/
def routeRows (k : Nat) (own base : List Nat) : Nat → List Nat → Tab Nat → List (Nat × Nat × Nat × Nat) × List (Nat × Nat × Nat)
  | _, [], _ => ([], [])
  | i, e :: rest, j =>
    if e = 0xFFFF then routeRows k own base (i + 1) rest j
    else
      let n := tget 0 j e
      let (rows, over_) := routeRows k own base (i + 1) rest (tset j e (n + 1))
      if n < own.getD e 0 then ((i / k, i % k, e, base.getD e 0 + n) :: rows, over_) else (rows, (i / k, i % k, e) :: over_)

/-! ### Count vectors (R322, R342) -/

/-- The counts of one source as far as they are whole: none while parts are missing. -/
def TokVector.counts (v : TokVector) (experts : Nat) : Option (List Nat) :=
  let frames := (experts + 1023) / 1024
  let parts := (List.range frames).map (fun i => (v.parts.find? (fun p => p.1 == 1024 * i)).map (fun p => p.2))
  if parts.all (fun p => p.isSome) then some ((parts.map (fun p => p.getD [])).flatten.take experts) else none

/-- The oldest vector of an exchange from a rank: one for each exchange of the tag, in the order in which they came (R342). -/
def State.vectorOf (s : State) (x : Exchange) (rank : Nat) : Option TokVector :=
  s.fab.tokInbox.find? (fun v => v.tag == txTag x.desc.toNat && v.gen == txGen x.desc.toNat && v.rank == rank)
/-- The vectors of every participant, in group order; none while one is missing. -/
def State.allVectors (s : State) (x : Exchange) : Option (List (List Nat)) :=
  let vs := x.group.map (fun g => (s.vectorOf x g).bind (fun v => v.counts x.map.length))
  if vs.all (fun v => v.isSome) then some (vs.map (fun v => v.getD [])) else none

/-- The vectors that an allocation has used leave the inbox; those of a later exchange stay. -/
def State.useVectors (s : State) (x : Exchange) : State :=
  { s with fab := { s.fab with tokInbox := (x.group.filterMap (s.vectorOf x)).foldl (fun vs v => vs.erase v) s.fab.tokInbox } }

/-- The state with an exchange replaced. -/
def State.setExch (s : State) (x : Exchange) : State :=
  { s with fab := { s.fab with exchanges := mapIf (fun y => y.action == x.action) (fun _ => x) s.fab.exchanges } }
/-- The exchange of an action. -/
def State.exchange (s : State) (id : Nat) : Option Exchange := s.fab.exchanges.find? (fun x => x.action == id)

/-- Both phases are done: every row sent is acknowledged and every row allocated to the own experts has come (R342). -/
def State.exchDone (s : State) (id : Nat) : State :=
  match s.exchange id with
  | none => s
  | some x =>
    if x.allocated ∧ x.toSend = [] ∧ x.unacked = 0 ∧ x.arrived = x.awaited then
      ({ s with fab := { s.fab with exchanges := s.fab.exchanges.filter (fun y => y.action != id) } } : State).closeAction id
    else s

/-! ### Rows sent (R322, R341, R343) -/

/-- One fragment of a row read and sent. -/
def State.sendFragment (s : State) (a : Action) (x : Exchange) (t : TokSend) (rest : List TokSend) : State :=
  let d := x.desc.toNat
  s.actionWork a (txTag d) [⟨t.va + 4096 * t.frag, txFragLen d t.frag, false, true⟩] (fun s bs _ =>
    let last := decide (txFrags d ≤ t.frag + 1)
    let s := s.setExch { x with toSend := if last then rest else { t with frag := t.frag + 1 } :: rest,
                                unacked := if last then x.unacked + 1 else x.unacked }
    let ext := natLe 16 (t.info % 2 ^ 64 + t.frag % 65536 * 2 ^ 64 + t.local_ % 65536 * 2 ^ 80 + t.pos % 2 ^ 32 * 2 ^ 96)
    (s.dropLoads (.action a.id)).send 0x39 t.dest (txGen d) a.transit.die a.parity (txTag d) (ext ++ nthBytes bs 0) 0)

/-- The rows of an exchange are sent, each fragment as a frame. `fuel` bounds the frames. -/
def pumpRows (a : Action) : Nat → State → State
  | 0, s => s
  | fuel + 1, s =>
    match s.exchange a.id with
    | none => s
    | some x =>
      match x.toSend with
      | [] => s
      | t :: rest => pumpRows a fuel (s.sendFragment a x t rest)

/-- The exchange of an action goes on sending rows. -/
def State.pumpExch (s : State) (a : Action) : State :=
  match s.exchange a.id with
  | none => s
  | some x => if s.fabricMay then (pumpRows a (x.toSend.length * txFrags x.desc.toNat + 1) s).exchDone a.id else s

/-- The list of overflowed routes as it is stored: a count, then t in 4 bytes, k and e in 2 each (log 56). -/
def overflowBytes (o : List (Nat × Nat × Nat)) : Bytes :=
  natLe 4 o.length ++ (o.map (fun r => natLe 4 r.1 ++ natLe 2 r.2.1 ++ natLe 2 r.2.2)).flatten

/-- The token phase begins once every vector has arrived (R341): the allocation is computed and stored with the counts and the overflow list, and the rows are sent. -/
def State.beginRows (s : State) (a : Action) (x : Exchange) (n : List (List Nat)) : State :=
  let d := x.desc.toNat
  let experts := x.map.length
  let own := (x.group.idxOf s.rank)
  let alloc := (List.range experts).map (fun e => allocate a.step (txC d) (n.map (fun v => v.getD e 0)))
  let mine := alloc.map (fun l => l.getD own 0)
  let base := alloc.map (fun l => (l.take own).sum)
  let (rows, over_) := routeRows (txK d) mine base 0 x.routes []
  let counts := (n.map (fun v => (v.map (natLe 4)).flatten)).flatten ++
    ((List.range x.group.length).map (fun g => (alloc.map (fun l => natLe 4 (l.getD g 0))).flatten)).flatten
  let send := rows.map (fun r =>
    let (t, k, e, p) := r
    let (dest, slot) := x.map.getD e (0, 0)
    (⟨txRowVa d + t * txRow d, dest, slot, p, metaRecord s.rank k t, 0⟩ : TokSend))
  let awaited := ((alloc.zip x.map).map (fun p => if p.2.1 = s.rank then p.1.sum else 0)).sum
  s.actionWork a (txTag d) [⟨txCountsVa d, counts.length, true, false⟩, ⟨txOverVa d, 4 + 8 * over_.length, true, false⟩] (fun s _ pss =>
    let s := (s.actionWrite a (nthPieces pss 0) counts).actionWrite a (nthPieces pss 1) (overflowBytes over_)
    let s := (s.dadd 0x3704 1 rows.length).dadd 0x3704 2 over_.length
    ((s.useVectors x).setExch { x with allocated := true, toSend := send, awaited := awaited }).pumpExch a)

/-- The count phase of an exchange ends if it can (R342). -/
def State.tryRows (s : State) (a : Action) : State :=
  match s.exchange a.id with
  | none => s
  | some x =>
    if x.allocated ∨ !s.fabricMay then s
    else match s.allVectors x with
      | some n => s.beginRows a x n
      | none => s

/-- A count vector is sent to every participant, itself included, in frames of at most 1,024 counts (R322, R341). -/
def State.sendCounts (s : State) (a : Action) (x : Exchange) : State :=
  let d := x.desc.toNat
  let n := (List.range x.map.length).map (fun e => (x.routes.filter (· == e)).length)
  let frames := (chunksOf 1024 (n.length / 1024 + 1) n).zipIdx.map (fun p => natLe 4 (1024 * p.2) ++ (p.1.map (natLe 4)).flatten)
  x.group.foldl (fun s g => frames.foldl (fun s b => s.send 0x38 g (txGen d) a.transit.die a.parity (txTag d) b 0) s) s

/-- DISPATCH (R341): routes are checked, every address is found good, and the count vector is sent. -/
def State.startDispatch (s : State) (a : Action) (d : Nat) (group : List Nat) (map : List (Nat × Nat)) : State :=
  let tk := txT d * txK d
  s.actionWork a (txTag d) [⟨txRouteVa d, 2 * tk, false, true⟩] (fun s bs _ =>
    let routes := numbers 2 (nthBytes bs 0)
    if routes.any (fun e => e != 0xFFFF && decide (map.length ≤ e)) then s.descFault a 0xFF (txTag d) 0
    else
      let slots := ownSlots s.rank map
      let spans := [⟨txRowVa d, txT d * txRow d, false, false⟩, ⟨txCountsVa d, 8 * group.length * map.length, true, false⟩,
          ⟨txOverVa d, 4 + 8 * tk, true, false⟩] ++
        slots.map (fun l => (⟨txRecvVa d + l * txC d * txRow d, txC d * txRow d, true, false⟩ : Span)) ++
        slots.map (fun l => (⟨txMetaVa d + l * txC d * 8, txC d * 8, true, false⟩ : Span))
      s.actionWork a (txTag d) spans (fun s _ _ =>
        let x : Exchange := ⟨a.id, BitVec.ofNat 1024 d, group, map, routes, false, [], 0, [], 0, 0⟩
        let s := s.dropLoads (.action a.id)
        let s : State := { s with fab := { s.fab with exchanges := s.fab.exchanges ++ [x] } }
        (s.sendCounts a x).tryRows a))

/-- RETURN (R343): the stored allocation tells which positions are filled and how many rows come back; overflowed routes get zeros, or are left. -/
def State.startReturn (s : State) (a : Action) (d : Nat) (group : List Nat) (map : List (Nat × Nat)) : State :=
  let ge := group.length * map.length
  s.actionWork a (txTag d) [⟨txCountsVa d + 4 * ge, 4 * ge, false, true⟩, ⟨txOverVa d, 4, false, true⟩] (fun s bs _ =>
    let alloc := numbers 4 (nthBytes bs 0)
    let at_ := fun (g e : Nat) => alloc.getD (g * map.length + e) 0
    let filled := map.zipIdx.flatMap (fun p =>
      if p.1.1 = s.rank then (List.range ((List.range group.length).map (fun g => at_ g p.2)).sum).map (fun q => (p.1.2, q)) else [])
    let n := leNat (nthBytes bs 1)
    let metas := filled.map (fun p => (⟨txMetaVa d + (p.1 * txC d + p.2) * 8, 8, false, true⟩ : Span))
    let rows := filled.map (fun p => (⟨txRecvVa d + (p.1 * txC d + p.2) * txRow d, txRow d, false, false⟩ : Span))
    let outs : Span := ⟨txRowVa d, txT d * txK d * txRow d, true, false⟩
    s.actionWork a (txTag d) (⟨txOverVa d + 4, 8 * n, false, true⟩ :: outs :: metas ++ rows) (fun s bs _ =>
      let over_ := chunksOf 8 (n + 1) (nthBytes bs 0)
      let send := (filled.zipIdx).map (fun p =>
        let m := leNat (nthBytes bs (p.2 + 2))
        (⟨txRecvVa d + (p.1.1 * txC d + p.1.2) * txRow d, field m 54 10, p.1.1, p.1.2, m, 0⟩ : TokSend))
      let own := group.idxOf s.rank
      let awaited := ((List.range map.length).map (fun e => at_ own e)).sum
      let zero := if txDefer d then [] else over_.map (fun r =>
        (⟨txRowVa d + (leAt r 0 4 * txK d + leAt r 4 2) * txRow d, txRow d, true, false⟩ : Span))
      s.actionWork a (txTag d) zero (fun s _ pss =>
        let s := pss.foldl (fun s ps => s.actionWrite a ps (List.replicate (txRow d) 0)) s
        let x : Exchange := ⟨a.id, BitVec.ofNat 1024 d, group, map, [], true, send, 0, [], 0, awaited⟩
        let s := s.dropLoads (.action a.id)
        let s : State := { s with fab := { s.fab with exchanges := s.fab.exchanges ++ [x] } }
        s.pumpExch a)))

/-- A TOKEN_EXCHANGE fires (R340 to R343, R502); no experts complete it at once (R60). A participant that its group does not name breaks R340 (log 56). -/
def State.startExchange (s : State) (a : Action) : State :=
  let experts := a.transit.param
  if experts = 0 then s.completeAction a.id
  else s.actionWork a 0 [⟨a.transit.addr, 128, false, true⟩] (fun s bs _ =>
    let d := leNat (nthBytes bs 0)
    if !txDescOk d experts then s.descFault a 0xFF (txTag d) 0
    else s.actionWork a (txTag d) [⟨txGroupVa d, 2 * txG d, false, true⟩, ⟨txMapVa d, 4 * experts, false, true⟩] (fun s bs _ =>
      let group := numbers 2 (nthBytes bs 0)
      let map := (numbers 4 (nthBytes bs 1)).map (fun m => (field m 16 10, field m 0 16))
      if s.rank ∉ group then s.descFault a 0xFF (txTag d) 0
      else if txReturn d then s.startReturn a d group map
      else s.startDispatch a d group map))

/-! ### Frames of an exchange -/

/-- The exchange that a frame belongs to (R342). -/
def State.exchOf (s : State) (f : Frame) : Option Exchange :=
  s.fab.exchanges.find? (fun x => txTag x.desc.toNat == f.tf % 2 ^ 32 && txGen x.desc.toNat == f.gen)

/-- A part of a count vector enters the inbox of the die that its frame names, matched by tag and generation: it joins the oldest vector of its source that lacks it (R342; log 57). -/
def State.addPart (s : State) (f : Frame) : State :=
  let tag := f.tf % 2 ^ 32
  let part := (leAt f.body 0 4, numbers 4 (f.body.drop 4))
  let lacks := fun (v : TokVector) => v.tag == tag && v.gen == f.gen && v.rank == f.src && v.parts.all (fun p => p.1 != part.1)
  let old := s.fab.tokInbox.find? lacks
  let inbox := match old with
    | some v => s.fab.tokInbox.replace v { v with parts := v.parts ++ [part] }
    | none => s.fab.tokInbox ++ [⟨tag, f.gen, f.src, f.inc, f.die, [part]⟩]
  { s with fab := { s.fab with tokInbox := inbox } }
/-- A part taken; the exchange that waits for it goes on if it can. -/
def State.takeCounts (s : State) (f : Frame) : State :=
  let s := s.addPart f
  match (s.exchOf f).bind (fun x => s.action x.action) with
  | some a => s.tryRows a
  | none => s

/-- The vector belongs to an exchange that has fired and not yet used it. -/
def State.claimed (s : State) (v : TokVector) : Bool :=
  s.fab.exchanges.any (fun x => !x.allocated && s.vectorOf x v.rank == some v)
/-- Bytes that the vectors waiting for an exchange to fire take in the inbox of a die (R342). -/
def State.inboxBytes (s : State) (die : Nat) : Nat :=
  ((s.fab.tokInbox.filter (fun v => v.die == die && !s.claimed v)).map (fun v => (v.parts.map (fun p => 4 * p.2.length)).sum)).sum

/-- TOKEN_COUNTS: a frame that the 1 MiB inbox of its die has no room for waits in its link buffer (R342; log 57). -/
def execTokenCounts (s : State) : Result :=
  match s.takeFrame 0x38 with
  | none => .next s
  | some (r, f, t) => when (decide ((t.addPart f).inboxBytes f.die ≤ 2 ^ 20)) s ((t.takeCounts f).free_ r)

/-- Where a fragment goes: by its position in DISPATCH, by the token and route of its metadata in RETURN (R322). -/
def fragVa (d slot pos frag info : Nat) : Nat :=
  (if txReturn d then txRowVa d + (field info 0 32 * txK d + field info 51 3) * txRow d
   else txRecvVa d + (slot * txC d + pos) * txRow d) + 4096 * frag

/-- A complete row is recorded, its metadata written, and acknowledged (R322, R342). -/
def State.rowComplete (s : State) (a : Action) (x : Exchange) (f : Frame) (r : TokRow) : State :=
  let d := x.desc.toNat
  let spans : List Span := if txReturn d then [] else [⟨txMetaVa d + (r.local_ * txC d + r.pos) * 8, 8, true, false⟩]
  s.actionWork a (txTag d) spans (fun s _ pss =>
    let s := if txReturn d then s else s.actionWrite a (nthPieces pss 0) (natLe 8 r.info)
    let s := s.setExch { x with rows := x.rows.filter (fun y => !(y.rank == r.rank && y.local_ == r.local_ && y.pos == r.pos)),
                                arrived := x.arrived + 1 }
    (s.send 0x3A f.src (txGen d) a.transit.die a.parity (txTag d) (natLe 4 1) (txTag d)).exchDone a.id)

/-- A fragment of a row is placed (R322). -/
def State.takeRow (s : State) (a : Action) (x : Exchange) (f : Frame) : State :=
  let d := x.desc.toNat
  let e := leAt f.body 0 16
  let (info, frag, slot, pos) := (field e 0 64, field e 64 16, field e 80 16, field e 96 32)
  let data := f.body.drop 16
  s.actionWork a (txTag d) [⟨fragVa d slot pos frag info, data.length, true, false⟩] (fun s _ pss =>
    let s := s.actionWrite a (nthPieces pss 0) data
    let same := fun (y : TokRow) => y.rank == f.src && y.local_ == slot && y.pos == pos
    let old := (x.rows.find? same).getD ⟨f.src, slot, pos, info, []⟩
    let row := { old with frags := addNew frag old.frags }
    let x := { x with rows := x.rows.filter (fun y => !same y) ++ [row] }
    if row.frags.length = txFrags d then s.rowComplete a x f row else s.setExch x)

/-- TOKEN_ROW; a frame that matches no exchange in flight is dropped (R339, R342). -/
def execTokenRow (s : State) : Result :=
  match s.takeFrame 0x39 with
  | none => .next s
  | some (r, f, t) =>
    .next ((match t.exchOf f with
      | none => t.stagingDrop 0xFF (f.tf % 2 ^ 32)
      | some x => match t.action x.action with
        | some a => t.takeRow a x f
        | none => t.stagingDrop 0xFF (f.tf % 2 ^ 32)).free_ r)

/-- Rows acknowledged (R342). -/
def State.takeTokenAck (s : State) (f : Frame) : State :=
  match s.exchOf f with
  | none => s.stagingDrop 0xFF (f.tf % 2 ^ 32)
  | some x => (s.setExch { x with unacked := x.unacked - leAt f.body 0 4 }).exchDone x.action

/-- TOKEN_ACK. -/
def execTokenAck (s : State) : Result :=
  match s.takeFrame 0x3A with
  | none => .next s
  | some (r, f, t) => .next ((t.takeTokenAck f).free_ r)

end Sys2Proof.Machine
end

