-- ==== Sys2Proof/Machine/Remote.lean ====
section
/-! DEFINITION. Remote access (file 12, R334): requests of other packages served here, and the answers to this package's own. -/
namespace Sys2Proof.Machine

/-! ### Requests served (R334) -/

/-- The request extension of an answer: LENGTH and TAG come back unchanged (R321), and poison met at the owner is reported beside them (R257; log 89). -/
def answerExt (f : Frame) (poison : Option Nat) : Bytes :=
  natLe 8 (leAt f.body 0 8 % 2 ^ 55 + (match poison with | some p => 2 ^ 55 + p / 32 % 8 * 2 ^ 56 | none => 0))

/-- An answer to a request (R334). -/
def State.answer (s : State) (ftype : Nat) (f : Frame) (poison : Option Nat) (data : Bytes) : State :=
  let lpa := f.tf % 2 ^ 44
  s.send ftype f.src 0 (lpaDie lpa) false 0 (answerExt f poison ++ data) (reqKey lpa)

/-- LPA of the poisoned sector that an answer reports for its request (R257, R277; log 89). -/
def Frame.poison (f : Frame) (t : Target) : Option Nat :=
  let x := leAt f.body 0 8
  if bit x 55 then some (t.lpa / 256 * 256 + 32 * field x 56 3) else none

/-- LENGTH of a request's extension. -/
def Frame.reqLen (f : Frame) : Nat := field (leAt f.body 0 8) 46 9

/-- An address that memory does not answer: fault 0x82, and no answer (R38; log 58). -/
def State.refuseForeign (s : State) (lpa : Nat) : State :=
  s.xFault 0x82 (lpaDie lpa) 0xFFFFFFFF 0xFFFF 0xFFFF 0 lpa (agentCode (.action 0))

/-- What a request's extension says of its access: an Eaves fill, the irregular path, LOFT_ALLOC (log 89). -/
def Frame.eaves (f : Frame) : Bool := bit (leAt f.body 0 8) 59
/-- The access uses the irregular access path. -/
def Frame.irregular (f : Frame) : Bool := bit (leAt f.body 0 8) 60
/-- The page of the access has LOFT_ALLOC. -/
def Frame.alloc (f : Frame) : Bool := bit (leAt f.body 0 8) 61

/-- The sectors that an irregular access of another package transfers are counted by the owner (R274). -/
def State.countForeign (s : State) (f : Frame) : State :=
  let lpa := f.tf % 2 ^ 44
  if f.irregular && inTiers lpa then s.countSectors (s.owner lpa) (s.missing (s.line lpa) lpa f.reqLen) else s

/-- A read served by the owning slice; a poisoned sector is reported to the requester, which consumes it, and its bytes are free values (R257, R277; log 89). The line of an Eaves fill is always installed, and becomes EXPORTED (R256, R263). -/
def State.serveRead (s : State) (f : Frame) : State :=
  let lpa := f.tf % 2 ^ 44
  let n := f.reqLen
  if !memoryRange lpa n then s.refuseForeign lpa
  else
    let s := (s.countForeign f).loftRead lpa n (f.alloc || f.eaves)
    let s := if f.eaves then s.export_ (s.line lpa) else s
    match s.poisonedAt lpa n with
    | some p =>
      let (v, s) := s.takeFree (8 * n)
      s.answer 0x18 f (some p) (natLe n v)
    | none => s.answer 0x18 f none (s.read lpa n)

/-- A request frame (R321). -/
def Frame.isRequest (f : Frame) : Bool := f.ftype == 0x10 || f.ftype == 0x11 || f.ftype == 0x12
/-- The oldest delivered request of a type; it is not taken while an earlier request of its rank for the same bytes waits (R89). -/
def State.takeRequest (s : State) (ftype : Nat) (serve : Frame → State → State) : Result :=
  match s.takeFrame ftype with
  | none => .next s
  | some (r, f, t) =>
    let earlier := (s.fab.inbox.takeWhile (· != r)).map (fun q => parseFrame q.bytes)
    when (!earlier.any (fun g => g.isRequest && g.src == f.src && overlaps (g.tf % 2 ^ 44) g.reqLen (f.tf % 2 ^ 44) f.reqLen)) s
      ((serve f t).free_ r)

/-- MEM_READ: the oldest delivered MEM_READ frame is served. -/
def execMemRead (s : State) : Result := s.takeRequest 0x10 (fun f t => t.serveRead f)

/-- A write served by the owning slice, and acknowledged once it is there. -/
def State.serveWrite (s : State) (f : Frame) : State :=
  let lpa := f.tf % 2 ^ 44
  let n := f.reqLen
  if !memoryRange lpa n then s.refuseForeign lpa
  else ((s.countForeign f).arriveWrite noDie lpa (slice f.body 8 n) f.alloc .link 0xFFFF 0xFFFF 0xFFFFFFFF).answer 0x19 f none []

/-- MEM_WRITE. -/
def execMemWrite (s : State) : Result := s.takeRequest 0x11 (fun f t => t.serveWrite f)

/-- A write-add served by the owning slice: of Slate or Thatch only, and of FP32 or AQ48 (R100, R257, R291; log 58); poison is reported with the acknowledgement (R257). -/
def State.serveAdd (s : State) (f : Frame) : State :=
  let lpa := f.tf % 2 ^ 44
  let fmt := field f.tf 44 4
  let n := f.reqLen
  if !memoryRange lpa n ∨ !inTiers lpa then s.refuseForeign lpa
  else if fmt ≠ 0 ∧ fmt ≠ 2 then s
  else
    let (s, poison) := ((s.countForeign f).settle (s.line lpa)).applyAdd lpa fmt (slice f.body 8 n) .link 0xFFFF 0xFFFF 0xFFFFFFFF
    s.answer 0x19 f poison []

/-- MEM_WRITE_ADD. -/
def execMemWriteAdd (s : State) : Result := s.takeRequest 0x12 (fun f t => t.serveAdd f)

/-! ### Answers (R334) -/

/-- A fabric action whose reads have come back goes on from where it waited. -/
def State.resumeAction (s : State) (id : Nat) : State :=
  match s.action id with
  | none => s
  | some a =>
    match a.transit.action with
    | 0x03 => if s.fab.winOut.any (fun w => w.action == id) then s else s.startWindow a
    | 0x05 => if (s.exchange id).isSome then s.pumpExch a else s.startExchange a
    | 0x06 =>
      if s.fab.roots.any (fun r => r.action == id) || s.fab.contribs.any (fun c => c.action == id) then s.pumpContribs a
      else s.startReduce a
    | _ => s

/-- The TAG that an answer carries: the number of the request. -/
def Frame.tag (f : Frame) : Nat := leAt f.body 0 8 % 2 ^ 46

/-- Read data reaches its request; data of an abandoned request is discarded (R503). -/
def State.takeReadData (s : State) (f : Frame) : State :=
  match s.req f.tag with
  | none => s
  | some r =>
    let s := s.mapReq r.id (fun q => { q with done := true, data := f.body.drop 8, poison := f.poison r.target })
    match r.agent with
    | .action id => s.resumeAction id
    | .update _ => State.sendWaiting s.upd.waiting.length s
    | _ => s

/-- READ_DATA. -/
def execReadData (s : State) : Result :=
  match s.takeFrame 0x18 with
  | none => .next s
  | some (r, f, t) => .next ((t.takeReadData f).free_ r)

/-- A write is acknowledged: the tracking entry of an engine's or action's store frees, and what waited for it completes (R60, R334). A thread or mover takes its answer with MEMORY_RESPONSE. -/
def State.takeWriteAck (s : State) (f : Frame) : State :=
  match s.req f.tag with
  | none => s
  | some r =>
    match r.agent with
    | .update j => (State.sendWaiting s.upd.waiting.length (s.dropReq r.id)).finishJob j
    | .action id =>
      let s := s.dropReq r.id
      if id ∈ s.fab.closing then s.closeAction id else s
    | _ => s.mapReq r.id (fun q => { q with done := true, poison := f.poison r.target })

/-- WRITE_ACK. -/
def execWriteAck (s : State) : Result :=
  match s.takeFrame 0x19 with
  | none => .next s
  | some (r, f, t) => .next ((t.takeWriteAck f).free_ r)

end Sys2Proof.Machine
end

