-- ==== Sys2Proof/Machine/Sidereal.lean ====
section
/-! DEFINITION. Sidereal time (file 02, R40 to R48): the passing of ticks, slot boundaries and guard bands, the time tree, beacons and the lock state. -/
namespace Sys2Proof.Machine

/-! ### The clock (R40, R41, R49; log 1) -/

/-- Beginning of the next slot. -/
def State.nextSlotStart (s : State) : Nat := (s.slot + 1) * 2048
/-- The guard-band sample of the present working slot is still to be taken while an Almanac runs (R41). -/
def State.sampleDue (s : State) : Bool := s.running && !s.inDusk && !s.time.sampled && !s.time.boundaryOpen
/-- The counters count. -/
def State.clockOn (s : State) : Bool := s.time.counting && !s.boot.inReset
/-- One idle ARC tick. The counters stand still before tick 0 of a slot whose SLOT_BOUNDARY is still to come, and before tick 1,984 of a working slot whose GUARD_BAND_SAMPLE is still to come (log 1). -/
def idleTick (s : State) : State :=
  if s.clockOn && !s.time.boundaryOpen && tickOf s.sdt != 2047 && !(tickOf s.sdt == 1983 && s.sampleDue) then s.passTo (s.sdt + 1) else s
/-- Tick 0 of the next slot is reached; nothing of it has happened. -/
def State.atBoundary (s : State) : State :=
  if s.time.boundaryOpen then s
  else
    let t := s.passTo s.nextSlotStart
    { t with time := { t.time with boundaryOpen := true, sampled := false } }
/-- A slot boundary may be reached: every earlier instant of the present slot has been taken. -/
def State.boundaryMay (s : State) : Bool := s.clockOn && !s.sampleDue
/-- Tick 1,984 of the present slot may be reached. -/
def State.guardMay (s : State) : Bool := s.clockOn && !s.time.boundaryOpen && decide (tickOf s.sdt ≤ 1984)
/-- Tick 1,984 of the present slot. -/
def State.atGuard (s : State) : State := s.passTo (s.slot * 2048 + 1984)

/-! ### The time tree (R42 to R45) -/

/-- The package is the time root (R45). -/
def State.isRoot (s : State) : Bool := s.rank == s.dget 0x2102 0
/-- Route group of the neighbour one step towards the root (R45). -/
def State.parentGroup (s : State) : Option Nat :=
  stepTowards (s.domainSize 0) (s.domainSize 1) (s.domainSize 2) s.rank (s.dget 0x2102 0)
/-- Links on which a parent may be followed: live links of that group with a recovered clock (R44). -/
def State.parentLinks (s : State) : List Nat :=
  match s.parentGroup with
  | some g => (s.groupLinks g).filter (fun l => s.time.rxClock.getLsbD l)
  | none => []
/-- An Almanac is armed, so that SDT is corrected by slewing only (R44, R47). -/
def State.armedNow (s : State) : Bool :=
  match s.alm.state with
  | .armed | .running | .paused => true
  | _ => false
/-- Code of LOCK_STATE (R42). -/
def LockState.code : LockState → Nat
  | .free => 0 | .syntonising => 1 | .aligning => 2 | .locked => 3 | .holdover => 4
/-- Best of the last samples: the smallest delay, the newest on a tie (R47). -/
def bestSample : List (Int × Int) → Option (Int × Int)
  | [] => none
  | x :: t => match bestSample t with
    | some y => if y.1 < x.1 then some y else some x
    | none => some x
/-- Filtered offset as it stands, in 1/512 tick. -/
def State.bestOffset (s : State) : Option Int := (bestSample s.time.samples).map (fun b => b.2)
/-- n divided by d, rounded half to even. -/
def divHalfEven (n : Int) (d : Nat) : Int :=
  let q := n / (d : Int)
  let r := 2 * (n - q * d)
  if r < d then q else if r > d then q + 1 else if q % 2 = 0 then q else q + 1
/-- TIME_OFFSET in 1/256 tick (R47; log 60). -/
def State.timeOffset (s : State) : Int := divHalfEven s.time.offset 2
/-- The package follows the parent on a link from now on: an offset already measured there is its first sample and so the filtered offset, which otherwise stands until the first response (R44, R46, R74; log 66). -/
def State.follow (s : State) (l : Nat) : State :=
  let first := match tfind s.time.linkOffsets l with | some x => [x] | none => []
  let off := match tfind s.time.linkOffsets l with | some x => x.2 | none => s.time.offset
  { s with time := { s.time with parentLink := l, samples := first, offset := off, inTolerance := 0, stepDue := none } }

/-- PARENT_CLOCK_LOST: the next live link of the same direction in ascending number stands in, with no change of state; with none the package holds over (R44). After the highest number the search goes on from the lowest (DESIGN CHOICE, log 66). -/
def State.clockLost (s : State) : State :=
  let l := s.time.parentLink
  let s : State := { s with time := { s.time with rxClock := s.time.rxClock &&& ~~~(1#36 <<< l) } }
  match (s.parentLinks.filter (fun k => l < k)) ++ s.parentLinks with
  | k :: _ => s.follow k
  | [] => { s with time := { s.time with lock := .holdover, stepDue := none } }
/-- PARENT_CLOCK_LOST. -/
def execParentClockLost (s : State) : Result :=
  let following := match s.time.lock with | .syntonising | .aligning | .locked => true | _ => false
  when (s.clockOn && !s.isRoot && following && decide (s.time.parentLink < 36)) s s.clockLost

/-- PARENT_LINK_RECOVERED: from FREE or HOLDOVER the package syntonises to the link, and the root PLLs lock to its clock anew (R42, R43, R44; log 66). -/
def execParentLinkRecovered (link : Fin 36) (s : State) : Result :=
  let t : State := { s with time := { s.time with rxClock := s.time.rxClock ||| (1#36 <<< link.val) } }
  let idle := match s.time.lock with | .free | .holdover => true | _ => false
  when (s.clockOn && !s.isRoot && decide (link.val ∈ t.parentLinks) && (idle || !s.time.rxClock.getLsbD link)) s
    (if idle then
      let u := t.follow link
      { u with time := { u.time with lock := .syntonising }, clk := { u.clk with pll := PerDie.all 1 } }
     else t)

/-! ### Beacons (R46, R47) -/

/-- A beacon by its fields: TYPE, SENDER_RANK, INCARNATION, SEQUENCE, T_TX with fraction, SENDER_STATE, the echoes in 1/256 tick, HOPS_FROM_ROOT. -/
structure Beacon where
  type : Nat
  rank : Nat
  inc : Nat
  seq : Nat
  tx : Nat
  state : Nat
  echoTx : Nat
  echoRx : Nat
  hops : Nat
  deriving DecidableEq, Repr

/-- Ticks and fraction of a time in 1/256 tick, as a 72-bit field. -/
def stampBits (t : Nat) : Nat := t / 256 % 2 ^ 64 * 256 + t % 256
/-- The 64 bytes of a beacon (R46). -/
def Beacon.bytes (b : Beacon) : Bytes :=
  let n := b.type % 256 * 2 ^ 504 + b.rank % 1024 * 2 ^ 480 + b.inc % 65536 * 2 ^ 464 + b.seq % 65536 * 2 ^ 448 + stampBits b.tx * 2 ^ 376 +
    b.state % 256 * 2 ^ 368 + stampBits b.echoTx * 2 ^ 296 + stampBits b.echoRx * 2 ^ 224 + b.hops % 256 * 2 ^ 216
  natLe 64 (n + crc32c (natLe 60 (n / 2 ^ 32)))
/-- The beacon that bytes hold. -/
def beaconOf (bs : Bytes) : Beacon :=
  let n := leAt bs 0 64
  ⟨field n 504 8, field n 480 10, field n 464 16, field n 448 16, field n 376 72, field n 368 8, field n 296 72, field n 224 72, field n 216 8⟩
/-- FRAME_CRC is right. -/
def beaconCrcOk (bs : Bytes) : Bool := leAt bs 0 4 == crc32c (slice bs 4 60)

/-- A request sent to the parent on a link. The fraction of its transmission stamp is a free value. -/
def State.sendBeacon (s : State) (l : Nat) : State :=
  let (frac, s) := s.takeFree 8
  let q := s.time.beaconSeq.toNat
  let b : Beacon := ⟨1, s.rank, s.incarnation, q, s.sdt * 256 + frac, s.time.lock.code, 0, 0, s.time.hops⟩
  let s : State := { s with time := { s.time with beaconSeq := s.time.beaconSeq + 1, beaconOut := s.time.beaconOut ++ [(s.time.beaconSeq, l)] } }
  s.sendOn l 0x01 0 s.leader false 0 b.bytes (pmPeerRank (s.portMap l))
/-- A child with a live link to its parent exchanges beacons. -/
def State.beaconOn (s : State) : Bool :=
  s.clockOn && !s.quiet && !s.isRoot && decide (s.time.parentLink < 36) && s.live s.time.parentLink
/-- Sixteen working slots have begun since the last beacon request. -/
def State.beaconDue (s : State) : Bool := s.beaconOn && s.time.beaconWait == 0
/-- BEACON_REQUEST_SEND: once every 16 working slots (R46). -/
def execBeaconRequestSend (s : State) : Result :=
  when s.beaconDue s (({ s with time := { s.time with beaconWait := 16 } } : State).sendBeacon s.time.parentLink)
/-- A minute in slots. -/
def minuteSlots : Nat := 60 * 781250
/-- UNUSED_PARENT_BEACON: once a minute, to a parent not in use (R46). -/
def execUnusedParentBeacon (link : Fin 36) (s : State) : Result :=
  let last := tget 0 s.time.unusedSent link
  let t : State := { s with time := { s.time with unusedSent := tset s.time.unusedSent link (s.slot + 1) } }
  if last ≠ 0 ∧ s.slot + 1 < last + minuteSlots then .next s
  else when (s.clockOn && !s.quiet && !s.isRoot && decide (link.val ∈ s.parentLinks) && decide (link.val ≠ s.time.parentLink)) s
    (t.sendBeacon link)

/-- The oldest delivered beacon that is a response, or that is not. -/
def State.takeBeacon (s : State) (response : Bool) : Option (RxFrame × Frame × State) :=
  let mine := fun (r : RxFrame) =>
    let f := parseFrame r.bytes
    f.ftype == 1 && ((beaconOf f.body).type == 2) == response
  match s.fab.inbox.find? mine with
  | none => none
  | some r => some (r, parseFrame r.bytes, { s with fab := { s.fab with inbox := s.fab.inbox.erase r } })
/-- The body of a beacon is whole, and its sender's incarnation is current at the link it came by and at this package; a stale one is counted (R46, R330). -/
def State.goodBeacon (s : State) (r : RxFrame) (f : Frame) : Bool × State :=
  let b := beaconOf f.body
  if f.body.length ≠ 64 ∨ !beaconCrcOk f.body then (false, s)
  else if r.link < 36 ∧ b.rank = pmPeerRank (s.portMap r.link) ∧ b.inc ≠ s.dget 0x2722 (r.link + 1) then (false, s.dadd 0x3702 1 1)
  else if b.inc ≠ s.rankIncarnation b.rank then (false, s.dadd 0x3702 2 1)
  else (true, s)

/-- The answer to a request, on the link it came by: t2 is now, t3 after `turn` ticks (R46). -/
def State.answerBeacon (s : State) (r : RxFrame) (f : Frame) (t2frac t3frac turn : Nat) : State :=
  let q := beaconOf f.body
  let b : Beacon := ⟨2, s.rank, s.incarnation, q.seq, (s.sdt + turn) * 256 + t3frac, s.time.lock.code, q.tx, s.sdt * 256 + t2frac, s.time.hops⟩
  if r.link < 36 then s.sendOn r.link 0x01 0 s.leader false 0 b.bytes f.src else s
/-- BEACON_REQUEST: a request is answered within 64 ticks; a beacon of another TYPE is discarded (R46). -/
def execBeaconRequest (t2frac t3frac : Fin 256) (turn : Nat) (s : State) : Result :=
  match s.takeBeacon false with
  | none => .next s
  | some (r, f, t) =>
    when (decide (turn ≤ 64)) s
      (let (ok, t) := t.goodBeacon r f
       (if ok && (beaconOf f.body).type == 1 then t.answerBeacon r f t2frac t3frac turn else t).free_ r)

/-- Asymmetry trim of a link in 1/256 tick (R47). -/
def State.trim (s : State) (l : Nat) : Int := toSigned 16 (s.dget 0x2122 (l + 1))
/-- What follows a new sample of the parent in use (R47): a step at the next slot boundary when the package is aligning, not armed and 1 tick or more away, and the lock once eight samples in a row are within 32/256 tick. -/
def State.sampled (s : State) : State :=
  match s.bestOffset with
  | none => s
  | some o =>
    let near : Bool := decide (o ≤ 64) && decide (-64 ≤ o)
    let far : Bool := decide (512 ≤ o) || decide (o ≤ -512)
    let tol := if near then s.time.inTolerance + 1 else 0
    let due := if s.time.lock == .aligning && !s.armedNow && far then some (divHalfEven o 512) else none
    let lock := if s.time.lock == .aligning && decide (8 ≤ tol) then LockState.locked else s.time.lock
    { s with time := { s.time with offset := o, inTolerance := tol, stepDue := due, lock := lock } }
/-- A response: delay and offset by the four stamps (R47). -/
def State.takeResponse (s : State) (b : Beacon) (l : Nat) (t4 : Int) : State :=
  let t1 : Int := b.echoTx
  let t2 : Int := b.echoRx
  let t3 : Int := b.tx
  let delay := (t4 - t1) - (t3 - t2)
  let offset := (t2 - t1) + (t3 - t4) - 2 * s.trim l
  if l = s.time.parentLink then
    let s : State := { s with time := { s.time with samples := ((delay, offset) :: s.time.samples).take 8, hops := b.hops + 1 } }
    s.sampled
  else { s with time := { s.time with linkOffsets := tset s.time.linkOffsets l (delay, offset) } }
/-- BEACON_RESPONSE: a response to a request in flight; another is discarded. The time t4 is now, with the fraction of a tick that the stamp catches (R47). -/
def execBeaconResponse (t4frac : Fin 256) (s : State) : Result :=
  match s.takeBeacon true with
  | none => .next s
  | some (r, f, t) =>
    let (ok, t) := t.goodBeacon r f
    let b := beaconOf f.body
    .next ((match ok, t.time.beaconOut.find? (fun (p : BitVec 16 × Nat) => p.1.toNat == b.seq) with
      | true, some p =>
        let t : State := { t with time := { t.time with beaconOut := t.time.beaconOut.filter (fun q => q.1 != p.1) } }
        t.takeResponse b p.2 (s.sdt * 256 + t4frac)
      | _, _ => t).free_ r)

/-- What time does at a slot boundary (R47): the step that is due, else the slew of at most 1/256 tick. -/
def State.slew (s : State) : State :=
  match s.time.stepDue with
  | some d =>
    if s.armedNow then { s with time := { s.time with stepDue := none } }
    else
      let move := fun (c : BitVec 64) => c + BitVec.ofInt 64 d
      { s with time := { s.time with sdt := pmap move s.time.sdt, stepDue := none, samples := [] } }
  | none => match s.bestOffset with
    | none => s
    | some o => { s with time := { s.time with phase := s.time.phase + max (-2) (min 2 o) } }

end Sys2Proof.Machine
end

