-- ==== Sys2Proof/Machine/Almanac.lean ====
section
/-! DEFINITION. The Almanac (file 02, R50 to R57): headers and descriptors, the checks of arming and staging, the commands of ALMANAC_CONTROL, the start and the reading of descriptors. -/
namespace Sys2Proof.Machine

/-! ### Headers and descriptors (R52, R57) -/

/-- Code of a buffer: 0 A, 1 B. -/
def Buf.code : Buf → Nat
  | .a => 0
  | .b => 1
/-- Bits of the header that are reserved are zero (R52). -/
def headerReserved (n : Nat) : Bool := field n 193 31 == 0 && field n 0 128 == 0
/-- HEADER_CRC is right: CRC-32C with bytes 16 to 19 taken as zero. -/
def headerCrcOk (bs : Bytes) : Bool := leAt bs 16 4 == crc32c (patch (slice bs 0 128) 16 [0, 0, 0, 0])
/-- The fields of a header. -/
def headerOf (buf : Buf) (base n : Nat) : AlmHeader :=
  { buf := buf, base := base, id := field n 416 32, asid := field n 448 12, count := field n 384 32, epochSlots := field n 352 32,
    epochCount := field n 320 32, iterations := field n 288 32, stepBase := field n 256 32, variant := field n 224 32, chain := bit n 192,
    ranks := BitVec.ofNat 512 (n >>> 512) }
/-- The header names no work: it arms and completes at once (R53). -/
def AlmHeader.empty (h : AlmHeader) : Bool := h.count == 0 || h.iterations == 0

/-- The fields of a descriptor (R57). -/
def transitOf (n : Nat) : Transit :=
  { slot := field n 224 32, action := field n 216 8, die := Fin.ofNat 4 (field n 214 2), unit := field n 208 6, coreFirst := field n 199 9,
    coreCount := field n 190 9, threadMask := BitVec.ofNat 32 (n >>> 158), waitGate := field n 146 12, doneGate := field n 134 12,
    waitValue := BitVec.ofNat 32 (n >>> 96), param := field n 64 24, addr := field n 8 56, noSlip := bit n 0 }
/-- UNIT has a value that the action takes (R60, R475). -/
def unitOk (action unit : Nat) : Bool :=
  match action with
  | 0 | 1 | 4 | 5 | 7 | 8 => unit == 0
  | 2 => true
  | 3 => decide (unit ≤ 8) || unit == 63
  | 6 => decide (unit ≤ 15)
  | 9 => decide (1 ≤ unit) && decide (unit ≤ 5)
  | _ => false
/-- The named cores all lie on DIE (R57). -/
def coresOk (t : Transit) : Bool :=
  if t.action = 1 ∨ t.action = 4 then
    decide (t.coreCount ≤ 96) && t.coreFirst / 96 == t.die.val && (t.coreCount == 0 || (t.coreFirst + t.coreCount - 1) / 96 == t.die.val)
  else true
/-- Reserved bits and codes of a descriptor are as they must be (R53 check 4), PARAM[23:4] of a COUNTER_SNAPSHOT among them (R475). PARAM and ADDR of a NOP, ADDR of a GATE_SIGNAL and its PARAM[23:22] are not looked at (DESIGN CHOICE, log 91). -/
def descriptorOk (n : Nat) : Bool :=
  let t := transitOf n
  field n 128 6 == 0 && field n 88 8 == 0 && field n 1 7 == 0 && unitOk t.action t.unit && coresOk t && (t.action != 9 || decide (t.param < 16))
/-- SLOT is below L and does not decrease (R53 check 4). -/
def slotsRise (l : Nat) : Nat → List Nat → Bool
  | _, [] => true
  | last, n :: t => let x := field n 224 32; decide (last ≤ x) && decide (x < l) && slotsRise l x t
/-- More than 1,984 transits have one SLOT on one die (R53 check 5): among descriptors in table order, so that equal slots stand together. `run` counts each die in the slot `at_`. -/
def overfull : Nat → List Nat → List Nat → Bool
  | _, _, [] => false
  | at_, run, n :: t =>
    let x := field n 224 32
    let d := field n 214 2
    let run := if x = at_ then run else [0, 0, 0, 0]
    let k := run.getD d 0 + 1
    decide (1984 < k) || overfull x (run.set d k) t

/-! ### The checks (R53) -/

/-- What a check finds: the latched header, or the code of the first check that fails. -/
inductive CheckResult where
  | good (h : AlmHeader)
  | bad (code : Nat)
  deriving DecidableEq, Repr

/-- A poisoned sector that the checks meet is logged as event 0x72 and rejects (R53). -/
def State.checkPoison (s : State) (a n code : Nat) (k : State → State × CheckResult) : State × CheckResult :=
  let s := (s.loftReads a n true).noteOne s.leader
  match s.poisonedAt a n with
  | some x => (s.poisonFound (s.place x), .bad code)
  | none => k s

/-- Checks 3 to 5: the table. -/
def State.checkTable (s : State) (h : AlmHeader) (size crc : Nat) : State × CheckResult :=
  if 1048576 < h.count ∨ h.epochSlots = 0 ∨ 65536 < h.epochSlots ∨ 2 ^ 32 ≤ h.length then (s, .bad 0x01)
  else if size < 128 + 32 * h.count then (s, .bad 0x02)
  else s.checkPoison (h.base + 128) (32 * h.count) 0x02 (fun s =>
    let bs := s.read (h.base + 128) (32 * h.count)
    let rows := (chunksOf 32 h.count bs).map leNat
    if crc32c bs ≠ crc ∨ !rows.all descriptorOk ∨ !slotsRise h.length 0 rows then (s, .bad 0x02)
    else if overfull 0 [0, 0, 0, 0] rows then (s, .bad 0x05)
    else (s, .good h))

/-- Checks 1 to 5 of a buffer. -/
def State.checkBuffer (s : State) (buf : Buf) : State × CheckResult :=
  let (base, size) := s.bufRange buf
  if size < 128 ∨ base % 128 ≠ 0 ∨ region base ≠ .slate ∨ region (base + size - 1) ≠ .slate then (s, .bad 0x01)
  else s.checkPoison base 128 0x01 (fun s =>
    let bs := s.read base 128
    let n := leNat bs
    let h := headerOf buf base n
    if field n 480 32 ≠ 0x414C4D4B ∨ field n 464 16 ≠ 1 ∨ !headerCrcOk bs ∨ !headerReserved n ∨ h.id = 0 then (s, .bad 0x01)
    else if h.empty then (s, .good h)
    else s.checkTable h size (field n 160 32))

/-- Checks 6 and 7, of arming (R53): locked, and a start at a working-slot boundary still to come. An empty Almanac needs neither. -/
def State.checkStart (s : State) (h : AlmHeader) : CheckResult :=
  let start := s.dget 0x2114 0
  if h.empty then .good h
  else if s.time.lock ≠ .locked then .bad 0x03
  else if start % 2048 ≠ 0 ∨ isDusk (slotOf start) ∨ start ≤ s.sdt then .bad 0x04
  else .good h

/-! ### Commands of ALMANAC_CONTROL (R54, R55) -/

/-- Everything that a halted package was doing is gone when it leaves HALTED (R237, R299; log 61). -/
def State.leaveHalted (s : State) : State :=
  let s := s.discardUpdate.discardParks
  let still := fun (k : Core) => { k with matrix := k.matrix.map (fun m => { m with tries := 0 }), arraysStopped := 0, faultStop := 0, fetches := [],
                                          images := k.images.map (fun i => { i with pinned := [] }) }
  { s with
    cores := s.cores.map (fun p => (p.1, still p.2))
    threads := s.threads.map (fun p => (p.1, { p.2 with status := .idle }))
    movers := s.movers.map (fun p => (p.1, { p.2 with status := .idle, desc := none, open_ := [], ahead := [], action := 0 }))
    trans := { s.trans with reqs := [] }
    cache := { s.cache with eavesFills := [] }
    alm := { s.alm with actions := [] }
    fab := { s.fab with winOut := [], roots := [], contribs := [], exchanges := [], gateOut := [], grants := [], closing := [], winIn := [], relays := [],
                           tokInbox := [], haltWait := none } }

/-- The staging of the buffer that is not active is dropped. -/
def State.dropStaged (s : State) : State := { s with alm := { s.alm with standby := .none, stageCheck := none, stagedHdr := none } }

/-- ARM_A or ARM_B is permitted (R54). -/
def State.armPermits (s : State) : Bool :=
  s.alm.standby != .checking && (match s.alm.state with | .idle | .complete | .halted | .rejected => true | _ => false)
/-- ARM_A or ARM_B: staging of the named buffer is dropped if it is the staged one, and its check begins (R54). -/
def State.arm (s : State) (buf : Buf) : State :=
  let s := if s.alm.state = .halted then s.leaveHalted else s
  let s := if s.alm.activeBuf ≠ buf ∧ s.alm.standby = .staged then s.dropStaged else s
  { s with alm := { s.alm with state := .checking, armCheck := some buf } }

/-- STAGE_A or STAGE_B is permitted (R54). -/
def State.stagePermits (s : State) (buf : Buf) : Bool := s.alm.standby != .checking && s.alm.activeBuf != buf
/-- STAGE_A or STAGE_B: the check of the buffer begins. -/
def State.stage (s : State) (buf : Buf) : State :=
  { s with alm := { s.alm with standby := .checking, stageCheck := some buf, stagedHdr := none } }

/-- UNSTAGE is permitted. -/
def State.unstagePermits (s : State) : Bool := s.alm.standby != .checking

/-- DISARM is permitted. R54 gives it no effect in IDLE, CHECKING, HALTED and COMPLETE; it is refused there (DESIGN CHOICE, log 91). -/
def State.disarmPermits (s : State) : Bool :=
  match s.alm.state with
  | .armed | .rejected | .running | .paused => true
  | _ => false
/-- DISARM: back to IDLE, or a halt with code 0x13 (R54). -/
def State.disarm (s : State) : State :=
  if s.running then s.haltNow 0x13 0
  else { s with alm := { s.alm with state := .idle, queues := PerDie.all [] } }

/-! ### The end of a check (R53, R54, R499, R504) -/

/-- What arming clears (R499). -/
def State.armClears (s : State) : State :=
  { s with
    conj := { s.conj with votes := [], skips := [], committed := [], fault := false, uwr := false, throttled := false,
                          explicitReq := 0, stopSlots := [], stopMarked := [] }
    power := { s.power with withheld := 0 } }

/-- Position and queues of an Almanac whose slot 0 has not begun; the windows that are open run on (R500). -/
def State.freshAlmanac (s : State) (h : AlmHeader) : State :=
  { s with
    alm := { s.alm with
      hdr := some h
      activeBuf := h.buf
      iteration := 0
      cur := none
      nextAlm := 0
      slips := []
      conjIndex := 0
      readIter := 0
      readIdx := 0
      queues := PerDie.all []
      gateSample := []
      fired := []
      resumeAt := none }
    upd := { s.upd with frozenLogged := [] } }

/-- An armed buffer (R53, R54, R499). -/
def State.armDone (s : State) (h : AlmHeader) : State :=
  let s := s.discardParks.armClears.freshAlmanac h
  let s : State := if s.alm.stageCheck = some h.buf then s.dropStaged else s
  { s with
    alm := { s.alm with state := if h.empty then .complete else .armed }
    conj := { s.conj with windows := [] } }

/-- The check of an ARM command ends. -/
def State.armChecked (s : State) (buf : Buf) : State :=
  let (s, r) := s.checkBuffer buf
  let s : State := { s with alm := { s.alm with armCheck := none } }
  match (match r with | .good h => s.checkStart h | .bad c => .bad c) with
  | .good h => s.armDone h
  | .bad code => ({ s with alm := { s.alm with state := .rejected } } : State).dset 0x2121 0 code

/-- The check of a STAGE command ends. -/
def State.stageChecked (s : State) (buf : Buf) : State :=
  let (s, r) := s.checkBuffer buf
  let s : State := { s with alm := { s.alm with stageCheck := none } }
  match r with
  | .good h => { s with alm := { s.alm with standby := .staged, stagedHdr := some h } }
  | .bad code => ({ s with alm := { s.alm with standby := .rejected, stagedHdr := none } } : State).dset 0x2127 0 code

/-- ALMANAC_CHECK_DONE: the check in progress ends, that of arming first when there are two. -/
def execAlmanacCheckDone (s : State) : Result :=
  match s.alm.armCheck, s.alm.stageCheck with
  | some buf, _ => when s.leads s (s.armChecked buf)
  | none, some buf => when s.leads s (s.stageChecked buf)
  | none, none => .next s

/-! ### Start and descriptors (R50, R55, R56, R58) -/

/-- Absolute Almanac slot at which a queued transit is due (R50). -/
def State.dueOf (s : State) (q : QTransit) : Nat :=
  match s.alm.hdr with
  | some h => q.iter * h.length + q.transit.slot
  | none => 0
/-- The gate of a queued transit is open now (R58). -/
def State.gateOpenNow (s : State) (q : QTransit) : Bool :=
  q.transit.waitGate == 0 || gateOpen (s.gate q.transit.waitGate (q.iter % 2 == 1)) q.transit.waitValue
/-- The gates of all queued transits evaluated (R58). -/
def State.evaluateGates (s : State) : State :=
  { s with alm := { s.alm with gateSample := s.gates, queues := pmap (fun l => l.map (fun q => { q with open_ := s.gateOpenNow q })) s.alm.queues } }

/-- The first working slot begins: an ARMED Almanac becomes RUNNING (R55). -/
def State.startAlmanac (s : State) : State :=
  let zero := fun (k : Core) => { k with counters := [] }
  let s : State := { s with
    gates := []
    cores := s.cores.map (fun p => (p.1, zero p.2))
    alm := { s.alm with state := .running, gen := s.alm.gen + 1 }
    power := { s.power with tripped := false } }
  ((s.dset 0x2104 3 0).eavesInvalidate).evaluateGates
/-- START_SDT is the boundary that is reached. -/
def State.startDue (s : State) : Bool := s.alm.state == .armed && s.dget 0x2114 0 == s.sdt
/-- ALMANAC_START, at START_SDT, before the rest of that boundary. -/
def execAlmanacStart (s : State) : Result :=
  when (s.leads && s.boundaryMay && s.atBoundary.startDue) s s.atBoundary.startAlmanac

/-- RESUME_SDT is the boundary that is reached (R68). -/
def State.resumeDue (s : State) : Bool :=
  s.alm.state == .paused && (match s.alm.resumeAt with | some t => t.toNat == s.sdt | none => false)
/-- PAUSE_RESUME: the paused Almanac goes on (R68). -/
def execPauseResume (s : State) : Result :=
  let t := s.atBoundary
  when (s.leads && s.boundaryMay && t.resumeDue) s { t with alm := { t.alm with state := .running, resumeAt := none } }

/-- Transits read ahead of dispatch: those whose slot has not begun (R56). -/
def State.queued (s : State) : Nat := ((plist s.alm.queues).map (fun l => (l.filter (fun q => decide (s.alm.nextAlm ≤ s.dueOf q))).length)).sum
/-- LPA of the next descriptor to be read, when there is one. -/
def State.nextDescriptor (s : State) : Option (AlmHeader × Nat) :=
  match s.alm.hdr with
  | some h => if s.armedNow && decide (s.alm.readIter < h.iterations) && !h.empty then some (h, h.base + 128 + 32 * s.alm.readIdx) else none
  | none => none
/-- A descriptor due at Almanac slot n or earlier is unread although there is room for it (R56). -/
def State.unreadDue (s : State) (n : Nat) : Bool :=
  match s.nextDescriptor with
  | some (h, a) => decide (s.queued < 4096) && decide (s.alm.readIter * h.length + field (s.readNat a 32) 224 32 ≤ n)
  | none => false

/-- The next descriptor is read and forwarded to its die's fire queue; a poisoned one is fatal and ends the reading (R53, R56). It sees its gate as the last sample did (R58); no sample comes before slot 0, where all counters are zero. -/
def State.readDescriptor (s : State) (h : AlmHeader) (a : Nat) : State :=
  match s.poisonedAt a 32 with
  | some _ =>
    let s := s.memoryPoison a .package s.leader (h.step s.alm.readIter) 0xFFFF 0xFFFF
    { s with alm := { s.alm with readIter := h.iterations } }
  | none =>
    let t := transitOf (s.readNat a 32)
    let open_ := t.waitGate == 0 || gateOpen (tget 0 s.alm.gateSample (t.waitGate * 2 + s.alm.readIter % 2)) t.waitValue
    let q : QTransit := ⟨s.alm.readIdx, s.alm.readIter, t, open_, false⟩
    let last : Bool := decide (h.count ≤ s.alm.readIdx + 1)
    { s with alm := { s.alm with
      queues := pset s.alm.queues t.die (pget s.alm.queues t.die ++ [q])
      readIdx := if last then 0 else s.alm.readIdx + 1
      readIter := if last then s.alm.readIter + 1 else s.alm.readIter } }

/-- The descriptors due at a slot that has begun are read, as room falls free with the first of them (R53, R56, R73). -/
def State.readDue : Nat → State → State
  | 0, s => s
  | fuel + 1, s =>
    match s.nextDescriptor with
    | some (h, a) =>
      if s.alm.readIter * h.length + field (s.readNat a 32) 224 32 < s.alm.nextAlm then State.readDue fuel (s.readDescriptor h a) else s
    | none => s

/-- ALMANAC_DESCRIPTOR_READ: at most 4,096 transits ahead of dispatch (R56). -/
def execAlmanacDescriptorRead (s : State) : Result :=
  match s.nextDescriptor with
  | none => .next s
  | some (h, a) => when (s.leads && decide (s.queued < 4096)) s (s.readDescriptor h a)

end Sys2Proof.Machine
end

