-- ==== Sys2Proof/Machine/Conjunction.lean ====
section
/-! DEFINITION. Conjunctions (file 02, R63 to R71, R498 to R500): contributions, agreement vectors and seals, decisions and their effects. -/
namespace Sys2Proof.Machine

/-! ### Agreement vectors (R64) -/

/-- The fields of a vector in their places, without the CRC. -/
def AVec.body (v : AVec) : Nat :=
  v.presence.toNat * 2 ^ 512 + v.idMin * 2 ^ 480 + v.idMax * 2 ^ 448 + v.conjMin * 2 ^ 416 + v.conjMax * 2 ^ 384 + v.standbyMin * 2 ^ 352 +
    v.standbyMax * 2 ^ 320 + v.skipMin * 2 ^ 288 + v.faultRankMin * 2 ^ 272 + v.slipKey * 2 ^ 248 + v.flags.toNat * 2 ^ 240
/-- VECTOR_CRC: CRC-32C over bytes 4 to 127. -/
def AVec.crc (v : AVec) : Nat := crc32c (natLe 124 (v.body / 2 ^ 32))
/-- The 128 bytes of a vector. -/
def AVec.bytes (v : AVec) : Bytes := natLe 128 (v.body + v.crc)
/-- The vector that bytes hold. -/
def vecOf (bs : Bytes) : AVec :=
  let n := leAt bs 0 128
  ⟨BitVec.ofNat 512 (n >>> 512), field n 480 32, field n 448 32, field n 416 32, field n 384 32, field n 352 32, field n 320 32, field n 288 32,
    field n 272 16, field n 248 24, BitVec.ofNat 8 (n >>> 240)⟩
/-- Two vectors merged, field by field. -/
def AVec.merge (v w : AVec) : AVec :=
  ⟨v.presence ||| w.presence, min v.idMin w.idMin, max v.idMax w.idMax, min v.conjMin w.conjMin, max v.conjMax w.conjMax,
    min v.standbyMin w.standbyMin, max v.standbyMax w.standbyMax, min v.skipMin w.skipMin, min v.faultRankMin w.faultRankMin,
    max v.slipKey w.slipKey, v.flags ||| w.flags⟩
/-- Bit of FLAGS. -/
def AVec.flag (v : AVec) (i : Nat) : Bool := v.flags.getLsbD i
/-- The staged Almanacs of all agree on one (R67). -/
def AVec.standbyReady (v : AVec) : Bool := v.standbyMin == v.standbyMax && v.standbyMin != 0
/-- Slip of the merged SLIP_KEY, in working slots. -/
def AVec.slip (v : AVec) : Nat := v.slipKey / 65536

/-! ### The contribution (R65, R498) -/

/-- Lowest pending voted step; all ones for none (R215). -/
def State.skipVote (s : State) : Nat := s.conj.votes.foldl (fun m v => min m v.step) 0xFFFFFFFF
/-- c - s for the oldest transit that is not fired and was due at s below c, without NO_SLIP (R65). -/
def State.heldAge (s : State) (c : Nat) : Nat :=
  ((plist s.alm.queues).flatten.filter (fun q => !q.transit.noSlip)).foldl (fun m q => max m (c - s.dueOf q)) 0
/-- Explicit requests since the last contribution: of units, stopped slots, and withheld cycles in slots (R65, R442, R498). -/
def State.explicitSlip (s : State) : Nat :=
  s.conj.stopSlots.foldl (fun m p => max m p.2) (max s.conj.explicitReq ((s.power.withheld + 2047) / 2048))
/-- The slip request, capped at 255. -/
def State.slipRequest (s : State) (c : Nat) : Nat := min 255 (max (s.heldAge c) s.explicitSlip)
/-- TIME_ALERT: LOCKED with a filtered offset above 2 ticks, or HOLDOVER (R48). -/
def State.timeAlert (s : State) : Bool :=
  match s.time.lock with
  | .locked => decide (1024 < s.time.offset) || decide (s.time.offset < -1024)
  | .holdover => true
  | _ => false
/-- FLAGS of the contribution. -/
def State.conjFlags (s : State) : BitVec 8 :=
  BitVec.ofNat 8 (ofBool s.conj.fault + 2 * ofBool (s.conj.votes.any (fun v => v.nonfinite)) + 4 * ofBool (s.conj.votes.any (fun v => v.veto)) +
    8 * ofBool (s.dget 0x2115 0 != 0) + 16 * ofBool (s.dget 0x2117 0 != 0) + 32 * ofBool s.timeAlert + 64 * ofBool s.conj.uwr +
    128 * ofBool s.conj.throttled)
/-- Own contribution to conjunction k at Almanac slot c. -/
def State.contribution (s : State) (k c : Nat) : AVec :=
  let standby := match s.alm.standby, s.alm.stagedHdr with
    | .staged, some h => h.id
    | _, _ => 0
  ⟨1#512 <<< s.rank, s.almanacId, s.almanacId, k, k, standby, standby, s.skipVote, if s.conj.fault then s.rank else 0xFFFF,
    s.slipRequest c * 65536 + s.rank, s.conjFlags⟩
/-- What waited for the contribution is made and cleared. -/
def State.contributed (s : State) : State :=
  { s with
    conj := { s.conj with explicitReq := 0, stopSlots := [], fault := false, uwr := false, throttled := false }
    power := { s.power with withheld := 0 } }

/-! ### The guard-band sample (R41, R58, R65) -/

/-- The first working slot after the present one. -/
def State.nextWorking (s : State) : Nat := if isDusk (s.slot + 1) then s.slot + 2 else s.slot + 1
/-- The window whose decision takes effect at the next working-slot boundary, four working slots after its conjunction. -/
def State.dueWindow (s : State) : Option Window := s.conj.windows.find? (fun w => decide (4 ≤ w.age))
/-- The window belongs to the active Almanac. -/
def State.ownWindow (s : State) (w : Window) : Bool := w.gen == s.alm.gen
/-- First Almanac slot that a window's slip delays: its c + 4, or the next slot when a swap has come between (R500). -/
def State.slipFirst (s : State) (w : Window) : Nat := if s.ownWindow w then w.first else s.alm.nextAlm
/-- A latched decision keeps the next Almanac slot from beginning at the next working slot. -/
def State.delays (s : State) (w : Window) : Bool :=
  match w.decision with
  | some (.halt _) | some .pause | some .swap => true
  | some (.complete _) => s.ownWindow w
  | some (.slip _) => decide (s.slipFirst w ≤ s.alm.nextAlm)
  | _ => false
/-- A slip slot is still to pass before the next Almanac slot (R70). -/
def State.slipNow (s : State) : Bool := s.alm.slips.any (fun p => decide (p.1 ≤ s.alm.nextAlm) && decide (0 < p.2))
/-- The Almanac slot that begins at the next working slot, as things stand. -/
def State.upcoming (s : State) : Option Nat :=
  let held := match s.dueWindow with | some w => s.delays w | none => false
  let paused := match s.alm.state with
    | .running => false
    | .paused => !(match s.alm.resumeAt with | some t => t.toNat == s.nextWorking * 2048 | none => false)
    | _ => true
  if held || paused || s.slipNow then none else some s.alm.nextAlm
/-- Number of the conjunction at an Almanac slot, if there is one (R63). -/
def AlmHeader.conjAt (h : AlmHeader) (c : Nat) : Option Nat :=
  if 0 < h.epochSlots ∧ 0 < c ∧ c % h.epochSlots = 0 ∧ c / h.epochSlots ≤ h.iterations * h.epochCount then some (c / h.epochSlots) else none

/-- The contribution to conjunction k is fixed and its window opens (R65, R235, R500). CONJ_INDEX takes the number here (DESIGN CHOICE, log 91). -/
def State.openConjunction (s : State) (h : AlmHeader) (k c : Nat) : State :=
  let final := k == h.iterations * h.epochCount
  let s := s.commitNotReady k final
  let v := s.contribution k c
  let s := if 0 < v.slip then s.dadd 0x2104 2 1 else s
  let w : Window := { conj := k, first := c + 4, gen := s.alm.gen, ranks := h.ranks, chain := h.chain, age := 0, final := final, vec := v,
                      closed := 0, sealMin := BitVec.allOnes 32, sealMax := 0, decision := none }
  let s := s.contributed
  { s with conj := { s.conj with windows := s.conj.windows ++ [w] }, alm := { s.alm with conjIndex := k } }

/-- What happens at tick 1,984 of a working slot. -/
def State.guardSample (s : State) : State :=
  let t := s.atGuard.evaluateGates
  let t : State := { t with time := { t.time with sampled := true } }
  if !t.leads then t
  else match t.upcoming, t.alm.hdr with
    | some c, some h => match h.conjAt c with
      | some k => t.openConjunction h k c
      | none => t
    | _, _ => t
/-- A decision that takes effect next is still to be evaluated (R66). -/
def State.decisionDue (s : State) : Bool := match s.dueWindow with | some w => w.decision.isNone | none => false
/-- GUARD_BAND_SAMPLE. -/
def execGuardBandSample (s : State) : Result :=
  let unread := match s.upcoming with | some c => s.unreadDue c | none => false
  if !s.guardMay ∨ s.inDusk ∨ s.time.sampled then .next s
  else when (!(s.decisionDue && s.leads) && !(unread && s.leads)) s s.guardSample

/-! ### Flood and seal (R66, R500) -/

/-- The state with a window replaced. -/
def State.setWindow (s : State) (w : Window) : State :=
  { s with conj := { s.conj with windows := mapIf (fun x => x.conj == w.conj && x.gen == w.gen) (fun _ => w) s.conj.windows } }
/-- The deadline in the working slot of age n has not passed. -/
def State.beforeDeadline (s : State) (w : Window) (n : Nat) : Bool :=
  decide (w.age < n) || (w.age == n && !s.inDusk && decide (tickOf s.sdt ≤ 1984))
/-- The own vector is sent on every live link. -/
def State.sendVector (s : State) (w : Window) : State := s.sendAll 0x02 w.conj w.vec.bytes
/-- The seal is sent on every live link. -/
def State.sendSeal (s : State) (w : Window) : State := s.sendAll 0x03 w.conj (natLe 4 w.sealMin.toNat ++ natLe 4 w.sealMax.toNat)
/-- A frame that names no open window or comes too late is discarded and counted. -/
def State.lateFrame (s : State) : State := s.dadd 0x2126 1 1
/-- The open window of a CONJ_INDEX that still takes vectors (`isSeal` false) or seals; of two, after a swap, the older (DESIGN CHOICE, log 91). -/
def State.takesFrame (s : State) (k : Nat) (isSeal : Bool) : Option Window :=
  s.conj.windows.find? (fun w => w.conj == k &&
    (if isSeal then decide (w.closed < 2) && s.beforeDeadline w 3 else w.closed == 0 && s.beforeDeadline w 2))
/-- A received vector is merged; a changed one is forwarded from slot c on. Its VECTOR_CRC is not checked: the flits that brought it have their own CRC (DESIGN CHOICE, log 91). -/
def State.takeVector (s : State) (f : Frame) : State :=
  match s.takesFrame (f.tf % 2 ^ 32) false with
  | none => s.lateFrame
  | some w =>
    let v := w.vec.merge (vecOf f.body)
    let w' := { w with vec := v }
    let s := s.setWindow w'
    if v ≠ w.vec ∧ 0 < w.age then s.sendVector w' else s
/-- AGREEMENT. -/
def execAgreement (s : State) : Result :=
  match s.takeFrame 0x02 with
  | none => .next s
  | some (r, f, t) => .next ((t.takeVector f).free_ r)
/-- A received seal is merged; a changed one is forwarded from slot c + 2 on. -/
def State.takeSeal (s : State) (f : Frame) : State :=
  match s.takesFrame (f.tf % 2 ^ 32) true with
  | none => s.lateFrame
  | some w =>
    let lo := BitVec.ofNat 32 (leAt f.body 0 4)
    let hi := BitVec.ofNat 32 (leAt f.body 4 4)
    let w' := { w with sealMin := if lo < w.sealMin then lo else w.sealMin, sealMax := if w.sealMax < hi then hi else w.sealMax }
    let s := s.setWindow w'
    if (w'.sealMin ≠ w.sealMin ∨ w'.sealMax ≠ w.sealMax) ∧ 3 ≤ w.age then s.sendSeal w' else s
/-- SEAL. -/
def execSeal (s : State) : Result :=
  match s.takeFrame 0x03 with
  | none => .next s
  | some (r, f, t) => .next ((t.takeSeal f).free_ r)

/-- Windows of age n whose deadline is still to be taken. -/
def State.deadlineWindow (s : State) (n closed : Nat) : Option Window := s.conj.windows.find? (fun w => w.age == n && decide (w.closed < closed))
/-- The deadline of a window of age n, at tick 1,984. -/
def State.deadline (s : State) (n closed : Nat) : Result :=
  match s.deadlineWindow n closed with
  | none => .next s
  | some w => when (s.guardMay && !s.inDusk) s (s.atGuard.setWindow { w with closed := closed })
/-- VECTOR_DEADLINE: tick 1,984 of working slot c + 1. -/
def execVectorDeadline (s : State) : Result := s.deadline 2 1
/-- SEAL_DEADLINE: tick 1,984 of working slot c + 2. -/
def execSealDeadline (s : State) : Result := s.deadline 3 2

/-- A window begins its next working slot: the vector is sent in slot c, the seal of the own VECTOR_CRC in slot c + 2. -/
def State.windowSlot (s : State) (w : Window) : State :=
  let w : Window := { w with age := w.age + 1 }
  let crc := BitVec.ofNat 32 w.vec.crc
  let w := if w.age = 3 then
      { w with sealMin := if crc < w.sealMin then crc else w.sealMin, sealMax := if w.sealMax < crc then crc else w.sealMax }
    else w
  let s := s.setWindow w
  if w.age = 1 then s.sendVector w else if w.age = 3 then s.sendSeal w else s
/-- Every window begins its next working slot. -/
def State.windowSlots (s : State) : State := s.conj.windows.foldl State.windowSlot s

/-! ### Decisions (R67) -/

/-- Expected ranks that are missing from a window's vector. -/
def Window.missing (w : Window) : BitVec 512 := w.ranks &&& ~~~w.vec.presence
/-- The rules of R67 in order. -/
def Window.decide (w : Window) : Decision :=
  let v := w.vec
  if w.sealMin ≠ w.sealMax ∨ v.idMin ≠ v.idMax ∨ v.conjMin ≠ v.conjMax then .halt 0x12
  else if w.missing ≠ 0 then .halt 0x11
  else if v.flag 0 then .halt 0x10
  else if v.flag 3 then .pause
  else if v.flag 4 && v.standbyReady then .swap
  else if w.final then .complete (w.chain && v.standbyReady)
  else if 0 < v.slip then .slip v.slip
  else .nothing
/-- The evaluation reaches rule 5 and finds the staged Almanacs unequal or missing. -/
def Window.swapNotReady (w : Window) : Bool :=
  w.vec.flag 4 && !w.vec.standbyReady && (match w.decide with | .halt _ | .pause => false | _ => true)
/-- The decision is evaluated and latched, and the merged vector published (R66, R70). -/
def State.latch (s : State) (w : Window) : State :=
  let s := s.setWindow { w with decision := some w.decide }
  let s : State := { s with conj := { s.conj with lastAgreement := BitVec.ofNat 1024 (leNat w.vec.bytes) } }
  let s := s.dset 0x2104 4 w.vec.slipKey
  if w.swapNotReady ∧ s.dget 0x2117 0 ≠ 0 then s.dadd 0x2126 3 1 else s
/-- CONJUNCTION_DECISION: in working slot c + 3. -/
def execConjunctionDecision (s : State) : Result :=
  match s.dueWindow with
  | none => .next s
  | some w => when (s.leads && s.clockOn && w.decision.isNone) s (s.latch w)

/-! ### Effects (R67 to R70, R217, R234, R500) -/

/-- A binding skip is recorded, once for each step, and its vote leaves the pending set (R215, R217). -/
def State.bindSkip (s : State) (step : Nat) : State :=
  if step = 0xFFFFFFFF then s
  else
    let s : State := { s with conj := { s.conj with votes := s.conj.votes.filter (fun v => v.step != step) } }
    if step ∈ s.conj.skips then s
    else
      let s : State := { s with conj := { s.conj with skips := s.conj.skips ++ [step] } }
      (s.dadd 0x3301 1 1).dset 0x3301 2 step

/-- The Almanac ends (R68). -/
def State.completeAlmanac (s : State) : State :=
  ({ s with alm := { s.alm with state := .complete, cur := none } } : State).eavesInvalidate

/-- The staged Almanac becomes active and its slot 0 begins (R68, R328): held transits of the old one are discarded and counted. -/
def State.activate (s : State) (h : AlmHeader) : State :=
  let held := ((plist s.alm.queues).flatten.filter (fun q => decide (s.dueOf q < s.alm.nextAlm))).length
  let s := s.dadd 0x2126 4 held
  let s := (s.dropStaged.freshAlmanac h).dset 0x2104 3 0
  let zero := fun (k : Core) => { k with counters := [] }
  let s : State := { s with
    gates := []
    cores := s.cores.map (fun p => (p.1, zero p.2))
    alm := { s.alm with state := if h.empty then .complete else .running, gen := s.alm.gen + 1 } }
  let s := s.eavesInvalidate
  if s.dget 0x2741 0 = 1 then (s.commitFabric).dset 0x2741 0 0 else s
/-- The staged Almanac, when there is one. -/
def State.staged (s : State) : Option AlmHeader := if s.alm.standby = .staged then s.alm.stagedHdr else none

/-- The decision of a window on the state, after skips and commits. A swap whose staged buffer was dropped after the contribution changes nothing, and SWAP_REQUEST stays set (DESIGN CHOICE, log 91). -/
def State.applyDecision (s : State) (w : Window) : State :=
  match w.decision with
  | some (.halt code) => s.haltNow code (if code = 0x11 then w.missing else 0)
  | some .pause => ({ s with alm := { s.alm with state := .paused, resumeAt := none } } : State).dset 0x2115 0 0
  | some .swap => match s.staged with
    | some h => (s.activate h).dset 0x2117 0 0
    | none => s
  | some (.complete chain) =>
    if !s.ownWindow w then s
    else match chain, s.staged with
      | true, some h => s.activate h
      | _, _ => s.completeAlmanac
  | some (.slip n) =>
    (s.dadd 0x2104 3 n) |> fun t => { t with alm := { t.alm with slips := t.alm.slips ++ [(s.slipFirst w, n)] } }
  | _ => s
/-- What the update engine sees of a window: one of an earlier Almanac names no conjunction of this one. -/
def State.updateView (s : State) (w : Window) : Nat × Decision :=
  let d := w.decision.getD .nothing
  if s.ownWindow w then (w.conj, d) else (0, match d with | .complete _ => .nothing | x => x)

/-- The effect of a window's decision at tick 0 of c + 4. -/
def State.conjunctionEffect (s : State) (w : Window) : State :=
  let s : State := { s with conj := { s.conj with windows := s.conj.windows.filter (fun x => !(x.conj == w.conj && x.gen == w.gen)) } }
  let s := s.dadd 0x2104 1 1
  let s := match w.decision with | some (.halt _) => s | _ => s.bindSkip w.vec.skipMin
  let s := s.updateEffect (s.updateView w).1 (s.updateView w).2
  s.applyDecision w
/-- CONJUNCTION_EFFECT, before the rest of the boundary of c + 4. -/
def execConjunctionEffect (s : State) : Result :=
  match s.dueWindow with
  | none => .next s
  | some w =>
    let t := s.atBoundary
    when (s.leads && s.boundaryMay && w.decision.isSome && !isDusk t.slot) s (t.conjunctionEffect w)

end Sys2Proof.Machine
end

