-- ==== Sys2Proof/Machine/Log.lean ====
section
/-! DEFINITION. Reliability, test and telemetry (file 19): the fault and event log with its queue and its ring in flash, counter groups and snapshots, telemetry, and the core self-test and test access port. -/
namespace Sys2Proof.Machine

/-! ### The log (R469 to R474) -/

/-- The 128 bytes of a record (R469). -/
def LogRec.bytes (r : LogRec) : Bytes :=
  let body := padTo 124 (natLe 8 r.seq ++ natLe 4 r.boot ++ natLe 1 r.code ++ natLe 1 r.severity ++ natLe 1 r.die ++ natLe 1 r.source ++
    natLe 8 r.sdt ++ natLe 4 r.almId ++ natLe 4 r.almSlot ++ natLe 4 r.step ++ natLe 2 r.loc ++ natLe 2 r.sub ++ padTo 84 r.detail)
  body ++ natLe 4 (crc32c body)

/-- The leader gives a record its SEQUENCE and queues it (R472). -/
def State.enqueueRec (s : State) (r : LogRec) : State :=
  { s with log := { s.log with queue := s.log.queue ++ [{ r with seq := s.log.next }], next := s.log.next + 1, sinceReset := s.log.sinceReset + 1 } }

/-- A record that reaches the Lodestars is queued; with 3,840 entries in use an event or park record is dropped and counted, with 4,096 a fatal one too (R473). -/
def State.arriveRec (s : State) (r : LogRec) : State :=
  let used := s.log.queue.length
  if used < 3840 ∨ (r.severity = 1 ∧ used < 4096) then s.enqueueRec r
  else { s.dadd 0x4000 4 1 with log := { s.log with droppedRun := s.log.droppedRun + 1 } }

/-- The LOG_LOST record that follows dropped ones once space has returned (R471, R473). -/
def State.lostRec (s : State) : State :=
  if s.log.droppedRun = 0 ∨ 3840 ≤ s.log.queue.length then s
  else
    let r : LogRec := ⟨0, s.boot.bootCount, 0xF5, 0, s.leader, Source.lodestar.code, s.sdt, s.almanacId, s.almanacSlot, 0xFFFFFFFF, 0xFFFF, 0xFFFF,
      padTo 84 (natLe 4 s.log.droppedRun)⟩
    { s.enqueueRec r with log := { (s.enqueueRec r).log with droppedRun := 0 } }

/-- Records that the ring holds (R414, R469). -/
def ringSize : Nat := 917504

/-- A record programmed in flash; a full ring first loses the 512 oldest (R474). -/
def State.programRec (s : State) (r : LogRec) : State :=
  let full := ringSize ≤ s.log.ring.length
  let old := if full then s.log.ring.take (ringSize - 512) else s.log.ring
  { s with log := { s.log with ring := r :: old, oldest := if full then s.log.oldest + 512 else s.log.oldest } }

/-- Every record on its way or queued, programmed in order, as before a package reset (R434, R473; log 63). -/
def State.flushLog (s : State) : State :=
  let arrivals := s.log.arrivals
  let s : State := { s with log := { s.log with arrivals := [] } }
  let s := arrivals.foldl State.enqueueRec s
  let queue := s.log.queue
  let s : State := { s with log := { s.log with queue := [], droppedRun := 0 } }
  queue.foldl State.programRec s

/-- LOG_RECORD_ARRIVAL: the oldest record on its way. -/
def execLogRecordArrival (s : State) : Result :=
  match s.log.arrivals with
  | [] => .next s
  | r :: rest => when s.served s (({ s with log := { s.log with arrivals := rest } } : State).arriveRec r)

/-- LOG_PROGRAM: the leader programs the oldest queued record. -/
def execLogProgram (s : State) : Result :=
  match s.log.queue with
  | [] => .next s
  | r :: rest => when s.served s (({ s with log := { s.log with queue := rest } } : State).programRec r).lostRec

/-! ### Counter groups (R475 to R477) -/

/-- Subindices of an index from lo to hi. -/
def subsOf (idx lo hi : Nat) : List (Nat × Nat) := (rangeFrom lo (hi + 1)).map (fun i => (idx, i))

/-- The counters of a group, index and subindex rising (R475); group 1 has its own layout. -/
def groupCounters (g : Nat) : List (Nat × Nat) :=
  let rows := entryTable.filter (fun e =>
    match g with
    | 2 => decide (0x3500 ≤ e.index) && decide (e.index ≤ 0x350F)
    | 3 => decide (0x3700 ≤ e.index) && decide (e.index ≤ 0x3707)
    | 4 => (decide (0x3300 ≤ e.index) && decide (e.index ≤ 0x3305)) || (decide (0x3400 ≤ e.index) && decide (e.index ≤ 0x3403))
    | 5 => (decide (0x3000 ≤ e.index) && decide (e.index ≤ 0x3012)) || e.index == 0x3800 || e.index == 0x3900
    | _ => false)
  (rows.map (fun e => subsOf e.index e.lo e.hi)).flatten

/-- The die that a counter belongs to: a member for each die, three sets of them for ECC counts, two for scrub passes, one for each link or Ethernet-mode link; none for a package-wide count and for the Seams and Ridges. -/
def counterDie (idx sub : Nat) : Option Nat :=
  if idx = 0x3700 ∨ idx = 0x3701 ∨ idx = 0x3707 then some (linkDie (sub - 1))
  else if idx = 0x350B ∨ idx = 0x350C ∨ idx = 0x350D then some ((sub - 1) % 4)
  else if idx = 0x3301 ∨ idx = 0x3302 ∨ idx = 0x3303 ∨ idx = 0x3402 ∨ idx = 0x3702 ∨ idx = 0x3703 ∨ idx = 0x3704 ∨ idx = 0x3706 ∨
    idx = 0x3000 ∨ idx = 0x3010 ∨ idx = 0x3011 ∨ idx = 0x3012 ∨ idx = 0x3800 then none
  else some (sub - 1)

/-- The eight stall counters of every core, in core order (R99). -/
def State.stallCounters (s : State) : List (Nat × Nat) :=
  ((List.range 384).map (fun g => (List.range 8).map (fun c => (coreDie g, (tget 0#64 (s.core g).stalls c).toNat)))).flatten

/-- The payload of a group for a die mask: values of dies not selected are zero (R475). -/
def State.groupPayload (s : State) (g mask : Nat) : Bytes :=
  if g = 1 then (s.stallCounters.map (fun p => natLe 8 (if bit mask p.1 then p.2 else 0))).flatten
  else ((groupCounters g).map (fun p =>
    let take := match counterDie p.1 p.2 with | some d => bit mask d | none => true
    natLe 8 (if take then s.dget p.1 p.2 else 0))).flatten

/-- Header and payload of a snapshot or telemetry record (R476). -/
def State.teleRecord (s : State) (g mask seq : Nat) (payload : Bytes) : Bytes :=
  let head := padTo 60 (natLe 4 0x544C4D54 ++ natLe 1 g ++ natLe 1 mask ++ natLe 2 0 ++ natLe 4 payload.length ++ natLe 4 seq ++
    natLe 8 s.sdt ++ natLe 4 s.almanacSlot ++ natLe 4 s.stepNow)
  head ++ natLe 4 (crc32c (head ++ payload)) ++ payload

/-- A snapshot of a group (R475). -/
def State.snapshotBytes (s : State) (g mask : Nat) : Bytes := s.teleRecord g mask 0 (s.groupPayload g mask)

/-! ### Telemetry (R478) -/

/-- Size of the telemetry ring in bytes. -/
def State.teleSize (s : State) : Nat := s.dget 0x3030 2 * 65536

/-- Groups that telemetry samples: the bits 1 to 5 of TELEMETRY_GROUPS. -/
def State.teleGroups (s : State) : List Nat := (maskList 8 (s.dget 0x3030 4)).filter (fun g => decide (1 ≤ g) && decide (g ≤ 5))

/-- A record queued, or dropped when the 256 KiB buffer has no room. -/
def State.teleQueue (s : State) (bs : Bytes) : State :=
  if ((s.log.teleBuf.map List.length).sum + bs.length) ≤ 262144 then { s with log := { s.log with teleBuf := s.log.teleBuf ++ [bs] } }
  else s.dadd 0x3031 0 1

/-- One sample of every group that is selected. -/
def State.teleSample (s : State) : State :=
  let s : State := { s with log := { s.log with teleDusk := 0 } }
  s.teleGroups.foldl (fun s g => s.teleQueue (s.teleRecord g 0xF 0 (s.groupPayload g 0xF))) s

/-- TELEMETRY_SAMPLE: once every TELEMETRY_PERIOD dusk slots. -/
def execTelemetrySample (s : State) : Result :=
  when (s.alive && s.served && s.inDusk && decide (s.teleSize ≠ 0) && decide (s.dget 0x3030 3 ≤ s.log.teleDusk)) s s.teleSample

/-- A record with its telemetry sequence and the CRC made anew; sequences count records as the ring takes them (log 64). -/
def withSeq (seq : Nat) (bs : Bytes) : Bytes :=
  let b := patch bs 12 (natLe 4 seq)
  patch b 60 (natLe 4 (crc32c (b.take 60 ++ b.drop 64)))

/-- A record written to the ring at an offset. -/
def State.teleStore (s : State) (off : Nat) (bs : Bytes) : State :=
  let s := (s.arriveWrite s.leader (s.dget 0x3030 1 + off) bs true .lodestar 0xFFFF 0xFFFF 0xFFFFFFFF).noteOne s.leader
  { (s.dset 0x3030 5 off) with log := { s.log with teleSeq := (s.log.teleSeq + 1) % 2 ^ 32, teleNext := (off + bs.length) % max 1 s.teleSize } }

/-- The oldest queued record written; a pad record fills the rest of the ring first when the record would cross its end (log 64). -/
def State.teleWrite (s : State) (bs : Bytes) (rest : List Bytes) : State :=
  let s : State := { s with log := { s.log with teleBuf := rest } }
  let off := s.log.teleNext
  let s := if off + bs.length ≤ s.teleSize then s
    else
      let room := s.teleSize - off
      let pad := s.teleRecord 0xFF 0xF s.log.teleSeq (List.replicate (room - 64) 0)
      s.teleStore off (pad.take room)
  s.teleStore s.log.teleNext (withSeq s.log.teleSeq bs)

/-- Key of the telemetry writes among the background tasks (R51). -/
def teleKey : Nat := 5000

/-- TELEMETRY_WRITE: in a dusk slot in which it has not been deferred. -/
def execTelemetryWrite (s : State) : Result :=
  match s.log.teleBuf with
  | [] => .next s
  | bs :: rest =>
    when (s.alive && s.served && s.inDusk && decide (s.teleSize ≠ 0) && !s.deferredNow teleKey) s (s.teleWrite bs rest)

/-! ### Core self-test (R482) -/

/-- The cores that a write to CORE_TEST names. -/
def testCores (v : Nat) : List Nat := if v = 0xFFFF then List.range 384 else [v]

/-- What the test does to a core: scratch, accumulators, weight sets and instruction memory are overwritten. Launched images come back with RESUME, so the model keeps them (log 65). -/
def State.testCore (s : State) (g : Nat) : State :=
  let (tag, s) := s.takeId
  let m := (s.mem.forget (scratchLpa g 0) 0x300000 tag).forget (accLpa g 0) 0xC0000 tag
  let k := s.core g
  ({ s with mem := m } : State).setCore g { k with sets := [], images := k.images.filter (fun i => i.pinned != []) }

/-- CORE_TEST accepted: the named cores are under test. -/
def State.startTest (s : State) (v : Nat) : State :=
  let s := (testCores v).foldl State.testCore s
  { s with log := { s.log with coreTest := 1, coreResult := 0, coreFails := [], coreNamed := testCores v } }

/-- CORE_TEST_DONE: which of the named cores fail, and the first failing block. -/
def execCoreTestDone (failed : List (Fin 384)) (block : Nat) (s : State) : Result :=
  let names := failed.map (fun g => g.val)
  if 5 < block ∨ (block = 0 ↔ failed ≠ []) then .refused .malformedCommand
  else when (s.log.coreTest == 1 && names.all (fun g => decide (g ∈ s.log.coreNamed))) s
    { s with log := { s.log with coreTest := 2, coreResult := block, coreFails := names } }

/-! ### The test access port (R480, R481) -/

/-- IDCODE of a die (R480). -/
def State.idcode (s : State) (d : Nat) : Nat :=
  field (pget s.fuse.dieId d).toNat 16 4 * 2 ^ 28 + (0x5A40 + d) * 2 ^ 12 + Config.tapManufacturer.toNat * 2 + 1

/-- What an instruction acts as while TEST_ACCESS is 0: BYPASS, but for three (R481). -/
def State.tapEffective (s : State) (op : TapOp) : TapOp :=
  match op with
  | .idcode | .bypass | .sample => op
  | _ => if s.dget 0x5000 0 = 1 then op else .bypass

/-- What a die's port does with the instruction in its register: EXTEST and instrument access leave the package faulted until the next reset (R481). -/
def State.tap (s : State) (d : Nat) (op : TapOp) : State :=
  let op := s.tapEffective op
  let s : State := { s with log := { s.log with tapIr := pset s.log.tapIr d op } }
  match op with
  | .extest | .instrument => { s with log := { s.log with testUsed := true }, boot := { s.boot with mode := .faulted } }
  | _ => s
/-- The data register that an instruction selects in a die's port: its length and bits, where the spec or IEEE 1149.1 gives them (log 62). -/
def State.tapData (s : State) (d : Nat) : TapOp → Option (Nat × Nat)
  | .idcode => some (32, s.idcode d)
  | .bypass => some (1, 0)
  | _ => none

/-- TAP_INSTRUCTION: the chain TDI, D0, D1, D2, D3, TDO is loaded with four instructions and its data registers are scanned, D3's nearest TDO (R17, R480). -/
def execTapInstruction (d01 d23 : TapOp × TapOp) (s : State) : Result :=
  let ops : PerDie TapOp := ⟨d01.1, d01.2, d23.1, d23.2⟩
  let t := (List.range 4).foldl (fun s d => s.tap d (pget ops d)) s
  when s.power.hkUp s
    (t.emit (.scan ([3, 2, 1, 0].map (fun d => s.tapData d (pget t.log.tapIr d)))))

/-- TEST_LOGIC_RESET: the TCK logic alone (R462). -/
def execTestLogicReset (s : State) : Result :=
  when s.power.hkUp s { s with log := { s.log with tapIr := PerDie.all .idcode } }

end Sys2Proof.Machine
end

