-- ==== Sys2Proof/Machine/Boot.lean ====
section
/-! DEFINITION. Identity, boot and Dim mode (file 16): package reset, firmware slots, measurements, the start sequence, leader and standby, and Dim mode. -/
namespace Sys2Proof.Machine

/-! ### Package reset (R393, R462 to R465) -/

/-- The entry of a key is held in flash (R393). -/
def keptEntry (key : Nat) : Bool :=
  match findEntry (key / 256) (key % 256) with
  | some e => bit e.flags 0
  | none => false

/-- Memory whose SRAM windows hold nothing any more; Slate and Thatch keep theirs (R258, R423). -/
def Memory.dropSram (m : Memory) (tag : Nat) : Memory :=
  { m with cells := m.cells.filter (fun c => decide (c.1 < 0x30000000000)), stale := m.stale.filter (fun r => decide (r.1 < 0x30000000000)), sram := tag }

/-- Memory all of whose contents are undefined. -/
def Memory.lost (tag : Nat) : Memory := ⟨[], some tag, tag, []⟩

/-- The units stop at their safe points and a save area is written, as R434 orders in its steps 1 and 2 (R463). -/
def State.cleanStop (s : State) : State :=
  match s.boot.mode with
  | .ready | .faulted =>
    let s := s.stopUnits.stopThreads.stopMovers
    let stop := BitVec.ofNat 32 s.almanacSlot
    let s : State := { s with trans := { s.trans with stopSdt := s.sdt, stopSlot := stop } }
    s.saveHalt s.unanswered.length
  | _ => s

/-- A package reset is asserted: every unit takes its reset state; fuses, flash, persistent entries and, unless they are lost, the contents of Slate and Thatch stay (R462, R465). The first cause to come is the one recorded. -/
def State.resetTo (s : State) (cause : Nat) (lost : Bool) : State :=
  let (tag, s) := s.takeId
  let first := !s.boot.inReset
  let f : State := {}
  let t := s.dadd 0x3000 2 (ofBool first)
  { f with
    pending := s.pending
    free := s.free
    out := s.out
    dict := t.dict.filter (fun p => keptEntry p.1 || p.1 == entryKey 0x2850 0)
    longs := s.longs.filter (fun p => keptEntry p.1)
    mem := if lost then Memory.lost tag else s.mem.dropSram tag
    cache := { f.cache with poison := if lost then [] else s.cache.settled }
    alm := { f.alm with nextId := s.alm.nextId, gen := s.alm.gen }
    boot := { f.boot with
      slotA := { s.boot.slotA with verify := 0, version := 0 }
      slotB := { s.boot.slotB with verify := 0, version := 0 }
      preferred := s.boot.preferred
      trial := s.boot.trial
      prevFailed := s.boot.prevFailed
      prevSlot := s.boot.prevSlot
      lastFailedPhase := s.boot.lastFailedPhase
      failedStarts := s.boot.failedStarts
      bootCount := s.boot.bootCount
      memLost := s.boot.memLost
      lastCause := if first then cause else s.boot.lastCause
      priorCause := if first then s.boot.lastCause else s.boot.priorCause
      cutShort := if first then false else s.boot.cutShort }
    fuse := { s.fuse with featureLevel := 0, pairing := 0, retireReq := PerDie.all 0 }
    power := { f.power with
      supply := s.power.supply
      resetOver := s.power.resetOver
      reversed := s.power.reversed
      charging := s.power.charging
      hkUp := s.power.hkUp
      cutoffLatch := s.power.cutoffLatch }
    log := { f.log with ring := s.log.ring, next := s.log.next, oldest := s.log.oldest, tapIr := s.log.tapIr } }

/-- A package reset after the stop of R463; what the Lodestars hold for the log is programmed first (log 63). -/
def State.packageReset (s : State) (cause : Nat) : State := (s.cleanStop.flushLog).resetTo cause false

/-! ### Firmware slots (R414 to R419) -/

/-- Slot A (0) or B. -/
def State.fwSlot (s : State) (i : Nat) : FlashSlot := if i = 0 then s.boot.slotA else s.boot.slotB
/-- The state with a slot replaced. -/
def State.setFwSlot (s : State) (i : Nat) (f : FlashSlot) : State :=
  if i = 0 then { s with boot := { s.boot with slotA := f } } else { s with boot := { s.boot with slotB := f } }
/-- A byte of a slot: of the chunk programmed there, else what the flash holds (log 9). -/
def FlashSlot.byte (f : FlashSlot) (slot off : Nat) : Byte :=
  match f.bytes.find? (fun c => decide (c.1 ≤ off) && decide (off < c.1 + 1024)) with
  | some c => c.2.getD (off - c.1) 0
  | none => Config.slotImage (slot + 2 * f.erases) off
/-- n bytes of a slot. -/
def State.fwBytes (s : State) (i off n : Nat) : Bytes := (List.range n).map (fun k => (s.fwSlot i).byte i (off + k))
/-- The 256 header bytes of the image in a slot (R415). -/
def State.fwHeader (s : State) (i : Nat) : Bytes := s.fwBytes i 0 256
/-- Entry n of the component table: offset, length, type. -/
def component (h : Bytes) (n : Nat) : Nat × Nat × Nat := (leAt h (120 + 16 * n) 4, leAt h (124 + 16 * n) 4, leAt h (128 + 16 * n) 1)
/-- PAYLOAD_LENGTH of a header. -/
def payloadLength (h : Bytes) : Nat := leAt h 16 4
/-- A component entry is as R415 has it. -/
def componentOk (h : Bytes) (n : Nat) : Bool :=
  let (off, len, ty) := component h n
  if ty = 0 then leAt h (120 + 16 * n) 16 == 0
  else decide (ty ≤ 4) && leAt h (129 + 16 * n) 7 == 0 && decide (off + len ≤ payloadLength h)
/-- Check 1 of R416. -/
def headerFormed (h : Bytes) : Bool :=
  leAt h 0 4 == 0x5346574D && leAt h 4 2 == 1 && leAt h 13 3 == 0 && leAt h 20 4 == 0 && leAt h 248 8 == 0 &&
    decide (payloadLength h ≤ 0x03FFFEC0) && (List.range 8).all (componentOk h) &&
    [1, 2, 3, 4].all (fun ty => ((List.range 8).filter (fun n => (component h n).2.2 == ty)).length == 1)
/-- SVN of a header. -/
def headerSvn (h : Bytes) : Nat := leAt h 6 2
/-- SIGNER of a header. -/
def headerSigner (h : Bytes) : Nat := leAt h 12 1
/-- The result of R416 for a slot. -/
def State.imageVerdict (s : State) (i : Nat) (c : ImageCheck) : Nat :=
  let h := s.fwHeader i
  let signer := headerSigner h
  if !headerFormed h then 0x01
  else if 2 ≤ signer ∨ !c.signer ∨ (signer = 0 ∧ s.fuse.key0Revoked) then 0x02
  else if !c.sig then 0x03
  else if !c.digest then 0x04
  else if headerSvn h < s.fuse.svnFloor then 0x05
  else 0x80
/-- The result of a check entered for a slot, with VERSION when it is VALID (R419). -/
def State.noteVerdict (s : State) (i v : Nat) : State :=
  s.setFwSlot i { s.fwSlot i with verify := v, version := if v = 0x80 then leAt (s.fwHeader i) 8 4 else 0 }
/-- The slot that is not running (R418). -/
def State.targetSlot (s : State) : Nat := if s.boot.running = 0 then 1 else 0
/-- VERSION of the running image, 0 for the boot ROM. -/
def State.runningVersion (s : State) : Nat := if s.boot.running = 255 then 0 else (s.fwSlot s.boot.running).version

/-- A chunk accepted (R418): at offset 0 the erase begins; elsewhere it is programmed. The slot is unchecked again and no longer on trial. -/
def State.takeChunk (s : State) (bytes : Bytes) : State :=
  let i := s.targetSlot
  let off := s.dget 0x1304 1
  let f := s.fwSlot i
  let s := s.dset 0x1304 1 (off + 1024)
  let s := s.setFwSlot i { f with bytes := if off = 0 then f.bytes else (off, bytes) :: f.bytes, verify := 0, version := 0 }
  { s with boot := { s.boot with
      trial := if s.boot.trial = i then 255 else s.boot.trial
      fwState := if off = 0 then 1 else s.boot.fwState
      eraseChunk := if off = 0 then some bytes else s.boot.eraseChunk } }

/-- FW_ERASE_DONE: the slot is erased and the chunk at offset 0 programmed. -/
def execFwEraseDone (s : State) : Result :=
  match s.boot.eraseChunk with
  | none => .next s
  | some bytes =>
    let i := s.targetSlot
    let t := s.setFwSlot i { bytes := [(0, bytes)], erases := (s.fwSlot i).erases + 1 }
    when s.served s { t with boot := { t.boot with fwState := 0, eraseChunk := none } }

/-- VERIFY_TARGET_DONE. -/
def execVerifyTargetDone (check : ImageCheck) (s : State) : Result :=
  let i := s.targetSlot
  let t := s.noteVerdict i (s.imageVerdict i check)
  when (s.boot.fwState == 3 && s.served) s { t with boot := { t.boot with fwState := 0 } }

/-! ### Measurements (R420) -/

/-- SHA-512 of bytes (R415, R420). -/
def digest (bs : Bytes) : Bytes := (List.range 64).map (Config.sha512 bs)
/-- MEASUREMENT n. -/
def State.measurement (s : State) (n : Nat) : Bytes := s.lget 0x1230 n
/-- A measurement taken. -/
def State.measure (s : State) (n : Nat) (bs : Bytes) : State := s.lset 0x1230 n (digest bs)
/-- FW_KEY_DIGEST n (R416). -/
def fwKeyDigest (n : Nat) : Bytes := (List.range 64).map (Config.fwKeyDigest n)
/-- The component of a type of the image in a slot. -/
def State.componentBytes (s : State) (i ty : Nat) : Bytes :=
  let h := s.fwHeader i
  match (List.range 8).find? (fun n => (component h n).2.2 == ty) with
  | some n => s.fwBytes i (320 + (component h n).1) (component h n).2.1
  | none => []
/-- Measurements 2 to 6 of the image that runs. -/
def State.measureImage (s : State) (i : Nat) : State :=
  let s := s.measure 2 (s.fwBytes i 0 320)
  [1, 2, 3, 4].foldl (fun s ty => s.measure (ty + 2) (s.componentBytes i ty)) s
/-- Measurement 7: the hardware configuration. -/
def State.measureFuses (s : State) : State :=
  s.measure 7 (((plist s.fuse.dieId).map (fun d => natLe 4 d.toNat)).flatten ++ ((plist s.fuse.good).map (fun d => natLe 13 d.toNat)).flatten ++
    natLe 1 s.fuse.svnFloor ++ fwKeyDigest 0 ++ fwKeyDigest 1 ++ natLe 1 (ofBool s.fuse.key0Revoked))
/-- Measurement 8: the firmware configuration; a retirement record is the count and the physical numbers of each die (log 67). -/
def State.measureConfig (s : State) : State :=
  let rec_ := ((plist s.fuse.retired).map (fun l => natLe 1 l.length ++ (l.map (natLe 1)).flatten)).flatten
  s.measure 8 (natLe 1 s.boot.running ++ natLe 1 s.boot.failedStarts ++ natLe 1 s.fuse.featureLevel ++ natLe 1 s.fuse.pairing ++
    natLe 1 s.leader ++ rec_)
/-- Measurement 9: the operator keys and DP_UDP_PORT. -/
def State.measureKeys (s : State) : State :=
  s.measure 9 (((List.range 8).map (fun n => s.lget 0x1210 (n + 1))).flatten ++ natLe 2 (s.dget 0x1150 1))

/-! ### Attestation (R412, R421) -/

/-- A signature by the device identity key. -/
def signBytes (bs : Bytes) : Bytes := (List.range 64).map (Config.sign bs)
/-- DEVICE_MODE (R380). -/
def DeviceMode.code : DeviceMode → Nat
  | .starting => 0 | .ready => 1 | .dim => 2 | .faulted => 3
/-- The report that answers a nonce (R421). -/
def State.attest (s : State) (nonce : Bytes) : State :=
  let head := natLe 4 0x54415453 ++ natLe 2 1 ++ natLe 1 s.boot.mode.code ++ natLe 1 s.boot.dimReason ++ natLe 8 s.fuse.serial.toNat ++
    padTo 32 nonce ++ natLe 4 s.boot.bootCount ++ natLe 1 s.boot.running ++ natLe 1 s.leader ++ natLe 2 0 ++ natLe 4 s.runningVersion ++ natLe 4 0
  let body := head ++ ((List.range 9).map (fun n => s.measurement (n + 1))).flatten
  (s.lset 0x1220 0 (padTo 32 nonce)).lset 0x1221 0 (body ++ signBytes body)

/-! ### The start sequence (R423 to R425) -/

/-- The package is in a start, at a phase. -/
def State.atPhase (s : State) (n : Nat) : Bool := s.boot.mode == .starting && !s.boot.inReset && s.boot.phase == n && s.served
/-- The next phase begins. -/
def State.toPhase (s : State) (n : Nat) : State := { s with boot := { s.boot with phase := n } }
/-- An event of the Lodestars with a result, phase or reason and a slot (R470). -/
def State.bootEvent (s : State) (code value slot : Nat) : State := s.event code .lodestar s.leader 0xFFFF (natLe 1 value ++ natLe 1 slot)
/-- DIM_ENTERED: Dim mode with its reason (R427, R428). The units that are unpowered lose what they hold; Slate and Thatch are in self-refresh, so that the reset that leaves Dim mode finds their contents (R258; log 68). -/
def State.enterDim (s : State) (reason : Nat) : State :=
  let s := s.bootEvent 0xC4 reason s.boot.running
  let (tag, s) := s.takeId
  let time : TimeState := {}
  { s with boot := { s.boot with mode := .dim, dimReason := reason }, mem := s.mem.dropSram tag, cache := { poison := s.cache.settled }, time := time, fab := {} }
/-- A failed start (R425), counted and logged; the reset follows. -/
def State.failStart (s : State) (phase : Nat) : State :=
  let s : State := { s with boot := { s.boot with
    lastFailedPhase := phase
    failedStarts := min 255 (s.boot.failedStarts + 1)
    prevFailed := s.boot.running != 255
    prevSlot := if s.boot.running = 255 then s.boot.prevSlot else s.boot.running } }
  s.bootEvent 0xC2 phase s.boot.running

/-- At a start each replay counter takes its ceiling in flash, and the ceiling goes up by 65,536 (R406). -/
def State.startReplay (s : State) : State :=
  let top := fun (i : Nat) => tget 65536 s.fuse.ceilings i
  { s with
    prot := { s.prot with replay := (List.range 8).foldl (fun t i => tset t i (top i)) s.prot.replay }
    fuse := { s.fuse with ceilings := (List.range 8).foldl (fun t i => tset t i (top i + 65536)) s.fuse.ceilings } }

/-- PACKAGE_RESET_RELEASE: phase ROM begins; the causes and a latched cutoff are logged (R444, R465), and the replay counters take their ceilings. -/
def execPackageResetRelease (s : State) : Result :=
  let s' := s.startReplay
  let t : State := { s' with boot := { s'.boot with inReset := false, mode := .starting, phase := 1 }, power := { s'.power with cutoffLatch := false } }
  let t := t.event 0xE3 .clocks 0xFF 0xFFFF (natLe 4 0 ++ natLe 1 (s.boot.lastCause + 128 * ofBool s.boot.cutShort) ++ natLe 1 s.boot.priorCause)
  let t := if s.power.cutoffLatch then t.event 0xD4 .power 0xFF 0xFFFF (natLe 2 0 ++ natLe 4 0 ++ natLe 1 0x05) else t
  when (s.boot.inReset && s.power.hkUp && s.power.supply != .reset && !s.power.reversed) s t

/-- ROM_PHASE_DONE: D0 leads when its Lodestar passes, else D2 (R426); the boot ROM measures itself (R420). -/
def execRomPhaseDone (ok0 ok2 : Bool) (s : State) : Result :=
  let t : State := { s with boot := { s.boot with leader := if ok0 then 0 else 2, lodestar0 := ok0, lodestar2 := ok2 } }
  when (s.atPhase 1 && (ok0 || ok2)) s
    ((t.measure 1 ((List.range Config.bootRomSize).map Config.bootRom)).toPhase 2)

/-- The slots in the order in which a start tries them (R417). -/
def State.tryOrder (s : State) : List Nat :=
  let second := if s.boot.prevFailed then 1 - s.boot.prevSlot else s.boot.preferred
  let l := if s.boot.trial < 2 then addNew second [s.boot.trial] else [second]
  addNew 1 (addNew 0 l)
/-- The first slot that verifies; each one that does not is logged (R417). -/
def State.trySlots (s : State) (verdict : Nat → Nat) : List Nat → State × Option Nat
  | [] => (s, none)
  | i :: rest =>
    let v := verdict i
    let s : State := if s.boot.trial = i then { s with boot := { s.boot with trial := 255 } } else s
    let s := s.noteVerdict i v
    if v = 0x80 then (s, some i) else (s.bootEvent 0xC3 v i).trySlots verdict rest
/-- An image runs, or the boot ROM serves Dim mode (R417, R425). -/
def State.selectImage (s : State) (a b : ImageCheck) : State :=
  let verdict := fun i => s.imageVerdict i (if i = 0 then a else b)
  match s.trySlots verdict s.tryOrder with
  | (t, none) => ({ t with boot := { t.boot with running := 255 } } : State).enterDim 0x01
  | (t, some i) =>
    let t : State := { t with boot := { t.boot with running := i, prevFailed := false, prevSlot := i } }
    let t := (t.measureImage i).measureFuses
    if 3 ≤ t.boot.failedStarts then t.enterDim 0x02 else t.toPhase 3
/-- IMAGE_PHASE_DONE. -/
def execImagePhaseDone (a b : ImageCheck) (s : State) : Result := when (s.atPhase 2) s (s.selectImage a b)

/-- POWER_PHASE_DONE: the rails are up and the root PLLs begin to lock (R451, R454). -/
def execPowerPhaseDone (s : State) : Result :=
  when (s.atPhase 3) s
    (({ s with power := { s.power with railsUp := true }, clk := { s.clk with pll := PerDie.all 1 } } : State).toPhase 4)

/-- Every root PLL is locked. -/
def State.pllsLocked (s : State) : Bool := plist s.clk.pll == [2, 2, 2, 2]
/-- LOCK_STATE reviewed after a change of role or parent: the root is LOCKED once its PLLs are, and a package that has lost its parent or its root's place is FREE, with 0xFF in TIME_PARENT_LINK as at the root (R42, R45, R74; log 66). -/
def State.reviewLock (s : State) : State :=
  if !s.time.counting then s
  else if s.isRoot then
    { s with time := { s.time with lock := if s.pllsLocked then .locked else .free, parentLink := 255, hops := 0, samples := [], stepDue := none } }
  else if s.time.parentLink < 36 then
    match s.parentGroup with
    | some g => if bit (s.group g) s.time.parentLink then s
      else { s with time := { s.time with lock := .free, parentLink := 255, samples := [], inTolerance := 0, stepDue := none } }
    | none => s
  else match s.time.lock with
    | .locked | .aligning | .syntonising => { s with time := { s.time with lock := .free, samples := [], inTolerance := 0, stepDue := none } }
    | _ => s

/-- CLOCKS_PHASE_DONE: the reference is selected, the PLLs are locked, and the SDT counters start at 0 (R453, R463). -/
def execClocksPhaseDone (refclkGood : Bool) (s : State) : Result :=
  let time : TimeState := { counting := true, boundaryOpen := true }
  when (s.atPhase 4 && s.pllsLocked) s
    (({ s with clk := { s.clk with refSource := ofBool (!refclkGood) }, time := time } : State).reviewLock.toPhase 5)

/-- What the evaluation of R31 gives: a refusal code, or the level and the result. -/
def State.pair (s : State) : Except Nat (Nat × Nat) :=
  let id := fun (d : Nat) => (pget s.fuse.dieId d).toNat
  let dies := List.range 4
  match dies.find? (fun d => !pget s.fuse.answers d || field (id d) 6 2 != d || field (id d) 20 12 != 0x5A4) with
  | some d => .error (if !pget s.fuse.answers d || field (id d) 6 2 != d then 0x21 else 0x22)
  | none =>
    let levels := dies.map (fun d => field (id d) 8 4)
    let level := levels.foldl min 15
    if level = 0 ∨ dies.any (fun d => decide (level < field (id d) 2 4)) then .error 0x22
    else .ok (level, ofBool (levels.any (fun l => decide (level < l))))
/-- PAIRING_PHASE_DONE (R31, R32). -/
def execPairingPhaseDone (s : State) : Result :=
  when (s.atPhase 5) s
    (match s.pair with
    | .error code => ({ s with fuse := { s.fuse with pairing := 2 } } : State).enterDim code
    | .ok (level, result) =>
      let t : State := { s with fuse := { s.fuse with featureLevel := level, pairing := result } }
      let det := ((List.range 4).map (fun d => natLe 1 (field (pget s.fuse.dieId d).toNat 8 4))).flatten
      (if result = 1 then t.event 0xF3 .package 0xFF 0xFFFF det else t).toPhase 6)

/-- SRAM_PHASE_DONE: the SRAMs are tested and hold nothing defined; accumulators read zero (R131, R423). -/
def execSramPhaseDone (s : State) : Result :=
  let (tag, t) := s.takeId
  when (s.atPhase 6) s (({ t with mem := t.mem.dropSram tag } : State).toPhase 7)

/-- A logical number of a die passes to the lowest standby spare (R27). With no spare left nothing changes: a request accepted beyond the spares stays pending and its core goes on working (DESIGN CHOICE, log 67). -/
def State.inherit (s : State) (d n : Nat) : State :=
  match pget s.fuse.spares d with
  | [] => s
  | p :: rest =>
    let l := pget s.fuse.logical d
    { s with fuse := { s.fuse with
      logical := pset s.fuse.logical d (l.set n p)
      spares := pset s.fuse.spares d rest
      retired := pset s.fuse.retired d (addNew (l.getD n 0) (pget s.fuse.retired d))
      pendingRetire := pset s.fuse.pendingRetire d ((pget s.fuse.pendingRetire d).filter (fun m => m != n)) } }
/-- Every failing core of a die is recorded as retired and failing spares leave; then the logical numbers of failing cores, and after them those named by requests, pass to spares, each in ascending order (R27; log 67). -/
def State.retireOn (s : State) (d : Nat) (failed : List Nat) : State :=
  let (logical, spares) := (pget s.fuse.logical d, pget s.fuse.spares d)
  let bad := (logical ++ spares).filter (fun p => decide (p ∈ failed))
  let s : State := { s with fuse := { s.fuse with
    spares := pset s.fuse.spares d (spares.filter (fun p => !decide (p ∈ failed)))
    retired := pset s.fuse.retired d (bad.foldl (fun l p => addNew p l) (pget s.fuse.retired d)) } }
  let out := (List.range 96).filter (fun n => decide (logical.getD n 0 ∈ pget s.fuse.retired d))
  let named := (List.range 96).filter (fun n => decide (n ∈ pget s.fuse.pendingRetire d) && !decide (n ∈ out))
  (out ++ named).foldl (fun s n => s.inherit d n) s
/-- Cores of a die that bear a logical number and are good when some fail the self-test and the retirements of this start are made (R27, R29). -/
def State.goodCores (s : State) (d : Nat) (failed : List Nat) : Nat :=
  let t := s.retireOn d failed
  ((pget t.fuse.logical d).filter (fun p => !decide (p ∈ pget t.fuse.retired d))).length
/-- CORES_PHASE_DONE (R27, R29). -/
def execCoresPhaseDone (failed : List (Fin 4 × Nat)) (s : State) : Result :=
  let of := fun (d : Nat) => (failed.filter (fun (p : Fin 4 × Nat) => p.1.val == d)).map (fun p => p.2)
  let t := (List.range 4).foldl (fun s d => s.retireOn d (of d)) s
  when (s.atPhase 7) s
    (if (List.range 4).any (fun d => decide (s.goodCores d (of d) < 96)) then t.enterDim 0x23 else t.toPhase 8)

/-- MEMORY_PHASE_DONE: after power-on every sector is zero with valid check bits, otherwise the contents are kept (R423). -/
def execMemoryPhaseDone (s : State) : Result :=
  let (tag, t) := s.takeId
  let fresh : State := { t with mem := ⟨[], none, tag, []⟩, cache := { t.cache with poison := [] }, boot := { t.boot with memLost := false } }
  when (s.atPhase 8) s ((if s.boot.memLost then fresh else s).toPhase 9)

/-- FIRMWARE_LOAD_PHASE_DONE. -/
def execFirmwareLoadPhaseDone (s : State) : Result := when (s.atPhase 9) s (s.toPhase 10)

/-- Training starts on every enabled link (R312, R344, R423). -/
def State.trainLinks (s : State) : State :=
  (List.range 36).foldl (fun s l =>
    s.setLink l { s.link l with state := if !pmEnable (s.portMap l) then .disabled else if s.ethRole l then .ethTraining else .detect }) s
/-- LINKS_PHASE_DONE. -/
def execLinksPhaseDone (s : State) : Result := when (s.atPhase 10) s (s.trainLinks.toPhase 11)

/-- START_COMPLETE (R424). -/
def State.startComplete (s : State) : State :=
  let s : State := { s with boot := { s.boot with
    mode := .ready, failedStarts := 0, preferred := s.boot.running, bootCount := (s.boot.bootCount + 1) % 2 ^ 32 } }
  s.bootEvent 0xC1 0x0B s.boot.running
/-- DICTIONARY_PHASE_DONE: the last measurements, then start-complete (R420, R424). -/
def execDictionaryPhaseDone (s : State) : Result :=
  when (s.atPhase 11) s s.measureConfig.measureKeys.startComplete

/-- START_FAILED: the 120 s timer (R425). -/
def execStartFailed (s : State) : Result :=
  when (s.boot.mode == .starting && !s.boot.inReset && s.power.hkUp) s ((s.failStart s.boot.phase).packageReset 0x06)

/-! ### Leader and standby (R426) -/

/-- The Lodestar of a die is in service. -/
def State.lodestar (s : State) (d : Nat) : Bool := (d == 0 && s.boot.lodestar0) || (d == 2 && s.boot.lodestar2)
/-- A Lodestar goes out of service until the next package reset. -/
def State.loseLodestar (s : State) (d : Nat) : State :=
  if d = 0 then { s with boot := { s.boot with lodestar0 := false } } else { s with boot := { s.boot with lodestar2 := false } }
/-- The other of the two can take over (STANDBY_READY). -/
def State.standbyReady (s : State) : Bool := !s.boot.inReset && decide (2 ≤ s.boot.phase) && s.lodestar (2 - s.leader)
/-- LEADER_HEARTBEAT: of a leader in service. -/
def execLeaderHeartbeat (s : State) : Result :=
  when (!s.boot.inReset && s.lodestar s.leader) s { s with boot := { s.boot with heartAt := s.sdt } }
/-- Four heartbeats in a row are missing: 4 ms (6,400,000 ticks) have passed since the last one (R426). -/
def State.heartbeatsMissed (s : State) : Bool := s.elapsed s.boot.heartAt 6400000
/-- The transports whose SPDM connection begins anew (R422). -/
def State.spdmLost (s : State) (ts : List Nat) : State :=
  { s with prot := { s.prot with spdm := ts.foldl (fun t n => tset t n 4) s.prot.spdm } }
/-- The snapshot and the staging buffer of a port are gone, and the next access to each is refused (R395). -/
def HostPort.leaderLost (p : HostPort) : HostPort :=
  { p with segSnap := none, segStage := none, segLost := p.segLost || p.segSnap.isSome, stageLost := p.stageLost || p.segStage.isSome }
/-- A takeover (R395, R422, R426): snapshots and staging buffers of the old leader are gone, and the event is logged. -/
def State.changeLeader (s : State) : State :=
  let s := s.loseLodestar s.leader
  let gone := fun (g : ProtSeg) => { g with snapshot := none, staging := none, snapLost := g.snapLost || g.snapshot.isSome, stageLost := g.stageLost || g.staging.isSome }
  let s : State := { s with
    boot := { s.boot with leader := 2 - s.leader, heartAt := s.sdt }
    prot := { s.prot with segs := s.prot.segs.map gone }
    host := { s.host with p0 := s.host.p0.leaderLost, p1 := s.host.p1.leaderLost } }
  (s.spdmLost [0, 1, 2]).bootEvent 0xC0 s.boot.phase s.boot.running
/-- LEADER_CHANGE. -/
def execLeaderChange (s : State) : Result := when (s.standbyReady && s.heartbeatsMissed) s s.changeLeader
/-- LODESTAR_FAILURE: of the standby, or of the last one in service. -/
def execLodestarFailure (die : Fin 4) (s : State) : Result :=
  when (!s.boot.inReset && s.lodestar die && (die.val != s.leader || !s.standbyReady)) s (s.loseLodestar die)

end Sys2Proof.Machine
end

