-- ==== Sys2Proof/Machine/Power.lean ====
section
/-! DEFINITION. Power, thermal and protection (file 17): input supervision, protection, throttle steps, junction and coolant temperatures, the power ceiling, guard-bands, calibration and power-on. -/
namespace Sys2Proof.Machine

/-- An event or fault of the power unit: rail or sensor number, reading and cause (R470). -/
def powerDetail (which : Nat) (reading : Int) (cause : Nat) : Bytes := natLe 2 which ++ natLe 4 (ofSigned 32 reading) ++ natLe 1 cause
/-- An event of the power unit. -/
def State.powerEvent (s : State) (code die which : Nat) (reading : Int) (cause : Nat) : State :=
  s.event code .power die 0xFFFF (powerDetail which reading cause)
/-- A quotient rounded to a whole number; the spec gives no rounding, so which neighbour it is is a free value (log 69). -/
def State.quotient (s : State) (n d : Nat) : Nat × State :=
  if d = 0 ∨ n % d = 0 then (n / d, s) else let (b, s) := s.takeFree 1; (n / d + b, s)

/-! ### Throttle steps (R440 to R442) -/

/-- The supply demand (R432). -/
def State.supplyDemand (s : State) : Nat :=
  match s.power.supply with
  | .warning => 4
  | .low => 7
  | _ => 0
/-- The largest of the four demands (R441). -/
def State.demand (s : State) : Nat :=
  max (max (s.dget 0x2811 3) (s.dget 0x2811 4)) (max s.supplyDemand (s.dget 0x2811 2))
/-- The applied step. -/
def State.throttle (s : State) : Nat := s.dget 0x2811 1
/-- Ticks of working slots before an SDT. -/
def workTicks (t : Nat) : Nat :=
  let sl := slotOf t
  (sl - sl / 64) * 2048 + (if isDusk sl then 0 else tickOf t)
/-- The SDT at which a count of working ticks is reached. -/
def sdtOfWork (w : Nat) : Nat := (w / 2048 + w / 2048 / 63) * 2048 + w % 2048
/-- The next window boundary at or after an SDT. -/
def windowBoundary (t : Nat) : Nat := (t + 63) / 64 * 64
/-- The demand or the step has changed: from when the demand lies below the step (R441). -/
def State.reviewDemand (s : State) : State :=
  let since := if s.demand < s.throttle then some (s.power.lowerFrom.getD (workTicks s.sdt)) else none
  { s with power := { s.power with lowerFrom := since } }
/-- A window boundary of the present slot that may be reached now. -/
def State.windowMay (s : State) (t : Nat) : Bool :=
  s.clockOn && slotOf t == s.slot && decide (s.sdt ≤ t) && !(s.sampleDue && decide (1984 ≤ tickOf t))
/-- The step changes at a window boundary. -/
def State.setThrottle (s : State) (t step : Nat) : State := (s.passTo t).dset 0x2811 1 step
/-- THROTTLE_STEP_RAISE: at the next window boundary the step takes the largest demand (R441). -/
def execThrottleStepRaise (s : State) : Result :=
  let t := windowBoundary s.sdt
  when (decide (s.throttle < s.demand) && s.windowMay t) s (s.setThrottle t s.demand).reviewDemand
/-- THROTTLE_STEP_LOWER: at the end of 8 working slots below the step, or at the first window boundary after it (R441). -/
def execThrottleStepLower (s : State) : Result :=
  match s.power.lowerFrom with
  | none => .next s
  | some w =>
    let t := windowBoundary (max s.sdt (sdtOfWork (w + 16384)))
    let u := s.setThrottle t (s.throttle - 1)
    when (s.windowMay t) s
      ({ u with power := { u.power with lowerFrom := some (workTicks t) } } : State).reviewDemand

/-! ### Input supervision and protection (R432 to R438) -/

/-- The supply is watched: housekeeping is up and RESET is not in force. -/
def State.watched (s : State) : Bool := s.power.hkUp && s.power.supply != .reset
/-- SUPPLY_STATE and INPUT_VOLTAGE. -/
def State.setSupply (s : State) (st : SupplyState) (mv : Nat) : State :=
  ({ s.dset 0x2800 0 (mv % 65536) with power := { s.power with supply := st } } : State).reviewDemand
/-- SUPPLY_WARNING: VIN below 34.0 V. -/
def execSupplyWarning (mv : Nat) (s : State) : Result :=
  when (s.watched && (s.power.supply == .normal || s.power.supply == .over) && decide (mv < 34000)) s
    (((s.setSupply .warning mv).dadd 0x3800 1 1).powerEvent 0xD0 0xFF 0 mv 0)
/-- SUPPLY_LOW: in WARNING, VIN below 32.0 V. -/
def execSupplyLow (mv : Nat) (s : State) : Result :=
  when (s.watched && s.power.supply == .warning && decide (mv < 32000)) s (s.setSupply .low mv)
/-- SUPPLY_LOW_CLEARED: back to WARNING above 33.0 V, with no record of its own (R433). -/
def execSupplyLowCleared (mv : Nat) (s : State) : Result :=
  when (s.watched && s.power.supply == .low && decide (33000 < mv)) s (s.setSupply .warning mv)
/-- SUPPLY_RECOVERED: back to NORMAL above 35.0 V. -/
def execSupplyRecovered (mv : Nat) (s : State) : Result :=
  when (s.watched && s.power.supply == .warning && decide (35000 < mv)) s ((s.setSupply .normal mv).powerEvent 0xD1 0xFF 0 mv 0)
/-- OVER_VOLTAGE: above 44.0 V, logged once for each entry. -/
def execOverVoltage (mv : Nat) (s : State) : Result :=
  when (s.watched && s.power.supply != .over && decide (44000 < mv)) s ((s.setSupply .over mv).powerEvent 0xD7 0xFF 0 mv 0)
/-- OVER_VOLTAGE_CLEARED: below 43.5 V. -/
def execOverVoltageCleared (mv : Nat) (s : State) : Result :=
  when (s.watched && s.power.supply == .over && decide (mv < 43500)) s (s.setSupply .normal mv)
/-- The clean stop with its record, then package reset (R434). -/
def State.supplyReset (s : State) (cause : Nat) (reading : Int) (volts : Bool) : State :=
  let s := (s.cleanStop.powerEvent 0xD2 0xFF 0 reading cause).flushLog.resetTo cause false
  { s with power := { s.power with supply := .reset, resetOver := volts } }
/-- SUPPLY_RESET: VIN below 30.0 V. -/
def execSupplyReset (mv : Nat) (s : State) : Result :=
  when (s.watched && decide (mv < 30000)) s (s.supplyReset 0x02 mv false)
/-- OVER_VOLTAGE_RESET: VIN above 48.0 V for 1 ms (R435). -/
def execOverVoltageReset (mv : Nat) (s : State) : Result :=
  when (s.watched && decide (48000 < mv)) s (s.supplyReset 0x03 mv true)
/-- OVER_CURRENT_RESET: input current held at the 200 A limit (R436). -/
def execOverCurrentReset (ma : Nat) (s : State) : Result :=
  when (s.watched && decide (200000 ≤ ma)) s (s.supplyReset 0x03 ma false)
/-- VIN_RISE: power-on begins as VIN rises through 31.0 V; a polarity that was reversed is right again (R436, R451). -/
def execVinRise (mv : Nat) (s : State) : Result :=
  when (!s.power.hkUp && !s.power.charging && decide (31000 < mv)) s
    { s with power := { s.power with charging := true, reversed := false } }
/-- VIN_STABLE: 100 ms in range end a supply reset or, at power-on, start the housekeeping converter (R432, R435, R451). -/
def execVinStable (mv : Nat) (s : State) : Result :=
  let range := decide (31000 < mv) && (!s.power.resetOver || decide (mv < 46000))
  when (range && s.power.supply == .reset && (s.power.hkUp || s.power.charging)) s
    (let t : State := { s with power := { s.power with hkUp := true, charging := false, resetOver := false, supply := .normal } }
     t.dset 0x2800 0 (mv % 65536))
/-- POWER_LOSS: below 20 V every rail collapses; memory, and what the Lodestars hold, is lost (R434, R465). -/
def execPowerLoss (mv : Nat) (s : State) : Result :=
  let prior := s.boot.lastCause
  let t := s.resetTo 0x01 true
  when (s.power.hkUp && decide (mv < 20000)) s
    { t with
      boot := { t.boot with lastCause := 0x01, priorCause := prior, cutShort := false, memLost := true }
      power := { t.power with hkUp := false, charging := false, supply := .reset, resetOver := false, cutoffLatch := false }
      log := { t.log with tapIr := PerDie.all .idcode } }
/-- REVERSE_POLARITY: blocked, and no rail starts (R436). -/
def execReversePolarity (s : State) : Result :=
  when (!s.power.hkUp) s { s with power := { s.power with reversed := true, charging := false } }

/-- Every stage-2 rail turns off: memory contents are lost and no unit runs (R438). -/
def State.railsOff (s : State) : State :=
  let (tag, s) := s.takeId
  let time : TimeState := { s.time with counting := false }
  { s with mem := Memory.lost tag, cache := {}, time := time, power := { s.power with railsUp := false, railFault := true } }
/-- RAIL_FAULT: fatal fault 0xD5; during a start it is a failed start of phase POWER (R438). -/
def execRailFault (die : Fin 4) (rail mv : Nat) (s : State) : Result :=
  let starting := s.boot.mode == .starting
  let t := s.railsOff.fatal 0xD5 die .power 0xFFFFFFFF 0xFFFF 0xFFFF (powerDetail rail mv 0x04)
  when (!s.boot.inReset && !s.power.railFault && (s.power.railsUp || s.boot.phase == 3)) s (if starting then t.failStart 0x03 else t)
/-- RAIL_FAULT_RESET: 1 s after the fault, with no stop (R438, R463). -/
def execRailFaultReset (s : State) : Result := when s.power.railFault s (s.flushLog.resetTo 0x04 true)

/-! ### Sense inputs (R432, R439) -/

/-- Valid junction sensors of a die. -/
def State.validSensors (s : State) (d : Nat) : Nat := 48 - (s.power.excluded.filter (fun p => p.1 == d)).length
/-- The least thermal demand: 4 while a die has fewer than 40 valid sensors (R439). -/
def State.leastThermal (s : State) : Nat := if (List.range 4).any (fun d => decide (s.validSensors d < 40)) then 4 else 0
/-- The thermal demand, no lower than it may be. -/
def State.setThermal (s : State) (n : Nat) : State := (s.dset 0x2811 3 (max n s.leastThermal)).reviewDemand
/-- SENSE_OPEN: a remote sense, whose regulator goes over to local sense (log 102), a VIN divider or a junction sensor. -/
def execSenseOpen (kind : Nat) (die : Fin 4) (which reading : Nat) (s : State) : Result :=
  let t := (s.dadd 0x3800 4 1).powerEvent 0xD6 (if kind = 1 then 0xFF else die.val) which reading 0
  match kind with
  | 0 => when (s.watched && s.power.railsUp) s { t with power := { t.power with localSense := addNew (die.val, which) t.power.localSense } }
  | 1 => when s.watched s (t.dset 0x2800 0 (reading % 65536))
  | 2 =>
    let u : State := { t with power := { t.power with excluded := addNew (die.val, which) t.power.excluded } }
    when (s.watched && s.power.railsUp && decide (which < 48)) s (u.setThermal (u.dget 0x2811 3))
  | _ => .refused .malformedCommand
/-- Both sensors of the inlets, or of the outlets, have failed. -/
def State.pairFailed (s : State) : Bool :=
  (s.power.coolantFailed.getLsbD 0 && s.power.coolantFailed.getLsbD 1) || (s.power.coolantFailed.getLsbD 2 && s.power.coolantFailed.getLsbD 3)
/-- With both sensors of a pair failed the flow ceiling is held at the cold default (R439, R445). -/
def State.holdCold (s : State) : State :=
  if s.pairFailed then { s with power := { s.power with flowCeiling := 3200, flowValid := false } } else s
/-- COOLANT_SENSOR: a sensor out of range fails; a pair more than 3.0 K apart is only reported. -/
def execCoolantSensor (sensor : Fin 4) (failed : Bool) (reading : Int) (s : State) : Result :=
  let t := (s.dadd 0x3800 4 1).powerEvent 0xD9 0xFF sensor reading 0
  let u : State := { t with power := { t.power with coolantFailed := t.power.coolantFailed ||| BitVec.ofNat 4 (2 ^ sensor.val) } }
  when s.watched s (if failed then u.holdCold else t)

/-! ### Junction temperature (R443, R444) -/

/-- TJ_MAX of a die, 0.01 °C. -/
def State.tj (s : State) (d : Nat) : Int := toSigned 16 (s.dget 0x2830 (d + 1))
/-- T_j: the highest of the four. -/
def State.tjMax (s : State) : Int := max (max (s.tj 0) (s.tj 1)) (max (s.tj 2) (s.tj 3))
/-- The samples of a slot (R443): the highest valid reading of each die, and since when the package is hot or cool (R444). -/
def State.junctionSample (s : State) (readings : List (List Int)) : State :=
  let s := (List.range 4).foldl (fun s d =>
    let valid := (readings.getD d []).zipIdx.filter (fun p => !decide ((d, p.2) ∈ s.power.excluded))
    match valid.map (fun p => p.1) with
    | [] => s
    | x :: xs => s.dset 0x2830 (d + 1) (ofSigned 16 (xs.foldl max x))) s
  let hot := if 10500 ≤ s.tjMax then some (s.power.hotSince.getD s.sdt) else none
  let cool := if s.tjMax ≤ 8500 then some (s.power.coolSince.getD s.sdt) else none
  { s with power := { s.power with hotSince := hot, coolSince := cool } }
/-- THERMAL_DEMAND_REVISE: at the end of every 8 working slots. -/
def execThermalDemandRevise (s : State) : Result :=
  let d := s.dget 0x2811 3
  let t := s.tjMax
  let n := if 10300 ≤ t then 7 else if 10000 ≤ t then min 7 (d + 1) else if t ≤ 9700 then d - 1 else d
  when (s.clockOn && decide (8 ≤ s.power.thermSlots)) s
    ({ s.setThermal n with power := { (s.setThermal n).power with thermSlots := 0 } } : State)
/-- A thermal trip (R444): dispatch stops and the units stop as in a halt; the fault goes into the next contribution. -/
def State.trip (s : State) (d : Nat) : State :=
  let s := s.stopUnits.stopThreads.stopMovers
  let s := (s.dadd 0x3800 2 1).fatal 0xD3 d .power 0xFFFFFFFF 0xFFFF 0xFFFF (powerDetail 0 (s.tj d) 0x05)
  { s with power := { s.power with tripped := true, trippedAt := some s.sdt } }
/-- THERMAL_TRIP: 100 µs (160,000 ticks) at 105.0 °C or above. -/
def execThermalTrip (die : Fin 4) (s : State) : Result :=
  let long := match s.power.hotSince with | some t => decide (t + 160000 ≤ s.sdt) | none => false
  when (s.alive && !s.power.tripped && long && decide (10500 ≤ s.tj die)) s (s.trip die)
/-- THERMAL_TRIP_SHUTDOWN: 10 ms (16,000,000 ticks) after a trip the package is still at 105.0 °C or above. -/
def execThermalTripShutdown (s : State) : Result :=
  let late := match s.power.trippedAt with | some t => decide (t + 16000000 ≤ s.sdt) | none => false
  when (late && !s.power.shutdown && !s.boot.inReset && decide (10500 ≤ s.tjMax)) s { s with power := { s.power with shutdown := true } }
/-- THERMAL_COOLDOWN_RESET: after a shutdown every die has read 85.0 °C or below for 1 s. -/
def execThermalCooldownReset (s : State) : Result :=
  let long := match s.power.coolSince with | some t => decide (t + 1600000000 ≤ s.sdt) | none => false
  when (s.power.shutdown && long) s (s.flushLog.resetTo 0x05 false)
/-- THERMAL_CUTOFF: the comparator at 115 °C drops every stage-2 rail with no stop; it is logged at the next start. -/
def execThermalCutoff (die : Fin 4) (s : State) : Result :=
  let t := s.flushLog.resetTo 0x05 true
  when (decide (die.val < 4) && s.watched && !s.boot.inReset && s.power.railsUp) s { t with power := { t.power with cutoffLatch := true } }

/-! ### Cooling and the power ceiling (R445 to R447) -/

/-- COOLANT_AVERAGE: flow and flow ceiling from the 10 s averages; one is held when the difference or the power is small. -/
def State.coolant (s : State) (tin tout : Int) (power : Nat) : State :=
  let hot := 4500 < tin
  let enter := hot && !s.power.inletHot
  let s := if enter then (s.dadd 0x3800 4 1).powerEvent 0xD9 0xFF 0 tin 0 else s
  let s : State := { s with power := { s.power with tIn := tin, inletHot := hot } }
  if s.pairFailed then s.holdCold
  else if 200 ≤ tout - tin ∧ 1000 ≤ power then
    let d := (tout - tin).toNat
    let (flow, s) := s.quotient (582000 * power) (s.dget 0x2822 0 * d)
    let (ceiling, s) := s.quotient (power * (7000 - tin).toNat) d
    { s.dset 0x2821 0 (flow % 65536) with power := { s.power with flowCeiling := ceiling, flowValid := true } }
  else s
/-- COOLANT_AVERAGE. -/
def execCoolantAverage (sensors : List Int) (tin tout : Int) (power : Nat) (s : State) : Result :=
  if sensors.length ≠ 4 then .refused .malformedCommand
  else when s.watched s
    (((List.range 4).foldl (fun s i => s.dset 0x2820 (i + 1) (ofSigned 16 (sensors.getD i 0))) s).coolant tin tout power)

/-- The inlet ceiling (R446). -/
def State.inletCeiling (s : State) : Nat × State :=
  let t := s.power.tIn
  if t ≤ 3500 then (6400, s)
  else if t ≤ 4500 then s.quotient (64000 - 16 * (t - 3500).toNat) 10
  else (max 1200 (4800 - 4 * (t - 4500).toNat), s)
/-- The power ceiling published with the term that set it, the first of equal ones (R446). -/
def State.publishCeiling (s : State) : State :=
  let (inlet, s) := s.inletCeiling
  let cap := s.dget 0x2810 1
  let flow := s.power.flowCeiling
  let least := min (min 6400 cap) (min inlet flow)
  let limiter := if least = 6400 then 0 else if least = cap then 1 else if least = inlet then 2 else if s.power.flowValid then 3 else 4
  (s.dset 0x2810 2 least).dset 0x2810 3 limiter
/-- POWER_CEILING_PUBLISH: every 100 ms. -/
def execPowerCeilingPublish (s : State) : Result := when s.watched s s.publishCeiling

/-- The power demand after a 100 µs average (R447), with INPUT_POWER, the average of the last ten, and INPUT_CURRENT. -/
def State.controlPower (s : State) (power ma : Nat) : State :=
  let samples := (power :: s.power.samples).take 10
  let (avg, s) := s.quotient samples.sum samples.length
  let s := (s.dset 0x2802 0 (avg % 65536)).dset 0x2801 0 (ma % 2 ^ 32)
  let ceiling := s.dget 0x2810 2
  let d := s.dget 0x2811 4
  let calm := if power * 100 < 92 * ceiling then s.power.calmPeriods + 1 else 0
  let new := if ceiling < power then min 7 (d + 1) else if calm = 20 then d - 1 else d
  let s := s.dset 0x2811 4 new
  ({ s with power := { s.power with samples := samples, calmPeriods := if calm = 20 then 0 else calm } } : State).reviewDemand
/-- POWER_CONTROL: every 100 µs. -/
def execPowerControl (power ma : Nat) (s : State) : Result :=
  when (s.watched && !s.boot.inReset && s.power.railsUp && s.boot.mode != .dim) s (s.controlPower power ma)

/-! ### Aging, calibration and flash wear (R448 to R450) -/

/-- A dusk slot in which background work runs. -/
def State.duskOn (s : State) : Bool := s.clockOn && s.inDusk
/-- A margin measured on a die: the eighth in a row below 12 ps makes a rise due while GUARD_BAND is below 60 mV. -/
def State.canary (s : State) (d : Nat) (m : Int) : State :=
  let n := if m < 12 then pget s.power.canaryLow d + 1 else 0
  let rise := n == 8 && decide (s.dget 0x2840 (d + 1) < 60)
  let s := s.dset 0x2841 (d + 1) (ofSigned 16 m)
  { s with power := { s.power with canaryLow := pset s.power.canaryLow d (if n = 8 then 0 else n)
                                   raiseDue := if rise then pset s.power.raiseDue d true else s.power.raiseDue } }
/-- CANARY_MEASURE: once every 4,096 dusk slots, never deferred. -/
def execCanaryMeasure (margins : List Int) (s : State) : Result :=
  if margins.length ≠ 4 then .refused .malformedCommand
  else
    let t := (List.range 4).foldl (fun s d => s.canary d (margins.getD d 0)) s
    when (s.duskOn && decide (s.power.canaryNext ≤ s.duskIndex)) s { t with power := { t.power with canaryNext := s.duskIndex + 4096 } }
/-- GUARD_BAND_RAISE: 5 mV in a dusk slot after that of the measurement, and an event once 60 mV are reached. -/
def execGuardBandRaise (die : Fin 4) (s : State) : Result :=
  let g := s.dget 0x2840 (die + 1) + 5
  let t := s.dset 0x2840 (die + 1) g
  let t : State := { t with power := { t.power with raiseDue := pset t.power.raiseDue die false } }
  when (s.duskOn && pget s.power.raiseDue die && decide (s.power.canaryNext < s.duskIndex + 4096)) s (if 60 ≤ g then t.powerEvent 0xD8 die 0 g 0 else t)
/-- Keys of the calibrations among the background tasks (R51): sensors, and current sense; a memory channel has its number. -/
def sensorKey : Nat := 5001
/-- Key of the current-sense calibration. -/
def phaseKey : Nat := 5002
/-- SENSOR_CALIBRATION: every 65,536 dusk slots; of its effect the model holds only when it came (log 69). -/
def execSensorCalibration (s : State) : Result :=
  when (s.duskOn && !s.deferredNow sensorKey && decide (s.power.sensorNext ≤ s.duskIndex)) s
    { s with power := { s.power with sensorNext := s.duskIndex + 65536 } }
/-- CURRENT_SENSE_CALIBRATION: one regulator phase per dusk slot, in rotation. -/
def execCurrentSenseCalibration (s : State) : Result :=
  when (s.duskOn && !s.deferredNow phaseKey && decide (s.power.phaseNext ≤ s.duskIndex)) s
    { s with power := { s.power with calPhase := s.power.calPhase + 1, phaseNext := s.duskIndex + 1 } }
/-- INTERFACE_CALIBRATION: one memory channel per dusk slot, in rotation over the 1,024 of Slate and the 64 of Thatch. -/
def execInterfaceCalibration (s : State) : Result :=
  when (s.duskOn && !s.deferredNow s.power.calChannel && decide (s.power.channelNext ≤ s.duskIndex)) s
    { s with power := { s.power with calChannel := (s.power.calChannel + 1) % 1088, channelNext := s.duskIndex + 1 } }
/-- FLASH_GARBAGE_COLLECT: the erase count of the most-worn block, with an event once it passes 80,000 (R450). -/
def execFlashGarbageCollect (wear : Nat) (s : State) : Result :=
  let old := s.dget 0x2850 0
  let t := s.dset 0x2850 0 (wear % 2 ^ 32)
  when (s.duskOn && s.served && decide (old ≤ wear)) s (if old ≤ 80000 ∧ 80000 < wear then t.event 0xDA .power 0xFF 0xFFFF (powerDetail 0 wear 0) else t)

end Sys2Proof.Machine
end

