-- ==== Sys2Proof/Machine/Clocks.lean ====
section
/-! DEFINITION. Clocks, resets and crossings (file 18): root PLLs and references, crossing overruns and resets, and the delayed package resets. -/
namespace Sys2Proof.Machine

/-! ### References and PLLs (R453, R454) -/

/-- DETAIL of a clock record: classes, instance and the two reset causes (R470). -/
def State.clockDetail (s : State) (src dst inst : Nat) : Bytes :=
  natLe 1 src ++ natLe 1 dst ++ natLe 2 inst ++ natLe 1 s.boot.lastCause ++ natLe 1 s.boot.priorCause
/-- A root PLL locks; with the last of them the root is LOCKED, and a package that syntonises aligns (R42, R43). -/
def State.pllLock (s : State) (d : Nat) : State :=
  let s : State := { s with clk := { s.clk with pll := pset s.clk.pll d 2 } }
  if !s.pllsLocked ∨ !s.time.counting then s
  else if s.isRoot then s.reviewLock
  else match s.time.lock with
    | .syntonising => { s with time := { s.time with lock := .aligning, inTolerance := 0 } }
    | _ => s
/-- ROOT_PLL_LOCK. -/
def execRootPllLock (die : Fin 4) (s : State) : Result := when (!s.boot.inReset && pget s.clk.pll die == 1) s (s.pllLock die)
/-- PLL_UNLOCK: after phase CLOCKS it is package-fatal (R454). The classes are REF and ARC (log 70). -/
def execPllUnlock (die : Fin 4) (s : State) : Result :=
  let t : State := { s with clk := { s.clk with pll := pset s.clk.pll die 1 } }
  when (s.clockOn && pget s.clk.pll die == 2) s (t.packageFatal 0xE0 die .clocks 0xFFFF (t.clockDetail 24 0 0))
/-- REF_SWITCH: the selected input is lost while LOCK_STATE is FREE (R453). -/
def execRefSwitch (s : State) : Result :=
  let t : State := { s with clk := { s.clk with refSource := 1 } }
  when (s.clockOn && s.time.lock == .free && s.clk.refSource == 0) s (t.event 0xE2 .clocks 0xFF 0xFFFF (t.clockDetail 24 24 0))

/-! ### Crossings (R459 to R461) -/

/-- The crossing of a record of CROSSING_TABLE. -/
def State.crossing (s : State) (n : Nat) : Crossing := tget ⟨false, false, 0⟩ s.clk.crossings n
/-- The state with a crossing replaced. -/
def State.setCrossing (s : State) (n : Nat) (c : Crossing) : State := { s with clk := { s.clk with crossings := tset s.clk.crossings n c } }
/-- Classes whose crossings are fatal: ARC, FAB, SEAM, RIDGE, SLATE-MC, THATCH-MC, RAFTER-CORE, ETH-MAC, PCIE-CORE, SDT (R456, R459). -/
def fatalClasses : List Nat := [0, 1, 3, 4, 5, 7, 9, 12, 14, 17]
/-- FATAL_CLASS of a crossing between two classes. -/
def fatalCrossing (src dst : Nat) : Bool := decide (src ∈ fatalClasses) || decide (dst ∈ fatalClasses)
/-- An overrun: the sticky flag, the counts, and fault 0xE1 or event 0xE4. -/
def State.overrun (s : State) (n : Nat) : State :=
  let (die, src, dst, inst) := Config.crossing n
  let c := s.crossing n
  let s := (s.setCrossing n { c with overrun := true, count := min (2 ^ 32 - 1) (c.count + 1) }).dadd 0x3900 (die % 4 + 1) 1
  if fatalCrossing src dst then s.fatal 0xE1 (die % 4) .clocks 0xFFFFFFFF 0xFFFF 0xFFFF (s.clockDetail src dst inst)
  else s.event 0xE4 .clocks (die % 4) 0xFFFF (s.clockDetail src dst inst)
/-- CROSSING_OVERRUN. -/
def execCrossingOverrun (crossing : Nat) (s : State) : Result :=
  when (decide (crossing < Config.crossings) && !s.boot.inReset && !(s.crossing crossing).inReset) s (s.overrun crossing)
/-- CROSSING_RESET: the other side flushes and sets IN_RESET; that is no overrun. -/
def execCrossingReset (crossing : Nat) (s : State) : Result :=
  when (decide (crossing < Config.crossings) && !s.boot.inReset) s (s.setCrossing crossing { s.crossing crossing with inReset := true })
/-- CROSSING_RELEASE_HANDSHAKE: both sides are out of reset. -/
def execCrossingReleaseHandshake (crossing : Nat) (s : State) : Result :=
  when (decide (crossing < Config.crossings) && !s.boot.inReset && (s.crossing crossing).inReset) s
    (s.setCrossing crossing { s.crossing crossing with inReset := false })
/-- Every overrun flag and count cleared (R460). -/
def State.clearOverruns (s : State) : State :=
  let clear := fun (c : Crossing) => { c with overrun := false, count := 0 }
  { s with clk := { s.clk with crossings := s.clk.crossings.map (fun p => (p.1, clear p.2)) } }

/-! ### Requested resets (R464) -/

/-- A package reset requested by a write, to begin 10 ms later; a request that waits already stands. -/
def State.requestReset (s : State) (cause : Nat) : State :=
  match s.boot.resetDue with
  | some _ => s
  | none => { s with boot := { s.boot with resetDue := some cause, resetAt := s.sdt } }
/-- RESET_DELAY_EXPIRY: 10 ms (16,000,000 ticks) after the request. -/
def execResetDelayExpiry (s : State) : Result :=
  match s.boot.resetDue with
  | none => .next s
  | some cause => when (s.elapsed s.boot.resetAt 16000000) s (s.packageReset cause)
/-- RESET_FORCE_WRITEBACK_TIMEOUT: 1 ms (1,600,000 ticks) after the request the forced reset begins with the write-back cut short, and memory contents are undefined (R258). -/
def execResetForceWritebackTimeout (s : State) : Result :=
  let t := s.cleanStop.flushLog.resetTo 0x09 true
  when (s.boot.resetDue == some 0x09 && s.elapsed s.boot.resetAt 1600000) s { t with boot := { t.boot with cutShort := true } }

end Sys2Proof.Machine
end

