-- ==== Sys2Proof/Machine/Host.lean ====
section
/-! DEFINITION. The host interface (file 14): ports, the memory aperture, the Skylight and its mirror. -/
namespace Sys2Proof.Machine

/-! ### The Skylight (R380) -/

/-- Code of SUPPLY_STATE (R432). -/
def SupplyState.code : SupplyState → Nat
  | .normal => 0 | .warning => 1 | .low => 2 | .over => 3 | .reset => 4
/-- Code of STANDBY_STATE (R55). -/
def StandbyState.code : StandbyState → Nat
  | .none => 0 | .checking => 1 | .staged => 2 | .rejected => 3
/-- Code of PREEMPT_STATE (R301). -/
def PreemptState.code : PreemptState → Nat
  | .running => 0 | .stopping => 1 | .stopped => 2 | .saving => 3 | .saved => 4 | .restoring => 5
/-- PARKS_OUTSTANDING (R297). -/
def State.parksOut (s : State) : Nat := s.trans.parks.length % 65536
/-- LAST_AGREEMENT. -/
def State.lastAgreementBytes (s : State) : Bytes := natLe 128 s.conj.lastAgreement.toNat
/-- Bytes 0 to 319 of the Skylight as they stand; the generation number is given. A selection that names no gate, 0 or one above 4,095, reads as zero (log 37). -/
def State.skyBytes (s : State) (gen : Nat) : Bytes :=
  let gate := fun (n : Nat) =>
    let g := s.dget 0x1123 (n + 1)
    if g = 0 ∨ 4096 ≤ g then natLe 8 0 else natLe 4 (s.gate g false).toNat ++ natLe 4 (s.gate g true).toNat
  natLe 8 gen ++ natLe 8 s.sdt ++ natLe 1 s.boot.mode.code ++ natLe 1 s.boot.dimReason ++ natLe 1 s.alm.state.code ++ natLe 1 s.alm.standby.code ++
    natLe 1 s.trans.preempt.code ++ natLe 1 s.time.lock.code ++ natLe 1 (s.dget 0x2121 0) ++ natLe 1 (ofBool s.fab.fenced) ++
    natLe 4 s.almanacId ++ natLe 4 s.alm.iteration ++ natLe 4 s.almanacSlot ++ natLe 4 s.alm.conjIndex ++ natLe 4 s.stepNow ++
    natLe 4 (s.dget 0x2104 3) ++ natLe 2 s.parksOut ++ natLe 1 s.alm.activeBuf.code ++ natLe 1 s.throttle ++ natLe 4 s.log.sinceReset ++
    natLe 4 (s.dget 0x2810 2) ++ natLe 4 (s.dget 0x2802 0) ++ s.lastAgreementBytes ++ ((List.range 16).map gate).flatten
/-- The 4,096 bytes of the page that a snapshot stands for. -/
def State.skyPage (s : State) : Bytes := padTo 4088 s.host.sky ++ natLe 8 s.host.skyGen
/-- A new snapshot. -/
def State.skySnapshot (s : State) : State :=
  let gen := (s.host.skyGen + 1) % 2 ^ 64
  { s with host := { s.host with skyGen := gen, sky := s.skyBytes gen } }

/-! ### The mirror (R382) -/

/-- Port of the mirror. -/
def State.mirrorPort (s : State) : HostPort := s.port (s.dget 0x1121 3)
/-- The mirror runs: it has a period and is not suspended. -/
def State.mirrorOn (s : State) : Bool := s.dget 0x1121 2 != 0 && s.dget 0x1121 4 == 0
/-- A running mirror whose port is not in L0, or may not master the bus, is suspended and counted. -/
def State.mirrorCheck (s : State) : State :=
  if s.mirrorOn && !(s.mirrorPort.l0 && !s.mirrorPort.d3hot && s.mirrorPort.busMaster) then (s.dset 0x1121 4 1).dadd 0x3110 3 1 else s
/-- The sixteen posted writes of a mirrored snapshot, in ascending address order. -/
def State.mirrorWrite (s : State) : State :=
  let page := s.skyPage
  (List.range 16).foldl (fun s n => s.emit (.hostWrite (s.dget 0x1121 3) (s.dget 0x1121 1 + 256 * n) (slice page (256 * n) 256))) s
/-- After a snapshot: every MIRROR_PERIOD_SLOTS-th one is mirrored. -/
def State.mirrorStep (s : State) : State :=
  let s := s.mirrorCheck
  if !s.mirrorOn then s
  else if s.dget 0x1121 2 ≤ s.host.mirrorCount + 1 then ({ s with host := { s.host with mirrorCount := 0 } } : State).mirrorWrite
  else { s with host := { s.host with mirrorCount := s.host.mirrorCount + 1 } }

/-- DIM_SKYLIGHT_SNAPSHOT: every 1 ms in Dim mode. -/
def execDimSkylightSnapshot (s : State) : Result := when (s.boot.mode == .dim && s.served) s s.skySnapshot

/-! ### Ports (R376, R377) -/

/-- Class code of both functions: a processing accelerator (R376). -/
def classCode : Nat := 0x120000
/-- Device ID of a port's function (R376). -/
def deviceId (p : Nat) : Nat := 0x5A40 + p
/-- The identifiers in the Type 0 header of a port, at the offsets that PCI Express gives them: Vendor ID at 0, Device ID at 2, class code at 9, header type at 14, subsystem IDs at 44 (R376; log 99). -/
def configHeader (p : Nat) : Bytes :=
  natLe 2 (Config.pciIds 0).toNat ++ natLe 2 (deviceId p) ++ natLe 5 0 ++ natLe 3 classCode ++ natLe 2 0 ++ natLe 1 0 ++ natLe 29 0 ++
    natLe 2 (Config.pciIds 1).toNat ++ natLe 2 (Config.pciIds 2).toNat

/-- The stage in which the ports train and answer: from phase CLOCKS on, and in Dim mode (R423, R427). -/
def State.portsUp (s : State) : Bool :=
  s.power.hkUp && !s.boot.inReset && !s.power.shutdown && !s.power.railFault && (s.boot.mode != .starting || decide (4 ≤ s.boot.phase))
/-- A port in L0 and D0, which answers memory requests while a Lodestar serves; without one only configuration space answers (R426). -/
def State.portAnswers (s : State) (p : Nat) : Bool := s.portsUp && s.served && (s.port p).l0 && !(s.port p).d3hot
/-- A reset of one port (R377, R382, R422, R462): its configuration space and the requests in flight on it go. A mover's piece among them gets no completion any more, and ends by its time-out (R387; log 71). -/
def State.resetPort (s : State) (p : Nat) (l0 : Bool) : State :=
  let gone := (s.trans.reqs.filter (fun r => !r.done && (match r.target with | .host q _ => q == p | _ => false))).map (fun r => r.id)
  ((s.setPort p { s.port p with l0 := l0, d3hot := false, busMaster := false, bar2 := 38, discarded := gone }).spdmLost [p + 1]).mirrorCheck
/-- PORT_RESET: PERST#, hot reset or link-down; the port then trains again. -/
def execPortReset (port : Fin 2) (s : State) : Result := when s.portsUp s (s.resetPort port false)
/-- CONFIGURATION_WRITE: bus mastering, the power state and the BAR2 size, 1 GiB to 4 TiB. Leaving D3hot resets the port (R377). -/
def execConfigurationWrite (port : Fin 2) (busMaster d3hot : Bool) (bar2 : Nat) (s : State) : Result :=
  let h := s.port port
  if bar2 < 30 ∨ 42 < bar2 then .refused .malformedCommand
  else when (s.portsUp && h.l0) s
    (if h.d3hot && !d3hot then s.resetPort port true
     else (s.setPort port { h with busMaster := busMaster, d3hot := d3hot, bar2 := bar2 }).mirrorCheck)
/-- PCIE_LINK_UP: the port enters L0. -/
def execPcieLinkUp (port : Fin 2) (s : State) : Result :=
  when (s.portsUp && !(s.port port).l0) s (s.setPort port { s.port port with l0 := true })

/-! ### The memory aperture (R379) -/

/-- LPA of an offset of a port's BAR2. -/
def State.bar2Lpa (s : State) (p off : Nat) : Nat := s.dget 0x1110 (p + 1) + off
/-- Memory that a BAR2 access of n bytes reaches whole. -/
def bar2Reaches (a n : Nat) : Bool := decide (a + n ≤ 2 ^ 44) && memoryRange a n
/-- An access served by no memory is counted. -/
def State.bar2Refused (s : State) (p : Nat) : State := s.dadd 0x3110 (p + 1) 1
/-- A read through the aperture: all ones where nothing answers, EP set (status 1) where a sector is poisoned. -/
def State.bar2Read (s : State) (p off n : Nat) : State :=
  let a := s.bar2Lpa p off
  if s.boot.mode = .dim then s.emit (.completion p 0 (List.replicate n 0xFF))
  else if !bar2Reaches a n then (s.bar2Refused p).emit (.completion p 0 (List.replicate n 0xFF))
  else
    let s := (s.loftReads a n true).noteOne (2 * p)
    s.emit (.completion p (ofBool (s.poisonedAt a n).isSome) (s.read a n))
/-- BAR2_READ: up to 4,096 bytes, within 4 KiB and the aperture. -/
def execBar2Read (port : Fin 2) (offset : BitVec 64) (len : Nat) (s : State) : Result :=
  let o := offset.toNat
  if len = 0 ∨ 4096 < o % 4096 + len then .refused .malformedCommand
  else when (s.portAnswers port && decide (o + len ≤ 2 ^ (s.port port).bar2)) s (s.bar2Read port o len)

/-- A write through the aperture: discarded where nothing answers, and counted there or where a range refuses it (R56, R304, R360). -/
def State.bar2Write (s : State) (p off : Nat) (bs : Bytes) : State :=
  let a := s.bar2Lpa p off
  if s.boot.mode = .dim then s
  else if !bar2Reaches a bs.length then s.bar2Refused p
  else (s.arriveWrite noDie a bs true .hostPort p 0xFFFF 0xFFFFFFFF).noteOne (2 * p)
/-- BAR2_WRITE: up to 256 bytes, within 4 KiB and the aperture. -/
def execBar2Write (port : Fin 2) (offset : BitVec 64) (bytes : List Byte) (s : State) : Result :=
  let o := offset.toNat
  if bytes = [] ∨ 256 < bytes.length ∨ 4096 < o % 4096 + bytes.length then .refused .malformedCommand
  else when (s.portAnswers port && decide (o + bytes.length ≤ 2 ^ (s.port port).bar2)) s (s.bar2Write port o bytes)

end Sys2Proof.Machine
end

