-- ==== Sys2Proof/Machine/Registers.lean ====
section
/-! DEFINITION. The Object Dictionary (file 15, R390 to R400; the entry tables of every chapter): what each entry reads, how a write is checked and applied, the segment windows of BAR0, and the commands that are writes of one entry. -/
namespace Sys2Proof.Machine

/-! ### What entries read -/

/-- Code of LINK_STATE (R312). -/
def LinkSt.code : LinkSt → Nat
  | .down => 0 | .detect => 1 | .equalise => 2 | .identify => 3 | .active => 4 | .miswired => 5 | .fenced => 6
  | .ethTraining => 7 | .ethUp => 8 | .disabled => 9
/-- REPLAY_COUNTER of a key slot: after a start, its ceiling (R406). -/
def State.replay (s : State) (slot : Nat) : Nat :=
  match tfind s.prot.replay slot with
  | some n => n
  | none => tget 65536 s.fuse.ceilings slot
/-- OVERRUN_CLASSES of a die (R460). -/
def State.overrunClasses (s : State) (d : Nat) : Nat :=
  (s.clk.crossings.filter (fun p => p.2.overrun && (Config.crossing p.1).1 == d)).foldl (fun n p =>
    let (_, src, dst, _) := Config.crossing p.1
    n ||| 2 ^ src ||| 2 ^ dst) 0
/-- Rows of the entry tables with the rows of subindex 0 that no table names (R390). -/
def directoryRows : Option Nat → List Entry → List Entry
  | _, [] => []
  | prev, e :: t =>
    (if prev = some e.index ∨ e.lo = 0 then [] else (recordRow e.index).toList) ++ e :: directoryRows (some e.index) t
/-- Every implemented entry, index and subindex rising (R396). -/
def directory : List (Nat × Nat × Entry) :=
  ((directoryRows none entryTable).map (fun e => (rangeFrom e.lo (e.hi + 1)).map (fun sub => (e.index, sub, e)))).flatten
/-- Size of an entry in bytes; DIRECTORY and CROSSING_TABLE are as long as their records make them. -/
def entrySize (e : Entry) : Nat :=
  if e.index = 0x1008 then 64 * directory.length else if e.index = 0x2911 then 16 * Config.crossings else e.size
/-- A long entry is longer than 8 bytes (R391). -/
def Entry.isLong (e : Entry) : Bool := decide (8 < e.size) || e.index == 0x1008 || e.index == 0x2911
/-- The entry that SEG_SELECT of a port names. -/
def State.segEntry (s : State) (p : Nat) : Option (Nat × Nat × Entry) :=
  let v := (s.port p).segSelect.toNat
  (findEntry (field v 8 16) (field v 0 8)).map (fun e => (field v 8 16, field v 0 8, e))
/-- SEG_LENGTH. -/
def State.segLength (s : State) (p : Nat) : Nat := match s.segEntry p with | some x => entrySize x.2.2 | none => 0

/-- Short entries of 0x1000 to 0x1FFF that are views. -/
def State.viewBoot (s : State) (idx sub : Nat) : Nat :=
  let d := sub - 1
  match idx with
  | 0x1001 => s.fuse.serial.toNat
  | 0x1009 => directory.length
  | 0x1010 => (pget s.fuse.dieId d).toNat
  | 0x1011 => s.fuse.featureLevel
  | 0x1012 => s.fuse.pairing
  | 0x1100 => (Config.pciIds d).toNat
  | 0x1105 => if sub = 1 then s.host.p0.segSelect.toNat else s.segLength 0
  | 0x1106 => if sub = 1 then s.host.p1.segSelect.toNat else s.segLength 1
  | 0x1150 => leNat ((List.range 6).map Config.mgmtMac)
  | 0x1203 => s.fuse.svnFloor
  | 0x1204 => ofBool s.fuse.key0Revoked
  | 0x1211 => s.replay d
  | 0x1212 => s.prot.sessions.length
  | 0x1300 => if sub = 1 then s.boot.running else if sub = 2 then s.boot.preferred else s.boot.trial
  | 0x1301 => (s.fwSlot d).verify
  | 0x1302 => (s.fwSlot d).version
  | 0x1305 => s.boot.fwState
  | 0x1310 => if sub = 1 then s.boot.phase else if sub = 2 then s.boot.lastFailedPhase else if sub = 3 then s.boot.failedStarts else s.boot.bootCount
  | 0x1312 => if sub = 1 then s.leader else ofBool s.standbyReady
  | 0x1320 => s.boot.dimReason
  | _ => 0
/-- Short entries of 0x2000 to 0x5FFF that are views. -/
def State.viewUnits (s : State) (idx sub : Nat) : Nat :=
  let d := sub - 1
  match idx with
  | 0x2003 => ofBool s.fenceDrain
  | 0x2100 => s.sdt
  | 0x2101 => s.time.lock.code
  | 0x2113 => if sub = 0 then s.alm.state.code else s.alm.standby.code
  | 0x2118 => if sub = 1 then s.alm.iteration else if sub = 2 then s.almanacSlot else if sub = 3 then s.alm.conjIndex
      else if sub = 4 then s.stepNow else s.alm.activeBuf.code
  | 0x2123 => ofSigned 64 s.timeOffset
  | 0x2125 => s.time.parentLink
  | 0x2203 => pget s.fuse.retireReq d
  | 0x2204 => (pget s.fuse.spares d).length
  | 0x2610 => ofBool (s.trans.inval != [])
  | 0x2641 => s.trans.preempt.code
  | 0x2702 => ofBool s.fab.fenced
  | 0x2710 => (s.link d).state.code
  | 0x2711 => s.wiring d
  | 0x2750 => leNat ((List.range 6).map (fun b => Config.ethMac d b))
  | 0x2803 => s.power.supply.code
  | 0x2811 => if sub = 5 then s.supplyDemand else s.dget 0x2811 2
  | 0x2842 => Config.vFuse d + s.dget 0x2840 sub
  | 0x2901 => if sub = 1 then s.boot.lastCause else s.boot.priorCause
  | 0x2902 => s.clk.refSource
  | 0x2903 => pget s.clk.pll d
  | 0x2910 => s.overrunClasses d
  | 0x3601 => s.parksOut
  | 0x4000 => if sub = 1 then s.log.next else if sub = 2 then s.log.sinceReset else s.log.oldest
  | 0x5011 => if sub = 1 then s.log.coreTest else s.log.coreResult
  | _ => 0

/-- The number that a short entry holds. -/
def State.shortValue (s : State) (e : Entry) (sub : Nat) : Nat :=
  match e.store with
  | .command | .long => 0
  | .view => if e.index < 0x2000 then s.viewBoot e.index sub else s.viewUnits e.index sub
  | .plain =>
    match e.index with
    | 0x2720 => if sub = 0 then 36 else s.portMap (sub - 1)
    | 0x2721 => if sub = 0 then 36 else s.portMapStaged (sub - 1)
    | 0x2732 => if sub = 0 then 16 else s.group (sub - 1)
    | 0x2733 => if sub = 0 then 16 else s.groupStaged (sub - 1)
    | _ => s.dget e.index sub

/-- A DIRECTORY record without its reset value (R396). -/
def directoryHead (idx sub : Nat) (e : Entry) : Bytes :=
  natLe 2 idx ++ natLe 1 sub ++ natLe 1 e.type ++ natLe 1 (match e.access with | .const => 0 | .ro => 1 | .rw => 2 | .wo => 3 | .rwa => 4 | .rws => 5) ++
    natLe 1 (e.flags + (if e.isLong then 16 else 0)) ++ natLe 2 0 ++ natLe 4 (entrySize e) ++ natLe 4 0

/-- The certificates of CERT_CHAIN, the root first (R413). -/
def certificates : Bytes := (List.range Config.certLength).map Config.certChain
/-- Long entries that are constants of the module or of a table. -/
def State.longConst (s : State) (idx sub : Nat) : Bytes :=
  match idx with
  | 0x1002 => padTo 16 (textBytes "CQ-ST4-16L")
  | 0x1200 => (List.range 32).map Config.identityKey
  | 0x1201 => natLe 2 Config.certLength ++ padTo 4094 certificates
  | 0x1202 => fwKeyDigest (sub - 1)
  | 0x2201 => natLe 13 (pget s.fuse.good (sub - 1)).toNat
  | _ => []
/-- The value that an entry takes at package reset, as its table gives it (R325, R326, R348, R393): a constant its value, what a table leaves open zero (log 37). -/
def State.resetValue (s : State) (e : Entry) (sub : Nat) : Bytes :=
  let short := natLe e.size
  match e.access with
  | .const => if e.isLong then s.longConst e.index sub else short (s.shortValue e sub)
  | _ =>
    match e.index with
    | 0x2202 => ((pget s.fuse.logical (sub - 1)).map (natLe 1)).flatten
    | 0x2204 | 0x2750 => short (s.shortValue e sub)
    | 0x2720 | 0x2721 => short (defaultPortMap 1 1 1 0 (sub - 1))
    | 0x2730 | 0x2731 => (List.range 512).map (fun r => BitVec.ofNat 8 (defaultRoute 1 1 1 0 r))
    | 0x2732 | 0x2733 => short (groupOf (defaultPortMap 1 1 1 0) (sub - 1))
    | _ => if e.isLong then List.replicate (entrySize e) 0 else short e.reset
/-- Reset value in a DIRECTORY record: of a long entry its CRC-32C, zero when every byte is (R396). DIRECTORY, a view of the firmware image, holds zero for itself (log 37). -/
def State.directoryReset (s : State) (e : Entry) (sub : Nat) : Nat :=
  if e.isLong then
    (if e.index = 0x1008 then 0
     else let bs := s.resetValue e sub; if bs.all (fun b => b == 0) then 0 else crc32c bs)
  else leNat (s.resetValue e sub)
/-- The whole of DIRECTORY (R396). -/
def State.directoryBytes (s : State) : Bytes :=
  (directory.map (fun p =>
    let e := p.2.2
    directoryHead p.1 p.2.1 e ++ natLe 8 (s.directoryReset e p.2.1) ++ padTo 32 (textBytes e.name) ++ natLe 8 0)).flatten
/-- CROSSING_TABLE (R460). -/
def State.crossingBytes (s : State) : Bytes :=
  ((List.range Config.crossings).map (fun n =>
    let (die, src, dst, inst) := Config.crossing n
    let c := s.crossing n
    natLe 1 die ++ natLe 1 src ++ natLe 1 dst ++ natLe 1 (ofBool c.overrun + 2 * ofBool c.inReset + 4 * ofBool (fatalCrossing src dst)) ++
      natLe 2 inst ++ natLe 2 0 ++ natLe 4 c.count ++ natLe 4 0)).flatten
/-- LOG_RECORD: the record that LOG_SELECT names, all zero when it is not in the ring (R479). -/
def State.logRecord (s : State) : Bytes :=
  match s.log.ring.find? (fun r => r.seq == s.dget 0x4001 0) with
  | some r => if s.log.oldest ≤ r.seq then r.bytes else List.replicate 128 0
  | none => List.replicate 128 0
/-- A map of 384 cores, bit g for core g. -/
def coreMap (gs : List Nat) : Nat := gs.foldl (fun n g => n ||| 2 ^ g) 0
/-- Long entries. GATE_TABLE holds its counters gate by gate, the even parity first (DESIGN CHOICE, log 91). -/
def State.longValue (s : State) (e : Entry) (sub : Nat) : Bytes :=
  match e.index with
  | 0x1008 => s.directoryBytes
  | 0x1002 | 0x1200 | 0x1201 | 0x1202 | 0x2201 => s.longConst e.index sub
  | 0x2120 => s.lastAgreementBytes
  | 0x2124 => ((List.range 4096).map (fun g => natLe 4 (s.gate g false).toNat ++ natLe 4 (s.gate g true).toNat)).flatten
  | 0x2202 => ((pget s.fuse.logical (sub - 1)).map (natLe 1)).flatten
  | 0x2210 => (s.stallCounters.map (fun p => natLe 8 p.2)).flatten
  | 0x2730 => (List.range 512).map (fun r => BitVec.ofNat 8 (s.route r))
  | 0x2731 => s.routeStaged
  | 0x2911 => s.crossingBytes
  | 0x4002 => s.logRecord
  | 0x4003 => padTo 32768 (((s.log.ring.take 256).reverse.map LogRec.bytes).flatten)
  | 0x5012 => natLe 48 (coreMap s.log.coreFails)
  | _ => match e.store with | .command => List.replicate e.size 0 | _ => s.lget e.index sub

/-- Entries that behave as usual in Dim mode and are served before start-complete (R394, R423); none is flagged DIM_LIVE. -/
def dimServed (idx : Nat) : Bool := (decide (0x1000 ≤ idx) && decide (idx ≤ 0x13FF)) || (decide (0x4000 ≤ idx) && decide (idx ≤ 0x4FFF))
/-- The value of an entry in bytes; in Dim mode the entries of units that do not run read their reset value (R394). -/
def State.entryValue (s : State) (e : Entry) (sub : Nat) : Bytes :=
  if s.boot.mode = .dim ∧ !dimServed e.index then s.resetValue e sub
  else if e.isLong then s.longValue e sub
  else natLe e.size (s.shortValue e sub)

/-- A read of an entry: TRACKING_PEAK is cleared by it (R289). -/
def State.readEffect (s : State) (idx sub : Nat) : State :=
  if idx = 0x3600 ∧ sub ≠ 0 ∧ s.boot.mode ≠ .dim then s.dset idx sub 0 else s

/-! ### Authority and state of an access (R392, R394, R398, R404, R405) -/

/-- Role of a key slot (0 to 7): 0 empty, 1 OBSERVE, 2 OPERATE, 3 ADMIN. -/
def State.role (s : State) (slot : Nat) : Nat := leAt (s.lget 0x1210 (slot + 1)) 32 1
/-- Some slot holds an ADMIN key. -/
def State.hasAdmin (s : State) : Bool := (List.range 8).any (fun k => s.role k == 3)
/-- The entry lies in the security range. -/
def secureRange (idx : Nat) : Bool := decide (0x1200 ≤ idx) && decide (idx ≤ 0x12FF)
/-- A session that is open for a slot. -/
def State.sessionOpen (s : State) (id slot : Nat) : Bool := s.prot.sessions.any (fun x => x.id == id && x.slot.val == slot)
/-- Code of a write for want of authority, 0 when it has it (R392, R398, R404, R410). -/
def State.authority (s : State) (via : Via) (e : Entry) : Nat :=
  let provision := e.index == 0x1210 && !s.hasAdmin
  let rws := e.access == .rws
  match via with
  | .bar0 _ => if rws && !provision then 0x05 else 0
  | .unsigned => 0x05
  | .i3c => if provision then 0 else 0x05
  | .key slot session =>
    match s.role slot with
    | 3 => if rws || secureRange e.index then (match session with | some id => if s.sessionOpen id slot then 0 else 0x0C | none => 0x05) else 0
    | 2 => if rws || secureRange e.index then 0x0C else 0
    | 1 => 0x0C
    | _ => 0x05
/-- Code of an access to a unit that does not run: 0x0A before start-complete, 0x0D in Dim mode (R394, R423). -/
def State.unitCode (s : State) (idx : Nat) : Nat :=
  if dimServed idx then 0 else match s.boot.mode with | .starting => 0x0A | .dim => 0x0D | _ => 0
/-- BASE and SIZE of the buffer that is not active are RW, not RWA (R54). -/
def State.otherBuffer (s : State) (idx sub : Nat) : Option Buf :=
  if idx = 0x2110 ∧ sub ≠ 0 ∧ s.alm.activeBuf ≠ .a then some .a
  else if idx = 0x2111 ∧ sub ≠ 0 ∧ s.alm.activeBuf ≠ .b then some .b
  else none
/-- Code of a write before its value is looked at (R392, R394). -/
def State.writeCode (s : State) (via : Via) (e : Entry) (sub : Nat) : Nat :=
  let a := s.authority via e
  let u := s.unitCode e.index
  if a ≠ 0 then a
  else if u ≠ 0 then u
  else match e.access with
    | .const | .ro => 0x02
    | .rwa => if s.rwaLocked && (s.otherBuffer e.index sub).isNone then 0x04 else 0
    | _ => 0

/-! ### Long entries: checks and effects -/

/-- Slate tier, aligned, with n bytes of it inside (R495). -/
def placed (base align n : Nat) : Bool := decide (base % align = 0) && decide (base + n ≤ 0x12000000000)
/-- A translation that the package holds maps an LPA of its own with EAVES_ALLOC 1: the pages that the device knows (R358; log 86). -/
def State.eavesPage (s : State) (lpa : Nat) : Bool :=
  let maps := fun (e : TlbEntry) =>
    let l := e.leaf.toNat
    (!leafRemote l || leafRank l == s.rank) && decide (entryAddr l ≤ lpa) && decide (lpa < entryAddr l + e.size) && bit (leafAttr l) 1
  (plist s.trans.dieTlb).any (fun l => l.any maps) || s.cores.any (fun p => p.2.tlb.any maps)
/-- The rules of a shard guard record (R358). -/
def State.guardOk (s : State) (g : Nat) (bs : Bytes) : Bool :=
  let (base, limit, stamp, _, _, en) := guardFields bs
  let tier := fun (a n : Nat) => decide (a + n ≤ 0x12000000000) || (decide (0x20000000000 ≤ a) && decide (a + n ≤ 0x30000000000))
  let others := (s.guardList.filter (fun k => k != g)).map (fun k => guardFields (s.guard k))
  decide (base % 256 = 0) && decide (limit % 256 = 0) && decide (base ≤ limit) && tier base (limit - base) &&
    decide (stamp % 32 = 0) && decide (stamp + 32 ≤ 0x12000000000) && !s.eavesPage stamp &&
    !(en && overlaps stamp 32 base (limit - base)) &&
    others.all (fun o => let (b, l, st, _, _, on) := o; !(on && overlaps stamp 32 b (l - b)) && !(on && en && overlaps st 32 base (limit - base)))
/-- Reserved bits cleared (R10): of a host window, of a guard, of a key. -/
def cleanLong (idx : Nat) (bs : Bytes) : Bytes :=
  match idx with
  | 0x1130 => natLe 16 (leNat bs / 2 ^ 32 * 2 ^ 32 + leNat bs % 4)
  | 0x2010 => natLe 24 (leNat bs / 2 ^ 12 * 2 ^ 12 + leNat bs % 2)
  | 0x1210 => padTo 40 (bs.take 33)
  | _ => bs
/-- An ADMIN key is left once a slot has taken a value (R404). -/
def State.adminLeft (s : State) (slot : Nat) (bs : Bytes) : Bool :=
  (List.range 8).any (fun k => (if k = slot then leAt bs 32 1 else s.role k) == 3)
/-- Code of a long value under its entry's own rules. -/
def State.longCheck (s : State) (idx sub : Nat) (bs : Bytes) : Nat :=
  match idx with
  | 0x1130 => if field (leNat bs) 64 16 = 0 then 0 else 0x06
  | 0x1140 | 0x1141 => if s.dget idx 3 = 1 then 0x09 else 0
  | 0x1210 => if leAt bs 32 1 ≤ 3 ∧ s.adminLeft (sub - 1) bs then 0 else 0x06
  | 0x1304 =>
    let off := s.dget 0x1304 1
    if s.rwaLocked then 0x04 else if s.boot.fwState = 1 then 0x09
    else if 0x04000000 ≤ off ∨ (off ≠ 0 ∧ (s.fwSlot s.targetSlot).bytes.any (fun c => c.1 == off)) then 0x06 else 0
  | 0x2010 => if s.guardOk (sub - 1) bs then 0 else 0x06
  | 0x2731 => if bs.all (fun b => decide (b.toNat < 16) || b.toNat == 255) then 0 else 0x06
  | _ => 0
/-- The key of a slot replaced (R404 to R406): its counter restarts, and its sessions, snapshots and staging buffers end. -/
def State.setKey (s : State) (slot : Nat) (bs : Bytes) : State :=
  let s := s.lset 0x1210 (slot + 1) bs
  let gone := (s.prot.sessions.filter (fun x => x.slot.val == slot)).map (fun x => x.id)
  let s : State := { s with
    prot := { s.prot with
      replay := tset s.prot.replay slot 0
      sessions := s.prot.sessions.filter (fun x => x.slot.val != slot)
      segs := s.prot.segs.filter (fun g => g.holder != 0x100000000 + slot && !decide (g.holder ∈ gone)) }
    fuse := { s.fuse with ceilings := tset s.fuse.ceilings slot 65536 } }
  s.measureKeys
/-- A long value applied in one indivisible access. -/
def State.longApply (s : State) (idx sub : Nat) (bs : Bytes) : State :=
  match idx with
  | 0x1140 => ({ s with host := { s.host with p0 := { s.host.p0 with mbox := some bs } } } : State).dset 0x1140 3 1
  | 0x1141 => ({ s with host := { s.host with p1 := { s.host.p1 with mbox := some bs } } } : State).dset 0x1141 3 1
  | 0x1210 => s.setKey (sub - 1) bs
  | 0x1220 => s.attest bs
  | 0x1304 => s.takeChunk bs
  | 0x2010 =>
    let g := sub - 1
    let s := s.lset 0x2010 sub bs
    ({ s with cache := { s.cache with versions := tset s.cache.versions g (tget 0 s.cache.versions g + 1) } } : State).rewriteStamp g
  | 0x2723 => (s.lset idx sub bs).dropStale
  | _ => s.lset idx sub bs
/-- A write of a long entry as a whole. -/
def State.writeLong (s : State) (via : Via) (e : Entry) (sub : Nat) (bs : Bytes) : State × Nat :=
  let c := s.writeCode via e sub
  let bs' := cleanLong e.index bs
  if c ≠ 0 then (s, c)
  else if bs.length ≠ e.size then (s, 0x06)
  else match s.longCheck e.index sub bs' with
    | 0 => (s.longApply e.index sub bs', 0)
    | c => (s, c)

/-! ### The segment windows (R400) -/

/-- SNAPSHOT. -/
def State.segSnapshot (s : State) (p : Nat) : State × Nat :=
  match s.segEntry p with
  | none => (s, 0x08)
  | some (idx, sub, e) =>
    let u := s.unitCode idx
    if u = 0x0A then (s, u)
    else ((s.readEffect idx sub).setPort p { s.port p with segSnap := some (s.entryValue e sub), segLost := false }, 0)
/-- COMMIT: the staged value checked and applied; a refused one stays staged, and the first access after a loss is refused (R395). -/
def State.segCommit (s : State) (p : Nat) : State × Nat :=
  let h := s.port p
  if h.stageLost then (s.setPort p { h with stageLost := false }, 0x09)
  else match s.segEntry p, h.segStage with
    | some (_, sub, e), some bs =>
      let (t, c) := s.writeLong (.bar0 (if p = 0 then 0 else 1)) e sub bs
      if c = 0 then (t.setPort p { t.port p with segStage := none }, 0) else (t, c)
    | _, _ => (s, 0x08)
/-- DISCARD: refused once after a loss (R395). -/
def State.segDiscard (s : State) (p : Nat) : State × Nat :=
  let h := s.port p
  (s.setPort p { h with segStage := none, stageLost := false }, if h.stageLost then 0x09 else 0)
/-- A write to SEG_COMMAND. -/
def State.segCommand (s : State) (p v : Nat) : State × Nat :=
  match v with
  | 1 => s.segSnapshot p
  | 2 => s.segCommit p
  | 3 => s.segDiscard p
  | _ => (s, 0x06)
/-- A write to SEG_SELECT: a long entry; the port's snapshot and staging buffer go. -/
def State.segChoose (s : State) (p v : Nat) : State × Nat :=
  match findEntry (field v 8 16) (field v 0 8) with
  | none => (s, 0x01)
  | some e =>
    if e.isLong then
      (s.setPort p { s.port p with segSelect := BitVec.ofNat 32 (v % 2 ^ 24), segSnap := none, segStage := none, segLost := false, stageLost := false }, 0)
    else (s, 0x07)
/-- A write of a port's window at offset w: 4 or 8 bytes, aligned, staged in the entry's value. -/
def State.segWrite (s : State) (p w : Nat) (bs : Bytes) : State × Nat :=
  let h := s.port p
  let n := bs.length
  if !((n == 4 || n == 8) && decide (w % n = 0) && decide (w + n ≤ 0x400000)) then (s, 0x07)
  else if h.stageLost then (s.setPort p { h with stageLost := false }, 0x09)
  else match s.segEntry p with
    | none => (s, 0x08)
    | some (_, sub, e) =>
      let at_ := s.dget (0x1105 + p) 4 + w
      if entrySize e < at_ + n then (s, 0x08)
      else
        let old := h.segStage.getD (s.entryValue e sub)
        (s.setPort p { h with segStage := some (patch old at_ bs) }, 0)
/-- A read of n bytes of a port's window at offset w, from its snapshot: zeros beyond the entry's end, with code 0x08 (R395, R400). -/
def State.segView (s : State) (p w n : Nat) : State × Nat × Bytes :=
  let h := s.port p
  let none_ := List.replicate n (0 : Byte)
  if !((n == 4 || n == 8) && decide (w % n = 0)) then (s, 0x07, none_)
  else if h.segLost then (s.setPort p { h with segLost := false }, 0x09, none_)
  else match h.segSnap with
    | none => (s, 0x08, none_)
    | some bs =>
      let at_ := s.dget (0x1105 + p) 4 + w
      (s, if bs.length < at_ + n then 0x08 else 0, slice bs at_ n)

/-! ### Short entries: checks and effects -/

/-- The ring of telemetry at a base with a size, and the base itself, lie in the Slate tier (R495). -/
def ringPlaced (base units : Nat) : Bool := placed base 65536 (units * 65536) && decide (base < 0x12000000000)
/-- Code of a staged port map record (R324, R325). -/
def portMapCode (l v : Nat) : Nat :=
  let role := pmRole v
  let peer := pmPeerLink v
  if 0x13 < role ∨ (role = 0x13 ∧ l % 9 ≠ 8) ∨ (36 ≤ peer ∧ peer ≠ 0x3F) then 0x06 else 0
/-- Code of a value of 0x1000 to 0x1FFF under its entry's own rules. -/
def State.bootCheck (s : State) (idx sub v : Nat) : Nat :=
  let bad := fun (b : Bool) => if b then 0x06 else 0
  match idx with
  | 0x1105 | 0x1106 => bad (sub == 4 && decide (v % 0x400000 ≠ 0))
  | 0x1110 => bad (decide (v % 2 ^ (s.port (sub - 1)).bar2 ≠ 0))
  | 0x1121 => bad ((sub == 1 && decide (v % 4096 ≠ 0)) || (sub == 2 && decide (0 < v) && decide (v < 8)))
  | 0x1203 => bad (decide (v ≤ s.fuse.svnFloor) || s.boot.running == 255 || decide (headerSvn (s.fwHeader s.boot.running) < v))
  | 0x1204 => bad (if v = 0 then s.fuse.key0Revoked else s.boot.running == 255 || headerSigner (s.fwHeader s.boot.running) != 1)
  | 0x1303 =>
    if s.rwaLocked then 0x04 else if s.boot.fwState = 1 then 0x09 else if v = 0 ∨ 3 < v then 0x06
    else if v = 2 ∧ (s.fwSlot s.targetSlot).verify ≠ 0x80 then 0x0A else 0
  | 0x1304 => bad (decide (v % 1024 ≠ 0) || decide (0x04000000 ≤ v))
  | 0x1321 => if s.boot.mode ≠ .dim then 0x0A else bad (v != 1)
  | _ => 0
/-- Code of a value of 0x2000 to 0x25FF. -/
def State.jobCheck (s : State) (idx sub v : Nat) : Nat :=
  let bad := fun (b : Bool) => if b then 0x06 else 0
  match idx with
  | 0x2001 => bad (v != 0 && v == s.dget 0x2302 4)
  | 0x2302 => bad (sub == 4 && v != 0 && v == s.dget 0x2001 0)
  | 0x2110 | 0x2111 =>
    match s.otherBuffer idx sub with
    | some buf => if s.alm.armCheck == some buf || s.alm.stageCheck == some buf || s.alm.standby == .staged then 0x0A else 0
    | none => 0
  | 0x2112 =>
    let permits := match v with
      | 1 | 2 => s.armPermits
      | 3 => s.stagePermits .a
      | 4 => s.stagePermits .b
      | 5 => s.unstagePermits
      | _ => s.disarmPermits
    if v = 0 ∨ 6 < v then 0x06 else if permits then 0 else 0x0A
  | 0x2116 => if s.alm.state ≠ .paused then 0x0A else bad (decide (v % 2048 ≠ 0) || isDusk (slotOf v) || decide (v < s.sdt + 2048))
  | 0x2203 => bad (pget s.fuse.spares (sub - 1) == [])
  | 0x2303 => bad (field v 23 8 == 255 && field v 0 23 != 0)
  | _ => 0
/-- Code of a value of 0x2600 to 0x5FFF. -/
def State.unitCheck (s : State) (idx sub v : Nat) : Nat :=
  let bad := fun (b : Bool) => if b then 0x06 else 0
  match idx with
  | 0x2600 => bad (v != 0 && !placed v 32768 32768)
  | 0x2610 => bad (sub == 3 && (v == 0 || decide (3 < v)))
  | 0x2620 => bad (v != 0 && !placed v 65536 65536)
  | 0x2640 =>
    if v = 0 ∨ 3 < v then 0x06
    else if !s.prePermits v ∨ (v = 2 ∧ !placed (s.dget 0x2642 0) 65536 0x60000000) then 0x0A else 0
  | 0x2642 => bad (v != 0 && !placed v 65536 0x6000000)
  | 0x2700 => bad (sub == 4 && decide (s.domainSize 0 * s.domainSize 1 * s.domainSize 2 ≤ v))
  | 0x2721 => portMapCode (sub - 1) v
  | 0x2740 => if s.running then 0x0A else bad (v != 1)
  | 0x2900 => if sub = 1 then (if s.rwaLocked || s.trans.preempt != .running then 0x0A else bad (v != 1)) else 0
  | 0x2912 => bad (v != 1)
  | 0x3030 => bad ((sub == 1 && v != 0 && !ringPlaced v (s.dget 0x3030 2)) || (sub == 2 && !ringPlaced (s.dget 0x3030 1) v))
  | 0x5000 => if v = 1 ∧ s.rwaLocked then 0x0A else 0
  | 0x5010 => if s.trans.preempt ≠ .saved then 0x0A else bad (decide (384 ≤ v) && v != 0xFFFF)
  | _ => 0
/-- Code of a short value: its range, then its entry's own rules. -/
def State.shortCheck (s : State) (e : Entry) (sub v : Nat) : Nat :=
  if v < e.min ∨ e.max < v then 0x06
  else if e.index < 0x2000 then s.bootCheck e.index sub v
  else if e.index < 0x2600 then s.jobCheck e.index sub v
  else s.unitCheck e.index sub v

/-- FW_CONTROL (R418). -/
def State.fwControl (s : State) (v : Nat) : State :=
  match v with
  | 1 => { s with boot := { s.boot with fwState := 3 } }
  | 2 => { s with boot := { s.boot with trial := s.targetSlot } }
  | _ => { s with boot := { s.boot with trial := 255 } }
/-- A retirement recorded for the next start; a core already named changes nothing (R27, R28). -/
def State.requestRetire (s : State) (d n : Nat) : State :=
  { s with fuse := { s.fuse with pendingRetire := pset s.fuse.pendingRetire d (addNew n (pget s.fuse.pendingRetire d)), retireReq := pset s.fuse.retireReq d n } }
/-- ALMANAC_CONTROL (R54). -/
def State.almanacControl (s : State) (v : Nat) : State :=
  match v with
  | 1 => s.arm .a
  | 2 => s.arm .b
  | 3 => s.stage .a
  | 4 => s.stage .b
  | 5 => s.dropStaged
  | _ => s.disarm
/-- PREEMPT_CONTROL (R301). -/
def State.preControl (s : State) (v : Nat) : State :=
  match v with
  | 1 => s.preStop
  | 2 => s.preSave
  | _ => s.preResume
/-- The telemetry ring has moved: its next record starts it anew (log 64). -/
def State.teleMoved (s : State) : State := { s with log := { s.log with teleNext := 0 } }
/-- A short value applied: entries that command something, and those whose value another unit follows. -/
def State.shortApply (s : State) (e : Entry) (sub v : Nat) : State :=
  let t := s.dset e.index sub v
  match e.index with
  | 0x1121 => (if sub = 2 then ({ t.dset 0x1121 4 0 with host := { t.host with mirrorCount := 0 } } : State) else t).mirrorCheck
  | 0x1124 => s.bumpGate (field v 0 12) (bit v 12)
  | 0x1150 => t.measureKeys
  | 0x1203 => { s with fuse := { s.fuse with svnFloor := v } }
  | 0x1204 => { s with fuse := { s.fuse with key0Revoked := s.fuse.key0Revoked || v == 1 } }
  | 0x1303 => s.fwControl v
  | 0x1321 => ({ s with boot := { s.boot with failedStarts := 0 } } : State).packageReset 0x07
  | 0x2102 => t.reviewLock
  | 0x2112 => s.almanacControl v
  | 0x2116 => { t with alm := { t.alm with resumeAt := some (BitVec.ofNat 64 v) } }
  | 0x2203 => s.requestRetire (sub - 1) v
  | 0x2610 => if sub = 3 then s.invalidate v else t
  | 0x2621 => s.parkRelease v
  | 0x2640 => s.preControl v
  | 0x2700 => t.recomputeStaged.reviewLock
  | 0x2701 => t.unfence
  | 0x2721 => s.dset 0x2721 sub (v / 256 * 256)
  | 0x2740 => s.commitFabric.reviewLock
  | 0x2811 => t.reviewDemand
  | 0x2900 => if sub = 1 then s.requestReset 0x08 else if v = 1 then s.requestReset 0x09 else s
  | 0x2912 => s.clearOverruns
  | 0x3030 => if sub ≤ 2 then t.teleMoved else t
  | 0x5010 => s.startTest v
  | _ => t
/-- The segment entries of the other port: a port's accesses do not touch them (R398; log 99). -/
def otherWindow (via : Via) (idx : Nat) : Bool :=
  match via with
  | .bar0 p => idx == 0x1106 - p.val
  | _ => false
/-- A write of a short entry. -/
def State.writeShort (s : State) (via : Via) (e : Entry) (sub : Nat) (bs : Bytes) : State × Nat :=
  let c := s.writeCode via e sub
  let v := leNat bs
  if c ≠ 0 then (s, c)
  else if bs.length ≠ e.size ∨ otherWindow via e.index then (s, 0x07)
  else match s.shortCheck e sub v with
    | 0 =>
      if (e.index = 0x1105 ∨ e.index = 0x1106) ∧ sub = 1 then s.segChoose (e.index - 0x1105) v
      else if (e.index = 0x1105 ∨ e.index = 0x1106) ∧ sub = 2 then s.segCommand (e.index - 0x1105) v
      else (s.shortApply e sub v, 0)
    | c => (s, c)

/-- A write of an entry by index and subindex: the new state and the abort code (R390 to R394). -/
def State.writeEntry (s : State) (via : Via) (idx sub : Nat) (bs : Bytes) : State × Nat :=
  match findEntry idx sub with
  | none => (s, 0x01)
  | some e => if e.isLong then s.writeLong via e sub bs else s.writeShort via e sub bs

/-! ### Accesses (R394, R398, R399) -/

/-- The path can reach the dictionary now. -/
def State.viaMay (s : State) (via : Via) : Bool :=
  match via with
  | .bar0 p => s.portAnswers p
  | _ => s.power.hkUp && !s.boot.inReset && s.served && (s.boot.mode != .starting || decide (3 ≤ s.boot.phase))
/-- What a path gets: BAR0 records a refused access in LAST_ACCESS_STATUS (R399), any other path the abort code. -/
def State.answerVia (s : State) (via : Via) (code idx sub : Nat) : State :=
  match via with
  | .bar0 p => if code = 0 then s else s.dset 0x1101 (p.val + 1) (code * 2 ^ 24 + idx % 65536 * 256 + sub % 256)
  | _ => s.emit (.status code)
/-- An access given by a path, with its answer; a module without power answers nothing. -/
def State.accessed (s : State) (via : Via) (idx sub : Nat) (r : State × Nat) : Result :=
  if !s.power.hkUp then .next s
  else when (s.viaMay via) s (r.1.answerVia via r.2 idx sub)
/-- A write of bytes. -/
def State.access (s : State) (via : Via) (idx sub : Nat) (bs : Bytes) : Result := s.accessed via idx sub (s.writeEntry via idx sub bs)
/-- A write of a number to a short entry; a number that is too wide, or a long entry, lacks the required form (R398). -/
def State.regWrite (s : State) (via : Via) (idx sub v : Nat) : Result :=
  match findEntry idx sub with
  | none => s.accessed via idx sub (s, 0x01)
  | some e => if e.isLong || decide (2 ^ (8 * e.size) ≤ v) then s.accessed via idx sub (s, 0x07) else s.access via idx sub (natLe e.size v)

/-- A read of an entry by a path: the new state, the abort code and the value (R390, R392, R394, R404, R410). -/
def State.readEntry (s : State) (via : Via) (idx sub : Nat) : State × Nat × Bytes :=
  match findEntry idx sub with
  | none => (s, 0x01, [])
  | some e =>
    let allowed := match via with
      | .bar0 _ => 0
      | .key slot _ => if s.role slot = 0 then 0x05 else 0
      | .unsigned => if bit e.flags 1 then 0 else 0x05
      | .i3c => if bit e.flags 2 then 0 else 0x01
    if allowed ≠ 0 then (s, allowed, [])
    else if s.unitCode idx = 0x0A then (s, 0x0A, [])
    else (s.readEffect idx sub, 0, s.entryValue e sub)

/-! ### BAR0 (R378, R398 to R400) -/

/-- What an offset of BAR0 names for a port. -/
inductive Bar0Place where
  /-- a byte of the slot of an entry -/
  | slot (index sub byte : Nat)
  /-- an offset of the port's own segment window -/
  | window (offset : Nat)
  /-- the other port's segment window -/
  | foreign
  deriving DecidableEq, Repr

/-- Offset of the slot of an entry (R378). -/
def slotOffset (idx sub : Nat) : Nat := (idx - 0x1000) <<< 11 ||| sub <<< 3
/-- The place of an offset of BAR0 (R378, R398). -/
def bar0Place (p o : Nat) : Bar0Place :=
  if o < 0x7800000 then .slot (0x1000 + field o 11 16) (field o 3 8) (field o 0 3)
  else if field (o - 0x7800000) 22 1 = p then .window (field o 0 22)
  else .foreign

/-- The 8 bytes that the slot of an entry shows: a long entry's size; a short value, an integer sign-extended (R398, R400). -/
def slotValue (e : Entry) (bs : Bytes) : Bytes :=
  if e.isLong then natLe 8 (entrySize e)
  else if e.type / 16 = 2 then natLe 8 (ofSigned 64 (toSigned (8 * e.size) (leNat bs)))
  else padTo 8 bs
/-- A read of n bytes from byte `at_` of an entry's slot: the whole or a half; a refused one returns zero (R398). -/
def State.slotRead (s : State) (p : Fin 2) (idx sub at_ n : Nat) : State × Nat × Bytes :=
  let none_ := List.replicate n (0 : Byte)
  match findEntry idx sub with
  | none => (s, 0x01, none_)
  | some e =>
    if !((n == 8 && at_ == 0) || (n == 4 && at_ % 4 == 0)) then (s, 0x07, none_)
    else if e.isLong then (if s.unitCode idx = 0x0A then (s, 0x0A, none_) else (s, 0, slice (slotValue e []) at_ n))
    else match s.readEntry (.bar0 p) idx sub with
      | (t, 0, bs) => (t, 0, slice (slotValue e bs) at_ n)
      | (t, code, _) => (t, code, none_)
/-- A write of bytes from byte `at_` of an entry's slot: the required form covers the entry in one aligned access, with zeros behind it (R398, R400). -/
def State.slotWrite (s : State) (p : Fin 2) (idx sub at_ : Nat) (bs : Bytes) : State × Nat :=
  match findEntry idx sub with
  | none => (s, 0x01)
  | some e =>
    let form := at_ == 0 && decide (e.size ≤ bs.length) && (bs.length == 8 || bs.length == 4) && (bs.drop e.size).all (fun b => b == 0)
    if e.isLong || !form then (s, 0x07) else s.writeEntry (.bar0 p) idx sub (bs.take e.size)

/-- The entry that a BAR0 access concerns: that of the slot, or the one selected in the port's window (R399; log 99). -/
def State.bar0Entry (s : State) (p : Nat) : Bar0Place → Nat × Nat
  | .slot idx sub _ => (idx, sub)
  | _ => let v := (s.port p).segSelect.toNat; (field v 8 16, field v 0 8)
/-- A memory access that lies in BAR0 and that a port accepts: within 4 KiB and the 128 MiB (R376, R378). -/
def bar0Fits (o n most : Nat) : Bool := decide (0 < n) && decide (n ≤ most) && decide (o % 4096 + n ≤ 4096) && decide (o < 0x8000000)
/-- A write of bytes at an offset of BAR0. -/
def State.bar0Write (s : State) (p : Fin 2) (o : Nat) (bs : Bytes) : Result :=
  let place := bar0Place p o
  let x := s.bar0Entry p place
  if !bar0Fits o bs.length 256 then .refused .malformedCommand
  else s.accessed (.bar0 p) x.1 x.2 (match place with
    | .slot idx sub at_ => s.slotWrite p idx sub at_ bs
    | .window w => s.segWrite p w bs
    | .foreign => (s, 0x07))
/-- A read of n bytes at an offset of BAR0, with its completion. -/
def State.bar0Read (s : State) (p : Fin 2) (o n : Nat) : Result :=
  let place := bar0Place p o
  let x := s.bar0Entry p place
  let (t, code, bs) := match place with
    | .slot idx sub at_ => s.slotRead p idx sub at_ n
    | .window w => s.segView p w n
    | .foreign => (s, 0x07, List.replicate n 0)
  if !bar0Fits o n 4096 then .refused .malformedCommand
  else s.accessed (.bar0 p) x.1 x.2 (t.emit (.completion p 0 bs), code)

/-! ### The commands that write one entry -/

/-- REGISTER_WRITE: of an entry by name, or of bytes from a byte of its slot on in a port's BAR0. -/
def execRegisterWrite (via : Via) (index : BitVec 16) (sub : BitVec 8) (value : RegValue) (s : State) : Result :=
  match via, value with
  | _, .whole v => s.regWrite via index.toNat sub.toNat v
  | .bar0 port, .bytes at_ bs => s.bar0Write port (barOffset index sub at_) bs
  | _, .bytes _ _ => .refused .malformedCommand
/-- ARM_A (R54). -/
def execArmA (via : Via) (s : State) : Result := s.regWrite via 0x2112 0 1
/-- ARM_B (R54). -/
def execArmB (via : Via) (s : State) : Result := s.regWrite via 0x2112 0 2
/-- STAGE_A (R54). -/
def execStageA (via : Via) (s : State) : Result := s.regWrite via 0x2112 0 3
/-- STAGE_B (R54). -/
def execStageB (via : Via) (s : State) : Result := s.regWrite via 0x2112 0 4
/-- UNSTAGE (R54). -/
def execUnstage (via : Via) (s : State) : Result := s.regWrite via 0x2112 0 5
/-- DISARM (R54). -/
def execDisarm (via : Via) (s : State) : Result := s.regWrite via 0x2112 0 6
/-- RESUME_SDT_WRITE (R68). -/
def execResumeSdtWrite (via : Via) (value : BitVec 64) (s : State) : Result := s.regWrite via 0x2116 0 value.toNat
/-- PARK_RELEASE (R298). -/
def execParkRelease (via : Via) (value : BitVec 64) (s : State) : Result :=
  if bit value.toNat 32 then .refused .malformedCommand else s.regWrite via 0x2621 0 value.toNat
/-- PARK_ABANDON (R298). -/
def execParkAbandon (via : Via) (value : BitVec 64) (s : State) : Result :=
  if bit value.toNat 32 then s.regWrite via 0x2621 0 value.toNat else .refused .malformedCommand
/-- INVAL_RANGE (R288). -/
def execInvalRange (via : Via) (s : State) : Result := s.regWrite via 0x2610 3 1
/-- INVAL_ASID (R288). -/
def execInvalAsid (via : Via) (s : State) : Result := s.regWrite via 0x2610 3 2
/-- INVAL_ALL (R288). -/
def execInvalAll (via : Via) (s : State) : Result := s.regWrite via 0x2610 3 3
/-- STOP (R301). -/
def execStop (via : Via) (s : State) : Result := s.regWrite via 0x2640 0 1
/-- SAVE (R301). -/
def execSave (via : Via) (s : State) : Result := s.regWrite via 0x2640 0 2
/-- RESUME (R301). -/
def execResume (via : Via) (s : State) : Result := s.regWrite via 0x2640 0 3
/-- FABRIC_COMMIT (R328). -/
def execFabricCommit (via : Via) (s : State) : Result := s.regWrite via 0x2740 0 1
/-- DOMAIN_GEOMETRY_WRITE (R323, R325). -/
def execDomainGeometryWrite (via : Via) (sub : Fin 256) (value : Nat) (s : State) : Result := s.regWrite via 0x2700 sub.val value
/-- INCARNATION_WRITE (R330, R332). -/
def execIncarnationWrite (via : Via) (value : Nat) (s : State) : Result := s.regWrite via 0x2701 0 value
/-- MIRROR_PERIOD_WRITE (R382). -/
def execMirrorPeriodWrite (via : Via) (value : Nat) (s : State) : Result := s.regWrite via 0x1121 2 value
/-- HOST_GATE_INC (R384). -/
def execHostGateInc (via : Via) (value : Nat) (s : State) : Result := s.regWrite via 0x1124 0 value
/-- DIM_EXIT (R429). -/
def execDimExit (via : Via) (value : Nat) (s : State) : Result := s.regWrite via 0x1321 0 value
/-- VERIFY_TARGET (R418). -/
def execVerifyTarget (via : Via) (s : State) : Result := s.regWrite via 0x1303 0 1
/-- TRIAL_TARGET (R418). -/
def execTrialTarget (via : Via) (s : State) : Result := s.regWrite via 0x1303 0 2
/-- CANCEL_TRIAL (R418). -/
def execCancelTrial (via : Via) (s : State) : Result := s.regWrite via 0x1303 0 3
/-- SVN_FLOOR_WRITE (R416). -/
def execSvnFloorWrite (via : Via) (value : Nat) (s : State) : Result := s.regWrite via 0x1203 0 value
/-- FW_KEY0_REVOKE (R416). -/
def execFwKey0Revoke (via : Via) (value : Nat) (s : State) : Result := s.regWrite via 0x1204 0 value
/-- CORE_RETIRE_REQUEST (R27, R28). -/
def execCoreRetireRequest (via : Via) (die : Fin 4) (value : Nat) (s : State) : Result := s.regWrite via 0x2203 (die.val + 1) value
/-- OVERRUN_CLEAR (R460). -/
def execOverrunClear (via : Via) (value : Nat) (s : State) : Result := s.regWrite via 0x2912 0 value
/-- RESET_REQUEST (R464). -/
def execResetRequest (via : Via) (value : Nat) (s : State) : Result := s.regWrite via 0x2900 1 value
/-- RESET_FORCE (R464). -/
def execResetForce (via : Via) (value : Nat) (s : State) : Result := s.regWrite via 0x2900 2 value
/-- CORE_TEST (R482). -/
def execCoreTest (via : Via) (value : Nat) (s : State) : Result := s.regWrite via 0x5010 0 value
/-- TEST_ACCESS_WRITE (R481). -/
def execTestAccessWrite (via : Via) (value : Nat) (s : State) : Result := s.regWrite via 0x5000 0 value
/-- FW_CHUNK (R418). -/
def execFwChunk (via : Via) (bytes : List Byte) (s : State) : Result := s.access via 0x1304 2 bytes
/-- ATTEST_NONCE (R421). -/
def execAttestNonce (via : Via) (nonce : List Byte) (s : State) : Result := s.access via 0x1220 0 nonce
/-- OPERATOR_KEY_WRITE (R404). -/
def execOperatorKeyWrite (via : Via) (slot : Fin 8) (value : List Byte) (s : State) : Result := s.access via 0x1210 (slot.val + 1) value
/-- SHARD_GUARD_WRITE (R358). -/
def execShardGuardWrite (via : Via) (guard : Fin 64) (value : List Byte) (s : State) : Result := s.access via 0x2010 (guard.val + 1) value

/-- SEG_SELECT (R400). -/
def execSegSelect (port : Fin 2) (value : BitVec 32) (s : State) : Result := s.regWrite (.bar0 port) (0x1105 + port.val) 1 value.toNat
/-- SNAPSHOT (R400). -/
def execSegSnapshot (port : Fin 2) (s : State) : Result := s.regWrite (.bar0 port) (0x1105 + port.val) 2 1
/-- COMMIT (R400). -/
def execSegCommit (port : Fin 2) (s : State) : Result := s.regWrite (.bar0 port) (0x1105 + port.val) 2 2
/-- DISCARD (R400). -/
def execSegDiscard (port : Fin 2) (s : State) : Result := s.regWrite (.bar0 port) (0x1105 + port.val) 2 3
/-- SEG_WINDOW_WRITE: a refusal names the selected entry (R399, R400). -/
def execSegWindowWrite (port : Fin 2) (offset : Nat) (bytes : List Byte) (s : State) : Result :=
  let v := (s.port port).segSelect.toNat
  s.accessed (.bar0 port) (field v 8 16) (field v 0 8) (s.segWrite port offset bytes)

/-! ### Reads -/

/-- TRACKING_PEAK_READ: of the entry by name (R289), or any read of bytes at an offset of BAR0 (log 99). -/
def execTrackingPeakRead (via : Via) (access : RegRead) (s : State) : Result :=
  match via, access with
  | _, .peak die =>
    let (t, code, bs) := s.readEntry via 0x3600 (die.val + 1)
    s.accessed via 0x3600 (die.val + 1) (if code = 0 then t.emit (.value (leNat bs)) else t, code)
  | .bar0 port, .bytes offset len => s.bar0Read port offset len
  | _, .bytes _ _ => .refused .malformedCommand

end Sys2Proof.Machine
end

