-- ==== Sys2Proof/WellFormed.lean ====
section
/-! DEFINITION. The form that a command's operands must have, whatever the state; every other operand is bounded by its type. A command without that form is refused as malformed. -/
namespace Sys2Proof
open Machine

/-- A control flit of R316, with or without NAK. -/
def controlForm (flit : BitVec 1600) (nak : Bool) : Bool := field flit.toNat 1598 2 == 0 && (field flit.toNat 1480 8 == 1) == nak
/-- A control flit that carries an identity message (R313, R316). -/
def identityForm (flit : BitVec 1600) : Bool := field flit.toNat 1598 2 == 0 && field flit.toNat 1472 8 == 1
/-- A frame of the management port that does not hold, behind its Ethernet, IPv6 and UDP headers, a message of another type than the command's (R401, R402). -/
def dpForm (type : Nat) (frame : Bytes) : Bool :=
  let m := frame.drop (if beNat (slice frame 12 2) = 0x8100 then 66 else 62)
  decide (m.length < 2) || leAt m 1 1 == type
/-- An MCTP control request with a command code (R409). -/
def controlMessage (code : Nat) (request : Bytes) : Bool :=
  decide (3 ≤ request.length) && leAt request 0 1 == 0 && bit (leAt request 1 1) 7 && leAt request 2 1 == code
/-- A vendor message with a code and a length (R410). -/
def vendorForm (code n : Nat) (request : Bytes) : Bool := request.length == n && leAt request 0 1 == 0x7E && leAt request 3 1 == code
/-- An SPDM request with a code and at least n bytes (R422). -/
def spdmForm (code n : Nat) (request : Bytes) : Bool := decide (n ≤ request.length) && leAt request 1 1 == code
/-- The request codes that R422 has answered with UnsupportedRequest: KEY_EXCHANGE, FINISH, PSK_EXCHANGE, PSK_FINISH, HEARTBEAT, KEY_UPDATE, GET_ENCAPSULATED_REQUEST, END_SESSION, GET_CSR, SET_CERTIFICATE, VENDOR_DEFINED_REQUEST, CHUNK_SEND, CHUNK_GET. -/
def spdmUnsupported : List Nat := [0xE4, 0xE5, 0xE6, 0xE7, 0xE8, 0xE9, 0xEA, 0xEC, 0xED, 0xEE, 0xFE, 0x85, 0x86]

/-- The command's operands have their form. -/
def Instr.wellFormed : Instr → Bool
  | .parkRelease _ value => !bit value.toNat 32
  | .parkAbandon _ value => bit value.toNat 32
  | .flitReceived _ flit => field flit.bits.toNat 1598 2 != 0
  | .identity _ flit => identityForm flit
  | .creditUpdate _ flit => controlForm flit false
  | .nak _ flit => controlForm flit true
  | .bar2Read _ offset len => decide (0 < len) && decide (offset.toNat % 4096 + len ≤ 4096)
  | .bar2Write _ offset bytes => decide (0 < bytes.length) && decide (bytes.length ≤ 256) && decide (offset.toNat % 4096 + bytes.length ≤ 4096)
  | .registerWrite _ _ _ (.whole _) => true
  | .registerWrite (.bar0 _) index sub (.bytes at_ bytes) => decide (0 < bytes.length) && decide (bytes.length ≤ 256) && decide (barOffset index sub at_ % 4096 + bytes.length ≤ 4096)
  | .registerWrite _ _ _ (.bytes _ _) => false
  | .trackingPeakRead _ (.peak _) => true
  | .trackingPeakRead (.bar0 _) (.bytes offset len) => decide (0 < len) && decide (len ≤ 4096) && decide (offset % 4096 + len ≤ 4096) && decide (offset < 0x8000000)
  | .trackingPeakRead _ (.bytes _ _) => false
  | .dpRead frame _ _ => dpForm 0x01 frame
  | .dpWrite frame _ _ => dpForm 0x02 frame
  | .sessionOpen frame _ _ => dpForm 0x10 frame
  | .sessionClose frame _ _ => dpForm 0x11 frame
  | .discover frame _ _ => dpForm 0x20 frame
  | .i3cDictionaryRead request => vendorForm 0x01 13 request
  | .i3cProvisioningWrite request => vendorForm 0x02 47 request
  | .setEndpointId request => controlMessage 1 request
  | .getEndpointId request => controlMessage 2 request
  | .getMctpVersionSupport request => controlMessage 4 request
  | .getMessageTypeSupport request => controlMessage 5 request
  | .getVersion _ request => spdmForm 0x84 4 request
  | .getCapabilities _ request => spdmForm 0xE1 20 request
  | .negotiateAlgorithms _ request => spdmForm 0xE3 32 request
  | .getDigests _ request => spdmForm 0x81 4 request
  | .getCertificate _ request => spdmForm 0x82 8 request
  | .challenge _ request => spdmForm 0x83 36 request
  | .getMeasurements _ request => spdmForm 0xE0 (if bit (leAt request 2 1) 0 then 37 else 4) request
  | .spdmUnsupportedRequest _ request => decide (4 ≤ request.length) && decide (leAt request 1 1 ∈ spdmUnsupported)
  | .senseOpen kind _ _ _ => decide (kind ≤ 2)
  | .coolantAverage sensors _ _ _ => sensors.length == 4
  | .canaryMeasure margins => margins.length == 4
  | .coreTestDone failed block => decide (block ≤ 5) && (block == 0) == (failed == [])
  | .configurationWrite _ _ _ bar2 => decide (30 ≤ bar2) && decide (bar2 ≤ 42)
  | .slotBoundary _ _ _ | .guardBandSample | .dimSkylightSnapshot | .beaconRequestSend | .unusedParentBeacon _ | .beaconRequest _ _ _
  | .beaconResponse _ | .parentClockLost | .parentLinkRecovered _ | .rootPllLock _ | .pllUnlock _ | .refSwitch | .armA _ | .armB _ | .stageA _
  | .stageB _ | .unstage _ | .disarm _ | .almanacCheckDone | .almanacStart | .almanacDescriptorRead | .resumeSdtWrite _ _ | .pauseResume | .agreement
  | .vectorDeadline | .seal | .sealDeadline | .conjunctionDecision | .conjunctionEffect | .imageFetchDone _ _ | .scalar _ _ _ _ | .branch _ _ _
  | .scratchLoad _ _ _ _ | .scratchStore _ _ | .memoryLoad _ _ _ | .memoryStore _ _ | .memoryResponse _ | .cinc _ _ | .cwait _ _ | .cread _ _
  | .barrier _ _ | .ginc _ _ | .gread _ _ | .sdtr _ _ | .slotr _ _ | .waitsdt _ _ | .endThread _ _ | .fence _ _ | .vadd _ _ | .vsub _ _ | .vmul _ _
  | .vfma _ _ | .vmax _ _ | .vmin _ _ | .vabs _ _ | .vneg _ _ | .vcmp _ _ | .vsel _ _ | .vrsum _ _ | .vrmax _ _ | .vrmin _ _ | .vbcast _ _
  | .vgather _ _ | .vscatter _ _ | .vscatadd _ _ | .vand _ _ | .vor _ _ | .vxor _ _ | .vshl _ _ | .vshr _ _ | .vcvt _ _ | .vquant _ _ | .vdequant _ _
  | .vsplit _ _ | .vscale _ _ | .vexp _ _ | .vexp2 _ _ | .vln _ _ | .vlog2 _ _ | .vrcp _ _ | .vrsqrt _ _ | .vtanh _ _ | .vsigmoid _ _ | .vsinpi _ _
  | .vcospi _ _ | .mwload _ _ | .mstream _ _ | .mdrain _ _ | .mwloadStart _ _ | .mwloadComplete _ _ | .mstreamStart _ _ | .mstreamRow _ _ _
  | .mstreamComplete _ | .mdrainStart _ _ | .mdrainStep _ _ | .mdrainComplete _ _ | .updateEntry _ | .updateChunk _ | .lazyAdamRow _
  | .orthoProductTile _ | .chunkSumFold _ | .publishRow _ | .ratioRecordWrite _ | .scaleSweepBlock _ | .loftRead _ _ | .loftWrite _ _
  | .controllerWriteAdd _ _ | .loftFillReturn _ _ | .eavesFillReturn _ _ | .stampRewrite _ | .prefetchDistanceRevise _ | .scrubDusk _ _
  | .scrubPassEnd _ _ | .sramScrub _ _ _ | .cacheScrub _ _ _ _ | .idleBankScrub _ _ | .pageWalk _ _ _ | .parkRecordWrite | .parkTimeout _
  | .invalRange _ | .invalAsid _ | .invalAll _ | .invalComplete | .stop _ | .save _ | .resume _ | .preemptStopDone | .preemptSaveDone
  | .preemptRestoreDone | .stream _ _ | .gather _ _ | .scatter _ _ | .streamAdd _ _ | .scatterAdd _ _ | .moverDescriptorReadahead _ _
  | .moverPieceIssue _ _ | .descriptorRetire _ _ | .seamRidgeFlit _ _ _ | .dieLost _ | .linkRetryTimer _ | .linkDetected _ | .linkEqualised _ _ _ _
  | .linkRetrain _ | .linkDown _ | .replayTimeout _ | .fenceNotice _ _ | .fenceNoticeSend _ | .memRead | .memWrite | .memWriteAdd
  | .readData | .writeAck | .windowFrameSend _ | .windowData | .windowDone | .gateInc | .gateAck | .reduceGrant | .reduceContrib | .reduceAck
  | .reduceSegmentCombine _ _ | .tokenCounts | .tokenRow | .tokenAck | .quietRequestAbandon | .fabricCommit _ | .domainGeometryWrite _ _ _
  | .incarnationWrite _ _ | .ethLinkUp _ | .ethPacket _ _ | .ethRetransmitTimeout _ | .ethAckTimer _ | .ethNeighborSolicitation _ _
  | .ethEchoRequest _ _ | .portReset _ | .mirrorPeriodWrite _ _ | .hostGateInc _ _ | .hostPieceCompletion _ _ | .hostAccess _ _
  | .segSelect _ _ | .segSnapshot _ | .segCommit _ | .segDiscard _ | .segWindowWrite _ _ _ | .sessionTimeout _ | .segmentLapse _ | .mboxRequest _ _
  | .operatorKeyWrite _ _ _ | .mgmtLinkUp _ | .mgmtNeighborSolicitation _ | .mgmtEchoRequest _ | .i3cTargetReset | .attestNonce _ _
  | .packageResetRelease | .romPhaseDone _ _ | .imagePhaseDone _ _ | .powerPhaseDone | .clocksPhaseDone _ | .pairingPhaseDone | .sramPhaseDone
  | .coresPhaseDone _ | .memoryPhaseDone | .firmwareLoadPhaseDone | .linksPhaseDone | .dictionaryPhaseDone | .startFailed | .leaderHeartbeat
  | .leaderChange | .dimExit _ _ | .fwChunk _ _ | .fwEraseDone | .verifyTarget _ | .verifyTargetDone _ | .trialTarget _ | .cancelTrial _
  | .svnFloorWrite _ _ | .fwKey0Revoke _ _ | .coreRetireRequest _ _ _ | .supplyWarning _ | .supplyLow _ | .supplyLowCleared _ | .supplyRecovered _
  | .overVoltage _ | .overVoltageCleared _ | .supplyReset _ | .overVoltageReset _ | .overCurrentReset _ | .vinRise _ | .vinStable _ | .reversePolarity
  | .railFault _ _ _ | .railFaultReset | .coolantSensor _ _ _ | .thermalDemandRevise | .thermalTrip _ | .thermalTripShutdown | .thermalCooldownReset
  | .thermalCutoff _ | .powerCeilingPublish | .powerControl _ _ | .throttleStepRaise | .throttleStepLower | .guardBandRaise _ | .sensorCalibration
  | .currentSenseCalibration | .interfaceCalibration | .flashGarbageCollect _ | .crossingOverrun _ | .overrunClear _ _ | .crossingReset _
  | .crossingReleaseHandshake _ | .resetRequest _ _ | .resetForce _ _ | .resetDelayExpiry | .resetForceWritebackTimeout | .logRecordArrival
  | .logProgram | .telemetrySample | .telemetryWrite | .coreTest _ _ | .testAccessWrite _ _ | .tapInstruction _ _ | .testLogicReset
  | .shardGuardWrite _ _ _ | .pcieLinkUp _ | .ethLinkLost _ | .entdaa _ | .powerLoss _ | .lodestarFailure _ => true

end Sys2Proof
end

