-- ==== Sys2Proof/Machine/Protocol.lean ====
section
/-! DEFINITION. The Dictionary Protocol and its mailbox (file 15, R401 to R408): messages, keys, sessions, replay, segments; and the management port's IPv6. -/
namespace Sys2Proof.Machine

/-! ### Messages (R402, R403) -/

/-- The header of a Dictionary Protocol message, and its body. -/
structure DpMsg where
  version : Nat
  type : Nat
  signed : Bool
  response : Bool
  commit : Bool
  session : Nat
  counter : Nat
  request : Nat
  serial : Nat
  keySlot : Nat
  body : Bytes
  deriving DecidableEq, Repr

/-- The message that bytes hold: header, body and, when SIGNED, a signature; what follows is not looked at. -/
def parseDp (bs : Bytes) : Option DpMsg :=
  let flags := leAt bs 2 1
  let len := leAt bs 28 2
  if 1136 < len ∨ bs.length < 32 + len + (if bit flags 0 then 64 else 0) then none
  else some ⟨leAt bs 0 1, leAt bs 1 1, bit flags 0, bit flags 1, bit flags 2, leAt bs 4 4, leAt bs 8 8, leAt bs 16 4, leAt bs 20 8, leAt bs 30 1, slice bs 32 len⟩

/-- A response to a message, signed by the device identity key (R403). -/
def State.dpResponse (s : State) (m : DpMsg) (status : Nat) (body : Bytes) : Bytes :=
  let bs := natLe 1 1 ++ natLe 1 m.type ++ natLe 1 3 ++ natLe 1 status ++ natLe 4 m.session ++ natLe 8 m.counter ++ natLe 4 m.request ++
    natLe 8 s.fuse.serial.toNat ++ natLe 2 body.length ++ natLe 2 0 ++ body
  bs ++ signBytes bs

/-- A message that the module takes as a request: this version, a type of R403, this module's serial, or none in DISCOVER (R402). -/
def State.dpTakes (s : State) (m : DpMsg) : Bool :=
  m.version == 1 && !m.response && decide (m.type ∈ [0x01, 0x02, 0x10, 0x11, 0x20]) &&
    (m.serial == s.fuse.serial.toNat || (m.type == 0x20 && m.serial == 0))

/-! ### Keys and replay (R406) -/

/-- A signed message passes R406. -/
def State.dpAuthentic (s : State) (m : DpMsg) (sigOk : Bool) : Bool :=
  !m.signed || (decide (1 ≤ m.keySlot) && decide (m.keySlot ≤ 8) && s.role (m.keySlot - 1) != 0 && sigOk && decide (s.replay (m.keySlot - 1) < m.counter))
/-- The ceiling of a counter: raised in steps of 65,536 until it is at least 65,536 above it. -/
def raiseCeiling (ceiling counter : Nat) : Nat :=
  if counter + 65536 ≤ ceiling then ceiling else ceiling + (counter + 65536 - ceiling + 65535) / 65536 * 65536
/-- REPLAY_COUNTER takes the request's COUNTER, and the ceiling in flash stays ahead of it. -/
def State.takeCounter (s : State) (slot counter : Nat) : State :=
  { s with
    prot := { s.prot with replay := tset s.prot.replay slot counter }
    fuse := { s.fuse with ceilings := tset s.fuse.ceilings slot (raiseCeiling (tget 65536 s.fuse.ceilings slot) counter) } }

/-! ### Snapshots and staging buffers (R395, R403) -/

/-- Holder of a snapshot that unsigned requests share (log 72). -/
def unsignedHolder : Nat := 0x100000008
/-- Holder for the I3C port (R410). -/
def i3cHolder : Nat := 0x200000000
/-- The record of a holder for an entry. -/
def State.segOf (s : State) (holder idx sub : Nat) : Option ProtSeg :=
  s.prot.segs.find? (fun g => g.holder == holder && g.index == idx && g.sub == sub)
/-- The records with those for which p holds dropped. -/
def State.dropSegs (s : State) (p : ProtSeg → Bool) : State := { s with prot := { s.prot with segs := s.prot.segs.filter (fun g => !p g) } }
/-- A record that still stands for something: a snapshot, a staging buffer, or the loss of one. -/
def ProtSeg.stands (g : ProtSeg) : Bool := g.snapshot.isSome || g.staging.isSome || g.snapLost || g.stageLost
/-- A holder's records changed; those that stand for nothing any more go. -/
def State.editSegs (s : State) (holder : Nat) (f : ProtSeg → ProtSeg) : State :=
  { s with prot := { s.prot with segs := (mapIf (fun g => g.holder == holder) f s.prot.segs).filter ProtSeg.stands } }
/-- A holder's record for an entry replaced. -/
def State.putSeg (s : State) (g : ProtSeg) : State :=
  let s := s.dropSegs (fun h => h.holder == g.holder && h.index == g.index && h.sub == g.sub)
  { s with prot := { s.prot with segs := g :: s.prot.segs } }
/-- A holder's record for an entry, a new one where it has none. -/
def State.segFor (s : State) (holder idx sub : Nat) : ProtSeg := (s.segOf holder idx sub).getD ⟨holder, idx, sub, none, none, false, false, 0⟩
/-- A snapshot taken for a holder, which replaces its earlier one (R403). -/
def State.segTake (s : State) (holder idx sub : Nat) (bs : Bytes) : State :=
  let s := s.editSegs holder (fun g => { g with snapshot := none, snapLost := false })
  s.putSeg { s.segFor holder idx sub with snapshot := some bs, last := s.sdt }
/-- A segment of a long entry read for a holder: a snapshot at offset 0, and later pieces of it. The code, and at most 1,024 bytes; a refused read takes no snapshot (R394). -/
def State.segRead (s : State) (via : Via) (holder idx sub off n : Nat) : State × Nat × Bytes :=
  let n := min n 1024
  if off = 0 then
    let (t, code, bs) := s.readEntry via idx sub
    if code ≠ 0 then (s, code, [])
    else if bs.length < n then (s, 0x08, [])
    else (t.segTake holder idx sub bs, 0, slice bs 0 n)
  else
    let g := s.segFor holder idx sub
    if g.snapLost then (s.editSegs holder (fun h => if h = g then { h with snapLost := false } else h), 0x09, [])
    else match g.snapshot with
      | none => (s, 0x08, [])
      | some bs => if bs.length < off + n then (s, 0x08, []) else (s.putSeg { g with last := s.sdt }, 0, slice bs off n)
/-- A segment staged for a holder (R403): it begins at offset 0, from the current value as R400 begins, and replaces the holder's staging of another entry. -/
def State.segStage (s : State) (e : Entry) (holder sub off : Nat) (data : Bytes) : State × Nat :=
  let g := s.segFor holder e.index sub
  if g.stageLost then (s.editSegs holder (fun h => if h = g then { h with stageLost := false } else h), 0x09)
  else match g.staging with
    | some bs => (s.putSeg { g with staging := some (patch bs off data), last := s.sdt }, 0)
    | none =>
      if off = 0 then
        let t := s.editSegs holder (fun h => { h with staging := none })
        (t.putSeg { t.segFor holder e.index sub with staging := some (patch (s.entryValue e sub) 0 data), last := s.sdt }, 0)
      else (s, 0x08)
/-- COMMIT of a holder's staging buffer, as R400 applies it; a refused one stays staged. -/
def State.segApply (s : State) (via : Via) (e : Entry) (holder sub : Nat) : State × Nat :=
  match (s.segFor holder e.index sub).staging with
  | some bs =>
    let (t, c) := s.writeLong via e sub bs
    if c = 0 then (t.editSegs holder (fun h => if h.index = e.index ∧ h.sub = sub then { h with staging := none } else h), 0) else (t, c)
  | none => (s, 0x08)

/-! ### READ, WRITE, sessions (R403 to R405) -/

/-- Where an accepted message comes from: its path, and the holder of its segments. -/
def DpMsg.via (m : DpMsg) : Via :=
  if !m.signed then .unsigned
  else .key (Fin.ofNat _ (m.keySlot - 1)) (if m.session = 0 then none else some m.session)
/-- Holder of a message's segments: its session, else its key slot. -/
def DpMsg.holder (m : DpMsg) : Nat :=
  if !m.signed then unsignedHolder else if m.session = 0 then 0x100000000 + (m.keySlot - 1) else m.session
/-- Code for the session that a message names: of another slot, or not open (log 72). -/
def State.sessionCode (s : State) (m : DpMsg) : Nat :=
  if m.session = 0 then 0
  else if !m.signed then 0x05
  else if s.sessionOpen m.session (m.keySlot - 1) then 0
  else if s.prot.sessions.any (fun x => x.id == m.session) then 0x0C
  else 0x05

/-- READ. -/
def State.dpRead (s : State) (m : DpMsg) : State × Bytes :=
  let idx := leAt m.body 0 2
  let sub := leAt m.body 2 1
  let off := leAt m.body 4 4
  let n := leAt m.body 8 2
  let c := s.sessionCode m
  let (t, code, bs) : State × Nat × Bytes :=
    if c ≠ 0 then (s, c, [])
    else if m.body.length ≠ 10 then (s, 0x07, [])
    else match findEntry idx sub with
      | none => (s, 0x01, [])
      | some e =>
        if e.isLong then s.segRead m.via m.holder idx sub off n
        else if off ≠ 0 then (s, 0x08, [])
        else if n ≠ e.size then (s, 0x07, [])
        else s.readEntry m.via idx sub
  (t, t.dpResponse m code (natLe 2 idx ++ natLe 1 sub ++ natLe 1 0 ++ natLe 4 off ++ bs))

/-- WRITE of a short entry, or of a segment of a long one: the state and the code. -/
def State.dpWriteCode (s : State) (m : DpMsg) (idx sub off total n : Nat) (data : Bytes) : State × Nat :=
  let c := s.sessionCode m
  if c ≠ 0 then (s, c)
  else if m.body.length < 16 ∨ data.length ≠ n then (s, 0x07)
  else match findEntry idx sub with
    | none => (s, 0x01)
    | some e =>
      if e.isLong then
        let a := s.authority m.via e
        if a ≠ 0 then (s, a)
        else if total ≠ entrySize e ∨ 65536 < total then (s, 0x06)
        else if 1024 < n ∨ total < off + n then (s, 0x08)
        else
          let (t, c) := s.segStage e m.holder sub off data
          if c ≠ 0 then (t, c) else if m.commit then t.segApply m.via e m.holder sub else (t, 0)
      else if off ≠ 0 then (s, 0x08)
      else if n ≠ e.size ∨ total ≠ e.size then (s, 0x07)
      else s.writeEntry m.via idx sub data
/-- WRITE. -/
def State.dpWrite (s : State) (m : DpMsg) : State × Bytes :=
  let idx := leAt m.body 0 2
  let sub := leAt m.body 2 1
  let (t, code) := s.dpWriteCode m idx sub (leAt m.body 4 4) (leAt m.body 8 4) (leAt m.body 12 2) (m.body.drop 16)
  (t, t.dpResponse m code (natLe 2 idx ++ natLe 1 sub ++ natLe 1 0))
/-- SESSION_OPEN: at most four sessions; a session's number is not used again (R405). -/
def State.dpOpen (s : State) (m : DpMsg) : State × Bytes :=
  let code := if !m.signed then 0x05 else if m.body.length ≠ 16 then 0x07 else if 4 ≤ s.prot.sessions.length then 0x09 else 0
  if code ≠ 0 then (s, s.dpResponse m code (natLe 4 0 ++ padTo 16 m.body))
  else
    let id := s.prot.nextSession
    let t : State := { s with prot := { s.prot with sessions := ⟨id, Fin.ofNat _ (m.keySlot - 1), s.sdt⟩ :: s.prot.sessions, nextSession := id + 1 } }
    (t, t.dpResponse m 0 (natLe 4 id ++ m.body))
/-- A session ends, with its snapshot and staging buffer. -/
def State.endSession (s : State) (id : Nat) : State :=
  ({ s with prot := { s.prot with sessions := s.prot.sessions.filter (fun x => x.id != id) } } : State).dropSegs (fun g => g.holder == id)
/-- SESSION_CLOSE. -/
def State.dpClose (s : State) (m : DpMsg) : State × Bytes :=
  let c := if m.session = 0 ∨ !m.signed then 0x05 else s.sessionCode m
  let t := if c = 0 then s.endSession m.session else s
  (t, t.dpResponse m c [])
/-- DISCOVER. -/
def State.dpDiscover (s : State) (m : DpMsg) : State × Bytes :=
  (s, s.dpResponse m 0 (natLe 8 s.fuse.serial.toNat ++ natLe 2 (s.dget 0x2700 4) ++ natLe 1 s.boot.mode.code ++ natLe 1 s.time.lock.code))

/-- A request within a session keeps it open for another 60 s (R405). -/
def State.touchSession (s : State) (m : DpMsg) : State :=
  { s with prot := { s.prot with sessions := mapIf (fun x => m.signed && x.id == m.session && x.slot.val + 1 == m.keySlot) (fun x => { x with last := s.sdt }) s.prot.sessions } }
/-- An accepted message acted on (R403). -/
def State.dpAct (s : State) (m : DpMsg) : State × Bytes :=
  let s := s.touchSession m
  match m.type with
  | 0x01 => s.dpRead m
  | 0x02 => s.dpWrite m
  | 0x10 => s.dpOpen m
  | 0x11 => s.dpClose m
  | _ => s.dpDiscover m
/-- A request as it comes, and if the queue of eight is not full as it reaches its front (R402, R406, R408): dropped, or counted as an authentication failure, or answered. -/
def State.dpRequest (s : State) (m : DpMsg) (full sigOk : Bool) : State × Option Bytes :=
  if full then (s.dadd 0x3120 3 1, none)
  else if !s.dpTakes m then (s, none)
  else if !s.dpAuthentic m sigOk then (s.dadd 0x3120 2 1, none)
  else
    let s := s.dadd 0x3120 1 1
    let s := if m.signed then s.takeCounter (m.keySlot - 1) m.counter else s
    let (t, bs) := s.dpAct m
    (t, some bs)

/-- The Dictionary Protocol is served: from the end of phase IMAGE on, by a Lodestar that leads (R423, R426). -/
def State.dpServed (s : State) : Bool := s.viaMay .unsigned
/-- MGMT_MAC. -/
def mgmtMacBytes : Bytes := (List.range 6).map Config.mgmtMac
/-- The port's link-local address: fe80::/64 with the modified EUI-64 of MGMT_MAC. -/
def mgmtAddress : Bytes :=
  let m := mgmtMacBytes
  [0xFE, 0x80, 0, 0, 0, 0, 0, 0] ++ [m.getD 0 0 ^^^ 0x02] ++ slice m 1 2 ++ [0xFF, 0xFE] ++ slice m 3 3
/-- The datagram that a frame brings to the port of the Dictionary Protocol, with the frame and its source port: to this station's addresses, a checksum that is right, at most 1,232 bytes (R401). -/
def State.dpDatagram (s : State) (frame : Bytes) : Option (NetPacket × Nat × Bytes) :=
  match parseNet frame with
  | some p =>
    match p.udp with
    | some (sport, dport, data) =>
      if p.dstMac = mgmtMacBytes ∧ p.dst = mgmtAddress ∧ dport = s.dget 0x1150 1 ∧ data.length ≤ 1232 then some (p, sport, data) else none
    | none => none
  | none => none
/-- The frame of a response to a datagram. -/
def State.dpReply (s : State) (p : NetPacket) (sport : Nat) (data : Bytes) : NetPacket :=
  ⟨p.srcMac, mgmtMacBytes, p.vlan, 0, 0, 17, 64, mgmtAddress, p.src, udpBytes mgmtAddress p.src (s.dget 0x1150 1) sport data⟩
/-- A frame on the management port that brings a message of a type (R401): one that is no datagram for the protocol is dropped. -/
def State.dpFrom (s : State) (type : Nat) (frame : Bytes) (full sigOk : Bool) : Result :=
  if !dpForm type frame then .refused .malformedCommand
  else if !(s.dpServed && s.prot.mgmtUp) then .next s
  else match s.dpDatagram frame with
    | none => .next s
    | some (p, sport, data) =>
      match parseDp data with
      | none => .next s
      | some m => match s.dpRequest m full sigOk with
        | (t, some bs) => .next (t.emit (.mgmt (t.dpReply p sport bs).encode))
        | (t, none) => .next t

/-- READ. -/
def execDpRead (frame : List Byte) (full sigOk : Bool) (s : State) : Result := s.dpFrom 0x01 frame full sigOk
/-- WRITE. -/
def execDpWrite (frame : List Byte) (full sigOk : Bool) (s : State) : Result := s.dpFrom 0x02 frame full sigOk
/-- SESSION_OPEN. -/
def execSessionOpen (frame : List Byte) (full sigOk : Bool) (s : State) : Result := s.dpFrom 0x10 frame full sigOk
/-- SESSION_CLOSE. -/
def execSessionClose (frame : List Byte) (full sigOk : Bool) (s : State) : Result := s.dpFrom 0x11 frame full sigOk
/-- DISCOVER. -/
def execDiscover (frame : List Byte) (full sigOk : Bool) (s : State) : Result := s.dpFrom 0x20 frame full sigOk
/-- SESSION_TIMEOUT: 60 s (96,000,000,000 ticks) without a request (R405). -/
def execSessionTimeout (session : Nat) (s : State) : Result :=
  when (s.prot.sessions.any (fun x => x.id == session && s.elapsed x.last 96000000000) && s.dpServed) s (s.endSession session)
/-- A snapshot or staging buffer that has had no access for 1 s (1,600,000,000 ticks, R403). -/
def State.segIdle (s : State) (g : ProtSeg) : Bool := (g.snapshot.isSome || g.staging.isSome) && s.elapsed g.last 1600000000
/-- SEGMENT_LAPSE: 1 s without an access (R403). -/
def execSegmentLapse (holder : Nat) (s : State) : Result :=
  when (s.prot.segs.any (fun g => g.holder == holder && s.segIdle g) && s.dpServed) s
    (s.editSegs holder (fun g => if s.segIdle g then { g with snapshot := none, staging := none } else g))
/-- MBOX_REQUEST: a request that gets no response leaves an all-zero one (R407; log 72). -/
def execMboxRequest (port : Fin 2) (commit : MboxCommit) (s : State) : Result :=
  match (s.port port).mbox with
  | none => .next s
  | some bytes =>
    let s0 : State := s.setPort port { s.port port with mbox := none }
    let (t, bs) := match parseDp bytes with
      | none => (s0, none)
      | some m => s0.dpRequest m commit.full commit.sigOk
    let idx := 0x1140 + port.val
    when s.dpServed s ((t.lset idx 2 (padTo 1232 (bs.getD []))).dset idx 3 2)

/-! ### The management port below UDP (R401) -/

/-- The Neighbor Solicitation of Duplicate Address Detection. -/
def dadPacket : NetPacket :=
  let own := mgmtAddress
  let dst : Bytes := [0xFF, 0x02, 0, 0, 0, 0, 0, 0, 0, 0, 0, 0x01, 0xFF] ++ own.drop 13
  let src : Bytes := List.replicate 16 0
  ⟨multicastMac dst, mgmtMacBytes, 0, 0, 0, 58, 255, src, dst, icmpBytes src dst 135 0 (natBe 4 0 ++ own)⟩
/-- MGMT_LINK_UP: Duplicate Address Detection; an address that another holds is not used. -/
def execMgmtLinkUp (duplicate : Bool) (s : State) : Result :=
  when s.dpServed s
    (({ s with prot := { s.prot with mgmtUp := !duplicate } } : State).emit (.mgmt dadPacket.encode))
/-- An answer sent, if there is one. -/
def State.mgmtAnswer (s : State) (p : Option NetPacket) : Result :=
  when (s.dpServed && s.prot.mgmtUp) s (match p with | some q => s.emit (.mgmt q.encode) | none => s)
/-- MGMT_NEIGHBOR_SOLICITATION: answered when it is one for this address, else dropped. -/
def execMgmtNeighborSolicitation (packet : List Byte) (s : State) : Result :=
  s.mgmtAnswer ((parseNet packet).bind (answerNs mgmtAddress mgmtMacBytes))
/-- MGMT_ECHO_REQUEST: answered when it is one to this address, else dropped. -/
def execMgmtEchoRequest (packet : List Byte) (s : State) : Result :=
  s.mgmtAnswer ((parseNet packet).bind (answerEcho mgmtAddress mgmtMacBytes))

end Sys2Proof.Machine
end

