-- ==== Sys2Proof/Machine/Spdm.lean ====
section
/-! DEFINITION. MCTP over I3C (R409, R410) and SPDM 1.2 (R422). The spec names the DMTF standards for the messages; their layouts are those of DSP0236 and DSP0274 (log 73). -/
namespace Sys2Proof.Machine

/-! ### The I3C target (R409, R410, R462) -/

/-- The I3C target port is served, under a dynamic address. -/
def State.i3cServed (s : State) : Bool := s.viaMay .i3c && s.prot.i3cAddr.isSome
/-- ENTDAA: the target takes the dynamic address it is given. -/
def execEntdaa (address : Fin 128) (s : State) : Result :=
  when (s.viaMay .i3c && s.prot.i3cAddr.isNone) s { s with prot := { s.prot with i3cAddr := some address.val } }
/-- I3C_TARGET_RESET: the port, its MCTP state and its SPDM connection begin anew. -/
def execI3cTargetReset (s : State) : Result :=
  let t := s.dropSegs (fun g => g.holder == i3cHolder)
  let t : State := { t with prot := { t.prot with i3cAddr := none, eid := none } }
  when (s.viaMay .i3c) s (t.spdmLost [0])

/-- An MCTP control message with a command code: its bytes after the code. -/
def mctpData (code : Nat) (request : Bytes) : Option Bytes :=
  if 3 ≤ request.length ∧ leAt request 0 1 = 0 ∧ bit (leAt request 1 1) 7 ∧ leAt request 2 1 = code then some (request.drop 3) else none
/-- The answer to an MCTP control message, with the instance it names. -/
def State.mctpAnswer (s : State) (request : Bytes) (bs : Bytes) : State :=
  s.emit (.i3c (natLe 1 0 ++ natLe 1 (leAt request 1 1 % 32) ++ natLe 1 (leAt request 2 1) ++ bs))
/-- An MCTP control message acted on. -/
def State.mctpControl (s : State) (code : Nat) (request : Bytes) (f : Bytes → State) : Result :=
  match mctpData code request with
  | none => .refused .malformedCommand
  | some data => when s.i3cServed s (f data)
/-- SET_ENDPOINT_ID: set or force; an identifier that no endpoint may have, or another operation, is invalid data. -/
def execSetEndpointId (request : List Byte) (s : State) : Result :=
  s.mctpControl 1 request fun data =>
    let eid := leAt data 1 1
    if data.length ≠ 2 then s.mctpAnswer request (natLe 1 3)
    else if 2 ≤ leAt data 0 1 % 4 ∨ eid = 0 ∨ eid = 255 then s.mctpAnswer request (natLe 1 2)
    else ({ s with prot := { s.prot with eid := some eid } } : State).mctpAnswer request (natLe 1 0 ++ natLe 1 0 ++ natLe 1 eid ++ natLe 1 0)
/-- GET_ENDPOINT_ID: a simple endpoint with a dynamic identifier, 0 for none yet. -/
def execGetEndpointId (request : List Byte) (s : State) : Result :=
  s.mctpControl 2 request fun _ => s.mctpAnswer request (natLe 1 0 ++ natLe 1 (s.prot.eid.getD 0) ++ natLe 1 0 ++ natLe 1 0)
/-- GET_MCTP_VERSION_SUPPORT: one version of each supported message type; which, the spec does not say (log 73). -/
def execGetMctpVersionSupport (request : List Byte) (s : State) : Result :=
  s.mctpControl 4 request fun data =>
    if leAt data 0 1 ∈ [0x00, 0x05, 0x7E, 0xFF] then
      let (v, s) := s.takeFree 32
      s.mctpAnswer request (natLe 1 0 ++ natLe 1 1 ++ natLe 4 v)
    else s.mctpAnswer request (natLe 1 0x80)
/-- GET_MESSAGE_TYPE_SUPPORT: control, SPDM and Vendor Defined – PCI. -/
def execGetMessageTypeSupport (request : List Byte) (s : State) : Result :=
  s.mctpControl 5 request fun _ => s.mctpAnswer request (natLe 1 0 ++ natLe 1 3 ++ natLe 1 0x00 ++ natLe 1 0x05 ++ natLe 1 0x7E)

/-- A vendor message begins with type 0x7E and the Vendor ID of 0x1100:01, most significant byte first as DSP0236 has it. -/
def vendorHead : Bytes := natLe 1 0x7E ++ natBe 2 (Config.pciIds 0).toNat
/-- A vendor message of this vendor with a code: its bytes after the code; one of another vendor is not taken (log 73). -/
def vendorData (code n : Nat) (request : Bytes) : Option Bytes :=
  if request.length = 4 + n ∧ request.take 3 = vendorHead ∧ leAt request 3 1 = code then some (request.drop 4) else none
/-- I3C_DICTIONARY_READ: a short entry, or a segment of a long one. -/
def execI3cDictionaryRead (request : List Byte) (s : State) : Result :=
  if !vendorForm 0x01 13 request then .refused .malformedCommand
  else match vendorData 0x01 9 request with
  | none => .next s
  | some d =>
    let idx := leAt d 0 2
    let sub := leAt d 2 1
    let off := leAt d 3 4
    let n := leAt d 7 2
    let (t, code, bs) : State × Nat × Bytes := match findEntry idx sub with
      | none => (s, 0x01, [])
      | some e =>
        if !bit e.flags 2 then (s, 0x01, [])
        else if e.isLong then s.segRead .i3c i3cHolder idx sub off n
        else if off ≠ 0 then (s, 0x08, [])
        else if n ≠ e.size then (s, 0x07, [])
        else s.readEntry .i3c idx sub
    when s.i3cServed s (t.emit (.i3c (vendorHead ++ natLe 1 0x81 ++ natLe 1 code ++ bs)))
/-- I3C_PROVISIONING_WRITE: of an operator key slot alone, and refused with 0x05 otherwise. -/
def execI3cProvisioningWrite (request : List Byte) (s : State) : Result :=
  if !vendorForm 0x02 47 request then .refused .malformedCommand
  else match vendorData 0x02 43 request with
  | none => .next s
  | some d =>
    let idx := leAt d 0 2
    let sub := leAt d 2 1
    let (t, code) := if idx = 0x1210 ∧ 1 ≤ sub ∧ sub ≤ 8 then s.writeEntry .i3c idx sub (d.drop 3) else (s, 0x05)
    when s.i3cServed s (t.emit (.i3c (vendorHead ++ natLe 1 0x82 ++ natLe 1 code)))

/-! ### SPDM 1.2 (R422) -/

/-- The transport carries messages: MCTP on I3C, or the DOE mailbox of a port. -/
def State.spdmServed (s : State) (tr : Nat) : Bool :=
  s.viaMay .unsigned && (if tr = 0 then s.prot.i3cAddr.isSome else s.portsUp && (s.port (tr - 1)).l0)
/-- Connection state of a transport. -/
def State.spdmState (s : State) (tr : Nat) : Nat := tget 0 s.prot.spdm tr
/-- A message of SPDM 1.2. -/
def spdmMsg (code p1 p2 : Nat) (rest : Bytes) : Bytes := natLe 1 0x12 ++ natLe 1 code ++ natLe 1 p1 ++ natLe 1 p2 ++ rest
/-- An answer sent. -/
def State.spdmSend (s : State) (tr : Nat) (bs : Bytes) : State := s.emit (.spdm tr bs)
/-- An ERROR answer. -/
def State.spdmError (s : State) (tr code data : Nat) : State := s.spdmSend tr (spdmMsg 0x7F code data [])
/-- The certificate and measurement transcripts of a transport begin anew. -/
def State.spdmFresh (s : State) (tr : Nat) (cert meas : Bool) : State :=
  { s with prot := { s.prot with
      spdmCert := if cert then tset s.prot.spdmCert tr [] else s.prot.spdmCert
      spdmMeas := if meas then tset s.prot.spdmMeas tr [] else s.prot.spdmMeas } }
/-- A connection at a state, with messages added to what its signatures cover. -/
def State.spdmMove (s : State) (tr state : Nat) (bs : Bytes) : State :=
  { s with prot := { s.prot with spdm := tset s.prot.spdm tr state, spdmVca := tset s.prot.spdmVca tr (tget [] s.prot.spdmVca tr ++ bs) } }
/-- A signature over a transcript, under the context that SPDM 1.2 gives it. -/
def spdmSign (context : String) (transcript : Bytes) : Bytes :=
  let c := textBytes context
  signBytes ((List.replicate 4 (textBytes "dmtf-spdm-v1.2.*")).flatten ++ List.replicate (36 - c.length) 0 ++ c ++ digest transcript)
/-- 32 random bytes. -/
def State.spdmNonce (s : State) : Bytes × State := ((List.range 32).map (Config.nonce s.free), { s with free := s.free + 1 })

/-- A request of a transport: its form, its version, then what the connection's state allows. RequestResynch answers all but GET_VERSION after the connection was lost. -/
def State.spdmRequest (s : State) (tr code len ver least : Nat) (request : Bytes) (f : State → State) : Result :=
  if request.length < len ∨ leAt request 1 1 ≠ code then .refused .malformedCommand
  else
    when (s.spdmServed tr) s
      (if s.spdmState tr = 4 ∧ code ≠ 0x84 then s.spdmError tr 0x43 0
      else if leAt request 0 1 ≠ ver then s.spdmError tr 0x41 0
      else if s.spdmState tr < least then s.spdmError tr 0x04 0
      else f s)

/-- GET_VERSION: version 1.2 only; the connection begins. -/
def execGetVersion (transport : Fin 3) (request : List Byte) (s : State) : Result :=
  let tr := transport.val
  let answer := natLe 1 0x10 ++ natLe 1 0x04 ++ natLe 2 0 ++ natLe 1 0 ++ natLe 1 1 ++ natLe 2 0x1200
  s.spdmRequest tr 0x84 4 0x10 0 request fun s =>
    let s : State := { s with prot := { s.prot with spdmVca := tset s.prot.spdmVca tr [] } }
    ((s.spdmFresh tr true true).spdmMove tr 1 (request ++ answer)).spdmSend tr answer
/-- GET_CAPABILITIES: CERT_CAP, CHAL_CAP and MEAS_CAP = 2; the response time and the sizes are not given. -/
def execGetCapabilities (transport : Fin 3) (request : List Byte) (s : State) : Result :=
  let tr := transport.val
  s.spdmRequest tr 0xE1 20 0x12 0 request fun s =>
    if s.spdmState tr ≠ 1 then s.spdmError tr 0x04 0
    else
      let (time, s) := s.takeFree 8
      let (size, s) := s.takeFree 32
      let answer := spdmMsg 0x61 0 0 (natLe 1 0 ++ natLe 1 time ++ natLe 2 0 ++ natLe 4 0x16 ++ natLe 4 size ++ natLe 4 size)
      (s.spdmMove tr 2 (request ++ answer)).spdmSend tr answer
/-- NEGOTIATE_ALGORITHMS: Ed25519, SHA-512 and the DMTF measurement form, of what the requester offers. -/
def execNegotiateAlgorithms (transport : Fin 3) (request : List Byte) (s : State) : Result :=
  let tr := transport.val
  s.spdmRequest tr 0xE3 32 0x12 0 request fun s =>
    if s.spdmState tr ≠ 2 then s.spdmError tr 0x04 0
    else
      let spec := leAt request 6 1 &&& 0x01
      let asym := leAt request 8 4 &&& 0x400
      let hash := leAt request 12 4 &&& 0x04
      if asym = 0 ∨ hash = 0 then s.spdmError tr 0x01 0
      else
        let answer := spdmMsg 0x63 0 0 (natLe 2 36 ++ natLe 1 spec ++ natLe 1 0 ++ natLe 4 (if spec = 0 then 0 else 0x08) ++ natLe 4 asym ++
          natLe 4 hash ++ natLe 16 0)
        (s.spdmMove tr 3 (request ++ answer)).spdmSend tr answer

/-- Length of the DER element that bytes begin with. -/
def derLength (bs : Bytes) : Nat :=
  let n := leAt bs 1 1
  if n < 128 then 2 + n else 2 + (n - 128) + beNat (slice bs 2 (n - 128))
/-- The chain of R413 as SPDM carries it: length, digest of the root certificate, certificates. -/
def spdmChain : Bytes :=
  natLe 2 (68 + certificates.length) ++ natLe 2 0 ++ digest (certificates.take (derLength certificates)) ++ certificates
/-- A digest or certificate exchange, which CHALLENGE_AUTH covers. -/
def State.spdmCertAnswer (s : State) (tr : Nat) (request answer : Bytes) : State :=
  let s := s.spdmFresh tr false true
  ({ s with prot := { s.prot with spdmCert := tset s.prot.spdmCert tr (tget [] s.prot.spdmCert tr ++ request ++ answer) } } : State).spdmSend tr answer
/-- GET_DIGESTS: slot 0. -/
def execGetDigests (transport : Fin 3) (request : List Byte) (s : State) : Result :=
  s.spdmRequest transport.val 0x81 4 0x12 3 request fun s => s.spdmCertAnswer transport.val request (spdmMsg 0x01 0 1 (digest spdmChain))
/-- GET_CERTIFICATE: a portion of the chain in slot 0, at most 1,024 bytes. -/
def execGetCertificate (transport : Fin 3) (request : List Byte) (s : State) : Result :=
  let tr := transport.val
  s.spdmRequest tr 0x82 8 0x12 3 request fun s =>
    let off := leAt request 4 2
    let n := min (min (leAt request 6 2) 1024) (spdmChain.length - off)
    if leAt request 2 1 % 16 ≠ 0 ∨ spdmChain.length ≤ off then s.spdmError tr 0x01 0
    else s.spdmCertAnswer tr request (spdmMsg 0x02 0 0 (natLe 2 n ++ natLe 2 (spdmChain.length - off - n) ++ slice spdmChain off n))

/-- SPDM value type of a measurement (R420). -/
def measureType (n : Nat) : Nat := if n = 1 then 0 else if n < 7 then 1 else if n = 7 then 2 else 3
/-- The measurement block of an index. -/
def State.measureBlock (s : State) (n : Nat) : Bytes :=
  natLe 1 n ++ natLe 1 1 ++ natLe 2 67 ++ natLe 1 (measureType n) ++ natLe 2 64 ++ s.measurement n
/-- The blocks of the indices from 1 on. -/
def State.measureBlocks (s : State) (n : Nat) : Bytes := ((List.range n).map (fun k => s.measureBlock (k + 1))).flatten
/-- CHALLENGE: slot 0, with a summary of no measurements, of 1 to 7 or of all. -/
def execChallenge (transport : Fin 3) (request : List Byte) (s : State) : Result :=
  let tr := transport.val
  s.spdmRequest tr 0x83 36 0x12 3 request fun s =>
    let kind := leAt request 3 1
    if leAt request 2 1 ≠ 0 ∨ !decide (kind ∈ [0, 1, 255]) then s.spdmError tr 0x01 0
    else
      let (nonce, s) := s.spdmNonce
      let summary := if kind = 0 then [] else digest (s.measureBlocks (if kind = 1 then 7 else 9))
      let body := spdmMsg 0x03 0 1 (digest spdmChain ++ nonce ++ summary ++ natLe 2 0)
      let sig := spdmSign "responder-challenge_auth signing" (tget [] s.prot.spdmVca tr ++ tget [] s.prot.spdmCert tr ++ request ++ body)
      (s.spdmFresh tr true true).spdmSend tr (body ++ sig)
/-- GET_MEASUREMENTS: the count, one index, or all; signed on request. -/
def execGetMeasurements (transport : Fin 3) (request : List Byte) (s : State) : Result :=
  let tr := transport.val
  let signed := bit (leAt request 2 1) 0
  s.spdmRequest tr 0xE0 (if bit (leAt request 2 1) 0 then 37 else 4) 0x12 3 request fun s =>
    let idx := leAt request 3 1
    if (9 < idx ∧ idx ≠ 255) ∨ (signed ∧ leAt request 36 1 % 16 ≠ 0) then (s.spdmFresh tr true true).spdmError tr 0x01 0
    else
      let (nonce, s) := s.spdmNonce
      let blocks := if idx = 0 then 0 else if idx = 255 then 9 else 1
      let rec_ := if idx = 0 then [] else if idx = 255 then s.measureBlocks 9 else s.measureBlock idx
      let body := spdmMsg 0x60 (if idx = 0 then 9 else 0) 0 (natLe 1 blocks ++ natLe 3 rec_.length ++ rec_ ++ nonce ++ natLe 2 0)
      let seen := tget [] s.prot.spdmMeas tr ++ request ++ body
      if signed then (s.spdmFresh tr true true).spdmSend tr (body ++ spdmSign "responder-measurements signing" (tget [] s.prot.spdmVca tr ++ seen))
      else
        let s := s.spdmFresh tr true false
        ({ s with prot := { s.prot with spdmMeas := tset s.prot.spdmMeas tr seen } } : State).spdmSend tr body
/-- SPDM_UNSUPPORTED_REQUEST. -/
def execSpdmUnsupportedRequest (transport : Fin 3) (request : List Byte) (s : State) : Result :=
  let tr := transport.val
  let code := leAt request 1 1
  if request.length < 4 ∨ !decide (code ∈ spdmUnsupported) then .refused .malformedCommand
  else when (s.spdmServed tr) s (if s.spdmState tr = 4 then s.spdmError tr 0x43 0 else s.spdmError tr 0x07 code)

end Sys2Proof.Machine
end

