-- ==== Sys2Proof/Machine/Boundary.lean ====
section
/-! DEFINITION. Slot boundaries (file 02, R40, R49 to R51, R58 to R62, R497, R505): the comparison of SDT, dusk slots and deferrals, Almanac slots and slips, and the firing of transits. -/
namespace Sys2Proof.Machine

/-! ### Units and acceptance (R61, R225, R355, R497) -/

/-- The units that a transit is for, as numbers among those of its die. -/
def Transit.units (t : Transit) : List Nat :=
  let cores := (List.range t.coreCount).map (fun i => t.coreFirst + i)
  match t.action with
  | 0 => []
  | 1 => cores.map (fun g => 10000 + g)
  | 4 => cores.map (fun g => 20000 + g)
  | 2 | 3 | 6 => [30000 + 100 * t.action + t.unit]
  | n => [40000 + n]
/-- A thread runs, is parked or is stopped. -/
def Thread.busy (th : Thread) : Bool := match th.status with | .idle | .ended => false | _ => true
/-- Threads of a mask that a core still runs, or that a pending or parked image fetch is to start. -/
def State.threadsTaken (s : State) (g : Nat) (mask : BitVec 32) : Bool :=
  let overlap := fun (l : Nat) => match s.action l with | some a => a.transit.threadMask &&& mask != 0 | none => false
  (maskList 32 mask.toNat).any (fun t => (s.thread g t).busy) || (s.core g).fetches.any overlap ||
    s.trans.parks.any (fun p => (p.first :: p.joined).any (fun i => match i.agent with | .image c l => c == g && overlap l | _ => false))
/-- Instruction memory of a core has room for the image at a VA, or the image is there, or its header cannot be read now (R92). -/
def State.imageFits (s : State) (g asid va : Nat) : Bool :=
  match (State.translateRange ⟨asid, va, 3, false, some g, coreDie g⟩ (vaPieces va 32) s).2 with
  | .ok ps =>
    let here := ps.all (fun p => match p.2.2.1 with | .here _ => true | _ => false)
    let bs := (ps.map (fun p => s.read p.2.2.1.lpa p.2.1)).flatten
    match headerFields bs with
    | some (len, _, crc) => !here || ((s.core g).image asid va (BitVec.ofNat 32 crc)).isSome || s.roomFor g len
    | none => true
  | .error _ => true
/-- A THREAD_LAUNCH finds a core able to accept it. -/
def State.launchFits (s : State) (g asid : Nat) (t : Transit) : Bool :=
  !s.threadsTaken g t.threadMask && !(t.threadMask &&& 0xF != 0 && s.orthoOn g) && s.imageFits g asid t.addr
/-- The action was started by an earlier Almanac (R355). -/
def State.older (s : State) (id : Nat) : Bool := match s.action id with | some a => a.gen != s.alm.gen | none => false
/-- Update work of a job is left: computing, pending or following on. -/
def State.updateLeft (s : State) (id : Nat) : Bool :=
  s.upd.jobs.any (fun j => j.id == id) || s.upd.records.any (fun r => r.job == id) || s.upd.follow.any (fun f => f.job == id)
/-- A REDUCE would be its reduction's root, or its descriptor cannot be read now (R338; log 55). -/
def State.reduceRoot (s : State) (asid : Nat) (t : Transit) : Bool :=
  match (State.translateRange ⟨asid, t.addr, 0, false, none, t.die⟩ (vaPieces t.addr 64) s).2 with
  | .ok ps =>
    let here := ps.all (fun p => match p.2.2.1 with | .here _ => true | _ => false)
    let d := leNat (ps.map (fun p => s.read p.2.2.1.lpa p.2.1)).flatten
    !here || (rdRootRank d == s.rank && rdRootDie d == t.die.val)
  | .error _ => true
/-- The staging buffer of a die serves a reduction, or one is about to arm it. -/
def State.bufferTaken (s : State) (d u : Nat) : Bool :=
  s.fab.roots.any (fun r => r.die == d && r.unit == u) ||
    s.alm.actions.any (fun a => a.transit.action == 6 && a.transit.die.val == d && a.transit.unit == u && s.reduceRoot a.asid a.transit &&
      !s.fab.contribs.any (fun c => c.action == a.id) && !decide (a.id ∈ s.fab.closing))
/-- The target unit can accept a transit. Pre-emption leaves threads, movers and the update engine unable to (R302). -/
def State.accepts (s : State) (asid : Nat) (t : Transit) : Bool :=
  let d := t.die.val
  let cores := (List.range t.coreCount).map (fun i => t.coreFirst + i)
  let free := s.trans.preempt == .running
  match t.action with
  | 1 => cores == [] || t.threadMask == 0 || (free && cores.all (fun g => s.launchFits g asid t))
  | 2 =>
    let v := s.mover d t.unit
    if t.param = 0 then v.status == .idle || !s.older v.action else free && v.status == .idle
  | 4 =>
    if cores = [] then true
    else if t.param = 0 then
      !s.alm.actions.any (fun a => a.transit.action == 4 && a.gen != s.alm.gen && s.updateLeft a.id && a.transit.units.any (fun u => decide (u ∈ t.units)))
    else free && (!s.listOrtho asid d t.addr t.param || cores.all (fun g => !s.threadsTaken g 0xF))
  | 6 =>
    if t.param = 0 then !s.alm.actions.any (fun a => a.transit.action == 6 && a.transit.die.val == d && a.transit.unit == t.unit && a.gen != s.alm.gen)
    else !s.reduceRoot asid t || !s.bufferTaken d t.unit
  | _ => true
/-- R59: every transit of the iteration two before has fired and its actions are complete. -/
def State.epochClear (s : State) (iter : Nat) : Bool :=
  decide (iter < 2) || (!(plist s.alm.queues).flatten.any (fun q => decide (q.iter + 2 ≤ iter)) &&
    !s.alm.actions.any (fun a => a.gen == s.alm.gen && decide (a.iter + 2 ≤ iter)))
/-- A queued transit may fire now (R61). -/
def State.mayFire (s : State) (h : AlmHeader) (q : QTransit) (blocked : List Nat) : Bool :=
  q.open_ && q.transit.units.all (fun u => !decide (u ∈ blocked)) && s.epochClear q.iter && s.accepts h.asid q.transit

/-! ### Actions that the Sidereal unit carries out (R475 to R477, R505) -/

/-- Fatal fault 0xF6 SNAPSHOT_ADDRESS; the transit stays incomplete. -/
def State.addressFault (s : State) (a : Action) : State :=
  s.fatal 0xF6 a.transit.die .package a.step 0xFFFF 0xFFFF (natLe 8 a.transit.addr)
/-- Bytes written at ADDR through translation, with no park. -/
def State.storeAt (s : State) (a : Action) (bs : Bytes) : State :=
  match State.translateSpans a.ctx [⟨a.transit.addr, bs.length, true, false⟩] s with
  | (s, .ok [ps]) => (s.actionWrite a ps bs).closeAction a.id
  | (s, _) => s.addressFault a
/-- MARK (R505). -/
def State.mark (s : State) (a : Action) : State :=
  if a.transit.addr % 16 ≠ 0 then s.addressFault a
  else s.storeAt a (natLe 8 s.sdt ++ natLe 4 s.almanacSlot ++ natLe 4 a.transit.param)
/-- COUNTER_SNAPSHOT (R475). -/
def State.snapshotAction (s : State) (a : Action) : State :=
  if a.transit.param = 0 then s.completeAction a.id else s.storeAt a (s.snapshotBytes a.transit.unit (a.transit.param % 16))
/-- THREAD_LAUNCH (R60, R92). -/
def State.launch (s : State) (a : Action) : State :=
  if a.left = 0 then s.completeAction a.id
  else ((List.range a.transit.coreCount).map (fun i => a.transit.coreFirst + i)).foldl (fun s g => s.launchOn a g) s
/-- MOVER_STREAM (R60, R290). -/
def State.startMover (s : State) (a : Action) : State :=
  if a.transit.param = 0 then s.completeAction a.id
  else s.setMover a.transit.die a.transit.unit
    { status := .running, action := a.id, addr := a.transit.addr, count := a.transit.param, iter := a.iter, asid := a.asid }
/-- The unit that a transit names starts its action (R60). -/
def State.startAction (s : State) (a : Action) : State :=
  match a.transit.action with
  | 0 => s.completeAction a.id
  | 1 => s.launch a
  | 2 => s.startMover a
  | 3 => s.startWindow a
  | 4 => s.startUpdate a
  | 5 => s.startExchange a
  | 6 => s.startReduce a
  | 7 => s.startGate a
  | 8 => s.mark a
  | _ => s.snapshotAction a

/-! ### Firing (R58, R61, R62, R73) -/

/-- The queue of a die with one transit changed or taken out. -/
def State.requeue (s : State) (q : QTransit) (new : List QTransit) : State :=
  let d := q.transit.die.val
  let put := fun (x : QTransit) => if x.idx = q.idx ∧ x.iter = q.iter then new else [x]
  { s with alm := { s.alm with queues := pset s.alm.queues d ((pget s.alm.queues d).map put).flatten } }
/-- The first transit of iteration 2 or later that fires clears the counters of its parity (R58). -/
def State.noteFired (s : State) (iter : Nat) : State :=
  if iter ∈ s.alm.fired then s
  else
    let gates := if 2 ≤ iter then s.gates.filter (fun p => p.1 % 2 != iter % 2) else s.gates
    { s with gates := gates, alm := { s.alm with fired := iter :: s.alm.fired.take 3 } }
/-- A transit fires: its action starts. -/
def State.fire (s : State) (h : AlmHeader) (q : QTransit) : State :=
  let s := (s.requeue q []).noteFired q.iter
  let (id, s) := s.takeId
  let t := q.transit
  let left := if t.action = 1 then t.coreCount * (maskList 32 t.threadMask.toNat).length else 1
  let a : Action := ⟨id, s.alm.gen, h.asid, q.iter, h.step q.iter, t, left, false⟩
  ({ s with alm := { s.alm with actions := s.alm.actions ++ [a] } } : State).startAction a
/-- Transits that a die holds. -/
def State.heldCount (s : State) (d : Nat) : Nat := ((pget s.alm.queues d).filter (fun q => q.held)).length
/-- What a die has left to look at in a slot: transits, and the units that earlier ones wait for. -/
abbrev Turn := List QTransit × List Nat
/-- A die's next firing: transits that cannot fire are held, up to 1,024; a full die takes no further transit from its queue. -/
def State.fireNext (h : AlmHeader) (d : Nat) : List QTransit → List Nat → State → State × Turn
  | [], blocked, s => (s, [], blocked)
  | q :: rest, blocked, s =>
    if !q.held && decide (1024 ≤ s.heldCount d) then (s, [], blocked)
    else if s.mayFire h q blocked then (s.fire h q, rest, blocked)
    else State.fireNext h d rest (blocked ++ q.transit.units) (s.requeue q [{ q with held := true }])
/-- The firings of one tick on the four dies. -/
def State.fireTick (h : AlmHeader) (p : State × PerDie Turn) : State × PerDie Turn :=
  (List.range 4).foldl (fun p d =>
    let (todo, blocked) := pget p.2 d
    let (s, t) := State.fireNext h d todo blocked p.1
    (s, pset p.2 d t)) p
/-- The firings from a tick on, the n-th of a die at tick n - 1; at most 1,984 (R62). -/
def State.fireTicks (h : AlmHeader) (base : Nat) : Nat → PerDie Turn → State → State
  | 0, _, s => s
  | n + 1, turns, s =>
    if (plist turns).all (fun t => t.1 == []) then s
    else
      let (s, turns) := State.fireTick h (s.setSdt (base + (1983 - n)), turns)
      State.fireTicks h base n turns s
/-- The transits due fire: held ones first, in table order. -/
def State.firePass (s : State) : State :=
  match s.alm.hdr with
  | some h =>
    let base := s.sdt
    let s := State.readDue 7936 s
    let turns := pmap (fun l => (l.filter (fun q => decide (s.dueOf q < s.alm.nextAlm)), ([] : List Nat))) s.alm.queues
    if s.running && !s.power.tripped then (State.fireTicks h base 1984 turns s).setSdt base else s
  | none => s

/-! ### Almanac slots (R50, R63, R70, R262, R496) -/

/-- The Almanac slot of a working slot: a slip slot, or the next one; none after the last iteration, and none while paused. -/
def State.newSlot (s : State) : State :=
  match s.alm.state, s.alm.hdr with
  | .running, some h =>
    match s.alm.slips.find? (fun p => decide (p.1 ≤ s.alm.nextAlm)) with
    | some p =>
      let slips := if p.2 ≤ 1 then s.alm.slips.erase p else s.alm.slips.replace p (p.1, p.2 - 1)
      { s with alm := { s.alm with cur := none, slips := slips } }
    | none =>
      let n := s.alm.nextAlm
      let past := decide (h.iterations * h.length ≤ n)
      { s with alm := { s.alm with cur := if past then none else some n, iteration := min (n / max 1 h.length) (h.iterations - 1), nextAlm := n + 1 } }
  | _, _ => { s with alm := { s.alm with cur := none } }
/-- The slot that has begun is one of a conjunction. -/
def State.atConjunction (s : State) : Bool :=
  match s.alm.cur, s.alm.hdr with
  | some c, some h => (h.conjAt c).isSome
  | _, _ => false
/-- A new epoch: no line is exported, and the Eaves copies are invalid (R260 to R263). -/
def State.newEpoch (s : State) : State :=
  ({ s with cache := { s.cache with loft := s.cache.loft.map (fun l => { l with exported := false }), violated := [], epochFaulted := false } } : State).eavesInvalidate
/-- Agents that are stopped at the beginning of a working slot (R164, R249, R303, R498). -/
def State.stoppedAgents (s : State) : List Nat :=
  (if s.trans.preempt == .running then [] else [0]) ++
    (s.movers.filter (fun p => p.2.status == .parked)).map (fun p => 1000 + p.1) ++
    (s.cores.map (fun p => ((List.range 4).filter (fun n => (p.2.arraysStopped ||| p.2.faultStop).getLsbD n)).map (stopKeyArray p.1))).flatten ++
    (s.upd.jobs.filter (fun j => j.parked || s.trans.preempt != .running)).map (fun j => 4000 + j.id)
/-- The stopped agents of a slot counted. -/
def State.countStops (s : State) : State :=
  let s : State := { s with conj := { s.conj with stopMarked := [] } }
  s.stoppedAgents.foldl State.countStop s

/-! ### The boundary -/

/-- SDT compared on every die (R40): a die that holds another value is a package-fatal fault 0xE5. -/
def State.compareSdt (s : State) (upset : BitVec 4) (held : PerDie (BitVec 64)) : State :=
  (List.range 4).foldl (fun s d => if !upset.getLsbD d || (pget held d).toNat == s.sdt then s
    else s.packageFatal 0xE5 d .clocks 0xFFFF (natLe 8 s.sdt ++ natLe 8 (pget held d).toNat)) s
/-- Memory channels whose controller has requests in flight. -/
def State.channelsBusy (s : State) : List Nat := (s.cache.fills.map (fun f => channelOf (f.line * 256))).eraseDups
/-- Core whose scratch or accumulator file holds an LPA (R37). -/
def sramCore (lpa : Nat) : Nat := lpaDie lpa * 96 + (let o := lpa % 0x2000000000; if o < 0x40000000 then o / 0x400000 else (o - 0x40000000) / 0x100000) % 96
/-- Cores with foreground work in flight: threads, image fetches, arrays, update jobs, and accesses to their SRAM (R280). -/
def State.coresBusy (s : State) : List Nat :=
  let sram := fun (r : Req) => match r.target with
    | .here a => if r.done || inTiers a then none else some (sramCore a)
    | _ => none
  let threads : List Nat := (s.threads.filter (fun p => p.2.busy)).map (fun p => p.1 / 32)
  let cores : List Nat := (s.cores.filter (fun p => p.2.matrix != [] || p.2.fetches != [])).map (fun p => p.1)
  (threads ++ cores ++
    (s.upd.jobs.map (fun (j : UpdJob) => j.cores)).flatten ++ s.trans.reqs.filterMap sram).eraseDups
/-- Links that are due for a retrain and have flits unacknowledged (R314). -/
def State.linksBusy (s : State) : List Nat := (s.fab.links.filter (fun p => p.2.fecDue && p.2.replay != [])).map (fun p => p.1)
/-- The queued telemetry would go to a memory channel that has requests in flight (R478). -/
def State.teleBusy (s : State) : Bool :=
  match s.log.teleBuf with
  | [] => false
  | bs :: _ =>
    let a := s.dget 0x3030 1 + s.log.teleNext
    s.teleSize != 0 && (vaPieces a bs.length).any (fun p => decide (channelOf (s.place p.1) ∈ s.channelsBusy))
/-- Keys of the background tasks whose memory channel, PHY or link, or core for its SRAM scrub, has foreground work in flight (R51, R280). -/
def State.busyTasks (s : State) : List Nat :=
  s.channelsBusy ++ s.linksBusy.map (fun l => 2000 + l) ++ s.coresBusy.map (fun g => 3000 + g) ++ (if s.teleBusy then [teleKey] else [])

/-- Die of a background task's resource (R51). -/
def State.taskDie (s : State) (key : Nat) : Nat :=
  if key < 1024 then key / 256 else if key < 1088 then (key - 1024) / 16
  else if 2000 ≤ key ∧ key < 2036 then linkDie (key - 2000)
  else if 3000 ≤ key ∧ key < 3384 then coreDie (key - 3000)
  else s.leader
/-- A task put off once more; 16 times in a row are an event, whose resource kind the spec does not code (R51, R470; log 74). -/
def State.deferTask (s : State) (key : Nat) : State :=
  let run := tget 0 s.log.deferRun key + 1
  let s := s.dadd 0x3100 (s.taskDie key + 1) 1
  let s : State := { s with log := { s.log with deferRun := tset s.log.deferRun key run } }
  if run % 16 = 0 then
    let (kind, s) := s.takeFree 8
    s.event 0xF2 .lodestar (s.taskDie key) 0xFFFF (natLe 1 kind ++ natLe 4 run)
  else s
/-- A dusk slot begins: nothing fires, and the tasks whose resource is busy are deferred (R49, R51). -/
def State.duskSlot (s : State) : State :=
  let busy := s.busyTasks
  let s : State := { s with
    alm := { s.alm with cur := none }
    log := { s.log with deferred := busy, deferRun := s.log.deferRun.filter (fun p => decide (p.1 ∈ busy)), teleDusk := s.log.teleDusk + 1 } }
  busy.foldl State.deferTask s
/-- A working slot begins. -/
def State.workSlot (s : State) : State :=
  let s : State := { s with log := { s.log with deferred := [] } }
  let s := if s.throttle = 0 then s else s.dadd 0x3800 3 1
  let s : State := { s with power := { s.power with thermSlots := s.power.thermSlots + 1 }, time := { s.time with beaconWait := s.time.beaconWait - 1 } }
  if !s.leads then { s with alm := { s.alm with cur := none } }
  else
    let s := s.countStops.windowSlots.newSlot
    let s := if s.atConjunction then s.newEpoch else s
    if s.fabricMay then s.finishWindows else s
/-- The Skylight's snapshot of the slot, mirrored when its turn has come (R380, R382). -/
def State.skySlot (s : State) : State := if s.served then s.skySnapshot.mirrorStep else s
/-- One second of VIN has passed (R470). -/
def State.countSecond (s : State) : State := if 0 < s.slot ∧ s.slot % 781250 = 0 then s.dadd 0x3000 1 1 else s
/-- What happens at tick 0 of a slot. -/
def State.boundary (s : State) (junction : List (List Int)) (upset : BitVec 4) (held : PerDie (BitVec 64)) : State :=
  let s := ({ s with time := { s.time with boundaryOpen := false } } : State).compareSdt upset held
  let s := s.countSecond
  let s := if isDusk s.slot then s.duskSlot else s.workSlot
  let s := (s.junctionSample junction).finishHalt.skySlot
  let s := if s.leads && !isDusk s.slot then s.firePass else s
  s.slew.reviewLock
/-- An event that comes first at this boundary has not been taken: a start, a resumption, a conjunction's effect, or the reading of a descriptor due (R56, R61); or the beacon request of the slot that ends (R46). -/
def State.boundaryBlocked (s : State) : Bool :=
  let working := !isDusk s.slot
  s.beaconDue || s.leads && (s.startDue || s.resumeDue || (working && s.dueWindow.isSome) ||
    (working && s.alm.state == .running && !s.slipNow && s.unreadDue s.alm.nextAlm))
/-- SLOT_BOUNDARY: the junction readings of each die, and the SDT values that upset dies hold (log 8). -/
def execSlotBoundary (junction : List (List Int)) (upset : BitVec 4) (held : PerDie (BitVec 64)) (s : State) : Result :=
  let t := s.atBoundary
  if !s.boundaryMay then .next s
  else when (!t.boundaryBlocked) s (t.boundary junction upset held)

end Sys2Proof.Machine
end

