-- ==== Sys2Proof/Machine/Vector.lean ====
section
/-! DEFINITION. The vector engine (file 07): arithmetic, reductions in a register, gathers and scatters, conversions, quantisation, plane split and special functions. -/
namespace Sys2Proof.Machine

/-! ### Issue and results -/

/-- Registers of a vector word that writes VD, when it does, and reads VA, VB, VC and SCALAR. -/
def vKeys (d a b c sc : Bool) (w : Nat) : Regs :=
  ⟨(if a then [32 + wVa w] else []) ++ (if b then [32 + wVb w] else []) ++ (if c then [32 + wVc w] else []) ++ (if sc then [wScalar w] else []),
    if d then [32 + wVd w] else []⟩
/-- Registers read and written beside these. -/
def Regs.also (r : Regs) (reads writes : List Nat) : Regs := ⟨r.reads ++ reads, r.writes ++ writes⟩

/-- A vector instruction of a thread: one issue cycle is counted on its die (R186). -/
def State.vector (s : State) (g t cls op : Nat) (regs : Nat → Regs) (effect : State → Thread → Nat → State) : Result :=
  s.issueInstr g t (isOp cls op) (fun _ => false) regs
    (fun s th w => (effect s th w).dadd 0x3003 (coreDie g + 1) 1)

/-- The thread with VD written. -/
def State.putVd (s : State) (g t : Nat) (th : Thread) (w v : Nat) : State := s.setThread g t (th.setV (wVd w) v).advance

/-- Lanes in their type with the result lanes written to VD. Each result carries whether it is an invalid NaN. -/
def State.putLanes (s : State) (g t : Nat) (th : Thread) (w : Nat) (ls : List (Nat × Bool)) : State :=
  (s.invalidLanes g (ls.filter (fun p => p.2)).length).putVd g t th w (packLanes (wType w) (ls.map (fun p => p.1)))

/-! ### Lane arithmetic (R188, R190) -/

/-- A result rounded by RNE to a lane type, and whether it is an invalid NaN (R114, R218). -/
def laneResult (ty : Nat) (ops : List Val) (v : Val) : Nat × Bool := (encodeLane ty .rne 0 v, v.isNan && !ops.any Val.isNan)

/-- Exact sum in a lane type (R190). -/
def laneAdd (ty : Nat) (a b : Val) : Val := if ty = 2 then a.addAq b else a.add b

/-- One lane of a two-operand operation: `f` on exact values, `i` on INT32 patterns. -/
def lane2 (ty : Nat) (f : Val → Val → Val) (i : Int → Int → Int) (x y : Nat) : Nat × Bool :=
  if ty = 11 then (ofSigned 32 (i (toSigned 32 x) (toSigned 32 y)), false)
  else
    let a := decodeLane ty x
    let b := decodeLane ty y
    laneResult ty [a, b] (f a b)

/-- One lane of a one-operand operation. -/
def lane1 (ty : Nat) (f : Val → Val) (i : Int → Int) (x : Nat) : Nat × Bool :=
  if ty = 11 then (ofSigned 32 (i (toSigned 32 x)), false)
  else
    let a := decodeLane ty x
    laneResult ty [a] (f a)

/-- VA, VB to VD lane by lane. -/
def binaryEffect (g t : Nat) (lane : Nat → Nat → Nat → Nat × Bool) (s : State) (th : Thread) (w : Nat) : State :=
  let ty := wType w
  s.putLanes g t th w (List.zipWith (lane ty) (lanesOf ty (th.v (wVa w))) (lanesOf ty (th.v (wVb w))))

/-- VA to VD lane by lane. -/
def unaryEffect (g t : Nat) (lane : Nat → Nat → Nat × Bool) (s : State) (th : Thread) (w : Nat) : State :=
  let ty := wType w
  s.putLanes g t th w ((lanesOf ty (th.v (wVa w))).map (lane ty))

/-- VADD. -/
def execVadd (core : Fin 384) (thread : Fin 32) (s : State) : Result :=
  s.vector core thread 4 0x01 (vKeys true true true false false)
    (binaryEffect core thread (fun ty => lane2 ty (laneAdd ty) (· + ·)))
/-- VSUB. -/
def execVsub (core : Fin 384) (thread : Fin 32) (s : State) : Result :=
  s.vector core thread 4 0x02 (vKeys true true true false false)
    (binaryEffect core thread (fun ty => lane2 ty (fun a b => laneAdd ty a b.negate) (· - ·)))
/-- VMUL. -/
def execVmul (core : Fin 384) (thread : Fin 32) (s : State) : Result :=
  s.vector core thread 4 0x03 (vKeys true true true false false)
    (binaryEffect core thread (fun ty => lane2 ty Val.mul (· * ·)))

/-- VFMA of one register: va × vb + vc, rounded once. -/
def fmaEffect (g t : Nat) (s : State) (th : Thread) (w : Nat) : State :=
  let ty := wType w
  let ab := (lanesOf ty (th.v (wVa w))).zip (lanesOf ty (th.v (wVb w)))
  s.putLanes g t th w (List.zipWith (fun p z =>
    let a := decodeLane ty p.1
    let b := decodeLane ty p.2
    let c := decodeLane ty z
    laneResult ty [a, b, c] ((a.mul b).add c)) ab (lanesOf ty (th.v (wVc w))))
/-- VFMA. -/
def execVfma (core : Fin 384) (thread : Fin 32) (s : State) : Result :=
  s.vector core thread 4 0x04 (vKeys true true true true false) (fmaEffect core thread)

/-- VMAX of one register; with MOD[0] = 1 of magnitudes (R180, R182, R188). -/
def vmaxEffect (g t : Nat) (s : State) (th : Thread) (w : Nat) : State :=
  let f := if wMod w = 1 then (fun (a b : Val) => valMax a.abs b.abs) else valMax
  let i := if wMod w = 1 then (fun (a b : Int) => max (a.natAbs : Int) (b.natAbs : Int)) else max
  binaryEffect g t (fun ty => lane2 ty f i) s th w
/-- VMAX. -/
def execVmax (core : Fin 384) (thread : Fin 32) (s : State) : Result :=
  s.vector core thread 4 0x05 (vKeys true true true false false) (vmaxEffect core thread)
/-- VMIN. -/
def execVmin (core : Fin 384) (thread : Fin 32) (s : State) : Result :=
  s.vector core thread 4 0x06 (vKeys true true true false false) (binaryEffect core thread (fun ty => lane2 ty valMin min))
/-- VABS. -/
def execVabs (core : Fin 384) (thread : Fin 32) (s : State) : Result :=
  s.vector core thread 4 0x07 (vKeys true true false false false)
    (unaryEffect core thread (fun ty => lane1 ty Val.abs (fun i => (i.natAbs : Int))))
/-- VNEG. -/
def execVneg (core : Fin 384) (thread : Fin 32) (s : State) : Result :=
  s.vector core thread 4 0x08 (vKeys true true false false false)
    (unaryEffect core thread (fun ty => lane1 ty Val.negate (fun i => -i)))

/-- VCMP of one register: masks over the whole lane width (R188). -/
def vcmpEffect (g t : Nat) (s : State) (th : Thread) (w : Nat) : State :=
  binaryEffect g t (fun ty x y =>
    (if vcmpHolds (wMod w) (decodeLane ty x) (decodeLane ty y) then 2 ^ (8 * laneBytes ty) - 1 else 0, false)) s th w
/-- VCMP. -/
def execVcmp (core : Fin 384) (thread : Fin 32) (s : State) : Result :=
  s.vector core thread 4 0x09 (vKeys true true true false false) (vcmpEffect core thread)

/-- VSEL of one register: whole lanes copied unchanged. -/
def vselEffect (g t : Nat) (s : State) (th : Thread) (w : Nat) : State :=
  let ty := wType w
  let ab := (lanesOf ty (th.v (wVa w))).zip (lanesOf ty (th.v (wVb w)))
  s.putVd g t th w (packLanes ty (List.zipWith (fun p z => if z = 0 then p.2 else p.1) ab (lanesOf ty (th.v (wVc w)))))
/-- VSEL. -/
def execVsel (core : Fin 384) (thread : Fin 32) (s : State) : Result :=
  s.vector core thread 4 0x0A (vKeys true true true true false) (vselEffect core thread)

/-! ### Reductions in a register (R189) -/

/-- The segments of a register's lanes. -/
def segments (ty v seg : Nat) : List (List Nat) :=
  let n := 256 / laneBytes ty
  chunksOf (n / 2 ^ seg) (2 ^ seg) (lanesOf ty v)

/-- Lanes placed at their numbers, every other lane zero. -/
def placeLanes (n : Nat) (ls : List (Nat × Nat)) : List Nat := (List.range n).map (fun i => ((ls.find? (fun p => p.1 == i)).map (fun p => p.2)).getD 0)

/-- VRSUM of a segment: the pairwise shape, each addition rounded by RNE. -/
def segmentSum (ty : Nat) (ls : List Nat) : Nat × Bool :=
  if ty = 11 then (((pairwise (fun a b => (a + b) % 2 ^ 32) 8 ls).getD 0), false)
  else
    let vs := ls.map (decodeLane ty)
    let r := (pairwise (fun a b => decodeLane ty (encodeLane ty .rne 0 (laneAdd ty a b))) 8 vs).getD .zero
    laneResult ty vs r

/-- VRSUM of one register. -/
def vrsumEffect (g t : Nat) (s : State) (th : Thread) (w : Nat) : State :=
  let ty := wType w
  let rs := (segments ty (th.v (wVa w)) (wMod w % 4)).map (segmentSum ty)
  (s.invalidLanes g (rs.filter (fun p => p.2)).length).putVd g t th w
    (packLanes ty (placeLanes (256 / laneBytes ty) (rs.zipIdx.map (fun p => (p.2, p.1.1)))))
/-- VRSUM. -/
def execVrsum (core : Fin 384) (thread : Fin 32) (s : State) : Result :=
  s.vector core thread 4 0x0B (vKeys true true false false false) (vrsumEffect core thread)

/-- VRMAX or VRMIN of one register: value to lane j, winner index to lane 8 + j (R181, R189). -/
def vrmaxEffect (least : Bool) (g t : Nat) (s : State) (th : Thread) (w : Nat) : State :=
  let segs := segments 0 (th.v (wVa w)) (wMod w % 4)
  let size := 64 / 2 ^ (wMod w % 4)
  let rs := segs.zipIdx.map (fun p =>
    let vs := p.1.map (fun c => if wMod w / 4 = 1 then (ofF32 c).abs else ofF32 c)
    (p.2, (treeOf 0 (idxComb least) (vs.zipIdx.map (fun q => (q.1, p.2 * size + q.2)))).getD (.zero, 0)))
  s.putVd g t th w (packLanes 0 (placeLanes 64 ((rs.map (fun r => (r.1, toF32 r.2.1))) ++ (rs.map (fun r => (8 + r.1, r.2.2))))))
/-- VRMAX. -/
def execVrmax (core : Fin 384) (thread : Fin 32) (s : State) : Result :=
  s.vector core thread 4 0x0C (vKeys true true false false false) (vrmaxEffect false core thread)
/-- VRMIN. -/
def execVrmin (core : Fin 384) (thread : Fin 32) (s : State) : Result :=
  s.vector core thread 4 0x0D (vKeys true true false false false) (vrmaxEffect true core thread)

/-- VBCAST of one register. -/
def vbcastEffect (g t : Nat) (s : State) (th : Thread) (w : Nat) : State :=
  let ty := wType w
  let x := th.s (wScalar w) % 2 ^ (if ty = 2 then 48 else 8 * laneBytes ty)
  s.putVd g t th w (packLanes ty (List.replicate (256 / laneBytes ty) x))
/-- VBCAST. -/
def execVbcast (core : Fin 384) (thread : Fin 32) (s : State) : Result :=
  s.vector core thread 4 0x0E (vKeys true false false false true) (vbcastEffect core thread)

/-! ### Gathers and scatters (R201 to R203) -/

/-- Scratch offset of each lane; none for a skipped lane (R201). -/
def laneOffsets (th : Thread) (w : Nat) : List (Option Nat) :=
  let z := laneBytes (wType w)
  ((lanesOf 11 (th.v (wVa w))).take (256 / z)).map (fun i =>
    if i = 0xFFFFFFFF then none else some ((th.s (wScalar w) + i * z) % 2 ^ 64))

/-- Every offset is aligned and within scratch. -/
def offsetsOk (z : Nat) (os : List (Option Nat)) : Bool :=
  os.all (fun o => match o with
    | some o => inScratch o z && o % z == 0
    | none => true)

/-- The largest number of distinct granules touched in one bank (R203). -/
def bankCost (os : List (Option Nat)) : Nat :=
  let gs := (os.filterMap (fun o => o.map (· / 64))).foldl (fun l a => addNew a l) []
  (List.range 64).foldl (fun m b => max m (gs.filter (fun a => a % 64 == b)).length) 0

/-- Cycles of gathers and scatters (R203). -/
def State.gatherCycles (s : State) (g n : Nat) : State := s.dadd 0x2230 (coreDie g + 1) n

/-- VGATHER: a skipped lane is written as zero. -/
def vgatherEffect (g t : Nat) (s : State) (th : Thread) (w : Nat) : State :=
  let z := laneBytes (wType w)
  let os := laneOffsets th w
  if !offsetsOk z os then s.threadFault g t 0x32
  else
    (s.gatherCycles g (bankCost os)).putVd g t th w (packLanes (wType w) (os.map (fun o => match o with
      | some o => leNat (s.read (scratchLpa g o) z)
      | none => 0)))
/-- VGATHER. -/
def execVgather (core : Fin 384) (thread : Fin 32) (s : State) : Result :=
  s.vector core thread 4 0x10 (vKeys true true false false true) (vgatherEffect core thread)

/-- VSCATTER: lanes in ascending order. -/
def vscatterEffect (g t : Nat) (s : State) (th : Thread) (w : Nat) : State :=
  let z := laneBytes (wType w)
  let os := laneOffsets th w
  if !offsetsOk z os then s.threadFault g t 0x32
  else
    let s := s.gatherCycles g (bankCost os)
    let s := (os.zip (lanesOf (wType w) (th.v (wVb w)))).foldl (fun s p => match p.1 with
      | some o => s.store (scratchLpa g o) (natLe z p.2)
      | none => s) s
    s.next g t
/-- VSCATTER. -/
def execVscatter (core : Fin 384) (thread : Fin 32) (s : State) : Result :=
  s.vector core thread 4 0x11 (vKeys false true true false true) (vscatterEffect core thread)

/-- One lane of VSCATADD: RNE(m + x) in the lane type, stored in place. -/
def scatterAdd (g ty : Nat) (s : State) (o x : Nat) : State :=
  let z := laneBytes ty
  let a := decodeLane ty (leNat (s.read (scratchLpa g o) z))
  let b := decodeLane ty x
  let r := laneResult ty [a, b] (laneAdd ty a b)
  (s.invalidLanes g (ofBool r.2)).store (scratchLpa g o) (natLe z r.1)

/-- VSCATADD: every addition in ascending lane order. -/
def vscataddEffect (g t : Nat) (s : State) (th : Thread) (w : Nat) : State :=
  let z := laneBytes (wType w)
  let os := laneOffsets th w
  if !offsetsOk z os then s.threadFault g t 0x32
  else
    let s := s.gatherCycles g (2 * bankCost os)
    let s := (os.zip (lanesOf (wType w) (th.v (wVb w)))).foldl (fun s p => match p.1 with
      | some o => scatterAdd g (wType w) s o p.2
      | none => s) s
    s.next g t
/-- VSCATADD. -/
def execVscatadd (core : Fin 384) (thread : Fin 32) (s : State) : Result :=
  s.vector core thread 4 0x12 (vKeys false true true false true) (vscataddEffect core thread)

/-! ### Bitwise operations and shifts (R188) -/

/-- A bitwise operation of one register. -/
def bitwiseEffect (g t : Nat) (f : Nat → Nat → Nat) (s : State) (th : Thread) (w : Nat) : State :=
  binaryEffect g t (fun _ x y => (f x y % 2 ^ 32, false)) s th w
/-- VAND. -/
def execVand (core : Fin 384) (thread : Fin 32) (s : State) : Result :=
  s.vector core thread 4 0x14 (vKeys true true true false false) (bitwiseEffect core thread (· &&& ·))
/-- VOR. -/
def execVor (core : Fin 384) (thread : Fin 32) (s : State) : Result :=
  s.vector core thread 4 0x15 (vKeys true true true false false) (bitwiseEffect core thread (· ||| ·))
/-- VXOR. -/
def execVxor (core : Fin 384) (thread : Fin 32) (s : State) : Result :=
  s.vector core thread 4 0x16 (vKeys true true true false false) (bitwiseEffect core thread (· ^^^ ·))
/-- VSHL. -/
def execVshl (core : Fin 384) (thread : Fin 32) (s : State) : Result :=
  s.vector core thread 4 0x17 (vKeys true true true false false) (bitwiseEffect core thread (fun x y => x <<< (y % 32)))
/-- VSHR. -/
def execVshr (core : Fin 384) (thread : Fin 32) (s : State) : Result :=
  s.vector core thread 4 0x18 (vKeys true true true false false) (bitwiseEffect core thread (fun x y => x >>> (y % 32)))

/-! ### Conversions (R192 to R195, R199) -/

/-- The SRG draw of a VECTOR_CONVERT lane (R122). -/
def State.convertDraw (s : State) (th : Thread) (w n : Nat) : Nat :=
  let a := th.s (wScalar w)
  srg s.jobSeed (a / 2 ^ 32) (a % 2 ^ 32) ((th.s (wScalar w + 1) % 2 ^ 32 + n) % 2 ^ 32) 0xFFFFFFF1 th.step

/-- The rounding mode of a word. -/
def wMode (w : Nat) : RMode := (rmodeOf (wRnd w)).getD .rne

/-- VCVT of one register (R192). -/
def vcvtEffect (g t : Nat) (s : State) (th : Thread) (w : Nat) : State :=
  let src := field (wMod w) 0 4
  let dst := wType w
  let part := field (wMod w) 4 2
  let span := 256 / cvtRatio src dst
  let bytes := th.vBytes (wVa w)
  let widen := decide (laneBytes src < laneBytes dst)
  let codes := if widen then lanesOf src (leNat (slice bytes (part * span) span)) else lanesOf src (th.v (wVa w))
  let codes := if widen then codes.take (span / laneBytes src) else codes
  let first := if widen then part * (span / laneBytes src) else 0
  let conv := fun (p : Nat × Nat) =>
    let v := decodeLane src p.1
    let u := if wRnd w = 2 then s.convertDraw th w (first + p.2) else 0
    (encodeLane dst (wMode w) u v, false)
  let out := codes.zipIdx.map conv
  let packed := packLanes dst (out.map (fun p => p.1))
  let v := if laneBytes dst < laneBytes src then leNat (patch (th.vBytes (wVd w)) (part * span) (natLe span packed)) else packed
  s.putVd g t th w v
/-- Registers of VCVT: a narrowing conversion keeps the rest of VD (R192). -/
def vcvtRegs (w : Nat) : Regs :=
  (vKeys true true false false (wRnd w == 2) w).also
    ((if wRnd w = 2 then [wScalar w + 1] else []) ++ (if laneBytes (wType w) < laneBytes (field (wMod w) 0 4) then [32 + wVd w] else [])) []
/-- VCVT. -/
def execVcvt (core : Fin 384) (thread : Fin 32) (s : State) : Result :=
  s.vector core thread 5 0x01
    vcvtRegs (vcvtEffect core thread)

/-- A second destination in the same register: the spec states no result, so that register holds a free value, the same for the same word and results (R72; log 5). -/
def State.clash (s : State) (g t w : Nat) (same : Bool) (v x y : Nat) : State :=
  if same then
    let z := Config.clash (BitVec.ofNat 64 w) (BitVec.ofNat 2048 x) (BitVec.ofNat 2048 y)
    s.setThread g t ((s.thread g t).setV v z.toNat)
  else s

/-- VQUANT to an integer type: RNE of the exact product with the multiplier in lane 0 of VB. -/
def quantIntEffect (g t : Nat) (s : State) (th : Thread) (w : Nat) : State :=
  let ty := wType w
  let q := ofF32 (th.v (wVb w) % 2 ^ 32)
  let codes := (lanesOf 0 (th.v (wVa w))).map (fun c => (encodeInt ty ((ofF32 c).mul q)).1)
  s.putVd g t th w (leNat (patch (th.vBytes (wVd w)) (field (wMod w) 0 8) (packBits (typeBits ty) codes)))

/-- VQUANT to an MX format: elements to VD, written scales and status bytes to VC (R193). -/
def quantMxEffect (f : Fmt) (g t : Nat) (s : State) (th : Thread) (w : Nat) : State :=
  let ty := wType w
  let bs := if bit (wMod w) 8 then 16 else 32
  let sr := wRnd w == 2
  let mask := if bit (wMod w) 9 then th.s (if sr then wScalar w + 2 else wScalar w) else 0
  let es := (lanesOf 0 (th.v (wVa w))).zipIdx.map (fun p =>
    (ofF32 p.1, if sr then s.convertDraw th w p.2 else 0, bit mask p.2))
  let vb := th.vBytes (wVb w)
  let qs := (chunksOf bs 4 es).zipIdx.map (fun p => quantBlock f (wMode w) (leAt vb p.2 1) p.1)
  let codes := (qs.map (fun q => q.codes)).flatten
  let vc := padTo 8 ((qs.map (fun q => BitVec.ofNat 8 q.scale))) ++ padTo 8 (qs.map (fun q => BitVec.ofNat 8 q.status))
  let vd := leNat (patch (th.vBytes (wVd w)) (field (wMod w) 0 8) (packBits (typeBits ty) codes))
  let s := s.setThread g t ((th.setV (wVd w) vd).setV (wVc w) (leNat vc)).advance
  s.clash g t w (wVd w == wVc w) (wVd w) vd (leNat vc)

/-- VQUANT of one register. -/
def vquantEffect (g t : Nat) (s : State) (th : Thread) (w : Nat) : State :=
  match mxFmt (wType w) with
  | some f => quantMxEffect f g t s th w
  | none => quantIntEffect g t s th w
/-- Registers of VQUANT: the packed elements are placed in VD, scales and status bytes fill VC (R193). -/
def vquantRegs (w : Nat) : Regs :=
  let sr := wRnd w == 2
  let mask := bit (wMod w) 9
  (vKeys true true true false (sr || mask) w).also
    ((32 + wVd w) :: (if sr then [wScalar w + 1] else []) ++ (if sr && mask then [wScalar w + 2] else [])) (if isMxType (wType w) then [32 + wVc w] else [])
/-- VQUANT. -/
def execVquant (core : Fin 384) (thread : Fin 32) (s : State) : Result :=
  s.vector core thread 5 0x02 vquantRegs (vquantEffect core thread)

/-- VDEQUANT of one register (R194). -/
def vdequantEffect (g t : Nat) (s : State) (th : Thread) (w : Nat) : State :=
  let ty := wType w
  let bits := typeBits ty
  let codes := unpackBits bits 64 (slice (th.vBytes (wVa w)) (field (wMod w) 0 8) (8 * bits))
  match mxFmt ty with
  | some f =>
    let bs := if bit (wMod w) 8 then 16 else 32
    let vb := th.vBytes (wVb w)
    let out := codes.zipIdx.map (fun p => toF32 (decodeMx f (leAt vb (p.2 / bs) 1) p.1))
    s.putVd g t th w (packLanes 0 out)
  | none =>
    let q := ofF32 (th.v (wVb w) % 2 ^ 32)
    let out := codes.map (fun c => laneResult 0 [q] ((Val.ofInt (decodeInt ty c)).mul q))
    (s.invalidLanes g (out.filter (fun p => p.2)).length).putVd g t th w (packLanes 0 (out.map (fun p => p.1)))
/-- VDEQUANT. -/
def execVdequant (core : Fin 384) (thread : Fin 32) (s : State) : Result :=
  s.vector core thread 5 0x03 (vKeys true true true false false) (vdequantEffect core thread)

/-- VSPLIT of one register: high plane to VD, low plane to VC, scales to VB (R199). -/
def vsplitEffect (g t : Nat) (s : State) (th : Thread) (w : Nat) : State :=
  let bs := if bit (wMod w) 8 then 16 else 32
  let at_ := field (wMod w) 0 8
  let blocks := (chunksOf bs 4 ((lanesOf 0 (th.v (wVa w))).map ofF32)).map splitBlock
  let hi := packBits 6 ((blocks.map (fun b => b.1)).flatten)
  let lo := packBits 6 ((blocks.map (fun b => b.2.1)).flatten)
  let vb := padTo 4 (blocks.map (fun b => BitVec.ofNat 8 b.2.2.1)) ++ padTo 4 (blocks.map (fun b => BitVec.ofNat 8 b.2.2.2))
  let vd := leNat (patch (th.vBytes (wVd w)) at_ hi)
  let vc := leNat (patch (th.vBytes (wVc w)) at_ lo)
  let s := s.setThread g t (((th.setV (wVd w) vd).setV (wVc w) vc).setV (wVb w) (leNat vb)).advance
  let s := s.clash g t w (wVd w == wVc w || wVd w == wVb w) (wVd w) vd (if wVd w = wVc w then vc else leNat vb)
  s.clash g t w (wVc w == wVb w && wVd w != wVc w) (wVc w) vc (leNat vb)
/-- Registers of VSPLIT: both planes are placed in their registers, the scales fill VB (R199). -/
def vsplitRegs (w : Nat) : Regs := (vKeys true true false false false w).also [32 + wVd w, 32 + wVc w] [32 + wVc w, 32 + wVb w]
/-- VSPLIT. -/
def execVsplit (core : Fin 384) (thread : Fin 32) (s : State) : Result :=
  s.vector core thread 5 0x04 vsplitRegs (vsplitEffect core thread)

/-- VSCALE of one register (R195). -/
def vscaleEffect (g t : Nat) (s : State) (th : Thread) (w : Nat) : State :=
  match mxFmt (wType w) with
  | some f => s.putVd g t th w (leNat ((lanesOf 0 (th.v (wVa w))).map (fun c => BitVec.ofNat 8 (vscale f (wMod w % 4) (ofF32 c)))))
  | none => s
/-- VSCALE. -/
def execVscale (core : Fin 384) (thread : Fin 32) (s : State) : Result :=
  s.vector core thread 5 0x05 (vKeys true true false false false) (vscaleEffect core thread)

/-! ### Special functions (R191) -/

/-- A special function of one register, rounded directly to the lane type. -/
def sfuEffect (op g t : Nat) (s : State) (th : Thread) (w : Nat) : State :=
  unaryEffect g t (fun ty => lane1 ty (sfuVal op) id) s th w
/-- VEXP. -/
def execVexp (core : Fin 384) (thread : Fin 32) (s : State) : Result :=
  s.vector core thread 6 0x01 (vKeys true true false false false) (sfuEffect 0x01 core thread)
/-- VEXP2. -/
def execVexp2 (core : Fin 384) (thread : Fin 32) (s : State) : Result :=
  s.vector core thread 6 0x02 (vKeys true true false false false) (sfuEffect 0x02 core thread)
/-- VLN. -/
def execVln (core : Fin 384) (thread : Fin 32) (s : State) : Result :=
  s.vector core thread 6 0x03 (vKeys true true false false false) (sfuEffect 0x03 core thread)
/-- VLOG2. -/
def execVlog2 (core : Fin 384) (thread : Fin 32) (s : State) : Result :=
  s.vector core thread 6 0x04 (vKeys true true false false false) (sfuEffect 0x04 core thread)
/-- VRCP. -/
def execVrcp (core : Fin 384) (thread : Fin 32) (s : State) : Result :=
  s.vector core thread 6 0x05 (vKeys true true false false false) (sfuEffect 0x05 core thread)
/-- VRSQRT. -/
def execVrsqrt (core : Fin 384) (thread : Fin 32) (s : State) : Result :=
  s.vector core thread 6 0x06 (vKeys true true false false false) (sfuEffect 0x06 core thread)
/-- VTANH. -/
def execVtanh (core : Fin 384) (thread : Fin 32) (s : State) : Result :=
  s.vector core thread 6 0x07 (vKeys true true false false false) (sfuEffect 0x07 core thread)
/-- VSIGMOID. -/
def execVsigmoid (core : Fin 384) (thread : Fin 32) (s : State) : Result :=
  s.vector core thread 6 0x08 (vKeys true true false false false) (sfuEffect 0x08 core thread)
/-- VSINPI. -/
def execVsinpi (core : Fin 384) (thread : Fin 32) (s : State) : Result :=
  s.vector core thread 6 0x09 (vKeys true true false false false) (sfuEffect 0x09 core thread)
/-- VCOSPI. -/
def execVcospi (core : Fin 384) (thread : Fin 32) (s : State) : Result :=
  s.vector core thread 6 0x0A (vKeys true true false false false) (sfuEffect 0x0A core thread)

end Sys2Proof.Machine
end

