-- ==== Sys2Proof/Machine/Walks.lean ====
section
/-! DEFINITION. Page table walks (file 11): the translation that an agent waits for, the walk, and what its outcome does to the agent. -/
namespace Sys2Proof.Machine

/-! ### What an agent waits for -/

/-- The first page of a list of translations that the caches do not hold. -/
def State.firstMiss (s : State) (cs : List XCtx) : Option XCtx := cs.find? (fun c => s.lookup c == .miss)

/-- The contexts of the 256-byte pieces of a range. -/
def rangeCtxs (c : XCtx) (va n : Nat) : List XCtx := (vaPieces va n).map (fun p => { c with va := p.1 })

/-- What a thread's MEMORY instruction needs: every part of its access. -/
def State.threadNeeds (s : State) (g t : Nat) (write : Bool) : List XCtx :=
  let th := s.thread g t
  let w := s.word g t
  if s.mayIssue g t && wordLegal w && wClass w == 3 && classPermitted t w && th.executes w then
    (accessParts (effAddr th w) (sizeBytes (wSize w))).map (fun p => threadCtx g th p.1 (if write then 1 else 0))
  else []

/-- What an image fetch needs: its header, then its code. -/
def State.imageNeeds (s : State) (g launch : Nat) : List XCtx :=
  match s.action launch with
  | none => []
  | some a =>
    let c : XCtx := ⟨a.asid, a.transit.addr, 3, false, some g, coreDie g⟩
    if launch ∈ (s.core g).fetches then
      let head := rangeCtxs c a.transit.addr 32
      match s.lookup c with
      | .ok (.here x) _ =>
        match headerFields (s.read x 32) with
        | some (len, _, _) => head ++ rangeCtxs c (a.transit.addr + 32) len
        | none => head
      | _ => head
    else []

/-- What a mover needs next: its descriptor, of a stream that is aligned (R295), or the index, source and destination of its next piece. -/
def State.moverNeeds (s : State) (d m : Nat) : List XCtx :=
  let v := s.mover d m
  if !s.moverMay d m then []
  else match v.desc with
    | none => if v.cur < v.count ∧ v.addr % 64 = 0 then [moverCtx d v (v.descVa v.cur) 3] else []
    | some desc =>
      let desc := desc.toNat
      let index := if mdIndexed desc then [moverCtx d v (v.indexVa desc) 0] else []
      match s.readIndex d m desc with
      | (_, .bytes bs) =>
        let idx := leNat bs
        let (src, dst) := elemAddrs desc v.elem idx
        let skip := mdIndexed desc && idx == 0xFFFFFFFF
        let read := if skip then [] else [moverCtx d v ((src + v.off) % 2 ^ 64) 0]
        let write := if skip && mdOp desc != 2 then [] else [moverCtx d v ((dst + v.off) % 2 ^ 64) (mdDstAccess desc)]
        index ++ read ++ write
      | _ => index

/-- The spans that the next unit of work of a job's entry touches (R296). -/
def UpdJob.spans (j : UpdJob) : List Span :=
  let e := j.desc.toNat
  match j.phase with
  | .idle => if j.pos < j.count then [⟨j.base + 128 * j.pos, 128, false, true⟩] else []
  | .chunk => if ueOrtho e then momentumSpans e j.bank j.next else chunkSpans e j.bank j.next
  | .norm => [⟨ueAux e, 8 * ueChunks e, false, true⟩]
  | .product => [spaceSpan e]
  | .apply => applySpans e j.bank j.next
  | .rows => match j.rows[j.next]? with
    | some r => lazySpans e r.bank j.next r.row
    | none => []
  | .ratio => [⟨ueRatio e + 32, 16 * entryChunks e, false, true⟩]

/-- The spans that the next unit of follow-on work touches. -/
def FollowOn.spans (f : FollowOn) : List Span :=
  let e := f.desc.toNat
  match f.kind with
  | .publish => (if f.reads then [⟨ueCommit e + 8 * f.next, 8, true, true⟩] else []) ++ publishSpans e f.row f.bank
  | .ratio => [⟨ueRatio e, 32, true, false⟩]
  | .sweep => sweepSpans e f.next

/-- What a job needs for its next units of work. -/
def State.updNeeds (s : State) (id : Nat) : List XCtx :=
  match s.updJob id with
  | none => []
  | some j =>
    if !s.jobMay j then []
    else (j.spans ++ ((s.upd.follow.filter (fun f => f.job == id)).map FollowOn.spans).flatten).flatMap (fun sp =>
      (if sp.write && sp.read then rangeCtxs (j.ctx sp.va false) sp.va sp.len else []) ++ rangeCtxs (j.ctx sp.va sp.write) sp.va sp.len)

/-- The translations that an agent needs, in order. -/
def State.needs (s : State) (a : Agent) (write : Bool) : List XCtx :=
  match a with
  | .thread g t => s.threadNeeds g t write
  | .image g l => s.imageNeeds g l
  | .mover d m => if (s.mover d m).desc.isSome then s.moverNeeds d m else []
  | .moverDesc d m => if (s.mover d m).desc.isNone then s.moverNeeds d m else []
  | .update j => s.updNeeds j
  | .action _ => []

/-! ### Outcomes (R296, R297, R308) -/

/-- DIE, UNIT, CORE, POSITION and STEP of an agent in a park record (R297). -/
def State.agentWhere (s : State) (a : Agent) : Nat × Nat × Nat × Nat × Nat :=
  match a with
  | .thread g t => (coreDie g, t, g, (s.thread g t).pc / 8, (s.thread g t).step)
  | .image g l => (coreDie g, 0, g, 0, s.stepOf l)
  | .mover d m | .moverDesc d m => (d, m, 0x1FF, (s.mover d m).position, s.stepOf (s.mover d m).action)
  | .update j => match s.updJob j with
    | some x => (x.die, 0, x.coreOf x.next, (if x.phase = .idle then x.pos else x.next), x.step)
    | none => (0, 0, 0, 0, 0)
  | .action _ => (0, 0, 0, 0, 0)

/-- LOCATION and SUBLOCATION of an agent's fault. -/
def State.agentLoc (s : State) (a : Agent) : Nat × Nat :=
  match a with
  | .thread g t => (g, t)
  | .image g _ => (g, 0xFFFF)
  | .mover _ m | .moverDesc _ m => (0xFFFF, m)
  | .update _ => ((s.agentWhere a).2.2.1, 0xFFFF)
  | .action _ => (0xFFFF, 0xFFFF)

/-- What a walk's outcome does to the agent. -/
def State.walkOutcome (s : State) (a : Agent) (c : XCtx) (x : Xlate) : State :=
  let (die, unit, core, pos, step) := s.agentWhere a
  let (loc, sub) := s.agentLoc a
  match x with
  | .park kind level => s.parkAgent ⟨a, kind, level, c.asid, c.va, c.access, agentCode a, die, unit, core, pos, step, 0, 0⟩
  | .fault code => (s.xFault code die step loc sub c.asid c.va (agentCode a)).endAgent a
  | .poison lpa => (s.memoryPoison lpa (agentPlace a).1 die step loc sub).endAgent a
  | _ => s

/-- LPA of the first table entry that a walk reads (R282, R284, R287). -/
def State.walkFirst (s : State) (die asid va : Nat) : Option Nat :=
  match s.walkStart die asid va with
  | some (table, lv :: _) => some (table + 8 * field va lv.lsb lv.width)
  | _ => if s.dget 0x2600 0 = 0 then none else some (s.dget 0x2600 0 + 8 * asid)

/-- The sector that an ECC event names. -/
def eccSector : EccEvent → Option Nat
  | .clean => none
  | .corrected k => some k.val
  | .uncorrectable k => some k.val

/-- The event is of the sector of the first table entry that the walk reads. -/
def State.walkEccOk (s : State) (c : XCtx) (e : EccEvent) : Bool :=
  match eccSector e, s.walkFirst c.die c.asid c.va with
  | none, _ => true
  | some k, some a => k == s.place a % 256 / 32
  | some _, none => false

/-- What the ECC of the first table entry reports, in the Loft or at the controller. -/
def State.walkEcc (s : State) (c : XCtx) (e : EccEvent) : State :=
  match s.walkFirst c.die c.asid c.va with
  | some a => s.readEcc (s.line a) e
  | none => s

/-- The walk for an agent, and its outcome. -/
def State.pageWalk (s : State) (a : Agent) (c : XCtx) (e : EccEvent) : State :=
  let (s, x) := (s.walkEcc c e).walkFor c
  s.walkOutcome a c x

/-- PAGE_WALK: the first translation that the agent needs and the caches do not hold. -/
def execPageWalk (agent : Agent) (write : Bool) (ecc : EccEvent) (s : State) : Result :=
  match s.firstMiss (s.needs agent write) with
  | none => .next s
  | some c => when (s.walkEccOk c ecc) s (s.pageWalk agent c ecc)

end Sys2Proof.Machine
end

