-- ==== Sys2Proof/Machine/Dispatch.lean ====
section
/-! DEFINITION. The meaning of every command: one arm for each constructor of `Instr`. -/
namespace Sys2Proof.Machine

/-- The effect of a command on everything but the queue. -/
def exec (i : Instr) (s : State) : Host.Outcome State Fault Refusal :=
  match i with
  | .slotBoundary junction upset held => Sys2Proof.Machine.execSlotBoundary junction upset held s
  | .guardBandSample => Sys2Proof.Machine.execGuardBandSample s
  | .dimSkylightSnapshot => Sys2Proof.Machine.execDimSkylightSnapshot s
  | .beaconRequestSend => Sys2Proof.Machine.execBeaconRequestSend s
  | .unusedParentBeacon link => Sys2Proof.Machine.execUnusedParentBeacon link s
  | .beaconRequest t2frac t3frac turn => Sys2Proof.Machine.execBeaconRequest t2frac t3frac turn s
  | .beaconResponse t4frac => Sys2Proof.Machine.execBeaconResponse t4frac s
  | .parentClockLost => Sys2Proof.Machine.execParentClockLost s
  | .parentLinkRecovered link => Sys2Proof.Machine.execParentLinkRecovered link s
  | .rootPllLock die => Sys2Proof.Machine.execRootPllLock die s
  | .pllUnlock die => Sys2Proof.Machine.execPllUnlock die s
  | .refSwitch => Sys2Proof.Machine.execRefSwitch s
  | .armA via => Sys2Proof.Machine.execArmA via s
  | .armB via => Sys2Proof.Machine.execArmB via s
  | .stageA via => Sys2Proof.Machine.execStageA via s
  | .stageB via => Sys2Proof.Machine.execStageB via s
  | .unstage via => Sys2Proof.Machine.execUnstage via s
  | .disarm via => Sys2Proof.Machine.execDisarm via s
  | .almanacCheckDone => Sys2Proof.Machine.execAlmanacCheckDone s
  | .almanacStart => Sys2Proof.Machine.execAlmanacStart s
  | .almanacDescriptorRead => Sys2Proof.Machine.execAlmanacDescriptorRead s
  | .resumeSdtWrite via value => Sys2Proof.Machine.execResumeSdtWrite via value s
  | .pauseResume => Sys2Proof.Machine.execPauseResume s
  | .agreement => Sys2Proof.Machine.execAgreement s
  | .vectorDeadline => Sys2Proof.Machine.execVectorDeadline s
  | .seal => Sys2Proof.Machine.execSeal s
  | .sealDeadline => Sys2Proof.Machine.execSealDeadline s
  | .conjunctionDecision => Sys2Proof.Machine.execConjunctionDecision s
  | .conjunctionEffect => Sys2Proof.Machine.execConjunctionEffect s
  | .imageFetchDone core fetch => Sys2Proof.Machine.execImageFetchDone core fetch s
  | .scalar core thread op form => Sys2Proof.Machine.execScalar core thread op form s
  | .branch core thread cond => Sys2Proof.Machine.execBranch core thread cond s
  | .scratchLoad core thread signed cycle => Sys2Proof.Machine.execScratchLoad core thread signed cycle s
  | .scratchStore thread cycle => Sys2Proof.Machine.execScratchStore thread cycle s
  | .memoryLoad core thread signed => Sys2Proof.Machine.execMemoryLoad core thread signed s
  | .memoryStore thread reserved => Sys2Proof.Machine.execMemoryStore thread reserved s
  | .memoryResponse req => Sys2Proof.Machine.execMemoryResponse req s
  | .cinc core thread => Sys2Proof.Machine.execCinc core thread s
  | .cwait core thread => Sys2Proof.Machine.execCwait core thread s
  | .cread core thread => Sys2Proof.Machine.execCread core thread s
  | .barrier core thread => Sys2Proof.Machine.execBarrier core thread s
  | .ginc core thread => Sys2Proof.Machine.execGinc core thread s
  | .gread core thread => Sys2Proof.Machine.execGread core thread s
  | .sdtr core thread => Sys2Proof.Machine.execSdtr core thread s
  | .slotr core thread => Sys2Proof.Machine.execSlotr core thread s
  | .waitsdt core thread => Sys2Proof.Machine.execWaitsdt core thread s
  | .endThread core thread => Sys2Proof.Machine.execEndThread core thread s
  | .fence core thread => Sys2Proof.Machine.execFence core thread s
  | .vadd core thread => Sys2Proof.Machine.execVadd core thread s
  | .vsub core thread => Sys2Proof.Machine.execVsub core thread s
  | .vmul core thread => Sys2Proof.Machine.execVmul core thread s
  | .vfma core thread => Sys2Proof.Machine.execVfma core thread s
  | .vmax core thread => Sys2Proof.Machine.execVmax core thread s
  | .vmin core thread => Sys2Proof.Machine.execVmin core thread s
  | .vabs core thread => Sys2Proof.Machine.execVabs core thread s
  | .vneg core thread => Sys2Proof.Machine.execVneg core thread s
  | .vcmp core thread => Sys2Proof.Machine.execVcmp core thread s
  | .vsel core thread => Sys2Proof.Machine.execVsel core thread s
  | .vrsum core thread => Sys2Proof.Machine.execVrsum core thread s
  | .vrmax core thread => Sys2Proof.Machine.execVrmax core thread s
  | .vrmin core thread => Sys2Proof.Machine.execVrmin core thread s
  | .vbcast core thread => Sys2Proof.Machine.execVbcast core thread s
  | .vgather core thread => Sys2Proof.Machine.execVgather core thread s
  | .vscatter core thread => Sys2Proof.Machine.execVscatter core thread s
  | .vscatadd core thread => Sys2Proof.Machine.execVscatadd core thread s
  | .vand core thread => Sys2Proof.Machine.execVand core thread s
  | .vor core thread => Sys2Proof.Machine.execVor core thread s
  | .vxor core thread => Sys2Proof.Machine.execVxor core thread s
  | .vshl core thread => Sys2Proof.Machine.execVshl core thread s
  | .vshr core thread => Sys2Proof.Machine.execVshr core thread s
  | .vcvt core thread => Sys2Proof.Machine.execVcvt core thread s
  | .vquant core thread => Sys2Proof.Machine.execVquant core thread s
  | .vdequant core thread => Sys2Proof.Machine.execVdequant core thread s
  | .vsplit core thread => Sys2Proof.Machine.execVsplit core thread s
  | .vscale core thread => Sys2Proof.Machine.execVscale core thread s
  | .vexp core thread => Sys2Proof.Machine.execVexp core thread s
  | .vexp2 core thread => Sys2Proof.Machine.execVexp2 core thread s
  | .vln core thread => Sys2Proof.Machine.execVln core thread s
  | .vlog2 core thread => Sys2Proof.Machine.execVlog2 core thread s
  | .vrcp core thread => Sys2Proof.Machine.execVrcp core thread s
  | .vrsqrt core thread => Sys2Proof.Machine.execVrsqrt core thread s
  | .vtanh core thread => Sys2Proof.Machine.execVtanh core thread s
  | .vsigmoid core thread => Sys2Proof.Machine.execVsigmoid core thread s
  | .vsinpi core thread => Sys2Proof.Machine.execVsinpi core thread s
  | .vcospi core thread => Sys2Proof.Machine.execVcospi core thread s
  | .mwload core thread => Sys2Proof.Machine.execMwload core thread s
  | .mstream core thread => Sys2Proof.Machine.execMstream core thread s
  | .mdrain core thread => Sys2Proof.Machine.execMdrain core thread s
  | .mwloadStart core array => Sys2Proof.Machine.execMwloadStart core array s
  | .mwloadComplete core array => Sys2Proof.Machine.execMwloadComplete core array s
  | .mstreamStart core array => Sys2Proof.Machine.execMstreamStart core array s
  | .mstreamRow core busErr upset => Sys2Proof.Machine.execMstreamRow core busErr upset s
  | .mstreamComplete core => Sys2Proof.Machine.execMstreamComplete core s
  | .mdrainStart core array => Sys2Proof.Machine.execMdrainStart core array s
  | .mdrainStep core array => Sys2Proof.Machine.execMdrainStep core array s
  | .mdrainComplete core array => Sys2Proof.Machine.execMdrainComplete core array s
  | .updateEntry job => Sys2Proof.Machine.execUpdateEntry job s
  | .updateChunk job => Sys2Proof.Machine.execUpdateChunk job s
  | .lazyAdamRow job => Sys2Proof.Machine.execLazyAdamRow job s
  | .orthoProductTile job => Sys2Proof.Machine.execOrthoProductTile job s
  | .chunkSumFold job => Sys2Proof.Machine.execChunkSumFold job s
  | .publishRow rec => Sys2Proof.Machine.execPublishRow rec s
  | .ratioRecordWrite rec => Sys2Proof.Machine.execRatioRecordWrite rec s
  | .scaleSweepBlock rec => Sys2Proof.Machine.execScaleSweepBlock rec s
  | .loftRead of_ ecc => Sys2Proof.Machine.execLoftRead of_ ecc s
  | .loftWrite req ecc => Sys2Proof.Machine.execLoftWrite req ecc s
  | .controllerWriteAdd req ecc => Sys2Proof.Machine.execControllerWriteAdd req ecc s
  | .loftFillReturn line ecc => Sys2Proof.Machine.execLoftFillReturn line ecc s
  | .eavesFillReturn die line => Sys2Proof.Machine.execEavesFillReturn die line s
  | .stampRewrite guard => Sys2Proof.Machine.execStampRewrite guard s
  | .prefetchDistanceRevise die => Sys2Proof.Machine.execPrefetchDistanceRevise die s
  | .scrubDusk die found => Sys2Proof.Machine.execScrubDusk die found s
  | .scrubPassEnd die thatch => Sys2Proof.Machine.execScrubPassEnd die thatch s
  | .sramScrub core lpa found => Sys2Proof.Machine.execSramScrub core lpa found s
  | .cacheScrub die part line found => Sys2Proof.Machine.execCacheScrub die part line found s
  | .idleBankScrub core found => Sys2Proof.Machine.execIdleBankScrub core found s
  | .pageWalk agent write ecc => Sys2Proof.Machine.execPageWalk agent write ecc s
  | .parkRecordWrite => Sys2Proof.Machine.execParkRecordWrite s
  | .parkRelease via value => Sys2Proof.Machine.execParkRelease via value s
  | .parkAbandon via value => Sys2Proof.Machine.execParkAbandon via value s
  | .parkTimeout seq => Sys2Proof.Machine.execParkTimeout seq s
  | .invalRange via => Sys2Proof.Machine.execInvalRange via s
  | .invalAsid via => Sys2Proof.Machine.execInvalAsid via s
  | .invalAll via => Sys2Proof.Machine.execInvalAll via s
  | .invalComplete => Sys2Proof.Machine.execInvalComplete s
  | .stop via => Sys2Proof.Machine.execStop via s
  | .save via => Sys2Proof.Machine.execSave via s
  | .resume via => Sys2Proof.Machine.execResume via s
  | .preemptStopDone => Sys2Proof.Machine.execPreemptStopDone s
  | .preemptSaveDone => Sys2Proof.Machine.execPreemptSaveDone s
  | .preemptRestoreDone => Sys2Proof.Machine.execPreemptRestoreDone s
  | .stream die mover => Sys2Proof.Machine.execStream die mover s
  | .gather die mover => Sys2Proof.Machine.execGather die mover s
  | .scatter die mover => Sys2Proof.Machine.execScatter die mover s
  | .streamAdd die mover => Sys2Proof.Machine.execStreamAdd die mover s
  | .scatterAdd die mover => Sys2Proof.Machine.execScatterAdd die mover s
  | .moverDescriptorReadahead die mover => Sys2Proof.Machine.execMoverDescriptorReadahead die mover s
  | .moverPieceIssue die mover => Sys2Proof.Machine.execMoverPieceIssue die mover s
  | .descriptorRetire die mover => Sys2Proof.Machine.execDescriptorRetire die mover s
  | .seamRidgeFlit hop load wire => Sys2Proof.Machine.execSeamRidgeFlit hop load wire s
  | .dieLost die => Sys2Proof.Machine.execDieLost die s
  | .linkRetryTimer link => Sys2Proof.Machine.execLinkRetryTimer link s
  | .linkDetected link => Sys2Proof.Machine.execLinkDetected link s
  | .linkEqualised link laneMap polarity ok => Sys2Proof.Machine.execLinkEqualised link laneMap polarity ok s
  | .identity link flit => Sys2Proof.Machine.execIdentity link flit s
  | .linkRetrain link => Sys2Proof.Machine.execLinkRetrain link s
  | .linkDown link => Sys2Proof.Machine.execLinkDown link s
  | .flitReceived link flit => Sys2Proof.Machine.execFlitReceived link flit s
  | .creditUpdate link flit => Sys2Proof.Machine.execCreditUpdate link flit s
  | .nak link flit => Sys2Proof.Machine.execNak link flit s
  | .replayTimeout link => Sys2Proof.Machine.execReplayTimeout link s
  | .fenceNotice link incarnation => Sys2Proof.Machine.execFenceNotice link incarnation s
  | .fenceNoticeSend link => Sys2Proof.Machine.execFenceNoticeSend link s
  | .memRead => Sys2Proof.Machine.execMemRead s
  | .memWrite => Sys2Proof.Machine.execMemWrite s
  | .memWriteAdd => Sys2Proof.Machine.execMemWriteAdd s
  | .readData => Sys2Proof.Machine.execReadData s
  | .writeAck => Sys2Proof.Machine.execWriteAck s
  | .windowFrameSend window => Sys2Proof.Machine.execWindowFrameSend window s
  | .windowData => Sys2Proof.Machine.execWindowData s
  | .windowDone => Sys2Proof.Machine.execWindowDone s
  | .gateInc => Sys2Proof.Machine.execGateInc s
  | .gateAck => Sys2Proof.Machine.execGateAck s
  | .reduceGrant => Sys2Proof.Machine.execReduceGrant s
  | .reduceContrib => Sys2Proof.Machine.execReduceContrib s
  | .reduceAck => Sys2Proof.Machine.execReduceAck s
  | .reduceSegmentCombine root segment => Sys2Proof.Machine.execReduceSegmentCombine root segment s
  | .tokenCounts => Sys2Proof.Machine.execTokenCounts s
  | .tokenRow => Sys2Proof.Machine.execTokenRow s
  | .tokenAck => Sys2Proof.Machine.execTokenAck s
  | .quietRequestAbandon => Sys2Proof.Machine.execQuietRequestAbandon s
  | .fabricCommit via => Sys2Proof.Machine.execFabricCommit via s
  | .domainGeometryWrite via sub value => Sys2Proof.Machine.execDomainGeometryWrite via sub value s
  | .incarnationWrite via value => Sys2Proof.Machine.execIncarnationWrite via value s
  | .ethLinkUp link => Sys2Proof.Machine.execEthLinkUp link s
  | .ethPacket link packet => Sys2Proof.Machine.execEthPacket link packet s
  | .ethRetransmitTimeout link => Sys2Proof.Machine.execEthRetransmitTimeout link s
  | .ethAckTimer link => Sys2Proof.Machine.execEthAckTimer link s
  | .ethNeighborSolicitation link packet => Sys2Proof.Machine.execEthNeighborSolicitation link packet s
  | .ethEchoRequest link packet => Sys2Proof.Machine.execEthEchoRequest link packet s
  | .portReset port => Sys2Proof.Machine.execPortReset port s
  | .bar2Read port offset len => Sys2Proof.Machine.execBar2Read port offset len s
  | .bar2Write port offset bytes => Sys2Proof.Machine.execBar2Write port offset bytes s
  | .mirrorPeriodWrite via value => Sys2Proof.Machine.execMirrorPeriodWrite via value s
  | .hostGateInc via value => Sys2Proof.Machine.execHostGateInc via value s
  | .hostPieceCompletion req bytes => Sys2Proof.Machine.execHostPieceCompletion req bytes s
  | .hostAccess req status => Sys2Proof.Machine.execHostAccess req status s
  | .registerWrite via index sub value => Sys2Proof.Machine.execRegisterWrite via index sub value s
  | .segSelect port value => Sys2Proof.Machine.execSegSelect port value s
  | .segSnapshot port => Sys2Proof.Machine.execSegSnapshot port s
  | .segCommit port => Sys2Proof.Machine.execSegCommit port s
  | .segDiscard port => Sys2Proof.Machine.execSegDiscard port s
  | .segWindowWrite port offset bytes => Sys2Proof.Machine.execSegWindowWrite port offset bytes s
  | .dpRead frame full sigOk => Sys2Proof.Machine.execDpRead frame full sigOk s
  | .dpWrite frame full sigOk => Sys2Proof.Machine.execDpWrite frame full sigOk s
  | .sessionOpen frame full sigOk => Sys2Proof.Machine.execSessionOpen frame full sigOk s
  | .sessionClose frame full sigOk => Sys2Proof.Machine.execSessionClose frame full sigOk s
  | .discover frame full sigOk => Sys2Proof.Machine.execDiscover frame full sigOk s
  | .sessionTimeout session => Sys2Proof.Machine.execSessionTimeout session s
  | .segmentLapse holder => Sys2Proof.Machine.execSegmentLapse holder s
  | .mboxRequest port commit => Sys2Proof.Machine.execMboxRequest port commit s
  | .operatorKeyWrite via slot value => Sys2Proof.Machine.execOperatorKeyWrite via slot value s
  | .mgmtLinkUp duplicate => Sys2Proof.Machine.execMgmtLinkUp duplicate s
  | .mgmtNeighborSolicitation packet => Sys2Proof.Machine.execMgmtNeighborSolicitation packet s
  | .mgmtEchoRequest packet => Sys2Proof.Machine.execMgmtEchoRequest packet s
  | .i3cDictionaryRead request => Sys2Proof.Machine.execI3cDictionaryRead request s
  | .i3cProvisioningWrite request => Sys2Proof.Machine.execI3cProvisioningWrite request s
  | .setEndpointId request => Sys2Proof.Machine.execSetEndpointId request s
  | .getEndpointId request => Sys2Proof.Machine.execGetEndpointId request s
  | .getMctpVersionSupport request => Sys2Proof.Machine.execGetMctpVersionSupport request s
  | .getMessageTypeSupport request => Sys2Proof.Machine.execGetMessageTypeSupport request s
  | .i3cTargetReset => Sys2Proof.Machine.execI3cTargetReset s
  | .getVersion transport request => Sys2Proof.Machine.execGetVersion transport request s
  | .getCapabilities transport request => Sys2Proof.Machine.execGetCapabilities transport request s
  | .negotiateAlgorithms transport request => Sys2Proof.Machine.execNegotiateAlgorithms transport request s
  | .getDigests transport request => Sys2Proof.Machine.execGetDigests transport request s
  | .getCertificate transport request => Sys2Proof.Machine.execGetCertificate transport request s
  | .challenge transport request => Sys2Proof.Machine.execChallenge transport request s
  | .getMeasurements transport request => Sys2Proof.Machine.execGetMeasurements transport request s
  | .spdmUnsupportedRequest transport request => Sys2Proof.Machine.execSpdmUnsupportedRequest transport request s
  | .attestNonce via nonce => Sys2Proof.Machine.execAttestNonce via nonce s
  | .packageResetRelease => Sys2Proof.Machine.execPackageResetRelease s
  | .romPhaseDone ok0 ok2 => Sys2Proof.Machine.execRomPhaseDone ok0 ok2 s
  | .imagePhaseDone a b => Sys2Proof.Machine.execImagePhaseDone a b s
  | .powerPhaseDone => Sys2Proof.Machine.execPowerPhaseDone s
  | .clocksPhaseDone refclkGood => Sys2Proof.Machine.execClocksPhaseDone refclkGood s
  | .pairingPhaseDone => Sys2Proof.Machine.execPairingPhaseDone s
  | .sramPhaseDone => Sys2Proof.Machine.execSramPhaseDone s
  | .coresPhaseDone failed => Sys2Proof.Machine.execCoresPhaseDone failed s
  | .memoryPhaseDone => Sys2Proof.Machine.execMemoryPhaseDone s
  | .firmwareLoadPhaseDone => Sys2Proof.Machine.execFirmwareLoadPhaseDone s
  | .linksPhaseDone => Sys2Proof.Machine.execLinksPhaseDone s
  | .dictionaryPhaseDone => Sys2Proof.Machine.execDictionaryPhaseDone s
  | .startFailed => Sys2Proof.Machine.execStartFailed s
  | .leaderHeartbeat => Sys2Proof.Machine.execLeaderHeartbeat s
  | .leaderChange => Sys2Proof.Machine.execLeaderChange s
  | .dimExit via value => Sys2Proof.Machine.execDimExit via value s
  | .fwChunk via bytes => Sys2Proof.Machine.execFwChunk via bytes s
  | .fwEraseDone => Sys2Proof.Machine.execFwEraseDone s
  | .verifyTarget via => Sys2Proof.Machine.execVerifyTarget via s
  | .verifyTargetDone check => Sys2Proof.Machine.execVerifyTargetDone check s
  | .trialTarget via => Sys2Proof.Machine.execTrialTarget via s
  | .cancelTrial via => Sys2Proof.Machine.execCancelTrial via s
  | .svnFloorWrite via value => Sys2Proof.Machine.execSvnFloorWrite via value s
  | .fwKey0Revoke via value => Sys2Proof.Machine.execFwKey0Revoke via value s
  | .coreRetireRequest via die value => Sys2Proof.Machine.execCoreRetireRequest via die value s
  | .supplyWarning mv => Sys2Proof.Machine.execSupplyWarning mv s
  | .supplyLow mv => Sys2Proof.Machine.execSupplyLow mv s
  | .supplyLowCleared mv => Sys2Proof.Machine.execSupplyLowCleared mv s
  | .supplyRecovered mv => Sys2Proof.Machine.execSupplyRecovered mv s
  | .overVoltage mv => Sys2Proof.Machine.execOverVoltage mv s
  | .overVoltageCleared mv => Sys2Proof.Machine.execOverVoltageCleared mv s
  | .supplyReset mv => Sys2Proof.Machine.execSupplyReset mv s
  | .overVoltageReset mv => Sys2Proof.Machine.execOverVoltageReset mv s
  | .overCurrentReset ma => Sys2Proof.Machine.execOverCurrentReset ma s
  | .vinRise mv => Sys2Proof.Machine.execVinRise mv s
  | .vinStable mv => Sys2Proof.Machine.execVinStable mv s
  | .reversePolarity => Sys2Proof.Machine.execReversePolarity s
  | .railFault die rail mv => Sys2Proof.Machine.execRailFault die rail mv s
  | .railFaultReset => Sys2Proof.Machine.execRailFaultReset s
  | .senseOpen kind die which reading => Sys2Proof.Machine.execSenseOpen kind die which reading s
  | .coolantSensor sensor failed reading => Sys2Proof.Machine.execCoolantSensor sensor failed reading s
  | .thermalDemandRevise => Sys2Proof.Machine.execThermalDemandRevise s
  | .thermalTrip die => Sys2Proof.Machine.execThermalTrip die s
  | .thermalTripShutdown => Sys2Proof.Machine.execThermalTripShutdown s
  | .thermalCooldownReset => Sys2Proof.Machine.execThermalCooldownReset s
  | .thermalCutoff die => Sys2Proof.Machine.execThermalCutoff die s
  | .coolantAverage sensors tin tout power => Sys2Proof.Machine.execCoolantAverage sensors tin tout power s
  | .powerCeilingPublish => Sys2Proof.Machine.execPowerCeilingPublish s
  | .powerControl power ma => Sys2Proof.Machine.execPowerControl power ma s
  | .throttleStepRaise => Sys2Proof.Machine.execThrottleStepRaise s
  | .throttleStepLower => Sys2Proof.Machine.execThrottleStepLower s
  | .canaryMeasure margins => Sys2Proof.Machine.execCanaryMeasure margins s
  | .guardBandRaise die => Sys2Proof.Machine.execGuardBandRaise die s
  | .sensorCalibration => Sys2Proof.Machine.execSensorCalibration s
  | .currentSenseCalibration => Sys2Proof.Machine.execCurrentSenseCalibration s
  | .interfaceCalibration => Sys2Proof.Machine.execInterfaceCalibration s
  | .flashGarbageCollect wear => Sys2Proof.Machine.execFlashGarbageCollect wear s
  | .crossingOverrun crossing => Sys2Proof.Machine.execCrossingOverrun crossing s
  | .overrunClear via value => Sys2Proof.Machine.execOverrunClear via value s
  | .crossingReset crossing => Sys2Proof.Machine.execCrossingReset crossing s
  | .crossingReleaseHandshake crossing => Sys2Proof.Machine.execCrossingReleaseHandshake crossing s
  | .resetRequest via value => Sys2Proof.Machine.execResetRequest via value s
  | .resetForce via value => Sys2Proof.Machine.execResetForce via value s
  | .resetDelayExpiry => Sys2Proof.Machine.execResetDelayExpiry s
  | .resetForceWritebackTimeout => Sys2Proof.Machine.execResetForceWritebackTimeout s
  | .logRecordArrival => Sys2Proof.Machine.execLogRecordArrival s
  | .logProgram => Sys2Proof.Machine.execLogProgram s
  | .telemetrySample => Sys2Proof.Machine.execTelemetrySample s
  | .telemetryWrite => Sys2Proof.Machine.execTelemetryWrite s
  | .coreTest via value => Sys2Proof.Machine.execCoreTest via value s
  | .coreTestDone failed block => Sys2Proof.Machine.execCoreTestDone failed block s
  | .testAccessWrite via value => Sys2Proof.Machine.execTestAccessWrite via value s
  | .tapInstruction d01 d23 => Sys2Proof.Machine.execTapInstruction d01 d23 s
  | .testLogicReset => Sys2Proof.Machine.execTestLogicReset s
  | .shardGuardWrite via guard value => Sys2Proof.Machine.execShardGuardWrite via guard value s
  | .trackingPeakRead via access => Sys2Proof.Machine.execTrackingPeakRead via access s
  | .configurationWrite port busMaster d3hot bar2 => Sys2Proof.Machine.execConfigurationWrite port busMaster d3hot bar2 s
  | .pcieLinkUp port => Sys2Proof.Machine.execPcieLinkUp port s
  | .ethLinkLost link => Sys2Proof.Machine.execEthLinkLost link s
  | .entdaa address => Sys2Proof.Machine.execEntdaa address s
  | .powerLoss mv => Sys2Proof.Machine.execPowerLoss mv s
  | .lodestarFailure die => Sys2Proof.Machine.execLodestarFailure die s

end Sys2Proof.Machine
end

