-- ==== Sys2Proof/Machine/Step.lean ====
section
/-! DEFINITION. One step of the block: the command at the front of the queue, or a tick of the ARC clock when nothing waits. -/
namespace Sys2Proof.Machine

/-- One step. With a command waiting, its meaning on the state with the rest of the queue; with none, the block idles for one ARC tick (log 1). -/
def step (s : State) : Host.Outcome State Fault Refusal :=
  match s.pending with
  | [] => .next (Sys2Proof.Machine.idleTick s)
  | c :: rest => Sys2Proof.Machine.exec c { s with pending := rest }

/-- The command that the word spells put at the front of the queue; the table gives no bits, so no word spells one and the state is unchanged. -/
def State.withFetchWord (s : State) (nbits w : Nat) : State :=
  match Sys2Proof.decodeTableWord nbits w with
  | some c => { s with pending := c :: s.pending }
  | none => s

end Sys2Proof.Machine
end

