-- ==== Sys2Proof/Safety.lean ====
section
/-! DEFINITION. The terms in which claims about the block are stated: a command that completes, a thread whose instruction executes, a write that has its authority, what a command leaves alone, and the invariants of the state. -/
namespace Sys2Proof.Machine

/-- The command answers a next state, and that state meets P. -/
def Completes (c : Instr) (s : State) (P : State → Prop) : Prop := ∃ u, exec c s = .next u ∧ P u

/-- Whenever the command answers a next state, that state meets P. -/
def Ensures (c : Instr) (s : State) (P : State → Prop) : Prop := ∀ u, exec c s = .next u → P u

/-! ### Threads -/

/-- The instruction after the present one lies within the thread's image (R95). -/
def State.roomAfter (s : State) (g t : Nat) : Bool :=
  match s.imageOf g t with
  | some i => decide ((s.thread g t).pc + 16 ≤ i.code.length)
  | none => false

/-- The thread issues, its word is legal, is the one `mine` describes and is of a class the thread may execute, its predicate holds, no register it uses awaits a load, and the instruction after it lies in the image (R77, R78, R82, R95). -/
def State.issues (s : State) (g t : Nat) (mine : Nat → Bool) (regs : Nat → Regs) : Bool :=
  let w := s.word g t
  s.mayIssue g t && !s.withheldNow && wordLegal w && mine w && classPermitted t w && (s.thread g t).executes w &&
    !s.awaits g t ((regs w).reads ++ (regs w).writes) && s.roomAfter g t

/-- Every thread but one is as it was. -/
def OtherThreads (g t : Nat) (s u : State) : Prop := ∀ g' t', (g' < 384 ∧ t' < 32) → (g' ≠ g ∨ t' ≠ t) → u.thread g' t' = s.thread g' t'

/-- Every byte of memory reads as it did. -/
def MemorySame (s u : State) : Prop := ∀ a, u.byte a = s.byte a

/-- What a SCALAR operation computes on 64-bit integers (R84): a value for s[DST], a predicate for p[DST[2:0]], or nothing stated (a shift by 64 or more, log 5). -/
def scalarSpec (op : ScalarOp) (x y : BitVec 64) : Option (BitVec 64 ⊕ Bool) :=
  match op with
 | .add => some (.inl (x + y))
 | .sub => some (.inl (x - y))
 | .mul => some (.inl (x * y))
 | .and => some (.inl (x &&& y))
 | .or => some (.inl (x ||| y))
 | .xor => some (.inl (x ^^^ y))
 | .shl => if y.toNat < 64 then some (.inl (x <<< y.toNat)) else none
 | .shr => if y.toNat < 64 then some (.inl (x >>> y.toNat)) else none
 | .sar => if y.toNat < 64 then some (.inl (x.sshiftRight y.toNat)) else none
 | .min => some (.inl (if x.slt y then x else y))
 | .max => some (.inl (if x.slt y then y else x))
 | .minu => some (.inl (if x.ult y then x else y))
 | .maxu => some (.inl (if x.ult y then y else x))
 | .cmpEq => some (.inr (x == y))
 | .cmpNe => some (.inr (x != y))
 | .cmpLt => some (.inr (x.slt y))
 | .cmpLe => some (.inr (x.sle y))
 | .cmpLtu => some (.inr (x.ult y))
 | .cmpLeu => some (.inr (x.ule y))

/-- The result of a SCALAR operation in its register. -/
def Thread.putScalar (th : Thread) (dst : Nat) : BitVec 64 ⊕ Bool → Thread
 | .inl v => th.setS dst v.toNat
 | .inr b => th.setP (dst % 8) b

/-- The condition of a branch on 64-bit integers (R84). -/
def branchSpec (c : BranchCond) (x y : BitVec 64) : Bool :=
  match c with
 | .always => true
 | .eq => x == y
 | .ne => x != y
 | .lt => x.slt y
 | .ge => y.sle x
 | .ltu => x.ult y
 | .geu => y.ule x

/-- A vector command, when its word executes, leaves the value that `v` gives of the thread and the word in VD, goes on to the next instruction and changes no memory and no other thread. -/
def WritesVd (c : Instr) (g t cls op : Nat) (keys : Nat → Regs) (v : State → Thread → Nat → Nat) : Prop :=
  ∀ s : State, s.issues g t (isOp cls op) keys = true →
    Completes c s (fun u => u.thread g t = ((s.thread g t).setV (wVd (s.word g t)) (v s (s.thread g t) (s.word g t))).advance ∧
      u.mem = s.mem ∧ OtherThreads g t s u)

/-- The register that a lane function gives of two registers. -/
def lanes2 (ty : Nat) (f : Nat → Nat → Nat) (a b : Nat) : Nat := packLanes ty (List.zipWith f (lanesOf ty a) (lanesOf ty b))
/-- The register that a lane function gives of one register. -/
def lanes1 (ty : Nat) (f : Nat → Nat) (a : Nat) : Nat := packLanes ty ((lanesOf ty a).map f)
/-- Lane i of a register of INT32 lanes (R185). -/
def Thread.lane32 (th : Thread) (r i : Nat) : BitVec 32 := BitVec.ofNat 32 (th.v r / 2 ^ (32 * i))

/-! ### The update engine -/

/-- A unit of an update job's work is served in state s: no earlier write of the job waits, its addresses translate and its reads answer, with these bytes of each span and these pieces, which leaves state v (R224, R296). -/
def State.Serves (s : State) (j : UpdJob) (unit : Nat) (spans : List Span) (v : State) (bss : List Bytes) (pss : List Pieces) : Prop :=
  s.writesWait j.id = false ∧ s.unitData j unit spans = (v, .ready bss pss)

/-! ### The Object Dictionary -/

/-- A write of a short entry by a path is let through as far as its value: the module has power, the path reaches the dictionary, the entry is short, and authority, unit and access class allow it (R392, R394, R398, R404). -/
def State.mayWrite (s : State) (via : Via) (idx sub : Nat) : Bool :=
  match findEntry idx sub with
  | some e => s.power.hkUp && s.viaMay via && !e.isLong && s.writeCode via e sub == 0
  | none => false

/-- The same for a long entry. -/
def State.mayWriteLong (s : State) (via : Via) (idx sub : Nat) : Bool :=
  match findEntry idx sub with
  | some e => s.power.hkUp && s.viaMay via && e.isLong && s.writeCode via e sub == 0
  | none => false

/-! ### Invariants -/

/-- Physical memory is in its canonical form. -/
def State.MemoryCanonical (s : State) : Prop := s.mem.wf = true

/-- No more than four signed sessions are open (R405). -/
def State.SessionsBounded (s : State) : Prop := s.prot.sessions.length ≤ 4

/-- The SDT counters of the four dies agree (R40). -/
def State.SdtAgreed (s : State) : Prop := ∀ d d' : Fin 4, pget s.time.sdt d = pget s.time.sdt d'

/-! ### Frames -/

/-- The commands that change no byte of memory, no thread and no gate counter. -/
def leavesMemory : Instr → Bool
  | .guardBandSample .. | .dimSkylightSnapshot .. | .beaconRequestSend .. | .unusedParentBeacon .. | .beaconRequest .. | .beaconResponse ..
  | .parentClockLost .. | .parentLinkRecovered .. | .rootPllLock .. | .pllUnlock .. | .refSwitch .. | .stageA .. | .stageB .. | .unstage ..
  | .almanacDescriptorRead .. | .resumeSdtWrite .. | .pauseResume .. | .agreement .. | .vectorDeadline .. | .seal .. | .sealDeadline ..
  | .conjunctionDecision .. | .mwloadStart .. | .mwloadComplete .. | .mstreamStart .. | .mstreamComplete .. | .mdrainStart .. | .mdrainComplete ..
  | .eavesFillReturn .. | .prefetchDistanceRevise .. | .scrubDusk .. | .scrubPassEnd .. | .sramScrub .. | .cacheScrub .. | .idleBankScrub ..
  | .invalRange .. | .invalAsid .. | .invalAll .. | .invalComplete .. | .seamRidgeFlit .. | .dieLost .. | .linkRetryTimer .. | .linkDetected ..
  | .linkEqualised .. | .identity .. | .linkRetrain .. | .linkDown .. | .flitReceived .. | .creditUpdate .. | .nak .. | .replayTimeout ..
  | .fenceNoticeSend .. | .reduceContrib .. | .fabricCommit .. | .domainGeometryWrite .. | .incarnationWrite .. | .ethLinkUp .. | .ethPacket ..
  | .ethRetransmitTimeout .. | .ethAckTimer .. | .ethNeighborSolicitation .. | .ethEchoRequest .. | .portReset .. | .mirrorPeriodWrite ..
  | .hostAccess .. | .segSelect .. | .segSnapshot .. | .segDiscard .. | .segWindowWrite .. | .sessionTimeout .. | .segmentLapse .. | .mgmtLinkUp ..
  | .mgmtNeighborSolicitation .. | .mgmtEchoRequest .. | .i3cDictionaryRead .. | .setEndpointId .. | .getEndpointId .. | .getMctpVersionSupport ..
  | .getMessageTypeSupport .. | .i3cTargetReset .. | .getVersion .. | .getCapabilities .. | .negotiateAlgorithms .. | .getDigests ..
  | .getCertificate .. | .challenge .. | .getMeasurements .. | .spdmUnsupportedRequest .. | .packageResetRelease .. | .romPhaseDone ..
  | .powerPhaseDone .. | .clocksPhaseDone .. | .firmwareLoadPhaseDone .. | .linksPhaseDone .. | .dictionaryPhaseDone .. | .leaderHeartbeat ..
  | .leaderChange .. | .fwEraseDone .. | .verifyTarget .. | .verifyTargetDone .. | .trialTarget .. | .cancelTrial .. | .svnFloorWrite ..
  | .fwKey0Revoke .. | .coreRetireRequest .. | .supplyWarning .. | .supplyLow .. | .supplyLowCleared .. | .supplyRecovered .. | .overVoltage ..
  | .overVoltageCleared .. | .vinRise .. | .vinStable .. | .reversePolarity .. | .senseOpen .. | .coolantSensor .. | .thermalDemandRevise ..
  | .thermalTripShutdown .. | .coolantAverage .. | .powerCeilingPublish .. | .powerControl .. | .throttleStepRaise .. | .throttleStepLower ..
  | .canaryMeasure .. | .guardBandRaise .. | .sensorCalibration .. | .currentSenseCalibration .. | .interfaceCalibration ..
  | .flashGarbageCollect .. | .crossingOverrun .. | .overrunClear .. | .crossingReset .. | .crossingReleaseHandshake .. | .resetRequest ..
  | .resetForce .. | .logRecordArrival .. | .logProgram .. | .telemetrySample .. | .coreTestDone .. | .testAccessWrite .. | .tapInstruction ..
  | .testLogicReset .. | .trackingPeakRead .. | .configurationWrite .. | .pcieLinkUp .. | .ethLinkLost .. | .entdaa .. | .lodestarFailure .. => true
  | _ => false

/-- The commands that read memory at its slices in one step: a fill that a line they read waits for is complete when they read (log 96), and the writes held on it are then done. -/
def readsAtOnce : Instr → Bool
  | .almanacCheckDone .. | .stream .. | .gather .. | .scatter .. | .streamAdd .. | .scatterAdd .. | .moverDescriptorReadahead .. | .moverPieceIssue ..
  | .memRead .. | .windowFrameSend .. | .reduceGrant .. | .bar2Read .. => true
  | _ => false

/-- The commands of one thread that store nothing: of every class but stores to scratch. -/
def threadOnly (g : Fin 384) (t : Fin 32) (c : Instr) : Prop :=
  (∃ op form, c = .scalar g t op form) ∨ (∃ cond, c = .branch g t cond) ∨ (∃ signed cycle, c = .scratchLoad g t signed cycle) ∨
  c ∈ [Instr.cinc g t, .cwait g t, .cread g t, .barrier g t, .ginc g t, .gread g t, .sdtr g t, .slotr g t, .waitsdt g t, .endThread g t, .fence g t,
    .mwload g t, .mstream g t, .mdrain g t, .vadd g t, .vsub g t, .vmul g t, .vfma g t, .vmax g t, .vmin g t, .vabs g t, .vneg g t, .vcmp g t, .vsel g t,
    .vrsum g t, .vrmax g t, .vrmin g t, .vbcast g t, .vgather g t, .vand g t, .vor g t, .vxor g t, .vshl g t, .vshr g t, .vcvt g t, .vquant g t,
    .vdequant g t, .vsplit g t, .vscale g t, .vexp g t, .vexp2 g t, .vln g t, .vlog2 g t, .vrcp g t, .vrsqrt g t, .vtanh g t, .vsigmoid g t,
    .vsinpi g t, .vcospi g t]

end Sys2Proof.Machine
end

