-- ==== Sys2Proof/Certificates/Slice0/Obligations.lean ====
section
/-! DEFINITION. The statements about the model that the provers are asked to prove. -/
section
open Sys2Proof Sys2Proof.Machine

/-- Operation codes and the shift by 64 or more are the model's (log 5, log 6). -/
def Obligations.ScalarResult : Prop :=
  ∀ (s : State) (g : Fin 384) (t : Fin 32) (op : ScalarOp) (form : ScalarForm),
    s.issues g t (fun w => wClass w == 0) (scalarRegs (some op) form) = true → (form = .reg → field (s.word g t) 0 20 = 0) →
    (∀ r, scalarSpec op (BitVec.ofNat 64 ((s.thread g t).s (wSrcA (s.word g t)))) (BitVec.ofNat 64 (scalarOperand (s.thread g t) form (s.word g t))) = some r →
      exec (.scalar g t (some op) form) s = .next (s.setThread g t ((s.thread g t).putScalar (wDst (s.word g t)) r).advance)) ∧
    (scalarSpec op (BitVec.ofNat 64 ((s.thread g t).s (wSrcA (s.word g t)))) (BitVec.ofNat 64 (scalarOperand (s.thread g t) form (s.word g t))) = none →
      ∃ n : Nat, exec (.scalar g t (some op) form) s =
        .next (s.setThread g t ((s.thread g t).setS (wDst (s.word g t)) (Config.shiftBeyond n (BitVec.ofNat 64 ((s.thread g t).s (wSrcA (s.word g t))))
          (BitVec.ofNat 64 (scalarOperand (s.thread g t) form (s.word g t)))).toNat).advance))

def Obligations.BranchGoesToTarget : Prop :=
  ∀ (s : State) (g : Fin 384) (t : Fin 32) (c : BranchCond) (i : Image),
    s.issues g t (fun w => wClass w == 1) (fun w => ⟨[wDst w, wSrcA w], []⟩) = true → s.imageOf g t = some i →
    (branchSpec c (BitVec.ofNat 64 ((s.thread g t).s (wDst (s.word g t)))) (BitVec.ofNat 64 ((s.thread g t).s (wSrcA (s.word g t)))) = false →
      exec (.branch g t (some c)) s = .next (s.setThread g t (s.thread g t).advance)) ∧
    (branchSpec c (BitVec.ofNat 64 ((s.thread g t).s (wDst (s.word g t)))) (BitVec.ofNat 64 ((s.thread g t).s (wSrcA (s.word g t)))) = true →
      0 ≤ ((s.thread g t).pc : Int) + 8 * wOffset (s.word g t) → ((s.thread g t).pc : Int) + 8 * wOffset (s.word g t) + 8 ≤ i.code.length →
      exec (.branch g t (some c)) s =
        .next (s.setThread g t { s.thread g t with pc := (((s.thread g t).pc : Int) + 8 * wOffset (s.word g t)).toNat }))

def Obligations.ScratchAccess : Prop :=
  ∀ (s : State) (g : Fin 384) (t : Fin 32),
    s.issues g t (fun w => wClass w == 2) (fun w => ⟨[dataKey w, wSrcA w], []⟩) = true →
    scratchOk (effAddr (s.thread g t) (s.word g t)) (sizeBytes (wSize (s.word g t))) = true →
    (∀ signed, exec (.scratchLoad g t (some signed) (.served .clean)) s =
      .next (s.setThread g t ((s.thread g t).loaded (dataKey (s.word g t)) signed
        (s.read (scratchLpa g (effAddr (s.thread g t) (s.word g t))) (sizeBytes (wSize (s.word g t))))).advance)) ∧
    exec (.scratchStore (g, t) (some (.served .clean))) s =
      .next ((s.store (scratchLpa g (effAddr (s.thread g t) (s.word g t))) (storeData (s.thread g t) (s.word g t))).setThread g t (s.thread g t).advance) ∧
    (∀ cycle, Ensures (.scratchStore (g, t) (some cycle)) s (fun u => ∀ a,
      (a < scratchLpa g (effAddr (s.thread g t) (s.word g t)) ∨
        scratchLpa g (effAddr (s.thread g t) (s.word g t)) + sizeBytes (wSize (s.word g t)) ≤ a) → u.byte a = s.byte a)) ∧
    (∀ signed, exec (.scratchLoad g t (some signed) .lost) s = .next (s.lostBank g) ∧ exec (.scratchStore (g, t) (some .lost)) s = .next (s.lostBank g))

def Obligations.ScratchAddressFault : Prop :=
  ∀ (s : State) (g : Fin 384) (t : Fin 32),
    s.issues g t (fun w => wClass w == 2) (fun w => ⟨[dataKey w, wSrcA w], []⟩) = true →
    (0x300000 < effAddr (s.thread g t) (s.word g t) + sizeBytes (wSize (s.word g t)) ∨
      ¬ (if sizeBytes (wSize (s.word g t)) = 256 then 64 else sizeBytes (wSize (s.word g t))) ∣ effAddr (s.thread g t) (s.word g t)) →
    ∀ signed cycle, Completes (.scratchLoad g t (some signed) cycle) s (fun u => u = s.threadFault g t 0x32 ∧ u.mem = s.mem) ∧
      Completes (.scratchStore (g, t) (some cycle)) s (fun u => u = s.threadFault g t 0x32 ∧ u.mem = s.mem)

def Obligations.SyncOperations : Prop :=
  ∀ (s : State) (g : Fin 384) (t : Fin 32),
    (s.issues g t (isOp 9 1) (fun w => ⟨[wSrcA w], []⟩) = true → s.storesOpen g t = false →
      exec (.cinc g t) s = .next ((s.cinc g (wCounter (s.word g t)) (BitVec.ofNat 32 (wImm (s.word g t) + (s.thread g t).s (wSrcA (s.word g t))))).setThread g t (s.thread g t).advance) ∧
      (s.cinc g (wCounter (s.word g t)) (BitVec.ofNat 32 (wImm (s.word g t) + (s.thread g t).s (wSrcA (s.word g t))))).counter g (wCounter (s.word g t)) =
        s.counter g (wCounter (s.word g t)) + BitVec.ofNat 32 (wImm (s.word g t) + (s.thread g t).s (wSrcA (s.word g t)))) ∧
    (s.issues g t (isOp 9 2) (fun w => ⟨[wSrcA w], []⟩) = true →
      (s.counter g (wCounter (s.word g t)) - BitVec.ofNat 32 (wImm (s.word g t) + (s.thread g t).s (wSrcA (s.word g t)))).toNat < 2 ^ 31 →
      exec (.cwait g t) s = .next (s.setThread g t (s.thread g t).advance)) ∧
    (s.issues g t (isOp 9 3) (fun w => ⟨[], [wDst w]⟩) = true →
      exec (.cread g t) s = .next (s.setThread g t ((s.thread g t).setS (wDst (s.word g t)) (s.counter g (wCounter (s.word g t))).toNat).advance)) ∧
    (s.issues g t (isOp 9 5) (fun _ => ⟨[], []⟩) = true → s.storesOpen g t = false → s.sameAlmanac (s.thread g t).launch = true →
      wImm (s.word g t) % 4096 ≠ s.dget 0x2302 4 → wImm (s.word g t) % 4096 ≠ s.dget 0x2001 0 →
      exec (.ginc g t) s = .next ((s.bumpGate (wImm (s.word g t) % 4096) ((s.thread g t).iter % 2 == 1)).setThread g t (s.thread g t).advance)) ∧
    (s.issues g t (isOp 9 6) (fun w => ⟨[], [wDst w]⟩) = true →
      exec (.gread g t) s =
        .next (s.setThread g t ((s.thread g t).setS (wDst (s.word g t)) (s.gate (wImm (s.word g t) % 4096) ((s.thread g t).iter % 2 == 1)).toNat).advance)) ∧
    (s.issues g t (isOp 9 7) (fun w => ⟨[], [wDst w]⟩) = true →
      exec (.sdtr g t) s = .next (s.setThread g t ((s.thread g t).setS (wDst (s.word g t)) (pget s.time.sdt (coreDie g)).toNat).advance)) ∧
    (s.issues g t (isOp 9 8) (fun w => ⟨[], [wDst w]⟩) = true →
      exec (.slotr g t) s = .next (s.setThread g t ((s.thread g t).setS (wDst (s.word g t))
        (if s.almanacSlot = 0xFFFFFFFF then 2 ^ 64 - 1 else s.almanacSlot)).advance)) ∧
    (s.issues g t (isOp 9 9) (fun w => ⟨[wSrcA w], []⟩) = true →
      (BitVec.ofNat 64 ((s.thread g t).s (wSrcA (s.word g t))) + (BitVec.ofNat 32 (wImm (s.word g t))).signExtend 64).toNat ≤ (pget s.time.sdt (coreDie g)).toNat →
      exec (.waitsdt g t) s = .next (s.setThread g t (s.thread g t).advance))

def Obligations.ThreadWaitsEnd : Prop :=
  ∀ (s : State) (g : Fin 384) (t : Fin 32),
    (s.issues g t (isOp 9 4) (fun _ => ⟨[], []⟩) = true → s.storesOpen g t = false → (s.thread g t).atBarrier = false →
      (∀ u : Fin 32, u ≠ t → (s.thread g u).launch = (s.thread g t).launch → (s.thread g u).status = .running ∨ (s.thread g u).status = .parked ∨ (s.thread g u).status = .stopped →
        tget 0 (s.thread g t).barriers (wCounter (s.word g t)) + 1 ≤ tget 0 (s.thread g u).barriers (wCounter (s.word g t))) →
      Completes (.barrier g t) s (fun u => (u.thread g t).pc = (s.thread g t).pc + 8 ∧ (u.thread g t).atBarrier = false ∧
        tget 0 (u.thread g t).barriers (wCounter (s.word g t)) = tget 0 (s.thread g t).barriers (wCounter (s.word g t)) + 1)) ∧
    (s.issues g t (isOp 11 1) (fun _ => ⟨[], []⟩) = true → s.storesOpen g t = false → (∀ m ∈ (s.core g).matrix, m.thread ≠ t.val) →
      Completes (.endThread g t) s (fun u => (u.thread g t).status = .ended ∧ u.mem = s.mem)) ∧
    (s.issues g t (isOp 11 2) (fun _ => ⟨[], []⟩) = true → (wCounter (s.word g t) = 1 → s.storesOpen g t = false) →
      exec (.fence g t) s = .next (s.setThread g t (s.thread g t).advance)) ∧
    (s.issues g t (fun w => wClass w == 3) (fun w => ⟨[wSrcA w], []⟩) = true → ∀ l signed,
      s.lookupParts g (s.thread g t) 0 (accessParts (effAddr (s.thread g t) (s.word g t)) (sizeBytes (wSize (s.word g t)))) = .ok l →
      s.loadsOf (fun h u => h == g.val && u == t.val) < 16 → s.loadsOf (fun h _ => h == g.val) < 256 →
      s.canTrack (.thread g t) (coreDie g) (accessParts (effAddr (s.thread g t) (s.word g t)) (sizeBytes (wSize (s.word g t)))).length = true →
      Completes (.memoryLoad g t (some signed)) s (fun u => (u.thread g t).pc = (s.thread g t).pc + 8 ∧ u.trans.reqs.length = s.trans.reqs.length + l.length)) ∧
    (s.issues g t (fun w => wClass w == 3) (fun w => ⟨[dataKey w, wSrcA w], []⟩) = true → ∀ l,
      s.lookupParts g (s.thread g t) 1 (accessParts (effAddr (s.thread g t) (s.word g t)) (sizeBytes (wSize (s.word g t)))) = .ok l →
      s.canTrack (.thread g t) (coreDie g) (accessParts (effAddr (s.thread g t) (s.word g t)) (sizeBytes (wSize (s.word g t)))).length = true →
      Completes (.memoryStore (g, t) false) s (fun u => (u.thread g t).pc = (s.thread g t).pc + 8 ∧ u.trans.reqs.length = s.trans.reqs.length + l.length)) ∧
    (∀ launch a, s.action launch = some a → s.alive = true → s.trans.preempt = .running → s.alm.state ≠ .halted → launch ∈ (s.core g).fetches →
      exec (.imageFetchDone g (.arrived launch)) s = .next (s.imageArrives a g)) ∧
    (∀ launch a, s.action launch = some a → s.alive = true → s.trans.preempt = .running → s.alm.state ≠ .halted →
      (s.core g).images.any (fun i => decide (launch ∈ i.pinned)) = true → exec (.imageFetchDone g (.parity launch)) s = .next (s.imageParity a g)) ∧
    (∀ req r, s.req req = some r → r.answered = true → r.next = none → (r.done = true ∨ s.inTurn r = true) → r.agent = .thread g t →
      exec (.memoryResponse req) s = .next (s.respond r) ∧
      (r.done = true → r.poison = none → r.kind ≠ .load →
        Completes (.memoryResponse req) s (fun u => u.threads = s.threads ∧ u.mem = s.mem ∧ ∀ q ∈ u.trans.reqs, q.id ≠ req)) ∧
      (r.done = true → r.poison = none → r.kind = .load → r.reg < 32 → r.off = 0 → r.data.length = r.desc →
        (∀ q ∈ s.trans.reqs, q.id ≠ req → q.agent = .thread g t → q.kind = .load → q.reg ≠ r.reg) →
        Completes (.memoryResponse req) s (fun u => u.thread g t = (s.thread g t).setS r.reg (loadValue r.signed r.data) ∧ u.mem = s.mem ∧ OtherThreads g t s u)))

def Obligations.VectorInt32Lanes : Prop :=
  ∀ (s : State) (g : Fin 384) (t : Fin 32) (i : Nat), i < 64 → wType (s.word g t) = 11 →
    (∀ (c : Instr) (op : Nat) (f : BitVec 32 → BitVec 32 → BitVec 32),
      (c, op, f) ∈ ([(.vadd g t, 0x01, fun a b => a + b), (.vsub g t, 0x02, fun a b => a - b), (.vmul g t, 0x03, fun a b => a * b),
        (.vmin g t, 0x06, fun a b => if b.slt a then b else a), (.vand g t, 0x14, fun a b => a &&& b), (.vor g t, 0x15, fun a b => a ||| b),
        (.vxor g t, 0x16, fun a b => a ^^^ b), (.vshl g t, 0x17, fun a b => a <<< (b.toNat % 32)), (.vshr g t, 0x18, fun a b => a >>> (b.toNat % 32))] :
        List (Instr × Nat × (BitVec 32 → BitVec 32 → BitVec 32))) →
      s.issues g t (isOp 4 op) (vKeys true true true false false) = true →
      Completes c s (fun u => (u.thread g t).lane32 (wVd (s.word g t)) i =
        f ((s.thread g t).lane32 (wVa (s.word g t)) i) ((s.thread g t).lane32 (wVb (s.word g t)) i))) ∧
    (s.issues g t (isOp 4 0x05) (vKeys true true true false false) = true → wMod (s.word g t) = 0 →
      Completes (.vmax g t) s (fun u => (u.thread g t).lane32 (wVd (s.word g t)) i =
        (if ((s.thread g t).lane32 (wVa (s.word g t)) i).slt ((s.thread g t).lane32 (wVb (s.word g t)) i)
          then (s.thread g t).lane32 (wVb (s.word g t)) i else (s.thread g t).lane32 (wVa (s.word g t)) i))) ∧
    (s.issues g t (isOp 4 0x07) (vKeys true true false false false) = true →
      Completes (.vabs g t) s (fun u => (u.thread g t).lane32 (wVd (s.word g t)) i =
        (if ((s.thread g t).lane32 (wVa (s.word g t)) i).msb then -((s.thread g t).lane32 (wVa (s.word g t)) i) else (s.thread g t).lane32 (wVa (s.word g t)) i))) ∧
    (s.issues g t (isOp 4 0x08) (vKeys true true false false false) = true →
      Completes (.vneg g t) s (fun u => (u.thread g t).lane32 (wVd (s.word g t)) i = -((s.thread g t).lane32 (wVa (s.word g t)) i)))

def Obligations.VectorArithmeticLanes : Prop :=
  ∀ (g : Fin 384) (t : Fin 32) (s : State), wType (s.word g t) ≠ 11 →
    (∀ (c : Instr) (op : Nat) (f : Nat → Val → Val → Val),
      (c, op, f) ∈ ([(.vadd g t, 0x01, laneAdd), (.vsub g t, 0x02, fun ty a b => laneAdd ty a b.negate), (.vmul g t, 0x03, fun _ a b => a.mul b),
        (.vmin g t, 0x06, fun _ a b => valMin a b)] : List (Instr × Nat × (Nat → Val → Val → Val))) →
      s.issues g t (isOp 4 op) (vKeys true true true false false) = true →
      Completes c s (fun u => u.thread g t = ((s.thread g t).setV (wVd (s.word g t))
        (lanes2 (wType (s.word g t)) (fun x y => encodeLane (wType (s.word g t)) .rne 0
          (f (wType (s.word g t)) (decodeLane (wType (s.word g t)) x) (decodeLane (wType (s.word g t)) y)))
          ((s.thread g t).v (wVa (s.word g t))) ((s.thread g t).v (wVb (s.word g t))))).advance ∧ u.mem = s.mem ∧ OtherThreads g t s u)) ∧
    (s.issues g t (isOp 4 0x05) (vKeys true true true false false) = true → wMod (s.word g t) = 0 →
      Completes (.vmax g t) s (fun u => u.thread g t = ((s.thread g t).setV (wVd (s.word g t))
        (lanes2 (wType (s.word g t)) (fun x y => encodeLane (wType (s.word g t)) .rne 0
          (valMax (decodeLane (wType (s.word g t)) x) (decodeLane (wType (s.word g t)) y)))
          ((s.thread g t).v (wVa (s.word g t))) ((s.thread g t).v (wVb (s.word g t))))).advance ∧ u.mem = s.mem ∧ OtherThreads g t s u)) ∧
    (s.issues g t (isOp 4 0x09) (vKeys true true true false false) = true →
      Completes (.vcmp g t) s (fun u => u.thread g t = ((s.thread g t).setV (wVd (s.word g t))
        (lanes2 (wType (s.word g t)) (fun x y =>
          if vcmpHolds (wMod (s.word g t)) (decodeLane (wType (s.word g t)) x) (decodeLane (wType (s.word g t)) y) = true then 2 ^ (8 * laneBytes (wType (s.word g t))) - 1 else 0)
          ((s.thread g t).v (wVa (s.word g t))) ((s.thread g t).v (wVb (s.word g t))))).advance ∧ u.mem = s.mem ∧ OtherThreads g t s u)) ∧
    (∀ (c : Instr) (op : Nat) (f : Val → Val), (c, op, f) ∈ ([(.vabs g t, 0x07, Val.abs), (.vneg g t, 0x08, Val.negate)] : List (Instr × Nat × (Val → Val))) →
      s.issues g t (isOp 4 op) (vKeys true true false false false) = true →
      Completes c s (fun u => u.thread g t = ((s.thread g t).setV (wVd (s.word g t))
        (lanes1 (wType (s.word g t)) (fun x => encodeLane (wType (s.word g t)) .rne 0 (f (decodeLane (wType (s.word g t)) x)))
          ((s.thread g t).v (wVa (s.word g t))))).advance ∧ u.mem = s.mem ∧ OtherThreads g t s u)) ∧
    (s.issues g t (isOp 4 0x04) (vKeys true true true true false) = true →
      Completes (.vfma g t) s (fun u => u.thread g t = ((s.thread g t).setV (wVd (s.word g t))
        (packLanes (wType (s.word g t)) (List.zipWith (fun p z => encodeLane (wType (s.word g t)) .rne 0
            (((decodeLane (wType (s.word g t)) p.1).mul (decodeLane (wType (s.word g t)) p.2)).add (decodeLane (wType (s.word g t)) z)))
          ((lanesOf (wType (s.word g t)) ((s.thread g t).v (wVa (s.word g t)))).zip (lanesOf (wType (s.word g t)) ((s.thread g t).v (wVb (s.word g t)))))
          (lanesOf (wType (s.word g t)) ((s.thread g t).v (wVc (s.word g t))))))).advance ∧ u.mem = s.mem ∧ OtherThreads g t s u))

/-- The working precision of the special functions is the model's choice (log 12). -/
def Obligations.VectorWritesVd : Prop :=
  ∀ (g : Fin 384) (t : Fin 32),
    (∀ (c : Instr) (op : Nat), (c, op) ∈ ([(.vexp g t, 1), (.vexp2 g t, 2), (.vln g t, 3), (.vlog2 g t, 4), (.vrcp g t, 5), (.vrsqrt g t, 6),
        (.vtanh g t, 7), (.vsigmoid g t, 8), (.vsinpi g t, 9), (.vcospi g t, 10)] : List (Instr × Nat)) →
      WritesVd c g t 6 op (vKeys true true false false false) (fun _ th w =>
        lanes1 (wType w) (fun x => encodeLane (wType w) .rne 0 (sfuVal op (decodeLane (wType w) x))) (th.v (wVa w)))) ∧
    WritesVd (.vsel g t) g t 4 0x0A (vKeys true true true true false) (fun _ th w =>
      packLanes (wType w) (List.zipWith (fun p z => if z = 0 then p.2 else p.1)
        ((lanesOf (wType w) (th.v (wVa w))).zip (lanesOf (wType w) (th.v (wVb w)))) (lanesOf (wType w) (th.v (wVc w))))) ∧
    WritesVd (.vbcast g t) g t 4 0x0E (vKeys true false false false true) (fun _ th w =>
      packLanes (wType w) (List.replicate (256 / laneBytes (wType w)) (th.s (wScalar w) % 2 ^ (if wType w = 2 then 48 else 8 * laneBytes (wType w))))) ∧
    WritesVd (.vrsum g t) g t 4 0x0B (vKeys true true false false false) (fun _ th w =>
      packLanes (wType w) (placeLanes (256 / laneBytes (wType w))
        ((segments (wType w) (th.v (wVa w)) (wMod w % 4)).zipIdx.map (fun p => (p.2, (segmentSum (wType w) p.1).1))))) ∧
    (∀ (c : Instr) (op : Nat), (c, op) ∈ ([(.vrmax g t, 0x0C), (.vrmin g t, 0x0D)] : List (Instr × Nat)) → ∀ s : State,
      s.issues g t (isOp 4 op) (vKeys true true false false false) = true →
      Completes c s (fun u => (∃ v, u.thread g t = ((s.thread g t).setV (wVd (s.word g t)) v).advance) ∧ u.mem = s.mem ∧ OtherThreads g t s u)) ∧
    (∀ s : State, s.issues g t (isOp 5 0x01) vcvtRegs = true →
      Completes (.vcvt g t) s (fun u => (∃ v, u.thread g t = ((s.thread g t).setV (wVd (s.word g t)) v).advance) ∧ u.mem = s.mem ∧ OtherThreads g t s u)) ∧
    (∀ s : State, s.issues g t (isOp 5 0x03) (vKeys true true true false false) = true →
      Completes (.vdequant g t) s (fun u => (∃ v, u.thread g t = ((s.thread g t).setV (wVd (s.word g t)) v).advance) ∧ u.mem = s.mem ∧ OtherThreads g t s u)) ∧
    (∀ s : State, s.issues g t (isOp 5 0x05) (vKeys true true false false false) = true →
      Completes (.vscale g t) s (fun u => (∃ v, u.thread g t = ((s.thread g t).setV (wVd (s.word g t)) v).advance) ∧ u.mem = s.mem ∧ OtherThreads g t s u)) ∧
    (∀ s : State, s.issues g t (isOp 5 0x02) vquantRegs = true →
      Completes (.vquant g t) s (fun u => (u.thread g t).pc = (s.thread g t).pc + 8 ∧ u.mem = s.mem ∧ OtherThreads g t s u ∧
        ∀ r, r ≠ wVd (s.word g t) → (isMxType (wType (s.word g t)) = true → r ≠ wVc (s.word g t)) → (u.thread g t).v r = (s.thread g t).v r))

def Obligations.GatherScatter : Prop :=
  ∀ (s : State) (g : Fin 384) (t : Fin 32),
    (s.issues g t (isOp 4 0x10) (vKeys true true false false true) = true → offsetsOk (laneBytes (wType (s.word g t))) (laneOffsets (s.thread g t) (s.word g t)) = true →
      Completes (.vgather g t) s (fun u => u.mem = s.mem ∧ u.thread g t = ((s.thread g t).setV (wVd (s.word g t)) (packLanes (wType (s.word g t))
        ((laneOffsets (s.thread g t) (s.word g t)).map (fun o => match o with
          | some o => s.readNat (scratchLpa g o) (laneBytes (wType (s.word g t)))
          | none => 0)))).advance)) ∧
    (∀ (c : Instr) (op : Nat), (c, op) ∈ ([(.vscatter g t, 0x11), (.vscatadd g t, 0x12)] : List (Instr × Nat)) →
      s.issues g t (isOp 4 op) (vKeys false true true false true) = true → offsetsOk (laneBytes (wType (s.word g t))) (laneOffsets (s.thread g t) (s.word g t)) = true →
      Completes c s (fun u => u.thread g t = (s.thread g t).advance ∧ OtherThreads g t s u ∧
        ∀ a, (∀ o, some o ∈ laneOffsets (s.thread g t) (s.word g t) → a < scratchLpa g o ∨ scratchLpa g o + laneBytes (wType (s.word g t)) ≤ a) → u.byte a = s.byte a)) ∧
    (s.issues g t (isOp 5 0x04) vsplitRegs = true →
      Completes (.vsplit g t) s (fun u => u.mem = s.mem ∧ OtherThreads g t s u ∧ (u.thread g t).pc = (s.thread g t).pc + 8 ∧
        ∀ r, r ≠ wVd (s.word g t) → r ≠ wVb (s.word g t) → r ≠ wVc (s.word g t) → (u.thread g t).v r = (s.thread g t).v r))

def Obligations.VscaleCode : Prop :=
  (∀ (ty : Nat) (f : Fmt) (h : Nat) (a : Val), mxFmt ty = some f → h < 4 →
    (a.nonfinite = true → vscale f h a = 0xFF) ∧
    (a.isZero = true → vscale f h a = 0x7F) ∧
    (∀ n m e, a = .fin n m e → m ≠ 0 →
      ((f.maxM : ℚ) * 2 ^ (f.maxE + 127) < (m : ℚ) * 2 ^ (e + h) → vscale f h a = 0xFE) ∧
      ((m : ℚ) * 2 ^ (e + h) ≤ (f.maxM : ℚ) * 2 ^ (f.maxE + 127) →
        vscale f h a ≤ 0xFE ∧ (m : ℚ) * 2 ^ (e + h) ≤ (f.maxM : ℚ) * 2 ^ (f.maxE + ((vscale f h a : Int) - 127)) ∧
        ∀ x : Nat, (m : ℚ) * 2 ^ (e + h) ≤ (f.maxM : ℚ) * 2 ^ (f.maxE + ((x : Int) - 127)) → vscale f h a ≤ x))) ∧
  (∀ (s : State) (g : Fin 384) (t : Fin 32) (f : Fmt), s.issues g t (isOp 5 0x05) (vKeys true true false false false) = true → mxFmt (wType (s.word g t)) = some f →
    Completes (.vscale g t) s (fun u => ∀ n,
      field ((u.thread g t).v (wVd (s.word g t))) (8 * n) 8 =
        if n < 64 then vscale f (wMod (s.word g t)) (ofF32 (field ((s.thread g t).v (wVa (s.word g t))) (32 * n) 32)) else 0))

def Obligations.MatrixIssue : Prop :=
  ∀ (s : State) (g : Fin 384) (t : Fin 32) (c : Instr) (op : Nat),
    (c, op) ∈ ([(.mwload g t, 1), (.mstream g t, 2), (.mdrain g t, 3)] : List (Instr × Nat)) → s.issues g t (isOp 8 op) matKeys = true →
    (wMask (s.word g t) = 0 →
      exec c s = .next ((if wCountEn (s.word g t) = true then s.cinc g (wMatCounter (s.word g t)) 1 else s).setThread g t (s.thread g t).advance)) ∧
    (wMask (s.word g t) ≠ 0 → (∀ n ∈ arraysOf (wMask (s.word g t)), ((s.core g).queue n).length < 8) →
      (s.thread g t).s (wCmd (s.word g t)) % 64 = 0 → (s.thread g t).s (wCmd (s.word g t)) + 64 ≤ 0x300000 →
      ∀ b, b = s.readNat (scratchLpa g ((s.thread g t).s (wCmd (s.word g t)))) 64 →
      (match op with
        | 1 => loadCheck (s.word g t) b ((s.thread g t).s (wOpnd (s.word g t)))
        | 2 => streamCheck (s.core g) (s.word g t) b ((s.thread g t).s (wOpnd (s.word g t)))
        | _ => drainCheck (s.word g t) b ((s.thread g t).s (wOpnd (s.word g t)))) = none →
      matEmpty (s.word g t) b = false →
      Completes c s (fun u => u.thread g t = (s.thread g t).advance ∧ u.mem = s.mem ∧ OtherThreads g t s u ∧
        ∃ m, (u.core g).matrix = (s.core g).matrix ++ [m] ∧ m.thread = t.val ∧ m.word.toNat = s.word g t ∧ m.mask.toNat = wMask (s.word g t) ∧
          m.block.toNat = b ∧ m.opnd = (s.thread g t).s (wOpnd (s.word g t)) ∧ m.pos.toNat = (s.thread g t).s (wPos (s.word g t)) ∧ m.started = 0 ∧ m.done = 0))

def Obligations.MatrixProgress : Prop :=
  ∀ (s : State) (g : Fin 384) (n : Fin 4) (m : MatInstr), s.arraysRun = true →
    ((s.core g).loadHead n = some m → (s.core g).loadMay n m = true →
      exec (.mwloadStart g n) s = .next (s.setCore g { s.core g with matrix := (s.core g).matrix.map (fun x => if x.seq = m.seq then { x with started := x.started ||| arrayBit n } else x) })) ∧
    ((s.core g).loadHead n = some m → (s.core g).stopped n = false → m.started.getLsbD n = true →
      Completes (.mwloadComplete g n) s (fun u => (u.core g).wset n m.set = s.loadSet g n m ∧ u.mem = s.mem ∧ u.threads = s.threads)) ∧
    ((s.core g).streamFor n = some m → (s.core g).streamMay m = true →
      Completes (.mstreamStart g n) s (fun u => (u.core g).bus = some m.seq ∧ u.mem = s.mem ∧
        ∀ x ∈ (u.core g).matrix, x.seq = m.seq → x.started = x.mask)) ∧
    ((s.core g).onBus = some m → (s.core g).rowMay m = true → s.withheldNow = false →
      (∀ a ∈ arraysOf m.mask.toNat, ∀ b < ((s.core g).wset a m.set).blocks, ∀ r,
        r = s.actRow g m m.rows ((s.core g).wset a m.set).k ((s.core g).wset a m.set).block16 →
        parityErrors ((s.core g).wset a m.set) r [] a b ((blockInts ((s.core g).wset a m.set) r [] a).getD b []) = (0, 0)) →
      Completes (.mstreamRow g false []) s (fun u => (∀ x ∈ (s.core g).matrix, x.seq = m.seq → { x with rows := x.rows + 1, tries := 0 } ∈ (u.core g).matrix) ∧
        u.log = s.log ∧ (∀ d, u.dget 0x2221 d = s.dget 0x2221 d) ∧ u.threads = s.threads)) ∧
    ((s.core g).streamed = some m → m.done = 0 →
      exec (.mstreamComplete g) s = .next ((fun v : State => if wCountEn m.word.toNat = true then v.cinc g (wMatCounter m.word.toNat) 1 else v)
        (s.setCore g { s.core g with matrix := (s.core g).matrix.filter (fun x => x.seq != m.seq) }))) ∧
    ((s.core g).drainFor n false = some m → (s.core g).drainMay n m = true →
      exec (.mdrainStart g n) s = .next (s.setCore g { s.core g with matrix := (s.core g).matrix.map (fun x => if x.seq = m.seq then { x with started := x.started ||| arrayBit n } else x) })) ∧
    ((s.core g).drainFor n true = some m → (s.core g).stepMay n m = true → s.withheldNow = false →
      Completes (.mdrainStep g n) s (fun u => ∀ x ∈ (s.core g).matrix, x.seq = m.seq → { x with rows := x.rows + 1 } ∈ (u.core g).matrix)) ∧
    ((s.core g).drainFor n true = some m → m.total * m.width ≤ m.rows → m.done ||| (arrayBit n &&& m.mask) = m.mask →
      Completes (.mdrainComplete g n) s (fun u => (u.core g).matrix = (s.core g).matrix.filter (fun x => x.seq != m.seq) ∧ u.mem = s.mem)) ∧
    ((s.core g).onBus = some m → (s.core g).rowMay m = true → s.withheldNow = true → ∀ err up, exec (.mstreamRow g err up) s = .next s) ∧
    ((s.core g).drainFor n true = some m → (s.core g).stepMay n m = true → s.withheldNow = true → exec (.mdrainStep g n) s = .next s)

def Obligations.ParityLocatesColumn : Prop :=
  (∀ (x : WeightSet) (a : ActRow) (n : Fin 4) (b : Fin 8), x.elems.length ≤ 128 → b.val < x.blocks →
    parityErrors x.withParity a [] n b ((blockInts x.withParity a [] n).getD b []) = (0, 0) ∧
    (∀ (c : Fin 130) (e : Int), c.val < 128 → e ≠ 0 → (x.withParity.covered.getD b 0).getLsbD c = true →
      ∀ e0 e1, parityErrors x.withParity a [(n, c, b, e)] n b ((blockInts x.withParity a [(n, c, b, e)] n).getD b []) = (e0, e1) →
        (e0 ≠ 0 ∨ e1 ≠ 0) ∧ location e0 e1 = c.val) ∧
    (∀ (c d : Fin 130) (e f : Int), c.val < 128 → d.val < 128 → c ≠ d → e ≠ 0 → f ≠ 0 →
      (x.withParity.covered.getD b 0).getLsbD c = true → (x.withParity.covered.getD b 0).getLsbD d = true →
      parityErrors x.withParity a [(n, c, b, e), (n, d, b, f)] n b ((blockInts x.withParity a [(n, c, b, e), (n, d, b, f)] n).getD b []) ≠ (0, 0))) ∧
  (∀ (e0 e1 : Int),
    (∀ j : Int, 1 ≤ j → j ≤ 128 → e0 ≠ 0 → e1 = j * e0 → location e0 e1 = (j - 1).toNat) ∧
    (e0 ≠ 0 → e1 = 0 → location e0 e1 = 0x80) ∧ (e0 = 0 → e1 ≠ 0 → location e0 e1 = 0x81) ∧
    (e0 ≠ 0 → e1 ≠ 0 → (∀ j : Int, 1 ≤ j → j ≤ 128 → e1 ≠ j * e0) → location e0 e1 = 0xFF) ∧ (e0 = 0 → e1 = 0 → location e0 e1 = 0xFF))

def Obligations.UpdateWorkCompletes : Prop :=
  ∀ (s : State) (id : Nat) (j : UpdJob) (v : State) (bss : List Bytes) (pss : List Pieces), s.updMay = true → j.parked = false → s.withheldNow = false →
    (s.updJob id = some j → j.phase = .idle → j.pos < j.count →
      s.Serves j j.pos [⟨j.base + 128 * j.pos, 128, false, true⟩] v bss pss → exec (.updateEntry id) s = .next (v.takeEntry j (leNat (bss.getD 0 [])))) ∧
    (s.updJob id = some j → j.phase = .chunk → ueOrtho j.desc.toNat = false → s.Serves j j.next (chunkSpans j.desc.toNat j.bank j.next) v bss pss →
      exec (.updateChunk id) s = .next (v.chunkDone j bss pss)) ∧
    (s.updJob id = some j → j.phase = .chunk → ueOrtho j.desc.toNat = true → s.Serves j j.next (momentumSpans j.desc.toNat j.bank j.next) v bss pss →
      exec (.updateChunk id) s = .next (v.momentumDone j bss pss)) ∧
    (s.updJob id = some j → j.phase = .apply → s.Serves j j.next (applySpans j.desc.toNat j.bank j.next) v bss pss →
      exec (.updateChunk id) s = .next (v.applyDone j bss pss)) ∧
    (∀ r k, s.updJob id = some j → j.phase = .rows → j.rows[j.next]? = some r → lazyDistance j.step r.last = some k →
      s.Serves j j.next (lazySpans j.desc.toNat r.bank j.next r.row) v bss pss → exec (.lazyAdamRow id) s = .next (v.lazyDone j k bss pss)) ∧
    (s.updJob id = some j → j.phase = .product → (j.ns ≠ 0 ∨ j.product ≠ 0 ∨ j.next ≠ 0) → s.Serves j j.next [spaceSpan j.desc.toNat] v bss pss →
      exec (.orthoProductTile id) s = .next (v.tileDone j)) ∧
    (s.updJob id = some j → j.phase = .norm → s.Serves j 0 [⟨ueAux j.desc.toNat, 8 * ueChunks j.desc.toNat, false, true⟩] v bss pss →
      exec (.chunkSumFold id) s = .next (v.foldDone j bss)) ∧
    (s.updJob id = some j → j.phase = .ratio → s.Serves j 0 [⟨ueRatio j.desc.toNat + 32, 16 * entryChunks j.desc.toNat, false, true⟩] v bss pss →
      exec (.chunkSumFold id) s = .next (v.foldDone j bss)) ∧
    (∀ f, s.followOn id .publish = some (f, j) → f.reads = false → s.Serves j f.next (publishSpans f.desc.toNat f.row f.bank) v bss pss →
      exec (.publishRow id) s = .next (v.publishDone f j bss pss)) ∧
    (∀ f b ps w, s.followOn id .publish = some (f, j) → f.reads = true → s.Serves j f.next [⟨ueCommit f.desc.toNat + 8 * f.next, 8, true, true⟩] w [b] [ps] →
      wordBad b = false → w.Serves j f.next (publishSpans f.desc.toNat f.next (rowOf f.next ps b).bank) v bss pss →
      exec (.publishRow id) s = .next (v.publishDone { f with rows := f.rows ++ [rowOf f.next ps b] } j bss pss)) ∧
    (∀ f, s.followOn id .ratio = some (f, j) → s.Serves j 0 [⟨ueRatio f.desc.toNat, 32, true, false⟩] v bss pss →
      exec (.ratioRecordWrite id) s = .next (v.ratioDone f j (pss.getD 0 []))) ∧
    (∀ f, s.followOn id .sweep = some (f, j) → s.Serves j f.next (sweepSpans f.desc.toNat f.next) v bss pss →
      exec (.scaleSweepBlock id) s = .next (v.sweepDone f j bss pss))

def Obligations.ScaleSweepRule : Prop :=
  ∀ (h st x q : Nat) (skipped : Bool), x ≤ 0xFF → q ≤ 0xFFFF →
    (x = 0xFF → (sweepBlock h skipped st x q).1 = 0xFF ∧ (sweepBlock h skipped st x q).2.1 = q ∧ (sweepBlock h skipped st x q).2.2.getD 4 0 = 1) ∧
    (x < 0xFE → st % 2 = 1 → (sweepBlock h skipped st x q).1 = x + 1 ∧ (sweepBlock h skipped st x q).2.1 = 0 ∧ (sweepBlock h skipped st x q).2.2.getD 0 0 = 1) ∧
    (x = 0xFE → st % 2 = 1 → (sweepBlock h skipped st x q).1 = x ∧ (sweepBlock h skipped st x q).2.1 = 0 ∧ (sweepBlock h skipped st x q).2.2.getD 1 0 = 1) ∧
    (x < 0xFF → st % 2 = 0 → skipped = true → (sweepBlock h skipped st x q).1 = x ∧ (sweepBlock h skipped st x q).2.1 = q) ∧
    (x < 0xFF → st % 2 = 0 → skipped = false → st / 2 % 2 = 1 → (sweepBlock h skipped st x q).1 = x ∧ (sweepBlock h skipped st x q).2.1 = 0 ∧ (sweepBlock h skipped st x q).2.2.getD 5 0 = 1) ∧
    (x < 0xFF → st % 2 = 0 → skipped = false → st / 2 % 2 = 0 → h ≠ 0 → h ≤ min (q + 1) 0xFFFF → 0 < x →
      (sweepBlock h skipped st x q).1 = x - 1 ∧ (sweepBlock h skipped st x q).2.1 = 0 ∧ (sweepBlock h skipped st x q).2.2.getD 2 0 = 1) ∧
    (x < 0xFF → st % 2 = 0 → skipped = false → st / 2 % 2 = 0 → (h = 0 ∨ min (q + 1) 0xFFFF < h ∨ x = 0) →
      (sweepBlock h skipped st x q).1 = x ∧ (sweepBlock h skipped st x q).2.1 = min (q + 1) 0xFFFF) ∧
    (sweepBlock h skipped st x q).2.2.getD 3 0 = (if st / 4 % 2 = 1 then 1 else 0) ∧
    (x < 0xFF → (sweepBlock h skipped st x q).1 < 0xFF ∧ (sweepBlock h skipped st x q).1 ≤ x + 1 ∧ x ≤ (sweepBlock h skipped st x q).1 + 1)

def Obligations.LoftSliceServes : Prop :=
  ∀ (s : State) (id : Nat) (r : Req) (a : Nat) (l : LoftLine),
    (s.atSlice id (· == .load) = some (r, a) → s.inTurn r = true → s.fill (s.line a) = none → s.loftLine (s.line a) = some l →
      l.valid &&& sectorMask a r.len = sectorMask a r.len →
      Completes (.loftRead (.request id) .clean) s (fun u => u.mem = s.mem ∧
        ∃ q ∈ u.trans.reqs, q.id = r.id ∧ q.done = true ∧ q.data = s.read (r.span a).1 (r.span a).2)) ∧
    (s.atSlice id (· == .load) = some (r, a) → s.inTurn r = true → s.fill (s.line a) = none → s.loftLine (s.line a) = none →
      ∀ e, Completes (.loftRead (.request id) e) s (fun u => u.mem = s.mem ∧ u.trans = s.trans ∧ ∃ f, u.fill (s.line a) = some f ∧ f.held = [r.id])) ∧
    (∀ n : Nat, s.alive = true → inTiers (n * 256) = true → s.fill n = none →
      ∀ e, Completes (.loftRead (.line n) e) s (fun u => u = s.readEcc n e ∧ u.mem = s.mem)) ∧
    (s.atSlice id (· == .store) = some (r, a) → s.inTurn r = true → s.fill (s.line a) = none → s.loftLine (s.line a) = some l →
      l.valid &&& (sectorMask a r.len &&& ~~~wholeMask a r.len) = sectorMask a r.len &&& ~~~wholeMask a r.len →
      exec (.loftWrite id .clean) s = .next (s.perform r)) ∧
    (s.atSlice id ReqKind.isAdd = some (r, a) → s.inTurn r = true → s.fill (s.line a) = none → s.loftLine (s.line a) = some l →
      l.valid &&& sectorMask a r.len = sectorMask a r.len →
      exec (.controllerWriteAdd id .clean) s = .next (s.perform r)) ∧
    (∀ line f e, s.fill line = some f → exec (.loftFillReturn line e) s = .next (s.landFill f e)) ∧
    (∀ (die : Fin 4) line f, s.eavesReady die line = some (f, r) → f.dead = false → r.poison = none →
      Completes (.eavesFillReturn die line) s (fun u => u.mem = s.mem ∧ (∃ x ∈ u.cache.eaves, x.die = f.die ∧ x.line = f.line) ∧
        ∀ x ∈ u.cache.eavesFills, x.req ≠ f.req))

def Obligations.GuardsAndScrub : Prop :=
  ∀ (s : State),
    (∀ g : Fin 64, 0 < tget 0 s.cache.stampDue g →
      exec (.stampRewrite g) s = .next (s.rewriteStamp g) ∧ tget 0 (s.rewriteStamp g).cache.stampDue g = 0) ∧
    (∀ (d : Fin 4) useful late unused, pget s.cache.outcomes d = (useful, late, unused) → 4096 ≤ useful + unused →
      Completes (.prefetchDistanceRevise d) s (fun u => pget u.cache.outcomes d = (0, 0, 0) ∧ u.mem = s.mem ∧
        (100 * useful < 40 * (useful + unused) → u.dget 0x2504 (d + 1) = max 1 (s.dget 0x2504 (d + 1) / 2)) ∧
        (70 * (useful + unused) ≤ 100 * useful → useful < 4 * late → u.dget 0x2504 (d + 1) = min (s.dget 0x2503 2) (2 * s.dget 0x2504 (d + 1))) ∧
        (40 * (useful + unused) ≤ 100 * useful → (100 * useful < 70 * (useful + unused) ∨ 4 * late ≤ useful) → u.dget 0x2504 (d + 1) = s.dget 0x2504 (d + 1)))) ∧
    (∀ d : Fin 4, s.alive = true → s.inDusk = true → pget s.cache.scrubbed d ≠ s.slot + 1 → Completes (.scrubDusk d []) s (fun u => u.mem = s.mem ∧ u.dict = s.dict)) ∧
    (∀ (d : Fin 4) thatch, s.alive = true → (∀ c ∈ tierChannels d thatch, tget 0 s.cache.scrubPos c = channelSize thatch) →
      exec (.scrubPassEnd d thatch) s = .next (s.passEnd d thatch) ∧ (∀ c ∈ tierChannels d thatch, tget 0 (s.passEnd d thatch).cache.scrubPos c = 0)) ∧
    (∀ (g : Fin 384) lpa, s.alive = true → s.inDusk = true → s.deferredNow (3000 + g) = false → inCoreSram g lpa = true → exec (.sramScrub g lpa .clean) s = .next s) ∧
    (∀ (d : Fin 4) part line, s.alive = true → Completes (.cacheScrub d part line .clean) s (fun u => u = s)) ∧
    (∀ g : Fin 384, s.alive = true → s.fuse.featureLevel = 2 → Completes (.idleBankScrub g .clean) s (fun u => u.mem = s.mem ∧ (u.core g).scrubRow = ((s.core g).scrubRow + 1) % 49152))

/-- The reading of unwritten bytes is the model's (log 3). -/
def Obligations.MemoryOperations : Prop :=
  ∀ (m : Memory) (a : Nat) (v : Byte), m.wf = true →
    (m.set a v).get a = v ∧ (∀ b, b ≠ a → (m.set a v).get b = m.get b) ∧ (m.set a v).wf = true ∧
    (∀ n tag, (m.forget a n tag).wf = true ∧ ∀ b, (b < a ∨ a + n ≤ b) → (m.forget a n tag).get b = m.get b) ∧
    (∀ n, (m.clear a n).wf = true ∧ ∀ b, (b < a ∨ a + n ≤ b) → (m.clear a n).get b = m.get b) ∧
    (∀ tag, (m.dropSram tag).wf = true ∧ (Memory.lost tag).wf = true ∧ ∀ b, b < 0x30000000000 → (m.dropSram tag).get b = m.get b)

def Obligations.LockedBufferRefusesWrites : Prop :=
  ∀ (s : State) (buf : Buf) (a : Nat) (bs : Bytes) (alloc : Bool) (src : Source) (loc sub step : Nat),
    (s.alm.armCheck = some buf ∨ s.alm.stageCheck = some buf ∨
      (s.alm.activeBuf = buf ∧ (s.alm.state = .armed ∨ s.alm.state = .running ∨ s.alm.state = .paused)) ∨
      (s.alm.standby = .staged ∧ s.alm.activeBuf ≠ buf)) →
    0 < bs.length → 0 < (s.bufRange buf).2 → a < (s.bufRange buf).1 + (s.bufRange buf).2 → (s.bufRange buf).1 < a + bs.length →
    (s.applyWrite a bs alloc src loc sub step).mem = s.mem ∧
    (s.applyWrite a bs alloc src loc sub step).dget 0x2126 2 = (s.dget 0x2126 2 + 1) % 2 ^ 64 ∧ (s.applyWrite a bs alloc src loc sub step).cache = s.cache ∧
    (∀ die, a % 256 + bs.length ≤ 256 → s.fill (s.line a) = none →
      (s.arriveWrite die a bs alloc src loc sub step).mem = s.mem ∧ (s.arriveWrite die a bs alloc src loc sub step).dget 0x2126 2 = (s.dget 0x2126 2 + 1) % 2 ^ 64)

def Obligations.BoundaryAndGuardBand : Prop :=
  ∀ s : State,
    (s.boundaryMay = true → s.atBoundary.boundaryBlocked = false → ∀ junction upset held,
      exec (.slotBoundary junction upset held) s = .next (s.atBoundary.boundary junction upset held)) ∧
    (s.time.boundaryOpen = false → ∀ d : Fin 4, pget s.atBoundary.time.sdt d = BitVec.ofNat 64 ((s.slot + 1) * 2048)) ∧
    (s.guardMay = true → s.inDusk = false → s.time.sampled = false → (s.leads = true → s.decisionDue = false ∧ ∀ c, s.upcoming = some c → s.unreadDue c = false) →
      Completes .guardBandSample s (fun u => u.time.sampled = true ∧ ∀ d : Fin 4, pget u.time.sdt d = BitVec.ofNat 64 (s.slot * 2048 + 1984))) ∧
    (s.boot.mode = .dim → s.served = true →
      Completes .dimSkylightSnapshot s (fun u => u.host.skyGen = (s.host.skyGen + 1) % 2 ^ 64 ∧ slice u.host.sky 0 8 = natLe 8 u.host.skyGen ∧ u.mem = s.mem))

def Obligations.BeaconExchange : Prop :=
  ∀ s : State,
    (s.clockOn = true → s.quiet = false → s.isRoot = false → s.time.parentLink < 36 → s.live s.time.parentLink = true → s.time.beaconWait = 0 →
      Completes .beaconRequestSend s (fun u => u.time.beaconWait = 16 ∧ u.time.beaconSeq = s.time.beaconSeq + 1 ∧ u.time.beaconOut = s.time.beaconOut ++ [(s.time.beaconSeq, s.time.parentLink)])) ∧
    (∀ link : Fin 36, s.clockOn = true → s.quiet = false → s.isRoot = false → link.val ∈ s.parentLinks → link.val ≠ s.time.parentLink →
      (tget 0 s.time.unusedSent link = 0 ∨ tget 0 s.time.unusedSent link + minuteSlots ≤ s.slot + 1) →
      Completes (.unusedParentBeacon link) s (fun u => u.time.beaconSeq = s.time.beaconSeq + 1 ∧ u.time.beaconOut = s.time.beaconOut ++ [(s.time.beaconSeq, link.val)])) ∧
    (∀ r f t, s.takeBeacon false = some (r, f, t) → ∀ t2frac t3frac turn, turn ≤ 64 →
      Completes (.beaconRequest t2frac t3frac turn) s (fun u => u.fab.inbox = s.fab.inbox.erase r ∧ u.time = s.time ∧ u.mem = s.mem)) ∧
    (∀ r f t, s.takeBeacon true = some (r, f, t) → ∀ t4frac : Fin 256,
      ((t.goodBeacon r f).1 = true → ∀ q, s.time.beaconOut.find? (fun p => p.1.toNat == (beaconOf f.body).seq) = some (q, s.time.parentLink) →
        Completes (.beaconResponse t4frac) s (fun u =>
          u.time.samples = ((((s.sdt * 256 + t4frac : Nat) - (beaconOf f.body).echoTx : Int) - ((beaconOf f.body).tx - (beaconOf f.body).echoRx),
            (((beaconOf f.body).echoRx : Int) - (beaconOf f.body).echoTx) + ((beaconOf f.body).tx - (s.sdt * 256 + t4frac : Nat)) - 2 * s.trim s.time.parentLink) :: s.time.samples).take 8 ∧
          u.time.hops = (beaconOf f.body).hops + 1)) ∧
      (s.time.beaconOut.find? (fun p => p.1.toNat == (beaconOf f.body).seq) = none →
        Completes (.beaconResponse t4frac) s (fun u => u.time = s.time ∧ u.fab.inbox = s.fab.inbox.erase r)))

def Obligations.ParentClock : Prop :=
  ∀ s : State,
    (s.clockOn = true → s.isRoot = false → s.time.lock ∈ [LockState.syntonising, .aligning, .locked] → s.time.parentLink < 36 →
      Completes .parentClockLost s (fun u =>
        (({ s with time := { s.time with rxClock := s.time.rxClock &&& ~~~(1#36 <<< s.time.parentLink) } } : State).parentLinks = [] → u.time.lock = .holdover) ∧
        (({ s with time := { s.time with rxClock := s.time.rxClock &&& ~~~(1#36 <<< s.time.parentLink) } } : State).parentLinks ≠ [] →
          u.time.lock = s.time.lock ∧ u.time.parentLink ∈ ({ s with time := { s.time with rxClock := s.time.rxClock &&& ~~~(1#36 <<< s.time.parentLink) } } : State).parentLinks))) ∧
    (∀ link : Fin 36, s.clockOn = true → s.isRoot = false →
      link.val ∈ ({ s with time := { s.time with rxClock := s.time.rxClock ||| (1#36 <<< link.val) } } : State).parentLinks →
      (s.time.lock ∈ [LockState.free, .holdover] →
        Completes (.parentLinkRecovered link) s (fun u => u.time.lock = .syntonising ∧ u.time.parentLink = link.val ∧ u.clk.pll = PerDie.all 1)) ∧
      (s.time.lock ∉ [LockState.free, .holdover] → s.time.rxClock.getLsbD link = false →
        Completes (.parentLinkRecovered link) s (fun u => u.time.lock = s.time.lock ∧ u.time.rxClock.getLsbD link = true ∧ u.clk = s.clk)))

def Obligations.AlmanacControl : Prop :=
  ∀ (s : State) (via : Via), s.mayWrite via 0x2112 0 = true →
    (s.armPermits = true →
      Completes (.armA via) s (fun u => u.alm.state = .checking ∧ u.alm.armCheck = some .a ∧ u.alm.activeBuf = s.alm.activeBuf) ∧
      Completes (.armB via) s (fun u => u.alm.state = .checking ∧ u.alm.armCheck = some .b ∧ u.alm.activeBuf = s.alm.activeBuf)) ∧
    (s.stagePermits .a = true → Completes (.stageA via) s (fun u => u.alm.standby = .checking ∧ u.alm.stageCheck = some .a ∧ u.alm.state = s.alm.state)) ∧
    (s.stagePermits .b = true → Completes (.stageB via) s (fun u => u.alm.standby = .checking ∧ u.alm.stageCheck = some .b ∧ u.alm.state = s.alm.state)) ∧
    (s.unstagePermits = true → Completes (.unstage via) s (fun u => u.alm.standby = .none ∧ u.alm.state = s.alm.state ∧ u.mem = s.mem)) ∧
    (s.disarmPermits = true → s.running = false → Completes (.disarm via) s (fun u => u.alm.state = .idle ∧ u.mem = s.mem)) ∧
    (s.disarmPermits = true → s.running = true → Completes (.disarm via) s (fun u => u.alm.state = .halted ∧ u.dget 0x2121 0 = 0x13)) ∧
    (s.armPermits = true ↔ (s.alm.standby ≠ .checking ∧ s.alm.state ∈ [AlmanacState.idle, .complete, .halted, .rejected])) ∧
    (s.armPermits = false → exec (.armA via) s = .next (s.answerVia via 0x0A 0x2112 0) ∧ exec (.armB via) s = .next (s.answerVia via 0x0A 0x2112 0)) ∧
    (s.disarmPermits = false → exec (.disarm via) s = .next (s.answerVia via 0x0A 0x2112 0))

def Obligations.AlmanacRuns : Prop :=
  ∀ s : State,
    (s.leads = true → ∀ buf, s.alm.armCheck = some buf →
      Completes .almanacCheckDone s (fun u => u.alm.armCheck = none ∧
        (∀ code, (s.checkBuffer buf).2 = .bad code → u.alm.state = .rejected ∧ u.dget 0x2121 0 = code) ∧
        (∀ h, (s.checkBuffer buf).2 = .good h → h.empty = true → u.alm.state = .complete) ∧
        (∀ h, (s.checkBuffer buf).2 = .good h → h.empty = false → (s.checkBuffer buf).1.checkStart h = .good h → u.alm.state = .armed))) ∧
    (s.leads = true → ∀ buf, s.alm.armCheck = none → s.alm.stageCheck = some buf →
      Completes .almanacCheckDone s (fun u => u.alm.stageCheck = none ∧
        (∀ code, (s.checkBuffer buf).2 = .bad code → u.alm.standby = .rejected ∧ u.dget 0x2127 0 = code) ∧
        (∀ h, (s.checkBuffer buf).2 = .good h → u.alm.standby = .staged ∧ u.alm.stagedHdr = some h))) ∧
    (s.leads = true → s.boundaryMay = true → s.alm.state = .armed → s.dget 0x2114 0 = s.atBoundary.sdt →
      Completes .almanacStart s (fun u => u.alm.state = .running ∧ u.gates = [] ∧ u.dget 0x2104 3 = 0 ∧ ∀ g p, u.gate g p = 0)) ∧
    (s.leads = true → s.queued < 4096 → ∀ h a, s.nextDescriptor = some (h, a) → s.poisonedAt a 32 = none →
      Completes .almanacDescriptorRead s (fun u => u.queued = s.queued + 1 ∧
        (s.alm.readIdx + 1 < h.count → u.alm.readIdx = s.alm.readIdx + 1 ∧ u.alm.readIter = s.alm.readIter) ∧
        (h.count ≤ s.alm.readIdx + 1 → u.alm.readIdx = 0 ∧ u.alm.readIter = s.alm.readIter + 1))) ∧
    (∀ (via : Via) (v : BitVec 64), s.mayWrite via 0x2116 0 = true → s.alm.state = .paused → v.toNat % 2048 = 0 → isDusk (slotOf v.toNat) = false → s.sdt + 2048 ≤ v.toNat →
      Completes (.resumeSdtWrite via v) s (fun u => u.alm.resumeAt = some v ∧ u.alm.state = .paused ∧ u.dget 0x2116 0 = v.toNat)) ∧
    (s.leads = true → s.boundaryMay = true → s.alm.state = .paused → s.alm.resumeAt = some (BitVec.ofNat 64 s.atBoundary.sdt) →
      Completes .pauseResume s (fun u => u.alm.state = .running ∧ u.alm.resumeAt = none))

def Obligations.ConjunctionWindow : Prop :=
  ∀ s : State,
    (∀ r f t, s.takeFrame 0x02 = some (r, f, t) →
      Completes .agreement s (fun u =>
        (∀ w, t.takesFrame (f.tf % 2 ^ 32) false = some w → ({ w with vec := w.vec.merge (vecOf f.body) } : Window) ∈ u.conj.windows) ∧
        (t.takesFrame (f.tf % 2 ^ 32) false = none → u.conj = s.conj ∧ u.dget 0x2126 1 = (s.dget 0x2126 1 + 1) % 2 ^ 64))) ∧
    (∀ r f t, s.takeFrame 0x03 = some (r, f, t) →
      Completes .seal s (fun u =>
        (∀ w, t.takesFrame (f.tf % 2 ^ 32) true = some w → ∃ w' ∈ u.conj.windows, w'.vec = w.vec ∧
          w'.sealMin.toNat = min w.sealMin.toNat (leAt f.body 0 4) ∧ w'.sealMax.toNat = max w.sealMax.toNat (leAt f.body 4 4)) ∧
        (t.takesFrame (f.tf % 2 ^ 32) true = none → u.conj = s.conj ∧ u.dget 0x2126 1 = (s.dget 0x2126 1 + 1) % 2 ^ 64))) ∧
    (s.guardMay = true → s.inDusk = false → ∀ w,
      (s.deadlineWindow 2 1 = some w → Completes .vectorDeadline s (fun u => ({ w with closed := 1 } : Window) ∈ u.conj.windows)) ∧
      (s.deadlineWindow 3 2 = some w → Completes .sealDeadline s (fun u => ({ w with closed := 2 } : Window) ∈ u.conj.windows))) ∧
    (s.leads = true → s.clockOn = true → ∀ w, s.dueWindow = some w → w.decision = none →
      Completes .conjunctionDecision s (fun u => ({ w with decision := some w.decide } : Window) ∈ u.conj.windows ∧
        u.conj.lastAgreement = BitVec.ofNat 1024 (leNat w.vec.bytes) ∧ u.dget 0x2104 4 = w.vec.slipKey))

def Obligations.ConjunctionOutcome : Prop :=
  (∀ w : Window,
    w.decide =
      (if ¬(w.sealMin = w.sealMax ∧ w.vec.idMin = w.vec.idMax ∧ w.vec.conjMin = w.vec.conjMax) then Decision.halt 0x12
      else if ∃ i : Fin 512, w.ranks.getLsbD i = true ∧ w.vec.presence.getLsbD i = false then .halt 0x11
      else if w.vec.flags.getLsbD 0 = true then .halt 0x10
      else if w.vec.flags.getLsbD 3 = true then .pause
      else if w.vec.flags.getLsbD 4 = true ∧ w.vec.standbyMin = w.vec.standbyMax ∧ w.vec.standbyMax ≠ 0 then .swap
      else if w.final = true then .complete (w.chain && decide (w.vec.standbyMin = w.vec.standbyMax ∧ w.vec.standbyMax ≠ 0))
      else if w.vec.slipKey / 2 ^ 16 ≠ 0 then .slip (w.vec.slipKey / 2 ^ 16)
      else .nothing)) ∧
  (∀ (s : State) (w : Window), s.leads = true → s.boundaryMay = true → isDusk s.atBoundary.slot = false → s.dueWindow = some w →
    (∀ d, w.decision = some d → Completes .conjunctionEffect s (fun u => ∀ x ∈ u.conj.windows, x.conj ≠ w.conj ∨ x.gen ≠ w.gen)) ∧
    (∀ code, w.decision = some (.halt code) → Completes .conjunctionEffect s (fun u => u.alm.state = .halted ∧ u.dget 0x2121 0 = code ∧ u.conj.windows = [])) ∧
    (w.decision = some .pause → Completes .conjunctionEffect s (fun u => u.alm.state = .paused ∧ u.dget 0x2115 0 = 0)) ∧
    (∀ n, w.decision = some (.slip n) → Completes .conjunctionEffect s (fun u =>
      u.alm.slips = s.alm.slips ++ [((if w.gen = s.alm.gen then w.first else s.alm.nextAlm), n)] ∧ u.alm.state = s.alm.state)))

def Obligations.VectorMerge : Prop :=
  (∀ x y z : AVec, x.merge y = y.merge x ∧ (x.merge y).merge z = x.merge (y.merge z) ∧ x.merge x = x) ∧
  (∀ x : AVec, x.idMin < 2 ^ 32 → x.idMax < 2 ^ 32 → x.conjMin < 2 ^ 32 → x.conjMax < 2 ^ 32 → x.standbyMin < 2 ^ 32 → x.standbyMax < 2 ^ 32 →
    x.skipMin < 2 ^ 32 → x.faultRankMin < 2 ^ 16 → x.slipKey < 2 ^ 24 → x.bytes.length = 128 ∧ vecOf x.bytes = x) ∧
  (∀ (s : State) (q : QTransit), s.gateOpenNow q = true ↔
    (q.transit.waitGate = 0 ∨ (s.gate q.transit.waitGate (q.iter % 2 == 1) - q.transit.waitValue).toNat < 2 ^ 31))

def Obligations.WalksAndParks : Prop :=
  ∀ s : State,
    (∀ (a : Agent) (write : Bool) (ecc : EccEvent) (c : XCtx), s.firstMiss (s.needs a write) = some c → s.walkEccOk c ecc = true →
      exec (.pageWalk a write ecc) s = .next (((s.walkEcc c ecc).walkFor c).1.walkOutcome a c ((s.walkEcc c ecc).walkFor c).2) ∧
      c ∈ s.needs a write ∧ s.lookup c = .miss) ∧
    (∀ p, s.trans.parkWait.find? (fun p => (s.parkMatch p).isSome || s.ringFree s.trans.nextSeq) = some p →
      (∀ r, s.parkMatch p = some r → Completes .parkRecordWrite s (fun u => u.trans.parkWait = s.trans.parkWait.erase p ∧ u.trans.nextSeq = s.trans.nextSeq ∧
        u.trans.parks.length = s.trans.parks.length ∧ ({ r with joined := r.joined ++ [p] } : ParkRec) ∈ u.trans.parks)) ∧
      (s.parkMatch p = none → Completes .parkRecordWrite s (fun u => u.trans.parkWait = s.trans.parkWait.erase p ∧
        u.trans.nextSeq = s.trans.nextSeq + 1 ∧ u.trans.parks.length = s.trans.parks.length + 1 ∧
        ∃ r ∈ u.trans.parks, r.seq = s.trans.nextSeq ∧ r.asid = p.asid ∧ r.page = p.va / 65536 ∧ r.first = p ∧ r.joined = []))) ∧
    (∀ (via : Via) (v : BitVec 64), s.mayWrite via 0x2621 0 = true → s.trans.preempt = .running → (∃ r ∈ s.trans.parks, r.seq = v.toNat % 2 ^ 32) →
      (bit v.toNat 32 = false → Completes (.parkRelease via v) s (fun u => ∀ r ∈ u.trans.parks, r ∈ s.trans.parks ∧ r.seq ≠ v.toNat % 2 ^ 32)) ∧
      (bit v.toNat 32 = true → Completes (.parkAbandon via v) s (fun u => ∀ r ∈ u.trans.parks, r ∈ s.trans.parks ∧ r.seq ≠ v.toNat % 2 ^ 32))) ∧
    (∀ (via : Via) (v : BitVec 64) (r : ParkRec), s.mayWrite via 0x2621 0 = true → s.trans.preempt ≠ .running →
      s.trans.parks.find? (fun x => x.seq == v.toNat % 2 ^ 32) = some r →
      (bit v.toNat 32 = false → Completes (.parkRelease via v) s (fun u => u.trans.parks = s.trans.parks ∧ u.trans.released = addNew r.seq s.trans.released)) ∧
      (bit v.toNat 32 = true → Completes (.parkAbandon via v) s (fun u => u.trans.parks = s.trans.parks ∧ u.trans.abandons = addNew r.seq s.trans.abandons))) ∧
    (∀ (via : Via) (v : BitVec 64), s.mayWrite via 0x2621 0 = true → (∀ r ∈ s.trans.parks, r.seq ≠ v.toNat % 2 ^ 32) → bit v.toNat 32 = false →
      Completes (.parkRelease via v) s (fun u => u.trans = s.trans ∧ u.dget 0x3601 3 = (s.dget 0x3601 3 + 1) % 2 ^ 64)) ∧
    (∀ seq r, s.trans.parks.find? (fun r => r.seq == seq) = some r → s.trans.preempt = .running → s.dget 0x2622 0 ≠ 0 → r.first.sdt / 2048 + s.dget 0x2622 0 < s.slot →
      Completes (.parkTimeout seq) s (fun u => ∀ x ∈ u.trans.parks, x ∈ s.trans.parks ∧ x.seq ≠ seq))

def Obligations.Invalidation : Prop :=
  ∀ (s : State) (via : Via), s.mayWrite via 0x2610 3 = true →
    (∀ (c : Instr) (k : InvalCmd),
      (c, k) ∈ [(Instr.invalRange via, (⟨1, s.dget 0x2610 4 % 4096, s.dget 0x2610 1, s.dget 0x2610 1 + s.dget 0x2610 2 * 65536⟩ : InvalCmd)),
        (.invalAsid via, ⟨2, s.dget 0x2610 4 % 4096, s.dget 0x2610 1, s.dget 0x2610 1 + s.dget 0x2610 2 * 65536⟩),
        (.invalAll via, ⟨3, s.dget 0x2610 4 % 4096, s.dget 0x2610 1, s.dget 0x2610 1 + s.dget 0x2610 2 * 65536⟩)] →
      (k.kind = 1 → s.dget 0x2610 2 ≠ 0) →
      Completes c s (fun u => u.trans.inval = s.trans.inval ++ [k] ∧
        (∀ (d : Fin 4) (e : TlbEntry), e ∈ pget u.trans.dieTlb d ↔ (e ∈ pget s.trans.dieTlb d ∧ k.covers e.asid e.va e.size = false)) ∧
        (∀ (g : Fin 384) (e : TlbEntry), e ∈ (u.core g).tlb ↔ (e ∈ (s.core g).tlb ∧ k.covers e.asid e.va e.size = false)) ∧ u.mem = s.mem)) ∧
    (s.dget 0x2610 2 = 0 → Completes (.invalRange via) s (fun u => u.trans = s.trans ∧ u.cores = s.cores ∧ u.mem = s.mem)) ∧
    (s.trans.inval ≠ [] → (∀ r ∈ s.trans.reqs, ∀ c ∈ s.trans.inval, c.covers r.asid r.va r.len = false ∧ ∀ n, r.next = some n → c.covers r.asid n.2.2.2 r.len = false) →
      Completes .invalComplete s (fun u => u.trans.inval = [] ∧ u.viewUnits 0x2610 5 = 0 ∧ u.mem = s.mem))

def Obligations.Preemption : Prop :=
  ∀ s : State,
    (∀ via : Via, s.mayWrite via 0x2640 0 = true →
      (s.prePermits 1 = true → Completes (.stop via) s (fun u => u.trans.preempt = .stopping ∧ u.mem = s.mem)) ∧
      (s.prePermits 2 = true → placed (s.dget 0x2642 0) 65536 0x60000000 = true → Completes (.save via) s (fun u => u.trans.preempt = .saving ∧ u.mem = s.mem)) ∧
      (s.prePermits 3 = true → Completes (.resume via) s (fun u => u.trans.preempt = .restoring ∧ u.trans.restoreAll = (s.trans.preempt == .saved) ∧ u.mem = s.mem)) ∧
      (s.prePermits 1 = false → exec (.stop via) s = .next (s.answerVia via 0x0A 0x2640 0)) ∧
      (s.prePermits 2 = false → exec (.save via) s = .next (s.answerVia via 0x0A 0x2640 0)) ∧
      (s.prePermits 3 = false → exec (.resume via) s = .next (s.answerVia via 0x0A 0x2640 0))) ∧
    (s.allSafe = true → s.trans.preempt = .stopping → Completes .preemptStopDone s (fun u => u.trans.preempt = .stopped)) ∧
    (s.allSafe = true → s.trans.preempt = .saving → Completes .preemptSaveDone s (fun u => u.trans.preempt = .saved)) ∧
    (s.trans.preempt = .restoring → s.trans.restoreFailed = false →
      (s.trans.restoreAll = false → Completes .preemptRestoreDone s (fun u => u.trans.preempt = .running)) ∧
      (s.trans.restoreAll = true → Completes .preemptRestoreDone s (fun u =>
        (s.checkSaved.log.arrivals.length ≠ s.log.arrivals.length → u.trans.preempt = .restoring ∧ u.trans.restoreFailed = true) ∧
        (s.checkSaved.log.arrivals.length = s.log.arrivals.length → u.trans.preempt = .running))))

def Obligations.MoverDescriptors : Prop :=
  ∀ (s : State) (d : Fin 4) (m : Fin 64), s.moverMay d m = true →
    (∀ (c : Instr) (op : Nat), (c, op) ∈ [(Instr.stream d m, 1), (.gather d m, 2), (.scatter d m, 3), (.streamAdd d m, 4), (.scatterAdd d m, 5)] →
      (s.mover d m).desc = none → (s.mover d m).cur < (s.mover d m).count → (s.mover d m).addr % 64 = 0 →
      ∀ t bs, s.readDesc d m (s.mover d m).cur = (t, .bytes bs) → mdOp (leNat bs) = op → mdMalformed d (leNat bs) = false → mdEmpty (leNat bs) = false →
      (mdFence (leNat bs) = true → (t.mover d m).open_ = []) →
      Completes c s (fun u => (u.mover d m).desc = some (BitVec.ofNat 512 (leNat bs)) ∧ (u.mover d m).elem = 0 ∧ (u.mover d m).off = 0 ∧ u.mem = t.mem)) ∧
    ((s.mover d m).addr % 64 = 0 → (s.mover d m).cur + 1 + (s.mover d m).ahead.length < (s.mover d m).count → (s.mover d m).ahead.length < 4 →
      ∀ t tr at_ u bs, s.translate (moverCtx d (s.mover d m) ((s.mover d m).descVa ((s.mover d m).cur + 1 + (s.mover d m).ahead.length)) 3) = (t, .ok tr at_) →
      t.readDesc d m ((s.mover d m).cur + 1 + (s.mover d m).ahead.length) = (u, .bytes bs) → mdMalformed d (leNat bs) = false →
      Completes (.moverDescriptorReadahead d m) s (fun v => (v.mover d m).ahead = (u.mover d m).ahead ++
        [((s.mover d m).cur + 1 + (s.mover d m).ahead.length, BitVec.ofNat 512 (leNat bs))])) ∧
    (∀ desc : BitVec 512, (s.mover d m).desc = some desc →
      (mdIndexed desc.toNat = false → (s.mover d m).elem < 2 ^ 32 → exec (.moverPieceIssue d m) s = .next (s.issuePiece d m desc.toNat (s.mover d m).elem)) ∧
      (∀ t bs, mdIndexed desc.toNat = true → s.moverRead d m ((s.mover d m).indexVa desc.toNat) 0 4 = (t, .bytes bs) →
        exec (.moverPieceIssue d m) s = .next (t.issuePiece d m desc.toNat (leNat bs)))) ∧
    (∀ o rest, (s.mover d m).open_ = o :: rest → (∀ r ∈ s.trans.reqs, ¬(r.agent = .mover d m ∧ r.desc = o.idx)) →
      Completes (.descriptorRetire d m) s (fun u => (u.mover d m).open_ = rest ∧ (u.mover d m).oldest = o.idx + 1 ∧
        ((s.mover d m).count ≤ o.idx + 1 → (u.mover d m).status = .idle)))

def Obligations.LinkTraining : Prop :=
  ∀ (s : State) (l : Fin 36),
    (s.linksOn = true → pmEnable (s.portMap l) = true →
      ((s.link l).state = .down → Completes (.linkRetryTimer l) s (fun u => (u.link l).state = (if s.ethRole l = true then .ethTraining else .detect) ∧ (u.link l).wiringFault = 0)) ∧
      ((s.link l).state = .detect → Completes (.linkRetryTimer l) s (fun u => (u.link l).state = .detect ∧
        (u.link l).wiringFault = (if (s.link l).wiringFault = 0 then 1 else (s.link l).wiringFault)))) ∧
    (s.linksOn = true → (s.link l).state = .detect → Completes (.linkDetected l) s (fun u => (u.link l).state = .equalise ∧ u.mem = s.mem)) ∧
    (s.linksOn = true → (s.link l).state = .equalise → ∀ (laneMap : BitVec 24) (polarity : BitVec 8),
      Completes (.linkEqualised l laneMap polarity true) s (fun u => (u.link l).state = .identify ∧ (u.link l).laneMap = laneMap ∧ (u.link l).polarity = polarity ∧
        u.out = .flit l ((u.link l).controlFlit false 1 (identityBits (u.ownIdentity l))) :: s.out) ∧
      Completes (.linkEqualised l laneMap polarity false) s (fun u => (u.link l).state = .detect ∧ (u.link l).wiringFault = 2)) ∧
    (s.linksOn = true → (s.link l).state = .identify ∨ (s.link l).state = .miswired →
      ∀ x : BitVec 1600, flitType x.toNat = 0 → field x.toNat 1472 8 = 1 →
        (flitCrcOk x.toNat = true → Completes (.identity l x) s (fun u => (u.link l).peerMsg = some (identityOf x.toNat) ∧
          (u.link l).peerRank = (identityOf x.toNat).rank ∧ (u.link l).peerLink = (identityOf x.toNat).link)) ∧
        (flitCrcOk x.toNat = false → exec (.identity l x) s = .next s)) ∧
    (s.quiet = false → (s.link l).state ∈ [LinkSt.active, .fenced, .miswired, .identify] →
      ((s.link l).retrainDue = true ∨ (s.inDusk = true ∧ (s.link l).fecDue = true ∧ 2000 + l.val ∉ s.log.deferred)) →
      Completes (.linkRetrain l) s (fun u => u.link l = { s.link l with retrainDue := false, fecDue := false, fec := (0, 0), resends := 0 } ∧
        u.dget 0x3701 (l + 1) = (s.dget 0x3701 (l + 1) + 1) % 2 ^ 64)) ∧
    ((s.link l).state ∉ [LinkSt.down, .disabled, .ethTraining, .ethUp] →
      Completes (.linkDown l) s (fun u => (u.link l).state = .down ∧ (u.link l).txSeq = 0 ∧ (u.link l).rxSeq = 0 ∧ (u.link l).replay = [] ∧ u.time.rxClock.getLsbD l = false))

def Obligations.FlitLayer : Prop :=
  ∀ (s : State) (l : Fin 36),
    (∀ (x : BitVec 1600) (fec : Nat), (s.link l).trained = true → s.quiet = false →
      (flitType x.toNat ≠ 0 → (s.link l).state ∈ [LinkSt.active, .fenced] →
        ((flitCrcOk x.toNat = false ∨ (flitType x.toNat ≠ 3 ∧ flitVc x.toNat < 5 ∧ flitSeq x.toNat ≠ (s.link l).rxSeq)) →
          Completes (.flitReceived l ⟨x, fec⟩) s (fun u => (u.link l).rxSeq = (s.link l).rxSeq ∧ (u.link l).nakSent = true ∧ u.fab.inbox = s.fab.inbox)) ∧
        (flitCrcOk x.toNat = true → flitType x.toNat ≠ 3 → flitVc x.toNat < 5 → flitSeq x.toNat = (s.link l).rxSeq →
          Completes (.flitReceived l ⟨x, fec⟩) s (fun u => (u.link l).rxSeq = ((s.link l).rxSeq + 1) % 4096))) ∧
      (flitType x.toNat = 0 → flitCrcOk x.toNat = true → (s.link l).state = .active →
        (field x.toNat 1480 8 ≠ 1 → exec (.creditUpdate l x) s = .next (s.takeCredits l x.toNat)) ∧
        (field x.toNat 1480 8 = 1 → exec (.nak l x) s = .next ((s.takeCredits l x.toNat).resend l)))) ∧
    (s.quiet = false → (s.link l).state = .active → (s.link l).replay ≠ [] → (s.link l).retrainDue = false → s.elapsed (s.link l).progress 3200 = true →
      Completes (.replayTimeout l) s (fun u => (u.link l).progress = s.sdt ∧ (u.link l).resends = (s.link l).resends + 1 ∧ (u.link l).retrainDue = decide (15 ≤ (s.link l).resends) ∧
        (u.link l).replay = (s.link l).replay ∧ u.out.length = s.out.length + (s.link l).replay.length ∧ u.dget 0x3700 (l + 1) = (s.dget 0x3700 (l + 1) + 1) % 2 ^ 64)) ∧
    (∀ inc : BitVec 16, s.quiet = false → (s.link l).state = .active →
      (inc.toNat ≠ s.incarnation → Completes (.fenceNotice l inc) s (fun u => u.fab.fenced = true ∧ u.alm.state = .halted ∧ u.dget 0x2121 0 = 0x14 ∧ u.quiet = true)) ∧
      (inc.toNat = s.incarnation → exec (.fenceNotice l inc) s = .next s)) ∧
    (s.quiet = false → (s.link l).trained = true → pmFenced (s.portMap l) = true → s.elapsed (s.link l).noticeNext 0 = true →
      Completes (.fenceNoticeSend l) s (fun u => u.out = .flit l (s.fenceFlit l) :: s.out ∧ u.link l = { s.link l with noticeNext := s.sdt + 1600000 } ∧ u.mem = s.mem)) ∧
    (s.boot.inReset = false → s.boot.mode ≠ .dim →
      ∀ (src dst : Fin 4) (hop : Fin 2) (load : SeamLoad) (zero : Bool) (dir : Nat), (dieRoute src dst)[hop.val]? = some dir →
        s.seamMay (dieRoute src dst) hop dir (loadVc load * 16 + src.val * 4 + dst.val) (loadVc load) = true →
        Completes (.seamRidgeFlit ⟨src, dst, hop⟩ load ⟨zero, true⟩) s (fun u => u.out = .seam dir (loadClass load) (s.headerOnly dir zero) true :: s.out ∧
          tget 0 u.fab.seamTries dir = 0 ∧ u.boot.mode = s.boot.mode) ∧
        (tget 0 s.fab.seamTries dir < 16 → Completes (.seamRidgeFlit ⟨src, dst, hop⟩ load ⟨zero, false⟩) s (fun u =>
          u.out = .seam dir (loadClass load) (s.headerOnly dir zero) false :: s.out ∧ tget 0 u.fab.seamTries dir = tget 0 s.fab.seamTries dir + 1 ∧
          u.dget 0x3010 (dir / 2 + 1) = (s.dget 0x3010 (dir / 2 + 1) + 1) % 2 ^ 64 ∧ u.boot.mode = s.boot.mode)) ∧
        (16 ≤ tget 0 s.fab.seamTries dir → Completes (.seamRidgeFlit ⟨src, dst, hop⟩ load ⟨zero, false⟩) s (fun u => u.boot.mode = .faulted ∧ u.quiet = true))) ∧
    (s.boot.inReset = false → s.boot.mode ≠ .faulted → s.boot.mode ≠ .dim →
      (∀ die : Fin 4, Completes (.dieLost die) s (fun u => u.boot.mode = .faulted ∧ pget u.fuse.answers die = false)))

def Obligations.FabricFrames : Prop :=
  ∀ s : State,
    (∀ (c : Instr) (ftype : Nat) (take : State → Frame → State),
      (c, ftype, take) ∈ [(Instr.memRead, 0x10, State.serveRead), (.memWrite, 0x11, State.serveWrite), (.memWriteAdd, 0x12, State.serveAdd)] →
      ∀ r f t, s.takeFrame ftype = some (r, f, t) →
        (∀ q ∈ s.fab.inbox.takeWhile (· != r), (parseFrame q.bytes).isRequest = true → (parseFrame q.bytes).src = f.src →
          overlaps ((parseFrame q.bytes).tf % 2 ^ 44) (parseFrame q.bytes).reqLen (f.tf % 2 ^ 44) f.reqLen = false) →
        exec c s = .next ((take t f).free_ r) ∧ r ∈ s.fab.inbox ∧ t.fab.inbox = s.fab.inbox.erase r) ∧
    (∀ (c : Instr) (ftype : Nat) (take : State → Frame → State),
      (c, ftype, take) ∈ [(Instr.readData, 0x18, State.takeReadData), (.writeAck, 0x19, State.takeWriteAck), (.windowDone, 0x21, State.takeDone),
        (.gateInc, 0x28, State.takeGateInc), (.gateAck, 0x29, State.takeGateAck)] →
      ∀ r f t, s.takeFrame ftype = some (r, f, t) → exec c s = .next ((take t f).free_ r) ∧ r ∈ s.fab.inbox ∧ t.fab.inbox = s.fab.inbox.erase r) ∧
    (∀ r f t v, s.takeFrame 0x10 = some (r, f, t) →
      (∀ q ∈ s.fab.inbox.takeWhile (· != r), (parseFrame q.bytes).isRequest = true → (parseFrame q.bytes).src = f.src →
        overlaps ((parseFrame q.bytes).tf % 2 ^ 44) (parseFrame q.bytes).reqLen (f.tf % 2 ^ 44) f.reqLen = false) →
      memoryRange (f.tf % 2 ^ 44) f.reqLen = true → s.cache.fills = [] →
      v = (if f.eaves then ((t.countForeign f).loftRead (f.tf % 2 ^ 44) f.reqLen (f.alloc || f.eaves)).export_ (t.line (f.tf % 2 ^ 44))
        else (t.countForeign f).loftRead (f.tf % 2 ^ 44) f.reqLen (f.alloc || f.eaves)) →
      v.poisonedAt (f.tf % 2 ^ 44) f.reqLen = none →
      Completes .memRead s (fun u => u.mem = s.mem ∧ u = (v.answer 0x18 f none (t.read (f.tf % 2 ^ 44) f.reqLen)).free_ r)) ∧
    (∀ r f t, s.takeFrame 0x28 = some (r, f, t) → f.tf % 4096 ≠ 0 →
      Completes .gateInc s (fun u => u.gate (f.tf % 4096) f.parity = s.gate (f.tf % 4096) f.parity + 1 ∧ u.mem = s.mem)) ∧
    (∀ r f t g, s.takeFrame 0x29 = some (r, f, t) → s.fab.gateOut.find? (fun g => g.2.1 == f.src && g.2.2 == f.tf % 4096) = some g →
      Completes .gateAck s (fun u => u.fab.gateOut = s.fab.gateOut.erase g)) ∧
    (∀ r f t q, s.takeFrame 0x18 = some (r, f, t) → s.req f.tag = some q → (∀ id, q.agent ≠ .action id ∧ q.agent ≠ .update id) →
      Completes .readData s (fun u => ({ q with done := true, data := f.body.drop 8, poison := f.poison q.target } : Req) ∈ u.trans.reqs)) ∧
    (∀ r f t q, s.takeFrame 0x19 = some (r, f, t) → s.req f.tag = some q → (∀ id, q.agent ≠ .action id ∧ q.agent ≠ .update id) →
      Completes .writeAck s (fun u => ({ q with done := true, poison := f.poison q.target } : Req) ∈ u.trans.reqs)) ∧
    (∀ r f t seq total off gate, s.takeWindowFrame = some (r, f, t) → windowFields f = (seq, total, off, gate) →
      (total ≤ (match s.winIn f seq with | some w => w.got | none => 0) + (f.body.drop 16).length → 0 < gate → gate < 4096 →
        Completes .windowData s (fun u => u.gate gate f.parity = s.gate gate f.parity + 1)) ∧
      ((match s.winIn f seq with | some w => w.got | none => 0) + (f.body.drop 16).length < total →
        Completes .windowData s (fun u => ∃ w ∈ u.fab.winIn, w.rank = f.src ∧ w.die = f.die ∧ w.seq = seq ∧
          w.got = (match s.winIn f seq with | some w => w.got | none => 0) + (f.body.drop 16).length))) ∧
    (∀ r f t w, s.takeFrame 0x21 = some (r, f, t) → s.fab.relays.find? (fun x => x.seq == f.tf % 2 ^ 32) = some w →
      Completes .windowDone s (fun u => u.fab.relays = s.fab.relays.erase w ∧ u.fab.winOut = s.fab.winOut)) ∧
    (∀ r f t w a, s.takeFrame 0x21 = some (r, f, t) → s.fab.relays.find? (fun x => x.seq == f.tf % 2 ^ 32) = none → s.window (f.tf % 2 ^ 32) = some w → s.action w.action = some a →
      (s.windowAge w < a.transit.param → Completes .windowDone s (fun u => ({ w with done := true } : WinOut) ∈ u.fab.winOut)) ∧
      (a.transit.param ≤ s.windowAge w → Completes .windowDone s (fun u => ∀ x ∈ u.fab.winOut, x.seq ≠ w.seq))) ∧
    (∀ seq w a, s.window seq = some w → s.action w.action = some a → s.fabricMay = true → s.windowDue a w = true →
      exec (.windowFrameSend seq) s = .next (s.sendWindow a w ethFrame))

def Obligations.ReduceAndTokens : Prop :=
  ∀ s : State,
    (∀ (c : Instr) (ftype : Nat) (take : State → Frame → State),
      (c, ftype, take) ∈ [(Instr.reduceGrant, 0x30, State.takeGrant), (.reduceContrib, 0x31, State.takeContrib), (.reduceAck, 0x32, State.takeReduceAck),
        (.tokenAck, 0x3A, State.takeTokenAck)] →
      ∀ r f t, s.takeFrame ftype = some (r, f, t) → exec c s = .next ((take t f).free_ r)) ∧
    (∀ r f t, s.takeFrame 0x30 = some (r, f, t) →
      (∀ k ∈ s.fab.contribs, ¬(rdTag k.desc.toNat = f.tf % 2 ^ 32 ∧ rdGen k.desc.toNat = f.gen ∧ k.index = leAt f.body 0 2)) →
      Completes .reduceGrant s (fun u => u.fab.grants = s.fab.grants ++ [⟨f.src, f.inc, f.tf % 2 ^ 32, f.gen, leAt f.body 0 2, leAt f.body 4 4, leAt f.body 2 2⟩])) ∧
    (∀ r f t, s.takeFrame 0x31 = some (r, f, t) →
      (∀ k, s.fab.roots.find? (fun k => rdTag k.desc.toNat == f.tf % 2 ^ 32 && rdGen k.desc.toNat == f.gen) = some k →
        (k.accepts (leAt f.body 4 4) (leAt f.body 0 2) = true → Completes .reduceContrib s (fun u => ∃ k' ∈ u.fab.roots, k'.action = k.action ∧
          k'.open_ = k.open_.map (fun x => if x.seg = leAt f.body 4 4 then { x with got := x.got ++ [(leAt f.body 0 2, f.body.drop 8)] } else x))) ∧
        (k.accepts (leAt f.body 4 4) (leAt f.body 0 2) = false → Completes .reduceContrib s (fun u => u.fab.roots = s.fab.roots ∧ u.dget 0x3703 0 = (s.dget 0x3703 0 + 1) % 2 ^ 64))) ∧
      (s.fab.roots.find? (fun k => rdTag k.desc.toNat == f.tf % 2 ^ 32 && rdGen k.desc.toNat == f.gen) = none →
        Completes .reduceContrib s (fun u => u.fab.roots = s.fab.roots ∧ u.dget 0x3703 0 = (s.dget 0x3703 0 + 1) % 2 ^ 64))) ∧
    (∀ r f t k, s.takeFrame 0x32 = some (r, f, t) →
      s.fab.contribs.find? (fun c => rdTag c.desc.toNat == f.tf % 2 ^ 32 && rdGen c.desc.toNat == f.gen && c.index == leAt f.body 0 2 &&
        decide (leAt f.body 4 4 ∈ c.sent) && !decide (leAt f.body 4 4 ∈ c.acked)) = some k → k.acked.length + 1 ≠ redSegments k.desc.toNat →
      Completes .reduceAck s (fun u => ({ k with acked := k.acked ++ [leAt f.body 4 4] } : RedContrib) ∈ u.fab.contribs)) ∧
    (∀ root seg r a x, s.fab.roots.find? (fun r => r.action == root) = some r → s.action root = some a → r.open_.find? (fun x => x.seg == seg) = some x →
      s.fabricMay = true → x.got.length = r.entries.length → exec (.reduceSegmentCombine root seg) s = .next (s.combineSegment a r x)) ∧
    (∀ r f t, s.takeFrame 0x38 = some (r, f, t) → (2 ^ 20 < (t.addPart f).inboxBytes f.die → exec .tokenCounts s = .next s) ∧
      ((t.addPart f).inboxBytes f.die ≤ 2 ^ 20 → exec .tokenCounts s = .next ((t.takeCounts f).free_ r)) ∧
      ((t.addPart f).inboxBytes f.die ≤ 2 ^ 20 → s.exchOf f = none → Completes .tokenCounts s (fun u => ∃ v ∈ u.fab.tokInbox, v.tag = f.tf % 2 ^ 32 ∧ v.gen = f.gen ∧ v.rank = f.src ∧
        (leAt f.body 0 4, numbers 4 (f.body.drop 4)) ∈ v.parts))) ∧
    (∀ r f t, s.takeFrame 0x39 = some (r, f, t) →
      (s.exchOf f = none → Completes .tokenRow s (fun u => u.fab.exchanges = s.fab.exchanges ∧ u.dget 0x3703 0 = (s.dget 0x3703 0 + 1) % 2 ^ 64 ∧ u.mem = s.mem)) ∧
      (∀ x a, s.exchOf f = some x → s.action x.action = some a → exec .tokenRow s = .next ((t.takeRow a x f).free_ r))) ∧
    (∀ r f t x, s.takeFrame 0x3A = some (r, f, t) → s.exchOf f = some x → x.allocated = false →
      Completes .tokenAck s (fun u => ({ x with unacked := x.unacked - leAt f.body 0 4 } : Exchange) ∈ u.fab.exchanges)) ∧
    (∀ t, s.fab.haltWait = some t → s.unanswered ≠ [] → t + 1600000 ≤ s.sdt →
      Completes .quietRequestAbandon s (fun u => u.unanswered = [] ∧ u.fab.haltWait = none ∧ u.trans.stopSdt = s.sdt))

def Obligations.FabricRegistersAndEthernet : Prop :=
  ∀ s : State,
    (∀ via : Via, s.mayWrite via 0x2740 0 = true →
      (s.running = false → Completes (.fabricCommit via) s (fun u => u.fab.committedOnce = true ∧ ∀ l : Fin 36, u.portMap l = s.portMapStaged l)) ∧
      (s.running = true → exec (.fabricCommit via) s = .next (s.answerVia via 0x0A 0x2740 0))) ∧
    (∀ (via : Via) (sub : Fin 256) (e : Entry) (v : Nat), findEntry 0x2700 sub = some e → s.mayWrite via 0x2700 sub = true → v < 2 ^ (8 * e.size) → s.shortCheck e sub v = 0 →
      Completes (.domainGeometryWrite via sub v) s (fun u => u.dget 0x2700 sub = v ∧
        ∀ l : Fin 36, u.portMapStaged l = defaultPortMap (u.dget 0x2700 1) (u.dget 0x2700 2) (u.dget 0x2700 3) (u.dget 0x2700 4) l)) ∧
    (∀ (via : Via) (v : BitVec 16), s.mayWrite via 0x2701 0 = true →
      Completes (.incarnationWrite via v.toNat) s (fun u => u.incarnation = v.toNat ∧ u.fab.fenced = false ∧ u.mem = s.mem)) ∧
    (∀ l : Fin 36,
      (s.linksOn = true → (s.link l).state = .ethTraining → Completes (.ethLinkUp l) s (fun u => (u.link l).state = .ethUp)) ∧
      (∀ packet, (s.link l).state = .ethUp →
        (s.ethBarred l = true → exec (.ethPacket l packet) s = .next s) ∧
        (s.ethBarred l = false → parseNet packet = none → Completes (.ethPacket l packet) s (fun u => (u.ethPort l).dropped = (s.ethPort l).dropped + 1 ∧ u.mem = s.mem))) ∧
      (s.ethLive l = true →
        ((s.ethPort l).unacked ≠ [] → s.elapsed (s.ethPort l).progress (1600 * s.dget 0x2758 0) = true → Completes (.ethRetransmitTimeout l) s (fun u => u.out.length = s.out.length + (s.ethPort l).unacked.length ∧
          (u.ethPort l).unacked = (s.ethPort l).unacked ∧ u.dget 0x3705 (ethSub l) = (s.dget 0x3705 (ethSub l) + (s.ethPort l).unacked.length) % 2 ^ 64)) ∧
        Completes (.ethAckTimer l) s (fun u => u.out.length = s.out.length + 1 ∧ (u.ethPort l).sinceAck = 0 ∧ (u.ethPort l).txSeq = (s.ethPort l).txSeq) ∧
        (∀ packet,
          Completes (.ethNeighborSolicitation l packet) s (fun u => match (parseNet packet).bind (answerNs (s.ethLocal l) (ethMac l)) with
            | some p => u.out = .eth l p.encode :: s.out
            | none => u.out = s.out ∧ (u.ethPort l).dropped = (s.ethPort l).dropped + 1) ∧
          Completes (.ethEchoRequest l packet) s (fun u => match (parseNet packet).bind (answerEcho (s.ethLocal l) (ethMac l)) with
            | some p => u.out = .eth l p.encode :: s.out
            | none => u.out = s.out ∧ (u.ethPort l).dropped = (s.ethPort l).dropped + 1))))

def Obligations.HostPorts : Prop :=
  ∀ s : State,
    (∀ port : Fin 2, s.portsUp = true → Completes (.portReset port) s (fun u => (u.port port).l0 = false ∧ (u.port port).d3hot = false ∧ (u.port port).busMaster = false ∧
      (u.port port).bar2 = 38 ∧ u.mem = s.mem ∧ u.trans = s.trans ∧
      ∀ r ∈ s.trans.reqs, r.done = false → (∃ a, r.target = .host port a) → r.id ∈ (u.port port).discarded)) ∧
    (∀ port : Fin 2, slice (configHeader port) 0 4 = natLe 2 (Config.pciIds 0).toNat ++ natLe 2 (0x5A40 + port.val) ∧ slice (configHeader port) 9 3 = natLe 3 0x120000) ∧
    (∀ (port : Fin 2) (o : BitVec 64) (n : Nat), s.portAnswers port = true → 0 < n → o.toNat % 4096 + n ≤ 4096 → o.toNat + n ≤ 2 ^ (s.port port).bar2 →
      (s.boot.mode = .dim → exec (.bar2Read port o n) s = .next (s.emit (.completion port 0 (List.replicate n 0xFF)))) ∧
      (s.boot.mode ≠ .dim → s.cache.fills = [] → s.cache.under = [] → Completes (.bar2Read port o n) s (fun u => u.mem = s.mem ∧ u.out = (if bar2Reaches (s.bar2Lpa port o.toNat) n = true
        then .completion port (if (s.poisonedAt (s.bar2Lpa port o.toNat) n).isSome = true then 1 else 0) (s.read (s.bar2Lpa port o.toNat) n)
        else .completion port 0 (List.replicate n 0xFF)) :: s.out))) ∧
    (∀ (port : Fin 2) (o : BitVec 64) (bs : Bytes), s.portAnswers port = true → bs ≠ [] → bs.length ≤ 256 → o.toNat % 4096 + bs.length ≤ 4096 → o.toNat + bs.length ≤ 2 ^ (s.port port).bar2 →
      (s.boot.mode = .dim → exec (.bar2Write port o bs) s = .next s) ∧
      (s.boot.mode ≠ .dim → bar2Reaches (s.bar2Lpa port o.toNat) bs.length = false → Completes (.bar2Write port o bs) s (fun u => u.mem = s.mem ∧
        u.dget 0x3110 (port + 1) = (s.dget 0x3110 (port + 1) + 1) % 2 ^ 64)) ∧
      (s.boot.mode ≠ .dim → bar2Reaches (s.bar2Lpa port o.toNat) bs.length = true →
        exec (.bar2Write port o bs) s = .next ((s.arriveWrite noDie (s.bar2Lpa port o.toNat) bs true .hostPort port 0xFFFF 0xFFFFFFFF).noteOne (2 * port)))) ∧
    (∀ (port : Fin 2) (o : BitVec 64) (n : Nat) (bs : Bytes), s.portAnswers port = false →
      (0 < n → o.toNat % 4096 + n ≤ 4096 → o.toNat + n ≤ 2 ^ (s.port port).bar2 → exec (.bar2Read port o n) s = .next s) ∧
      (bs ≠ [] → bs.length ≤ 256 → o.toNat % 4096 + bs.length ≤ 4096 → o.toNat + bs.length ≤ 2 ^ (s.port port).bar2 → exec (.bar2Write port o bs) s = .next s)) ∧
    (∀ (via : Via) (v : BitVec 16), s.mayWrite via 0x1121 2 = true →
      (v = 0 ∨ 8 ≤ v.toNat → Completes (.mirrorPeriodWrite via v.toNat) s (fun u => u.dget 0x1121 2 = v.toNat ∧ u.host.mirrorCount = 0 ∧
        u.dget 0x1121 4 = (if v = 0 ∨ (s.mirrorPort.l0 = true ∧ s.mirrorPort.d3hot = false ∧ s.mirrorPort.busMaster = true) then 0 else 1))) ∧
      (v ≠ 0 → v.toNat < 8 → exec (.mirrorPeriodWrite via v.toNat) s = .next (s.answerVia via 0x06 0x1121 2))) ∧
    (∀ (via : Via) (v : BitVec 16), s.mayWrite via 0x1124 0 = true → field v.toNat 0 12 ≠ 0 →
      Completes (.hostGateInc via v.toNat) s (fun u => u.gate (field v.toNat 0 12) (bit v.toNat 12) = s.gate (field v.toNat 0 12) (bit v.toNat 12) + 1)) ∧
    (∀ req r p a, s.req req = some r → r.target = .host p a →
      (∀ bytes : Bytes, bytes.length = (if r.kind = .load then r.len else 0) → s.atHost p r = true →
        exec (.hostPieceCompletion req bytes) s =
          .next ((s.mapReq req (fun q => { q with done := true, data := if q.kind = .load then bytes else q.data })).respond { r with done := true })) ∧
      (∀ d m status, r.agent = .mover d m ∨ r.agent = .moverDesc d m → r.done = false → Completes (.hostAccess req status) s (fun u => (u.mover d m).status = .idle ∧ (u.mover d m).desc = none ∧ ∀ q ∈ u.trans.reqs, q.id ≠ req)))

def Obligations.RegisterWrite : Prop :=
  ∀ (s : State) (via : Via) (idx : BitVec 16) (sub : BitVec 8) (v : Nat), s.power.hkUp = true → s.viaMay via = true →
    (findEntry idx.toNat sub.toNat = none → exec (.registerWrite via idx sub (.whole v)) s = .next (s.answerVia via 0x01 idx.toNat sub.toNat)) ∧
    (∀ e, findEntry idx.toNat sub.toNat = some e → (e.isLong = true ∨ 2 ^ (8 * e.size) ≤ v) →
      exec (.registerWrite via idx sub (.whole v)) s = .next (s.answerVia via 0x07 idx.toNat sub.toNat)) ∧
    (∀ e, findEntry idx.toNat sub.toNat = some e → e.isLong = false → v < 2 ^ (8 * e.size) →
      (s.writeCode via e sub.toNat ≠ 0 → exec (.registerWrite via idx sub (.whole v)) s = .next (s.answerVia via (s.writeCode via e sub.toNat) idx.toNat sub.toNat)) ∧
      (s.writeCode via e sub.toNat = 0 → otherWindow via e.index = true →
        exec (.registerWrite via idx sub (.whole v)) s = .next (s.answerVia via 0x07 idx.toNat sub.toNat)) ∧
      (s.writeCode via e sub.toNat = 0 → otherWindow via e.index = false → s.shortCheck e sub.toNat v ≠ 0 →
        exec (.registerWrite via idx sub (.whole v)) s = .next (s.answerVia via (s.shortCheck e sub.toNat v) idx.toNat sub.toNat)) ∧
      (s.writeCode via e sub.toNat = 0 → otherWindow via e.index = false → s.shortCheck e sub.toNat v = 0 → ¬((idx = 0x1105 ∨ idx = 0x1106) ∧ (sub = 1 ∨ sub = 2)) →
        exec (.registerWrite via idx sub (.whole v)) s = .next ((s.shortApply e sub.toNat v).answerVia via 0 idx.toNat sub.toNat)) ∧
      (s.authority via e = 0 → dimServed e.index = true →
        (e.access = .ro ∨ e.access = .const → s.writeCode via e sub.toNat = 0x02)) ∧
      (s.authority via e = 0 → s.boot.mode = .ready → e.access = .rwa → s.alm.state ∈ [AlmanacState.checking, .armed, .running, .paused] →
        ¬((idx = 0x2110 ∧ sub ≠ 0 ∧ s.alm.activeBuf ≠ .a) ∨ (idx = 0x2111 ∧ sub ≠ 0 ∧ s.alm.activeBuf ≠ .b)) → s.writeCode via e sub.toNat = 0x04) ∧
      (s.authority via e = 0 → dimServed e.index = false → (s.boot.mode = .starting → s.writeCode via e sub.toNat = 0x0A) ∧ (s.boot.mode = .dim → s.writeCode via e sub.toNat = 0x0D)) ∧
      (v < e.min ∨ e.max < v → s.shortCheck e sub.toNat v = 0x06) ∧
      (∀ p, via = .bar0 p → e.access = .rws → (e.index ≠ 0x1210 ∨ s.hasAdmin = true) → s.authority via e = 0x05)) ∧
    (∀ (port : Fin 2) (i j : Nat) (at_ : Fin 8) (bs : Bytes) (e : Entry), via = .bar0 port → bar0Place port (barOffset idx sub at_) = .slot i j 0 → bar0Fits (barOffset idx sub at_) bs.length 256 = true →
      findEntry i j = some e → e.isLong = false → (bs.length = 8 ∨ bs.length = 4) → e.size ≤ bs.length → (∀ b ∈ bs.drop e.size, b = 0) →
      exec (.registerWrite via idx sub (.bytes at_ bs)) s = .next ((s.writeEntry via i j (bs.take e.size)).1.answerVia via (s.writeEntry via i j (bs.take e.size)).2 i j)) ∧
    (∀ (port : Fin 2) (i j k : Nat) (at_ : Fin 8) (bs : Bytes) (e : Entry), via = .bar0 port → bar0Place port (barOffset idx sub at_) = .slot i j k → bar0Fits (barOffset idx sub at_) bs.length 256 = true →
      findEntry i j = some e → (e.isLong = true ∨ k ≠ 0 ∨ (bs.length ≠ 8 ∧ bs.length ≠ 4) ∨ bs.length < e.size) →
      exec (.registerWrite via idx sub (.bytes at_ bs)) s = .next (s.answerVia via 0x07 i j)) ∧
    (∀ code, (∀ p, via = .bar0 p → code ≠ 0 → s.answerVia via code idx.toNat sub.toNat =
        s.dset 0x1101 (p + 1) (code * 2 ^ 24 + idx.toNat * 2 ^ 8 + sub.toNat)) ∧
      ((∀ p, via ≠ .bar0 p) → s.answerVia via code idx.toNat sub.toNat = s.emit (.status code)))

def Obligations.LongEntries : Prop :=
  ∀ (s : State) (port : Fin 2),
    (∀ (v : BitVec 32) (e : Entry), s.mayWrite (.bar0 port) (0x1105 + port) 1 = true → findEntry (field v.toNat 8 16) (field v.toNat 0 8) = some e → e.isLong = true →
      Completes (.segSelect port v) s (fun u => (u.port port).segSelect = BitVec.ofNat 32 (v.toNat % 2 ^ 24) ∧ (u.port port).segSnap = none ∧ (u.port port).segStage = none)) ∧
    (∀ idx sub e, s.mayWrite (.bar0 port) (0x1105 + port) 2 = true → s.segEntry port = some (idx, sub, e) →
      (s.unitCode idx ≠ 0x0A → Completes (.segSnapshot port) s (fun u => (u.port port).segSnap = some (s.entryValue e sub))) ∧
      (∀ bs t, (s.port port).stageLost = false → (s.port port).segStage = some bs → s.writeLong (.bar0 port) e sub bs = (t, 0) →
        exec (.segCommit port) s = .next (t.setPort port { t.port port with segStage := none }))) ∧
    (s.mayWrite (.bar0 port) (0x1105 + port) 2 = true →
      ((s.port port).stageLost = false →
        Completes (.segDiscard port) s (fun u => (u.port port).segStage = none ∧ (u.port port).segSnap = (s.port port).segSnap ∧ u.mem = s.mem ∧ u.dict = s.dict)) ∧
      (∀ c ∈ [(Instr.segDiscard port, 3), (.segCommit port, 2)], (s.port port).stageLost = true →
        Completes c.1 s (fun u => (u.port port).stageLost = false ∧ u.dget 0x1101 (port + 1) = 0x09 * 2 ^ 24 + (0x1105 + port) * 2 ^ 8 + 2 ∧ u.mem = s.mem))) ∧
    (∀ (o w n : Nat) (bs : Bytes), s.power.hkUp = true → s.viaMay (.bar0 port) = true → bar0Place port o = .window w → bar0Fits o n 4096 = true →
      (n = 4 ∨ n = 8) → n ∣ w → (s.port port).segLost = false → (s.port port).segSnap = some bs →
      Completes (.trackingPeakRead (.bar0 port) (.bytes o n)) s (fun u => u.out = .completion port 0 (slice bs (s.dget (0x1105 + port) 4 + w) n) :: s.out ∧ u.mem = s.mem ∧
        (s.dget (0x1105 + port) 4 + w + n ≤ bs.length → u.dict = s.dict))) ∧
    (∀ (w : Nat) (bs : Bytes) (idx sub : Nat) (e : Entry), s.power.hkUp = true → s.viaMay (.bar0 port) = true → s.segEntry port = some (idx, sub, e) → (s.port port).stageLost = false →
      (bs.length = 4 ∨ bs.length = 8) → bs.length ∣ w → w + bs.length ≤ 0x400000 → s.dget (0x1105 + port) 4 + w + bs.length ≤ entrySize e →
      Completes (.segWindowWrite port w bs) s (fun u => (u.port port).segStage = some (patch ((s.port port).segStage.getD (s.entryValue e sub)) (s.dget (0x1105 + port) 4 + w) bs))) ∧
    (∀ (via : Via) (slot : Fin 8) (value : Bytes), s.mayWriteLong via 0x1210 (slot + 1) = true → value.length = 40 → s.longCheck 0x1210 (slot + 1) (cleanLong 0x1210 value) = 0 →
      Completes (.operatorKeyWrite via slot value) s (fun u => u.lget 0x1210 (slot + 1) = cleanLong 0x1210 value ∧ u.replay slot = 0 ∧ ∀ x ∈ u.prot.sessions, x.slot ≠ slot))

def Obligations.DictionaryProtocol : Prop :=
  ∀ (s : State), s.dpServed = true →
    (∀ (frame : Bytes) (full sigOk : Bool) (p : NetPacket) (sport : Nat) (data : Bytes) (m : DpMsg), s.prot.mgmtUp = true →
      s.dpDatagram frame = some (p, sport, data) → parseDp data = some m →
      (∀ (c : Instr) (type : Nat),
        (c, type) ∈ [(Instr.dpRead frame full sigOk, 0x01), (.dpWrite frame full sigOk, 0x02), (.sessionOpen frame full sigOk, 0x10),
          (.sessionClose frame full sigOk, 0x11), (.discover frame full sigOk, 0x20)] → dpForm type frame = true →
        (full = true → exec c s = .next (s.dadd 0x3120 3 1)) ∧
        (full = false → s.dpTakes m = false → exec c s = .next s) ∧
        (full = false → s.dpTakes m = true → s.dpAuthentic m sigOk = false → exec c s = .next (s.dadd 0x3120 2 1)) ∧
        (full = false → s.dpTakes m = true → s.dpAuthentic m sigOk = true →
          ∀ t, t = (if m.signed = true then (s.dadd 0x3120 1 1).takeCounter (m.keySlot - 1) m.counter else s.dadd 0x3120 1 1) →
          exec c s = .next ((t.dpAct m).1.emit (.mgmt ((t.dpAct m).1.dpReply p sport (t.dpAct m).2).encode)) ∧ (m.signed = true → t.replay (m.keySlot - 1) = m.counter)))) ∧
    (∀ (frame : Bytes) (full sigOk : Bool), dpForm 0x01 frame = true → s.dpDatagram frame = none → exec (.dpRead frame full sigOk) s = .next s) ∧
    (∀ m : DpMsg, m.signed = true → ∀ sigOk, (sigOk = false ∨ m.keySlot = 0 ∨ 8 < m.keySlot ∨ s.role (m.keySlot - 1) = 0 ∨ m.counter ≤ s.replay (m.keySlot - 1)) → s.dpAuthentic m sigOk = false) ∧
    (∀ m : DpMsg,
      (m.signed = true → m.body.length = 16 → s.prot.sessions.length < 4 →
        (s.dpOpen m).1.prot.sessions = ⟨s.prot.nextSession, Fin.ofNat _ (m.keySlot - 1), s.sdt⟩ :: s.prot.sessions ∧ (s.dpOpen m).1.prot.nextSession = s.prot.nextSession + 1) ∧
      (4 ≤ s.prot.sessions.length → (s.dpOpen m).1 = s) ∧
      (m.signed = true → m.session ≠ 0 → s.sessionCode m = 0 → ∀ x ∈ (s.dpClose m).1.prot.sessions, x.id ≠ m.session)) ∧
    (∀ id, (∃ x ∈ s.prot.sessions, x.id = id ∧ s.elapsed x.last 96000000000 = true) →
      Completes (.sessionTimeout id) s (fun u => ∀ x, x ∈ u.prot.sessions ↔ (x ∈ s.prot.sessions ∧ x.id ≠ id))) ∧
    (∀ h, (∃ g ∈ s.prot.segs, g.holder = h ∧ s.segIdle g = true) → Completes (.segmentLapse h) s (fun u =>
      (∀ g ∈ u.prot.segs, g.holder = h → s.segIdle g = false) ∧ (∀ g ∈ s.prot.segs, g.stands = true → g.holder ≠ h → g ∈ u.prot.segs))) ∧
    (∀ (port : Fin 2) (full sigOk : Bool) (bytes : Bytes), (s.port port).mbox = some bytes →
      Completes (.mboxRequest port ⟨full, sigOk⟩) s (fun u => u.dget (0x1140 + port) 3 = 2 ∧ (u.lget (0x1140 + port) 2).length = 1232 ∧
        (parseDp bytes = none → u.lget (0x1140 + port) 2 = List.replicate 1232 0 ∧ (u.port port).mbox = none)))

def Obligations.ManagementAndI3c : Prop :=
  ∀ s : State,
    (s.dpServed = true → ∀ dup, Completes (.mgmtLinkUp dup) s (fun u => u.prot.mgmtUp = !dup ∧ u.out = .mgmt dadPacket.encode :: s.out)) ∧
    (s.dpServed = true → s.prot.mgmtUp = true → ∀ packet : Bytes,
      exec (.mgmtNeighborSolicitation packet) s = .next (match (parseNet packet).bind (answerNs mgmtAddress mgmtMacBytes) with
        | some p => s.emit (.mgmt p.encode)
        | none => s) ∧
      exec (.mgmtEchoRequest packet) s = .next (match (parseNet packet).bind (answerEcho mgmtAddress mgmtMacBytes) with
        | some p => s.emit (.mgmt p.encode)
        | none => s)) ∧
    (s.i3cServed = true → ∀ request d,
      (vendorData 0x01 9 request = some d →
        ((∀ e, findEntry (leAt d 0 2) (leAt d 2 1) = some e → bit e.flags 2 = false) →
          exec (.i3cDictionaryRead request) s = .next (s.emit (.i3c (vendorHead ++ [0x81, 0x01])))) ∧
        (∀ e t code bs, findEntry (leAt d 0 2) (leAt d 2 1) = some e → bit e.flags 2 = true → e.isLong = false → leAt d 3 4 = 0 → leAt d 7 2 = e.size →
          s.readEntry .i3c (leAt d 0 2) (leAt d 2 1) = (t, code, bs) →
          exec (.i3cDictionaryRead request) s = .next (t.emit (.i3c (vendorHead ++ [0x81] ++ natLe 1 code ++ bs))))) ∧
      (vendorData 0x02 43 request = some d →
        ((leAt d 0 2 ≠ 0x1210 ∨ leAt d 2 1 = 0 ∨ 8 < leAt d 2 1) → exec (.i3cProvisioningWrite request) s = .next (s.emit (.i3c (vendorHead ++ [0x82, 0x05])))) ∧
        (leAt d 0 2 = 0x1210 → 1 ≤ leAt d 2 1 → leAt d 2 1 ≤ 8 → ∀ t code, s.writeEntry .i3c 0x1210 (leAt d 2 1) (d.drop 3) = (t, code) →
          exec (.i3cProvisioningWrite request) s = .next (t.emit (.i3c (vendorHead ++ [0x82] ++ natLe 1 code)))))) ∧
    (s.i3cServed = true → ∀ request data,
      (mctpData 1 request = some data →
        (data.length = 2 → leAt data 0 1 % 4 < 2 → leAt data 1 1 ≠ 0 → leAt data 1 1 ≠ 255 → Completes (.setEndpointId request) s (fun u => u.prot.eid = some (leAt data 1 1))) ∧
        (leAt data 1 1 = 0 ∨ leAt data 1 1 = 255 → Completes (.setEndpointId request) s (fun u => u.prot.eid = s.prot.eid))) ∧
      (mctpData 2 request = some data → exec (.getEndpointId request) s = .next (s.mctpAnswer request ([0x00] ++ natLe 1 (s.prot.eid.getD 0) ++ [0x00, 0x00]))) ∧
      (mctpData 4 request = some data →
        (leAt data 0 1 ∈ [0x00, 0x05, 0x7E, 0xFF] → ∃ v : BitVec 32, exec (.getMctpVersionSupport request) s =
          .next (({ s with free := s.free + 1 } : State).mctpAnswer request ([0x00, 0x01] ++ natLe 4 v.toNat))) ∧
        (leAt data 0 1 ∉ [0x00, 0x05, 0x7E, 0xFF] → exec (.getMctpVersionSupport request) s = .next (s.mctpAnswer request [0x80]))) ∧
      (mctpData 5 request = some data → exec (.getMessageTypeSupport request) s = .next (s.mctpAnswer request [0x00, 0x03, 0x00, 0x05, 0x7E]))) ∧
    (s.viaMay .i3c = true → Completes .i3cTargetReset s (fun u => u.prot.i3cAddr = none ∧ u.prot.eid = none ∧ tget 0 u.prot.spdm 0 = 4 ∧ ∀ g ∈ u.prot.segs, g.holder ≠ i3cHolder))

def Obligations.StartSequence : Prop :=
  ∀ s : State,
    (s.boot.inReset = true → s.power.hkUp = true → s.power.supply ≠ .reset → s.power.reversed = false →
      Completes .packageResetRelease s (fun u => u.boot.inReset = false ∧ u.boot.mode = .starting ∧ u.boot.phase = 1 ∧ u.power.cutoffLatch = false ∧ u.mem = s.mem ∧
        ∀ i : Fin 8, u.replay i = tget 65536 s.fuse.ceilings i)) ∧
    (∀ ok0 ok2, s.atPhase 1 = true → (ok0 = true ∨ ok2 = true) →
      Completes (.romPhaseDone ok0 ok2) s (fun u => u.boot.phase = 2 ∧ u.boot.leader = (if ok0 = true then 0 else 2) ∧ u.boot.lodestar0 = ok0 ∧ u.boot.lodestar2 = ok2)) ∧
    (∀ x y : ImageCheck, s.atPhase 2 = true →
      ((∀ i, s.imageVerdict i (if i = 0 then x else y) ≠ 0x80) → Completes (.imagePhaseDone x y) s (fun u => u.boot.mode = .dim ∧ u.boot.dimReason = 0x01 ∧ u.boot.running = 255)) ∧
      ((∃ i, i < 2 ∧ s.imageVerdict i (if i = 0 then x else y) = 0x80) →
        (s.boot.failedStarts < 3 → Completes (.imagePhaseDone x y) s (fun u => u.boot.phase = 3 ∧ u.boot.mode = .starting ∧ s.imageVerdict u.boot.running (if u.boot.running = 0 then x else y) = 0x80)) ∧
        (3 ≤ s.boot.failedStarts → Completes (.imagePhaseDone x y) s (fun u => u.boot.mode = .dim ∧ u.boot.dimReason = 0x02)))) ∧
    (s.atPhase 3 = true → Completes .powerPhaseDone s (fun u => u.boot.phase = 4 ∧ u.power.railsUp = true ∧ u.clk.pll = PerDie.all 1)) ∧
    (s.atPhase 4 = true → s.pllsLocked = true → ∀ good, Completes (.clocksPhaseDone good) s (fun u => u.boot.phase = 5 ∧ u.time.counting = true ∧
      u.clk.refSource = (if good = true then 0 else 1) ∧ ∀ d : Fin 4, pget u.time.sdt d = 0)) ∧
    (s.atPhase 5 = true →
      (∀ code, s.pair = .error code → Completes .pairingPhaseDone s (fun u => u.boot.mode = .dim ∧ u.boot.dimReason = code ∧ u.fuse.pairing = 2)) ∧
      (∀ level result, s.pair = .ok (level, result) → Completes .pairingPhaseDone s (fun u => u.boot.phase = 6 ∧ u.fuse.featureLevel = level ∧ u.fuse.pairing = result))) ∧
    (s.atPhase 6 = true → Completes .sramPhaseDone s (fun u => u.boot.phase = 7 ∧ ∀ a, s.place a < 0x30000000000 → u.byte a = s.byte a)) ∧
    (s.atPhase 7 = true → ∀ failed : List (Fin 4 × Nat),
      ((∃ d : Fin 4, s.goodCores d ((failed.filter (fun p => p.1.val == d.val)).map (fun p => p.2)) < 96) →
        Completes (.coresPhaseDone failed) s (fun u => u.boot.mode = .dim ∧ u.boot.dimReason = 0x23)) ∧
      ((∀ d : Fin 4, 96 ≤ s.goodCores d ((failed.filter (fun p => p.1.val == d.val)).map (fun p => p.2))) →
        Completes (.coresPhaseDone failed) s (fun u => u.boot.phase = 8 ∧ u.boot.mode = .starting))) ∧
    (s.atPhase 8 = true →
      (s.boot.memLost = true → Completes .memoryPhaseDone s (fun u => u.boot.phase = 9 ∧ u.boot.memLost = false ∧ u.cache.poison = [] ∧
        ∀ a, (region a = .slate ∨ region a = .thatch) → u.mem.get a = 0)) ∧
      (s.boot.memLost = false → Completes .memoryPhaseDone s (fun u => u.boot.phase = 9 ∧ u.mem = s.mem))) ∧
    (s.atPhase 9 = true → Completes .firmwareLoadPhaseDone s (fun u => u.boot.phase = 10 ∧ u.mem = s.mem)) ∧
    (s.atPhase 10 = true → Completes .linksPhaseDone s (fun u => u.boot.phase = 11 ∧ ∀ l : Fin 36, (u.link l).state =
      (if pmEnable (s.portMap l) = false then .disabled else if s.ethRole l = true then .ethTraining else .detect))) ∧
    (s.atPhase 11 = true → Completes .dictionaryPhaseDone s (fun u => u.boot.mode = .ready ∧ u.boot.failedStarts = 0 ∧ u.boot.preferred = s.boot.running ∧
      u.boot.bootCount = (s.boot.bootCount + 1) % 2 ^ 32)) ∧
    (s.boot.mode = .starting → s.boot.inReset = false → s.power.hkUp = true →
      Completes .startFailed s (fun u => u.boot.lastFailedPhase = s.boot.phase ∧ u.boot.failedStarts = min 255 (s.boot.failedStarts + 1) ∧ u.boot.inReset = true ∧ u.boot.lastCause = 0x06)) ∧
    (s.boot.inReset = false → s.lodestar s.leader = true → exec .leaderHeartbeat s = .next { s with boot := { s.boot with heartAt := s.sdt } }) ∧
    (s.standbyReady = true → s.heartbeatsMissed = true → Completes .leaderChange s (fun u => u.boot.leader = 2 - s.boot.leader ∧ u.boot.heartAt = s.sdt ∧ u.alm = s.alm ∧ u.mem = s.mem ∧
      (∀ g ∈ u.prot.segs, g.snapshot = none ∧ g.staging = none) ∧
      (∀ g ∈ s.prot.segs, ∃ h ∈ u.prot.segs, h.holder = g.holder ∧ h.index = g.index ∧ h.sub = g.sub ∧
        (g.snapshot ≠ none → h.snapLost = true) ∧ (g.staging ≠ none → h.stageLost = true)) ∧
      u.host.p0.segSnap = none ∧ u.host.p0.segStage = none ∧ u.host.p1.segSnap = none ∧ u.host.p1.segStage = none))

def Obligations.FirmwareAndIdentity : Prop :=
  ∀ (s : State) (via : Via),
    (∀ bytes : Bytes, s.mayWriteLong via 0x1304 2 = true → bytes.length = 1024 → s.longCheck 0x1304 2 bytes = 0 →
      Completes (.fwChunk via bytes) s (fun u => u.dget 0x1304 1 = s.dget 0x1304 1 + 1024 ∧ (u.fwSlot s.targetSlot).verify = 0 ∧
        (s.dget 0x1304 1 = 0 → u.boot.fwState = 1 ∧ u.boot.eraseChunk = some bytes) ∧
        (s.dget 0x1304 1 ≠ 0 → u.boot.fwState = s.boot.fwState ∧ (u.fwSlot s.targetSlot).bytes = (s.dget 0x1304 1, bytes) :: (s.fwSlot s.targetSlot).bytes))) ∧
    (∀ bytes, s.boot.eraseChunk = some bytes → s.served = true →
      Completes .fwEraseDone s (fun u => (u.fwSlot s.targetSlot).bytes = [(0, bytes)] ∧ u.boot.fwState = 0 ∧ u.boot.eraseChunk = none)) ∧
    (s.mayWrite via 0x1303 0 = true → s.rwaLocked = false → s.boot.fwState ≠ 1 →
      Completes (.verifyTarget via) s (fun u => u.boot.fwState = 3) ∧
      Completes (.cancelTrial via) s (fun u => u.boot.trial = 255) ∧
      ((s.fwSlot s.targetSlot).verify = 0x80 → Completes (.trialTarget via) s (fun u => u.boot.trial = s.targetSlot)) ∧
      ((s.fwSlot s.targetSlot).verify ≠ 0x80 → exec (.trialTarget via) s = .next (s.answerVia via 0x0A 0x1303 0))) ∧
    (∀ check, s.boot.fwState = 3 → s.served = true →
      Completes (.verifyTargetDone check) s (fun u => (u.fwSlot s.targetSlot).verify = s.imageVerdict s.targetSlot check ∧ u.boot.fwState = 0)) ∧
    (∀ v : Fin 256, s.mayWrite via 0x1203 0 = true → s.boot.running ≠ 255 →
      (s.fuse.svnFloor < v → v ≤ headerSvn (s.fwHeader s.boot.running) → Completes (.svnFloorWrite via v) s (fun u => u.fuse.svnFloor = v)) ∧
      (v ≤ s.fuse.svnFloor → exec (.svnFloorWrite via v) s = .next (s.answerVia via 0x06 0x1203 0))) ∧
    (s.mayWrite via 0x1204 0 = true →
      (s.boot.running ≠ 255 → headerSigner (s.fwHeader s.boot.running) = 1 → Completes (.fwKey0Revoke via 1) s (fun u => u.fuse.key0Revoked = true)) ∧
      (s.fuse.key0Revoked = true → exec (.fwKey0Revoke via 0) s = .next (s.answerVia via 0x06 0x1204 0))) ∧
    (∀ (die : Fin 4) (n : Fin 96), s.mayWrite via 0x2203 (die + 1) = true →
      (pget s.fuse.spares die ≠ [] → Completes (.coreRetireRequest via die n) s (fun u => n.val ∈ pget u.fuse.pendingRetire die ∧ pget u.fuse.retireReq die = n.val)) ∧
      (pget s.fuse.spares die = [] → exec (.coreRetireRequest via die n) s = .next (s.answerVia via 0x06 0x2203 (die + 1)))) ∧
    (∀ nonce : Bytes, s.mayWriteLong via 0x1220 0 = true → nonce.length = 32 →
      Completes (.attestNonce via nonce) s (fun u => u.lget 0x1220 0 = nonce ∧ ∃ body : Bytes, u.lget 0x1221 0 = body ++ signBytes body ∧ slice body 16 32 = nonce)) ∧
    (s.mayWrite via 0x1321 0 = true → s.boot.mode = .dim → s.boot.inReset = false →
      Completes (.dimExit via 1) s (fun u => u.boot.failedStarts = 0 ∧ u.boot.inReset = true ∧ u.boot.lastCause = 0x07))

def Obligations.SpdmConnection : Prop :=
  ∀ (s : State) (tr : Fin 3) (request : Bytes), s.spdmServed tr = true →
    (4 ≤ request.length → leAt request 1 1 = 0x84 → leAt request 0 1 = 0x10 →
      Completes (.getVersion tr request) s (fun u => u.spdmState tr = 1 ∧ u.out = .spdm tr [0x10, 0x04, 0, 0, 0, 1, 0x00, 0x12] :: s.out)) ∧
    (20 ≤ request.length → leAt request 1 1 = 0xE1 → leAt request 0 1 = 0x12 →
      (s.spdmState tr = 1 → Completes (.getCapabilities tr request) s (fun u => u.spdmState tr = 2 ∧ u.free = s.free + 2)) ∧
      (s.spdmState tr ≠ 1 → s.spdmState tr ≠ 4 → exec (.getCapabilities tr request) s = .next (s.spdmError tr 0x04 0))) ∧
    (32 ≤ request.length → leAt request 1 1 = 0xE3 → leAt request 0 1 = 0x12 → s.spdmState tr = 2 →
      (leAt request 8 4 &&& 0x400 ≠ 0 → leAt request 12 4 &&& 0x04 ≠ 0 → Completes (.negotiateAlgorithms tr request) s (fun u => u.spdmState tr = 3)) ∧
      ((leAt request 8 4 &&& 0x400 = 0 ∨ leAt request 12 4 &&& 0x04 = 0) → exec (.negotiateAlgorithms tr request) s = .next (s.spdmError tr 0x01 0))) ∧
    (leAt request 0 1 = 0x12 → s.spdmState tr = 3 →
      (4 ≤ request.length → leAt request 1 1 = 0x81 → Completes (.getDigests tr request) s (fun u => u.spdmState tr = 3 ∧ u.out = .spdm tr (spdmMsg 0x01 0 1 (digest spdmChain)) :: s.out)) ∧
      (8 ≤ request.length → leAt request 1 1 = 0x82 → leAt request 2 1 % 16 = 0 → leAt request 4 2 < spdmChain.length →
        ∀ n, n = min (min (leAt request 6 2) 1024) (spdmChain.length - leAt request 4 2) →
        Completes (.getCertificate tr request) s (fun u => u.spdmState tr = 3 ∧
          u.out = .spdm tr (spdmMsg 0x02 0 0 (natLe 2 n ++ natLe 2 (spdmChain.length - leAt request 4 2 - n) ++ slice spdmChain (leAt request 4 2) n)) :: s.out)) ∧
      (36 ≤ request.length → leAt request 1 1 = 0x83 → leAt request 2 1 = 0 → leAt request 3 1 ∈ [0, 1, 255] →
        Completes (.challenge tr request) s (fun u => u.free = s.free + 1 ∧ ∃ rest : Bytes,
          u.out = .spdm tr (spdmMsg 0x03 0 1 (digest spdmChain ++ (List.range 32).map (Config.nonce s.free) ++ rest)) :: s.out)) ∧
      (4 ≤ request.length → leAt request 1 1 = 0xE0 → leAt request 2 1 % 2 = 0 → leAt request 3 1 = 0 →
        Completes (.getMeasurements tr request) s (fun u => u.free = s.free + 1 ∧
          u.out = .spdm tr (spdmMsg 0x60 9 0 ([0, 0, 0, 0] ++ (List.range 32).map (Config.nonce s.free) ++ [0, 0])) :: s.out))) ∧
    (∀ (c : Instr) (code len : Nat),
      (c, code, len) ∈ [(Instr.getCapabilities tr request, 0xE1, 20), (.negotiateAlgorithms tr request, 0xE3, 32), (.getDigests tr request, 0x81, 4),
        (.getCertificate tr request, 0x82, 8), (.challenge tr request, 0x83, 36), (.getMeasurements tr request, 0xE0, 37)] →
      len ≤ request.length → leAt request 1 1 = code →
      (s.spdmState tr = 4 → exec c s = .next (s.spdmError tr 0x43 0)) ∧
      (s.spdmState tr ≠ 4 → leAt request 0 1 ≠ 0x12 → exec c s = .next (s.spdmError tr 0x41 0)) ∧
      (s.spdmState tr = 0 → leAt request 0 1 = 0x12 → exec c s = .next (s.spdmError tr 0x04 0))) ∧
    (4 ≤ request.length → leAt request 1 1 ∈ spdmUnsupported →
      exec (.spdmUnsupportedRequest tr request) s = .next (if s.spdmState tr = 4 then s.spdmError tr 0x43 0 else s.spdmError tr 0x07 (leAt request 1 1)))

def Obligations.SupplyStates : Prop :=
  ∀ s : State,
    (s.watched = true → ∀ mv : Nat,
      (s.power.supply = .normal ∨ s.power.supply = .over → mv < 34000 → Completes (.supplyWarning mv) s (fun u => u.power.supply = .warning ∧
        u.dget 0x3800 1 = (s.dget 0x3800 1 + 1) % 2 ^ 64 ∧ u.mem = s.mem ∧ u.alm = s.alm)) ∧
      (s.power.supply = .warning → mv < 32000 → Completes (.supplyLow mv) s (fun u => u.power.supply = .low ∧ u.mem = s.mem ∧ u.alm = s.alm)) ∧
      (s.power.supply = .low → 33000 < mv → Completes (.supplyLowCleared mv) s (fun u => u.power.supply = .warning ∧ u.log = s.log)) ∧
      (s.power.supply = .warning → 35000 < mv → Completes (.supplyRecovered mv) s (fun u => u.power.supply = .normal ∧ u.log.arrivals.length = s.log.arrivals.length + 1)) ∧
      (s.power.supply ≠ .over → 44000 < mv → Completes (.overVoltage mv) s (fun u => u.power.supply = .over ∧ u.log.arrivals.length = s.log.arrivals.length + 1)) ∧
      (s.power.supply = .over → mv < 43500 → Completes (.overVoltageCleared mv) s (fun u => u.power.supply = .normal ∧ u.log = s.log)) ∧
      (mv < 30000 → Completes (.supplyReset mv) s (fun u => u.power.supply = .reset ∧ u.boot.inReset = true ∧ (s.boot.inReset = false → u.boot.lastCause = 0x02))) ∧
      (48000 < mv → Completes (.overVoltageReset mv) s (fun u => u.power.supply = .reset ∧ u.boot.inReset = true ∧ u.power.resetOver = true)) ∧
      (200000 ≤ mv → Completes (.overCurrentReset mv) s (fun u => u.power.supply = .reset ∧ u.boot.inReset = true ∧ (s.boot.inReset = false → u.boot.lastCause = 0x03)))) ∧
    (s.power.hkUp = false →
      (∀ mv : Nat, s.power.charging = false → 31000 < mv → Completes (.vinRise mv) s (fun u => u.power.charging = true ∧ u.power.reversed = false ∧ u.power.hkUp = false)) ∧
      Completes .reversePolarity s (fun u => u.power.reversed = true ∧ u.power.charging = false ∧ u.power.hkUp = false)) ∧
    (∀ mv : Nat, s.power.supply = .reset → (s.power.hkUp = true ∨ s.power.charging = true) → 31000 < mv → (s.power.resetOver = true → mv < 46000) →
      Completes (.vinStable mv) s (fun u => u.power.supply = .normal ∧ u.power.hkUp = true ∧ u.dget 0x2800 0 = mv % 65536)) ∧
    (∀ (die : Fin 4) (rail mv : Nat), s.boot.inReset = false → s.power.railFault = false → (s.power.railsUp = true ∨ s.boot.phase = 3) →
      Completes (.railFault die rail mv) s (fun u => u.power.railFault = true ∧ u.power.railsUp = false ∧ u.mem.cells = [] ∧
        (s.boot.mode = .starting → u.boot.lastFailedPhase = 0x03 ∧ u.boot.failedStarts = min 255 (s.boot.failedStarts + 1)))) ∧
    (s.power.railFault = true → Completes .railFaultReset s (fun u => u.boot.inReset = true ∧ u.mem.cells = [] ∧ (s.boot.inReset = false → u.boot.lastCause = 0x04)))

def Obligations.ThermalAndThrottle : Prop :=
  ∀ s : State,
    (s.clockOn = true → 8 ≤ s.power.thermSlots → Completes .thermalDemandRevise s (fun u => u.power.thermSlots = 0 ∧ u.dget 0x2811 3 = max s.leastThermal
      (if 10300 ≤ s.tjMax then 7 else if 10000 ≤ s.tjMax then min 7 (s.dget 0x2811 3 + 1) else if s.tjMax ≤ 9700 then s.dget 0x2811 3 - 1 else s.dget 0x2811 3))) ∧
    (∀ (die : Fin 4) (t : Nat), s.alive = true → s.power.tripped = false → s.power.hotSince = some t → t + 160000 ≤ s.sdt → 10500 ≤ s.tj die →
      Completes (.thermalTrip die) s (fun u => u.power.tripped = true ∧ u.power.trippedAt = some s.sdt ∧ u.conj.fault = true ∧
        u.dget 0x3800 2 = (s.dget 0x3800 2 + 1) % 2 ^ 64 ∧ ∀ (g : Fin 384) (t : Fin 32), (u.thread g t).status ≠ .running)) ∧
    (∀ t, s.power.trippedAt = some t → t + 16000000 ≤ s.sdt → s.power.shutdown = false → s.boot.inReset = false → 10500 ≤ s.tjMax →
      Completes .thermalTripShutdown s (fun u => u.power.shutdown = true ∧ u.quiet = true ∧ u.mem = s.mem)) ∧
    (∀ t, s.power.shutdown = true → s.power.coolSince = some t → t + 1600000000 ≤ s.sdt →
      Completes .thermalCooldownReset s (fun u => u.boot.inReset = true ∧ (s.boot.inReset = false → u.boot.lastCause = 0x05))) ∧
    (∀ die : Fin 4, s.watched = true → s.boot.inReset = false → s.power.railsUp = true →
      Completes (.thermalCutoff die) s (fun u => u.power.cutoffLatch = true ∧ u.boot.inReset = true ∧ u.boot.lastCause = 0x05 ∧ u.mem.cells = [])) ∧
    (s.throttle < s.demand → s.windowMay (windowBoundary s.sdt) = true → Completes .throttleStepRaise s (fun u => u.throttle = s.demand ∧ u.sdt = windowBoundary s.sdt % 2 ^ 64)) ∧
    (∀ w, s.power.lowerFrom = some w → s.windowMay (windowBoundary (max s.sdt (sdtOfWork (w + 16384)))) = true →
      Completes .throttleStepLower s (fun u => u.throttle = s.throttle - 1 ∧ u.sdt = windowBoundary (max s.sdt (sdtOfWork (w + 16384))) % 2 ^ 64)) ∧
    (s.watched = true → Completes .powerCeilingPublish s (fun u => u.dget 0x2810 2 ≤ 6400 ∧ u.dget 0x2810 2 ≤ s.dget 0x2810 1 ∧ u.dget 0x2810 2 ≤ s.power.flowCeiling ∧ u.dget 0x2810 3 ≤ 4)) ∧
    (∀ power ma : Nat, s.watched = true → s.boot.inReset = false → s.power.railsUp = true → s.boot.mode ≠ .dim →
      Completes (.powerControl power ma) s (fun u => u.dget 0x2801 0 = ma % 2 ^ 32 ∧ u.power.samples = (power :: s.power.samples).take 10 ∧
        (s.dget 0x2810 2 < power → u.dget 0x2811 4 = min 7 (s.dget 0x2811 4 + 1))))

def Obligations.PowerBackground : Prop :=
  ∀ s : State,
    (∀ (die : Fin 4) (which reading : Nat), s.watched = true →
      (s.power.railsUp = true → Completes (.senseOpen 0 die which reading) s (fun u => u.dget 0x3800 4 = (s.dget 0x3800 4 + 1) % 2 ^ 64 ∧ u.log.arrivals.length = s.log.arrivals.length + 1 ∧
        (die.val, which) ∈ u.power.localSense ∧ u.mem = s.mem)) ∧
      Completes (.senseOpen 1 die which reading) s (fun u => u.dget 0x3800 4 = (s.dget 0x3800 4 + 1) % 2 ^ 64 ∧ u.dget 0x2800 0 = reading % 65536 ∧ u.mem = s.mem) ∧
      (s.power.railsUp = true → which < 48 → Completes (.senseOpen 2 die which reading) s (fun u => (die.val, which) ∈ u.power.excluded ∧
        u.dget 0x2811 3 = max (s.dget 0x2811 3) u.leastThermal ∧ u.mem = s.mem))) ∧
    (∀ (i : Fin 4) (reading : Int), s.watched = true →
      Completes (.coolantSensor i true reading) s (fun u => u.power.coolantFailed.getLsbD i = true ∧ u.dget 0x3800 4 = (s.dget 0x3800 4 + 1) % 2 ^ 64) ∧
      Completes (.coolantSensor i false reading) s (fun u => u.power.coolantFailed = s.power.coolantFailed ∧ u.dget 0x3800 4 = (s.dget 0x3800 4 + 1) % 2 ^ 64)) ∧
    (∀ (a b c d : Int) (tin tout : Int) (power : Nat), s.watched = true →
      Completes (.coolantAverage [a, b, c, d] tin tout power) s (fun u => u.dget 0x2820 1 = ofSigned 16 a ∧ u.dget 0x2820 2 = ofSigned 16 b ∧ u.dget 0x2820 3 = ofSigned 16 c ∧
        u.dget 0x2820 4 = ofSigned 16 d ∧ u.power.tIn = tin ∧ u.mem = s.mem)) ∧
    (s.duskOn = true →
      (∀ margins : List Int, margins.length = 4 → s.power.canaryNext ≤ s.duskIndex → Completes (.canaryMeasure margins) s (fun u => u.power.canaryNext = s.duskIndex + 4096 ∧ ∀ d : Fin 4, u.dget 0x2841 (d + 1) = ofSigned 16 (margins.getD d 0) ∧
        (margins.getD d 0 < 12 → pget s.power.canaryLow d = 7 → s.dget 0x2840 (d + 1) < 60 → pget u.power.raiseDue d = true) ∧
        (12 ≤ margins.getD d 0 → pget u.power.canaryLow d = 0 ∧ pget u.power.raiseDue d = pget s.power.raiseDue d))) ∧
      (∀ die : Fin 4, pget s.power.raiseDue die = true → s.power.canaryNext < s.duskIndex + 4096 → Completes (.guardBandRaise die) s (fun u => u.dget 0x2840 (die + 1) = s.dget 0x2840 (die + 1) + 5 ∧ pget u.power.raiseDue die = false)) ∧
      (s.deferredNow sensorKey = false → s.power.sensorNext ≤ s.duskIndex → Completes .sensorCalibration s (fun u => u.power.sensorNext = s.duskIndex + 65536 ∧ u.mem = s.mem)) ∧
      (s.deferredNow phaseKey = false → s.power.phaseNext ≤ s.duskIndex → Completes .currentSenseCalibration s (fun u => u.power.calPhase = s.power.calPhase + 1 ∧ u.mem = s.mem)) ∧
      (s.deferredNow s.power.calChannel = false → s.power.channelNext ≤ s.duskIndex → Completes .interfaceCalibration s (fun u => u.power.calChannel = (s.power.calChannel + 1) % 1088 ∧ u.mem = s.mem)) ∧
      (∀ wear, s.served = true → s.dget 0x2850 0 ≤ wear → Completes (.flashGarbageCollect wear) s (fun u => u.dget 0x2850 0 = wear % 2 ^ 32 ∧ u.mem = s.mem)))

def Obligations.ClocksAndResets : Prop :=
  ∀ s : State,
    (∀ die : Fin 4, s.boot.inReset = false →
      (pget s.clk.pll die = 1 → Completes (.rootPllLock die) s (fun u => pget u.clk.pll die = 2 ∧
        (s.time.counting = true → s.isRoot = true → (∀ d : Fin 4, d ≠ die → pget s.clk.pll d = 2) → u.time.lock = .locked))) ∧
      (s.clockOn = true → pget s.clk.pll die = 2 → Completes (.pllUnlock die) s (fun u => pget u.clk.pll die = 1 ∧ u.boot.mode = .faulted))) ∧
    (s.clockOn = true → s.time.lock = .free → s.clk.refSource = 0 → Completes .refSwitch s (fun u => u.clk.refSource = 1 ∧ u.time = s.time ∧ u.mem = s.mem)) ∧
    (∀ n, n < Config.crossings → s.boot.inReset = false →
      ((s.crossing n).inReset = false → Completes (.crossingOverrun n) s (fun u => (u.crossing n).overrun = true ∧ (u.crossing n).count = min (2 ^ 32 - 1) ((s.crossing n).count + 1))) ∧
      Completes (.crossingReset n) s (fun u => (u.crossing n).inReset = true ∧ (u.crossing n).overrun = (s.crossing n).overrun ∧ u.log = s.log) ∧
      ((s.crossing n).inReset = true → Completes (.crossingReleaseHandshake n) s (fun u => (u.crossing n).inReset = false ∧ (u.crossing n).count = (s.crossing n).count))) ∧
    (∀ via : Via,
      (s.mayWrite via 0x2912 0 = true → Completes (.overrunClear via 1) s (fun u => ∀ n, (u.crossing n).overrun = false ∧ (u.crossing n).count = 0 ∧ (u.crossing n).inReset = (s.crossing n).inReset)) ∧
      (s.mayWrite via 0x2900 1 = true →
        (s.rwaLocked = false → s.trans.preempt = .running → Completes (.resetRequest via 1) s (fun u => u.boot.resetDue = some (s.boot.resetDue.getD 0x08) ∧ (s.boot.resetDue = none → u.boot.resetAt = s.sdt) ∧ u.boot.inReset = s.boot.inReset)) ∧
        (s.rwaLocked = true ∨ s.trans.preempt ≠ .running → exec (.resetRequest via 1) s = .next (s.answerVia via 0x0A 0x2900 1))) ∧
      (s.mayWrite via 0x2900 2 = true → Completes (.resetForce via 1) s (fun u => u.boot.resetDue = some (s.boot.resetDue.getD 0x09)) ∧
        Completes (.resetForce via 0) s (fun u => u.boot = s.boot))) ∧
    (∀ cause, s.boot.resetDue = some cause → s.elapsed s.boot.resetAt 16000000 = true → Completes .resetDelayExpiry s (fun u => u.boot.inReset = true ∧ u.boot.resetDue = none ∧ (s.boot.inReset = false → u.boot.lastCause = cause))) ∧
    (s.boot.resetDue = some 0x09 → s.elapsed s.boot.resetAt 1600000 = true → Completes .resetForceWritebackTimeout s (fun u => u.boot.inReset = true ∧ u.boot.cutShort = true ∧ u.mem.cells = [] ∧
      (s.boot.inReset = false → u.boot.lastCause = 0x09)))

def Obligations.LogAndTest : Prop :=
  ∀ s : State,
    (∀ r rest, s.log.arrivals = r :: rest → s.served = true →
      ((s.log.queue.length < 3840 ∨ (r.severity = 1 ∧ s.log.queue.length < 4096)) →
        Completes .logRecordArrival s (fun u => u.log.arrivals = rest ∧ u.log.queue = s.log.queue ++ [{ r with seq := s.log.next }] ∧ u.log.next = s.log.next + 1)) ∧
      ((3840 ≤ s.log.queue.length ∧ (r.severity ≠ 1 ∨ 4096 ≤ s.log.queue.length)) →
        Completes .logRecordArrival s (fun u => u.log.arrivals = rest ∧ u.log.queue = s.log.queue ∧ u.log.droppedRun = s.log.droppedRun + 1 ∧ u.log.next = s.log.next))) ∧
    (∀ r rest, s.log.queue = r :: rest → s.served = true → Completes .logProgram s (fun u => u.log.ring.head? = some r ∧ u.mem = s.mem ∧
      (s.log.droppedRun = 0 → u.log.queue = rest))) ∧
    (s.alive = true → s.served = true → s.inDusk = true → s.teleSize ≠ 0 →
      (s.dget 0x3030 3 ≤ s.log.teleDusk → Completes .telemetrySample s (fun u => u.log.teleDusk = 0 ∧ u.mem = s.mem)) ∧
      (∀ bs rest, s.log.teleBuf = bs :: rest → s.deferredNow teleKey = false → Completes .telemetryWrite s (fun u => u.log.teleBuf = rest))) ∧
    (∀ (via : Via) (v : BitVec 16), s.mayWrite via 0x5010 0 = true → s.trans.preempt = .saved → (v.toNat < 384 ∨ v = 0xFFFF) →
      Completes (.coreTest via v.toNat) s (fun u => u.log.coreTest = 1 ∧ u.log.coreNamed = (if v = 0xFFFF then List.range 384 else [v.toNat]))) ∧
    (∀ (failed : List (Fin 384)) (block : Nat), s.log.coreTest = 1 → (∀ g ∈ failed, g.val ∈ s.log.coreNamed) → block ≤ 5 → (block = 0 ↔ failed = []) →
      Completes (.coreTestDone failed block) s (fun u => u.log.coreTest = 2 ∧ u.log.coreResult = block ∧ u.log.coreFails = failed.map (fun g => g.val))) ∧
    (∀ via : Via, s.mayWrite via 0x5000 0 = true →
      (s.rwaLocked = false → Completes (.testAccessWrite via 1) s (fun u => u.dget 0x5000 0 = 1)) ∧
      (s.rwaLocked = true → exec (.testAccessWrite via 1) s = .next (s.answerVia via 0x0A 0x5000 0)) ∧
      Completes (.testAccessWrite via 0) s (fun u => u.dget 0x5000 0 = 0)) ∧
    (s.power.hkUp = true →
      (∀ ops : PerDie TapOp, Completes (.tapInstruction (ops.d0, ops.d1) (ops.d2, ops.d3)) s (fun u =>
        (∀ die : Fin 4, pget u.log.tapIr die = (if s.dget 0x5000 0 = 1 ∨ pget ops die ∈ [TapOp.idcode, .bypass, .sample] then pget ops die else .bypass)) ∧
        (s.dget 0x5000 0 = 1 → (∃ die : Fin 4, pget ops die = .extest) → u.boot.mode = .faulted) ∧
        (s.dget 0x5000 0 ≠ 1 → u.boot = s.boot) ∧
        ∃ d3 d2 d1 d0, u.out = .scan [d3, d2, d1, d0] :: s.out ∧
          (pget ops 0 = .idcode → d0 = some (32, s.idcode 0)) ∧ (pget ops 1 = .idcode → d1 = some (32, s.idcode 1)) ∧
          (pget ops 2 = .idcode → d2 = some (32, s.idcode 2)) ∧ (pget ops 3 = .idcode → d3 = some (32, s.idcode 3)) ∧
          (pget ops 0 = .bypass → d0 = some (1, 0)) ∧ (pget ops 3 = .bypass → d3 = some (1, 0)))) ∧
      Completes .testLogicReset s (fun u => u.log.tapIr = PerDie.all .idcode ∧ u.boot = s.boot))

def Obligations.LateCommands : Prop :=
  ∀ s : State,
    (∀ (via : Via) (g : Fin 64) (value : Bytes), s.mayWriteLong via 0x2010 (g + 1) = true → value.length = 24 → s.longCheck 0x2010 (g + 1) (cleanLong 0x2010 value) = 0 →
      Completes (.shardGuardWrite via g value) s (fun u => u.lget 0x2010 (g + 1) = cleanLong 0x2010 value ∧ tget 0 u.cache.versions g = tget 0 s.cache.versions g + 1)) ∧
    (∀ (via : Via) (die : Fin 4) (t : State) (bs : Bytes), s.power.hkUp = true → s.viaMay via = true → s.readEntry via 0x3600 (die + 1) = (t, 0, bs) →
      exec (.trackingPeakRead via (.peak die)) s = .next ((t.emit (.value (leNat bs))).answerVia via 0 0x3600 (die + 1)) ∧
      (s.boot.mode ≠ .dim → t = s.dset 0x3600 (die + 1) 0)) ∧
    (∀ (port : Fin 2) (bm d3 : Bool) (size : Nat), s.portsUp = true → (s.port port).l0 = true → 30 ≤ size → size ≤ 42 →
      (((s.port port).d3hot = false ∨ d3 = true) → Completes (.configurationWrite port bm d3 size) s (fun u => (u.port port).busMaster = bm ∧ (u.port port).d3hot = d3 ∧
        (u.port port).bar2 = size ∧ (u.port port).l0 = true)) ∧
      ((s.port port).d3hot = true → d3 = false → Completes (.configurationWrite port bm d3 size) s (fun u => (u.port port).l0 = true ∧ (u.port port).d3hot = false ∧
        (u.port port).busMaster = false ∧ (u.port port).bar2 = 38))) ∧
    (∀ port : Fin 2, s.portsUp = true → (s.port port).l0 = false → Completes (.pcieLinkUp port) s (fun u => (u.port port).l0 = true ∧ (u.port port).bar2 = (s.port port).bar2)) ∧
    (∀ l : Fin 36, (s.link l).state = .ethUp → Completes (.ethLinkLost l) s (fun u => (u.link l).state = .ethTraining ∧ u.eth = s.eth)) ∧
    (∀ a : Fin 128, s.viaMay .i3c = true → s.prot.i3cAddr = none → Completes (.entdaa a) s (fun u => u.prot.i3cAddr = some a.val)) ∧
    (∀ mv : Nat, s.power.hkUp = true → mv < 20000 → Completes (.powerLoss mv) s (fun u => u.power.hkUp = false ∧ u.power.supply = .reset ∧ u.boot.inReset = true ∧
      u.boot.lastCause = 0x01 ∧ u.boot.priorCause = s.boot.lastCause ∧ u.boot.memLost = true ∧ u.mem.cells = [] ∧ u.log.ring = s.log.ring ∧ u.boot.bootCount = s.boot.bootCount)) ∧
    (∀ die : Fin 4, s.boot.inReset = false → s.lodestar die = true → (die.val ≠ s.leader ∨ s.standbyReady = false) →
      Completes (.lodestarFailure die) s (fun u => u.lodestar die = false ∧ u.boot.leader = s.boot.leader ∧ u.mem = s.mem))

def Obligations.StepRunsFront : Prop :=
  ∀ s : State,
    (∀ c rest, s.pending = c :: rest → step s = exec c { s with pending := rest }) ∧
    (s.pending = [] → ∃ u, step s = .next u ∧ u.mem = s.mem ∧ u.threads = s.threads ∧ u.gates = s.gates ∧ u.pending = [] ∧
      (s.clockOn = false → u = s) ∧
      (s.clockOn = true → s.time.boundaryOpen = false → s.sdt + 1 < 2 ^ 64 → s.sdt % 2048 ≠ 2047 → s.sdt % 2048 ≠ 1983 →
        ∀ d : Fin 4, (pget u.time.sdt d).toNat = s.sdt + 1))

def Obligations.ResetState : Prop :=
  State.reset.boot.inReset = true ∧ State.reset.boot.mode = .starting ∧ State.reset.boot.phase = 0 ∧ State.reset.time.counting = false ∧
  State.reset.time.lock = .free ∧ State.reset.alm.state = .idle ∧ State.reset.alm.standby = .none ∧ State.reset.trans.preempt = .running ∧
  (∀ l : Fin 36, (State.reset.link l).state = .down) ∧ (∀ d : Fin 4, pget State.reset.time.sdt d = 0) ∧
  (∀ (g : Nat) (odd : Bool), State.reset.gate g odd = 0) ∧ State.reset.power.supply = .normal ∧ State.reset.pending = [] ∧
  State.reset.dget 0x2810 1 = 6400 ∧ State.reset.dget 0x3030 3 = 64 ∧
  State.reset.MemoryCanonical ∧ State.reset.SessionsBounded ∧ State.reset.SdtAgreed

def Obligations.StepKeepsMemoryCanonical : Prop :=
  ∀ s u : State, s.MemoryCanonical → step s = .next u → u.MemoryCanonical

def Obligations.StepKeepsSessionsBounded : Prop :=
  ∀ s u : State, s.SessionsBounded → step s = .next u → u.SessionsBounded

def Obligations.StepKeepsSdtAgreed : Prop :=
  ∀ s u : State, s.SdtAgreed → step s = .next u → u.SdtAgreed

def Obligations.IllFormedRefused : Prop :=
  ∀ (c : Instr) (s : State), (c.wellFormed = false → exec c s = .refused .malformedCommand) ∧ (c.wellFormed = true → ∃ t, exec c s = .next t)

def Obligations.ThreadFrame : Prop :=
  ∀ (s : State) (g : Fin 384) (t : Fin 32) (c : Instr), threadOnly g t c →
    Ensures c s (fun u => u.mem = s.mem ∧ MemorySame s u ∧ OtherThreads g t s u ∧ u.time = s.time ∧ u.movers = s.movers ∧ u.longs = s.longs ∧
      u.fuse = s.fuse ∧ u.clk = s.clk ∧ u.boot = s.boot ∧ u.power = s.power ∧ u.host = s.host ∧ u.prot = s.prot ∧
      (∀ (h : Fin 384) (n : Nat), h ≠ g → u.counter h n = s.counter h n) ∧
      (c ≠ .ginc g t → c ≠ .endThread g t → u.gates = s.gates))

def Obligations.FrameNoMemory : Prop :=
  ∀ (c : Instr) (s : State),
    (leavesMemory c = true ∨ (readsAtOnce c = true ∧ s.cache.fills = [])) → Ensures c s (fun u => u.mem = s.mem ∧ u.threads = s.threads ∧ u.gates = s.gates)

def Obligations.BeaconAndFrameEncodings : Prop :=
  (∀ b : Beacon, b.type < 256 → b.rank < 1024 → b.inc < 65536 → b.seq < 65536 → b.tx < 2 ^ 72 → b.state < 256 → b.echoTx < 2 ^ 72 →
    b.echoRx < 2 ^ 72 → b.hops < 256 → b.bytes.length = 64 ∧ beaconOf b.bytes = b ∧ beaconCrcOk b.bytes = true) ∧
  (∀ f : Frame, f.ftype < 256 → f.dest < 1024 → f.src < 1024 → f.inc < 65536 → f.gen < 65536 → f.hops < 16 → f.die < 4 → f.tf < 2 ^ 48 →
    f.body.length < 8192 → parseFrame (encodeFrame f) = f)

end
end

