-- ==== Sys2Proof/Laws/Data.lean ====
section
/-! SUPPORT. What the plain operations on data do: values per die, tables, byte order. -/
namespace Sys2Proof.Machine

@[simp] theorem pget_all {α : Type} (a : α) (d : Nat) : pget (PerDie.all a) d = a := by
  unfold pget PerDie.all; split <;> rfl

@[simp] theorem pget_pset_same {α : Type} (p : PerDie α) (d : Nat) (v : α) : pget (pset p d v) d = v := by
  match d with
  | 0 | 1 | 2 | _ + 3 => rfl

theorem pget_pset_other {α : Type} (p : PerDie α) (d e : Fin 4) (v : α) (h : e ≠ d) : pget (pset p d v) e = pget p e := by
  revert h; fin_cases d <;> fin_cases e <;> simp [pget, pset]

@[simp] theorem tget_tset_same {α : Type} (d : α) (t : Tab α) (k : Nat) (v : α) : tget d (tset t k v) k = v := by
  induction t with
  | nil => simp [tset, tget]
  | cons p t ih =>
    obtain ⟨k', w⟩ := p
    unfold tset
    split
    · simp [tget]
    · split
      · simp [tget]
      · rename_i h; simp [tget, h, ih]

theorem tget_tset_other {α : Type} (d : α) (t : Tab α) (k j : Nat) (v : α) (h : j ≠ k) : tget d (tset t k v) j = tget d t j := by
  induction t with
  | nil => simp [tset, tget, h]
  | cons p t ih =>
    obtain ⟨k', w⟩ := p
    unfold tset
    split
    · simp [tget, h]
    · split
      · rename_i h2; subst h2; simp [tget, h]
      · simp only [tget]; split
        · rfl
        · exact ih

theorem tfind_tset_same {α : Type} (t : Tab α) (k : Nat) (v : α) : tfind (tset t k v) k = some v := by
  induction t with
  | nil => simp [tset, tfind]
  | cons p t ih =>
    obtain ⟨k', w⟩ := p
    unfold tset
    split
    · simp [tfind]
    · split
      · simp [tfind]
      · rename_i h; simp [tfind, h, ih]

theorem tfind_tset_other {α : Type} (t : Tab α) (k j : Nat) (v : α) (h : j ≠ k) : tfind (tset t k v) j = tfind t j := by
  induction t with
  | nil => simp [tset, tfind, h]
  | cons p t ih =>
    obtain ⟨k', w⟩ := p
    unfold tset
    split
    · simp [tfind, h]
    · split
      · rename_i h2; subst h2; simp [tfind, h]
      · simp only [tfind]; split
        · rfl
        · exact ih

@[simp] theorem natLe_length (w n : Nat) : (natLe w n).length = w := by
  induction w generalizing n with
  | zero => rfl
  | succ w ih => simp [natLe, ih]

/-- Bytes formed from a number give the number back, cut to their width (R9). -/
theorem leNat_natLe (w n : Nat) : leNat (natLe w n) = n % 256 ^ w := by
  induction w generalizing n with
  | zero => simp [natLe, leNat, Nat.mod_one]
  | succ w ih =>
    have h : n % 256 ^ (w + 1) = n % 256 + 256 * (n / 256 % 256 ^ w) := by
      rw [Nat.pow_succ', Nat.mod_mul]
    rw [h]
    simp only [natLe, leNat, ih, BitVec.toNat_ofNat]

end Sys2Proof.Machine
end

