-- ==== Sys2Proof/Laws/Exec.lean ====
section
/-! SUPPORT. The meaning that `exec` calls for each command, and what a step does with the queue. -/
namespace Sys2Proof.Machine

@[simp] theorem exec_slotBoundary (junction : List (List Int)) (upset : BitVec 4) (held : PerDie (BitVec 64)) (s : State) : exec (.slotBoundary junction upset held) s = execSlotBoundary junction upset held s := rfl
@[simp] theorem exec_guardBandSample (s : State) : exec (.guardBandSample) s = execGuardBandSample s := rfl
@[simp] theorem exec_dimSkylightSnapshot (s : State) : exec (.dimSkylightSnapshot) s = execDimSkylightSnapshot s := rfl
@[simp] theorem exec_beaconRequestSend (s : State) : exec (.beaconRequestSend) s = execBeaconRequestSend s := rfl
@[simp] theorem exec_unusedParentBeacon (link : Fin 36) (s : State) : exec (.unusedParentBeacon link) s = execUnusedParentBeacon link s := rfl
@[simp] theorem exec_beaconRequest (t2frac t3frac : Fin 256) (turn : Nat) (s : State) : exec (.beaconRequest t2frac t3frac turn) s = execBeaconRequest t2frac t3frac turn s := rfl
@[simp] theorem exec_beaconResponse (t4frac : Fin 256) (s : State) : exec (.beaconResponse t4frac) s = execBeaconResponse t4frac s := rfl
@[simp] theorem exec_parentClockLost (s : State) : exec (.parentClockLost) s = execParentClockLost s := rfl
@[simp] theorem exec_parentLinkRecovered (link : Fin 36) (s : State) : exec (.parentLinkRecovered link) s = execParentLinkRecovered link s := rfl
@[simp] theorem exec_rootPllLock (die : Fin 4) (s : State) : exec (.rootPllLock die) s = execRootPllLock die s := rfl
@[simp] theorem exec_pllUnlock (die : Fin 4) (s : State) : exec (.pllUnlock die) s = execPllUnlock die s := rfl
@[simp] theorem exec_refSwitch (s : State) : exec (.refSwitch) s = execRefSwitch s := rfl
@[simp] theorem exec_armA (via : Via) (s : State) : exec (.armA via) s = execArmA via s := rfl
@[simp] theorem exec_armB (via : Via) (s : State) : exec (.armB via) s = execArmB via s := rfl
@[simp] theorem exec_stageA (via : Via) (s : State) : exec (.stageA via) s = execStageA via s := rfl
@[simp] theorem exec_stageB (via : Via) (s : State) : exec (.stageB via) s = execStageB via s := rfl
@[simp] theorem exec_unstage (via : Via) (s : State) : exec (.unstage via) s = execUnstage via s := rfl
@[simp] theorem exec_disarm (via : Via) (s : State) : exec (.disarm via) s = execDisarm via s := rfl
@[simp] theorem exec_almanacCheckDone (s : State) : exec (.almanacCheckDone) s = execAlmanacCheckDone s := rfl
@[simp] theorem exec_almanacStart (s : State) : exec (.almanacStart) s = execAlmanacStart s := rfl
@[simp] theorem exec_almanacDescriptorRead (s : State) : exec (.almanacDescriptorRead) s = execAlmanacDescriptorRead s := rfl
@[simp] theorem exec_resumeSdtWrite (via : Via) (value : BitVec 64) (s : State) : exec (.resumeSdtWrite via value) s = execResumeSdtWrite via value s := rfl
@[simp] theorem exec_pauseResume (s : State) : exec (.pauseResume) s = execPauseResume s := rfl
@[simp] theorem exec_agreement (s : State) : exec (.agreement) s = execAgreement s := rfl
@[simp] theorem exec_vectorDeadline (s : State) : exec (.vectorDeadline) s = execVectorDeadline s := rfl
@[simp] theorem exec_seal (s : State) : exec (.seal) s = execSeal s := rfl
@[simp] theorem exec_sealDeadline (s : State) : exec (.sealDeadline) s = execSealDeadline s := rfl
@[simp] theorem exec_conjunctionDecision (s : State) : exec (.conjunctionDecision) s = execConjunctionDecision s := rfl
@[simp] theorem exec_conjunctionEffect (s : State) : exec (.conjunctionEffect) s = execConjunctionEffect s := rfl
@[simp] theorem exec_imageFetchDone (core : Fin 384) (fetch : ImageFetch) (s : State) : exec (.imageFetchDone core fetch) s = execImageFetchDone core fetch s := rfl
@[simp] theorem exec_scalar (core : Fin 384) (thread : Fin 32) (op : Option ScalarOp) (form : ScalarForm) (s : State) : exec (.scalar core thread op form) s = execScalar core thread op form s := rfl
@[simp] theorem exec_branch (core : Fin 384) (thread : Fin 32) (cond : Option BranchCond) (s : State) : exec (.branch core thread cond) s = execBranch core thread cond s := rfl
@[simp] theorem exec_scratchLoad (core : Fin 384) (thread : Fin 32) (signed : Option Bool) (cycle : ScratchCycle) (s : State) : exec (.scratchLoad core thread signed cycle) s = execScratchLoad core thread signed cycle s := rfl
@[simp] theorem exec_scratchStore (thread : Fin 384 × Fin 32) (cycle : Option ScratchCycle) (s : State) : exec (.scratchStore thread cycle) s = execScratchStore thread cycle s := rfl
@[simp] theorem exec_memoryLoad (core : Fin 384) (thread : Fin 32) (signed : Option Bool) (s : State) : exec (.memoryLoad core thread signed) s = execMemoryLoad core thread signed s := rfl
@[simp] theorem exec_memoryStore (thread : Fin 384 × Fin 32) (reserved : Bool) (s : State) : exec (.memoryStore thread reserved) s = execMemoryStore thread reserved s := rfl
@[simp] theorem exec_memoryResponse (req : Nat) (s : State) : exec (.memoryResponse req) s = execMemoryResponse req s := rfl
@[simp] theorem exec_cinc (core : Fin 384) (thread : Fin 32) (s : State) : exec (.cinc core thread) s = execCinc core thread s := rfl
@[simp] theorem exec_cwait (core : Fin 384) (thread : Fin 32) (s : State) : exec (.cwait core thread) s = execCwait core thread s := rfl
@[simp] theorem exec_cread (core : Fin 384) (thread : Fin 32) (s : State) : exec (.cread core thread) s = execCread core thread s := rfl
@[simp] theorem exec_barrier (core : Fin 384) (thread : Fin 32) (s : State) : exec (.barrier core thread) s = execBarrier core thread s := rfl
@[simp] theorem exec_ginc (core : Fin 384) (thread : Fin 32) (s : State) : exec (.ginc core thread) s = execGinc core thread s := rfl
@[simp] theorem exec_gread (core : Fin 384) (thread : Fin 32) (s : State) : exec (.gread core thread) s = execGread core thread s := rfl
@[simp] theorem exec_sdtr (core : Fin 384) (thread : Fin 32) (s : State) : exec (.sdtr core thread) s = execSdtr core thread s := rfl
@[simp] theorem exec_slotr (core : Fin 384) (thread : Fin 32) (s : State) : exec (.slotr core thread) s = execSlotr core thread s := rfl
@[simp] theorem exec_waitsdt (core : Fin 384) (thread : Fin 32) (s : State) : exec (.waitsdt core thread) s = execWaitsdt core thread s := rfl
@[simp] theorem exec_endThread (core : Fin 384) (thread : Fin 32) (s : State) : exec (.endThread core thread) s = execEndThread core thread s := rfl
@[simp] theorem exec_fence (core : Fin 384) (thread : Fin 32) (s : State) : exec (.fence core thread) s = execFence core thread s := rfl
@[simp] theorem exec_vadd (core : Fin 384) (thread : Fin 32) (s : State) : exec (.vadd core thread) s = execVadd core thread s := rfl
@[simp] theorem exec_vsub (core : Fin 384) (thread : Fin 32) (s : State) : exec (.vsub core thread) s = execVsub core thread s := rfl
@[simp] theorem exec_vmul (core : Fin 384) (thread : Fin 32) (s : State) : exec (.vmul core thread) s = execVmul core thread s := rfl
@[simp] theorem exec_vfma (core : Fin 384) (thread : Fin 32) (s : State) : exec (.vfma core thread) s = execVfma core thread s := rfl
@[simp] theorem exec_vmax (core : Fin 384) (thread : Fin 32) (s : State) : exec (.vmax core thread) s = execVmax core thread s := rfl
@[simp] theorem exec_vmin (core : Fin 384) (thread : Fin 32) (s : State) : exec (.vmin core thread) s = execVmin core thread s := rfl
@[simp] theorem exec_vabs (core : Fin 384) (thread : Fin 32) (s : State) : exec (.vabs core thread) s = execVabs core thread s := rfl
@[simp] theorem exec_vneg (core : Fin 384) (thread : Fin 32) (s : State) : exec (.vneg core thread) s = execVneg core thread s := rfl
@[simp] theorem exec_vcmp (core : Fin 384) (thread : Fin 32) (s : State) : exec (.vcmp core thread) s = execVcmp core thread s := rfl
@[simp] theorem exec_vsel (core : Fin 384) (thread : Fin 32) (s : State) : exec (.vsel core thread) s = execVsel core thread s := rfl
@[simp] theorem exec_vrsum (core : Fin 384) (thread : Fin 32) (s : State) : exec (.vrsum core thread) s = execVrsum core thread s := rfl
@[simp] theorem exec_vrmax (core : Fin 384) (thread : Fin 32) (s : State) : exec (.vrmax core thread) s = execVrmax core thread s := rfl
@[simp] theorem exec_vrmin (core : Fin 384) (thread : Fin 32) (s : State) : exec (.vrmin core thread) s = execVrmin core thread s := rfl
@[simp] theorem exec_vbcast (core : Fin 384) (thread : Fin 32) (s : State) : exec (.vbcast core thread) s = execVbcast core thread s := rfl
@[simp] theorem exec_vgather (core : Fin 384) (thread : Fin 32) (s : State) : exec (.vgather core thread) s = execVgather core thread s := rfl
@[simp] theorem exec_vscatter (core : Fin 384) (thread : Fin 32) (s : State) : exec (.vscatter core thread) s = execVscatter core thread s := rfl
@[simp] theorem exec_vscatadd (core : Fin 384) (thread : Fin 32) (s : State) : exec (.vscatadd core thread) s = execVscatadd core thread s := rfl
@[simp] theorem exec_vand (core : Fin 384) (thread : Fin 32) (s : State) : exec (.vand core thread) s = execVand core thread s := rfl
@[simp] theorem exec_vor (core : Fin 384) (thread : Fin 32) (s : State) : exec (.vor core thread) s = execVor core thread s := rfl
@[simp] theorem exec_vxor (core : Fin 384) (thread : Fin 32) (s : State) : exec (.vxor core thread) s = execVxor core thread s := rfl
@[simp] theorem exec_vshl (core : Fin 384) (thread : Fin 32) (s : State) : exec (.vshl core thread) s = execVshl core thread s := rfl
@[simp] theorem exec_vshr (core : Fin 384) (thread : Fin 32) (s : State) : exec (.vshr core thread) s = execVshr core thread s := rfl
@[simp] theorem exec_vcvt (core : Fin 384) (thread : Fin 32) (s : State) : exec (.vcvt core thread) s = execVcvt core thread s := rfl
@[simp] theorem exec_vquant (core : Fin 384) (thread : Fin 32) (s : State) : exec (.vquant core thread) s = execVquant core thread s := rfl
@[simp] theorem exec_vdequant (core : Fin 384) (thread : Fin 32) (s : State) : exec (.vdequant core thread) s = execVdequant core thread s := rfl
@[simp] theorem exec_vsplit (core : Fin 384) (thread : Fin 32) (s : State) : exec (.vsplit core thread) s = execVsplit core thread s := rfl
@[simp] theorem exec_vscale (core : Fin 384) (thread : Fin 32) (s : State) : exec (.vscale core thread) s = execVscale core thread s := rfl
@[simp] theorem exec_vexp (core : Fin 384) (thread : Fin 32) (s : State) : exec (.vexp core thread) s = execVexp core thread s := rfl
@[simp] theorem exec_vexp2 (core : Fin 384) (thread : Fin 32) (s : State) : exec (.vexp2 core thread) s = execVexp2 core thread s := rfl
@[simp] theorem exec_vln (core : Fin 384) (thread : Fin 32) (s : State) : exec (.vln core thread) s = execVln core thread s := rfl
@[simp] theorem exec_vlog2 (core : Fin 384) (thread : Fin 32) (s : State) : exec (.vlog2 core thread) s = execVlog2 core thread s := rfl
@[simp] theorem exec_vrcp (core : Fin 384) (thread : Fin 32) (s : State) : exec (.vrcp core thread) s = execVrcp core thread s := rfl
@[simp] theorem exec_vrsqrt (core : Fin 384) (thread : Fin 32) (s : State) : exec (.vrsqrt core thread) s = execVrsqrt core thread s := rfl
@[simp] theorem exec_vtanh (core : Fin 384) (thread : Fin 32) (s : State) : exec (.vtanh core thread) s = execVtanh core thread s := rfl
@[simp] theorem exec_vsigmoid (core : Fin 384) (thread : Fin 32) (s : State) : exec (.vsigmoid core thread) s = execVsigmoid core thread s := rfl
@[simp] theorem exec_vsinpi (core : Fin 384) (thread : Fin 32) (s : State) : exec (.vsinpi core thread) s = execVsinpi core thread s := rfl
@[simp] theorem exec_vcospi (core : Fin 384) (thread : Fin 32) (s : State) : exec (.vcospi core thread) s = execVcospi core thread s := rfl
@[simp] theorem exec_mwload (core : Fin 384) (thread : Fin 32) (s : State) : exec (.mwload core thread) s = execMwload core thread s := rfl
@[simp] theorem exec_mstream (core : Fin 384) (thread : Fin 32) (s : State) : exec (.mstream core thread) s = execMstream core thread s := rfl
@[simp] theorem exec_mdrain (core : Fin 384) (thread : Fin 32) (s : State) : exec (.mdrain core thread) s = execMdrain core thread s := rfl
@[simp] theorem exec_mwloadStart (core : Fin 384) (array : Fin 4) (s : State) : exec (.mwloadStart core array) s = execMwloadStart core array s := rfl
@[simp] theorem exec_mwloadComplete (core : Fin 384) (array : Fin 4) (s : State) : exec (.mwloadComplete core array) s = execMwloadComplete core array s := rfl
@[simp] theorem exec_mstreamStart (core : Fin 384) (array : Fin 4) (s : State) : exec (.mstreamStart core array) s = execMstreamStart core array s := rfl
@[simp] theorem exec_mstreamRow (core : Fin 384) (busErr : Bool) (upset : List (Fin 4 × Fin 130 × Fin 8 × Int)) (s : State) : exec (.mstreamRow core busErr upset) s = execMstreamRow core busErr upset s := rfl
@[simp] theorem exec_mstreamComplete (core : Fin 384) (s : State) : exec (.mstreamComplete core) s = execMstreamComplete core s := rfl
@[simp] theorem exec_mdrainStart (core : Fin 384) (array : Fin 4) (s : State) : exec (.mdrainStart core array) s = execMdrainStart core array s := rfl
@[simp] theorem exec_mdrainStep (core : Fin 384) (array : Fin 4) (s : State) : exec (.mdrainStep core array) s = execMdrainStep core array s := rfl
@[simp] theorem exec_mdrainComplete (core : Fin 384) (array : Fin 4) (s : State) : exec (.mdrainComplete core array) s = execMdrainComplete core array s := rfl
@[simp] theorem exec_updateEntry (job : Nat) (s : State) : exec (.updateEntry job) s = execUpdateEntry job s := rfl
@[simp] theorem exec_updateChunk (job : Nat) (s : State) : exec (.updateChunk job) s = execUpdateChunk job s := rfl
@[simp] theorem exec_lazyAdamRow (job : Nat) (s : State) : exec (.lazyAdamRow job) s = execLazyAdamRow job s := rfl
@[simp] theorem exec_orthoProductTile (job : Nat) (s : State) : exec (.orthoProductTile job) s = execOrthoProductTile job s := rfl
@[simp] theorem exec_chunkSumFold (job : Nat) (s : State) : exec (.chunkSumFold job) s = execChunkSumFold job s := rfl
@[simp] theorem exec_publishRow (rec : Nat) (s : State) : exec (.publishRow rec) s = execPublishRow rec s := rfl
@[simp] theorem exec_ratioRecordWrite (rec : Nat) (s : State) : exec (.ratioRecordWrite rec) s = execRatioRecordWrite rec s := rfl
@[simp] theorem exec_scaleSweepBlock (rec : Nat) (s : State) : exec (.scaleSweepBlock rec) s = execScaleSweepBlock rec s := rfl
@[simp] theorem exec_loftRead (of_ : LoftSource) (ecc : EccEvent) (s : State) : exec (.loftRead of_ ecc) s = execLoftRead of_ ecc s := rfl
@[simp] theorem exec_loftWrite (req : Nat) (ecc : EccEvent) (s : State) : exec (.loftWrite req ecc) s = execLoftWrite req ecc s := rfl
@[simp] theorem exec_controllerWriteAdd (req : Nat) (ecc : EccEvent) (s : State) : exec (.controllerWriteAdd req ecc) s = execControllerWriteAdd req ecc s := rfl
@[simp] theorem exec_loftFillReturn (line : Nat) (ecc : EccEvent) (s : State) : exec (.loftFillReturn line ecc) s = execLoftFillReturn line ecc s := rfl
@[simp] theorem exec_eavesFillReturn (die : Fin 4) (line : Nat) (s : State) : exec (.eavesFillReturn die line) s = execEavesFillReturn die line s := rfl
@[simp] theorem exec_stampRewrite (guard : Fin 64) (s : State) : exec (.stampRewrite guard) s = execStampRewrite guard s := rfl
@[simp] theorem exec_prefetchDistanceRevise (die : Fin 4) (s : State) : exec (.prefetchDistanceRevise die) s = execPrefetchDistanceRevise die s := rfl
@[simp] theorem exec_scrubDusk (die : Fin 4) (found : List (Nat × EccEvent)) (s : State) : exec (.scrubDusk die found) s = execScrubDusk die found s := rfl
@[simp] theorem exec_scrubPassEnd (die : Fin 4) (thatch : Bool) (s : State) : exec (.scrubPassEnd die thatch) s = execScrubPassEnd die thatch s := rfl
@[simp] theorem exec_sramScrub (core : Fin 384) (lpa : Nat) (found : EccEvent) (s : State) : exec (.sramScrub core lpa found) s = execSramScrub core lpa found s := rfl
@[simp] theorem exec_cacheScrub (die : Fin 4) (part : SlicePart) (line : Nat) (found : EccEvent) (s : State) : exec (.cacheScrub die part line found) s = execCacheScrub die part line found s := rfl
@[simp] theorem exec_idleBankScrub (core : Fin 384) (found : EccEvent) (s : State) : exec (.idleBankScrub core found) s = execIdleBankScrub core found s := rfl
@[simp] theorem exec_pageWalk (agent : Agent) (write : Bool) (ecc : EccEvent) (s : State) : exec (.pageWalk agent write ecc) s = execPageWalk agent write ecc s := rfl
@[simp] theorem exec_parkRecordWrite (s : State) : exec (.parkRecordWrite) s = execParkRecordWrite s := rfl
@[simp] theorem exec_parkRelease (via : Via) (value : BitVec 64) (s : State) : exec (.parkRelease via value) s = execParkRelease via value s := rfl
@[simp] theorem exec_parkAbandon (via : Via) (value : BitVec 64) (s : State) : exec (.parkAbandon via value) s = execParkAbandon via value s := rfl
@[simp] theorem exec_parkTimeout (seq : Nat) (s : State) : exec (.parkTimeout seq) s = execParkTimeout seq s := rfl
@[simp] theorem exec_invalRange (via : Via) (s : State) : exec (.invalRange via) s = execInvalRange via s := rfl
@[simp] theorem exec_invalAsid (via : Via) (s : State) : exec (.invalAsid via) s = execInvalAsid via s := rfl
@[simp] theorem exec_invalAll (via : Via) (s : State) : exec (.invalAll via) s = execInvalAll via s := rfl
@[simp] theorem exec_invalComplete (s : State) : exec (.invalComplete) s = execInvalComplete s := rfl
@[simp] theorem exec_stop (via : Via) (s : State) : exec (.stop via) s = execStop via s := rfl
@[simp] theorem exec_save (via : Via) (s : State) : exec (.save via) s = execSave via s := rfl
@[simp] theorem exec_resume (via : Via) (s : State) : exec (.resume via) s = execResume via s := rfl
@[simp] theorem exec_preemptStopDone (s : State) : exec (.preemptStopDone) s = execPreemptStopDone s := rfl
@[simp] theorem exec_preemptSaveDone (s : State) : exec (.preemptSaveDone) s = execPreemptSaveDone s := rfl
@[simp] theorem exec_preemptRestoreDone (s : State) : exec (.preemptRestoreDone) s = execPreemptRestoreDone s := rfl
@[simp] theorem exec_stream (die : Fin 4) (mover : Fin 64) (s : State) : exec (.stream die mover) s = execStream die mover s := rfl
@[simp] theorem exec_gather (die : Fin 4) (mover : Fin 64) (s : State) : exec (.gather die mover) s = execGather die mover s := rfl
@[simp] theorem exec_scatter (die : Fin 4) (mover : Fin 64) (s : State) : exec (.scatter die mover) s = execScatter die mover s := rfl
@[simp] theorem exec_streamAdd (die : Fin 4) (mover : Fin 64) (s : State) : exec (.streamAdd die mover) s = execStreamAdd die mover s := rfl
@[simp] theorem exec_scatterAdd (die : Fin 4) (mover : Fin 64) (s : State) : exec (.scatterAdd die mover) s = execScatterAdd die mover s := rfl
@[simp] theorem exec_moverDescriptorReadahead (die : Fin 4) (mover : Fin 64) (s : State) : exec (.moverDescriptorReadahead die mover) s = execMoverDescriptorReadahead die mover s := rfl
@[simp] theorem exec_moverPieceIssue (die : Fin 4) (mover : Fin 64) (s : State) : exec (.moverPieceIssue die mover) s = execMoverPieceIssue die mover s := rfl
@[simp] theorem exec_descriptorRetire (die : Fin 4) (mover : Fin 64) (s : State) : exec (.descriptorRetire die mover) s = execDescriptorRetire die mover s := rfl
@[simp] theorem exec_seamRidgeFlit (hop : SeamHop) (load : SeamLoad) (wire : SeamWire) (s : State) : exec (.seamRidgeFlit hop load wire) s = execSeamRidgeFlit hop load wire s := rfl
@[simp] theorem exec_dieLost (die : Fin 4) (s : State) : exec (.dieLost die) s = execDieLost die s := rfl
@[simp] theorem exec_linkRetryTimer (link : Fin 36) (s : State) : exec (.linkRetryTimer link) s = execLinkRetryTimer link s := rfl
@[simp] theorem exec_linkDetected (link : Fin 36) (s : State) : exec (.linkDetected link) s = execLinkDetected link s := rfl
@[simp] theorem exec_linkEqualised (link : Fin 36) (laneMap : BitVec 24) (polarity : BitVec 8) (ok : Bool) (s : State) : exec (.linkEqualised link laneMap polarity ok) s = execLinkEqualised link laneMap polarity ok s := rfl
@[simp] theorem exec_identity (link : Fin 36) (flit : BitVec 1600) (s : State) : exec (.identity link flit) s = execIdentity link flit s := rfl
@[simp] theorem exec_linkRetrain (link : Fin 36) (s : State) : exec (.linkRetrain link) s = execLinkRetrain link s := rfl
@[simp] theorem exec_linkDown (link : Fin 36) (s : State) : exec (.linkDown link) s = execLinkDown link s := rfl
@[simp] theorem exec_flitReceived (link : Fin 36) (flit : RxFlit) (s : State) : exec (.flitReceived link flit) s = execFlitReceived link flit s := rfl
@[simp] theorem exec_creditUpdate (link : Fin 36) (flit : BitVec 1600) (s : State) : exec (.creditUpdate link flit) s = execCreditUpdate link flit s := rfl
@[simp] theorem exec_nak (link : Fin 36) (flit : BitVec 1600) (s : State) : exec (.nak link flit) s = execNak link flit s := rfl
@[simp] theorem exec_replayTimeout (link : Fin 36) (s : State) : exec (.replayTimeout link) s = execReplayTimeout link s := rfl
@[simp] theorem exec_fenceNotice (link : Fin 36) (incarnation : BitVec 16) (s : State) : exec (.fenceNotice link incarnation) s = execFenceNotice link incarnation s := rfl
@[simp] theorem exec_fenceNoticeSend (link : Fin 36) (s : State) : exec (.fenceNoticeSend link) s = execFenceNoticeSend link s := rfl
@[simp] theorem exec_memRead (s : State) : exec (.memRead) s = execMemRead s := rfl
@[simp] theorem exec_memWrite (s : State) : exec (.memWrite) s = execMemWrite s := rfl
@[simp] theorem exec_memWriteAdd (s : State) : exec (.memWriteAdd) s = execMemWriteAdd s := rfl
@[simp] theorem exec_readData (s : State) : exec (.readData) s = execReadData s := rfl
@[simp] theorem exec_writeAck (s : State) : exec (.writeAck) s = execWriteAck s := rfl
@[simp] theorem exec_windowFrameSend (window : Nat) (s : State) : exec (.windowFrameSend window) s = execWindowFrameSend window s := rfl
@[simp] theorem exec_windowData (s : State) : exec (.windowData) s = execWindowData s := rfl
@[simp] theorem exec_windowDone (s : State) : exec (.windowDone) s = execWindowDone s := rfl
@[simp] theorem exec_gateInc (s : State) : exec (.gateInc) s = execGateInc s := rfl
@[simp] theorem exec_gateAck (s : State) : exec (.gateAck) s = execGateAck s := rfl
@[simp] theorem exec_reduceGrant (s : State) : exec (.reduceGrant) s = execReduceGrant s := rfl
@[simp] theorem exec_reduceContrib (s : State) : exec (.reduceContrib) s = execReduceContrib s := rfl
@[simp] theorem exec_reduceAck (s : State) : exec (.reduceAck) s = execReduceAck s := rfl
@[simp] theorem exec_reduceSegmentCombine (root : Nat) (segment : Nat) (s : State) : exec (.reduceSegmentCombine root segment) s = execReduceSegmentCombine root segment s := rfl
@[simp] theorem exec_tokenCounts (s : State) : exec (.tokenCounts) s = execTokenCounts s := rfl
@[simp] theorem exec_tokenRow (s : State) : exec (.tokenRow) s = execTokenRow s := rfl
@[simp] theorem exec_tokenAck (s : State) : exec (.tokenAck) s = execTokenAck s := rfl
@[simp] theorem exec_quietRequestAbandon (s : State) : exec (.quietRequestAbandon) s = execQuietRequestAbandon s := rfl
@[simp] theorem exec_fabricCommit (via : Via) (s : State) : exec (.fabricCommit via) s = execFabricCommit via s := rfl
@[simp] theorem exec_domainGeometryWrite (via : Via) (sub : Fin 256) (value : Nat) (s : State) : exec (.domainGeometryWrite via sub value) s = execDomainGeometryWrite via sub value s := rfl
@[simp] theorem exec_incarnationWrite (via : Via) (value : Nat) (s : State) : exec (.incarnationWrite via value) s = execIncarnationWrite via value s := rfl
@[simp] theorem exec_ethLinkUp (link : Fin 36) (s : State) : exec (.ethLinkUp link) s = execEthLinkUp link s := rfl
@[simp] theorem exec_ethPacket (link : Fin 36) (packet : List Byte) (s : State) : exec (.ethPacket link packet) s = execEthPacket link packet s := rfl
@[simp] theorem exec_ethRetransmitTimeout (link : Fin 36) (s : State) : exec (.ethRetransmitTimeout link) s = execEthRetransmitTimeout link s := rfl
@[simp] theorem exec_ethAckTimer (link : Fin 36) (s : State) : exec (.ethAckTimer link) s = execEthAckTimer link s := rfl
@[simp] theorem exec_ethNeighborSolicitation (link : Fin 36) (packet : List Byte) (s : State) : exec (.ethNeighborSolicitation link packet) s = execEthNeighborSolicitation link packet s := rfl
@[simp] theorem exec_ethEchoRequest (link : Fin 36) (packet : List Byte) (s : State) : exec (.ethEchoRequest link packet) s = execEthEchoRequest link packet s := rfl
@[simp] theorem exec_portReset (port : Fin 2) (s : State) : exec (.portReset port) s = execPortReset port s := rfl
@[simp] theorem exec_bar2Read (port : Fin 2) (offset : BitVec 64) (len : Nat) (s : State) : exec (.bar2Read port offset len) s = execBar2Read port offset len s := rfl
@[simp] theorem exec_bar2Write (port : Fin 2) (offset : BitVec 64) (bytes : List Byte) (s : State) : exec (.bar2Write port offset bytes) s = execBar2Write port offset bytes s := rfl
@[simp] theorem exec_mirrorPeriodWrite (via : Via) (value : Nat) (s : State) : exec (.mirrorPeriodWrite via value) s = execMirrorPeriodWrite via value s := rfl
@[simp] theorem exec_hostGateInc (via : Via) (value : Nat) (s : State) : exec (.hostGateInc via value) s = execHostGateInc via value s := rfl
@[simp] theorem exec_hostPieceCompletion (req : Nat) (bytes : List Byte) (s : State) : exec (.hostPieceCompletion req bytes) s = execHostPieceCompletion req bytes s := rfl
@[simp] theorem exec_hostAccess (req : Nat) (status : Fin 256) (s : State) : exec (.hostAccess req status) s = execHostAccess req status s := rfl
@[simp] theorem exec_registerWrite (via : Via) (index : BitVec 16) (sub : BitVec 8) (value : RegValue) (s : State) : exec (.registerWrite via index sub value) s = execRegisterWrite via index sub value s := rfl
@[simp] theorem exec_segSelect (port : Fin 2) (value : BitVec 32) (s : State) : exec (.segSelect port value) s = execSegSelect port value s := rfl
@[simp] theorem exec_segSnapshot (port : Fin 2) (s : State) : exec (.segSnapshot port) s = execSegSnapshot port s := rfl
@[simp] theorem exec_segCommit (port : Fin 2) (s : State) : exec (.segCommit port) s = execSegCommit port s := rfl
@[simp] theorem exec_segDiscard (port : Fin 2) (s : State) : exec (.segDiscard port) s = execSegDiscard port s := rfl
@[simp] theorem exec_segWindowWrite (port : Fin 2) (offset : Nat) (bytes : List Byte) (s : State) : exec (.segWindowWrite port offset bytes) s = execSegWindowWrite port offset bytes s := rfl
@[simp] theorem exec_dpRead (frame : List Byte) (full sigOk : Bool) (s : State) : exec (.dpRead frame full sigOk) s = execDpRead frame full sigOk s := rfl
@[simp] theorem exec_dpWrite (frame : List Byte) (full sigOk : Bool) (s : State) : exec (.dpWrite frame full sigOk) s = execDpWrite frame full sigOk s := rfl
@[simp] theorem exec_sessionOpen (frame : List Byte) (full sigOk : Bool) (s : State) : exec (.sessionOpen frame full sigOk) s = execSessionOpen frame full sigOk s := rfl
@[simp] theorem exec_sessionClose (frame : List Byte) (full sigOk : Bool) (s : State) : exec (.sessionClose frame full sigOk) s = execSessionClose frame full sigOk s := rfl
@[simp] theorem exec_discover (frame : List Byte) (full sigOk : Bool) (s : State) : exec (.discover frame full sigOk) s = execDiscover frame full sigOk s := rfl
@[simp] theorem exec_sessionTimeout (session : Nat) (s : State) : exec (.sessionTimeout session) s = execSessionTimeout session s := rfl
@[simp] theorem exec_segmentLapse (holder : Nat) (s : State) : exec (.segmentLapse holder) s = execSegmentLapse holder s := rfl
@[simp] theorem exec_mboxRequest (port : Fin 2) (commit : MboxCommit) (s : State) : exec (.mboxRequest port commit) s = execMboxRequest port commit s := rfl
@[simp] theorem exec_operatorKeyWrite (via : Via) (slot : Fin 8) (value : List Byte) (s : State) : exec (.operatorKeyWrite via slot value) s = execOperatorKeyWrite via slot value s := rfl
@[simp] theorem exec_mgmtLinkUp (duplicate : Bool) (s : State) : exec (.mgmtLinkUp duplicate) s = execMgmtLinkUp duplicate s := rfl
@[simp] theorem exec_mgmtNeighborSolicitation (packet : List Byte) (s : State) : exec (.mgmtNeighborSolicitation packet) s = execMgmtNeighborSolicitation packet s := rfl
@[simp] theorem exec_mgmtEchoRequest (packet : List Byte) (s : State) : exec (.mgmtEchoRequest packet) s = execMgmtEchoRequest packet s := rfl
@[simp] theorem exec_i3cDictionaryRead (request : List Byte) (s : State) : exec (.i3cDictionaryRead request) s = execI3cDictionaryRead request s := rfl
@[simp] theorem exec_i3cProvisioningWrite (request : List Byte) (s : State) : exec (.i3cProvisioningWrite request) s = execI3cProvisioningWrite request s := rfl
@[simp] theorem exec_setEndpointId (request : List Byte) (s : State) : exec (.setEndpointId request) s = execSetEndpointId request s := rfl
@[simp] theorem exec_getEndpointId (request : List Byte) (s : State) : exec (.getEndpointId request) s = execGetEndpointId request s := rfl
@[simp] theorem exec_getMctpVersionSupport (request : List Byte) (s : State) : exec (.getMctpVersionSupport request) s = execGetMctpVersionSupport request s := rfl
@[simp] theorem exec_getMessageTypeSupport (request : List Byte) (s : State) : exec (.getMessageTypeSupport request) s = execGetMessageTypeSupport request s := rfl
@[simp] theorem exec_i3cTargetReset (s : State) : exec (.i3cTargetReset) s = execI3cTargetReset s := rfl
@[simp] theorem exec_getVersion (transport : Fin 3) (request : List Byte) (s : State) : exec (.getVersion transport request) s = execGetVersion transport request s := rfl
@[simp] theorem exec_getCapabilities (transport : Fin 3) (request : List Byte) (s : State) : exec (.getCapabilities transport request) s = execGetCapabilities transport request s := rfl
@[simp] theorem exec_negotiateAlgorithms (transport : Fin 3) (request : List Byte) (s : State) : exec (.negotiateAlgorithms transport request) s = execNegotiateAlgorithms transport request s := rfl
@[simp] theorem exec_getDigests (transport : Fin 3) (request : List Byte) (s : State) : exec (.getDigests transport request) s = execGetDigests transport request s := rfl
@[simp] theorem exec_getCertificate (transport : Fin 3) (request : List Byte) (s : State) : exec (.getCertificate transport request) s = execGetCertificate transport request s := rfl
@[simp] theorem exec_challenge (transport : Fin 3) (request : List Byte) (s : State) : exec (.challenge transport request) s = execChallenge transport request s := rfl
@[simp] theorem exec_getMeasurements (transport : Fin 3) (request : List Byte) (s : State) : exec (.getMeasurements transport request) s = execGetMeasurements transport request s := rfl
@[simp] theorem exec_spdmUnsupportedRequest (transport : Fin 3) (request : List Byte) (s : State) : exec (.spdmUnsupportedRequest transport request) s = execSpdmUnsupportedRequest transport request s := rfl
@[simp] theorem exec_attestNonce (via : Via) (nonce : List Byte) (s : State) : exec (.attestNonce via nonce) s = execAttestNonce via nonce s := rfl
@[simp] theorem exec_packageResetRelease (s : State) : exec (.packageResetRelease) s = execPackageResetRelease s := rfl
@[simp] theorem exec_romPhaseDone (ok0 ok2 : Bool) (s : State) : exec (.romPhaseDone ok0 ok2) s = execRomPhaseDone ok0 ok2 s := rfl
@[simp] theorem exec_imagePhaseDone (a b : ImageCheck) (s : State) : exec (.imagePhaseDone a b) s = execImagePhaseDone a b s := rfl
@[simp] theorem exec_powerPhaseDone (s : State) : exec (.powerPhaseDone) s = execPowerPhaseDone s := rfl
@[simp] theorem exec_clocksPhaseDone (refclkGood : Bool) (s : State) : exec (.clocksPhaseDone refclkGood) s = execClocksPhaseDone refclkGood s := rfl
@[simp] theorem exec_pairingPhaseDone (s : State) : exec (.pairingPhaseDone) s = execPairingPhaseDone s := rfl
@[simp] theorem exec_sramPhaseDone (s : State) : exec (.sramPhaseDone) s = execSramPhaseDone s := rfl
@[simp] theorem exec_coresPhaseDone (failed : List (Fin 4 × Nat)) (s : State) : exec (.coresPhaseDone failed) s = execCoresPhaseDone failed s := rfl
@[simp] theorem exec_memoryPhaseDone (s : State) : exec (.memoryPhaseDone) s = execMemoryPhaseDone s := rfl
@[simp] theorem exec_firmwareLoadPhaseDone (s : State) : exec (.firmwareLoadPhaseDone) s = execFirmwareLoadPhaseDone s := rfl
@[simp] theorem exec_linksPhaseDone (s : State) : exec (.linksPhaseDone) s = execLinksPhaseDone s := rfl
@[simp] theorem exec_dictionaryPhaseDone (s : State) : exec (.dictionaryPhaseDone) s = execDictionaryPhaseDone s := rfl
@[simp] theorem exec_startFailed (s : State) : exec (.startFailed) s = execStartFailed s := rfl
@[simp] theorem exec_leaderHeartbeat (s : State) : exec (.leaderHeartbeat) s = execLeaderHeartbeat s := rfl
@[simp] theorem exec_leaderChange (s : State) : exec (.leaderChange) s = execLeaderChange s := rfl
@[simp] theorem exec_dimExit (via : Via) (value : Nat) (s : State) : exec (.dimExit via value) s = execDimExit via value s := rfl
@[simp] theorem exec_fwChunk (via : Via) (bytes : List Byte) (s : State) : exec (.fwChunk via bytes) s = execFwChunk via bytes s := rfl
@[simp] theorem exec_fwEraseDone (s : State) : exec (.fwEraseDone) s = execFwEraseDone s := rfl
@[simp] theorem exec_verifyTarget (via : Via) (s : State) : exec (.verifyTarget via) s = execVerifyTarget via s := rfl
@[simp] theorem exec_verifyTargetDone (check : ImageCheck) (s : State) : exec (.verifyTargetDone check) s = execVerifyTargetDone check s := rfl
@[simp] theorem exec_trialTarget (via : Via) (s : State) : exec (.trialTarget via) s = execTrialTarget via s := rfl
@[simp] theorem exec_cancelTrial (via : Via) (s : State) : exec (.cancelTrial via) s = execCancelTrial via s := rfl
@[simp] theorem exec_svnFloorWrite (via : Via) (value : Nat) (s : State) : exec (.svnFloorWrite via value) s = execSvnFloorWrite via value s := rfl
@[simp] theorem exec_fwKey0Revoke (via : Via) (value : Nat) (s : State) : exec (.fwKey0Revoke via value) s = execFwKey0Revoke via value s := rfl
@[simp] theorem exec_coreRetireRequest (via : Via) (die : Fin 4) (value : Nat) (s : State) : exec (.coreRetireRequest via die value) s = execCoreRetireRequest via die value s := rfl
@[simp] theorem exec_supplyWarning (mv : Nat) (s : State) : exec (.supplyWarning mv) s = execSupplyWarning mv s := rfl
@[simp] theorem exec_supplyLow (mv : Nat) (s : State) : exec (.supplyLow mv) s = execSupplyLow mv s := rfl
@[simp] theorem exec_supplyLowCleared (mv : Nat) (s : State) : exec (.supplyLowCleared mv) s = execSupplyLowCleared mv s := rfl
@[simp] theorem exec_supplyRecovered (mv : Nat) (s : State) : exec (.supplyRecovered mv) s = execSupplyRecovered mv s := rfl
@[simp] theorem exec_overVoltage (mv : Nat) (s : State) : exec (.overVoltage mv) s = execOverVoltage mv s := rfl
@[simp] theorem exec_overVoltageCleared (mv : Nat) (s : State) : exec (.overVoltageCleared mv) s = execOverVoltageCleared mv s := rfl
@[simp] theorem exec_supplyReset (mv : Nat) (s : State) : exec (.supplyReset mv) s = execSupplyReset mv s := rfl
@[simp] theorem exec_overVoltageReset (mv : Nat) (s : State) : exec (.overVoltageReset mv) s = execOverVoltageReset mv s := rfl
@[simp] theorem exec_overCurrentReset (ma : Nat) (s : State) : exec (.overCurrentReset ma) s = execOverCurrentReset ma s := rfl
@[simp] theorem exec_vinRise (mv : Nat) (s : State) : exec (.vinRise mv) s = execVinRise mv s := rfl
@[simp] theorem exec_vinStable (mv : Nat) (s : State) : exec (.vinStable mv) s = execVinStable mv s := rfl
@[simp] theorem exec_reversePolarity (s : State) : exec (.reversePolarity) s = execReversePolarity s := rfl
@[simp] theorem exec_railFault (die : Fin 4) (rail : Nat) (mv : Nat) (s : State) : exec (.railFault die rail mv) s = execRailFault die rail mv s := rfl
@[simp] theorem exec_railFaultReset (s : State) : exec (.railFaultReset) s = execRailFaultReset s := rfl
@[simp] theorem exec_senseOpen (kind : Nat) (die : Fin 4) (which : Nat) (reading : Nat) (s : State) : exec (.senseOpen kind die which reading) s = execSenseOpen kind die which reading s := rfl
@[simp] theorem exec_coolantSensor (sensor : Fin 4) (failed : Bool) (reading : Int) (s : State) : exec (.coolantSensor sensor failed reading) s = execCoolantSensor sensor failed reading s := rfl
@[simp] theorem exec_thermalDemandRevise (s : State) : exec (.thermalDemandRevise) s = execThermalDemandRevise s := rfl
@[simp] theorem exec_thermalTrip (die : Fin 4) (s : State) : exec (.thermalTrip die) s = execThermalTrip die s := rfl
@[simp] theorem exec_thermalTripShutdown (s : State) : exec (.thermalTripShutdown) s = execThermalTripShutdown s := rfl
@[simp] theorem exec_thermalCooldownReset (s : State) : exec (.thermalCooldownReset) s = execThermalCooldownReset s := rfl
@[simp] theorem exec_thermalCutoff (die : Fin 4) (s : State) : exec (.thermalCutoff die) s = execThermalCutoff die s := rfl
@[simp] theorem exec_coolantAverage (sensors : List Int) (tin tout : Int) (power : Nat) (s : State) : exec (.coolantAverage sensors tin tout power) s = execCoolantAverage sensors tin tout power s := rfl
@[simp] theorem exec_powerCeilingPublish (s : State) : exec (.powerCeilingPublish) s = execPowerCeilingPublish s := rfl
@[simp] theorem exec_powerControl (power ma : Nat) (s : State) : exec (.powerControl power ma) s = execPowerControl power ma s := rfl
@[simp] theorem exec_throttleStepRaise (s : State) : exec (.throttleStepRaise) s = execThrottleStepRaise s := rfl
@[simp] theorem exec_throttleStepLower (s : State) : exec (.throttleStepLower) s = execThrottleStepLower s := rfl
@[simp] theorem exec_canaryMeasure (margins : List Int) (s : State) : exec (.canaryMeasure margins) s = execCanaryMeasure margins s := rfl
@[simp] theorem exec_guardBandRaise (die : Fin 4) (s : State) : exec (.guardBandRaise die) s = execGuardBandRaise die s := rfl
@[simp] theorem exec_sensorCalibration (s : State) : exec (.sensorCalibration) s = execSensorCalibration s := rfl
@[simp] theorem exec_currentSenseCalibration (s : State) : exec (.currentSenseCalibration) s = execCurrentSenseCalibration s := rfl
@[simp] theorem exec_interfaceCalibration (s : State) : exec (.interfaceCalibration) s = execInterfaceCalibration s := rfl
@[simp] theorem exec_flashGarbageCollect (wear : Nat) (s : State) : exec (.flashGarbageCollect wear) s = execFlashGarbageCollect wear s := rfl
@[simp] theorem exec_crossingOverrun (crossing : Nat) (s : State) : exec (.crossingOverrun crossing) s = execCrossingOverrun crossing s := rfl
@[simp] theorem exec_overrunClear (via : Via) (value : Nat) (s : State) : exec (.overrunClear via value) s = execOverrunClear via value s := rfl
@[simp] theorem exec_crossingReset (crossing : Nat) (s : State) : exec (.crossingReset crossing) s = execCrossingReset crossing s := rfl
@[simp] theorem exec_crossingReleaseHandshake (crossing : Nat) (s : State) : exec (.crossingReleaseHandshake crossing) s = execCrossingReleaseHandshake crossing s := rfl
@[simp] theorem exec_resetRequest (via : Via) (value : Nat) (s : State) : exec (.resetRequest via value) s = execResetRequest via value s := rfl
@[simp] theorem exec_resetForce (via : Via) (value : Nat) (s : State) : exec (.resetForce via value) s = execResetForce via value s := rfl
@[simp] theorem exec_resetDelayExpiry (s : State) : exec (.resetDelayExpiry) s = execResetDelayExpiry s := rfl
@[simp] theorem exec_resetForceWritebackTimeout (s : State) : exec (.resetForceWritebackTimeout) s = execResetForceWritebackTimeout s := rfl
@[simp] theorem exec_logRecordArrival (s : State) : exec (.logRecordArrival) s = execLogRecordArrival s := rfl
@[simp] theorem exec_logProgram (s : State) : exec (.logProgram) s = execLogProgram s := rfl
@[simp] theorem exec_telemetrySample (s : State) : exec (.telemetrySample) s = execTelemetrySample s := rfl
@[simp] theorem exec_telemetryWrite (s : State) : exec (.telemetryWrite) s = execTelemetryWrite s := rfl
@[simp] theorem exec_coreTest (via : Via) (value : Nat) (s : State) : exec (.coreTest via value) s = execCoreTest via value s := rfl
@[simp] theorem exec_coreTestDone (failed : List (Fin 384)) (block : Nat) (s : State) : exec (.coreTestDone failed block) s = execCoreTestDone failed block s := rfl
@[simp] theorem exec_testAccessWrite (via : Via) (value : Nat) (s : State) : exec (.testAccessWrite via value) s = execTestAccessWrite via value s := rfl
@[simp] theorem exec_tapInstruction (d01 d23 : TapOp × TapOp) (s : State) : exec (.tapInstruction d01 d23) s = execTapInstruction d01 d23 s := rfl
@[simp] theorem exec_testLogicReset (s : State) : exec (.testLogicReset) s = execTestLogicReset s := rfl
@[simp] theorem exec_shardGuardWrite (via : Via) (guard : Fin 64) (value : List Byte) (s : State) : exec (.shardGuardWrite via guard value) s = execShardGuardWrite via guard value s := rfl
@[simp] theorem exec_trackingPeakRead (via : Via) (access : RegRead) (s : State) : exec (.trackingPeakRead via access) s = execTrackingPeakRead via access s := rfl
@[simp] theorem exec_configurationWrite (port : Fin 2) (busMaster d3hot : Bool) (bar2 : Nat) (s : State) : exec (.configurationWrite port busMaster d3hot bar2) s = execConfigurationWrite port busMaster d3hot bar2 s := rfl
@[simp] theorem exec_pcieLinkUp (port : Fin 2) (s : State) : exec (.pcieLinkUp port) s = execPcieLinkUp port s := rfl
@[simp] theorem exec_ethLinkLost (link : Fin 36) (s : State) : exec (.ethLinkLost link) s = execEthLinkLost link s := rfl
@[simp] theorem exec_entdaa (address : Fin 128) (s : State) : exec (.entdaa address) s = execEntdaa address s := rfl
@[simp] theorem exec_powerLoss (mv : Nat) (s : State) : exec (.powerLoss mv) s = execPowerLoss mv s := rfl
@[simp] theorem exec_lodestarFailure (die : Fin 4) (s : State) : exec (.lodestarFailure die) s = execLodestarFailure die s := rfl

/-- A step takes the command at the front of the queue. -/
theorem step_front (s : State) (c : Instr) (rest : List Instr) (h : s.pending = c :: rest) : step s = exec c { s with pending := rest } := by
  simp [step, h]
/-- With an empty queue the block idles. -/
theorem step_idle (s : State) (h : s.pending = []) : step s = .next (idleTick s) := by simp [step, h]

end Sys2Proof.Machine
end

