-- ==== Sys2Proof/Laws/Memory.lean ====
section
/-! SUPPORT. What the operations on memory do: each keeps the canonical form, a read after a write gives the value written, and a write leaves every other address alone. -/
namespace Sys2Proof.Machine

@[simp] theorem Memory.set_unlisted (m : Memory) (a b : Nat) (v : Byte) : (m.set a v).unlisted b = m.unlisted b := rfl

theorem cellsSorted_weaken {lo hi : Nat} (h : hi ≤ lo) {l : List Host.Cell} (hs : cellsSorted lo l = true) : cellsSorted hi l = true := by
  cases l with
  | nil => rfl
  | cons c t => obtain ⟨k, w⟩ := c; simp [cellsSorted] at hs ⊢; exact ⟨by omega, hs.2⟩

theorem cellsSorted_filter (p : Host.Cell → Bool) {l : List Host.Cell} : ∀ {lo : Nat}, cellsSorted lo l = true → cellsSorted lo (l.filter p) = true := by
  induction l with
  | nil => intro lo _; rfl
  | cons c t ih =>
    obtain ⟨k, w⟩ := c
    intro lo hs
    simp [cellsSorted] at hs
    by_cases h : p (k, w) = true
    · simp [h, cellsSorted, hs.1, ih hs.2]
    · simp [h]
      exact cellsSorted_weaken (by omega) (ih hs.2)

theorem cellsSorted_setCell (keep : Bool) (a : Nat) (v : Byte) {l : List Host.Cell} : ∀ {lo : Nat}, lo ≤ a → cellsSorted lo l = true → cellsSorted lo (setCell keep a v l) = true := by
  induction l with
  | nil => intro lo h _; cases keep <;> simp [setCell, cellsSorted, h]
  | cons c t ih =>
    obtain ⟨k, w⟩ := c
    intro lo h hs
    simp [cellsSorted] at hs
    unfold setCell
    split
    · cases keep <;> simp [cellsSorted, hs, h]
      omega
    · split
      · subst a; cases keep <;> simp [cellsSorted, hs]
        exact cellsSorted_weaken (by omega) hs.2
      · simp [cellsSorted, hs.1]; exact ih (by omega) hs.2

theorem setCell_all (p : Host.Cell → Bool) (keep : Bool) (a : Nat) (v : Byte) (hk : keep = true → p (a, v) = true) {l : List Host.Cell}
    (h : l.all p = true) : (setCell keep a v l).all p = true := by
  induction l with
  | nil => cases keep <;> simp_all [setCell]
  | cons c t ih =>
    obtain ⟨k, w⟩ := c
    simp only [List.all_cons, Bool.and_eq_true] at h
    unfold setCell
    split
    · cases keep <;> simp_all
    · split
      · cases keep <;> simp_all
      · simp [h.1]; simpa using ih h.2

/-- Storing a byte keeps the canonical form. -/
theorem Memory.set_wf (m : Memory) (a : Nat) (v : Byte) (h : m.wf = true) : (m.set a v).wf = true := by
  simp only [Memory.wf, Bool.and_eq_true] at h ⊢
  refine ⟨cellsSorted_setCell _ _ _ (Nat.zero_le a) h.1, ?_⟩
  exact setCell_all _ _ _ _ (by simp) h.2

/-- Storing bytes keeps the canonical form. -/
theorem Memory.write_wf (m : Memory) (a : Nat) (bs : Bytes) (h : m.wf = true) : (m.write a bs).wf = true := by
  induction bs generalizing m a with
  | nil => exact h
  | cons b bs ih => exact ih _ _ (Memory.set_wf m a b h)

/-- Dropping cells while what the kept addresses read as stays the same keeps the canonical form. -/
theorem Memory.filter_wf (m m' : Memory) (p : Host.Cell → Bool) (hc : m'.cells = m.cells.filter p)
    (hu : ∀ c, p c = true → m'.unlisted c.1 = m.unlisted c.1) (h : m.wf = true) : m'.wf = true := by
  simp only [Memory.wf, Bool.and_eq_true, List.all_eq_true, hc] at h ⊢
  refine ⟨cellsSorted_filter p h.1, fun c hm => ?_⟩
  rw [List.mem_filter] at hm
  rw [hu c hm.2]
  exact h.2 c hm.1

theorem staleTag_cons (lo n tag a : Nat) (l : List (Nat × Nat × Nat)) (h : ¬(lo ≤ a ∧ a < lo + n)) : staleTag ((lo, n, tag) :: l) a = staleTag l a := by
  simp [staleTag, h]

theorem staleTag_filter (p : Nat × Nat × Nat → Bool) (a : Nat) (l : List (Nat × Nat × Nat))
    (h : ∀ r ∈ l, p r = false → ¬(r.1 ≤ a ∧ a < r.1 + r.2.1)) : staleTag (l.filter p) a = staleTag l a := by
  induction l with
  | nil => rfl
  | cons r t ih =>
    obtain ⟨lo, n, tag⟩ := r
    have ih' := ih (fun r hr => h r (List.mem_cons_of_mem _ hr))
    by_cases hp : p (lo, n, tag) = true
    · simp [hp, staleTag, ih']
    · have hp' : p (lo, n, tag) = false := by simpa using hp
      have := h (lo, n, tag) (by simp) hp'
      simp only [List.filter_cons, hp', staleTag]
      simp [this, ih']

/-- A range whose contents become undefined keeps the canonical form. -/
theorem Memory.forget_wf (m : Memory) (a n tag : Nat) (h : m.wf = true) : (m.forget a n tag).wf = true := by
  refine Memory.filter_wf m _ _ rfl (fun c hc => ?_) h
  have hc' : ¬(a ≤ c.1 ∧ c.1 < a + n) := by simp at hc; omega
  simp only [Memory.unlisted, Memory.forget]
  rw [staleTag_cons _ _ _ _ _ hc']

/-- A cleared range keeps the canonical form. -/
theorem Memory.clear_wf (m : Memory) (a n : Nat) (h : m.wf = true) : (m.clear a n).wf = true := by
  refine Memory.filter_wf m _ _ rfl (fun c hc => ?_) h
  have hc' : ¬(a ≤ c.1 ∧ c.1 < a + n) := by simp at hc; omega
  have : staleTag (m.clear a n).stale c.1 = staleTag m.stale c.1 := by
    refine staleTag_filter _ _ _ (fun r _ hp hr => ?_)
    simp at hp; omega
  simp only [Memory.unlisted, this]; rfl

/-- The loss of the SRAM windows keeps the canonical form. -/
theorem Memory.dropSram_wf (m : Memory) (tag : Nat) (h : m.wf = true) : (m.dropSram tag).wf = true := by
  refine Memory.filter_wf m _ _ rfl (fun c hc => ?_) h
  have hc' : c.1 < 0x30000000000 := by simpa using hc
  have : staleTag (m.dropSram tag).stale c.1 = staleTag m.stale c.1 := by
    refine staleTag_filter _ _ _ (fun r _ hp hr => ?_)
    simp at hp; omega
  have hr : region c.1 ≠ .scratch := by
    unfold region; split
    · simp
    · split
      · simp
      · split
        · omega
        · split <;> simp
  simp only [Memory.unlisted, this]
  split
  · rfl
  · split
    · rfl
    · rfl
    · exact absurd ‹_› hr
    · rfl

@[simp] theorem Memory.lost_wf (tag : Nat) : (Memory.lost tag).wf = true := rfl

theorem findCell_below {l : List Host.Cell} : ∀ {lo a : Nat}, cellsSorted lo l = true → a < lo → findCell l a = none := by
  induction l with
  | nil => intros; rfl
  | cons c t ih =>
    obtain ⟨k, w⟩ := c
    intro lo a hs h
    simp [cellsSorted] at hs
    simp [findCell, show a ≠ k by omega, ih hs.2 (show a < k + 1 by omega)]

theorem findCell_setCell_same (keep : Bool) (a : Nat) (v : Byte) {l : List Host.Cell} : ∀ {lo : Nat}, cellsSorted lo l = true →
    findCell (setCell keep a v l) a = if keep then some v else none := by
  induction l with
  | nil => intro lo _; cases keep <;> simp [setCell, findCell]
  | cons c t ih =>
    obtain ⟨k, w⟩ := c
    intro lo hs
    simp [cellsSorted] at hs
    unfold setCell
    split
    · cases keep
      · simp [findCell, show a ≠ k by omega, findCell_below hs.2 (show a < k + 1 by omega)]
      · simp [findCell]
    · split
      · subst a; cases keep
        · simp [findCell_below hs.2 (show k < k + 1 by omega)]
        · simp [findCell]
      · rename_i h; simp only [findCell, h, if_false]; exact ih hs.2

theorem findCell_setCell_other (keep : Bool) (a b : Nat) (v : Byte) (h : b ≠ a) (l : List Host.Cell) : findCell (setCell keep a v l) b = findCell l b := by
  induction l with
  | nil => cases keep <;> simp [setCell, findCell, h]
  | cons c t ih =>
    obtain ⟨k, w⟩ := c
    unfold setCell
    split
    · cases keep <;> simp [findCell, h]
    · split
      · rename_i h2; subst h2; cases keep <;> simp [findCell, h]
      · simp only [findCell, ih]

/-- A read after a write to the same address gives the value written. -/
theorem Memory.get_set_same (m : Memory) (a : Nat) (v : Byte) (h : m.wf = true) : (m.set a v).get a = v := by
  simp only [Memory.wf, Bool.and_eq_true] at h
  have : findCell (m.set a v).cells a = _ := findCell_setCell_same _ a v h.1
  rw [Memory.get, this]
  by_cases hv : v = m.unlisted a <;> simp [hv]

/-- A write leaves every other address alone. -/
theorem Memory.get_set_other (m : Memory) (a b : Nat) (v : Byte) (h : b ≠ a) : (m.set a v).get b = m.get b := by
  have : findCell (m.set a v).cells b = _ := findCell_setCell_other _ a b v h _
  rw [Memory.get, this]; rfl

theorem Memory.get_write_outside (m : Memory) (a b : Nat) (bs : Bytes) (h : b < a ∨ a + bs.length ≤ b) : (m.write a bs).get b = m.get b := by
  induction bs generalizing m a with
  | nil => rfl
  | cons x bs ih =>
    simp only [List.length_cons] at h
    rw [Memory.write, ih _ _ (by omega), Memory.get_set_other _ _ _ _ (by omega)]

end Sys2Proof.Machine
end

