-- ==== Sys2Proof/Laws/State.lean ====
section
/-! SUPPORT. One lemma for each field and each named update of the state: an update leaves every field but its own alone, and what it does to its own. -/
namespace Sys2Proof.Machine

@[simp] theorem State.setCore_pending (s : State) (g : Nat) (c : Core) : (s.setCore g c).pending = s.pending := rfl
@[simp] theorem State.setCore_free (s : State) (g : Nat) (c : Core) : (s.setCore g c).free = s.free := rfl
@[simp] theorem State.setCore_out (s : State) (g : Nat) (c : Core) : (s.setCore g c).out = s.out := rfl
@[simp] theorem State.setCore_dict (s : State) (g : Nat) (c : Core) : (s.setCore g c).dict = s.dict := rfl
@[simp] theorem State.setCore_longs (s : State) (g : Nat) (c : Core) : (s.setCore g c).longs = s.longs := rfl
@[simp] theorem State.setCore_mem (s : State) (g : Nat) (c : Core) : (s.setCore g c).mem = s.mem := rfl
@[simp] theorem State.setCore_gates (s : State) (g : Nat) (c : Core) : (s.setCore g c).gates = s.gates := rfl
@[simp] theorem State.setCore_threads (s : State) (g : Nat) (c : Core) : (s.setCore g c).threads = s.threads := rfl
@[simp] theorem State.setCore_movers (s : State) (g : Nat) (c : Core) : (s.setCore g c).movers = s.movers := rfl
@[simp] theorem State.setCore_eth (s : State) (g : Nat) (c : Core) : (s.setCore g c).eth = s.eth := rfl
@[simp] theorem State.setCore_time (s : State) (g : Nat) (c : Core) : (s.setCore g c).time = s.time := rfl
@[simp] theorem State.setCore_alm (s : State) (g : Nat) (c : Core) : (s.setCore g c).alm = s.alm := rfl
@[simp] theorem State.setCore_conj (s : State) (g : Nat) (c : Core) : (s.setCore g c).conj = s.conj := rfl
@[simp] theorem State.setCore_cache (s : State) (g : Nat) (c : Core) : (s.setCore g c).cache = s.cache := rfl
@[simp] theorem State.setCore_trans (s : State) (g : Nat) (c : Core) : (s.setCore g c).trans = s.trans := rfl
@[simp] theorem State.setCore_upd (s : State) (g : Nat) (c : Core) : (s.setCore g c).upd = s.upd := rfl
@[simp] theorem State.setCore_fab (s : State) (g : Nat) (c : Core) : (s.setCore g c).fab = s.fab := rfl
@[simp] theorem State.setCore_host (s : State) (g : Nat) (c : Core) : (s.setCore g c).host = s.host := rfl
@[simp] theorem State.setCore_prot (s : State) (g : Nat) (c : Core) : (s.setCore g c).prot = s.prot := rfl
@[simp] theorem State.setCore_boot (s : State) (g : Nat) (c : Core) : (s.setCore g c).boot = s.boot := rfl
@[simp] theorem State.setCore_fuse (s : State) (g : Nat) (c : Core) : (s.setCore g c).fuse = s.fuse := rfl
@[simp] theorem State.setCore_power (s : State) (g : Nat) (c : Core) : (s.setCore g c).power = s.power := rfl
@[simp] theorem State.setCore_clk (s : State) (g : Nat) (c : Core) : (s.setCore g c).clk = s.clk := rfl
@[simp] theorem State.setCore_log (s : State) (g : Nat) (c : Core) : (s.setCore g c).log = s.log := rfl

@[simp] theorem State.setThread_pending (s : State) (g t : Nat) (th : Thread) : (s.setThread g t th).pending = s.pending := rfl
@[simp] theorem State.setThread_free (s : State) (g t : Nat) (th : Thread) : (s.setThread g t th).free = s.free := rfl
@[simp] theorem State.setThread_out (s : State) (g t : Nat) (th : Thread) : (s.setThread g t th).out = s.out := rfl
@[simp] theorem State.setThread_dict (s : State) (g t : Nat) (th : Thread) : (s.setThread g t th).dict = s.dict := rfl
@[simp] theorem State.setThread_longs (s : State) (g t : Nat) (th : Thread) : (s.setThread g t th).longs = s.longs := rfl
@[simp] theorem State.setThread_mem (s : State) (g t : Nat) (th : Thread) : (s.setThread g t th).mem = s.mem := rfl
@[simp] theorem State.setThread_gates (s : State) (g t : Nat) (th : Thread) : (s.setThread g t th).gates = s.gates := rfl
@[simp] theorem State.setThread_cores (s : State) (g t : Nat) (th : Thread) : (s.setThread g t th).cores = s.cores := rfl
@[simp] theorem State.setThread_movers (s : State) (g t : Nat) (th : Thread) : (s.setThread g t th).movers = s.movers := rfl
@[simp] theorem State.setThread_eth (s : State) (g t : Nat) (th : Thread) : (s.setThread g t th).eth = s.eth := rfl
@[simp] theorem State.setThread_time (s : State) (g t : Nat) (th : Thread) : (s.setThread g t th).time = s.time := rfl
@[simp] theorem State.setThread_alm (s : State) (g t : Nat) (th : Thread) : (s.setThread g t th).alm = s.alm := rfl
@[simp] theorem State.setThread_conj (s : State) (g t : Nat) (th : Thread) : (s.setThread g t th).conj = s.conj := rfl
@[simp] theorem State.setThread_cache (s : State) (g t : Nat) (th : Thread) : (s.setThread g t th).cache = s.cache := rfl
@[simp] theorem State.setThread_trans (s : State) (g t : Nat) (th : Thread) : (s.setThread g t th).trans = s.trans := rfl
@[simp] theorem State.setThread_upd (s : State) (g t : Nat) (th : Thread) : (s.setThread g t th).upd = s.upd := rfl
@[simp] theorem State.setThread_fab (s : State) (g t : Nat) (th : Thread) : (s.setThread g t th).fab = s.fab := rfl
@[simp] theorem State.setThread_host (s : State) (g t : Nat) (th : Thread) : (s.setThread g t th).host = s.host := rfl
@[simp] theorem State.setThread_prot (s : State) (g t : Nat) (th : Thread) : (s.setThread g t th).prot = s.prot := rfl
@[simp] theorem State.setThread_boot (s : State) (g t : Nat) (th : Thread) : (s.setThread g t th).boot = s.boot := rfl
@[simp] theorem State.setThread_fuse (s : State) (g t : Nat) (th : Thread) : (s.setThread g t th).fuse = s.fuse := rfl
@[simp] theorem State.setThread_power (s : State) (g t : Nat) (th : Thread) : (s.setThread g t th).power = s.power := rfl
@[simp] theorem State.setThread_clk (s : State) (g t : Nat) (th : Thread) : (s.setThread g t th).clk = s.clk := rfl
@[simp] theorem State.setThread_log (s : State) (g t : Nat) (th : Thread) : (s.setThread g t th).log = s.log := rfl

@[simp] theorem State.setMover_pending (s : State) (d m : Nat) (v : Mover) : (s.setMover d m v).pending = s.pending := rfl
@[simp] theorem State.setMover_free (s : State) (d m : Nat) (v : Mover) : (s.setMover d m v).free = s.free := rfl
@[simp] theorem State.setMover_out (s : State) (d m : Nat) (v : Mover) : (s.setMover d m v).out = s.out := rfl
@[simp] theorem State.setMover_dict (s : State) (d m : Nat) (v : Mover) : (s.setMover d m v).dict = s.dict := rfl
@[simp] theorem State.setMover_longs (s : State) (d m : Nat) (v : Mover) : (s.setMover d m v).longs = s.longs := rfl
@[simp] theorem State.setMover_mem (s : State) (d m : Nat) (v : Mover) : (s.setMover d m v).mem = s.mem := rfl
@[simp] theorem State.setMover_gates (s : State) (d m : Nat) (v : Mover) : (s.setMover d m v).gates = s.gates := rfl
@[simp] theorem State.setMover_cores (s : State) (d m : Nat) (v : Mover) : (s.setMover d m v).cores = s.cores := rfl
@[simp] theorem State.setMover_threads (s : State) (d m : Nat) (v : Mover) : (s.setMover d m v).threads = s.threads := rfl
@[simp] theorem State.setMover_eth (s : State) (d m : Nat) (v : Mover) : (s.setMover d m v).eth = s.eth := rfl
@[simp] theorem State.setMover_time (s : State) (d m : Nat) (v : Mover) : (s.setMover d m v).time = s.time := rfl
@[simp] theorem State.setMover_alm (s : State) (d m : Nat) (v : Mover) : (s.setMover d m v).alm = s.alm := rfl
@[simp] theorem State.setMover_conj (s : State) (d m : Nat) (v : Mover) : (s.setMover d m v).conj = s.conj := rfl
@[simp] theorem State.setMover_cache (s : State) (d m : Nat) (v : Mover) : (s.setMover d m v).cache = s.cache := rfl
@[simp] theorem State.setMover_trans (s : State) (d m : Nat) (v : Mover) : (s.setMover d m v).trans = s.trans := rfl
@[simp] theorem State.setMover_upd (s : State) (d m : Nat) (v : Mover) : (s.setMover d m v).upd = s.upd := rfl
@[simp] theorem State.setMover_fab (s : State) (d m : Nat) (v : Mover) : (s.setMover d m v).fab = s.fab := rfl
@[simp] theorem State.setMover_host (s : State) (d m : Nat) (v : Mover) : (s.setMover d m v).host = s.host := rfl
@[simp] theorem State.setMover_prot (s : State) (d m : Nat) (v : Mover) : (s.setMover d m v).prot = s.prot := rfl
@[simp] theorem State.setMover_boot (s : State) (d m : Nat) (v : Mover) : (s.setMover d m v).boot = s.boot := rfl
@[simp] theorem State.setMover_fuse (s : State) (d m : Nat) (v : Mover) : (s.setMover d m v).fuse = s.fuse := rfl
@[simp] theorem State.setMover_power (s : State) (d m : Nat) (v : Mover) : (s.setMover d m v).power = s.power := rfl
@[simp] theorem State.setMover_clk (s : State) (d m : Nat) (v : Mover) : (s.setMover d m v).clk = s.clk := rfl
@[simp] theorem State.setMover_log (s : State) (d m : Nat) (v : Mover) : (s.setMover d m v).log = s.log := rfl

@[simp] theorem State.setLink_pending (s : State) (l : Nat) (k : Link) : (s.setLink l k).pending = s.pending := rfl
@[simp] theorem State.setLink_free (s : State) (l : Nat) (k : Link) : (s.setLink l k).free = s.free := rfl
@[simp] theorem State.setLink_out (s : State) (l : Nat) (k : Link) : (s.setLink l k).out = s.out := rfl
@[simp] theorem State.setLink_dict (s : State) (l : Nat) (k : Link) : (s.setLink l k).dict = s.dict := rfl
@[simp] theorem State.setLink_longs (s : State) (l : Nat) (k : Link) : (s.setLink l k).longs = s.longs := rfl
@[simp] theorem State.setLink_mem (s : State) (l : Nat) (k : Link) : (s.setLink l k).mem = s.mem := rfl
@[simp] theorem State.setLink_gates (s : State) (l : Nat) (k : Link) : (s.setLink l k).gates = s.gates := rfl
@[simp] theorem State.setLink_cores (s : State) (l : Nat) (k : Link) : (s.setLink l k).cores = s.cores := rfl
@[simp] theorem State.setLink_threads (s : State) (l : Nat) (k : Link) : (s.setLink l k).threads = s.threads := rfl
@[simp] theorem State.setLink_movers (s : State) (l : Nat) (k : Link) : (s.setLink l k).movers = s.movers := rfl
@[simp] theorem State.setLink_eth (s : State) (l : Nat) (k : Link) : (s.setLink l k).eth = s.eth := rfl
@[simp] theorem State.setLink_time (s : State) (l : Nat) (k : Link) : (s.setLink l k).time = s.time := rfl
@[simp] theorem State.setLink_alm (s : State) (l : Nat) (k : Link) : (s.setLink l k).alm = s.alm := rfl
@[simp] theorem State.setLink_conj (s : State) (l : Nat) (k : Link) : (s.setLink l k).conj = s.conj := rfl
@[simp] theorem State.setLink_cache (s : State) (l : Nat) (k : Link) : (s.setLink l k).cache = s.cache := rfl
@[simp] theorem State.setLink_trans (s : State) (l : Nat) (k : Link) : (s.setLink l k).trans = s.trans := rfl
@[simp] theorem State.setLink_upd (s : State) (l : Nat) (k : Link) : (s.setLink l k).upd = s.upd := rfl
@[simp] theorem State.setLink_host (s : State) (l : Nat) (k : Link) : (s.setLink l k).host = s.host := rfl
@[simp] theorem State.setLink_prot (s : State) (l : Nat) (k : Link) : (s.setLink l k).prot = s.prot := rfl
@[simp] theorem State.setLink_boot (s : State) (l : Nat) (k : Link) : (s.setLink l k).boot = s.boot := rfl
@[simp] theorem State.setLink_fuse (s : State) (l : Nat) (k : Link) : (s.setLink l k).fuse = s.fuse := rfl
@[simp] theorem State.setLink_power (s : State) (l : Nat) (k : Link) : (s.setLink l k).power = s.power := rfl
@[simp] theorem State.setLink_clk (s : State) (l : Nat) (k : Link) : (s.setLink l k).clk = s.clk := rfl
@[simp] theorem State.setLink_log (s : State) (l : Nat) (k : Link) : (s.setLink l k).log = s.log := rfl

@[simp] theorem State.setEthPort_pending (s : State) (l : Nat) (e : EthPort) : (s.setEthPort l e).pending = s.pending := rfl
@[simp] theorem State.setEthPort_free (s : State) (l : Nat) (e : EthPort) : (s.setEthPort l e).free = s.free := rfl
@[simp] theorem State.setEthPort_out (s : State) (l : Nat) (e : EthPort) : (s.setEthPort l e).out = s.out := rfl
@[simp] theorem State.setEthPort_dict (s : State) (l : Nat) (e : EthPort) : (s.setEthPort l e).dict = s.dict := rfl
@[simp] theorem State.setEthPort_longs (s : State) (l : Nat) (e : EthPort) : (s.setEthPort l e).longs = s.longs := rfl
@[simp] theorem State.setEthPort_mem (s : State) (l : Nat) (e : EthPort) : (s.setEthPort l e).mem = s.mem := rfl
@[simp] theorem State.setEthPort_gates (s : State) (l : Nat) (e : EthPort) : (s.setEthPort l e).gates = s.gates := rfl
@[simp] theorem State.setEthPort_cores (s : State) (l : Nat) (e : EthPort) : (s.setEthPort l e).cores = s.cores := rfl
@[simp] theorem State.setEthPort_threads (s : State) (l : Nat) (e : EthPort) : (s.setEthPort l e).threads = s.threads := rfl
@[simp] theorem State.setEthPort_movers (s : State) (l : Nat) (e : EthPort) : (s.setEthPort l e).movers = s.movers := rfl
@[simp] theorem State.setEthPort_time (s : State) (l : Nat) (e : EthPort) : (s.setEthPort l e).time = s.time := rfl
@[simp] theorem State.setEthPort_alm (s : State) (l : Nat) (e : EthPort) : (s.setEthPort l e).alm = s.alm := rfl
@[simp] theorem State.setEthPort_conj (s : State) (l : Nat) (e : EthPort) : (s.setEthPort l e).conj = s.conj := rfl
@[simp] theorem State.setEthPort_cache (s : State) (l : Nat) (e : EthPort) : (s.setEthPort l e).cache = s.cache := rfl
@[simp] theorem State.setEthPort_trans (s : State) (l : Nat) (e : EthPort) : (s.setEthPort l e).trans = s.trans := rfl
@[simp] theorem State.setEthPort_upd (s : State) (l : Nat) (e : EthPort) : (s.setEthPort l e).upd = s.upd := rfl
@[simp] theorem State.setEthPort_fab (s : State) (l : Nat) (e : EthPort) : (s.setEthPort l e).fab = s.fab := rfl
@[simp] theorem State.setEthPort_host (s : State) (l : Nat) (e : EthPort) : (s.setEthPort l e).host = s.host := rfl
@[simp] theorem State.setEthPort_prot (s : State) (l : Nat) (e : EthPort) : (s.setEthPort l e).prot = s.prot := rfl
@[simp] theorem State.setEthPort_boot (s : State) (l : Nat) (e : EthPort) : (s.setEthPort l e).boot = s.boot := rfl
@[simp] theorem State.setEthPort_fuse (s : State) (l : Nat) (e : EthPort) : (s.setEthPort l e).fuse = s.fuse := rfl
@[simp] theorem State.setEthPort_power (s : State) (l : Nat) (e : EthPort) : (s.setEthPort l e).power = s.power := rfl
@[simp] theorem State.setEthPort_clk (s : State) (l : Nat) (e : EthPort) : (s.setEthPort l e).clk = s.clk := rfl
@[simp] theorem State.setEthPort_log (s : State) (l : Nat) (e : EthPort) : (s.setEthPort l e).log = s.log := rfl

@[simp] theorem State.emit_pending (s : State) (o : Out) : (s.emit o).pending = s.pending := rfl
@[simp] theorem State.emit_free (s : State) (o : Out) : (s.emit o).free = s.free := rfl
@[simp] theorem State.emit_dict (s : State) (o : Out) : (s.emit o).dict = s.dict := rfl
@[simp] theorem State.emit_longs (s : State) (o : Out) : (s.emit o).longs = s.longs := rfl
@[simp] theorem State.emit_mem (s : State) (o : Out) : (s.emit o).mem = s.mem := rfl
@[simp] theorem State.emit_gates (s : State) (o : Out) : (s.emit o).gates = s.gates := rfl
@[simp] theorem State.emit_cores (s : State) (o : Out) : (s.emit o).cores = s.cores := rfl
@[simp] theorem State.emit_threads (s : State) (o : Out) : (s.emit o).threads = s.threads := rfl
@[simp] theorem State.emit_movers (s : State) (o : Out) : (s.emit o).movers = s.movers := rfl
@[simp] theorem State.emit_eth (s : State) (o : Out) : (s.emit o).eth = s.eth := rfl
@[simp] theorem State.emit_time (s : State) (o : Out) : (s.emit o).time = s.time := rfl
@[simp] theorem State.emit_alm (s : State) (o : Out) : (s.emit o).alm = s.alm := rfl
@[simp] theorem State.emit_conj (s : State) (o : Out) : (s.emit o).conj = s.conj := rfl
@[simp] theorem State.emit_cache (s : State) (o : Out) : (s.emit o).cache = s.cache := rfl
@[simp] theorem State.emit_trans (s : State) (o : Out) : (s.emit o).trans = s.trans := rfl
@[simp] theorem State.emit_upd (s : State) (o : Out) : (s.emit o).upd = s.upd := rfl
@[simp] theorem State.emit_fab (s : State) (o : Out) : (s.emit o).fab = s.fab := rfl
@[simp] theorem State.emit_host (s : State) (o : Out) : (s.emit o).host = s.host := rfl
@[simp] theorem State.emit_prot (s : State) (o : Out) : (s.emit o).prot = s.prot := rfl
@[simp] theorem State.emit_boot (s : State) (o : Out) : (s.emit o).boot = s.boot := rfl
@[simp] theorem State.emit_fuse (s : State) (o : Out) : (s.emit o).fuse = s.fuse := rfl
@[simp] theorem State.emit_power (s : State) (o : Out) : (s.emit o).power = s.power := rfl
@[simp] theorem State.emit_clk (s : State) (o : Out) : (s.emit o).clk = s.clk := rfl
@[simp] theorem State.emit_log (s : State) (o : Out) : (s.emit o).log = s.log := rfl

@[simp] theorem State.dset_pending (s : State) (i j v : Nat) : (s.dset i j v).pending = s.pending := rfl
@[simp] theorem State.dset_free (s : State) (i j v : Nat) : (s.dset i j v).free = s.free := rfl
@[simp] theorem State.dset_out (s : State) (i j v : Nat) : (s.dset i j v).out = s.out := rfl
@[simp] theorem State.dset_longs (s : State) (i j v : Nat) : (s.dset i j v).longs = s.longs := rfl
@[simp] theorem State.dset_mem (s : State) (i j v : Nat) : (s.dset i j v).mem = s.mem := rfl
@[simp] theorem State.dset_gates (s : State) (i j v : Nat) : (s.dset i j v).gates = s.gates := rfl
@[simp] theorem State.dset_cores (s : State) (i j v : Nat) : (s.dset i j v).cores = s.cores := rfl
@[simp] theorem State.dset_threads (s : State) (i j v : Nat) : (s.dset i j v).threads = s.threads := rfl
@[simp] theorem State.dset_movers (s : State) (i j v : Nat) : (s.dset i j v).movers = s.movers := rfl
@[simp] theorem State.dset_eth (s : State) (i j v : Nat) : (s.dset i j v).eth = s.eth := rfl
@[simp] theorem State.dset_time (s : State) (i j v : Nat) : (s.dset i j v).time = s.time := rfl
@[simp] theorem State.dset_alm (s : State) (i j v : Nat) : (s.dset i j v).alm = s.alm := rfl
@[simp] theorem State.dset_conj (s : State) (i j v : Nat) : (s.dset i j v).conj = s.conj := rfl
@[simp] theorem State.dset_cache (s : State) (i j v : Nat) : (s.dset i j v).cache = s.cache := rfl
@[simp] theorem State.dset_trans (s : State) (i j v : Nat) : (s.dset i j v).trans = s.trans := rfl
@[simp] theorem State.dset_upd (s : State) (i j v : Nat) : (s.dset i j v).upd = s.upd := rfl
@[simp] theorem State.dset_fab (s : State) (i j v : Nat) : (s.dset i j v).fab = s.fab := rfl
@[simp] theorem State.dset_host (s : State) (i j v : Nat) : (s.dset i j v).host = s.host := rfl
@[simp] theorem State.dset_prot (s : State) (i j v : Nat) : (s.dset i j v).prot = s.prot := rfl
@[simp] theorem State.dset_boot (s : State) (i j v : Nat) : (s.dset i j v).boot = s.boot := rfl
@[simp] theorem State.dset_fuse (s : State) (i j v : Nat) : (s.dset i j v).fuse = s.fuse := rfl
@[simp] theorem State.dset_power (s : State) (i j v : Nat) : (s.dset i j v).power = s.power := rfl
@[simp] theorem State.dset_clk (s : State) (i j v : Nat) : (s.dset i j v).clk = s.clk := rfl
@[simp] theorem State.dset_log (s : State) (i j v : Nat) : (s.dset i j v).log = s.log := rfl

@[simp] theorem State.lset_pending (s : State) (i j : Nat) (v : Bytes) : (s.lset i j v).pending = s.pending := rfl
@[simp] theorem State.lset_free (s : State) (i j : Nat) (v : Bytes) : (s.lset i j v).free = s.free := rfl
@[simp] theorem State.lset_out (s : State) (i j : Nat) (v : Bytes) : (s.lset i j v).out = s.out := rfl
@[simp] theorem State.lset_dict (s : State) (i j : Nat) (v : Bytes) : (s.lset i j v).dict = s.dict := rfl
@[simp] theorem State.lset_mem (s : State) (i j : Nat) (v : Bytes) : (s.lset i j v).mem = s.mem := rfl
@[simp] theorem State.lset_gates (s : State) (i j : Nat) (v : Bytes) : (s.lset i j v).gates = s.gates := rfl
@[simp] theorem State.lset_cores (s : State) (i j : Nat) (v : Bytes) : (s.lset i j v).cores = s.cores := rfl
@[simp] theorem State.lset_threads (s : State) (i j : Nat) (v : Bytes) : (s.lset i j v).threads = s.threads := rfl
@[simp] theorem State.lset_movers (s : State) (i j : Nat) (v : Bytes) : (s.lset i j v).movers = s.movers := rfl
@[simp] theorem State.lset_eth (s : State) (i j : Nat) (v : Bytes) : (s.lset i j v).eth = s.eth := rfl
@[simp] theorem State.lset_time (s : State) (i j : Nat) (v : Bytes) : (s.lset i j v).time = s.time := rfl
@[simp] theorem State.lset_alm (s : State) (i j : Nat) (v : Bytes) : (s.lset i j v).alm = s.alm := rfl
@[simp] theorem State.lset_conj (s : State) (i j : Nat) (v : Bytes) : (s.lset i j v).conj = s.conj := rfl
@[simp] theorem State.lset_cache (s : State) (i j : Nat) (v : Bytes) : (s.lset i j v).cache = s.cache := rfl
@[simp] theorem State.lset_trans (s : State) (i j : Nat) (v : Bytes) : (s.lset i j v).trans = s.trans := rfl
@[simp] theorem State.lset_upd (s : State) (i j : Nat) (v : Bytes) : (s.lset i j v).upd = s.upd := rfl
@[simp] theorem State.lset_fab (s : State) (i j : Nat) (v : Bytes) : (s.lset i j v).fab = s.fab := rfl
@[simp] theorem State.lset_host (s : State) (i j : Nat) (v : Bytes) : (s.lset i j v).host = s.host := rfl
@[simp] theorem State.lset_prot (s : State) (i j : Nat) (v : Bytes) : (s.lset i j v).prot = s.prot := rfl
@[simp] theorem State.lset_boot (s : State) (i j : Nat) (v : Bytes) : (s.lset i j v).boot = s.boot := rfl
@[simp] theorem State.lset_fuse (s : State) (i j : Nat) (v : Bytes) : (s.lset i j v).fuse = s.fuse := rfl
@[simp] theorem State.lset_power (s : State) (i j : Nat) (v : Bytes) : (s.lset i j v).power = s.power := rfl
@[simp] theorem State.lset_clk (s : State) (i j : Nat) (v : Bytes) : (s.lset i j v).clk = s.clk := rfl
@[simp] theorem State.lset_log (s : State) (i j : Nat) (v : Bytes) : (s.lset i j v).log = s.log := rfl

@[simp] theorem State.setSdt_pending (s : State) (t : Nat) : (s.setSdt t).pending = s.pending := rfl
@[simp] theorem State.setSdt_free (s : State) (t : Nat) : (s.setSdt t).free = s.free := rfl
@[simp] theorem State.setSdt_out (s : State) (t : Nat) : (s.setSdt t).out = s.out := rfl
@[simp] theorem State.setSdt_dict (s : State) (t : Nat) : (s.setSdt t).dict = s.dict := rfl
@[simp] theorem State.setSdt_longs (s : State) (t : Nat) : (s.setSdt t).longs = s.longs := rfl
@[simp] theorem State.setSdt_mem (s : State) (t : Nat) : (s.setSdt t).mem = s.mem := rfl
@[simp] theorem State.setSdt_gates (s : State) (t : Nat) : (s.setSdt t).gates = s.gates := rfl
@[simp] theorem State.setSdt_cores (s : State) (t : Nat) : (s.setSdt t).cores = s.cores := rfl
@[simp] theorem State.setSdt_threads (s : State) (t : Nat) : (s.setSdt t).threads = s.threads := rfl
@[simp] theorem State.setSdt_movers (s : State) (t : Nat) : (s.setSdt t).movers = s.movers := rfl
@[simp] theorem State.setSdt_eth (s : State) (t : Nat) : (s.setSdt t).eth = s.eth := rfl
@[simp] theorem State.setSdt_alm (s : State) (t : Nat) : (s.setSdt t).alm = s.alm := rfl
@[simp] theorem State.setSdt_conj (s : State) (t : Nat) : (s.setSdt t).conj = s.conj := rfl
@[simp] theorem State.setSdt_cache (s : State) (t : Nat) : (s.setSdt t).cache = s.cache := rfl
@[simp] theorem State.setSdt_trans (s : State) (t : Nat) : (s.setSdt t).trans = s.trans := rfl
@[simp] theorem State.setSdt_upd (s : State) (t : Nat) : (s.setSdt t).upd = s.upd := rfl
@[simp] theorem State.setSdt_fab (s : State) (t : Nat) : (s.setSdt t).fab = s.fab := rfl
@[simp] theorem State.setSdt_host (s : State) (t : Nat) : (s.setSdt t).host = s.host := rfl
@[simp] theorem State.setSdt_prot (s : State) (t : Nat) : (s.setSdt t).prot = s.prot := rfl
@[simp] theorem State.setSdt_boot (s : State) (t : Nat) : (s.setSdt t).boot = s.boot := rfl
@[simp] theorem State.setSdt_fuse (s : State) (t : Nat) : (s.setSdt t).fuse = s.fuse := rfl
@[simp] theorem State.setSdt_power (s : State) (t : Nat) : (s.setSdt t).power = s.power := rfl
@[simp] theorem State.setSdt_clk (s : State) (t : Nat) : (s.setSdt t).clk = s.clk := rfl
@[simp] theorem State.setSdt_log (s : State) (t : Nat) : (s.setSdt t).log = s.log := rfl

@[simp] theorem State.record_pending (s : State) (code sev die : Nat) (src : Source) (step loc sub : Nat) (det : Bytes) : (s.record code sev die src step loc sub det).pending = s.pending := rfl
@[simp] theorem State.record_free (s : State) (code sev die : Nat) (src : Source) (step loc sub : Nat) (det : Bytes) : (s.record code sev die src step loc sub det).free = s.free := rfl
@[simp] theorem State.record_out (s : State) (code sev die : Nat) (src : Source) (step loc sub : Nat) (det : Bytes) : (s.record code sev die src step loc sub det).out = s.out := rfl
@[simp] theorem State.record_dict (s : State) (code sev die : Nat) (src : Source) (step loc sub : Nat) (det : Bytes) : (s.record code sev die src step loc sub det).dict = s.dict := rfl
@[simp] theorem State.record_longs (s : State) (code sev die : Nat) (src : Source) (step loc sub : Nat) (det : Bytes) : (s.record code sev die src step loc sub det).longs = s.longs := rfl
@[simp] theorem State.record_mem (s : State) (code sev die : Nat) (src : Source) (step loc sub : Nat) (det : Bytes) : (s.record code sev die src step loc sub det).mem = s.mem := rfl
@[simp] theorem State.record_gates (s : State) (code sev die : Nat) (src : Source) (step loc sub : Nat) (det : Bytes) : (s.record code sev die src step loc sub det).gates = s.gates := rfl
@[simp] theorem State.record_cores (s : State) (code sev die : Nat) (src : Source) (step loc sub : Nat) (det : Bytes) : (s.record code sev die src step loc sub det).cores = s.cores := rfl
@[simp] theorem State.record_threads (s : State) (code sev die : Nat) (src : Source) (step loc sub : Nat) (det : Bytes) : (s.record code sev die src step loc sub det).threads = s.threads := rfl
@[simp] theorem State.record_movers (s : State) (code sev die : Nat) (src : Source) (step loc sub : Nat) (det : Bytes) : (s.record code sev die src step loc sub det).movers = s.movers := rfl
@[simp] theorem State.record_eth (s : State) (code sev die : Nat) (src : Source) (step loc sub : Nat) (det : Bytes) : (s.record code sev die src step loc sub det).eth = s.eth := rfl
@[simp] theorem State.record_time (s : State) (code sev die : Nat) (src : Source) (step loc sub : Nat) (det : Bytes) : (s.record code sev die src step loc sub det).time = s.time := rfl
@[simp] theorem State.record_alm (s : State) (code sev die : Nat) (src : Source) (step loc sub : Nat) (det : Bytes) : (s.record code sev die src step loc sub det).alm = s.alm := rfl
@[simp] theorem State.record_conj (s : State) (code sev die : Nat) (src : Source) (step loc sub : Nat) (det : Bytes) : (s.record code sev die src step loc sub det).conj = s.conj := rfl
@[simp] theorem State.record_cache (s : State) (code sev die : Nat) (src : Source) (step loc sub : Nat) (det : Bytes) : (s.record code sev die src step loc sub det).cache = s.cache := rfl
@[simp] theorem State.record_trans (s : State) (code sev die : Nat) (src : Source) (step loc sub : Nat) (det : Bytes) : (s.record code sev die src step loc sub det).trans = s.trans := rfl
@[simp] theorem State.record_upd (s : State) (code sev die : Nat) (src : Source) (step loc sub : Nat) (det : Bytes) : (s.record code sev die src step loc sub det).upd = s.upd := rfl
@[simp] theorem State.record_fab (s : State) (code sev die : Nat) (src : Source) (step loc sub : Nat) (det : Bytes) : (s.record code sev die src step loc sub det).fab = s.fab := rfl
@[simp] theorem State.record_host (s : State) (code sev die : Nat) (src : Source) (step loc sub : Nat) (det : Bytes) : (s.record code sev die src step loc sub det).host = s.host := rfl
@[simp] theorem State.record_prot (s : State) (code sev die : Nat) (src : Source) (step loc sub : Nat) (det : Bytes) : (s.record code sev die src step loc sub det).prot = s.prot := rfl
@[simp] theorem State.record_boot (s : State) (code sev die : Nat) (src : Source) (step loc sub : Nat) (det : Bytes) : (s.record code sev die src step loc sub det).boot = s.boot := rfl
@[simp] theorem State.record_fuse (s : State) (code sev die : Nat) (src : Source) (step loc sub : Nat) (det : Bytes) : (s.record code sev die src step loc sub det).fuse = s.fuse := rfl
@[simp] theorem State.record_power (s : State) (code sev die : Nat) (src : Source) (step loc sub : Nat) (det : Bytes) : (s.record code sev die src step loc sub det).power = s.power := rfl
@[simp] theorem State.record_clk (s : State) (code sev die : Nat) (src : Source) (step loc sub : Nat) (det : Bytes) : (s.record code sev die src step loc sub det).clk = s.clk := rfl

@[simp] theorem State.event_pending (s : State) (code : Nat) (src : Source) (die loc : Nat) (det : Bytes) : (s.event code src die loc det).pending = s.pending := rfl
@[simp] theorem State.event_free (s : State) (code : Nat) (src : Source) (die loc : Nat) (det : Bytes) : (s.event code src die loc det).free = s.free := rfl
@[simp] theorem State.event_out (s : State) (code : Nat) (src : Source) (die loc : Nat) (det : Bytes) : (s.event code src die loc det).out = s.out := rfl
@[simp] theorem State.event_dict (s : State) (code : Nat) (src : Source) (die loc : Nat) (det : Bytes) : (s.event code src die loc det).dict = s.dict := rfl
@[simp] theorem State.event_longs (s : State) (code : Nat) (src : Source) (die loc : Nat) (det : Bytes) : (s.event code src die loc det).longs = s.longs := rfl
@[simp] theorem State.event_mem (s : State) (code : Nat) (src : Source) (die loc : Nat) (det : Bytes) : (s.event code src die loc det).mem = s.mem := rfl
@[simp] theorem State.event_gates (s : State) (code : Nat) (src : Source) (die loc : Nat) (det : Bytes) : (s.event code src die loc det).gates = s.gates := rfl
@[simp] theorem State.event_cores (s : State) (code : Nat) (src : Source) (die loc : Nat) (det : Bytes) : (s.event code src die loc det).cores = s.cores := rfl
@[simp] theorem State.event_threads (s : State) (code : Nat) (src : Source) (die loc : Nat) (det : Bytes) : (s.event code src die loc det).threads = s.threads := rfl
@[simp] theorem State.event_movers (s : State) (code : Nat) (src : Source) (die loc : Nat) (det : Bytes) : (s.event code src die loc det).movers = s.movers := rfl
@[simp] theorem State.event_eth (s : State) (code : Nat) (src : Source) (die loc : Nat) (det : Bytes) : (s.event code src die loc det).eth = s.eth := rfl
@[simp] theorem State.event_time (s : State) (code : Nat) (src : Source) (die loc : Nat) (det : Bytes) : (s.event code src die loc det).time = s.time := rfl
@[simp] theorem State.event_alm (s : State) (code : Nat) (src : Source) (die loc : Nat) (det : Bytes) : (s.event code src die loc det).alm = s.alm := rfl
@[simp] theorem State.event_conj (s : State) (code : Nat) (src : Source) (die loc : Nat) (det : Bytes) : (s.event code src die loc det).conj = s.conj := rfl
@[simp] theorem State.event_cache (s : State) (code : Nat) (src : Source) (die loc : Nat) (det : Bytes) : (s.event code src die loc det).cache = s.cache := rfl
@[simp] theorem State.event_trans (s : State) (code : Nat) (src : Source) (die loc : Nat) (det : Bytes) : (s.event code src die loc det).trans = s.trans := rfl
@[simp] theorem State.event_upd (s : State) (code : Nat) (src : Source) (die loc : Nat) (det : Bytes) : (s.event code src die loc det).upd = s.upd := rfl
@[simp] theorem State.event_fab (s : State) (code : Nat) (src : Source) (die loc : Nat) (det : Bytes) : (s.event code src die loc det).fab = s.fab := rfl
@[simp] theorem State.event_host (s : State) (code : Nat) (src : Source) (die loc : Nat) (det : Bytes) : (s.event code src die loc det).host = s.host := rfl
@[simp] theorem State.event_prot (s : State) (code : Nat) (src : Source) (die loc : Nat) (det : Bytes) : (s.event code src die loc det).prot = s.prot := rfl
@[simp] theorem State.event_boot (s : State) (code : Nat) (src : Source) (die loc : Nat) (det : Bytes) : (s.event code src die loc det).boot = s.boot := rfl
@[simp] theorem State.event_fuse (s : State) (code : Nat) (src : Source) (die loc : Nat) (det : Bytes) : (s.event code src die loc det).fuse = s.fuse := rfl
@[simp] theorem State.event_power (s : State) (code : Nat) (src : Source) (die loc : Nat) (det : Bytes) : (s.event code src die loc det).power = s.power := rfl
@[simp] theorem State.event_clk (s : State) (code : Nat) (src : Source) (die loc : Nat) (det : Bytes) : (s.event code src die loc det).clk = s.clk := rfl

@[simp] theorem State.fatal_pending (s : State) (code die : Nat) (src : Source) (step loc sub : Nat) (det : Bytes) : (s.fatal code die src step loc sub det).pending = s.pending := rfl
@[simp] theorem State.fatal_free (s : State) (code die : Nat) (src : Source) (step loc sub : Nat) (det : Bytes) : (s.fatal code die src step loc sub det).free = s.free := rfl
@[simp] theorem State.fatal_out (s : State) (code die : Nat) (src : Source) (step loc sub : Nat) (det : Bytes) : (s.fatal code die src step loc sub det).out = s.out := rfl
@[simp] theorem State.fatal_dict (s : State) (code die : Nat) (src : Source) (step loc sub : Nat) (det : Bytes) : (s.fatal code die src step loc sub det).dict = s.dict := rfl
@[simp] theorem State.fatal_longs (s : State) (code die : Nat) (src : Source) (step loc sub : Nat) (det : Bytes) : (s.fatal code die src step loc sub det).longs = s.longs := rfl
@[simp] theorem State.fatal_mem (s : State) (code die : Nat) (src : Source) (step loc sub : Nat) (det : Bytes) : (s.fatal code die src step loc sub det).mem = s.mem := rfl
@[simp] theorem State.fatal_gates (s : State) (code die : Nat) (src : Source) (step loc sub : Nat) (det : Bytes) : (s.fatal code die src step loc sub det).gates = s.gates := rfl
@[simp] theorem State.fatal_cores (s : State) (code die : Nat) (src : Source) (step loc sub : Nat) (det : Bytes) : (s.fatal code die src step loc sub det).cores = s.cores := rfl
@[simp] theorem State.fatal_threads (s : State) (code die : Nat) (src : Source) (step loc sub : Nat) (det : Bytes) : (s.fatal code die src step loc sub det).threads = s.threads := rfl
@[simp] theorem State.fatal_movers (s : State) (code die : Nat) (src : Source) (step loc sub : Nat) (det : Bytes) : (s.fatal code die src step loc sub det).movers = s.movers := rfl
@[simp] theorem State.fatal_eth (s : State) (code die : Nat) (src : Source) (step loc sub : Nat) (det : Bytes) : (s.fatal code die src step loc sub det).eth = s.eth := rfl
@[simp] theorem State.fatal_time (s : State) (code die : Nat) (src : Source) (step loc sub : Nat) (det : Bytes) : (s.fatal code die src step loc sub det).time = s.time := rfl
@[simp] theorem State.fatal_alm (s : State) (code die : Nat) (src : Source) (step loc sub : Nat) (det : Bytes) : (s.fatal code die src step loc sub det).alm = s.alm := rfl
@[simp] theorem State.fatal_cache (s : State) (code die : Nat) (src : Source) (step loc sub : Nat) (det : Bytes) : (s.fatal code die src step loc sub det).cache = s.cache := rfl
@[simp] theorem State.fatal_trans (s : State) (code die : Nat) (src : Source) (step loc sub : Nat) (det : Bytes) : (s.fatal code die src step loc sub det).trans = s.trans := rfl
@[simp] theorem State.fatal_upd (s : State) (code die : Nat) (src : Source) (step loc sub : Nat) (det : Bytes) : (s.fatal code die src step loc sub det).upd = s.upd := rfl
@[simp] theorem State.fatal_fab (s : State) (code die : Nat) (src : Source) (step loc sub : Nat) (det : Bytes) : (s.fatal code die src step loc sub det).fab = s.fab := rfl
@[simp] theorem State.fatal_host (s : State) (code die : Nat) (src : Source) (step loc sub : Nat) (det : Bytes) : (s.fatal code die src step loc sub det).host = s.host := rfl
@[simp] theorem State.fatal_prot (s : State) (code die : Nat) (src : Source) (step loc sub : Nat) (det : Bytes) : (s.fatal code die src step loc sub det).prot = s.prot := rfl
@[simp] theorem State.fatal_boot (s : State) (code die : Nat) (src : Source) (step loc sub : Nat) (det : Bytes) : (s.fatal code die src step loc sub det).boot = s.boot := rfl
@[simp] theorem State.fatal_fuse (s : State) (code die : Nat) (src : Source) (step loc sub : Nat) (det : Bytes) : (s.fatal code die src step loc sub det).fuse = s.fuse := rfl
@[simp] theorem State.fatal_power (s : State) (code die : Nat) (src : Source) (step loc sub : Nat) (det : Bytes) : (s.fatal code die src step loc sub det).power = s.power := rfl
@[simp] theorem State.fatal_clk (s : State) (code die : Nat) (src : Source) (step loc sub : Nat) (det : Bytes) : (s.fatal code die src step loc sub det).clk = s.clk := rfl

@[simp] theorem State.packageFatal_pending (s : State) (code die : Nat) (src : Source) (loc : Nat) (det : Bytes) : (s.packageFatal code die src loc det).pending = s.pending := rfl
@[simp] theorem State.packageFatal_free (s : State) (code die : Nat) (src : Source) (loc : Nat) (det : Bytes) : (s.packageFatal code die src loc det).free = s.free := rfl
@[simp] theorem State.packageFatal_out (s : State) (code die : Nat) (src : Source) (loc : Nat) (det : Bytes) : (s.packageFatal code die src loc det).out = s.out := rfl
@[simp] theorem State.packageFatal_dict (s : State) (code die : Nat) (src : Source) (loc : Nat) (det : Bytes) : (s.packageFatal code die src loc det).dict = s.dict := rfl
@[simp] theorem State.packageFatal_longs (s : State) (code die : Nat) (src : Source) (loc : Nat) (det : Bytes) : (s.packageFatal code die src loc det).longs = s.longs := rfl
@[simp] theorem State.packageFatal_mem (s : State) (code die : Nat) (src : Source) (loc : Nat) (det : Bytes) : (s.packageFatal code die src loc det).mem = s.mem := rfl
@[simp] theorem State.packageFatal_gates (s : State) (code die : Nat) (src : Source) (loc : Nat) (det : Bytes) : (s.packageFatal code die src loc det).gates = s.gates := rfl
@[simp] theorem State.packageFatal_cores (s : State) (code die : Nat) (src : Source) (loc : Nat) (det : Bytes) : (s.packageFatal code die src loc det).cores = s.cores := rfl
@[simp] theorem State.packageFatal_threads (s : State) (code die : Nat) (src : Source) (loc : Nat) (det : Bytes) : (s.packageFatal code die src loc det).threads = s.threads := rfl
@[simp] theorem State.packageFatal_movers (s : State) (code die : Nat) (src : Source) (loc : Nat) (det : Bytes) : (s.packageFatal code die src loc det).movers = s.movers := rfl
@[simp] theorem State.packageFatal_eth (s : State) (code die : Nat) (src : Source) (loc : Nat) (det : Bytes) : (s.packageFatal code die src loc det).eth = s.eth := rfl
@[simp] theorem State.packageFatal_time (s : State) (code die : Nat) (src : Source) (loc : Nat) (det : Bytes) : (s.packageFatal code die src loc det).time = s.time := rfl
@[simp] theorem State.packageFatal_alm (s : State) (code die : Nat) (src : Source) (loc : Nat) (det : Bytes) : (s.packageFatal code die src loc det).alm = s.alm := rfl
@[simp] theorem State.packageFatal_conj (s : State) (code die : Nat) (src : Source) (loc : Nat) (det : Bytes) : (s.packageFatal code die src loc det).conj = s.conj := rfl
@[simp] theorem State.packageFatal_cache (s : State) (code die : Nat) (src : Source) (loc : Nat) (det : Bytes) : (s.packageFatal code die src loc det).cache = s.cache := rfl
@[simp] theorem State.packageFatal_trans (s : State) (code die : Nat) (src : Source) (loc : Nat) (det : Bytes) : (s.packageFatal code die src loc det).trans = s.trans := rfl
@[simp] theorem State.packageFatal_upd (s : State) (code die : Nat) (src : Source) (loc : Nat) (det : Bytes) : (s.packageFatal code die src loc det).upd = s.upd := rfl
@[simp] theorem State.packageFatal_fab (s : State) (code die : Nat) (src : Source) (loc : Nat) (det : Bytes) : (s.packageFatal code die src loc det).fab = s.fab := rfl
@[simp] theorem State.packageFatal_host (s : State) (code die : Nat) (src : Source) (loc : Nat) (det : Bytes) : (s.packageFatal code die src loc det).host = s.host := rfl
@[simp] theorem State.packageFatal_prot (s : State) (code die : Nat) (src : Source) (loc : Nat) (det : Bytes) : (s.packageFatal code die src loc det).prot = s.prot := rfl
@[simp] theorem State.packageFatal_fuse (s : State) (code die : Nat) (src : Source) (loc : Nat) (det : Bytes) : (s.packageFatal code die src loc det).fuse = s.fuse := rfl
@[simp] theorem State.packageFatal_power (s : State) (code die : Nat) (src : Source) (loc : Nat) (det : Bytes) : (s.packageFatal code die src loc det).power = s.power := rfl
@[simp] theorem State.packageFatal_clk (s : State) (code die : Nat) (src : Source) (loc : Nat) (det : Bytes) : (s.packageFatal code die src loc det).clk = s.clk := rfl

@[simp] theorem State.requestSlip_pending (s : State) (n : Nat) : (s.requestSlip n).pending = s.pending := rfl
@[simp] theorem State.requestSlip_free (s : State) (n : Nat) : (s.requestSlip n).free = s.free := rfl
@[simp] theorem State.requestSlip_out (s : State) (n : Nat) : (s.requestSlip n).out = s.out := rfl
@[simp] theorem State.requestSlip_dict (s : State) (n : Nat) : (s.requestSlip n).dict = s.dict := rfl
@[simp] theorem State.requestSlip_longs (s : State) (n : Nat) : (s.requestSlip n).longs = s.longs := rfl
@[simp] theorem State.requestSlip_mem (s : State) (n : Nat) : (s.requestSlip n).mem = s.mem := rfl
@[simp] theorem State.requestSlip_gates (s : State) (n : Nat) : (s.requestSlip n).gates = s.gates := rfl
@[simp] theorem State.requestSlip_cores (s : State) (n : Nat) : (s.requestSlip n).cores = s.cores := rfl
@[simp] theorem State.requestSlip_threads (s : State) (n : Nat) : (s.requestSlip n).threads = s.threads := rfl
@[simp] theorem State.requestSlip_movers (s : State) (n : Nat) : (s.requestSlip n).movers = s.movers := rfl
@[simp] theorem State.requestSlip_eth (s : State) (n : Nat) : (s.requestSlip n).eth = s.eth := rfl
@[simp] theorem State.requestSlip_time (s : State) (n : Nat) : (s.requestSlip n).time = s.time := rfl
@[simp] theorem State.requestSlip_alm (s : State) (n : Nat) : (s.requestSlip n).alm = s.alm := rfl
@[simp] theorem State.requestSlip_cache (s : State) (n : Nat) : (s.requestSlip n).cache = s.cache := rfl
@[simp] theorem State.requestSlip_trans (s : State) (n : Nat) : (s.requestSlip n).trans = s.trans := rfl
@[simp] theorem State.requestSlip_upd (s : State) (n : Nat) : (s.requestSlip n).upd = s.upd := rfl
@[simp] theorem State.requestSlip_fab (s : State) (n : Nat) : (s.requestSlip n).fab = s.fab := rfl
@[simp] theorem State.requestSlip_host (s : State) (n : Nat) : (s.requestSlip n).host = s.host := rfl
@[simp] theorem State.requestSlip_prot (s : State) (n : Nat) : (s.requestSlip n).prot = s.prot := rfl
@[simp] theorem State.requestSlip_boot (s : State) (n : Nat) : (s.requestSlip n).boot = s.boot := rfl
@[simp] theorem State.requestSlip_fuse (s : State) (n : Nat) : (s.requestSlip n).fuse = s.fuse := rfl
@[simp] theorem State.requestSlip_power (s : State) (n : Nat) : (s.requestSlip n).power = s.power := rfl
@[simp] theorem State.requestSlip_clk (s : State) (n : Nat) : (s.requestSlip n).clk = s.clk := rfl
@[simp] theorem State.requestSlip_log (s : State) (n : Nat) : (s.requestSlip n).log = s.log := rfl

@[simp] theorem State.dadd_pending (s : State) (i j n : Nat) : (s.dadd i j n).pending = s.pending := by
  unfold State.dadd; split <;> rfl
@[simp] theorem State.dadd_free (s : State) (i j n : Nat) : (s.dadd i j n).free = s.free := by
  unfold State.dadd; split <;> rfl
@[simp] theorem State.dadd_out (s : State) (i j n : Nat) : (s.dadd i j n).out = s.out := by
  unfold State.dadd; split <;> rfl
@[simp] theorem State.dadd_longs (s : State) (i j n : Nat) : (s.dadd i j n).longs = s.longs := by
  unfold State.dadd; split <;> rfl
@[simp] theorem State.dadd_mem (s : State) (i j n : Nat) : (s.dadd i j n).mem = s.mem := by
  unfold State.dadd; split <;> rfl
@[simp] theorem State.dadd_gates (s : State) (i j n : Nat) : (s.dadd i j n).gates = s.gates := by
  unfold State.dadd; split <;> rfl
@[simp] theorem State.dadd_cores (s : State) (i j n : Nat) : (s.dadd i j n).cores = s.cores := by
  unfold State.dadd; split <;> rfl
@[simp] theorem State.dadd_threads (s : State) (i j n : Nat) : (s.dadd i j n).threads = s.threads := by
  unfold State.dadd; split <;> rfl
@[simp] theorem State.dadd_movers (s : State) (i j n : Nat) : (s.dadd i j n).movers = s.movers := by
  unfold State.dadd; split <;> rfl
@[simp] theorem State.dadd_eth (s : State) (i j n : Nat) : (s.dadd i j n).eth = s.eth := by
  unfold State.dadd; split <;> rfl
@[simp] theorem State.dadd_time (s : State) (i j n : Nat) : (s.dadd i j n).time = s.time := by
  unfold State.dadd; split <;> rfl
@[simp] theorem State.dadd_alm (s : State) (i j n : Nat) : (s.dadd i j n).alm = s.alm := by
  unfold State.dadd; split <;> rfl
@[simp] theorem State.dadd_conj (s : State) (i j n : Nat) : (s.dadd i j n).conj = s.conj := by
  unfold State.dadd; split <;> rfl
@[simp] theorem State.dadd_cache (s : State) (i j n : Nat) : (s.dadd i j n).cache = s.cache := by
  unfold State.dadd; split <;> rfl
@[simp] theorem State.dadd_trans (s : State) (i j n : Nat) : (s.dadd i j n).trans = s.trans := by
  unfold State.dadd; split <;> rfl
@[simp] theorem State.dadd_upd (s : State) (i j n : Nat) : (s.dadd i j n).upd = s.upd := by
  unfold State.dadd; split <;> rfl
@[simp] theorem State.dadd_fab (s : State) (i j n : Nat) : (s.dadd i j n).fab = s.fab := by
  unfold State.dadd; split <;> rfl
@[simp] theorem State.dadd_host (s : State) (i j n : Nat) : (s.dadd i j n).host = s.host := by
  unfold State.dadd; split <;> rfl
@[simp] theorem State.dadd_prot (s : State) (i j n : Nat) : (s.dadd i j n).prot = s.prot := by
  unfold State.dadd; split <;> rfl
@[simp] theorem State.dadd_boot (s : State) (i j n : Nat) : (s.dadd i j n).boot = s.boot := by
  unfold State.dadd; split <;> rfl
@[simp] theorem State.dadd_fuse (s : State) (i j n : Nat) : (s.dadd i j n).fuse = s.fuse := by
  unfold State.dadd; split <;> rfl
@[simp] theorem State.dadd_power (s : State) (i j n : Nat) : (s.dadd i j n).power = s.power := by
  unfold State.dadd; split <;> rfl
@[simp] theorem State.dadd_clk (s : State) (i j n : Nat) : (s.dadd i j n).clk = s.clk := by
  unfold State.dadd; split <;> rfl
@[simp] theorem State.dadd_log (s : State) (i j n : Nat) : (s.dadd i j n).log = s.log := by
  unfold State.dadd; split <;> rfl

@[simp] theorem State.setPort_pending (s : State) (p : Nat) (h : HostPort) : (s.setPort p h).pending = s.pending := by
  unfold State.setPort; split <;> rfl
@[simp] theorem State.setPort_free (s : State) (p : Nat) (h : HostPort) : (s.setPort p h).free = s.free := by
  unfold State.setPort; split <;> rfl
@[simp] theorem State.setPort_out (s : State) (p : Nat) (h : HostPort) : (s.setPort p h).out = s.out := by
  unfold State.setPort; split <;> rfl
@[simp] theorem State.setPort_dict (s : State) (p : Nat) (h : HostPort) : (s.setPort p h).dict = s.dict := by
  unfold State.setPort; split <;> rfl
@[simp] theorem State.setPort_longs (s : State) (p : Nat) (h : HostPort) : (s.setPort p h).longs = s.longs := by
  unfold State.setPort; split <;> rfl
@[simp] theorem State.setPort_mem (s : State) (p : Nat) (h : HostPort) : (s.setPort p h).mem = s.mem := by
  unfold State.setPort; split <;> rfl
@[simp] theorem State.setPort_gates (s : State) (p : Nat) (h : HostPort) : (s.setPort p h).gates = s.gates := by
  unfold State.setPort; split <;> rfl
@[simp] theorem State.setPort_cores (s : State) (p : Nat) (h : HostPort) : (s.setPort p h).cores = s.cores := by
  unfold State.setPort; split <;> rfl
@[simp] theorem State.setPort_threads (s : State) (p : Nat) (h : HostPort) : (s.setPort p h).threads = s.threads := by
  unfold State.setPort; split <;> rfl
@[simp] theorem State.setPort_movers (s : State) (p : Nat) (h : HostPort) : (s.setPort p h).movers = s.movers := by
  unfold State.setPort; split <;> rfl
@[simp] theorem State.setPort_eth (s : State) (p : Nat) (h : HostPort) : (s.setPort p h).eth = s.eth := by
  unfold State.setPort; split <;> rfl
@[simp] theorem State.setPort_time (s : State) (p : Nat) (h : HostPort) : (s.setPort p h).time = s.time := by
  unfold State.setPort; split <;> rfl
@[simp] theorem State.setPort_alm (s : State) (p : Nat) (h : HostPort) : (s.setPort p h).alm = s.alm := by
  unfold State.setPort; split <;> rfl
@[simp] theorem State.setPort_conj (s : State) (p : Nat) (h : HostPort) : (s.setPort p h).conj = s.conj := by
  unfold State.setPort; split <;> rfl
@[simp] theorem State.setPort_cache (s : State) (p : Nat) (h : HostPort) : (s.setPort p h).cache = s.cache := by
  unfold State.setPort; split <;> rfl
@[simp] theorem State.setPort_trans (s : State) (p : Nat) (h : HostPort) : (s.setPort p h).trans = s.trans := by
  unfold State.setPort; split <;> rfl
@[simp] theorem State.setPort_upd (s : State) (p : Nat) (h : HostPort) : (s.setPort p h).upd = s.upd := by
  unfold State.setPort; split <;> rfl
@[simp] theorem State.setPort_fab (s : State) (p : Nat) (h : HostPort) : (s.setPort p h).fab = s.fab := by
  unfold State.setPort; split <;> rfl
@[simp] theorem State.setPort_prot (s : State) (p : Nat) (h : HostPort) : (s.setPort p h).prot = s.prot := by
  unfold State.setPort; split <;> rfl
@[simp] theorem State.setPort_boot (s : State) (p : Nat) (h : HostPort) : (s.setPort p h).boot = s.boot := by
  unfold State.setPort; split <;> rfl
@[simp] theorem State.setPort_fuse (s : State) (p : Nat) (h : HostPort) : (s.setPort p h).fuse = s.fuse := by
  unfold State.setPort; split <;> rfl
@[simp] theorem State.setPort_power (s : State) (p : Nat) (h : HostPort) : (s.setPort p h).power = s.power := by
  unfold State.setPort; split <;> rfl
@[simp] theorem State.setPort_clk (s : State) (p : Nat) (h : HostPort) : (s.setPort p h).clk = s.clk := by
  unfold State.setPort; split <;> rfl
@[simp] theorem State.setPort_log (s : State) (p : Nat) (h : HostPort) : (s.setPort p h).log = s.log := by
  unfold State.setPort; split <;> rfl
@[simp] theorem State.takeId_pending (s : State) : s.takeId.2.pending = s.pending := rfl
@[simp] theorem State.takeId_free (s : State) : s.takeId.2.free = s.free := rfl
@[simp] theorem State.takeId_out (s : State) : s.takeId.2.out = s.out := rfl
@[simp] theorem State.takeId_dict (s : State) : s.takeId.2.dict = s.dict := rfl
@[simp] theorem State.takeId_longs (s : State) : s.takeId.2.longs = s.longs := rfl
@[simp] theorem State.takeId_mem (s : State) : s.takeId.2.mem = s.mem := rfl
@[simp] theorem State.takeId_gates (s : State) : s.takeId.2.gates = s.gates := rfl
@[simp] theorem State.takeId_cores (s : State) : s.takeId.2.cores = s.cores := rfl
@[simp] theorem State.takeId_threads (s : State) : s.takeId.2.threads = s.threads := rfl
@[simp] theorem State.takeId_movers (s : State) : s.takeId.2.movers = s.movers := rfl
@[simp] theorem State.takeId_eth (s : State) : s.takeId.2.eth = s.eth := rfl
@[simp] theorem State.takeId_time (s : State) : s.takeId.2.time = s.time := rfl
@[simp] theorem State.takeId_conj (s : State) : s.takeId.2.conj = s.conj := rfl
@[simp] theorem State.takeId_cache (s : State) : s.takeId.2.cache = s.cache := rfl
@[simp] theorem State.takeId_trans (s : State) : s.takeId.2.trans = s.trans := rfl
@[simp] theorem State.takeId_upd (s : State) : s.takeId.2.upd = s.upd := rfl
@[simp] theorem State.takeId_fab (s : State) : s.takeId.2.fab = s.fab := rfl
@[simp] theorem State.takeId_host (s : State) : s.takeId.2.host = s.host := rfl
@[simp] theorem State.takeId_prot (s : State) : s.takeId.2.prot = s.prot := rfl
@[simp] theorem State.takeId_boot (s : State) : s.takeId.2.boot = s.boot := rfl
@[simp] theorem State.takeId_fuse (s : State) : s.takeId.2.fuse = s.fuse := rfl
@[simp] theorem State.takeId_power (s : State) : s.takeId.2.power = s.power := rfl
@[simp] theorem State.takeId_clk (s : State) : s.takeId.2.clk = s.clk := rfl
@[simp] theorem State.takeId_log (s : State) : s.takeId.2.log = s.log := rfl
@[simp] theorem State.takeFree_pending (s : State) (w : Nat) : (s.takeFree w).2.pending = s.pending := rfl
@[simp] theorem State.takeFree_out (s : State) (w : Nat) : (s.takeFree w).2.out = s.out := rfl
@[simp] theorem State.takeFree_dict (s : State) (w : Nat) : (s.takeFree w).2.dict = s.dict := rfl
@[simp] theorem State.takeFree_longs (s : State) (w : Nat) : (s.takeFree w).2.longs = s.longs := rfl
@[simp] theorem State.takeFree_mem (s : State) (w : Nat) : (s.takeFree w).2.mem = s.mem := rfl
@[simp] theorem State.takeFree_gates (s : State) (w : Nat) : (s.takeFree w).2.gates = s.gates := rfl
@[simp] theorem State.takeFree_cores (s : State) (w : Nat) : (s.takeFree w).2.cores = s.cores := rfl
@[simp] theorem State.takeFree_threads (s : State) (w : Nat) : (s.takeFree w).2.threads = s.threads := rfl
@[simp] theorem State.takeFree_movers (s : State) (w : Nat) : (s.takeFree w).2.movers = s.movers := rfl
@[simp] theorem State.takeFree_eth (s : State) (w : Nat) : (s.takeFree w).2.eth = s.eth := rfl
@[simp] theorem State.takeFree_time (s : State) (w : Nat) : (s.takeFree w).2.time = s.time := rfl
@[simp] theorem State.takeFree_alm (s : State) (w : Nat) : (s.takeFree w).2.alm = s.alm := rfl
@[simp] theorem State.takeFree_conj (s : State) (w : Nat) : (s.takeFree w).2.conj = s.conj := rfl
@[simp] theorem State.takeFree_cache (s : State) (w : Nat) : (s.takeFree w).2.cache = s.cache := rfl
@[simp] theorem State.takeFree_trans (s : State) (w : Nat) : (s.takeFree w).2.trans = s.trans := rfl
@[simp] theorem State.takeFree_upd (s : State) (w : Nat) : (s.takeFree w).2.upd = s.upd := rfl
@[simp] theorem State.takeFree_fab (s : State) (w : Nat) : (s.takeFree w).2.fab = s.fab := rfl
@[simp] theorem State.takeFree_host (s : State) (w : Nat) : (s.takeFree w).2.host = s.host := rfl
@[simp] theorem State.takeFree_prot (s : State) (w : Nat) : (s.takeFree w).2.prot = s.prot := rfl
@[simp] theorem State.takeFree_boot (s : State) (w : Nat) : (s.takeFree w).2.boot = s.boot := rfl
@[simp] theorem State.takeFree_fuse (s : State) (w : Nat) : (s.takeFree w).2.fuse = s.fuse := rfl
@[simp] theorem State.takeFree_power (s : State) (w : Nat) : (s.takeFree w).2.power = s.power := rfl
@[simp] theorem State.takeFree_clk (s : State) (w : Nat) : (s.takeFree w).2.clk = s.clk := rfl
@[simp] theorem State.takeFree_log (s : State) (w : Nat) : (s.takeFree w).2.log = s.log := rfl

/-- Reading a unit back after replacing it. -/
@[simp] theorem State.core_setCore (s : State) (g : Nat) (c : Core) : (s.setCore g c).core g = c := by simp [State.core, State.setCore]
@[simp] theorem State.thread_setThread (s : State) (g t : Nat) (th : Thread) : (s.setThread g t th).thread g t = th := by simp [State.thread, State.setThread]
@[simp] theorem State.mover_setMover (s : State) (d m : Nat) (v : Mover) : (s.setMover d m v).mover d m = v := by simp [State.mover, State.setMover]
@[simp] theorem State.link_setLink (s : State) (l : Nat) (k : Link) : (s.setLink l k).link l = k := by simp [State.link, State.setLink]
@[simp] theorem State.ethPort_setEthPort (s : State) (l : Nat) (e : EthPort) : (s.setEthPort l e).ethPort l = e := by simp [State.ethPort, State.setEthPort]

/-- Replacing one unit leaves the others alone. -/
theorem State.core_setCore_other (s : State) (g h : Nat) (c : Core) (n : h ≠ g) : (s.setCore g c).core h = s.core h := tget_tset_other _ _ _ _ _ n
theorem State.thread_setThread_other (s : State) (g t g' t' : Nat) (th : Thread) (n : threadKey g' t' ≠ threadKey g t) :
    (s.setThread g t th).thread g' t' = s.thread g' t' := tget_tset_other _ _ _ _ _ n
theorem State.link_setLink_other (s : State) (l m : Nat) (k : Link) (n : m ≠ l) : (s.setLink l k).link m = s.link m := tget_tset_other _ _ _ _ _ n

/-- A dictionary value read back after it was set. -/
@[simp] theorem State.dget_dset (s : State) (i j v : Nat) : (s.dset i j v).dget i j = v := by simp [State.dget, State.dset, tfind_tset_same]
theorem State.dget_dset_other (s : State) (i j i' j' v : Nat) (n : entryKey i' j' ≠ entryKey i j) : (s.dset i j v).dget i' j' = s.dget i' j' := by
  simp [State.dget, State.dset, tfind_tset_other _ _ _ _ n]
theorem State.dget_dict (s t : State) (i j : Nat) (h : t.dict = s.dict) : t.dget i j = s.dget i j := by simp [State.dget, h]

/-- Every die's counter, and the leading die's, after a value is given to all. -/
@[simp] theorem State.sdt_setSdt (s : State) (t : Nat) : (s.setSdt t).sdt = t % 2 ^ 64 := by simp [State.sdt, State.setSdt]

/-- A conditional meaning answers the one state or the other. -/
theorem when_next (c : Bool) (s t u : State) : when c s t = .next u ↔ (if c then t else s) = u := by
  simp [when]
@[simp] theorem when_true (s t : State) : when true s t = .next t := rfl
@[simp] theorem when_false (s t : State) : when false s t = .next s := rfl

end Sys2Proof.Machine
end

