-- ==== Sys2Proof/Laws/Issue.lean ====
section
/-! SUPPORT. What the issue of an instruction does, and what the named operations on threads leave alone. -/
namespace Sys2Proof.Machine

theorem State.imageOf_of (s u : State) (g t : Nat) (hc : u.cores = s.cores) (ha : (u.thread g t).asid = (s.thread g t).asid)
    (hv : (u.thread g t).imgVa = (s.thread g t).imgVa) (hx : (u.thread g t).imgCrc = (s.thread g t).imgCrc) : u.imageOf g t = s.imageOf g t := by
  simp only [State.imageOf, State.core, hc, ha, hv, hx]

/-- A thread that stays within its image passes the check of its PC. -/
theorem State.checkPc_next (s u : State) (g t : Nat) (hr : s.roomAfter g t = true) (hi : u.imageOf g t = s.imageOf g t)
    (hp : (u.thread g t).pc = (s.thread g t).pc + 8) : u.checkPc g t = u := by
  unfold State.roomAfter at hr
  unfold State.checkPc
  rw [hi]
  cases hs : s.imageOf g t with
  | none => rfl
  | some i =>
    rw [hs] at hr
    have hl : (s.thread g t).pc + 16 ≤ i.code.length := by simpa using hr
    have : ¬ ((u.thread g t).status = .running ∧ i.code.length < (u.thread g t).pc + 8) := by rw [hp]; omega
    simp only [this, if_false]

/-- Where no element meets the condition, nothing is changed. -/
theorem mapIf_none {α : Type} (p : α → Bool) (f : α → α) (l : List α) (h : l.any p = false) : mapIf p f l = l := by
  induction l with
  | nil => rfl
  | cons a l ih =>
    simp only [List.any_cons, Bool.or_eq_false_iff] at h
    have := ih h.2
    simp_all [mapIf]

/-- An instruction whose registers await no load overwrites none. -/
theorem State.overwrite_none (s : State) (g t : Nat) (keys : List Nat) (h : s.awaits g t keys = false) : s.overwrite g t keys = s := by
  unfold State.overwrite
  simp only
  rw [mapIf_none]
  simp only [State.awaits, State.requestsOf, List.any_filter] at h
  rw [← h]
  congr 1
  funext r
  simp [Bool.and_assoc]

theorem State.awaits_append (s : State) (g t : Nat) (a b : List Nat) : s.awaits g t (a ++ b) = (s.awaits g t a || s.awaits g t b) := by
  simp only [State.awaits]
  rw [Bool.eq_iff_iff]
  simp only [List.any_eq_true, Bool.or_eq_true, Bool.and_eq_true, decide_eq_true_eq, List.mem_append]
  constructor
  · rintro ⟨r, hr, hk, h | h⟩
    · exact .inl ⟨r, hr, hk, h⟩
    · exact .inr ⟨r, hr, hk, h⟩
  · rintro (⟨r, hr, hk, h⟩ | ⟨r, hr, hk, h⟩)
    · exact ⟨r, hr, hk, .inl h⟩
    · exact ⟨r, hr, hk, .inr h⟩

/-- An instruction that executes: its effect, and the check of the PC after it. -/
theorem State.issueInstr_issues (s : State) (g t : Nat) (mine bad : Nat → Bool) (regs : Nat → Regs) (effect : State → Thread → Nat → State)
    (h : s.issues g t mine regs = true) (hb : bad (s.word g t) = false) :
    s.issueInstr g t mine bad regs effect = .next ((effect s (s.thread g t) (s.word g t)).checkPc g t) := by
  simp only [State.issues, Bool.and_eq_true, Bool.not_eq_true', State.awaits_append, Bool.or_eq_false_iff] at h
  obtain ⟨⟨⟨⟨⟨⟨⟨h1, h7⟩, h2⟩, h3⟩, h4⟩, h5⟩, h6, h8⟩, _⟩ := h
  simp [State.issueInstr, h1, h2, h3, h4, h5, h6, h7, hb, State.overwrite_none _ _ _ _ h8]

theorem State.issues_room (s : State) (g t : Nat) (mine : Nat → Bool) (regs : Nat → Regs) (h : s.issues g t mine regs = true) : s.roomAfter g t = true := by
  simp only [State.issues, Bool.and_eq_true] at h; exact h.2

theorem State.issues_mine (s : State) (g t : Nat) (mine : Nat → Bool) (regs : Nat → Regs) (h : s.issues g t mine regs = true) : mine (s.word g t) = true := by
  simp only [State.issues, Bool.and_eq_true] at h; exact h.1.1.1.1.2

@[simp] theorem Thread.advance_pc (th : Thread) : th.advance.pc = th.pc + 8 := rfl
@[simp] theorem Thread.advance_asid (th : Thread) : th.advance.asid = th.asid := rfl
@[simp] theorem Thread.advance_imgVa (th : Thread) : th.advance.imgVa = th.imgVa := rfl
@[simp] theorem Thread.advance_imgCrc (th : Thread) : th.advance.imgCrc = th.imgCrc := rfl
@[simp] theorem Thread.setV_pc (th : Thread) (i v : Nat) : (th.setV i v).pc = th.pc := rfl
@[simp] theorem Thread.setV_asid (th : Thread) (i v : Nat) : (th.setV i v).asid = th.asid := rfl
@[simp] theorem Thread.setV_imgVa (th : Thread) (i v : Nat) : (th.setV i v).imgVa = th.imgVa := rfl
@[simp] theorem Thread.setV_imgCrc (th : Thread) (i v : Nat) : (th.setV i v).imgCrc = th.imgCrc := rfl
@[simp] theorem Thread.setS_pc (th : Thread) (i v : Nat) : (th.setS i v).pc = th.pc := by unfold Thread.setS; split <;> rfl
@[simp] theorem Thread.setS_asid (th : Thread) (i v : Nat) : (th.setS i v).asid = th.asid := by unfold Thread.setS; split <;> rfl
@[simp] theorem Thread.setS_imgVa (th : Thread) (i v : Nat) : (th.setS i v).imgVa = th.imgVa := by unfold Thread.setS; split <;> rfl
@[simp] theorem Thread.setS_imgCrc (th : Thread) (i v : Nat) : (th.setS i v).imgCrc = th.imgCrc := by unfold Thread.setS; split <;> rfl
@[simp] theorem Thread.setP_pc (th : Thread) (i : Nat) (b : Bool) : (th.setP i b).pc = th.pc := by unfold Thread.setP; split <;> rfl
@[simp] theorem Thread.setP_asid (th : Thread) (i : Nat) (b : Bool) : (th.setP i b).asid = th.asid := by unfold Thread.setP; split <;> rfl
@[simp] theorem Thread.setP_imgVa (th : Thread) (i : Nat) (b : Bool) : (th.setP i b).imgVa = th.imgVa := by unfold Thread.setP; split <;> rfl
@[simp] theorem Thread.setP_imgCrc (th : Thread) (i : Nat) (b : Bool) : (th.setP i b).imgCrc = th.imgCrc := by unfold Thread.setP; split <;> rfl

/-- The check of the PC does nothing to a state whose thread was replaced by one that goes on within its image. -/
theorem State.checkPc_setThread (s v : State) (g t : Nat) (th : Thread) (hr : s.roomAfter g t = true) (hc : v.cores = s.cores)
    (hp : th.pc = (s.thread g t).pc + 8) (ha : th.asid = (s.thread g t).asid) (hv : th.imgVa = (s.thread g t).imgVa)
    (hx : th.imgCrc = (s.thread g t).imgCrc) : (v.setThread g t th).checkPc g t = v.setThread g t th := by
  apply State.checkPc_next s _ g t hr
  · exact State.imageOf_of _ _ _ _ (by simp [hc]) (by simp [ha]) (by simp [hv]) (by simp [hx])
  · simp [hp]

/-- The same after a counter of the dictionary was raised. -/
theorem State.checkPc_setThread_dadd (s v : State) (g t : Nat) (th : Thread) (i j n : Nat) (hr : s.roomAfter g t = true) (hc : v.cores = s.cores)
    (hp : th.pc = (s.thread g t).pc + 8) (ha : th.asid = (s.thread g t).asid) (hv : th.imgVa = (s.thread g t).imgVa)
    (hx : th.imgCrc = (s.thread g t).imgCrc) : ((v.setThread g t th).dadd i j n).checkPc g t = (v.setThread g t th).dadd i j n := by
  have h2 : ((v.setThread g t th).dadd i j n).thread g t = th := by
    have : ((v.setThread g t th).dadd i j n).threads = (v.setThread g t th).threads := State.dadd_threads _ _ _ _
    simp only [State.thread, this]
    exact State.thread_setThread _ _ _ _
  apply State.checkPc_next s _ g t hr
  · exact State.imageOf_of _ _ _ _ (by simp [hc]) (by simp [h2, ha]) (by simp [h2, hv]) (by simp [h2, hx])
  · simp [h2, hp]

/-- No memory byte changes when neither memory, placement nor the hidden writes do. -/
theorem State.byte_of (s u : State) (a : Nat) (hm : u.mem = s.mem) (hl : u.longs = s.longs) (hc : u.cache = s.cache) : u.byte a = s.byte a := by
  simp [State.byte, State.place, State.packageWide, State.lget, hm, hl, hc]

end Sys2Proof.Machine
end

