-- ==== Sys2Proof/Tests/Slice0.lean ====
section
/-! SUPPORT. Tests: operands that lack their form, witnesses that the hypotheses of every obligation are met together, and single commands on small states. Expected values are worked by hand from the rules of spec/ that the names and comments cite. -/
namespace Sys2Proof.Tests
open Sys2Proof Sys2Proof.Machine
set_option Elab.async false

/-! ### Small states -/

/-- A package that is READY, its counters at the start of working slot 3, time locked, both host ports in L0, its memories initialised. -/
def ready : State := { State.reset with
  boot := { mode := .ready, inReset := false, phase := 11, running := 0, memLost := false }
  time := { sdt := PerDie.all 6144, counting := true, lock := .locked }
  power := { railsUp := true }
  clk := { pll := PerDie.all 2 }
  host := { p0 := { l0 := true, busMaster := true }, p1 := { l0 := true } }
  mem := ⟨[], none, 1, []⟩ }

/-- Thread t of core 0 running an image of the word and of one more. -/
def runs (t w : Nat) : State := { ready with
  cores := [(0, { images := [⟨0, 0, 0, [], natLe 8 w ++ natLe 8 0⟩] })]
  threads := [(t, { status := .running })] }

/-- A word by CLASS, OP and what stands below bit 48 (R82). -/
def opWord (cls op rest : Nat) : Nat := cls * 2 ^ 60 + op * 2 ^ 52 + rest
/-- An F-V word: VD, VA, VB, VC, TYPE and what stands below bit 28 (R82). -/
def vecWord (cls op vd va vb vc ty rest : Nat) : Nat :=
  opWord cls op (vd * 2 ^ 44 + va * 2 ^ 40 + vb * 2 ^ 36 + vc * 2 ^ 32 + ty * 2 ^ 28 + rest)

/-! ### Operands that lack their form -/

theorem test_wellFormed_park : (Instr.parkRelease .unsigned 0x100000000).wellFormed = false ∧ (Instr.parkRelease .unsigned 5).wellFormed = true ∧
    (Instr.parkAbandon .unsigned 5).wellFormed = false ∧ (Instr.parkAbandon .unsigned 0x100000005).wellFormed = true := by decide +kernel
theorem test_wellFormed_flits : (Instr.flitReceived 0 ⟨0, 0⟩).wellFormed = false ∧ (Instr.flitReceived 0 ⟨1#1600 <<< 1598, 0⟩).wellFormed = true ∧
    (Instr.creditUpdate 0 (1#1600 <<< 1480)).wellFormed = false ∧ (Instr.creditUpdate 0 0).wellFormed = true ∧
    (Instr.nak 0 0).wellFormed = false ∧ (Instr.nak 0 (1#1600 <<< 1480)).wellFormed = true ∧
    (Instr.identity 0 0).wellFormed = false ∧ (Instr.identity 0 (1#1600 <<< 1472)).wellFormed = true := by decide +kernel
theorem test_wellFormed_bar2 : (Instr.bar2Read 0 4095 2).wellFormed = false ∧ (Instr.bar2Read 0 4095 1).wellFormed = true ∧
    (Instr.bar2Write 0 0 []).wellFormed = false ∧ (Instr.bar2Write 0 0 (List.replicate 257 0)).wellFormed = false ∧
    (Instr.bar2Write 0 4095 [0, 0]).wellFormed = false ∧ (Instr.bar2Write 0 4095 [0]).wellFormed = true := by decide +kernel
/-- 62 bytes of Ethernet, IPv6 and UDP headers before a message of type t without a body (R401). -/
def dpBytes (t : Byte) : Bytes := List.replicate 62 0 ++ [1, t] ++ List.replicate 30 0
theorem test_wellFormed_dp : (Instr.dpRead (dpBytes 2) true true).wellFormed = false ∧ (Instr.dpRead (dpBytes 1) true true).wellFormed = true ∧
    (Instr.dpWrite (dpBytes 1) true true).wellFormed = false ∧ (Instr.dpWrite (dpBytes 2) true true).wellFormed = true ∧
    (Instr.sessionOpen (dpBytes 1) true true).wellFormed = false ∧ (Instr.sessionOpen (dpBytes 0x10) true true).wellFormed = true ∧
    (Instr.sessionClose (dpBytes 1) true true).wellFormed = false ∧ (Instr.sessionClose (dpBytes 0x11) true true).wellFormed = true ∧
    (Instr.discover (dpBytes 1) true true).wellFormed = false ∧ (Instr.discover (dpBytes 0x20) true true).wellFormed = true ∧
    (Instr.dpRead [1, 1] true true).wellFormed = true := by decide +kernel
theorem test_wellFormed_bar0 : (Instr.registerWrite (.bar0 0) 0x1000 0 (.bytes 0 [])).wellFormed = false ∧ (Instr.registerWrite (.bar0 0) 0x0FFF 255 (.bytes 4 [0, 0, 0, 0])).wellFormed = true ∧
    (Instr.registerWrite .unsigned 0x1000 0 (.bytes 0 [0])).wellFormed = false ∧ (Instr.registerWrite .unsigned 0x1000 0 (.whole 0)).wellFormed = true ∧
    barOffset 0x0FFF 255 4 = 0x7FFFFFC ∧ barOffset 0x1105 2 0 = slotOffset 0x1105 2 ∧
    (Instr.trackingPeakRead .i3c (.bytes 0 4)).wellFormed = false ∧ (Instr.trackingPeakRead (.bar0 1) (.bytes 4095 2)).wellFormed = false ∧
    (Instr.trackingPeakRead (.bar0 1) (.bytes 4092 4)).wellFormed = true := by decide +kernel
theorem test_wellFormed_i3c : (Instr.i3cDictionaryRead ([0x7E, 0, 0, 2] ++ List.replicate 9 0)).wellFormed = false ∧
    (Instr.i3cDictionaryRead ([0x7E, 0, 0, 1] ++ List.replicate 9 0)).wellFormed = true ∧
    (Instr.i3cProvisioningWrite ([0x7E, 0, 0, 2] ++ List.replicate 42 0)).wellFormed = false ∧
    (Instr.i3cProvisioningWrite ([0x7E, 0, 0, 2] ++ List.replicate 43 0)).wellFormed = true := by decide +kernel
theorem test_wellFormed_mctp : (Instr.setEndpointId [0, 0x80, 2]).wellFormed = false ∧ (Instr.setEndpointId [0, 0x80, 1]).wellFormed = true ∧
    (Instr.getEndpointId [0, 0, 2]).wellFormed = false ∧ (Instr.getEndpointId [0, 0x80, 2]).wellFormed = true ∧
    (Instr.getMctpVersionSupport [0, 0x80]).wellFormed = false ∧ (Instr.getMctpVersionSupport [0, 0x80, 4]).wellFormed = true ∧
    (Instr.getMessageTypeSupport [5, 0x80, 5]).wellFormed = false ∧ (Instr.getMessageTypeSupport [0, 0x80, 5]).wellFormed = true := by decide +kernel
theorem test_wellFormed_spdm : (Instr.getVersion 0 [0x10, 0x84, 0]).wellFormed = false ∧ (Instr.getVersion 0 [0x10, 0x84, 0, 0]).wellFormed = true ∧
    (Instr.getCapabilities 0 [0x12, 0xE1, 0, 0]).wellFormed = false ∧ (Instr.negotiateAlgorithms 0 [0x12, 0xE3, 0, 0]).wellFormed = false ∧
    (Instr.getDigests 0 [0x12, 0x82, 0, 0]).wellFormed = false ∧ (Instr.getCertificate 0 [0x12, 0x82, 0, 0]).wellFormed = false ∧
    (Instr.challenge 0 [0x12, 0x83, 0, 0]).wellFormed = false ∧ (Instr.getMeasurements 0 [0x12, 0xE0, 1, 0]).wellFormed = false ∧
    (Instr.getMeasurements 0 [0x12, 0xE0, 0, 0]).wellFormed = true ∧ (Instr.spdmUnsupportedRequest 0 [0x12, 0x84, 0, 0]).wellFormed = false ∧
    (Instr.spdmUnsupportedRequest 0 [0x12, 0xE4, 0, 0]).wellFormed = true := by decide +kernel
theorem test_wellFormed_rest : (Instr.senseOpen 3 0 0 0).wellFormed = false ∧ (Instr.senseOpen 2 0 0 0).wellFormed = true ∧
    (Instr.coolantAverage [1] 0 0 0).wellFormed = false ∧ (Instr.coolantAverage [1, 2, 3, 4] 0 0 0).wellFormed = true ∧
    (Instr.canaryMeasure []).wellFormed = false ∧ (Instr.canaryMeasure [1, 2, 3, 4]).wellFormed = true ∧
    (Instr.coreTestDone [] 1).wellFormed = false ∧ (Instr.coreTestDone [0] 6).wellFormed = false ∧ (Instr.coreTestDone [0] 1).wellFormed = true ∧
    (Instr.configurationWrite 0 true false 29).wellFormed = false ∧ (Instr.configurationWrite 0 true false 30).wellFormed = true := by decide +kernel
/-- IllFormedRefused: a command without its form and one with it, on any state. -/
theorem test_illFormed_witness : (Instr.canaryMeasure []).wellFormed = false ∧ exec (.canaryMeasure []) ready = .refused .malformedCommand ∧
    (Instr.interfaceCalibration).wellFormed = true ∧ (∃ t, exec .interfaceCalibration ready = .next t) := ⟨rfl, rfl, rfl, _, rfl⟩

/-! ### Witnesses: threads -/

/-- ScalarResult: ADD s1 = s2 + s3 gives a value; SHL by 64 has none (R84). -/
theorem test_ScalarResult_witness :
    (runs 0 (opWord 0 1 (1 * 2 ^ 43 + 2 * 2 ^ 38 + 3 * 2 ^ 33))).issues 0 0 (fun w => wClass w == 0) (scalarRegs (some .add) .reg) = true ∧
    field ((runs 0 (opWord 0 1 (1 * 2 ^ 43 + 2 * 2 ^ 38 + 3 * 2 ^ 33))).word 0 0) 0 20 = 0 ∧
    scalarSpec .add 5 7 = some (.inl 12) ∧ scalarSpec .shl 1 64 = none ∧ scalarSpec .cmpEq 3 3 = some (.inr true) := by decide +kernel
/-- BranchGoesToTarget: a branch to the next word, within the image. -/
theorem test_Branch_witness : (runs 0 (opWord 1 1 1)).issues 0 0 (fun w => wClass w == 1) (fun w => ⟨[wDst w, wSrcA w], []⟩) = true ∧
    ((runs 0 (opWord 1 1 1)).imageOf 0 0).isSome = true ∧
    branchSpec .eq 0 0 = true ∧ branchSpec .ne 0 0 = false ∧ (0 : Int) ≤ (0 : Int) + 8 * wOffset (opWord 1 1 1) ∧ (0 : Int) + 8 * wOffset (opWord 1 1 1) + 8 ≤ 16 := by decide +kernel
/-- ScratchAccess at offset 0 and at the last 8 bytes; ScratchAddressFault just past them and misaligned (R83). -/
theorem test_Scratch_witness :
    (runs 0 (opWord 2 1 (3 * 2 ^ 35))).issues 0 0 (fun w => wClass w == 2) (fun w => ⟨[dataKey w, wSrcA w], []⟩) = true ∧
    scratchOk (effAddr ((runs 0 (opWord 2 1 (3 * 2 ^ 35))).thread 0 0) ((runs 0 (opWord 2 1 (3 * 2 ^ 35))).word 0 0)) 8 = true ∧
    scratchOk (effAddr ((runs 0 (opWord 2 1 (3 * 2 ^ 35 + 0x2FFFF8))).thread 0 0) (opWord 2 1 (3 * 2 ^ 35 + 0x2FFFF8))) 8 = true ∧
    0x300000 < effAddr ((runs 0 (opWord 2 1 (3 * 2 ^ 35 + 0x2FFFFC))).thread 0 0) (opWord 2 1 (3 * 2 ^ 35 + 0x2FFFFC)) + sizeBytes 3 ∧
    ¬ 8 ∣ effAddr ((runs 0 (opWord 2 1 (3 * 2 ^ 35 + 4))).thread 0 0) (opWord 2 1 (3 * 2 ^ 35 + 4)) ∧
    (runs 0 (opWord 2 1 (3 * 2 ^ 35 + 4))).issues 0 0 (fun w => wClass w == 2) (fun w => ⟨[dataKey w, wSrcA w], []⟩) = true ∧
    (runs 0 (opWord 2 1 (3 * 2 ^ 35 + 0x2FFFFC))).issues 0 0 (fun w => wClass w == 2) (fun w => ⟨[dataKey w, wSrcA w], []⟩) = true := by decide +kernel
/-- Thread 0 of core 0 as a launch of the active Almanac runs it. -/
def launched (w : Nat) : State := { runs 0 w with alm := { actions := [⟨0, 0, 0, 0, 0, ⟨0, 1, 0, 0, 0, 1, 1, 0, 0, 0, 0, 0, false⟩, 1, false⟩] } }
/-- SyncOperations: each word issues; GINC raises a gate that neither votes. -/
theorem test_Sync_witness :
    (runs 0 (opWord 9 1 1)).issues 0 0 (isOp 9 1) (fun w => ⟨[wSrcA w], []⟩) = true ∧ (runs 0 (opWord 9 1 1)).storesOpen 0 0 = false ∧
    (runs 0 (opWord 9 2 0)).issues 0 0 (isOp 9 2) (fun w => ⟨[wSrcA w], []⟩) = true ∧
    ((runs 0 (opWord 9 2 0)).counter 0 0 - BitVec.ofNat 32 0).toNat < 2 ^ 31 ∧
    (runs 0 (opWord 9 3 0)).issues 0 0 (isOp 9 3) (fun w => ⟨[], [wDst w]⟩) = true ∧
    (launched (opWord 9 5 7)).issues 0 0 (isOp 9 5) (fun _ => ⟨[], []⟩) = true ∧ (launched (opWord 9 5 7)).storesOpen 0 0 = false ∧ (launched (opWord 9 5 7)).sameAlmanac 0 = true ∧ (launched (opWord 9 5 7)).dget 0x2302 4 ≠ 7 ∧ (launched (opWord 9 5 7)).dget 0x2001 0 ≠ 7 ∧
    (runs 0 (opWord 9 6 7)).issues 0 0 (isOp 9 6) (fun w => ⟨[], [wDst w]⟩) = true ∧ (runs 0 (opWord 9 7 0)).issues 0 0 (isOp 9 7) (fun w => ⟨[], [wDst w]⟩) = true ∧
    (runs 0 (opWord 9 8 0)).issues 0 0 (isOp 9 8) (fun w => ⟨[], [wDst w]⟩) = true ∧ (runs 0 (opWord 9 9 6144)).issues 0 0 (isOp 9 9) (fun w => ⟨[wSrcA w], []⟩) = true ∧
    (0 + (BitVec.ofNat 32 6144).signExtend 64 : BitVec 64).toNat ≤ (pget (runs 0 0).time.sdt 0).toNat := by decide +kernel
/-- Thread 4 of core 0 with its page of Slate in the core's cache, readable and writable. -/
def mapped (w : Nat) : State := { runs 4 w with
  cores := [(0, { images := [⟨0, 0, 0, [], natLe 8 w ++ natLe 8 0⟩], tlb := [⟨0, 0, 65536, BitVec.ofNat 64 (2 ^ 63 + 2 ^ 61)⟩] })] }
/-- A request of thread 4 of core 0 for 8 bytes of an SRAM window. -/
def request (kind : ReqKind) (done : Bool) : Req :=
  ⟨7, .thread 0 4, 0, kind, .here (scratchLpa 0 0), 8, [1, 0, 0, 0, 0, 0, 0, 0x80], done, false, false, false, none, 3, true, 0, 8, none, 0, 0, 0, (0, 0, 0)⟩
def withReq (r : Req) : State := { ready with trans := { reqs := [r] } }
/-- A launch whose image core 0 fetches. -/
def fetching : State := { ready with
  cores := [(0, { fetches := [9] })]
  alm := { actions := [⟨9, 0, 0, 0, 0, ⟨0, 1, 0, 0, 0, 1, 1, 0, 1, 0, 0, 0, false⟩, 1, false⟩] } }

/-- ThreadWaitsEnd: BARRIER alone on its core, END, FENCE, MEMORY accesses that translate, an image's arrival and responses. -/
theorem test_ThreadWaits_witness :
    (runs 0 (opWord 9 4 0)).issues 0 0 (isOp 9 4) (fun _ => ⟨[], []⟩) = true ∧ (runs 0 (opWord 9 4 0)).storesOpen 0 0 = false ∧
    ((runs 0 (opWord 9 4 0)).thread 0 0).atBarrier = false ∧ (∀ u : Fin 32, u ≠ 0 → ((runs 0 (opWord 9 4 0)).thread 0 u).status = .idle) ∧
    (runs 0 (opWord 11 1 0)).issues 0 0 (isOp 11 1) (fun _ => ⟨[], []⟩) = true ∧ ((runs 0 (opWord 11 1 0)).core 0).matrix = [] ∧
    (runs 0 (opWord 11 2 (2 ^ 32))).issues 0 0 (isOp 11 2) (fun _ => ⟨[], []⟩) = true ∧ wCounter (opWord 11 2 (2 ^ 32)) = 1 := by decide +kernel
theorem test_ThreadMemory_witness :
    (mapped (opWord 3 1 (3 * 2 ^ 35))).issues 0 4 (fun w => wClass w == 3) (fun w => ⟨[wSrcA w], []⟩) = true ∧
    (mapped (opWord 3 1 (3 * 2 ^ 35))).issues 0 4 (fun w => wClass w == 3) (fun w => ⟨[dataKey w, wSrcA w], []⟩) = true ∧
    (∀ access : Fin 2, (match (mapped (opWord 3 1 (3 * 2 ^ 35))).lookupParts 0 ((mapped (opWord 3 1 (3 * 2 ^ 35))).thread 0 4) access (accessParts 0 8) with
      | .ok l => l.length == 1 | .error _ => false) = true) ∧
    (mapped 0).loadsOf (fun h u => h == 0 && u == 4) < 16 ∧ (mapped 0).loadsOf (fun h _ => h == 0) < 256 ∧ (mapped 0).canTrack (.thread 0 4) 0 1 = true := by decide +kernel
theorem test_ThreadResponse_witness :
    (fetching.action 9).isSome = true ∧ fetching.alive = true ∧ fetching.trans.preempt = .running ∧ fetching.alm.state ≠ .halted ∧ 9 ∈ (fetching.core 0).fetches ∧
    (withReq (request .load true)).req 7 = some (request .load true) ∧ (request .load true).answered = true ∧ (request .load true).reg < 32 ∧
    (request .load true).data.length = (request .load true).desc ∧ (withReq (request .store true)).req 7 = some (request .store true) ∧
    (request .store true).answered = true ∧ (request .load true).next = none ∧
    (({ fetching with cores := [(0, { images := [⟨0, 0, 0, [9], []⟩] })] } : State).core 0).images.any (fun i => decide (9 ∈ i.pinned)) = true ∧
    (∀ q ∈ (withReq (request .load true)).trans.reqs, q.id ≠ 7 → q.agent = .thread 0 4 → q.kind = .load → q.reg ≠ 3) := by decide +kernel
/-- The response of a signed load of 8 bytes brings them to s3, bit 63 set (R83). -/
theorem test_MemoryResponse_load : (match exec (.memoryResponse 7) (withReq (request .load true)) with
    | .next u => ((u.thread 0 4).s 3 == 0x8000000000000001 && u.trans.reqs == []) | _ => false) = true := by decide +kernel

/-! ### Witnesses: vectors -/

/-- VectorInt32Lanes, at the first and last lane: every operation's word on INT32 issues. -/
theorem test_Int32_witness :
    (∀ op ∈ [1, 2, 3, 6, 0x14, 0x15, 0x16, 0x17, 0x18, 5], (runs 0 (vecWord 4 op 1 2 3 0 11 0)).issues 0 0 (isOp 4 op) (vKeys true true true false false) = true) ∧
    (∀ op ∈ [7, 8], (runs 0 (vecWord 4 op 1 2 0 0 11 0)).issues 0 0 (isOp 4 op) (vKeys true true false false false) = true) ∧
    wType (vecWord 4 5 1 2 3 0 11 0) = 11 ∧ wMod (vecWord 4 5 1 2 3 0 11 0) = 0 := by decide +kernel
/-- VectorArithmeticLanes on FP32. -/
theorem test_Arithmetic_witness :
    (∀ op ∈ [1, 2, 3, 6, 5, 9], (runs 0 (vecWord 4 op 1 2 3 0 0 0)).issues 0 0 (isOp 4 op) (vKeys true true true false false) = true) ∧
    (∀ op ∈ [7, 8], (runs 0 (vecWord 4 op 1 2 0 0 0 0)).issues 0 0 (isOp 4 op) (vKeys true true false false false) = true) ∧
    (runs 0 (vecWord 4 4 1 2 3 4 0 0)).issues 0 0 (isOp 4 4) (vKeys true true true true false) = true ∧ wType ((runs 0 (vecWord 4 4 1 2 3 4 0 0)).word 0 0) ≠ 11 := by decide +kernel
/-- VectorWritesVd: special functions, selection, broadcast, reductions and conversions issue. -/
theorem test_WritesVd_witness :
    (∀ op ∈ [1, 2, 3, 4, 5, 6, 7, 8, 9, 10], (runs 0 (vecWord 6 op 1 2 0 0 0 0)).issues 0 0 (isOp 6 op) (vKeys true true false false false) = true) ∧
    (runs 0 (vecWord 4 10 1 2 3 4 0 0)).issues 0 0 (isOp 4 10) (vKeys true true true true false) = true ∧
    (runs 0 (vecWord 4 14 1 0 0 0 0 (5 * 2 ^ 20))).issues 0 0 (isOp 4 14) (vKeys true false false false true) = true ∧
    (∀ op ∈ [11, 12, 13], (runs 0 (vecWord 4 op 1 2 0 0 0 0)).issues 0 0 (isOp 4 op) (vKeys true true false false false) = true) ∧
    (runs 0 (vecWord 5 1 1 2 0 0 1 0)).issues 0 0 (isOp 5 1) vcvtRegs = true ∧
    (runs 0 (vecWord 5 3 1 2 3 0 6 0)).issues 0 0 (isOp 5 3) (vKeys true true true false false) = true ∧
    (runs 0 (vecWord 5 5 1 2 0 0 3 0)).issues 0 0 (isOp 5 5) (vKeys true true false false false) = true ∧
    (runs 0 (vecWord 5 2 1 2 3 0 6 0)).issues 0 0 (isOp 5 2) vquantRegs = true ∧ isIntType (wType (vecWord 5 2 1 2 3 0 6 0)) = true := by decide +kernel
/-- GatherScatter: all offsets 0; VSPLIT with three registers. -/
theorem test_Gather_witness :
    (runs 0 (vecWord 4 0x10 1 2 0 0 0 0)).issues 0 0 (isOp 4 0x10) (vKeys true true false false true) = true ∧
    offsetsOk (laneBytes 0) (laneOffsets ((runs 0 0).thread 0 0) (vecWord 4 0x10 1 2 0 0 0 0)) = true ∧
    (∀ op ∈ [0x11, 0x12], (runs 0 (vecWord 4 op 0 2 3 0 0 0)).issues 0 0 (isOp 4 op) (vKeys false true true false true) = true) ∧
    offsetsOk (laneBytes 0) (laneOffsets ((runs 0 0).thread 0 0) (vecWord 4 0x11 0 2 3 0 0 0)) = true ∧
    (runs 0 (vecWord 5 4 1 2 3 4 3 0)).issues 0 0 (isOp 5 4) vsplitRegs = true := by decide +kernel
/-- VscaleCode: each class of value, E2M1, at both ends of the magnitudes (R195). -/
theorem test_VscaleCode_witness : (mxFmt 5).isSome = true ∧ mxFmt (wType (vecWord 5 5 1 2 0 0 5 0)) = mxFmt 5 ∧
    (ofF32 0x7F800000).nonfinite = true ∧ (ofF32 0).isZero = true ∧ (∃ n m e, ofF32 0x3F800000 = .fin n m e ∧ m ≠ 0) ∧
    (∃ n m e, ofF32 0x00000001 = .fin n m e ∧ m ≠ 0) ∧
    (runs 0 (vecWord 5 5 1 2 0 0 5 0)).issues 0 0 (isOp 5 5) (vKeys true true false false false) = true := by
  refine ⟨by decide +kernel, by decide +kernel, by decide +kernel, by decide +kernel, ⟨_, _, _, rfl, by decide⟩, ⟨_, _, _, rfl, by decide⟩, by decide +kernel⟩
/-! ### Witnesses: the matrix engine -/

/-- INT8 of one element and one column. -/
def loadBlock : Nat := 6 * 2 ^ 508 + 1 * 2 ^ 499
/-- MWLOAD K 1, MSTREAM of one row, MDRAIN of one row, all of array 0. -/
def matWord (op : Nat) : Nat := opWord 8 op (2 ^ 44 + (match op with | 1 => 2 ^ 13 | 2 => 2 ^ 12 | _ => 2 ^ 13))
def matBlock (op : Nat) : Nat := match op with | 1 => loadBlock | 2 => 6 * 2 ^ 508 | _ => 1 * 2 ^ 496
/-- A thread with a command block at scratch 0, and a set of one INT8 element declared. -/
def matRuns (op : Nat) : State :=
  let s := runs 0 (matWord op)
  let k := s.core 0
  { s.setCore 0 { k with sets := [(0, ({ declType := 6, declK := 1, elemType := 6, k := 1, elems := [[3]] } : WeightSet).withParity)] } with
    mem := { s.mem with cells := (natLe 64 (matBlock op)).zipIdx.map (fun p => (scratchLpa 0 p.2, p.1)) } }
/-- MatrixIssue: each instruction with its mask, and with mask 0. -/
theorem test_MatrixIssue_witness :
    (∀ op ∈ [1, 2, 3], (matRuns op).issues 0 0 (isOp 8 op) matKeys = true ∧ wMask ((matRuns op).word 0 0) = 1 ∧
      ((matRuns op).core 0).matrix = [] ∧ (matRuns op).readNat (scratchLpa 0 0) 64 = matBlock op ∧ matEmpty (matWord op) (matBlock op) = false) ∧
    loadCheck (matWord 1) (matBlock 1) 0 = none ∧ streamCheck ((matRuns 2).core 0) (matWord 2) (matBlock 2) 0 = none ∧ drainCheck (matWord 3) (matBlock 3) 0 = none ∧
    (∀ op ∈ [1, 2, 3], (runs 0 (opWord 8 op 0)).issues 0 0 (isOp 8 op) matKeys = true ∧ wMask ((runs 0 (opWord 8 op 0)).word 0 0) = 0) := by decide +kernel

/-- An issued instruction. -/
def issued (op : Nat) (started : BitVec 4) (rows : Nat) : MatInstr :=
  ⟨1, 0, 0, 0, 1, BitVec.ofNat 64 (matWord op), BitVec.ofNat 512 (matBlock op), 0, 0, started, 0, rows, 0⟩
/-- Core 0 with it in its queues. -/
def queued (m : MatInstr) : State := { ready with
  cores := [(0, { matrix := [m], bus := if m.op = 2 ∧ m.started ≠ 0 ∧ m.rows < m.total then some 1 else none,
                  sets := [(0, ({ declType := 6, declK := 1, elemType := 6, k := 1, elems := [[3]] } : WeightSet).withParity)] })] }
/-- MatrixProgress: each stage of a load, a stream and a drain. -/
theorem test_MatrixProgress_witness :
    ready.arraysRun = true ∧ ready.withheldNow = false ∧ ({ ready.dset 0x2811 1 7 with time := { ready.time with sdt := PerDie.all 6204 } } : State).withheldNow = true ∧
    ((queued (issued 1 0 0)).core 0).loadHead 0 = some (issued 1 0 0) ∧ ((queued (issued 1 0 0)).core 0).loadMay 0 (issued 1 0 0) = true ∧
    ((queued (issued 1 1 0)).core 0).loadHead 0 = some (issued 1 1 0) ∧ ((queued (issued 1 1 0)).core 0).stopped 0 = false ∧ (issued 1 1 0).started.getLsbD 0 = true ∧
    ((queued (issued 2 0 0)).core 0).streamFor 0 = some (issued 2 0 0) ∧ ((queued (issued 2 0 0)).core 0).streamMay (issued 2 0 0) = true ∧
    ((queued (issued 2 1 0)).core 0).onBus = some (issued 2 1 0) ∧ ((queued (issued 2 1 0)).core 0).rowMay (issued 2 1 0) = true ∧
    (((queued (issued 2 1 0)).core 0).wset 0 0).blocks = 1 ∧
    ((queued (issued 2 1 1)).core 0).streamed = some (issued 2 1 1) ∧ (issued 2 1 1).done = 0 ∧
    ((queued (issued 3 0 0)).core 0).drainFor 0 false = some (issued 3 0 0) ∧ ((queued (issued 3 0 0)).core 0).drainMay 0 (issued 3 0 0) = true ∧
    ((queued (issued 3 1 0)).core 0).drainFor 0 true = some (issued 3 1 0) ∧ ((queued (issued 3 1 0)).core 0).stepMay 0 (issued 3 1 0) = true ∧
    ((queued (issued 3 1 1)).core 0).drainFor 0 true = some (issued 3 1 1) ∧ (issued 3 1 1).total * (issued 3 1 1).width ≤ (issued 3 1 1).rows ∧
    (issued 3 1 1).done ||| (arrayBit 0 &&& (issued 3 1 1).mask) = (issued 3 1 1).mask := by decide +kernel
/-- A set as MWLOAD leaves it, of an INT8 column: weights 3 and -2. -/
def smallSet : WeightSet := { elemType := 6, k := 2, elems := [[3, 0xFE]] }
/-- The row and set agree on parity with no upset. -/
theorem test_MatrixParity_clean :
    parityErrors (smallSet.withParity) ⟨[5, 7], []⟩ [] 0 0 ((blockInts smallSet.withParity ⟨[5, 7], []⟩ [] 0).getD 0 []) = (0, 0) ∧
    (blockInts smallSet.withParity ⟨[5, 7], []⟩ [] 0).getD 0 [] = 1 :: List.replicate 127 0 ∧
    (smallSet.elems.length ≤ 128 ∧ 0 < smallSet.withParity.blocks ∧ (smallSet.withParity.covered.getD 0 0).getLsbD 0 = true) := by decide +kernel
/-- ParityLocatesColumn: an upset of column 0 is found there, at both ends of its clauses (R155). -/
theorem test_ParityLocates_witness :
    location 5 5 = 0 ∧ location 5 640 = 127 ∧ location 5 0 = 0x80 ∧ location 0 5 = 0x81 ∧ location 5 645 = 0xFF ∧ location 5 7 = 0xFF ∧ location 0 0 = 0xFF ∧
    location (parityErrors (smallSet.withParity) ⟨[5, 7], []⟩ [(0, 0, 0, 9)] 0 0 ((blockInts smallSet.withParity ⟨[5, 7], []⟩ [(0, 0, 0, 9)] 0).getD 0 [])).1
      (parityErrors (smallSet.withParity) ⟨[5, 7], []⟩ [(0, 0, 0, 9)] 0 0 ((blockInts smallSet.withParity ⟨[5, 7], []⟩ [(0, 0, 0, 9)] 0).getD 0 [])).2 = 0 := by decide +kernel

/-! ### Witnesses: the update engine and memory -/

/-- A unit whose addresses translate and whose reads answer, with no earlier write waiting. -/
def answers (s : State) (j : UpdJob) (unit : Nat) (spans : List Span) : Bool :=
  !s.writesWait j.id && (match (s.unitData j unit spans).2 with | .ready _ _ => true | _ => false)
theorem serves_of_answers (s : State) (j : UpdJob) (unit : Nat) (spans : List Span) (h : answers s j unit spans = true) : ∃ v bss pss, s.Serves j unit spans v bss pss := by
  simp only [answers, Bool.and_eq_true, Bool.not_eq_true'] at h
  obtain ⟨hw, hd⟩ := h
  split at hd
  · rename_i bss pss hx
    exact ⟨_, bss, pss, hw, Prod.ext rfl hx⟩
  · cases hd

/-- A matrix of one row of 32 columns, all of its addresses on the one page that the die's cache maps. -/
def oneRow (rule : Nat) : BitVec 1024 := BitVec.ofNat 1024 (rule * 2 ^ 1016 + 2 ^ 928 + 32 * 2 ^ 896 + 256 * 2 ^ 256)
def job (phase : UpdPhase) (rule : Nat) : UpdJob :=
  { id := 5, die := 0, cores := [0], base := 0, count := 1, asid := 0, iter := 0, step := 1, gen := 0, hdr := none, ortho := false, conj := none, left := 1, pos := 0,
    phase := phase, desc := oneRow rule, rows := [⟨0, .here 0, false, 0, false⟩] }
def follows (kind : FollowKind) : FollowOn := ⟨8, 5, kind, 0, 0, oneRow 1, [], 0, 0, 0, false, []⟩
def updates (phase : UpdPhase) (rule : Nat) (kind : FollowKind) : State := { ready with
  trans := { dieTlb := PerDie.all [⟨0, 0, 65536, BitVec.ofNat 64 (2 ^ 63 + 2 ^ 61)⟩] }
  upd := { jobs := [job phase rule], follow := [follows kind] } }
/-- UpdateWorkCompletes: a job in each phase, and follow-on work of each kind, with its unit served. -/
theorem test_UpdateWork_witness :
    (∀ p ∈ [UpdPhase.idle, .chunk, .apply, .rows, .product, .norm, .ratio], (updates p 1 .publish).updMay = true ∧ (updates p 1 .publish).withheldNow = false ∧
      (updates p 1 .publish).updJob 5 = some (job p 1) ∧ (job p 1).parked = false) ∧
    ueOrtho (oneRow 1).toNat = false ∧ ueOrtho (oneRow 4).toNat = true ∧ lazyDistance 1 0 = some 1 ∧ lazyDistance 0x80000000 0 = none ∧
    (∀ k ∈ [FollowKind.publish, .ratio, .sweep], (updates .chunk 1 k).followOn 8 k = some (follows k, job .chunk 1)) := by decide +kernel
theorem test_UpdateServed_witness :
    (∃ v bss pss, (updates .idle 1 .publish).Serves (job .idle 1) 0 [⟨0, 128, false, true⟩] v bss pss) ∧
    (∃ v bss pss, (updates .chunk 1 .publish).Serves (job .chunk 1) 0 (chunkSpans (oneRow 1).toNat false 0) v bss pss) ∧
    (∃ v bss pss, (updates .chunk 4 .publish).Serves (job .chunk 4) 0 (momentumSpans (oneRow 4).toNat false 0) v bss pss) ∧
    (∃ v bss pss, (updates .apply 4 .publish).Serves (job .apply 4) 0 (applySpans (oneRow 4).toNat false 0) v bss pss) ∧
    (∃ v bss pss, (updates .rows 5 .publish).Serves (job .rows 5) 0 (lazySpans (oneRow 5).toNat false 0 0) v bss pss) ∧
    (∃ v bss pss, (updates .product 4 .publish).Serves (job .product 4) 0 [spaceSpan (oneRow 4).toNat] v bss pss) ∧
    (∃ v bss pss, (updates .norm 4 .publish).Serves (job .norm 4) 0 [⟨0, 8, false, true⟩] v bss pss) ∧
    (∃ v bss pss, (updates .ratio 1 .publish).Serves (job .ratio 1) 0 [⟨32, 16, false, true⟩] v bss pss) ∧
    (∃ v bss pss, (updates .chunk 1 .ratio).Serves (job .chunk 1) 0 [⟨0, 32, true, false⟩] v bss pss) ∧
    (∃ v bss pss, (updates .chunk 1 .sweep).Serves (job .chunk 1) 0 (sweepSpans (oneRow 1).toNat 0) v bss pss) ∧
    (∃ v bss pss, (updates .chunk 1 .publish).Serves (job .chunk 1) 0 (publishSpans (oneRow 1).toNat 0 false) v bss pss) := by
  refine ⟨?_, ?_, ?_, ?_, ?_, ?_, ?_, ?_, ?_, ?_, ?_⟩ <;> exact serves_of_answers _ _ _ _ (by decide +kernel)
/-- ScaleSweepRule: each clause at its bounds (R206 to R210). -/
theorem test_ScaleSweep_witness :
    (sweepBlock 1 false 0 0xFF 0xFFFF).1 = 0xFF ∧ (sweepBlock 1 false 1 0xFD 9).1 = 0xFE ∧ (sweepBlock 1 false 1 0xFE 9).1 = 0xFE ∧
    (sweepBlock 1 true 0 0xFE 9).2.1 = 9 ∧ (sweepBlock 1 false 2 0xFE 9).2.1 = 0 ∧ (sweepBlock 1 false 0 1 0).1 = 0 ∧
    (sweepBlock 0xFFFF false 0 0xFE 0xFFFF).1 = 0xFD ∧ (sweepBlock 0 false 0 0 0xFFFF).2.1 = 0xFFFF ∧ (sweepBlock 2 false 0 5 0).2.1 = 1 := by decide +kernel

/-- A line of the Loft, sectors valid, and a request of a thread for 8 bytes at Slate 0. -/
def line0 : LoftLine := ⟨0, 0xFF, 0, false, none⟩
def slateReq (kind : ReqKind) (eaves done : Bool) : Req :=
  ⟨7, .thread 0 4, 0, kind, .here 0, 8, [1, 0, 0, 0, 0, 0, 0, 0], done, eaves, false, false, none, 3, false, 0, 8, none, 0, 0, 0, (0, 0, 0)⟩
def atLoft (kind : ReqKind) (lines : List LoftLine) : State := { ready with trans := { reqs := [slateReq kind false false] }, cache := { loft := lines } }
/-- LoftSliceServes: a hit, a miss, a store, an add, a fill that returns, and an Eaves fill. -/
theorem test_LoftSlice_witness :
    (atLoft .load [line0]).atSlice 7 (· == .load) = some (slateReq .load false false, 0) ∧ (atLoft .load [line0]).inTurn (slateReq .load false false) = true ∧ (atLoft .load [line0]).fill 0 = none ∧
    (atLoft .load [line0]).loftLine ((atLoft .load [line0]).line 0) = some line0 ∧ line0.valid &&& sectorMask 0 8 = sectorMask 0 8 ∧
    (atLoft .load []).loftLine 0 = none ∧ (atLoft .store [line0]).atSlice 7 (· == .store) = some (slateReq .store false false, 0) ∧
    (atLoft (.add 0) [line0]).atSlice 7 ReqKind.isAdd = some (slateReq (.add 0) false false, 0) ∧
    ({ ready with cache := { fills := [⟨3, 0xFF, true, false, 0, []⟩] } } : State).fill 3 = some ⟨3, 0xFF, true, false, 0, []⟩ ∧
    ({ ready with trans := { reqs := [slateReq .load true true] }, cache := { eavesFills := [⟨0, 9, 7, false⟩] } } : State).eavesReady 0 9 =
      some (⟨0, 9, 7, false⟩, slateReq .load true true) := by decide +kernel
/-- The package at the start of dusk slot 63 (R49). -/
def dusk : State := { ready with time := { sdt := PerDie.all 129024, counting := true, lock := .locked } }
/-- GuardsAndScrub: a stamp due, an epoch of 4,096 at each bound of its rates, a dusk slot, a pass at its end, and a core's SRAM. -/
theorem test_Guards_witness :
    0 < tget 0 ({ ready with cache := { stampDue := [(63, 1)] } } : State).cache.stampDue 63 ∧
    (4096 ≤ 1638 + 2458 ∧ 100 * 1638 < 40 * 4096 ∧ 40 * 4096 ≤ 100 * 1639 ∧ 70 * 4096 ≤ 100 * 2868 ∧ 2868 < 4 * 718) ∧
    dusk.alive = true ∧ dusk.inDusk = true ∧ pget dusk.cache.scrubbed 0 ≠ dusk.slot + 1 ∧ dusk.deferredNow 3000 = false ∧ inCoreSram 0 (scratchLpa 0 0x2FFFFF) = true ∧ inCoreSram 0 (accLpa 0 0) = true ∧
    (∀ c ∈ tierChannels 3 true, tget 0 ({ dusk with cache := { scrubPos := (tierChannels 3 true).map (fun c => (c, channelSize true)) } } : State).cache.scrubPos c = channelSize true) ∧
    ({ dusk with fuse := { dusk.fuse with featureLevel := 2 } } : State).fuse.featureLevel = 2 := by decide +kernel
/-- MemoryOperations: a canonical memory with a byte; a store and a store of what the address reads as. -/
theorem test_Memory_witness : (ready.mem.set 5 7).wf = true ∧ (ready.mem.set 5 7).cells.length = 1 ∧ ((ready.mem.set 5 7).set 5 0).cells.length = 0 ∧ (ready.mem.set 5 7).get 5 = 7 := by
  decide +kernel
/-- LockedBufferRefusesWrites: buffer A under its check for arming, and the staged buffer B of a running Almanac, written at their first and last bytes. -/
theorem test_Locked_witness :
    (({ ready with alm := { armCheck := some .a } } : State).alm.armCheck = some .a) ∧
    (({ ready with alm := { state := .running, standby := .staged } } : State).alm.standby = .staged ∧ Buf.a ≠ Buf.b) ∧
    0 < ((({ ready with alm := { armCheck := some .a } } : State).dset 0x2110 2 64).bufRange .a).2 := by decide +kernel

/-! ### Witnesses: time -/

/-- Rank 1 of a domain of two packages along x, its root rank 0, with every link active. -/
def child : State :=
  let s : State := (ready.dset 0x2700 1 2).dset 0x2700 4 1
  { s with
    fab := { links := (List.range 36).map (fun l => (l, { state := LinkSt.active })), inbox := [] }
    time := { s.time with rxClock := BitVec.allOnes 36, parentLink := 0 } }

/-- A frame delivered to a package. -/
def frameOf (ftype tf : Nat) (body : Bytes) : Frame := ⟨ftype, 0, 0, 0, 0, 0, 0, false, tf, body⟩
def delivered (s : State) (f : Frame) : State := { s with fab := { s.fab with inbox := [⟨255, false, 0, 0, encodeFrame f⟩] } }
/-- A beacon's request and response, number 5. -/
def beacon (type : Nat) : Beacon := ⟨type, 0, 0, 5, 0x60000, 3, 0x5FF00, 0x5FF80, 0⟩
def beaconFrame (type : Nat) : Frame := frameOf 1 0 (beacon type).bytes
/-- The child at SDT 0x600 with a request in flight and its response here. -/
def answered : State := delivered { child with time := { child.time with beaconOut := [(5, 0)], sdt := PerDie.all 0x600 } } (beaconFrame 2)

/-- BoundaryAndGuardBand: the boundary of slot 4 and the guard band of slot 3, and Dim mode. -/
theorem test_Boundary_witness :
    ready.boundaryMay = true ∧ ready.atBoundary.boundaryBlocked = false ∧ ready.time.boundaryOpen = false ∧ ready.guardMay = true ∧ ready.inDusk = false ∧
    ready.time.sampled = false ∧ ready.leads = true ∧ ready.decisionDue = false ∧ ready.upcoming = none ∧
    ({ ready with boot := { mode := .dim, inReset := false } } : State).served = true := by decide +kernel
/-- The idle block counts ticks: from tick 0 of slot 3 to tick 1 (R40). -/
theorem test_idle_tick : (match step ready with | .next u => pget u.time.sdt 3 == 6145 && pget u.time.sdt 0 == 6145 | _ => false) = true := by decide +kernel
/-- BeaconExchange: a request to send, one from a parent not in use, a request received, a response to number 5. -/
theorem test_Beacon_witness :
    (child.clockOn = true ∧ child.quiet = false ∧ child.isRoot = false ∧ child.time.parentLink < 36 ∧ child.live child.time.parentLink = true ∧ child.time.beaconWait = 0) ∧
    (27 ∈ child.parentLinks ∧ 27 ≠ child.time.parentLink ∧ tget 0 child.time.unusedSent 27 = 0 ∧ 1 + minuteSlots ≤ minuteSlots + 3 + 1) ∧
    ((delivered ready (beaconFrame 1)).takeBeacon false).isSome = true ∧ (answered.takeBeacon true).isSome = true ∧
    (answered.goodBeacon ⟨255, false, 0, 0, encodeFrame (beaconFrame 2)⟩ (beaconFrame 2)).1 = true ∧ answered.time.beaconOut.find? (fun p => p.1.toNat == (beaconOf (beaconFrame 2).body).seq) = some (5, answered.time.parentLink) ∧
    child.time.beaconOut = [] := by decide +kernel
/-- The sample of a response: delay (t4 - t1) - (t3 - t2), offset (t2 - t1) + (t3 - t4) in 1/512 tick (R47), by hand from the numbers above. -/
theorem test_Beacon_sample : (match exec (.beaconResponse 0x40) answered with
    | .next u => u.time.samples == [(0x140 - 0x80, 0x80 - 0x40)] && u.time.hops == 1 | _ => false) = true := by decide +kernel
/-- ParentClock: the clock lost with other parents there, and with none; a clock that comes back to a package without lock, and to one with it. -/
theorem test_ParentClock_witness :
    child.time.lock ∈ [LockState.syntonising, .aligning, .locked] ∧ child.time.parentLink < 36 ∧
    ({ child with time := { child.time with rxClock := child.time.rxClock &&& ~~~(1#36 <<< 0) } } : State).parentLinks = [9, 18, 27] ∧
    ({ child with time := { child.time with rxClock := 0 } } : State).parentLinks = [] ∧
    9 ∈ ({ child with time := { child.time with rxClock := (0 : BitVec 36) ||| (1#36 <<< 9) } } : State).parentLinks := by decide +kernel

/-! ### Witnesses: the Almanac -/

/-- An Almanac of ID 7 with one descriptor at slot 0 that a NOP-like MARK serves: 128 header bytes and 32 of its table, with both CRCs (R52, R57). -/
def markRow : Bytes := natLe 32 (8 * 2 ^ 216)
def almHead (count crc : Nat) : Bytes :=
  let n := 0x414C4D4B * 2 ^ 480 + 2 ^ 464 + 7 * 2 ^ 416 + count * 2 ^ 384 + 16 * 2 ^ 352 + 1 * 2 ^ 320 + 4 * 2 ^ 288 + crc * 2 ^ 160 + 2 ^ 512
  patch (natLe 128 n) 16 (natLe 4 (crc32c (natLe 128 n)))
def almBytes (count : Nat) : Bytes := almHead count (crc32c markRow) ++ markRow
/-- The Almanac in buffer A, which begins at 0 and has 256 bytes; arming is being checked and a start is set. -/
def arming (count : Nat) : State :=
  let s : State := (ready.dset 0x2110 2 256).dset 0x2114 0 8192
  { s with mem := { s.mem with cells := (almBytes count).zipIdx.map (fun p => (p.2, p.1)) }, alm := { s.alm with armCheck := some .a, state := .checking } }
def header : AlmHeader := headerOf .a 0 (leNat (almHead 1 (crc32c markRow)))
/-- The package with a header latched in a state of the Almanac. -/
def almanac (state : AlmanacState) : State :=
  { arming 1 with alm := { state := state, hdr := some header } }

/-- AlmanacControl: each command where it is permitted, the refusals where it is not; through BAR0. -/
theorem test_AlmanacControl_witness :
    ready.mayWrite (.bar0 0) 0x2112 0 = true ∧ ready.armPermits = true ∧ ready.stagePermits .b = true ∧
    ({ ready with alm := { activeBuf := .b } } : State).stagePermits .a = true ∧ ready.unstagePermits = true ∧
    (almanac .armed).disarmPermits = true ∧ (almanac .armed).running = false ∧ (almanac .running).disarmPermits = true ∧ (almanac .running).running = true ∧
    (almanac .running).armPermits = false ∧ ready.disarmPermits = false ∧ (almanac .running).mayWrite (.bar0 0) 0x2112 0 = true := by decide +kernel
/-- AlmanacRuns: a bad buffer, an Almanac with work and an empty one checked, a start and a resumption at the boundary of slot 4, a descriptor to read. -/
theorem test_AlmanacCheck_witness :
    ready.leads = true ∧ (ready.checkBuffer .a).2 = .bad 0x01 ∧ ((arming 1).checkBuffer .a).2 = .good header ∧ header.empty = false ∧
    ((arming 1).checkBuffer .a).1.checkStart header = .good header ∧
    ((arming 0).checkBuffer .a).2 = .good (headerOf .a 0 (leNat (almHead 0 (crc32c markRow)))) ∧ (headerOf .a 0 (leNat (almHead 0 (crc32c markRow)))).empty = true := by
  decide +kernel
theorem test_AlmanacRuns_witness :
    (almanac .armed).boundaryMay = true ∧ (almanac .armed).dget 0x2114 0 = (almanac .armed).atBoundary.sdt ∧
    (almanac .armed).nextDescriptor = some (header, 128) ∧ (almanac .armed).queued < 4096 ∧ (almanac .armed).poisonedAt 128 32 = none ∧
    (almanac .paused).mayWrite (.bar0 0) 0x2116 0 = true ∧ 8192 % 2048 = 0 ∧ isDusk (slotOf 8192) = false ∧ (almanac .paused).sdt + 2048 ≤ 8192 ∧
    ({ almanac .paused with time := { ready.time with sampled := true } } : State).boundaryMay = true ∧
    (some (8192 : BitVec 64)) = some (BitVec.ofNat 64 ({ almanac .paused with time := { ready.time with sampled := true } } : State).atBoundary.sdt) := by decide +kernel

/-- An open window of CONJ_INDEX 3 of an age, with both ranks of the domain in its vector. -/
def vector : AVec := ⟨1, 7, 7, 3, 3, 0, 0, 0xFFFFFFFF, 0xFFFF, 0, 0⟩
def window (age closed : Nat) (d : Option Decision) : Window := ⟨3, 40, 0, 1, false, age, false, vector, closed, 5, 5, d⟩
def windows (age closed : Nat) (d : Option Decision) : State := { almanac .running with conj := { windows := [window age closed d] } }
/-- ConjunctionWindow and ConjunctionOutcome: a vector and a seal for the window and for another, both deadlines, a decision due and one of each kind taken. -/
theorem test_Conjunction_witness :
    ((delivered (windows 1 0 none) (frameOf 2 3 vector.bytes)).takeFrame 0x02).isSome = true ∧ (windows 1 0 none).takesFrame 3 false = some (window 1 0 none) ∧
    (windows 1 0 none).takesFrame 4 false = none ∧ ((delivered (windows 2 1 none) (frameOf 3 3 (List.replicate 8 0))).takeFrame 0x03).isSome = true ∧
    (windows 2 1 none).takesFrame 3 true = some (window 2 1 none) ∧ (windows 4 2 none).takesFrame 3 true = none ∧
    (windows 2 0 none).guardMay = true ∧ (windows 2 0 none).inDusk = false ∧ (windows 2 0 none).deadlineWindow 2 1 = some (window 2 0 none) ∧
    (windows 3 1 none).deadlineWindow 3 2 = some (window 3 1 none) ∧ (windows 4 2 none).dueWindow = some (window 4 2 none) := by decide +kernel
theorem test_ConjunctionOutcome_witness :
    (window 4 2 none).decide = .nothing ∧ ({ window 4 2 none with sealMax := 6 } : Window).decide = .halt 0x12 ∧ ({ window 4 2 none with ranks := 3 } : Window).decide = .halt 0x11 ∧
    ({ window 4 2 none with vec := { vector with flags := 1 } } : Window).decide = .halt 0x10 ∧ ({ window 4 2 none with vec := { vector with flags := 8 } } : Window).decide = .pause ∧
    ({ window 4 2 none with vec := { vector with slipKey := 2 ^ 16 } } : Window).decide = .slip 1 ∧
    ({ windows 4 2 (some .pause) with time := { ready.time with sampled := true } } : State).boundaryMay = true ∧
    isDusk (windows 4 2 (some .pause)).atBoundary.slot = false ∧ (windows 4 2 (some .pause)).leads = true := by decide +kernel
/-- VectorMerge: fields at their bounds, and a gate reached and not. -/
theorem test_VectorMerge_witness : vecOf ({ vector with skipMin := 2 ^ 32 - 1, faultRankMin := 2 ^ 16 - 1, slipKey := 2 ^ 24 - 1 } : AVec).bytes =
    { vector with skipMin := 2 ^ 32 - 1, faultRankMin := 2 ^ 16 - 1, slipKey := 2 ^ 24 - 1 } ∧ (5 - 5 : BitVec 32).toNat < 2 ^ 31 ∧ ¬((4 - 5 : BitVec 32).toNat < 2 ^ 31) := by decide +kernel

/-! ### Witnesses: translation, parking, pre-emption and movers -/

/-- A thread whose page no table maps: its access needs a walk that finds nothing (no root table). -/
def unmapped : State := runs 4 (opWord 3 1 (3 * 2 ^ 35))
def parkInfo : ParkInfo := ⟨.thread 0 4, 0x80, 0, 0, 0, 0, 0, 0, 4, 0, 0, 0, 0, 0xFFFFFFFF⟩
def parkRec (seq sdt : Nat) : ParkRec := ⟨seq, 0, 0, { parkInfo with sdt := sdt }, []⟩
def parked (recs : List ParkRec) (waiting : List ParkInfo) (next : Nat) : State :=
  { ready with trans := { parks := recs, parkWait := waiting, nextSeq := next }, threads := [(4, { status := .parked })] }
/-- WalksAndParks: a walk needed, a record joined and a new one, RELEASE and ABANDON of a record, of none, and a timeout. -/
theorem test_Walks_witness :
    unmapped.firstMiss (unmapped.needs (.thread 0 4) false) = some ⟨0, 0, 0, false, some 0, 0⟩ ∧ unmapped.walkEccOk ⟨0, 0, 0, false, some 0, 0⟩ .clean = true ∧
    (parked [parkRec 0 0] [parkInfo] 1).parkMatch parkInfo = some (parkRec 0 0) ∧ (parked [] [parkInfo] 0).parkMatch parkInfo = none ∧
    (parked [] [parkInfo] 0).ringFree 0 = true ∧ (parked [parkRec 5 0] [] 6).mayWrite (.bar0 0) 0x2621 0 = true ∧
    (parked [] [parkInfo] 0).trans.parkWait.find? (fun p => ((parked [] [parkInfo] 0).parkMatch p).isSome || (parked [] [parkInfo] 0).ringFree 0) = some parkInfo ∧
    (parked [parkRec 0 0] [parkInfo] 1).trans.parkWait.find? (fun p => ((parked [parkRec 0 0] [parkInfo] 1).parkMatch p).isSome || (parked [parkRec 0 0] [parkInfo] 1).ringFree 1) = some parkInfo ∧
    (parked [parkRec 5 0] [] 6).trans.parks.find? (fun x => x.seq == 5) = some (parkRec 5 0) ∧
    (let s := parked [parkRec 5 0] [] 6; ({ s with trans := { s.trans with preempt := .stopped } } : State).mayWrite (.bar0 0) 0x2621 0) = true ∧
    (parked [parkRec 5 0] [] 6).trans.preempt = .running ∧ (5 % 2 ^ 32 = 5 ∧ bit 5 32 = false ∧ bit (2 ^ 32 + 5) 32 = true ∧ (2 ^ 32 + 5) % 2 ^ 32 = 5) ∧
    ((parked [parkRec 5 0] [] 6).dset 0x2622 0 1).dget 0x2622 0 = 1 ∧ 0 / 2048 + 1 < ready.slot := by decide +kernel
/-- The spec's own number for PARK_TIMEOUT_SLOTS stands at reset. -/
theorem test_Park_timeout_reset : State.reset.dget 0x2622 0 = 781250 := by decide +kernel
/-- Invalidation: a range of one page in the caches, an empty range, and an invalidation with nothing outstanding. -/
theorem test_Invalidation_witness :
    (ready.dset 0x2610 2 1).mayWrite (.bar0 0) 0x2610 3 = true ∧ (ready.dset 0x2610 2 1).dget 0x2610 2 ≠ 0 ∧ ready.dget 0x2610 2 = 0 ∧
    (⟨1, 0, 0, 65536⟩ : InvalCmd).covers 0 0 65536 = true ∧ (⟨1, 0, 65536, 131072⟩ : InvalCmd).covers 0 0 65536 = false ∧
    ({ ready with trans := { inval := [⟨3, 0, 0, 0⟩] } } : State).trans.reqs = [] := by decide +kernel
/-- A package with an image area in a state of pre-emption. -/
def preempting (p : PreemptState) (all : Bool) : State :=
  let s : State := ready.dset 0x2642 0 65536
  { s with trans := { preempt := p, restoreAll := all } }
/-- Preemption: each command where it is permitted and where it is not, each end, and a restoration of a saved image (all of its CRCs wrong) and of a stopped one. -/
theorem test_Preemption_witness :
    (preempting .running false).mayWrite (.bar0 0) 0x2640 0 = true ∧ (preempting .running false).prePermits 1 = true ∧
    ({ preempting .running false with alm := { state := .paused } } : State).prePermits 2 = true ∧ placed ((preempting .running false).dget 0x2642 0) 65536 0x60000000 = true ∧
    (preempting .saved false).prePermits 3 = true ∧ (preempting .stopped false).prePermits 3 = true ∧
    ready.prePermits 1 = false ∧ (preempting .running false).prePermits 2 = false ∧ (preempting .running false).prePermits 3 = false ∧
    (preempting .stopping false).allSafe = true ∧ (preempting .saving false).allSafe = true ∧ (preempting .restoring true).trans.restoreFailed = false ∧
    (preempting .restoring true).trans.restoreAll = true := by decide +kernel

/-- Mover 0 of die 0 at its list at VA 0, the one page of which the die's cache maps. -/
def mover (desc : Option (BitVec 512)) (opened : List MoverDesc) (count : Nat) : State := { ready with
  movers := [(0, { status := .running, count := count, desc := desc, open_ := opened })]
  trans := { dieTlb := PerDie.all [⟨0, 0, 65536, BitVec.ofNat 64 (2 ^ 63 + 2 ^ 61)⟩] } }

/-- A descriptor of 64 bytes from 128 to 256: one element, opcode `op`; the indexed forms take their index from 512 (R290). -/
def moverDesc (op : Nat) : Nat :=
  op * 2 ^ 508 + 128 * 2 ^ 424 + 256 * 2 ^ 368 + (if op = 2 ∨ op = 3 ∨ op = 5 then 512 * 2 ^ 312 else 0) + 64 * 2 ^ 280 + 2 ^ 248
/-- MoverDescriptors: each opcode's descriptor in the list, reading ahead, pieces to issue and a descriptor that retires. -/
def listed (op count : Nat) : State :=
  let s := mover none [] count
  { s with mem := { s.mem with cells := ((natLe 64 (moverDesc op)) ++ (natLe 64 (moverDesc op))).zipIdx.map (fun p => (p.2, p.1)) } }
theorem test_Mover_witness :
    (∀ op ∈ [1, 2, 3, 4, 5], (listed op 2).moverMay 0 0 = true ∧ ((listed op 2).mover 0 0).desc = none ∧ ((listed op 2).mover 0 0).cur < ((listed op 2).mover 0 0).count ∧ ((listed op 2).mover 0 0).addr % 64 = 0 ∧
      (match (listed op 2).readDesc 0 0 0 with | (t, .bytes bs) => leNat bs == moverDesc op && (t.mover 0 0).open_ == [] | _ => false) = true ∧
      mdOp (moverDesc op) = op ∧ mdMalformed 0 (moverDesc op) = false ∧ mdEmpty (moverDesc op) = false) := by decide +kernel
theorem test_Mover_more_witness :
    (match (listed 1 2).translate (moverCtx 0 ((listed 1 2).mover 0 0) 64 3) with
      | (t, .ok _ _) => (match t.readDesc 0 0 1 with | (_, .bytes bs) => leNat bs == moverDesc 1 | _ => false)
      | _ => false) = true ∧
    0 + 1 + ((listed 1 2).mover 0 0).ahead.length < 2 ∧ ((listed 1 2).mover 0 0).elem < 2 ^ 32 ∧ mdIndexed (moverDesc 2) = true ∧
    (match (mover (some (BitVec.ofNat 512 (moverDesc 2))) [] 1).moverRead 0 0 (((mover (some (BitVec.ofNat 512 (moverDesc 2))) [] 1).mover 0 0).indexVa (moverDesc 2)) 0 4 with
      | (_, .bytes bs) => leNat bs == 0 | _ => false) = true ∧
    ((mover (some (BitVec.ofNat 512 (moverDesc 1))) [] 1).mover 0 0).desc = some (BitVec.ofNat 512 (moverDesc 1)) ∧ mdIndexed (moverDesc 1) = false ∧
    ((mover none [⟨0, BitVec.ofNat 512 (moverDesc 1)⟩] 1).mover 0 0).open_ = [⟨0, BitVec.ofNat 512 (moverDesc 1)⟩] ∧ (mover none [] 1).trans.reqs = [] := by decide +kernel

/-! ### Witnesses: the fabric -/

/-- Link 0 in a state. -/
def linked (st : LinkSt) : State := { ready with fab := { links := [(0, { state := st })] } }
/-- A flit by FTYPE, VC, SEQ and what stands below, with its CRC (R315). -/
def flit (ftype vc seq rest : Nat) : BitVec 1600 :=
  let n := ftype * 2 ^ 1598 + vc * 2 ^ 1595 + seq * 2 ^ 1582 + rest
  BitVec.ofNat 1600 (n + crc32c (natLe 196 (n / 2 ^ 32)))
/-- LinkTraining: every state that a command meets, a retrain asked for and one in a dusk slot. -/
theorem test_LinkTraining_witness :
    ready.linksOn = true ∧ pmEnable (ready.portMap 0) = true ∧ (ready.link 0).state = .down ∧ ((linked .detect).link 0).state = .detect ∧
    ((linked .equalise).link 0).state = .equalise ∧ ((linked .identify).link 0).state = .identify ∧ ((linked .miswired).link 0).state = .miswired ∧
    (flitType (flit 0 0 0 (2 ^ 1472)).toNat = 0 ∧ field (flit 0 0 0 (2 ^ 1472)).toNat 1472 8 = 1 ∧ flitCrcOk (flit 0 0 0 (2 ^ 1472)).toNat = true ∧
      flitCrcOk (flit 0 0 0 (2 ^ 1472) ^^^ 1#1600).toNat = false) ∧
    (({ linked .active with fab := { links := [(0, { state := .active, fecDue := true })] } } : State).link 0).fecDue = true ∧
    (linked .active).quiet = false ∧ (({ linked .active with fab := { links := [(0, { state := .active, retrainDue := true })] } } : State).link 0).retrainDue = true ∧
    (({ linked .active with time := dusk.time } : State).inDusk = true ∧ ((linked .active).link 0).replay = [] ∧ 2000 ∉ (linked .active).log.deferred) ∧
    ((linked .active).link 0).state ∉ [LinkSt.down, .disabled, .ethTraining, .ethUp] := by decide +kernel

/-- FlitLayer: flits in order, out of order and damaged, control flits, a replay at each bound of its count, notices and the Seam and Ridge. -/
theorem test_Flit_witness :
    (((linked .active).link 0).trained = true ∧ (linked .active).quiet = false ∧ ((linked .active).link 0).rxSeq = 0) ∧
    (flitType (flit 1 4 0 0).toNat = 1 ∧ flitCrcOk (flit 1 4 0 0).toNat = true ∧ flitVc (flit 1 4 0 0).toNat = 4 ∧ flitSeq (flit 1 4 0 0).toNat = 0) ∧
    (flitCrcOk (flit 2 0 4095 0).toNat = true ∧ flitSeq (flit 2 0 4095 0).toNat = 4095) ∧ flitCrcOk (flit 1 0 0 0 ^^^ 1#1600).toNat = false ∧
    (flitType (flit 0 0 0 0).toNat = 0 ∧ flitCrcOk (flit 0 0 0 0).toNat = true ∧ field (flit 0 0 0 0).toNat 1480 8 ≠ 1) ∧
    (flitType (flit 0 0 0 (2 ^ 1480)).toNat = 0 ∧ flitCrcOk (flit 0 0 0 (2 ^ 1480)).toNat = true ∧ field (flit 0 0 0 (2 ^ 1480)).toNat 1480 8 = 1) := by decide +kernel
/-- A flit of D0 for D1 being replayed for the n-th time. -/
def seaming (n : Nat) : State := { ready with fab := { seamTries := [(0, n)], seamHand := [(0, 33)] } }
theorem test_Replay_witness :
    (linked .active).elapsed ((linked .active).link 0).progress 3200 = true ∧ (linked .active).elapsed ((linked .active).link 0).noticeNext 0 = true ∧
    (∀ n ∈ [14, 15], (({ ready with fab := { links := [(0, { state := .active, replay := [(0, 0)], resends := n })] } } : State).link 0).replay ≠ [] ∧
      (({ ready with fab := { links := [(0, { state := .active, replay := [(0, 0)], resends := n })] } } : State).link 0).retrainDue = false) ∧
    (1 : BitVec 16).toNat ≠ (linked .active).incarnation ∧ (0 : BitVec 16).toNat = (linked .active).incarnation ∧
    pmFenced (((linked .active).dset 0x2720 1 (2 ^ 31 + 2 ^ 30)).portMap 0) = true ∧ (((linked .active).dset 0x2720 1 (2 ^ 31 + 2 ^ 30)).link 0).trained = true ∧
    (ready.boot.inReset = false ∧ ready.boot.mode ≠ .faulted ∧ ready.boot.mode ≠ .dim) ∧
    (∀ n ∈ [15, 16], (seaming n).seamMay (dieRoute 0 1) 0 0 (loadVc .request * 16 + 0 * 4 + 1) (loadVc .request) = true ∧ tget 0 (seaming n).fab.seamTries 0 = n) ∧
    (dieRoute (0 : Fin 4) (1 : Fin 4))[(0 : Fin 2).val]? = some 0 := by decide +kernel

/-- A frame whose extension names request 7 and a length (R321). -/
def extFrame (ftype tf len : Nat) : Frame := frameOf ftype tf (natLe 8 (len * 2 ^ 46 + 7) ++ List.replicate len 9)
/-- A request of thread 4 to rank 1, waiting. -/
def remoteReq (kind : ReqKind) : Req := { slateReq kind false false with target := .remote 1 0 }
/-- A window of one frame of 8 bytes that fired in the present slot, pacing over n slots. -/
def winState (n : Nat) : State := { ready with
  alm := { actions := [⟨9, 0, 0, 0, 0, ⟨0, 5, 0, 0, 0, 0, 0, 0, 1, 0, n, 0, false⟩, 1, false⟩] }
  fab := { winOut := [⟨9, 2, 0, [(0, 8)], 0, false, workIndex ready.slot⟩] } }
/-- FabricFrames: a delivered frame of every type, its request, gate or window there. -/
theorem test_Frames_witness :
    (∀ ty ∈ [0x10, 0x11, 0x12, 0x18, 0x19, 0x21, 0x28, 0x29], ((delivered ready (extFrame ty 256 8)).takeFrame ty).isSome = true) ∧
    (delivered ready (extFrame 0x10 256 8)).cache.fills = [] ∧ (parseFrame (encodeFrame (extFrame 0x10 256 8))).isRequest = true ∧
    memoryRange 256 8 = true ∧ (extFrame 0x10 256 8).reqLen = 8 ∧ ready.poisonedAt 256 8 = none ∧ 256 % 4096 ≠ 0 ∧
    ({ ready with fab := { gateOut := [(3, 0, 256)] } } : State).fab.gateOut.find? (fun g => g.2.1 == (extFrame 0x29 256 8).src && g.2.2 == (extFrame 0x29 256 8).tf % 4096) = some (3, 0, 256) ∧
    (withReq (remoteReq .load)).req (extFrame 0x18 0 8).tag = some (remoteReq .load) ∧ (∀ id, (remoteReq .load).agent ≠ .action id ∧ (remoteReq .load).agent ≠ .update id) := by
  refine ⟨?_, ?_, ?_, ?_, ?_, ?_, ?_, ?_, ?_, ?_⟩
  rotate_right
  · intro id; simp [remoteReq, slateReq]
  all_goals decide +kernel
/-- The body of a window frame: WINDOW_SEQ 2, TOTAL_LENGTH, OFFSET 0, REMOTE_GATE 4,095, 8 bytes of data. -/
def windowBody (total : Nat) : Bytes := natLe 16 (2 * 2 ^ 96 + total * 2 ^ 64 + 4095 * 2 ^ 20) ++ List.replicate 8 9
theorem test_Window_witness :
    (delivered ready (frameOf 0x20 0 (windowBody 8))).winIn (frameOf 0x20 0 (windowBody 8)) 2 = none ∧ (winState 2).fab.relays.find? (fun x => x.seq == 2) = none ∧
    ({ winState 2 with fab := { relays := [⟨2, 0, 1, 0, 5⟩] } } : State).fab.relays.find? (fun x => x.seq == 2) = some ⟨2, 0, 1, 0, 5⟩ ∧
    ((delivered ready (frameOf 0x20 0 (windowBody 8))).takeWindowFrame).isSome = true ∧ windowFields (frameOf 0x20 0 (windowBody 8)) = (2, 8, 0, 4095) ∧
    ((delivered ready (frameOf 0x20 0 (windowBody 9))).takeWindowFrame).isSome = true ∧ windowFields (frameOf 0x20 0 (windowBody 9)) = (2, 9, 0, 4095) ∧
    (winState 2).window 2 = some ⟨9, 2, 0, [(0, 8)], 0, false, workIndex ready.slot⟩ ∧ ((winState 2).action 9).isSome = true ∧ (winState 2).fabricMay = true ∧
    (winState 2).windowAge ⟨9, 2, 0, [(0, 8)], 0, false, workIndex ready.slot⟩ < 2 ∧ 0 ≤ (winState 0).windowAge ⟨9, 2, 0, [(0, 8)], 0, false, workIndex ready.slot⟩ ∧
    (match (winState 2).action 9 with | some a => (winState 2).windowDue a ⟨9, 2, 0, [(0, 8)], 0, false, workIndex ready.slot⟩ | none => false) = true := by decide +kernel

/-- A reduction of tag 6 and one segment, its root and a contributor here. -/
def redDesc : BitVec 512 := BitVec.ofNat 512 (6 * 2 ^ 448)
def reducing (got : List (Nat × Bytes)) (unsent : List Nat) : State := { ready with
  alm := { actions := [⟨9, 0, 0, 0, 0, ⟨0, 6, 0, 0, 0, 0, 0, 0, 1, 0, 0, 0, false⟩, 1, false⟩] }
  fab := { roots := [⟨9, 0, 0, redDesc, [(0, 0)], 1, [⟨0, got⟩], 0⟩]
           contribs := [⟨10, redDesc, 0, 0, unsent, [0], []⟩] } }
/-- ReduceAndTokens: grants, contributions that a segment takes and that it has, acknowledgements and a segment whole. -/
theorem test_Reduce_witness :
    (∀ ty ∈ [0x30, 0x31, 0x32, 0x3A, 0x38, 0x39], ((delivered (reducing [] []) (frameOf ty 6 (List.replicate 16 0))).takeFrame ty).isSome = true) ∧
    (rdTag redDesc.toNat = 6 ∧ rdGen redDesc.toNat = 0) ∧ ready.fab.contribs = [] ∧
    (reducing [] []).fab.roots.find? (fun k => rdTag k.desc.toNat == 6 && rdGen k.desc.toNat == 0) = some ⟨9, 0, 0, redDesc, [(0, 0)], 1, [⟨0, []⟩], 0⟩ ∧
    (⟨9, 0, 0, redDesc, [(0, 0)], 1, [⟨0, []⟩], 0⟩ : RedRoot).accepts 0 0 = true ∧ (⟨9, 0, 0, redDesc, [(0, 0)], 1, [⟨0, [(0, [])]⟩], 0⟩ : RedRoot).accepts 0 0 = false ∧
    (0 : Nat) ∈ (⟨10, redDesc, 0, 0, [], [0], []⟩ : RedContrib).sent ∧ ([] : List Nat).length + 1 ≠ redSegments redDesc.toNat ∧
    ((reducing [(0, [])] []).action 9).isSome = true ∧ (reducing [(0, [])] []).fabricMay = true ∧ [((0 : Nat), ([] : Bytes))].length = [((0 : Nat), (0 : Nat))].length := by decide +kernel
/-- An exchange of tag 6 before its allocation, and a remote request outstanding when the wait of a halt is over. -/
def exchanging : State := { ready with
  alm := { actions := [⟨9, 0, 0, 0, 0, ⟨0, 7, 0, 0, 0, 0, 0, 0, 1, 0, 0, 0, false⟩, 1, false⟩] }
  fab := { exchanges := [⟨9, BitVec.ofNat 1024 (6 * 2 ^ 960), [], [], [], false, [], 3, [], 0, 0⟩] } }
theorem test_Tokens_witness :
    ready.exchOf (frameOf 0x38 6 (List.replicate 16 0)) = none ∧ (ready.addPart (frameOf 0x38 6 (List.replicate 16 0))).inboxBytes 0 ≤ 2 ^ 20 ∧
    (exchanging.exchOf (frameOf 0x3A (txTag (6 * 2 ^ 960)) (List.replicate 16 0))).isSome = true ∧ (exchanging.action 9).isSome = true ∧
    ({ withReq (remoteReq .load) with fab := { haltWait := some 0 }, time := { sdt := PerDie.all 1600000, counting := true } } : State).unanswered ≠ [] ∧
    0 + 1600000 ≤ ({ withReq (remoteReq .load) with time := { sdt := PerDie.all 1600000, counting := true } } : State).sdt := by decide +kernel

/-- An inbox that holds one count vector, which no exchange has taken. -/
def inboxOf (counts : List Nat) : State := { ready with fab := { tokInbox := [⟨6, 0, 0, 0, 0, [(0, counts)]⟩] } }
theorem inboxOf_bytes (counts : List Nat) : (inboxOf counts).inboxBytes 0 = 4 * counts.length := by
  simp [inboxOf, State.inboxBytes, State.claimed, ready]
/-- An inbox of more than 1 MiB. -/
theorem test_Inbox_full : 2 ^ 20 < (inboxOf (List.replicate (2 ^ 18 + 1) 0)).inboxBytes 0 := by
  rw [inboxOf_bytes, List.length_replicate]; norm_num

/-- Link 0 in Ethernet mode with a packet unacknowledged. -/
def etherUp : State := { linked .ethUp with eth := [(0, { unacked := [(0, [1])] })] }
/-- FabricRegistersAndEthernet: a commit with no Almanac and with one running, a new geometry, a new incarnation, Ethernet links. -/
theorem test_FabricRegisters_witness :
    ready.mayWrite (.bar0 0) 0x2740 0 = true ∧ ready.running = false ∧ (almanac .running).mayWrite (.bar0 0) 0x2740 0 = true ∧ (almanac .running).running = true ∧
    (match findEntry 0x2700 1 with | some e => decide (8 < 2 ^ (8 * e.size)) && ready.shortCheck e 1 8 == 0 | none => false) = true ∧ ready.mayWrite (.bar0 0) 0x2700 1 = true ∧
    ready.mayWrite (.bar0 0) 0x2701 0 = true ∧ ((linked .ethTraining).link 0).state = .ethTraining ∧ (linked .ethTraining).linksOn = true ∧
    (etherUp.link 0).state = .ethUp ∧ etherUp.ethBarred 0 = false ∧ ({ etherUp with time := { sdt := PerDie.all 0x100000000, counting := true } } : State).elapsed (etherUp.ethPort 0).progress (1600 * etherUp.dget 0x2758 0) = true ∧ ({ etherUp with fab := { etherUp.fab with fenced := true } } : State).ethBarred 0 = true ∧
    parseNet [] = none ∧ etherUp.ethLive 0 = true ∧ (etherUp.ethPort 0).unacked ≠ [] := by decide +kernel

/-! ### Witnesses: host ports and the Object Dictionary -/

/-- A piece of a mover on host port 0. -/
def hostReq (kind : ReqKind) : Req := { slateReq kind false false with agent := .mover 0 0, target := .host 0 0x1000 }
/-- HostPorts: resets, BAR2 at both ends of its bounds, in Dim mode too, the mirror's period, a gate and a mover's piece. -/
theorem test_HostPorts_witness :
    ready.portsUp = true ∧ ready.portAnswers 0 = true ∧ (0 % 4096 + 4096 ≤ 4096 ∧ 0 + 4096 ≤ 2 ^ (ready.port 0).bar2) ∧
    ({ ready with boot := { mode := .dim, inReset := false } } : State).portAnswers 0 = true ∧ ready.boot.mode ≠ .dim ∧ ready.cache.fills = [] ∧ ready.cache.under = [] ∧
    ({ ready with host := {} } : State).portAnswers 0 = false ∧ (withReq (hostReq .load)).atHost 0 (hostReq .load) = true ∧ (hostReq .load).done = false ∧
    bar2Reaches (ready.bar2Lpa 0 0) 256 = true ∧ bar2Reaches (ready.bar2Lpa 0 0x12000000000) 1 = false ∧ ready.bar2Lpa 0 0 % 256 + 256 ≤ 256 ∧
    ready.mayWrite (.bar0 1) 0x1121 2 = true ∧ ready.mayWrite (.bar0 0) 0x1124 0 = true ∧ field 0x1FFF 0 12 ≠ 0 ∧
    (withReq (hostReq .store)).req 7 = some (hostReq .store) ∧ (withReq (hostReq .load)).req 7 = some (hostReq .load) ∧ ((withReq (hostReq .load)).port 0).l0 = true := by decide +kernel

/-- An ADMIN key in slot 1 with session 1 open, and its port. -/
def keyed : State := { ready.lset 0x1210 1 (List.replicate 32 1 ++ [3] ++ List.replicate 7 0) with prot := { sessions := [⟨1, 0, 0⟩], nextSession := 2, mgmtUp := true } }
def admin : Via := .key 0 (some 1)
/-- RegisterWrite: an entry that is not there, a long one and a value too wide, a constant, one out of range, one that is taken, RWA while RUNNING, a unit in a start and in Dim, security over BAR0. -/
theorem test_RegisterWrite_witness :
    ready.power.hkUp = true ∧ ready.viaMay (.bar0 0) = true ∧ findEntry 0x0001 0 = none ∧
    (match findEntry 0x1210 1 with | some e => e.isLong && e.access == .rws && e.index == 0x1210 | none => false) = true ∧ keyed.hasAdmin = true ∧
    (match findEntry 0x2701 0 with | some e => !e.isLong && decide (2 ^ (8 * e.size) ≤ 65536) && e.access == .rwa && (ready.writeCode (.bar0 0) e 0 == 0) && (ready.shortCheck e 0 65535 == 0) &&
      ((almanac .running).authority (.bar0 0) e == 0) && !dimServed e.index | none => false) = true ∧
    (match findEntry 0x1101 1 with | some e => e.access == .ro && dimServed e.index && (ready.authority (.bar0 0) e == 0) | none => false) = true ∧
    (match findEntry 0x2001 0 with | some e => decide (e.max < 4096) && (ready.shortCheck e 0 4096 == 0x06) | none => false) = true ∧
    (bar0Place 0 (slotOffset 0x2001 0) = .slot 0x2001 0 0 ∧ bar0Place 0 (slotOffset 0x2001 0 + 4) = .slot 0x2001 0 4 ∧ bar0Fits (slotOffset 0x2001 0) 4 256 = true ∧
      bar0Fits (slotOffset 0x2001 0 + 4) 4 256 = true ∧ (match findEntry 0x2001 0 with | some e => !e.isLong && e.size == 2 | none => false) = true) ∧
    otherWindow (.bar0 0) 0x1106 = true ∧ otherWindow (.bar0 0) 0x1105 = false ∧ otherWindow (.bar0 0) 0x2701 = false ∧
    (almanac .running).alm.state ∈ [AlmanacState.checking, .armed, .running, .paused] ∧ ({ ready with boot := { mode := .starting, inReset := false, phase := 5 } } : State).boot.mode = .starting := by decide +kernel
/-- Port 0 with the key slot 2 entry selected, and bytes staged for it. -/
def selected : State :=
  { ready with host := { ready.host with p0 := { ready.host.p0 with segSelect := 0x121002, segStage := some (List.replicate 32 2 ++ [3] ++ List.replicate 7 0) } } }
/-- LongEntries: select, snapshot, write, commit and discard of a segment, and an operator key. -/
theorem test_LongEntries_witness :
    ready.mayWrite (.bar0 0) 0x1105 1 = true ∧ field 0x121002 8 16 = 0x1210 ∧ field 0x121002 0 8 = 2 ∧ ready.mayWrite (.bar0 0) 0x1105 2 = true ∧
    (match selected.segEntry 0 with | some (i, n, e) => i == 0x1210 && n == 2 && e.isLong && (selected.unitCode i != 0x0A) && decide (entrySize e = 40) &&
      (match (selected.port 0).segStage with | some bs => (selected.writeLong (.bar0 0) e n bs).2 == 0 | none => false) | none => false) = true ∧
    (selected.port 0).stageLost = false ∧ bar0Place (0 : Fin 2) 0x7800008 = .window 8 ∧ bar0Place (1 : Fin 2) 0x7C00008 = .window 8 ∧ bar0Fits 0x7800008 8 4096 = true ∧
    (let s : State := { selected with host := { p0 := { l0 := true, segSnap := some (List.replicate 40 0), stageLost := true } } }
     (s.port 0).segLost = false ∧ (s.port 0).segSnap = some (List.replicate 40 0) ∧ (s.port 0).stageLost = true ∧ s.mayWrite (.bar0 0) 0x1105 2 = true ∧ s.viaMay (.bar0 0) = true ∧
     s.dget 0x1105 4 + 8 + 8 ≤ 40) ∧ selected.dget 0x1105 4 + 32 + 8 ≤ 40 ∧ (8 ∣ 32 ∧ 32 + 8 ≤ 0x400000) ∧
    keyed.mayWriteLong admin 0x1210 (2 : Nat) = true ∧ keyed.longCheck 0x1210 2 (cleanLong 0x1210 (List.replicate 40 0)) = 0 := by decide +kernel
/-- DictionaryProtocol: sessions with room and without, a session and a segment that have stood too long, a mailbox; each check of R406 failing at its bound. -/
theorem test_DictionaryProtocol_witness :
    keyed.dpServed = true ∧ keyed.prot.mgmtUp = true ∧ keyed.dpDatagram [] = none ∧ dpForm 0x01 [] = true ∧
    keyed.dpAuthentic ⟨1, 0x10, true, false, false, 0, 65537, 0, 0, 1, List.replicate 16 0⟩ true = true ∧
    keyed.dpAuthentic ⟨1, 0x10, true, false, false, 0, 65536, 0, 0, 1, []⟩ true = false ∧ keyed.dpAuthentic ⟨1, 0x10, true, false, false, 0, 65537, 0, 0, 2, []⟩ true = false ∧
    keyed.prot.sessions.length < 4 ∧ keyed.sessionCode ⟨1, 0x11, true, false, false, 1, 0, 0, 0, 1, []⟩ = 0 ∧
    (∃ x ∈ keyed.prot.sessions, x.id = 1 ∧ ({ keyed with time := { sdt := PerDie.all 96000000000, counting := true } } : State).elapsed x.last 96000000000 = true) ∧
    4 ≤ (List.replicate 4 (⟨1, 0, 0⟩ : Session)).length ∧
    (∃ g ∈ ({ keyed with prot := { segs := [⟨1, 0x1210, 2, some [], none, false, false, 0⟩, ⟨2, 0x1210, 2, some [], none, false, false, 0⟩] } } : State).prot.segs, g.holder = 1 ∧ g.stands = true ∧
      ({ keyed with time := { sdt := PerDie.all 0x100000000, counting := true } } : State).segIdle g = true) ∧
    ({ ready with host := { p0 := { mbox := some [] } } } : State).port 0 = { mbox := some [] } ∧ parseDp [] = none := by decide +kernel
/-- The source of the datagrams below: this station's address with every bit inverted, so that the two cancel in a checksum. -/
def dpPeer : Bytes := mgmtAddress.map (fun b => ~~~b)
theorem onesSum_peer (r : Bytes) : onesSum (dpPeer ++ mgmtAddress ++ r) = 524280 + onesSum r := by
  obtain ⟨a, b, c, d, e, f, h⟩ : ∃ a b c d e f : Byte, mgmtAddress = [0xFE, 0x80, 0, 0, 0, 0, 0, 0, a, b, c, 0xFF, 0xFE, d, e, f] := ⟨_, _, _, _, _, _, rfl⟩
  have k (x : Byte) : (~~~x).toNat + x.toNat = 255 := by simp [BitVec.toNat_not]; omega
  have := k a; have := k b; have := k c; have := k d; have := k e; have := k f
  simp only [dpPeer, h, List.map_cons, List.map_nil, List.cons_append, List.nil_append, onesSum]
  simp
  omega
theorem netChecksum_peer (x : Bytes) : netChecksum dpPeer mgmtAddress 17 x = foldSum (524280 + onesSum (natBe 4 x.length ++ natBe 4 17) + onesSum x) := by
  simp only [netChecksum, List.append_assoc]
  rw [← List.append_assoc, onesSum_peer]
/-- A signed message of type t with key slot 1 and COUNTER 65,537, to serial 5, without a body (R402). -/
def dpMsg (t : Byte) : Bytes := [1, t, 1, 0] ++ List.replicate 4 0 ++ natLe 8 65537 ++ List.replicate 4 0 ++ natLe 8 5 ++ [0, 0] ++ [1, 0] ++ List.replicate 64 0
/-- It in a datagram for the protocol's port, in a frame for this station. -/
def dpFrame (t : Byte) : Bytes :=
  (⟨mgmtMacBytes, List.replicate 6 2, 0, 0, 0, 17, 64, dpPeer, mgmtAddress, udpBytes dpPeer mgmtAddress 50000 49601 (dpMsg t)⟩ : NetPacket).encode
def udpOf (t : Byte) : Bytes :=
  let head := fun c => natBe 2 50000 ++ natBe 2 49601 ++ natBe 2 104 ++ natBe 2 c
  let x := head 0 ++ dpMsg t
  let c := foldSum (524280 + onesSum (natBe 4 x.length ++ natBe 4 17) + onesSum x)
  head (if c = 0 then 0xFFFF else c) ++ dpMsg t
theorem udpBytes_peer (t : Byte) : udpBytes dpPeer mgmtAddress 50000 49601 (dpMsg t) = udpOf t := by
  simp only [udpBytes, netChecksum_peer]; rfl
theorem sum_udpOf : ∀ t ∈ ([0x01, 0x02, 0x10, 0x11, 0x20] : List Byte), foldSum (524280 + onesSum (natBe 4 (udpOf t).length ++ natBe 4 17) + onesSum (udpOf t)) = 0 ∧
  beAt (udpOf t) 4 2 = 104 ∧ (udpOf t).length = 104 ∧ beAt (udpOf t) 6 2 ≠ 0 ∧ beAt (udpOf t) 0 2 = 50000 ∧ beAt (udpOf t) 2 2 = 49601 ∧ (udpOf t).drop 8 = dpMsg t := by decide +kernel
theorem slice_skip (a b : Bytes) (o n : Nat) (h : a.length ≤ o) : slice (a ++ b) o n = slice b (o - a.length) n := by
  simp [slice, List.drop_append, List.drop_eq_nil_of_le h]
theorem slice_here (b c : Bytes) (n : Nat) (h : b.length = n) : slice (b ++ c) 0 n = b := by
  simp [slice, ← h]
theorem slice_all (b : Bytes) (n : Nat) (h : b.length = n) : slice b 0 n = b := by
  simp [slice, ← h]
theorem natBe_length (n k : Nat) : (natBe n k).length = n := by induction n generalizing k <;> simp_all [natBe, natLe]
/-- A frame built from its parts is read back, whatever the station's address. -/
theorem parseNet_encode (m s x y z : Bytes) (hm : m.length = 6) (hs : s.length = 6) (hx : x.length = 16) (hy : y.length = 16) (hz : z.length = 104) :
    parseNet (⟨m, s, 0, 0, 0, 17, 64, x, y, z⟩ : NetPacket).encode = some ⟨m, s, 0, 0, 0, 17, 64, x, y, z⟩ := by
  have h1 : beNat (natBe 2 0x86DD) = 0x86DD := by decide
  have h2 : beNat (natBe 4 1610612736) = 1610612736 := by decide
  have h6 : slice z 0 104 = z := slice_all z 104 hz
  have h3 : beNat (natBe 2 104) = 104 := by decide
  have h4 : beNat (natBe 1 17) = 17 := by decide
  have h5 : beNat (natBe 1 64) = 64 := by decide
  simp (disch := simp [hm, hs, hx, hy, natBe_length]) only [parseNet, NetPacket.encode, beAt, hz, List.append_assoc, ite_true, List.nil_append, slice_skip, hm, hs, hx, natBe_length, slice_here, Nat.reduceSub]
  simp (disch := simp [hm, hs, hx, hy, natBe_length]) [h1, h2, h3, h4, h5, h6, slice_skip, slice_here, hm, hs, hx, hy, hz, natBe_length, field]

/-- The message stands 62 bytes into an untagged frame. -/
theorem dpFrame_data (t : Byte) (h : t ∈ ([0x01, 0x02, 0x10, 0x11, 0x20] : List Byte)) :
    (dpFrame t).drop (if beNat (slice (dpFrame t) 12 2) = 0x8100 then 66 else 62) = dpMsg t := by
  obtain ⟨_, _, _, _, _, _, hd⟩ := sum_udpOf t h
  have h1 : beNat (natBe 2 0x86DD) = 0x86DD := by decide
  have hm : mgmtMacBytes.length = 6 := rfl
  have hx : dpPeer.length = 16 := rfl
  have hy : mgmtAddress.length = 16 := rfl
  have e : beNat (slice (dpFrame t) 12 2) = 0x86DD := by
    simp (disch := simp [hm, natBe_length]) only [dpFrame, NetPacket.encode, List.append_assoc, if_true, List.nil_append, slice_skip, hm, slice_here, h1,
      List.length_replicate, Nat.reduceSub]
  have k : ∀ a b : Bytes, a.length = 54 → (a ++ b).drop 62 = b.drop 8 := fun a b h => by simp [List.drop_append, h]
  rw [e, if_neg (by decide), dpFrame, udpBytes_peer, NetPacket.encode, k, hd]
  simp [hm, hx, hy, natBe_length]
theorem dpFrame_parses (t : Byte) (h : t ∈ ([0x01, 0x02, 0x10, 0x11, 0x20] : List Byte)) (s : State) (hp : s.dget 0x1150 1 = 49601) :
    s.dpDatagram (dpFrame t) = some (⟨mgmtMacBytes, List.replicate 6 2, 0, 0, 0, 17, 64, dpPeer, mgmtAddress, udpOf t⟩, 50000, dpMsg t) := by
  obtain ⟨hsum, hlen, hl, hc, hsp, hdp, hd⟩ := sum_udpOf t h
  have hk : netChecksum dpPeer mgmtAddress 17 (udpOf t) = 0 := by rw [netChecksum_peer]; exact hsum
  have hu : (⟨mgmtMacBytes, List.replicate 6 2, 0, 0, 0, 17, 64, dpPeer, mgmtAddress, udpOf t⟩ : NetPacket).udp = some (50000, 49601, dpMsg t) := by
    simp only [NetPacket.udp, NetPacket.sumOk, hk, hlen, hl, hsp, hdp, hd]; simp [hc]
  have hm : (dpMsg t).length ≤ 1232 := by simp [dpMsg, natLe]
  simp only [State.dpDatagram, dpFrame, udpBytes_peer]
  rw [parseNet_encode _ _ _ _ _ rfl rfl rfl rfl hl]
  simp only [hu, hp, hm, and_self, if_true]

/-- A module of serial 5, whose slot 1 holds a key. -/
def served : State := { keyed with fuse := { keyed.fuse with serial := 5 } }
/-- DictionaryProtocol: for each type of request a frame that brings it, authentic or not by the verdict on its signature. -/
theorem test_DictionaryProtocol_frames (t : Byte) (h : t ∈ ([0x01, 0x02, 0x10, 0x11, 0x20] : List Byte)) :
    ∃ p sport data m, served.dpDatagram (dpFrame t) = some (p, sport, data) ∧ parseDp data = some m ∧ dpForm t.toNat (dpFrame t) = true ∧
      served.dpTakes m = true ∧ served.dpAuthentic m true = true ∧ served.dpAuthentic m false = false ∧ ({ served with fuse := { served.fuse with serial := 1 } } : State).dpTakes m = false := by
  have hd : ∀ t ∈ ([0x01, 0x02, 0x10, 0x11, 0x20] : List Byte), parseDp (dpMsg t) = some ⟨1, t.toNat, true, false, false, 0, 65537, 0, 5, 1, []⟩ ∧
      (decide ((dpMsg t).length < 2) || leAt (dpMsg t) 1 1 == t.toNat) = true ∧ served.dpTakes ⟨1, t.toNat, true, false, false, 0, 65537, 0, 5, 1, []⟩ = true ∧
      ({ served with fuse := { served.fuse with serial := 1 } } : State).dpTakes ⟨1, t.toNat, true, false, false, 0, 65537, 0, 5, 1, []⟩ = false ∧
      served.dget 0x1150 1 = 49601 := by decide +kernel
  have ha : ∀ n, served.dpAuthentic ⟨1, n, true, false, false, 0, 65537, 0, 5, 1, []⟩ true = true := by
    have hr : served.role 0 = 3 ∧ served.replay 0 = 65536 := by decide +kernel
    simp [State.dpAuthentic, hr]
  obtain ⟨h1, h2, h3, h4, h5⟩ := hd t h
  refine ⟨_, _, _, _, dpFrame_parses t h served h5, h1, ?_, h3, ha _, by simp [State.dpAuthentic], h4⟩
  rw [dpForm, dpFrame_data t h]
  exact h2

/-- The I3C target with address 8. -/
def addressed : State := { ready with prot := { i3cAddr := some 8, spdm := [(0, 3), (1, 1), (2, 4)] } }
/-- ManagementAndI3c: MCTP messages of each kind; vendor messages that begin with the module's own vendor ID. -/
theorem test_Management_witness :
    addressed.i3cServed = true ∧ addressed.viaMay .i3c = true ∧ mctpData 1 [0, 0x80, 1, 0, 8] = some [0, 8] ∧ mctpData 1 [0, 0x80, 1, 0, 255] = some [0, 255] ∧
    mctpData 2 [0, 0x80, 2] = some [] ∧ mctpData 4 [0, 0x80, 4, 0x7E] = some [0x7E] ∧ mctpData 4 [0, 0x80, 4, 1] = some [1] ∧ mctpData 5 [0, 0x80, 5] = some [] ∧
    (match findEntry 0x1001 0 with | some e => bit e.flags 2 && !e.isLong | none => false) = true ∧ (match findEntry 0x2701 0 with | some e => !bit e.flags 2 | none => false) = true := by decide +kernel
theorem test_Vendor_witness (d : Bytes) (code n : Nat) (hd : d.length = n) (hc : code < 256) : vendorData code n (vendorHead ++ natLe 1 code ++ d) = some d := by
  have hl : vendorHead.length = 3 := by simp [vendorHead, natLe, natBe]
  obtain ⟨x, y, z, hv⟩ : ∃ x y z, vendorHead = [x, y, z] := by
    match h : vendorHead, hl with
    | [x, y, z], _ => exact ⟨x, y, z, rfl⟩
  have hlt : code % 256 = code := Nat.mod_eq_of_lt hc
  simp [vendorData, hv, natLe, hd, leAt, slice, leNat, hlt]
  omega

/-! ### Witnesses: the start, firmware and attestation -/

/-- A package in a start at a phase, its PLLs locked or not. -/
def starting (phase : Nat) (pll : Nat) : State := { State.reset with boot := { mode := .starting, inReset := false, phase := phase, running := 0 }, clk := { pll := PerDie.all pll } }
/-- The header of an image with the four components (R415), of an SVN and signer. -/
def imageHeader (svn : Nat) (signer : Byte) : Bytes :=
  natLe 4 0x5346574D ++ [1, 0] ++ natLe 2 svn ++ natLe 4 0x01000000 ++ [signer, 0, 0, 0] ++ List.replicate 104 0 ++
    (([1, 2, 3, 4] : List Byte).map (fun ty => List.replicate 8 0 ++ [ty] ++ List.replicate 7 0)).flatten ++ List.replicate 72 0
/-- A start with the image in slot A. -/
def withImage (s : State) (svn : Nat) (signer : Byte) : State :=
  { s with boot := { s.boot with slotA := { bytes := [(0, imageHeader svn signer ++ List.replicate 768 0)], verify := 0x80 }, slotB := { bytes := [(0, List.replicate 1024 0)] } } }
def goodCheck : ImageCheck := ⟨true, true, true⟩
/-- StartSequence: every phase at its start, each outcome of IMAGE, PAIRING, CORES and MEMORY. -/
theorem test_Start_witness :
    (State.reset.boot.inReset = true ∧ State.reset.power.hkUp = true ∧ State.reset.power.supply ≠ .reset ∧ State.reset.power.reversed = false) ∧
    (∀ n ∈ [1, 2, 3, 4, 5, 6, 7, 8, 9, 10, 11], (starting n 2).atPhase n = true) ∧ (starting 4 2).pllsLocked = true ∧
    (match (starting 5 2).pair with | .ok _ => true | .error _ => false) = true ∧
    (match ({ starting 5 2 with fuse := { State.reset.fuse with answers := ⟨true, true, true, false⟩ } } : State).pair with | .ok _ => false | .error c => c == 0x21) = true ∧
    (starting 8 2).boot.memLost = true ∧ ({ starting 8 2 with boot := { (starting 8 2).boot with memLost := false } } : State).atPhase 8 = true ∧
    (∀ d : Fin 4, (starting 7 2).goodCores d (List.range 8) = 96 ∧ (starting 7 2).goodCores d (List.range 9) < 96) ∧
    (ready.boot.inReset = false ∧ ready.lodestar ready.leader = true ∧ (ready.setSdt 6400000).standbyReady = true ∧ (ready.setSdt 6400000).heartbeatsMissed = true) := by decide +kernel
theorem test_Image_witness :
    (withImage (starting 2 2) 3 0).imageVerdict 0 goodCheck = 0x80 ∧ (withImage (starting 2 2) 3 0).imageVerdict 1 goodCheck ≠ 0x80 ∧
    (withImage (starting 2 2) 3 0).imageVerdict 0 ⟨true, false, true⟩ ≠ 0x80 ∧ (withImage (starting 2 2) 3 0).boot.failedStarts < 3 ∧
    3 ≤ ({ withImage (starting 2 2) 3 0 with boot := { (withImage (starting 2 2) 3 0).boot with failedStarts := 3 } } : State).boot.failedStarts := by decide +kernel
/-- The value of a fuse below which this start may not go. -/
def keyedImage (signer : Byte) : State := withImage keyed 3 signer
/-- FirmwareAndIdentity: each command allowed; the first and a later chunk; an image that verified; SVN at its bounds; a spare core and none. -/
theorem test_Firmware_witness :
    ready.mayWriteLong (.bar0 0) 0x1304 2 = true ∧ ready.longCheck 0x1304 2 (List.replicate 1024 0) = 0 ∧ ready.dget 0x1304 1 = 0 ∧ (ready.dset 0x1304 1 1024).dget 0x1304 1 ≠ 0 ∧
    ({ ready with boot := { ready.boot with eraseChunk := some [] } } : State).boot.eraseChunk = some [] ∧
    ready.mayWrite (.bar0 0) 0x1303 0 = true ∧ ready.rwaLocked = false ∧ ready.boot.fwState ≠ 1 ∧ (ready.fwSlot ready.targetSlot).verify ≠ 0x80 ∧
    ({ ready with boot := { ready.boot with slotB := { verify := 0x80 } } } : State).targetSlot = 1 ∧
    (keyedImage 0).mayWrite admin 0x1203 0 = true ∧ (keyedImage 0).boot.running ≠ 255 ∧ (keyedImage 0).fuse.svnFloor < 3 ∧ 3 ≤ headerSvn ((keyedImage 0).fwHeader 0) ∧
    (keyedImage 1).mayWrite admin 0x1204 0 = true ∧ headerSigner ((keyedImage 1).fwHeader 0) = 1 ∧ keyed.mayWrite admin 0x2203 4 = true ∧ pget keyed.fuse.spares 3 ≠ [] ∧
    ready.mayWriteLong (.bar0 0) 0x1220 0 = true ∧ ({ ready with boot := { mode := .dim, inReset := false } } : State).mayWrite (.bar0 0) 0x1321 0 = true := by decide +kernel
/-- SpdmConnection: the DOE mailbox of a port at each state of a connection, each request by its least length. -/
theorem test_Spdm_witness :
    (∀ tr : Fin 3, addressed.spdmServed tr = true) ∧ addressed.spdmState 0 = 3 ∧ addressed.spdmState 1 = 1 ∧ addressed.spdmState 2 = 4 ∧ ready.spdmState 1 = 0 ∧
    (leAt [0x10, 0x84, 0, 0] 1 1 = 0x84 ∧ leAt [0x10, 0x84, 0, 0] 0 1 = 0x10) ∧
    (leAt ([0x12, 0xE3, 0, 0, 0, 0, 0, 0, 0, 4, 0, 0, 4] ++ List.replicate 19 0) 8 4 &&& 0x400 ≠ 0 ∧ leAt ([0x12, 0xE3, 0, 0, 0, 0, 0, 0, 0, 4, 0, 0, 4] ++ List.replicate 19 0) 12 4 &&& 0x04 ≠ 0) ∧
    leAt (List.replicate 32 0) 8 4 &&& 0x400 = 0 ∧ 0 < spdmChain.length := by
  refine ⟨?_, ?_, ?_, ?_, ?_, ?_, ?_, ?_, ?_⟩
  rotate_right
  · simp only [spdmChain, List.length_append]; have : (natLe 2 0).length = 2 := rfl; omega
  all_goals decide +kernel

/-! ### Witnesses: power, clocks, the log and the rest -/

/-- The package with its supply in a state. -/
def supplied (st : SupplyState) : State := { ready with power := { ready.power with supply := st } }
/-- SupplyStates: each state of the supply that a command meets; thresholds are operands of theirs. -/
theorem test_Supply_witness :
    (∀ st ∈ [SupplyState.normal, .warning, .low, .over], (supplied st).watched = true) ∧
    (({ State.reset with power := { State.reset.power with hkUp := false } } : State).power.hkUp = false ∧ State.reset.power.charging = false) ∧
    ((supplied .reset).power.supply = .reset ∧ (supplied .reset).power.hkUp = true ∧ (supplied .reset).power.resetOver = false) ∧
    (ready.boot.inReset = false ∧ ready.power.railFault = false ∧ ready.power.railsUp = true) ∧ (starting 3 0).boot.phase = 3 ∧
    ({ ready with power := { ready.power with railFault := true } } : State).power.railFault = true := by decide +kernel
/-- A hot package, its four sensors' maximum at 105.00 °C, since slot 0. -/
def hot : State :=
  let s : State := ready.dset 0x2830 1 10500
  { s with time := { s.time with sdt := PerDie.all 1600000000 }, power := { s.power with thermSlots := 8, hotSince := some 0, trippedAt := some 0 } }
/-- ThermalAndThrottle: a revision due, a trip, a shutdown and a cool-down due, a cutoff, steps to raise and to lower. -/
theorem test_Thermal_witness :
    hot.clockOn = true ∧ 8 ≤ hot.power.thermSlots ∧ hot.alive = true ∧ hot.power.tripped = false ∧ hot.power.hotSince = some 0 ∧ 0 + 160000 ≤ hot.sdt ∧ 10500 ≤ hot.tj 0 ∧
    hot.power.trippedAt = some 0 ∧ 0 + 16000000 ≤ hot.sdt ∧ hot.power.shutdown = false ∧ 10500 ≤ hot.tjMax ∧ 0 + 1600000000 ≤ hot.sdt ∧
    ready.watched = true ∧ (ready.dset 0x2811 3 7).throttle < (ready.dset 0x2811 3 7).demand ∧ ready.windowMay (windowBoundary ready.sdt) = true ∧
    (({ ready.dset 0x2811 1 1 with time := { ready.time with sdt := PerDie.all 43008 }, power := { ready.power with lowerFrom := some 0 } } : State).power.lowerFrom = some 0) ∧
    ({ ready.dset 0x2811 1 1 with time := { ready.time with sdt := PerDie.all 43008 } } : State).windowMay
      (windowBoundary (max 43008 (sdtOfWork (0 + 16384)))) = true := by decide +kernel
/-- PowerBackground: watched supplies and a dusk slot with nothing deferred; a margin at each side of 12 ps on a die one sample from its rise. -/
theorem test_Background_witness :
    ready.watched = true ∧ dusk.duskOn = true ∧ pget ({ dusk with power := { dusk.power with canaryLow := PerDie.all 7 } } : State).power.canaryLow 3 = 7 ∧
    dusk.dget 0x2840 4 < 60 ∧ pget ({ dusk with power := { dusk.power with raiseDue := PerDie.all true } } : State).power.raiseDue 0 = true ∧
    dusk.deferredNow sensorKey = false ∧ dusk.deferredNow phaseKey = false ∧ dusk.deferredNow dusk.power.calChannel = false ∧ dusk.served = true ∧ dusk.dget 0x2850 0 ≤ 0 ∧
    dusk.power.canaryNext ≤ dusk.duskIndex ∧ dusk.power.canaryNext < dusk.duskIndex + 4096 ∧ dusk.power.sensorNext ≤ dusk.duskIndex ∧ dusk.power.phaseNext ≤ dusk.duskIndex ∧
    dusk.power.channelNext ≤ dusk.duskIndex := by decide +kernel
/-- ClocksAndResets: PLLs locking and locked, a crossing of the package, resets asked for, due and refused. -/
theorem test_Clocks_witness :
    (pget (starting 4 1).clk.pll 0 = 1 ∧ (starting 4 1).boot.inReset = false) ∧ (ready.clockOn = true ∧ pget ready.clk.pll 0 = 2) ∧
    ({ ready with time := { ready.time with lock := .free } } : State).clk.refSource = 0 ∧ (ready.crossing 0).inReset = false ∧
    (({ ready with clk := { ready.clk with crossings := [(0, ⟨true, true, 2 ^ 32 - 1⟩)] } } : State).crossing 0).inReset = true ∧
    ready.mayWrite (.bar0 0) 0x2912 0 = true ∧ ready.mayWrite (.bar0 0) 0x2900 1 = true ∧ ready.rwaLocked = false ∧ ready.trans.preempt = .running ∧ (almanac .running).rwaLocked = true ∧
    keyed.mayWrite admin 0x2900 2 = true ∧ ({ ready with boot := { ready.boot with resetDue := some 0x09 } } : State).boot.resetDue = some 0x09 := by decide +kernel
/-- ClocksAndResets: 10 ms after a reset asked for, and 1 ms after a forced one. -/
theorem test_ResetDelays_witness :
    let s : State := { ready with boot := { ready.boot with resetDue := some 0x09, resetAt := 6144 }, time := { ready.time with sdt := PerDie.all (6144 + 16000000) } }
    s.boot.resetDue = some 0x09 ∧ s.elapsed s.boot.resetAt 16000000 = true ∧ s.elapsed s.boot.resetAt 1600000 = true ∧ ready.boot.resetDue = none := by decide +kernel
theorem test_Crossings_witness : 0 < Config.crossings := by unfold Config.crossings; omega
def record (severity : Nat) : LogRec := ⟨0, 0, 0xD6, severity, 0, 0, 0, 0, 0, 0, 0, 0, []⟩
/-- LogAndTest: a record for a queue with room, one that fills it; telemetry due; a saved package's core test; the test port with access and without. -/
theorem test_Log_witness :
    ({ ready with log := { arrivals := [record 0] } } : State).log.arrivals = [record 0] ∧ ready.log.queue.length < 3840 ∧
    (3840 ≤ (List.replicate 3840 (record 0)).length ∧ (record 0).severity ≠ 1 ∧ (List.replicate 3840 (record 0)).length < 4096) ∧
    ({ ready with log := { queue := [record 0] } } : State).log.queue = [record 0] ∧
    ({ dusk.dset 0x3030 2 1 with log := { teleDusk := 64, teleBuf := [[1]] } } : State).teleSize ≠ 0 ∧ (dusk.dset 0x3030 2 1).dget 0x3030 3 ≤ 64 ∧ dusk.deferredNow teleKey = false ∧
    (preempting .saved false).mayWrite (.bar0 0) 0x5010 0 = true ∧ (383 < 384 ∧ (0xFFFF : BitVec 16).toNat = 65535) ∧ keyed.mayWrite admin 0x5000 0 = true ∧ keyed.rwaLocked = false ∧
    (keyed.dset 0x5000 0 1).dget 0x5000 0 = 1 ∧ keyed.dget 0x5000 0 ≠ 1 ∧ keyed.power.hkUp = true ∧
    pget (⟨.idcode, .bypass, .sample, .extest⟩ : PerDie TapOp) 3 = .extest ∧ pget (⟨.idcode, .bypass, .sample, .extest⟩ : PerDie TapOp) 0 = .idcode := by decide +kernel
/-- LogAndTest: with no test access, EXTEST acts as BYPASS and the chain gives D0's IDCODE and D3's one bit. -/
theorem test_Tap_runs :
    (match exec (.tapInstruction (.idcode, .bypass) (.sample, .extest)) keyed with
      | .next u => pget u.log.tapIr 3 == .bypass && u.boot.mode == keyed.boot.mode
      | _ => false) = true := by decide +kernel
/-- LateCommands: a guard that is off, the tracking peak, ports and links in the states that each command meets, the bounds of the BAR2 size and of the input voltage. -/
theorem test_Late_witness :
    ready.mayWriteLong (.bar0 0) 0x2010 64 = true ∧ ready.longCheck 0x2010 64 (cleanLong 0x2010 (List.replicate 24 0)) = 0 ∧
    (ready.readEntry (.bar0 0) 0x3600 4).2.1 = 0 ∧ ready.portsUp = true ∧ (ready.port 0).l0 = true ∧ (ready.port 0).d3hot = false ∧
    (({ ready with host := { p0 := { l0 := true, d3hot := true } } } : State).port 0).d3hot = true ∧ (30 ≤ 42 ∧ 42 ≤ 42) ∧
    (({ ready with host := {} } : State).port 0).l0 = false ∧ ((linked .ethUp).link 0).state = .ethUp ∧ ready.viaMay .i3c = true ∧ ready.prot.i3cAddr = none ∧
    19999 < 20000 ∧ ready.lodestar 2 = true ∧ ready.leader ≠ 2 ∧ (({ ready with boot := { ready.boot with lodestar2 := false } } : State).lodestar 0 = true ∧
      ({ ready with boot := { ready.boot with lodestar2 := false } } : State).standbyReady = false) := by decide +kernel

/-! ### Witnesses: the block as a whole -/

/-- StepRunsFront: a command in front, and none with the clock on and off. -/
theorem test_Step_witness :
    ({ ready with pending := [.refSwitch, .seal] } : State).pending = .refSwitch :: [.seal] ∧ ready.pending = [] ∧ State.reset.clockOn = false ∧ ready.clockOn = true ∧
    ready.time.boundaryOpen = false ∧ ready.sdt + 1 < 2 ^ 64 ∧ ready.sdt % 2048 ≠ 2047 ∧ ready.sdt % 2048 ≠ 1983 := by decide +kernel
/-- StepKeepsMemoryCanonical, StepKeepsSessionsBounded and StepKeepsSdtAgreed: a state of every invariant from which a step answers a next state. -/
theorem test_Invariants_witness : keyed.MemoryCanonical ∧ keyed.SessionsBounded ∧ ready.SdtAgreed ∧ (match step ready with | .next _ => true | _ => false) = true := by
  refine ⟨rfl, by unfold State.SessionsBounded; decide +kernel, by intro d d'; simp [ready, pget, PerDie.all]; split <;> split <;> rfl, by decide +kernel⟩
/-- ThreadFrame and FrameNoMemory: commands of each that answer a next state. -/
theorem test_Frames_apply : threadOnly 0 0 (.cread 0 0) ∧ (match exec (.cread 0 0) (runs 0 (opWord 9 3 (2 ^ 43))) with | .next u => (u.thread 0 0).pc == 8 | _ => false) = true ∧
    (readsAtOnce .memRead = true ∧ ready.cache.fills = []) ∧ leavesMemory .linksPhaseDone = true ∧ (match exec .linksPhaseDone (starting 10 2) with | .next u => u.boot.phase == 11 | _ => false) = true := by
  refine ⟨by simp [threadOnly], ?_, ?_, ?_, ?_⟩ <;> decide +kernel
/-- BeaconAndFrameEncodings, at the greatest value of every field. -/
theorem test_Encodings_witness :
    (beaconOf (⟨255, 1023, 65535, 65535, 2 ^ 72 - 1, 255, 2 ^ 72 - 1, 2 ^ 72 - 1, 255⟩ : Beacon).bytes = ⟨255, 1023, 65535, 65535, 2 ^ 72 - 1, 255, 2 ^ 72 - 1, 2 ^ 72 - 1, 255⟩) ∧
    beaconCrcOk (⟨255, 1023, 65535, 65535, 2 ^ 72 - 1, 255, 2 ^ 72 - 1, 2 ^ 72 - 1, 255⟩ : Beacon).bytes = true ∧
    parseFrame (encodeFrame ⟨255, 1023, 1023, 65535, 65535, 15, 3, true, 2 ^ 48 - 1, [1, 2, 3]⟩) = ⟨255, 1023, 1023, 65535, 65535, 15, 3, true, 2 ^ 48 - 1, [1, 2, 3]⟩ := by decide +kernel
end Sys2Proof.Tests
end

section
/-! SUPPORT. Memory along a step: every operation of the model either leaves physical memory alone (`…_mem`) or keeps its canonical form (`…_wf`), and so every command does (`…_canonical`). The operations stand in the order of the model's files. -/
namespace Sys2Proof.Machine

/-- Every next state of the result holds memory in its canonical form. -/
def Result.Canonical (r : Result) : Prop := ∀ u, r = .next u → u.MemoryCanonical

@[simp] theorem next_canonical (s : State) : Result.Canonical (.next s) ↔ s.mem.wf = true :=
  ⟨fun h => h s rfl, fun h u e => by cases e; exact h⟩
@[simp] theorem refused_canonical (r : Refusal) : Result.Canonical (.refused r) := fun _ e => nomatch e
@[simp] theorem ite_canonical (c : Prop) [Decidable c] (s t : Result) : Result.Canonical (if c then s else t) ↔ if c then s.Canonical else t.Canonical := by
  split <;> rfl
@[simp] theorem when_canonical (c : Bool) (s t : State) : Result.Canonical (when c s t) ↔ if c then t.mem.wf = true else s.mem.wf = true := by
  cases c <;> simp [when]

@[simp] theorem State.ite_mem (c : Prop) [Decidable c] (s t : State) : (if c then s else t).mem = if c then s.mem else t.mem := apply_ite _ _ _ _
@[simp] theorem Memory.ite_wf (c : Prop) [Decidable c] (m n : Memory) : (if c then m else n).wf = if c then m.wf else n.wf := apply_ite _ _ _ _

/-- A fold whose steps leave memory alone leaves it alone. -/
@[simp] theorem State.foldl_mem {α : Type} (f : State → α → State) (hf : ∀ s a, (f s a).mem = s.mem) (l : List α) (s : State) : (l.foldl f s).mem = s.mem :=
  List.foldlRecOn (motive := fun t => t.mem = s.mem) l f rfl (fun t ht a _ => (hf t a).trans ht)
/-- A fold whose steps keep the canonical form keeps it. -/
@[simp] theorem State.foldl_wf {α : Type} (f : State → α → State) (hf : ∀ s a, s.mem.wf = true → (f s a).mem.wf = true) (l : List α) (s : State)
    (h : s.mem.wf = true) : (l.foldl f s).mem.wf = true :=
  List.foldlRecOn (motive := fun t => t.mem.wf = true) l f h (fun t ht a _ => hf t a ht)
theorem State.ite_wf {c : Prop} [Decidable c] {s t : State} (hs : s.mem.wf = true) (ht : t.mem.wf = true) : (if c then s else t).mem.wf = true := by
  split <;> assumption
theorem canonical_when (c : Bool) {s t : State} (hs : s.MemoryCanonical) (ht : t.MemoryCanonical) : Result.Canonical (when c s t) := by
  cases c
  · exact (next_canonical _).mpr hs
  · exact (next_canonical _).mpr ht
theorem when_wf (c : Bool) {s t : State} (hs : s.mem.wf = true) (ht : t.mem.wf = true) : Result.Canonical (when c s t) := canonical_when c hs ht
theorem State.canonical_ite {c : Prop} [Decidable c] {s t : State} (hs : s.MemoryCanonical) (ht : t.MemoryCanonical) : (if c then s else t).MemoryCanonical := by
  split <;> assumption
theorem State.canonical_foldl {α : Type} (f : State → α → State) (hf : ∀ s a, s.MemoryCanonical → (f s a).MemoryCanonical) (l : List α) (s : State)
    (h : s.MemoryCanonical) : (l.foldl f s).MemoryCanonical := State.foldl_wf f hf l s h

/-! ### Time, the log, votes, gates and actions -/

@[simp] theorem State.passTo_mem (s : State) (t : Nat) : (s.passTo t).mem = s.mem := by simp [State.passTo]
@[simp] theorem State.invalidLanes_mem (s : State) (g n : Nat) : (s.invalidLanes g n).mem = s.mem := by simp [State.invalidLanes]
@[simp] theorem State.vote_mem (s : State) (veto : Bool) (step src die core : Nat) : (s.vote veto step src die core).mem = s.mem := by simp [State.vote]
@[simp] theorem State.nonfiniteOn_mem (s : State) (die core step src : Nat) : (s.nonfiniteOn die core step src).mem = s.mem := by simp [State.nonfiniteOn]
@[simp] theorem State.nonfinite_mem (s : State) (die step src : Nat) : (s.nonfinite die step src).mem = s.mem := by simp [State.nonfinite]
@[simp] theorem State.bumpGate_mem (s : State) (g : Nat) (odd : Bool) : (s.bumpGate g odd).mem = s.mem := by simp [State.bumpGate]

@[simp] theorem State.localInc_mem (s : State) (g : Nat) (odd : Bool) (step die core : Nat) : (s.localInc g odd step die core).mem = s.mem := by
    simp [State.localInc]

@[simp] theorem State.completeAction_mem (s : State) (id : Nat) : (s.completeAction id).mem = s.mem := by
  unfold State.completeAction
  split <;> simp

@[simp] theorem State.countStop_mem (s : State) (agent : Nat) : (s.countStop agent).mem = s.mem := by simp [State.countStop]

/-! ### Links, flits and frames -/

@[simp] theorem State.sendControl_mem (s : State) (l : Nat) (nak : Bool) : (s.sendControl l nak).mem = s.mem := by simp [State.sendControl]
@[simp] theorem State.freeFlits_mem (s : State) (l vc n : Nat) : (s.freeFlits l vc n).mem = s.mem := by simp [State.freeFlits]

@[simp] theorem sendFlit_mem (s : State) (l : Nat) : (sendFlit s l).mem = s.mem := by
  unfold sendFlit
  dsimp only
  repeat' split
  all_goals simp

@[simp] theorem pumpLink_mem (l n : Nat) (s : State) : (pumpLink l n s).mem = s.mem := by
  induction n generalizing s with
  | zero => rfl
  | succ n ih => rw [pumpLink, ih, sendFlit_mem]

@[simp] theorem State.pump_mem (s : State) (l : Nat) : (s.pump l).mem = s.mem := by simp [State.pump]

@[simp] theorem State.enqueue_mem (s : State) (l vc : Nat) (half : Bool) (bytes : Bytes) (inLink inFlits : Nat) :
    (s.enqueue l vc half bytes inLink inFlits).mem = s.mem := by simp [State.enqueue]

@[simp] theorem State.noRoute_mem (s : State) (l tag : Nat) : (s.noRoute l tag).mem = s.mem := by simp [State.noRoute]
@[simp] theorem State.deliver_mem (s : State) (r : RxFrame) : (s.deliver r).mem = s.mem := by simp [State.deliver]

@[simp] theorem State.forward_mem (s : State) (f : Frame) (key inLink : Nat) (inHalf : Bool) (inFlits : Nat) : (s.forward f key inLink inHalf inFlits).mem = s.mem := by
  unfold State.forward
  split <;> simp

@[simp] theorem State.send_mem (s : State) (ftype dest gen die : Nat) (parity : Bool) (tf : Nat) (body : Bytes) (key : Nat) :
    (s.send ftype dest gen die parity tf body key).mem = s.mem := by simp [State.send]

@[simp] theorem State.sendOn_mem (s : State) (l ftype gen die : Nat) (parity : Bool) (tf : Nat) (body : Bytes) (dest : Nat) :
    (s.sendOn l ftype gen die parity tf body dest).mem = s.mem := by
  unfold State.sendOn
  split <;> simp

@[simp] theorem State.sendAll_mem (s : State) (ftype tf : Nat) (body : Bytes) : (s.sendAll ftype tf body).mem = s.mem := by simp [State.sendAll]

theorem State.takeFrame_mem (s : State) (ftype : Nat) (r : RxFrame) (f : Frame) (t : State) (h : s.takeFrame ftype = some (r, f, t)) : t.mem = s.mem := by
  unfold State.takeFrame at h
  split at h
  · cases h
  · cases h; rfl
/-- A command that takes a delivered frame: it keeps the canonical form if what it does with the frame does. -/
theorem takeFrame_canonical {s : State} (ftype : Nat) (k : RxFrame → Frame → State → Result) (hs : s.mem.wf = true)
    (hk : ∀ r f t, t.mem.wf = true → Result.Canonical (k r f t)) :
    Result.Canonical (match s.takeFrame ftype with | none => .next s | some (r, f, t) => k r f t) := by
  split
  · simp [hs]
  · rename_i he
    exact hk _ _ _ (by rw [State.takeFrame_mem _ _ _ _ _ he]; exact hs)

@[simp] theorem State.freeFrame_mem (s : State) (r : RxFrame) : (s.free_ r).mem = s.mem := by simp [State.free_]

/-! ### Stores, the Loft and Eaves caches and requests -/

@[simp] theorem State.store_wf (s : State) (a : Nat) (bs : Bytes) (h : s.mem.wf = true) : (s.store a bs).mem.wf = true := by
  induction bs generalizing s a with
  | nil => exact h
  | cons b bs ih => exact ih _ _ (Memory.set_wf _ _ _ h)

@[simp] theorem State.poisonSector_mem (s : State) (storage : Nat) : (s.poisonSector storage).mem = s.mem := by simp [State.poisonSector]
@[simp] theorem State.eccCorrected_mem (s : State) (storage sub unit : Nat) : (s.eccCorrected storage sub unit).mem = s.mem := by simp [State.eccCorrected]
@[simp] theorem State.poisonFound_mem (s : State) (storage : Nat) : (s.poisonFound storage).mem = s.mem := by simp [State.poisonFound]

@[simp] theorem State.memoryPoison_mem (s : State) (lpa : Nat) (src : Source) (die step loc sub : Nat) : (s.memoryPoison lpa src die step loc sub).mem = s.mem := by
    simp [State.memoryPoison]

@[simp] theorem State.outcome_mem (s : State) (die useful late unused : Nat) : (s.outcome die useful late unused).mem = s.mem := by simp [State.outcome]

@[simp] theorem State.loftEvict_mem (s : State) (l : LoftLine) : (s.loftEvict l).mem = s.mem := by
  unfold State.loftEvict
  split <;> simp

@[simp] theorem State.loftInstall_mem (s : State) (l : LoftLine) : (s.loftInstall l).mem = s.mem := by
  unfold State.loftInstall
  dsimp only
  split <;> simp

@[simp] theorem State.loftRefresh_mem (s : State) (l : LoftLine) : (s.loftRefresh l).mem = s.mem := by simp [State.loftRefresh]

@[simp] theorem State.loftTouch_mem (s : State) (l : LoftLine) : (s.loftTouch l).mem = s.mem := by
  unfold State.loftTouch
  split <;> simp

@[simp] theorem State.checkSector_mem (s : State) (line : Nat) : (s.checkSector line).mem = s.mem := by
  unfold State.checkSector
  split <;> simp

@[simp] theorem State.exportLine_mem (s : State) (line : Nat) : (s.export_ line).mem = s.mem := by simp [State.export_]

@[simp] theorem State.markWrite_mem (s : State) (a n : Nat) (alloc : Bool) (src : Source) (loc sub step : Nat) :
    (s.markWrite a n alloc src loc sub step).mem = s.mem := by
  unfold State.markWrite
  dsimp only
  repeat' split
  all_goals simp

@[simp] theorem State.countGuards_mem (s : State) (gs : List Nat) : (s.countGuards gs).mem = s.mem := by simp [State.countGuards]

@[simp] theorem State.putBytes_wf (s : State) (gs : List Nat) (a : Nat) (bs : Bytes) (h : s.mem.wf = true) : (s.putBytes gs a bs).mem.wf = true := by
    simp [State.putBytes, h]

@[simp] theorem State.putSector_wf (s : State) (gs : List Nat) (a : Nat) (bs : Bytes) (h : s.mem.wf = true) : (s.putSector gs a bs).mem.wf = true := by
    simp [State.putSector, h]

@[simp] theorem State.acceptWrite_wf (s : State) (a : Nat) (bs : Bytes) (alloc : Bool) (src : Source) (loc sub step : Nat) (h : s.mem.wf = true) :
    (s.acceptWrite a bs alloc src loc sub step).mem.wf = true := by
  have hw : ((s.markWrite a bs.length alloc src loc sub step).countGuards (s.watching a bs.length)).mem.wf = true := by simp [h]
  unfold State.acceptWrite
  dsimp only
  generalize (s.markWrite a bs.length alloc src loc sub step).countGuards (s.watching a bs.length) = t at hw
  split
  · exact State.ite_wf (by simp [hw]) (State.foldl_wf _ (fun s p hs => by simp [hs]) _ _ hw)
  · exact State.ite_wf (by simp [hw]) (State.foldl_wf _ (fun s p hs => by simp [hs]) _ _ hw)
  · simp [hw]

@[simp] theorem State.applyWrite_wf (s : State) (a : Nat) (bs : Bytes) (alloc : Bool) (src : Source) (loc sub step : Nat) (h : s.mem.wf = true) :
    (s.applyWrite a bs alloc src loc sub step).mem.wf = true := by
  unfold State.applyWrite
  split <;> simp [h]

@[simp] theorem State.applyAdd_wf (s : State) (a fmt : Nat) (bs : Bytes) (src : Source) (loc sub step : Nat) (h : s.mem.wf = true) :
    (s.applyAdd a fmt bs src loc sub step).1.mem.wf = true := by
  unfold State.applyAdd
  split
  · simp [h]
  · exact State.foldl_wf _ (fun s p hs => State.ite_wf hs (by simp [hs])) _ _ (by simp [h])

@[simp] theorem State.eavesTouch_mem (s : State) (l : EavesLine) : (s.eavesTouch l).mem = s.mem := by simp [State.eavesTouch]

@[simp] theorem State.eavesInstall_mem (s : State) (die line : Nat) (sectors : BitVec 8) (off : Nat) (bs : Bytes) :
    (s.eavesInstall die line sectors off bs).mem = s.mem := by
  rw [State.eavesInstall]

@[simp] theorem State.eavesDrop_mem (s : State) (die : Nat) (t : Target) : (s.eavesDrop die t).mem = s.mem := by
  unfold State.eavesDrop
  split <;> simp

@[simp] theorem State.eavesInvalidate_mem (s : State) : s.eavesInvalidate.mem = s.mem := by simp [State.eavesInvalidate]
@[simp] theorem State.mapReq_mem (s : State) (id : Nat) (f : Req → Req) : (s.mapReq id f).mem = s.mem := by simp [State.mapReq]

@[simp] theorem State.perform_wf (s : State) (r : Req) (h : s.mem.wf = true) : (s.perform r).mem.wf = true := by
  unfold State.perform
  dsimp only
  repeat' split
  all_goals simp [h]

@[simp] theorem State.serve_wf (s : State) (r : Req) (line : Nat) (h : s.mem.wf = true) : (s.serve r line).mem.wf = true := by simp [State.serve, h]

@[simp] theorem State.loftEcc_mem (s : State) (line : Nat) (e : EccEvent) : (s.loftEcc line e).mem = s.mem := by
  unfold State.loftEcc
  repeat' split
  all_goals simp

@[simp] theorem State.memoryEcc_mem (s : State) (line : Nat) (e : EccEvent) : (s.memoryEcc line e).mem = s.mem := by
  unfold State.memoryEcc
  split <;> simp

@[simp] theorem State.readEcc_mem (s : State) (line : Nat) (e : EccEvent) : (s.readEcc line e).mem = s.mem := by simp [State.readEcc]

@[simp] theorem State.landFill_wf (s : State) (f : Fill) (e : EccEvent) (h : s.mem.wf = true) : (s.landFill f e).mem.wf = true := by
  unfold State.landFill
  refine State.foldl_wf _ (fun s id hs => ?_) _ _ ?_
  · split <;> simp [hs]
  · split
    · simpa using h
    · split
      · split <;> simpa using h
      · simpa using h

@[simp] theorem State.settle_wf (s : State) (line : Nat) (h : s.mem.wf = true) : (s.settle line).mem.wf = true := by
  unfold State.settle
  split <;> simp [h]

@[simp] theorem State.settleRead_wf (s : State) (line : Nat) (h : s.mem.wf = true) : (s.settleRead line).mem.wf = true := by
  unfold State.settleRead
  split <;> simp [h]

@[simp] theorem State.loftRead_wf (s : State) (a n : Nat) (alloc : Bool) (h : s.mem.wf = true) : (s.loftRead a n alloc).mem.wf = true := by
  unfold State.loftRead
  dsimp only
  repeat' split
  all_goals simp [h]

@[simp] theorem State.loftReads_wf (s : State) (a n : Nat) (alloc : Bool) (h : s.mem.wf = true) : (s.loftReads a n alloc).mem.wf = true :=
  State.foldl_wf _ (fun s p hs => s.loftRead_wf p.1 p.2 alloc hs) _ _ h

@[simp] theorem State.arriveWrite_wf (s : State) (die a : Nat) (bs : Bytes) (alloc : Bool) (src : Source) (loc sub step : Nat) (h : s.mem.wf = true) :
    (s.arriveWrite die a bs alloc src loc sub step).mem.wf = true :=
  State.foldl_wf _ (fun s p hs => by simp [hs]) _ _ h

@[simp] theorem State.ownWrite_wf (s : State) (a : Nat) (bs : Bytes) (h : s.mem.wf = true) : (s.ownWrite a bs).mem.wf = true :=
  State.foldl_wf _ (fun s p hs => by split <;> simp [hs]) _ _ h

@[simp] theorem State.forgetBytes_wf (s : State) (a n : Nat) (src : Source) (loc sub step : Nat) (h : s.mem.wf = true) : (s.forgetBytes a n src loc sub step).mem.wf = true := by
  unfold State.forgetBytes
  split
  · simpa using h
  · exact Memory.forget_wf _ _ _ _ (by simp [h])

@[simp] theorem State.rewriteStamp_wf (s : State) (g : Nat) (h : s.mem.wf = true) : (s.rewriteStamp g).mem.wf = true := by simp [State.rewriteStamp, h]

/-! ### Walks, translations, parks and engine reads -/

@[simp] theorem State.fillTlb_mem (s : State) (c : XCtx) (e : TlbEntry) : (s.fillTlb c e).mem = s.mem := by
  unfold State.fillTlb
  split <;> simp

@[simp] theorem walkLevels_wf (die asid va : Nat) (lvs : List Level) (table : Nat) (s : State) (h : s.mem.wf = true) :
    (walkLevels die asid va lvs table s).1.mem.wf = true := by
  induction lvs generalizing table s with
  | nil => exact h
  | cons lv rest ih =>
    unfold walkLevels
    dsimp only
    split
    · simp [h]
    · repeat' split
      all_goals simp [h, ih]

@[simp] theorem State.peakAt_mem (s : State) (die n : Nat) : (s.peakAt die n).mem = s.mem := by simp [State.peakAt]
@[simp] theorem State.notePeak_mem (s : State) (die : Nat) : (s.notePeak die).mem = s.mem := by simp [State.notePeak]
@[simp] theorem State.noteOne_mem (s : State) (die : Nat) : (s.noteOne die).mem = s.mem := by simp [State.noteOne]

@[simp] theorem State.walk_wf (s : State) (die asid va : Nat) (h : s.mem.wf = true) : (s.walk die asid va).1.mem.wf = true := by
  unfold State.walk
  dsimp only
  repeat' split
  all_goals simp [h]

@[simp] theorem State.walkFor_wf (s : State) (c : XCtx) (h : s.mem.wf = true) : (s.walkFor c).1.mem.wf = true := by
  unfold State.walkFor
  split
  · exact h
  · have hw := s.walk_wf c.die c.asid c.va h
    split <;> rename_i he <;> rw [he] at hw
    case h_4 => split <;> simp [hw]
    all_goals exact hw

@[simp] theorem State.translate_wf (s : State) (c : XCtx) (h : s.mem.wf = true) : (s.translate c).1.mem.wf = true := by
  unfold State.translate
  split <;> simp [h]

@[simp] theorem State.translateRange_wf (c : XCtx) (ps : List (Nat × Nat)) (s : State) (h : s.mem.wf = true) : (State.translateRange c ps s).1.mem.wf = true := by
  induction ps generalizing s with
  | nil => exact h
  | cons p rest ih =>
    unfold State.translateRange
    have ht := s.translate_wf { c with va := p.1 } h
    split
    · rename_i s' _ _ he
      rw [he] at ht
      have hr := ih s' ht
      split <;> rename_i he' <;> rw [he'] at hr <;> exact hr
    · rename_i he
      rw [he] at ht
      exact ht

@[simp] theorem State.xFault_mem (s : State) (code die step loc sub asid va agent : Nat) : (s.xFault code die step loc sub asid va agent).mem = s.mem := by
    simp [State.xFault]

@[simp] theorem State.park_mem (s : State) (p : ParkInfo) : (s.park p).mem = s.mem := by simp [State.park]
@[simp] theorem State.writePark_wf (s : State) (r : ParkRec) (h : s.mem.wf = true) : (s.writePark r).mem.wf = true := by simp [State.writePark, h]

@[simp] theorem State.hostFault_mem (s : State) (die step mover port status addr : Nat) : (s.hostFault die step mover port status addr).mem = s.mem := by
    simp [State.hostFault]

@[simp] theorem State.issue_mem (s : State) (r : Req) (mayEaves : Bool) : (s.issue r mayEaves).1.mem = s.mem := by
  unfold State.issue
  dsimp only
  repeat' split
  all_goals simp

@[simp] theorem State.dropReq_mem (s : State) (id : Nat) : (s.dropReq id).mem = s.mem := by simp [State.dropReq]
@[simp] theorem State.dropAgent_mem (s : State) (a : Agent) : (s.dropAgent a).mem = s.mem := by simp [State.dropAgent]

@[simp] theorem State.fetchPieces_wf (s : State) (agent : Agent) (die step asid : Nat) (pos : Nat × Nat × Nat) (ps : List (Nat × Nat × Target × Nat))
    (h : s.mem.wf = true) : (s.fetchPieces agent die step asid pos ps).1.mem.wf = true := by
  unfold State.fetchPieces
  dsimp only
  split
  · exact State.foldl_wf _ (fun s p hs => by split <;> simp [hs]) _ _ h
  · split
    · exact h
    · split <;> exact State.foldl_wf _ (fun s p hs => by split <;> simp [hs]) _ _ h

/-! ### The prefetcher -/

@[simp] theorem State.prefetchLine_mem (s : State) (die lpa : Nat) : (s.prefetchLine die lpa).mem = s.mem := by simp [State.prefetchLine]

@[simp] theorem prefetchRun_mem (die asid va : Nat) (stride : Int) (page : Option TlbEntry) (stop : Option Nat) (ns : List Nat) (s : State) :
    (prefetchRun die asid va stride page stop ns s).1.mem = s.mem := by
  induction ns generalizing s with
  | nil => rfl
  | cons n rest ih =>
    unfold prefetchRun
    dsimp only
    split
    · rfl
    · split
      · rw [ih]; split <;> simp
      · split
        · rfl
        · split
          · simp [ih]
          · simp

@[simp] theorem State.train_mem (s : State) (die reader asid va : Nat) : (s.train die reader asid va).mem = s.mem := by
  unfold State.train
  dsimp only
  repeat' split
  all_goals simp

/-! ### The memory slices and scrubbing -/

@[simp] theorem State.countSectors_mem (s : State) (die : Nat) (sectors : BitVec 8) : (s.countSectors die sectors).mem = s.mem := by simp [State.countSectors]

@[simp] theorem State.countIrregular_mem (s : State) (r : Req) (line : Nat) (asked : BitVec 8) : (s.countIrregular r line asked).mem = s.mem := by
  unfold State.countIrregular
  split <;> simp

@[simp] theorem State.holdOn_mem (s : State) (f : Fill) (r : Req) (need : BitVec 8) : (s.holdOn f r need).mem = s.mem := by simp [State.holdOn]

@[simp] theorem State.newFill_mem (s : State) (line : Nat) (r : Req) (sectors : BitVec 8) (install : Bool) : (s.newFill line r sectors install).mem = s.mem := by
    simp [State.newFill]

@[simp] theorem State.sliceRead_wf (s : State) (r : Req) (a : Nat) (e : EccEvent) (h : s.mem.wf = true) : (s.sliceRead r a e).mem.wf = true := by
  unfold State.sliceRead
  dsimp only
  repeat' split
  all_goals simp [h]

@[simp] theorem State.sliceWrite_wf (s : State) (r : Req) (a : Nat) (e : EccEvent) (h : s.mem.wf = true) : (s.sliceWrite r a e).mem.wf = true := by
  unfold State.sliceWrite
  dsimp only
  repeat' split
  all_goals simp [h]

@[simp] theorem State.sliceAdd_wf (s : State) (r : Req) (a : Nat) (e : EccEvent) (h : s.mem.wf = true) : (s.sliceAdd r a e).mem.wf = true := by
  unfold State.sliceAdd
  dsimp only
  repeat' split
  all_goals simp [h]

@[simp] theorem State.serveAt_canonical (s : State) (req : Nat) (p : ReqKind → Bool) (k : Req → Nat → State) (hk : ∀ r n, (k r n).mem.wf = true) (h : s.mem.wf = true) :
    Result.Canonical (s.serveAt req p k) := by
  unfold State.serveAt
  split <;> simp [h, hk]

@[simp] theorem execLoftRead_canonical (of_ : LoftSource) (ecc : EccEvent) (s : State) (h : s.mem.wf = true) : Result.Canonical (execLoftRead of_ ecc s) := by
  unfold execLoftRead
  split <;> simp [h]

@[simp] theorem execLoftWrite_canonical (req : Nat) (ecc : EccEvent) (s : State) (h : s.mem.wf = true) : Result.Canonical (execLoftWrite req ecc s) := by
    simp [execLoftWrite, h]

@[simp] theorem execControllerWriteAdd_canonical (req : Nat) (ecc : EccEvent) (s : State) (h : s.mem.wf = true) :
    Result.Canonical (execControllerWriteAdd req ecc s) := by simp [execControllerWriteAdd, h]

@[simp] theorem execLoftFillReturn_canonical (line : Nat) (ecc : EccEvent) (s : State) (h : s.mem.wf = true) : Result.Canonical (execLoftFillReturn line ecc s) := by
  unfold execLoftFillReturn
  split <;> simp [h]

@[simp] theorem State.landEaves_mem (s : State) (f : EavesFill) (r : Req) : (s.landEaves f r).mem = s.mem := by simp [State.landEaves]

@[simp] theorem execEavesFillReturn_canonical (die : Fin 4) (line : Nat) (s : State) (h : s.mem.wf = true) : Result.Canonical (execEavesFillReturn die line s) := by
  unfold execEavesFillReturn
  split <;> simp [h]

@[simp] theorem execStampRewrite_canonical (guard : Fin 64) (s : State) (h : s.mem.wf = true) : Result.Canonical (execStampRewrite guard s) := by
    simp [execStampRewrite, h]

@[simp] theorem execPrefetchDistanceRevise_canonical (die : Fin 4) (s : State) (h : s.mem.wf = true) : Result.Canonical (execPrefetchDistanceRevise die s) := by
    simp [execPrefetchDistanceRevise, h]

@[simp] theorem State.scrubPoison_mem (s : State) (sector : Nat) : (s.scrubPoison sector).mem = s.mem := by simp [State.scrubPoison]

@[simp] theorem State.scrubFound_mem (s : State) (sector : Nat) (e : EccEvent) : (s.scrubFound sector e).mem = s.mem := by
  unfold State.scrubFound
  split <;> simp

@[simp] theorem State.scrubAdvance_mem (s : State) (die : Nat) (thatch : Bool) : (s.scrubAdvance die thatch).mem = s.mem := by simp [State.scrubAdvance]
@[simp] theorem State.scrubMark_mem (s : State) (die : Nat) : (s.scrubMark die).mem = s.mem := by simp [State.scrubMark]

@[simp] theorem execScrubDusk_canonical (die : Fin 4) (found : List (Nat × EccEvent)) (s : State) (h : s.mem.wf = true) :
    Result.Canonical (execScrubDusk die found s) := by simp [execScrubDusk, h]

@[simp] theorem State.passEnd_mem (s : State) (die : Nat) (thatch : Bool) : (s.passEnd die thatch).mem = s.mem := by simp [State.passEnd]

@[simp] theorem execScrubPassEnd_canonical (die : Fin 4) (thatch : Bool) (s : State) (h : s.mem.wf = true) : Result.Canonical (execScrubPassEnd die thatch s) := by
    simp [execScrubPassEnd, h]

@[simp] theorem State.sramScrubFound_mem (s : State) (g lpa : Nat) (e : EccEvent) : (s.sramScrubFound g lpa e).mem = s.mem := by
  unfold State.sramScrubFound
  split <;> simp

@[simp] theorem execSramScrub_canonical (core : Fin 384) (lpa : Nat) (found : EccEvent) (s : State) (h : s.mem.wf = true) :
    Result.Canonical (execSramScrub core lpa found s) := by simp [execSramScrub, h]

@[simp] theorem State.cacheScrubFound_mem (s : State) (die : Nat) (eaves : Bool) (line : Nat) (e : EccEvent) : (s.cacheScrubFound die eaves line e).mem = s.mem := by
  unfold State.cacheScrubFound
  repeat' split
  all_goals simp

@[simp] theorem State.dropSet_mem (s : State) (die : Nat) (eaves : Bool) (line : Nat) : (s.dropSet die eaves line).mem = s.mem := by simp [State.dropSet]

@[simp] theorem State.tagScrubFound_mem (s : State) (die : Nat) (eaves : Bool) (line : Nat) (e : EccEvent) : (s.tagScrubFound die eaves line e).mem = s.mem := by
  unfold State.tagScrubFound
  split <;> simp

@[simp] theorem execCacheScrub_canonical (die : Fin 4) (part : SlicePart) (line : Nat) (found : EccEvent) (s : State) (h : s.mem.wf = true) :
    Result.Canonical (execCacheScrub die part line found s) := by simp [execCacheScrub, h]

@[simp] theorem execIdleBankScrub_canonical (core : Fin 384) (found : EccEvent) (s : State) (h : s.mem.wf = true) :
    Result.Canonical (execIdleBankScrub core found s) := by simp [execIdleBankScrub, h]

/-! ### Threads -/

@[simp] theorem State.overwrite_mem (s : State) (g t : Nat) (keys : List Nat) : (s.overwrite g t keys).mem = s.mem := by simp [State.overwrite]

@[simp] theorem State.threadsDone_mem (s : State) (launch n : Nat) : (s.threadsDone launch n).mem = s.mem := by
  unfold State.threadsDone
  split <;> simp

@[simp] theorem State.failLaunch_mem (s : State) (launch : Nat) : (s.failLaunch launch).mem = s.mem := by simp [State.failLaunch]
@[simp] theorem State.endThread_mem (s : State) (g t : Nat) (failed : Bool) : (s.endThread g t failed).mem = s.mem := by simp [State.endThread]
@[simp] theorem State.threadFault_mem (s : State) (g t code : Nat) : (s.threadFault g t code).mem = s.mem := by simp [State.threadFault]
@[simp] theorem State.sramFault_mem (s : State) (src : Source) (g sub step lpa : Nat) : (s.sramFault src g sub step lpa).mem = s.mem := by simp [State.sramFault]
@[simp] theorem State.stall_mem (s : State) (g cause : Nat) : (s.stall g cause).mem = s.mem := by simp [State.stall]

@[simp] theorem State.checkPc_mem (s : State) (g t : Nat) : (s.checkPc g t).mem = s.mem := by
  unfold State.checkPc
  split <;> simp

@[simp] theorem State.next_mem (s : State) (g t : Nat) : (s.next g t).mem = s.mem := by simp [State.next]

@[simp] theorem State.issueInstr_canonical (s : State) (g t : Nat) (mine bad : Nat → Bool) (regs : Nat → Regs) (effect : State → Thread → Nat → State) (heffect : ∀ s th n, s.mem.wf = true → (effect s th n).mem.wf = true) (h : s.mem.wf = true) :
    Result.Canonical (s.issueInstr g t mine bad regs effect) := by simp [State.issueInstr, h, heffect]

@[simp] theorem scalarEffect_mem (g t : Nat) (op : ScalarOp) (form : ScalarForm) (s : State) (th : Thread) (w : Nat) :
    (scalarEffect g t op form s th w).mem = s.mem := by
  unfold scalarEffect
  dsimp only
  split <;> simp

@[simp] theorem execScalar_canonical (core : Fin 384) (thread : Fin 32) (op : Option ScalarOp) (form : ScalarForm) (s : State) (h : s.mem.wf = true) :
    Result.Canonical (execScalar core thread op form s) := by
  unfold execScalar
  split <;> simp [h]

@[simp] theorem branchEffect_mem (g t : Nat) (c : BranchCond) (s : State) (th : Thread) (w : Nat) : (branchEffect g t c s th w).mem = s.mem := by simp [branchEffect]

@[simp] theorem execBranch_canonical (core : Fin 384) (thread : Fin 32) (cond : Option BranchCond) (s : State) (h : s.mem.wf = true) :
    Result.Canonical (execBranch core thread cond s) := by
  unfold execBranch
  split <;> simp [h]

@[simp] theorem State.lostBank_mem (s : State) (g : Nat) : (s.lostBank g).mem = s.mem := by simp [State.lostBank]

@[simp] theorem State.scratchEcc_mem (s : State) (g t : Nat) (th : Thread) (o : Nat) (ecc : WordEcc) (k : State → State)
    (hk : ∀ s, (k s).mem = s.mem) : (s.scratchEcc g t th o ecc k).mem = s.mem := by
  unfold State.scratchEcc
  split <;> simp [hk]
theorem State.scratchEcc_wf (s : State) (g t : Nat) (th : Thread) (o : Nat) (ecc : WordEcc) (k : State → State)
    (hk : ∀ s, s.mem.wf = true → (k s).mem.wf = true) (h : s.mem.wf = true) : (s.scratchEcc g t th o ecc k).mem.wf = true := by
  unfold State.scratchEcc
  split <;> simp [hk, h]

@[simp] theorem scratchLoadEffect_mem (g t : Nat) (signed : Bool) (cycle : ScratchCycle) (s : State) (th : Thread) (w : Nat) :
    (scratchLoadEffect g t signed cycle s th w).mem = s.mem := by
  unfold scratchLoadEffect
  split <;> simp

@[simp] theorem execScratchLoad_canonical (core : Fin 384) (thread : Fin 32) (signed : Option Bool) (cycle : ScratchCycle) (s : State) (h : s.mem.wf = true) :
    Result.Canonical (execScratchLoad core thread signed cycle s) := by simp [execScratchLoad, h]

@[simp] theorem scratchStoreEffect_wf (g t : Nat) (cycle : ScratchCycle) (s : State) (th : Thread) (w : Nat) (h : s.mem.wf = true) :
    (scratchStoreEffect g t cycle s th w).mem.wf = true := by
  unfold scratchStoreEffect
  dsimp only
  split
  · simp [h]
  · split
    · simp [h]
    · exact State.scratchEcc_wf s _ _ _ _ _ _ (fun s hs => by simp [hs]) h

@[simp] theorem execScratchStore_canonical (thread : Fin 384 × Fin 32) (cycle : Option ScratchCycle) (s : State) (h : s.mem.wf = true) :
    Result.Canonical (execScratchStore thread cycle s) :=
  State.issueInstr_canonical _ _ _ _ _ _ _ (fun s th w hs => by simp [hs]) h

@[simp] theorem State.issueParts_mem (s : State) (g t : Nat) (th : Thread) (kind : ReqKind) (key : Nat) (signed : Bool) (total : Nat) (data : Bytes)
    (base : Nat) (ps : List (Nat × Nat × Target × Nat)) : (s.issueParts g t th kind key signed total data base ps).mem = s.mem := by
  induction ps generalizing s with
  | nil => rfl
  | cons p rest ih => simp [State.issueParts, ih]

@[simp] theorem memoryEffect_mem (g t : Nat) (kind : ReqKind) (signed : Bool) (s : State) (th : Thread) (w : Nat) :
    (memoryEffect g t kind signed s th w).mem = s.mem := by
  unfold memoryEffect
  dsimp only
  split <;> simp

@[simp] theorem execMemoryLoad_canonical (core : Fin 384) (thread : Fin 32) (signed : Option Bool) (s : State) (h : s.mem.wf = true) :
    Result.Canonical (execMemoryLoad core thread signed s) := by simp [execMemoryLoad, h]

@[simp] theorem execMemoryStore_canonical (thread : Fin 384 × Fin 32) (reserved : Bool) (s : State) (h : s.mem.wf = true) :
    Result.Canonical (execMemoryStore thread reserved s) := by simp [execMemoryStore, h]

@[simp] theorem State.cinc_mem (s : State) (g n : Nat) (amount : BitVec 32) : (s.cinc g n amount).mem = s.mem := by simp [State.cinc]
@[simp] theorem cincEffect_mem (g t : Nat) (s : State) (th : Thread) (w : Nat) : (cincEffect g t s th w).mem = s.mem := by simp [cincEffect]

@[simp] theorem execCinc_canonical (core : Fin 384) (thread : Fin 32) (s : State) (h : s.mem.wf = true) : Result.Canonical (execCinc core thread s) := by
    simp [execCinc, h]

@[simp] theorem cwaitEffect_mem (g t : Nat) (s : State) (th : Thread) (w : Nat) : (cwaitEffect g t s th w).mem = s.mem := by simp [cwaitEffect]

@[simp] theorem execCwait_canonical (core : Fin 384) (thread : Fin 32) (s : State) (h : s.mem.wf = true) : Result.Canonical (execCwait core thread s) := by
    simp [execCwait, h]

@[simp] theorem creadEffect_mem (g t : Nat) (s : State) (th : Thread) (w : Nat) : (creadEffect g t s th w).mem = s.mem := by simp [creadEffect]

@[simp] theorem execCread_canonical (core : Fin 384) (thread : Fin 32) (s : State) (h : s.mem.wf = true) : Result.Canonical (execCread core thread s) := by
    simp [execCread, h]

@[simp] theorem barrierEffect_mem (g t : Nat) (s : State) (th : Thread) (w : Nat) : (barrierEffect g t s th w).mem = s.mem := by simp [barrierEffect]

@[simp] theorem execBarrier_canonical (core : Fin 384) (thread : Fin 32) (s : State) (h : s.mem.wf = true) : Result.Canonical (execBarrier core thread s) := by
    simp [execBarrier, h]

@[simp] theorem gincEffect_mem (g t : Nat) (s : State) (th : Thread) (w : Nat) : (gincEffect g t s th w).mem = s.mem := by simp [gincEffect]

@[simp] theorem execGinc_canonical (core : Fin 384) (thread : Fin 32) (s : State) (h : s.mem.wf = true) : Result.Canonical (execGinc core thread s) := by
    simp [execGinc, h]

@[simp] theorem greadEffect_mem (g t : Nat) (s : State) (th : Thread) (w : Nat) : (greadEffect g t s th w).mem = s.mem := by simp [greadEffect]

@[simp] theorem execGread_canonical (core : Fin 384) (thread : Fin 32) (s : State) (h : s.mem.wf = true) : Result.Canonical (execGread core thread s) := by
    simp [execGread, h]

@[simp] theorem sdtrEffect_mem (g t : Nat) (s : State) (th : Thread) (w : Nat) : (sdtrEffect g t s th w).mem = s.mem := by simp [sdtrEffect]

@[simp] theorem execSdtr_canonical (core : Fin 384) (thread : Fin 32) (s : State) (h : s.mem.wf = true) : Result.Canonical (execSdtr core thread s) := by
    simp [execSdtr, h]

@[simp] theorem slotrEffect_mem (g t : Nat) (s : State) (th : Thread) (w : Nat) : (slotrEffect g t s th w).mem = s.mem := by simp [slotrEffect]

@[simp] theorem execSlotr_canonical (core : Fin 384) (thread : Fin 32) (s : State) (h : s.mem.wf = true) : Result.Canonical (execSlotr core thread s) := by
    simp [execSlotr, h]

@[simp] theorem waitsdtEffect_mem (g t : Nat) (s : State) (th : Thread) (w : Nat) : (waitsdtEffect g t s th w).mem = s.mem := by simp [waitsdtEffect]

@[simp] theorem execWaitsdt_canonical (core : Fin 384) (thread : Fin 32) (s : State) (h : s.mem.wf = true) : Result.Canonical (execWaitsdt core thread s) := by
    simp [execWaitsdt, h]

@[simp] theorem endEffect_mem (g t : Nat) (s : State) (x1 : Thread) (x2 : Nat) : (endEffect g t s x1 x2).mem = s.mem := by simp [endEffect]

@[simp] theorem execEndThread_canonical (core : Fin 384) (thread : Fin 32) (s : State) (h : s.mem.wf = true) : Result.Canonical (execEndThread core thread s) := by
    simp [execEndThread, h]

@[simp] theorem fenceEffect_mem (g t : Nat) (s : State) (x1 : Thread) (w : Nat) : (fenceEffect g t s x1 w).mem = s.mem := by simp [fenceEffect]

@[simp] theorem execFence_canonical (core : Fin 384) (thread : Fin 32) (s : State) (h : s.mem.wf = true) : Result.Canonical (execFence core thread s) := by
    simp [execFence, h]

@[simp] theorem State.startThreads_mem (s : State) (a : Action) (g : Nat) (img : Image) (entry : Nat) : (s.startThreads a g img entry).mem = s.mem := by
  unfold State.startThreads
  dsimp only
  split
  · rfl
  · exact State.foldl_mem _ (fun s t => by simp) _ _

@[simp] theorem State.launchFails_mem (s : State) (a : Action) (g : Nat) : (s.launchFails a g).mem = s.mem := by
  unfold State.launchFails
  simp only [State.threadsDone_mem, State.failLaunch_mem]
  exact State.foldl_mem _ (fun s t => by simp) _ _

@[simp] theorem State.imageMalformed_mem (s : State) (a : Action) (g : Nat) : (s.imageMalformed a g).mem = s.mem := by simp [State.imageMalformed]

@[simp] theorem State.readThrough_wf (s : State) (a : Action) (g va n : Nat) (h : s.mem.wf = true) : (s.readThrough a g va n).1.mem.wf = true := by
  unfold State.readThrough
  have ht := State.translateRange_wf ⟨a.asid, va, 3, false, some g, coreDie g⟩ (vaPieces va n) s h
  split
  · rename_i he
    rw [he] at ht
    exact ht
  · rename_i s' ps he
    rw [he] at ht
    have hf := s'.fetchPieces_wf (.image g a.id) (coreDie g) a.step a.asid (0, 0, 0) ps ht
    split <;> rename_i he' <;> rw [he'] at hf <;> exact hf

@[simp] theorem State.launchOn_wf (s : State) (a : Action) (g : Nat) (h : s.mem.wf = true) : (s.launchOn a g).mem.wf = true := by
  unfold State.launchOn
  dsimp only
  split
  · simp [h]
  · have hr := s.readThrough_wf a g a.transit.addr 32 h
    split
    · rename_i he
      rw [he] at hr
      repeat' split
      all_goals simp [hr]
    · rename_i he
      rw [he] at hr
      simp [hr]

@[simp] theorem State.dropFetch_mem (s : State) (g launch : Nat) : (s.dropFetch g launch).mem = s.mem := by simp [State.dropFetch]

@[simp] theorem State.fetchFailed_mem (s : State) (a : Action) (g : Nat) (f : State → State) (hf : ∀ s, (f s).mem = s.mem) : (s.fetchFailed a g f).mem = s.mem := by
    simp [State.fetchFailed, hf]

@[simp] theorem State.parkFetch_mem (s : State) (a : Action) (g va kind level : Nat) : (s.parkFetch a g va kind level).mem = s.mem := by simp [State.parkFetch]

@[simp] theorem State.imageArrives_wf (s : State) (a : Action) (g : Nat) (h : s.mem.wf = true) : (s.imageArrives a g).mem.wf = true := by
  unfold State.imageArrives
  dsimp only
  have hr := s.readThrough_wf a g a.transit.addr 32 h
  split
  · rename_i he
    rw [he] at hr
    split <;> simp [hr]
  · rename_i s' bs he
    rw [he] at hr
    split
    · simp [hr]
    · split
      · simp [hr]
      · rename_i len _ _ _ _ _
        have hr' := s'.readThrough_wf a g (a.transit.addr + 32) len hr
        split
        · rename_i he'
          rw [he'] at hr'
          split <;> simp [hr']
        · rename_i he'
          rw [he'] at hr'
          repeat' split
          all_goals simp [hr']

@[simp] theorem State.imageParity_mem (s : State) (a : Action) (g : Nat) : (s.imageParity a g).mem = s.mem := by simp [State.imageParity]

@[simp] theorem execImageFetchDone_canonical (core : Fin 384) (fetch : ImageFetch) (s : State) (h : s.mem.wf = true) :
    Result.Canonical (execImageFetchDone core fetch s) := by
  unfold execImageFetchDone
  repeat' split
  all_goals simp [h]

/-! ### Movers and parks -/

@[simp] theorem State.endMover_mem (s : State) (d m : Nat) : (s.endMover d m).mem = s.mem := by simp [State.endMover]
@[simp] theorem State.dropJob_mem (s : State) (id : Nat) : (s.dropJob id).mem = s.mem := by simp [State.dropJob]

@[simp] theorem State.endAgent_mem (s : State) (a : Agent) : (s.endAgent a).mem = s.mem := by
  unfold State.endAgent
  repeat' split
  all_goals simp

@[simp] theorem State.setParked_mem (s : State) (a : Agent) : (s.setParked a).mem = s.mem := by
  unfold State.setParked
  split <;> simp

@[simp] theorem State.unpark_wf (s : State) (a : Agent) (h : s.mem.wf = true) : (s.unpark a).mem.wf = true := by
  unfold State.unpark
  repeat' split
  all_goals simp [h]

@[simp] theorem State.parkAgent_mem (s : State) (p : ParkInfo) : (s.parkAgent p).mem = s.mem := by
  unfold State.parkAgent
  split <;> simp

@[simp] theorem State.moverFault_mem (s : State) (d m code va agent : Nat) : (s.moverFault d m code va agent).mem = s.mem := by simp [State.moverFault]
@[simp] theorem State.moverPoison_mem (s : State) (d m lpa : Nat) : (s.moverPoison d m lpa).mem = s.mem := by simp [State.moverPoison]
@[simp] theorem State.moverHostFault_mem (s : State) (d m p a : Nat) : (s.moverHostFault d m p a).mem = s.mem := by simp [State.moverHostFault]

@[simp] theorem State.moverRead_wf (s : State) (d m va access n : Nat) (h : s.mem.wf = true) : (s.moverRead d m va access n).1.mem.wf = true := by
  unfold State.moverRead
  dsimp only
  split
  · rename_i t a _
    split
    · exact h
    · have hf := s.fetchPieces_wf (.moverDesc d m) d (s.stepOf (s.mover d m).action) (s.mover d m).asid ((s.mover d m).cur, (s.mover d m).elem, (s.mover d m).off)
        [(va, n, t, a)] h
      split <;> rename_i he <;> rw [he] at hf <;> simpa using hf
  · exact h
  · exact h

@[simp] theorem State.readDesc_wf (s : State) (d m i : Nat) (h : s.mem.wf = true) : (s.readDesc d m i).1.mem.wf = true := by
  unfold State.readDesc
  dsimp only
  split <;> simp [h]

@[simp] theorem State.moverReadEnd_mem (s : State) (d m va agent : Nat) (x1 : MoverRead) : (s.moverReadEnd d m va agent x1).mem = s.mem := by
  unfold State.moverReadEnd
  split <;> simp

@[simp] theorem State.takeDesc_mem (s : State) (d m desc : Nat) : (s.takeDesc d m desc).mem = s.mem := by simp [State.takeDesc]

@[simp] theorem State.takeOp_canonical (s : State) (d m op : Nat) (h : s.mem.wf = true) : Result.Canonical (s.takeOp d m op) := by
  unfold State.takeOp
  dsimp only
  split
  · simp [h]
  · split
    · simp [h]
    · have hr := s.readDesc_wf d m (s.mover d m).cur h
      split <;> rename_i he <;> rw [he] at hr
      · split <;> simp [hr]
      · simp [hr]

@[simp] theorem execStream_canonical (die : Fin 4) (mover : Fin 64) (s : State) (h : s.mem.wf = true) : Result.Canonical (execStream die mover s) := by
    simp [execStream, h]

@[simp] theorem execGather_canonical (die : Fin 4) (mover : Fin 64) (s : State) (h : s.mem.wf = true) : Result.Canonical (execGather die mover s) := by
    simp [execGather, h]

@[simp] theorem execScatter_canonical (die : Fin 4) (mover : Fin 64) (s : State) (h : s.mem.wf = true) : Result.Canonical (execScatter die mover s) := by
    simp [execScatter, h]

@[simp] theorem execStreamAdd_canonical (die : Fin 4) (mover : Fin 64) (s : State) (h : s.mem.wf = true) : Result.Canonical (execStreamAdd die mover s) := by
    simp [execStreamAdd, h]

@[simp] theorem execScatterAdd_canonical (die : Fin 4) (mover : Fin 64) (s : State) (h : s.mem.wf = true) : Result.Canonical (execScatterAdd die mover s) := by
    simp [execScatterAdd, h]

@[simp] theorem execMoverDescriptorReadahead_canonical (die : Fin 4) (mover : Fin 64) (s : State) (h : s.mem.wf = true) :
    Result.Canonical (execMoverDescriptorReadahead die mover s) := by
  unfold execMoverDescriptorReadahead
  dsimp only
  split
  · simp [h]
  · have ht := s.translate_wf (moverCtx die (s.mover die mover)
      ((s.mover die mover).descVa ((s.mover die mover).cur + 1 + (s.mover die mover).ahead.length)) 3) h
    split
    · rename_i s' _ _ he
      rw [he] at ht
      have hr := s'.readDesc_wf die mover ((s.mover die mover).cur + 1 + (s.mover die mover).ahead.length) ht
      split <;> rename_i he' <;> rw [he'] at hr <;> simp [hr]
    · rename_i he
      rw [he] at ht
      simp [ht]

@[simp] theorem State.readIndex_wf (s : State) (d m desc : Nat) (h : s.mem.wf = true) : (s.readIndex d m desc).1.mem.wf = true := by
  unfold State.readIndex
  split <;> simp [h]

@[simp] theorem State.moverXlate_mem (s : State) (d m va : Nat) (x1 : Xlate) : (s.moverXlate d m va x1).mem = s.mem := by
  unfold State.moverXlate
  split <;> simp

@[simp] theorem State.issuePiece_mem (s : State) (d m desc idx : Nat) : (s.issuePiece d m desc idx).mem = s.mem := by
  unfold State.issuePiece
  dsimp only
  repeat' split
  all_goals simp

@[simp] theorem execMoverPieceIssue_canonical (die : Fin 4) (mover : Fin 64) (s : State) (h : s.mem.wf = true) : Result.Canonical (execMoverPieceIssue die mover s) := by
  unfold execMoverPieceIssue
  split
  · simp [h]
  · rename_i desc _
    split
    · simp [h]
    · have hr := s.readIndex_wf die mover desc.toNat h
      split <;> rename_i he <;> rw [he] at hr <;> simp [hr]

@[simp] theorem State.retire_mem (s : State) (d m : Nat) (o : MoverDesc) : (s.retire d m o).mem = s.mem := by simp [State.retire]

@[simp] theorem execDescriptorRetire_canonical (die : Fin 4) (mover : Fin 64) (s : State) (h : s.mem.wf = true) :
    Result.Canonical (execDescriptorRetire die mover s) := by
  unfold execDescriptorRetire
  split <;> simp [h]

@[simp] theorem State.threadResponse_mem (s : State) (r : Req) (g t : Nat) : (s.threadResponse r g t).mem = s.mem := by
  unfold State.threadResponse
  split <;> simp

@[simp] theorem State.moverResponse_mem (s : State) (r : Req) (d m : Nat) : (s.moverResponse r d m).mem = s.mem := by
  unfold State.moverResponse
  dsimp only
  repeat' split
  all_goals simp

@[simp] theorem State.respond_wf (s : State) (r : Req) (h : s.mem.wf = true) : (s.respond r).mem.wf = true := by
  unfold State.respond
  dsimp only
  repeat' split
  all_goals simp [h]

@[simp] theorem execMemoryResponse_canonical (req : Nat) (s : State) (h : s.mem.wf = true) : Result.Canonical (execMemoryResponse req s) := by
  unfold execMemoryResponse
  split <;> simp [h]

@[simp] theorem execHostPieceCompletion_canonical (req : Nat) (bytes : List Byte) (s : State) (h : s.mem.wf = true) :
    Result.Canonical (execHostPieceCompletion req bytes s) := by
  unfold execHostPieceCompletion
  repeat' split
  all_goals simp [h]

@[simp] theorem execHostAccess_canonical (req : Nat) (status : Fin 256) (s : State) (h : s.mem.wf = true) : Result.Canonical (execHostAccess req status s) := by
  unfold execHostAccess
  repeat' split
  all_goals simp [h]

@[simp] theorem State.setParks_mem (s : State) (ps : List ParkRec) : (s.setParks ps).mem = s.mem := by simp [State.setParks]

@[simp] theorem State.writeParkOf_wf (s : State) (p : ParkInfo) (h : s.mem.wf = true) : (s.writeParkOf p).mem.wf = true := by
  unfold State.writeParkOf
  dsimp only
  split <;> simp [h]

@[simp] theorem execParkRecordWrite_canonical (s : State) (h : s.mem.wf = true) : Result.Canonical (execParkRecordWrite s) := by
  unfold execParkRecordWrite
  repeat' split
  all_goals simp [h]

@[simp] theorem State.releasePark_wf (s : State) (r : ParkRec) (h : s.mem.wf = true) : (s.releasePark r).mem.wf = true :=
  State.foldl_wf _ (fun s p hs => by simp [hs]) _ _ h

@[simp] theorem State.abandonPark_mem (s : State) (r : ParkRec) (code : Nat) : (s.abandonPark r code).mem = s.mem := by simp [State.abandonPark]

@[simp] theorem State.parkRelease_wf (s : State) (v : Nat) (h : s.mem.wf = true) : (s.parkRelease v).mem.wf = true := by
  unfold State.parkRelease
  split <;> simp [h]

@[simp] theorem execParkTimeout_canonical (seq : Nat) (s : State) (h : s.mem.wf = true) : Result.Canonical (execParkTimeout seq s) := by
  unfold execParkTimeout
  split <;> simp [h]

@[simp] theorem State.discardParks_mem (s : State) : s.discardParks.mem = s.mem := by simp [State.discardParks]
@[simp] theorem State.purge_mem (s : State) (c : InvalCmd) : (s.purge c).mem = s.mem := by simp [State.purge]
@[simp] theorem State.invalidate_mem (s : State) (kind : Nat) : (s.invalidate kind).mem = s.mem := by simp [State.invalidate]
@[simp] theorem execInvalComplete_canonical (s : State) (h : s.mem.wf = true) : Result.Canonical (execInvalComplete s) := by simp [execInvalComplete, h]

/-! ### The matrix arrays -/

@[simp] theorem State.matCount_mem (s : State) (g w : Nat) : (s.matCount g w).mem = s.mem := by simp [State.matCount]

@[simp] theorem matEffect_mem (g t : Nat) (s : State) (th : Thread) (w : Nat) : (matEffect g t s th w).mem = s.mem := by
  unfold matEffect
  dsimp only
  repeat' split
  all_goals simp

@[simp] theorem execMwload_canonical (core : Fin 384) (thread : Fin 32) (s : State) (h : s.mem.wf = true) : Result.Canonical (execMwload core thread s) := by
    simp [execMwload, h]

@[simp] theorem execMstream_canonical (core : Fin 384) (thread : Fin 32) (s : State) (h : s.mem.wf = true) : Result.Canonical (execMstream core thread s) := by
    simp [execMstream, h]

@[simp] theorem execMdrain_canonical (core : Fin 384) (thread : Fin 32) (s : State) (h : s.mem.wf = true) : Result.Canonical (execMdrain core thread s) := by
    simp [execMdrain, h]

@[simp] theorem State.mapMat_mem (s : State) (g seq : Nat) (f : MatInstr → MatInstr) : (s.mapMat g seq f).mem = s.mem := by simp [State.mapMat]
@[simp] theorem State.matDone_mem (s : State) (g : Nat) (m : MatInstr) (arrays : BitVec 4) : (s.matDone g m arrays).mem = s.mem := by simp [State.matDone]

@[simp] theorem execMwloadStart_canonical (core : Fin 384) (array : Fin 4) (s : State) (h : s.mem.wf = true) : Result.Canonical (execMwloadStart core array s) := by
  unfold execMwloadStart
  split <;> simp [h]

@[simp] theorem State.loadComplete_mem (s : State) (g n : Nat) (m : MatInstr) : (s.loadComplete g n m).mem = s.mem := by simp [State.loadComplete]

@[simp] theorem execMwloadComplete_canonical (core : Fin 384) (array : Fin 4) (s : State) (h : s.mem.wf = true) :
    Result.Canonical (execMwloadComplete core array s) := by
  unfold execMwloadComplete
  split <;> simp [h]

@[simp] theorem execMstreamStart_canonical (core : Fin 384) (array : Fin 4) (s : State) (h : s.mem.wf = true) : Result.Canonical (execMstreamStart core array s) := by
  unfold execMstreamStart
  split <;> simp [h]

@[simp] theorem State.rowFails_mem (s : State) (g : Nat) (m : MatInstr) (n kblock loc : Nat) (e0 e1 : Int) : (s.rowFails g m n kblock loc e0 e1).mem = s.mem := by
    simp [State.rowFails]

@[simp] theorem State.rowPasses_wf (s : State) (g : Nat) (m : MatInstr) (rows : List (Nat × WeightSet × ActRow × List (List Int))) (h : s.mem.wf = true) :
    (s.rowPasses g m rows).mem.wf = true := by
  unfold State.rowPasses
  dsimp only
  refine State.ite_wf ?_ ?_ <;>
  exact State.foldl_wf _ (fun t p ht => State.ite_wf ht (by simp [ht])) _ _ h

@[simp] theorem State.streamRow_wf (s : State) (g : Nat) (m : MatInstr) (busErr : Bool) (u : List (Fin 4 × Fin 130 × Fin 8 × Int)) (h : s.mem.wf = true) :
    (s.streamRow g m busErr u).mem.wf = true := by
  unfold State.streamRow
  dsimp only
  repeat' split
  all_goals simp [h]

@[simp] theorem execMstreamRow_canonical (core : Fin 384) (busErr : Bool) (upset : List (Fin 4 × Fin 130 × Fin 8 × Int)) (s : State) (h : s.mem.wf = true) :
    Result.Canonical (execMstreamRow core busErr upset s) := by
  unfold execMstreamRow
  split <;> simp [h]

@[simp] theorem execMstreamComplete_canonical (core : Fin 384) (s : State) (h : s.mem.wf = true) : Result.Canonical (execMstreamComplete core s) := by
  unfold execMstreamComplete
  split <;> simp [h]

@[simp] theorem execMdrainStart_canonical (core : Fin 384) (array : Fin 4) (s : State) (h : s.mem.wf = true) : Result.Canonical (execMdrainStart core array s) := by
  unfold execMdrainStart
  split <;> simp [h]

@[simp] theorem State.nonfinites_mem (s : State) (die step src n : Nat) : (s.nonfinites die step src n).mem = s.mem := by simp [State.nonfinites]

@[simp] theorem State.drainPlain_wf (s : State) (g n i : Nat) (m : MatInstr) (vs : List Val) (h : s.mem.wf = true) : (s.drainPlain g n i m vs).mem.wf = true := by
  unfold State.drainPlain
  rw [State.nonfinites_mem]
  exact State.foldl_wf _ (fun s c hs => by simp [hs]) _ _ h

@[simp] theorem State.putBit_wf (s : State) (g o index : Nat) (v : Bool) (h : s.mem.wf = true) : (s.putBit g o index v).mem.wf = true := by simp [State.putBit, h]

@[simp] theorem State.drainBlock_wf (s : State) (g i k : Nat) (m : MatInstr) (f : Fmt) (vs : List (Val × Nat)) (h : s.mem.wf = true) :
    (s.drainBlock g i k m f vs).mem.wf = true := by
  unfold State.drainBlock
  dsimp only
  refine State.ite_wf ?_ ?_
  · rw [State.nonfinite_mem]
    exact State.store_wf _ _ _ (State.ite_wf (State.putBit_wf _ _ _ _ _ (by simp [h])) (by simp [h]))
  · exact State.store_wf _ _ _ (State.ite_wf (State.putBit_wf _ _ _ _ _ (by simp [h])) (by simp [h]))

@[simp] theorem State.drainMx_wf (s : State) (g n i : Nat) (m : MatInstr) (f : Fmt) (vs : List Val) (h : s.mem.wf = true) : (s.drainMx g n i m f vs).mem.wf = true :=
  State.foldl_wf _ (fun s p hs => by simp [hs]) _ _ h

@[simp] theorem State.drainStep_wf (s : State) (g n : Nat) (m : MatInstr) (h : s.mem.wf = true) : (s.drainStep g n m).mem.wf = true := by
  unfold State.drainStep
  dsimp only
  repeat' split
  all_goals simp [h]

@[simp] theorem execMdrainStep_canonical (core : Fin 384) (array : Fin 4) (s : State) (h : s.mem.wf = true) : Result.Canonical (execMdrainStep core array s) := by
  unfold execMdrainStep
  split <;> simp [h]

@[simp] theorem execMdrainComplete_canonical (core : Fin 384) (array : Fin 4) (s : State) (h : s.mem.wf = true) :
    Result.Canonical (execMdrainComplete core array s) := by
  unfold execMdrainComplete
  split <;> simp [h]

/-! ### The update engine -/

@[simp] theorem State.setJob_mem (s : State) (j : UpdJob) : (s.setJob j).mem = s.mem := by simp [State.setJob]

@[simp] theorem State.jobTurn_canonical (s : State) (j : UpdJob) (ok : Bool) (t : State) (h : s.mem.wf = true) (ht : t.mem.wf = true) :
    Result.Canonical (s.jobTurn j ok t) := by
  unfold State.jobTurn
  split <;> simp [h, ht]

@[simp] theorem State.jobFault_mem (s : State) (j : UpdJob) (code : Nat) : (s.jobFault j code).mem = s.mem := by simp [State.jobFault]

@[simp] theorem State.forgetStaging_wf (s : State) (cores : List Nat) (h : s.mem.wf = true) : (s.forgetStaging cores).mem.wf = true :=
  State.foldl_wf _ (fun _ _ hs => Memory.forget_wf _ _ _ _ hs) _ _ h

@[simp] theorem State.clearArrays_wf (s : State) (cores : List Nat) (h : s.mem.wf = true) : (s.clearArrays cores).mem.wf = true :=
  State.foldl_wf _ (fun _ _ hs => Memory.clear_wf _ _ _ hs) _ _ h

@[simp] theorem State.finishJob_wf (s : State) (id : Nat) (h : s.mem.wf = true) : (s.finishJob id).mem.wf = true := by
  unfold State.finishJob
  split <;> simp [h]

@[simp] theorem State.retireEntry_wf (s : State) (id : Nat) (h : s.mem.wf = true) : (s.retireEntry id).mem.wf = true := by
  unfold State.retireEntry
  split <;> simp [h]

@[simp] theorem State.translateSpans_wf (ctx : Nat → Bool → XCtx) (sps : List Span) (s : State) (h : s.mem.wf = true) :
    (State.translateSpans ctx sps s).1.mem.wf = true := by
  induction sps generalizing s with
  | nil => exact h
  | cons sp rest ih =>
    unfold State.translateSpans
    have h1 := State.translateRange_wf (ctx sp.va false) (if sp.write && sp.read then vaPieces sp.va sp.len else []) s h
    split <;> rename_i he <;> rw [he] at h1
    · exact h1
    · rename_i s1 _
      have h2 := State.translateRange_wf (ctx sp.va sp.write) (vaPieces sp.va sp.len) s1 h1
      split <;> rename_i he' <;> rw [he'] at h2
      · exact h2
      · rename_i s2 _
        have h3 := ih s2 h2
        split <;> rename_i he'' <;> rw [he''] at h3 <;> exact h3

@[simp] theorem State.spanData_wf (s : State) (ctx : Nat → Bool → XCtx) (a : Agent) (die step asid : Nat) (pos : Nat × Nat × Nat) (spans : List Span)
    (h : s.mem.wf = true) : (s.spanData ctx a die step asid pos spans).1.mem.wf = true := by
  unfold State.spanData
  have ht := State.translateSpans_wf ctx spans s h
  split <;> rename_i he <;> rw [he] at ht
  · exact ht
  · rename_i s1 pss
    have hf := s1.fetchPieces_wf a die step asid pos (((spans.zip pss).map (fun p => if p.1.read then p.2 else [])).flatten) ht
    dsimp only
    split <;> rename_i he' <;> rw [he'] at hf <;> exact hf

@[simp] theorem State.dropLoads_mem (s : State) (a : Agent) : (s.dropLoads a).mem = s.mem := by simp [State.dropLoads]

@[simp] theorem State.parkJob_mem (s : State) (j : UpdJob) (kind level va : Nat) (write : Bool) (unit : Nat) :
    (s.parkJob j kind level va write unit).mem = s.mem := by simp [State.parkJob]

@[simp] theorem State.unitData_wf (s : State) (j : UpdJob) (unit : Nat) (spans : List Span) (h : s.mem.wf = true) : (s.unitData j unit spans).1.mem.wf = true := by
    simp [State.unitData, h]

@[simp] theorem State.unitWork_wf (s : State) (j : UpdJob) (unit : Nat) (spans : List Span) (k : State → List Bytes → List Pieces → State)
    (hk : ∀ s bss pss, s.mem.wf = true → (k s bss pss).mem.wf = true) (h : s.mem.wf = true) : (s.unitWork j unit spans k).mem.wf = true := by
  unfold State.unitWork
  dsimp only
  split
  · exact h
  · have hd := s.unitData_wf j unit spans h
    split <;> rename_i he <;> rw [he] at hd
    all_goals simp [hd, hk]

@[simp] theorem State.writeTarget_wf (s : State) (j : UpdJob) (g va : Nat) (t : Target) (alloc : Bool) (bs : Bytes) (h : s.mem.wf = true) :
    (s.writeTarget j g va t alloc bs).mem.wf = true := by
  unfold State.writeTarget
  split <;> simp [h]

@[simp] theorem State.sendWaiting_mem (n : Nat) (s : State) : (State.sendWaiting n s).mem = s.mem := by
  induction n generalizing s with
  | zero => rfl
  | succ n ih => unfold State.sendWaiting; split <;> simp [ih]

@[simp] theorem State.writePieces_wf (s : State) (j : UpdJob) (g : Nat) (ps : Pieces) (bs : Bytes) (h : s.mem.wf = true) : (s.writePieces j g ps bs).mem.wf = true :=
  List.foldlRecOn (motive := fun acc : State × Bytes => acc.1.mem.wf = true) _ _ h (fun acc ha p _ => by simp [ha])

@[simp] theorem State.pend_mem (s : State) (j : UpdJob) (nothing empty : Bool) (u w : Nat) : (s.pend j nothing empty u w).mem = s.mem := by simp [State.pend]

@[simp] theorem State.refuseFrozen_wf (s : State) (j : UpdJob) (ps : Pieces) (h : s.mem.wf = true) : (s.refuseFrozen j ps).mem.wf = true := by
    simp [State.refuseFrozen, h]

@[simp] theorem State.beginEntry_wf (s : State) (j : UpdJob) (list : List Nat) (bss : List Bytes) (pss : List Pieces) (h : s.mem.wf = true) :
    (s.beginEntry j list bss pss).mem.wf = true := by simp [State.beginEntry, h]

@[simp] theorem State.takeParameter_wf (s : State) (j : UpdJob) (h : s.mem.wf = true) : (s.takeParameter j).mem.wf = true := by
  unfold State.takeParameter
  dsimp only
  split
  · exact s.unitWork_wf _ _ _ _ (fun s _ _ hs => s.unitWork_wf _ _ _ _ (fun s _ _ hs => by simp [hs]) hs) h
  · exact s.unitWork_wf _ _ _ _ (fun s _ _ hs => by simp [hs]) h

@[simp] theorem State.addFollow_mem (s : State) (j : UpdJob) (kind : FollowKind) (pos : Nat) (desc : BitVec 1024) (rows : List UpdRow) (u w : Nat) (skipped : Bool) :
    (s.addFollow j kind pos desc rows u w skipped).mem = s.mem := by simp [State.addFollow]

@[simp] theorem State.writeWords_wf (s : State) (j : UpdJob) (va : Nat) (rows : List UpdRow) (bytes : UpdRow → Bytes) (h : s.mem.wf = true) :
    (s.writeWords j va rows bytes).mem.wf = true :=
  State.foldl_wf _ (fun s r hs => by simp [hs]) _ _ h

@[simp] theorem State.takeRepublish_wf (s : State) (j : UpdJob) (h : s.mem.wf = true) : (s.takeRepublish j).mem.wf = true := by
  unfold State.takeRepublish
  dsimp only
  split
  · simp [h]
  · split
    · simp [h]
    · refine s.unitWork_wf _ _ _ _ (fun s _ _ hs => ?_) h
      split
      · simp [hs]
      · split <;> simp [hs]

@[simp] theorem State.takeEntry_wf (s : State) (j : UpdJob) (e : Nat) (h : s.mem.wf = true) : (s.takeEntry j e).mem.wf = true := by
  unfold State.takeEntry
  dsimp only
  refine State.ite_wf (by simp [h]) (State.ite_wf (by simp [h]) (State.ite_wf (by simp [h]) (State.ite_wf ?_ (State.ite_wf ?_ (State.ite_wf ?_ (by simp [h]))))))
  · simp [h]
  · simp [h]
  · exact State.unitWork_wf _ _ _ _ _ (fun s _ _ hs => by simp [hs]) (by simp [h])

@[simp] theorem execUpdateEntry_canonical (job : Nat) (s : State) (h : s.mem.wf = true) : Result.Canonical (execUpdateEntry job s) := by
  unfold execUpdateEntry
  split
  · simp [h]
  · exact s.jobTurn_canonical _ _ _ h (s.unitWork_wf _ _ _ _ (fun s _ _ hs => by simp [hs]) h)

@[simp] theorem State.clearGrad_wf (s : State) (j : UpdJob) (ps : Pieces) (n : Nat) (h : s.mem.wf = true) : (s.clearGrad j ps n).mem.wf = true := by
    simp [State.clearGrad, h]

@[simp] theorem State.chunkDone_wf (s : State) (j : UpdJob) (bss : List Bytes) (pss : List Pieces) (h : s.mem.wf = true) : (s.chunkDone j bss pss).mem.wf = true := by
  unfold State.chunkDone
  simp only [State.setJob_mem, State.nonfinites_mem, State.dadd_mem]
  refine State.writePieces_wf _ _ _ _ _ (State.ite_wf ?_ ?_)
  · exact State.writePieces_wf _ _ _ _ _ (State.writePieces_wf _ _ _ _ _ (by simp [h]))
  · exact State.writePieces_wf _ _ _ _ _ (by simp [h])

@[simp] theorem State.momentumDone_wf (s : State) (j : UpdJob) (bss : List Bytes) (pss : List Pieces) (h : s.mem.wf = true) : (s.momentumDone j bss pss).mem.wf = true := by
  unfold State.momentumDone
  simp only [State.setJob_mem, State.invalidLanes_mem, State.nonfinites_mem]
  exact State.writePieces_wf _ _ _ _ _ (by simp [h])

@[simp] theorem State.applyDone_wf (s : State) (j : UpdJob) (bss : List Bytes) (pss : List Pieces) (h : s.mem.wf = true) :
    (s.applyDone j bss pss).mem.wf = true := by simp [State.applyDone, h]

@[simp] theorem execUpdateChunk_canonical (job : Nat) (s : State) (h : s.mem.wf = true) : Result.Canonical (execUpdateChunk job s) := by
  unfold execUpdateChunk
  split
  · simp [h]
  · dsimp only
    split
    · refine s.jobTurn_canonical _ _ _ h ?_
      split
      · exact s.unitWork_wf _ _ _ _ (fun s _ _ hs => by simp [hs]) h
      · exact s.unitWork_wf _ _ _ _ (fun s _ _ hs => by simp [hs]) h
    · exact s.jobTurn_canonical _ _ _ h (s.unitWork_wf _ _ _ _ (fun s _ _ hs => by simp [hs]) h)
    · simp [h]

@[simp] theorem State.lazyDone_wf (s : State) (j : UpdJob) (k : Nat) (bss : List Bytes) (pss : List Pieces) (h : s.mem.wf = true) :
    (s.lazyDone j k bss pss).mem.wf = true := by
  unfold State.lazyDone
  simp only [State.setJob_mem, State.nonfinites_mem, State.dadd_mem]
  exact State.writePieces_wf _ _ _ _ _ (State.writePieces_wf _ _ _ _ _ (State.writePieces_wf _ _ _ _ _ (by simp [h])))

@[simp] theorem execLazyAdamRow_canonical (job : Nat) (s : State) (h : s.mem.wf = true) : Result.Canonical (execLazyAdamRow job s) := by
  unfold execLazyAdamRow
  split
  · simp [h]
  · split
    · simp [h]
    · refine s.jobTurn_canonical _ _ _ h ?_
      split
      · simp [h]
      · split
        · simp [h]
        · exact s.unitWork_wf _ _ _ _ (fun s _ _ hs => by simp [hs]) h

@[simp] theorem State.foldDone_mem (s : State) (j : UpdJob) (bss : List Bytes) : (s.foldDone j bss).mem = s.mem := by
  unfold State.foldDone
  split <;> simp

@[simp] theorem execChunkSumFold_canonical (job : Nat) (s : State) (h : s.mem.wf = true) : Result.Canonical (execChunkSumFold job s) := by
  unfold execChunkSumFold
  split
  · simp [h]
  · dsimp only
    split
    · exact s.jobTurn_canonical _ _ _ h (s.unitWork_wf _ _ _ _ (fun s _ _ hs => by simp [hs]) h)
    · exact s.jobTurn_canonical _ _ _ h (s.unitWork_wf _ _ _ _ (fun s _ _ hs => by simp [hs]) h)
    · simp [h]

@[simp] theorem State.forgetSpace_wf (s : State) (j : UpdJob) (ps : Pieces) (h : s.mem.wf = true) : (s.forgetSpace j ps).mem.wf = true :=
  State.foldl_wf _ (fun s p hs => by split <;> simp [hs]) _ _ h

@[simp] theorem State.tileDone_mem (s : State) (j : UpdJob) : (s.tileDone j).mem = s.mem := by simp [State.tileDone]

@[simp] theorem execOrthoProductTile_canonical (job : Nat) (s : State) (h : s.mem.wf = true) : Result.Canonical (execOrthoProductTile job s) := by
  unfold execOrthoProductTile
  split
  · simp [h]
  · split
    · simp [h]
    · exact s.jobTurn_canonical _ _ _ h (s.unitWork_wf _ _ _ _ (fun s _ _ hs => by split <;> simp [hs]) h)

@[simp] theorem State.commitRec_wf (s : State) (r : PendRec) (h : s.mem.wf = true) : (s.commitRec r).mem.wf = true := by
  unfold State.commitRec
  dsimp only
  repeat' split
  all_goals simp [h]

@[simp] theorem State.followRec_wf (s : State) (r : PendRec) (skipped : Bool) (h : s.mem.wf = true) : (s.followRec r skipped).mem.wf = true := by
  unfold State.followRec
  split <;> simp [h]

@[simp] theorem State.updateEffect_wf (s : State) (conj : Nat) (d : Decision) (h : s.mem.wf = true) : (s.updateEffect conj d).mem.wf = true := by
  unfold State.updateEffect
  split
  · exact h
  · dsimp only
    refine State.ite_wf ?_ (by simp [h])
    refine State.foldl_wf _ (fun s r hs => by simp [hs]) _ _ (State.foldl_wf _ (fun s r hs => ?_) _ _ h)
    split <;> simp [hs]

@[simp] theorem State.discardUpdate_mem (s : State) : s.discardUpdate.mem = s.mem := by simp [State.discardUpdate]
@[simp] theorem State.commitNotReady_mem (s : State) (conj : Nat) (final : Bool) : (s.commitNotReady conj final).mem = s.mem := by simp [State.commitNotReady]
@[simp] theorem State.setFollow_mem (s : State) (f : FollowOn) : (s.setFollow f).mem = s.mem := by simp [State.setFollow]
@[simp] theorem State.endFollow_wf (s : State) (f : FollowOn) (h : s.mem.wf = true) : (s.endFollow f).mem.wf = true := by simp [State.endFollow, h]

@[simp] theorem State.publishDone_wf (s : State) (f : FollowOn) (j : UpdJob) (bss : List Bytes) (pss : List Pieces) (h : s.mem.wf = true) :
    (s.publishDone f j bss pss).mem.wf = true := by
  unfold State.publishDone
  dsimp only
  generalize hw : List.foldl _ _ _ = t
  have ht : t.mem.wf = true := by
    rw [← hw]
    exact State.foldl_wf _ (fun s p hs => by simp [hs]) _ _ (by simp [h])
  split
  · split <;> simp [ht]
  · simp [ht]

@[simp] theorem execPublishRow_canonical (rec : Nat) (s : State) (h : s.mem.wf = true) : Result.Canonical (execPublishRow rec s) := by
  unfold execPublishRow
  split
  · simp [h]
  · dsimp only
    refine s.jobTurn_canonical _ _ _ h ?_
    split
    · refine s.unitWork_wf _ _ _ _ (fun s _ _ hs => ?_) h
      split
      · simp [hs]
      · exact s.unitWork_wf _ _ _ _ (fun s _ _ hs => by simp [hs]) hs
    · exact s.unitWork_wf _ _ _ _ (fun s _ _ hs => by simp [hs]) h

@[simp] theorem State.ratioDone_wf (s : State) (f : FollowOn) (j : UpdJob) (ps : Pieces) (h : s.mem.wf = true) : (s.ratioDone f j ps).mem.wf = true := by
    simp [State.ratioDone, h]

@[simp] theorem execRatioRecordWrite_canonical (rec : Nat) (s : State) (h : s.mem.wf = true) : Result.Canonical (execRatioRecordWrite rec s) := by
  unfold execRatioRecordWrite
  split
  · simp [h]
  · exact s.jobTurn_canonical _ _ _ h (s.unitWork_wf _ _ _ _ (fun s _ _ hs => by simp [hs]) h)

@[simp] theorem State.sweepCounts_mem (s : State) (c : List Nat) : (s.sweepCounts c).mem = s.mem := by simp [State.sweepCounts]

@[simp] theorem State.sweepDone_wf (s : State) (f : FollowOn) (j : UpdJob) (bss : List Bytes) (pss : List Pieces) (h : s.mem.wf = true) :
    (s.sweepDone f j bss pss).mem.wf = true := by
  unfold State.sweepDone
  dsimp only
  generalize hw : List.foldl _ (State.writePieces _ _ _ _ _) _ = t
  have ht : t.mem.wf = true := by
    rw [← hw]
    exact State.foldl_wf _ (fun s p hs => by simp [hs]) _ _ (by simp [h])
  split <;> simp [ht]

@[simp] theorem execScaleSweepBlock_canonical (rec : Nat) (s : State) (h : s.mem.wf = true) : Result.Canonical (execScaleSweepBlock rec s) := by
  unfold execScaleSweepBlock
  split
  · simp [h]
  · exact s.jobTurn_canonical _ _ _ h (s.unitWork_wf _ _ _ _ (fun s _ _ hs => by simp [hs]) h)

@[simp] theorem State.startUpdate_wf (s : State) (a : Action) (h : s.mem.wf = true) : (s.startUpdate a).mem.wf = true := by simp [State.startUpdate, h]

/-! ### Stopping, saving and restoring -/

@[simp] theorem State.stopCoreArrays_mem (s : State) (g : Nat) : (s.stopCoreArrays g).mem = s.mem := by simp [State.stopCoreArrays]
@[simp] theorem State.stopArrays_mem (s : State) : s.stopArrays.mem = s.mem := by simp [State.stopArrays]
@[simp] theorem State.stopFetches_mem (s : State) : s.stopFetches.mem = s.mem := by simp [State.stopFetches]
@[simp] theorem State.stopUnits_mem (s : State) : s.stopUnits.mem = s.mem := by simp [State.stopUnits]
@[simp] theorem State.preStop_mem (s : State) : s.preStop.mem = s.mem := by simp [State.preStop]
@[simp] theorem State.preSave_mem (s : State) : s.preSave.mem = s.mem := by simp [State.preSave]
@[simp] theorem State.preResume_mem (s : State) : s.preResume.mem = s.mem := by simp [State.preResume]

theorem State.restoreUpd_canonical (s : State) (ctx : Nat → Bytes) (h : s.MemoryCanonical) : (s.restoreUpd ctx).MemoryCanonical := by
  unfold State.restoreUpd
  refine State.canonical_foldl _ (fun s g hs => ?_) _ _ h
  extract_lets bs least
  split <;> exact hs

@[simp] theorem State.saveBytes_wf (s : State) (off : Nat) (bs : Bytes) (h : s.mem.wf = true) : (s.saveBytes off bs).mem.wf = true := by simp [State.saveBytes, h]

theorem State.saveBytes_canonical (s : State) (off : Nat) (bs : Bytes) (h : s.MemoryCanonical) : (s.saveBytes off bs).MemoryCanonical :=
  State.saveBytes_wf s off bs h
theorem State.saveImages_canonical (s t : State) (x y g : Nat) (h : t.MemoryCanonical) :
    (let (a, b) := s.coreImages g; (t.saveBytes x a).saveBytes y b).MemoryCanonical := by
  generalize s.coreImages g = p
  exact State.saveBytes_canonical _ _ _ (State.saveBytes_canonical _ _ _ h)
theorem State.saveEach_canonical (s : State) (off : Nat → Nat) (bs : Nat → Bytes) (l : List Nat) (h : s.MemoryCanonical) :
    (l.foldl (fun t g => t.saveBytes (off g) (bs g)) s).MemoryCanonical :=
  State.canonical_foldl _ (fun t _ ht => State.saveBytes_canonical t _ _ ht) _ _ h
theorem State.writeSaveArea_canonical (s : State) (kind abandoned : Nat) (h : s.MemoryCanonical) : (s.writeSaveArea kind abandoned).MemoryCanonical := by
  unfold State.writeSaveArea
  extract_lets t1 t2 t3 t4 t5
  have h3 : t3.MemoryCanonical := State.saveBytes_canonical _ _ _ (State.saveBytes_canonical _ _ _ (State.saveBytes_canonical _ _ _ h))
  have h5 : t5.MemoryCanonical := State.saveEach_canonical _ _ _ _ (State.saveEach_canonical _ _ _ _ h3)
  exact State.canonical_ite (State.canonical_foldl _ (fun t g ht => State.saveImages_canonical s t _ _ g ht) _ _ h5) h5
@[simp] theorem State.writeSaveArea_wf (s : State) (kind abandoned : Nat) (h : s.mem.wf = true) : (s.writeSaveArea kind abandoned).mem.wf = true :=
  State.writeSaveArea_canonical s kind abandoned h

@[simp] theorem State.stopMovers_mem (s : State) : s.stopMovers.mem = s.mem := by simp [State.stopMovers]
@[simp] theorem State.reachSafe_mem (s : State) : s.reachSafe.mem = s.mem := by simp [State.reachSafe]

theorem State.withTrans_canonical (s : State) (x : TransState) (h : s.MemoryCanonical) : ({ s with trans := x } : State).MemoryCanonical := h
theorem State.reachSafe_canonical (s : State) (h : s.MemoryCanonical) : s.reachSafe.MemoryCanonical := by
  unfold State.MemoryCanonical
  rw [State.reachSafe_mem]
  exact h
@[simp] theorem execPreemptStopDone_canonical (s : State) (h : s.mem.wf = true) : Result.Canonical (execPreemptStopDone s) := by
  unfold execPreemptStopDone
  exact canonical_when _ h (State.withTrans_canonical _ _ (State.writeSaveArea_canonical _ _ _ (State.reachSafe_canonical _ h)))

@[simp] theorem execPreemptSaveDone_canonical (s : State) (h : s.mem.wf = true) : Result.Canonical (execPreemptSaveDone s) := by
  unfold execPreemptSaveDone
  exact canonical_when _ h (State.withTrans_canonical _ _ (State.writeSaveArea_canonical _ _ _ (State.canonical_ite h (State.reachSafe_canonical _ h))))

theorem State.xFault_canonical (s : State) (h : s.MemoryCanonical) (code die step loc sub asid va agent : Nat) :
    (s.xFault code die step loc sub asid va agent).MemoryCanonical := by
  unfold State.MemoryCanonical
  rw [State.xFault_mem]
  exact h
theorem State.fatal_canonical (s : State) (h : s.MemoryCanonical) (code die : Nat) (src : Source) (step loc sub : Nat) (detail : Bytes) :
    (s.fatal code die src step loc sub detail).MemoryCanonical := h
theorem State.checkMovers_canonical (s : State) (h : s.MemoryCanonical) : s.checkMovers.MemoryCanonical := by
  unfold State.checkMovers
  exact State.canonical_foldl _ (fun s _ hs => State.canonical_ite hs (State.xFault_canonical s hs ..)) _ _ h

theorem State.checkUpdates_canonical (s : State) (h : s.MemoryCanonical) : s.checkUpdates.MemoryCanonical := by
  unfold State.checkUpdates
  exact State.canonical_foldl _ (fun s _ hs => State.canonical_ite hs (State.fatal_canonical s hs ..)) _ _ h

theorem State.checkCores_canonical (s : State) (h : s.MemoryCanonical) : s.checkCores.MemoryCanonical := by
  unfold State.checkCores
  exact State.canonical_foldl _ (fun s _ hs => State.canonical_ite hs (State.xFault_canonical s hs ..)) _ _ h

theorem State.checkArrays_canonical (s : State) (h : s.MemoryCanonical) : s.checkArrays.MemoryCanonical := by
  unfold State.checkArrays
  exact State.canonical_foldl _ (fun s _ hs => State.canonical_ite hs (State.fatal_canonical s hs ..)) _ _ h

theorem State.store_canonical (s : State) (a : Nat) (bs : Bytes) (h : s.MemoryCanonical) : (s.store a bs).MemoryCanonical := State.store_wf s a bs h
theorem State.restoreAll_canonical (s : State) (h : s.MemoryCanonical) : s.restoreAll.MemoryCanonical := by
  unfold State.restoreAll
  refine State.canonical_foldl _ (fun t g ht => State.store_canonical _ _ _ (State.store_canonical _ _ _ ht)) _ _ ?_
  refine State.restoreUpd_canonical _ _ ?_
  exact h

@[simp] theorem State.restartFetches_wf (s : State) (h : s.mem.wf = true) : s.restartFetches.mem.wf = true := by
  unfold State.restartFetches
  refine State.foldl_wf _ (fun s p hs => State.foldl_wf _ (fun s l hs => ?_) _ _ hs) _ _ h
  split <;> simp [hs]

@[simp] theorem State.goOn_wf (s : State) (h : s.mem.wf = true) : s.goOn.mem.wf = true := by simp [State.goOn, h]

@[simp] theorem State.applyReleases_wf (seqs abandons : List Nat) (s : State) (h : s.mem.wf = true) : (State.applyReleases seqs abandons s).mem.wf = true := by
  unfold State.applyReleases
  refine State.foldl_wf _ (fun s q hs => ?_) _ _ (State.foldl_wf _ (fun s q hs => ?_) _ _ h) <;> split <;> simp [hs]



theorem State.checkHeader_canonical (s : State) (h : s.MemoryCanonical) : s.checkHeader.MemoryCanonical :=
  State.canonical_ite h (State.xFault_canonical s h ..)
theorem State.checkSaved_canonical (s : State) (h : s.MemoryCanonical) : s.checkSaved.MemoryCanonical :=
  State.checkArrays_canonical _ (State.checkCores_canonical _ (State.checkUpdates_canonical _ (State.checkMovers_canonical _ (State.checkHeader_canonical _ h))))
@[simp] theorem execPreemptRestoreDone_canonical (s : State) (h : s.mem.wf = true) : Result.Canonical (execPreemptRestoreDone s) := by
  unfold execPreemptRestoreDone
  refine canonical_when _ h (State.canonical_ite ?_ (State.withTrans_canonical _ _ ?_))
  · exact State.applyReleases_wf _ _ _ (State.goOn_wf _ (State.canonical_ite (State.restoreAll_canonical _ h) h))
  · exact State.canonical_ite (State.checkSaved_canonical _ h) h

/-! ### Halts -/

@[simp] theorem State.stopThreads_mem (s : State) : s.stopThreads.mem = s.mem := by simp [State.stopThreads]
@[simp] theorem State.saveHalt_wf (s : State) (abandoned : Nat) (h : s.mem.wf = true) : (s.saveHalt abandoned).mem.wf = true := by simp [State.saveHalt, h]
@[simp] theorem State.finishHalt_wf (s : State) (h : s.mem.wf = true) : s.finishHalt.mem.wf = true := by simp [State.finishHalt, h]

@[simp] theorem State.haltNow_wf (s : State) (code : Nat) (missing : BitVec 512) (h : s.mem.wf = true) : (s.haltNow code missing).mem.wf = true := by
    simp [State.haltNow, h]

@[simp] theorem State.enterFence_wf (s : State) (l : Nat) (h : s.mem.wf = true) : (s.enterFence l).mem.wf = true := by simp [State.enterFence, h]

@[simp] theorem State.stopAt_mem (s : State) (r : Req) : (s.stopAt r).mem = s.mem := by
  unfold State.stopAt
  repeat' split
  all_goals simp

@[simp] theorem State.abandon_wf (s : State) (h : s.mem.wf = true) : s.abandon.mem.wf = true := by
  unfold State.abandon
  exact State.saveHalt_wf _ _ (State.foldl_wf _ (fun s r hs => by simp [hs]) _ _ h)

@[simp] theorem execQuietRequestAbandon_canonical (s : State) (h : s.mem.wf = true) : Result.Canonical (execQuietRequestAbandon s) := by
  unfold execQuietRequestAbandon
  split <;> simp [h]

/-! ### The link layer -/

@[simp] theorem State.enterLink_mem (s : State) (l : Nat) (st : LinkSt) (code : Nat) : (s.enterLink l st code).mem = s.mem := by simp [State.enterLink]

@[simp] theorem State.compareIdentity_mem (s : State) (l : Nat) : (s.compareIdentity l).mem = s.mem := by
  unfold State.compareIdentity
  repeat' split
  all_goals simp

@[simp] theorem execLinkRetryTimer_canonical (link : Fin 36) (s : State) (h : s.mem.wf = true) : Result.Canonical (execLinkRetryTimer link s) := by
  unfold execLinkRetryTimer
  dsimp only
  repeat' split
  all_goals simp [h]

@[simp] theorem execLinkDetected_canonical (link : Fin 36) (s : State) (h : s.mem.wf = true) : Result.Canonical (execLinkDetected link s) := by
    simp [execLinkDetected, h]

@[simp] theorem State.equalised_mem (s : State) (l : Nat) (laneMap : BitVec 24) (polarity : BitVec 8) : (s.equalised l laneMap polarity).mem = s.mem := by
    simp [State.equalised]

@[simp] theorem execLinkEqualised_canonical (link : Fin 36) (laneMap : BitVec 24) (polarity : BitVec 8) (ok : Bool) (s : State) (h : s.mem.wf = true) :
    Result.Canonical (execLinkEqualised link laneMap polarity ok s) := by simp [execLinkEqualised, h]

@[simp] theorem State.takeIdentity_mem (s : State) (l : Nat) (m : IdentityMsg) : (s.takeIdentity l m).mem = s.mem := by simp [State.takeIdentity]
@[simp] theorem State.strand_mem (s : State) (l : Nat) (f : TxFrame) : (s.strand l f).mem = s.mem := by simp [State.strand]
@[simp] theorem State.linkDown_mem (s : State) (l : Nat) : (s.linkDown l).mem = s.mem := by simp [State.linkDown]

@[simp] theorem execLinkDown_canonical (link : Fin 36) (s : State) (h : s.mem.wf = true) : Result.Canonical (execLinkDown link s) := by
  unfold execLinkDown
  split <;> simp [h]

@[simp] theorem State.retrain_mem (s : State) (l : Nat) : (s.retrain l).mem = s.mem := by simp [State.retrain]

@[simp] theorem execLinkRetrain_canonical (link : Fin 36) (s : State) (h : s.mem.wf = true) : Result.Canonical (execLinkRetrain link s) := by
    simp [execLinkRetrain, h]

@[simp] theorem execIdentity_canonical (link : Fin 36) (flit : BitVec 1600) (s : State) (h : s.mem.wf = true) : Result.Canonical (execIdentity link flit s) := by
    simp [execIdentity, h]

@[simp] theorem State.takeCredits_mem (s : State) (l x : Nat) : (s.takeCredits l x).mem = s.mem := by simp [State.takeCredits]

@[simp] theorem State.resend_mem (s : State) (l : Nat) : (s.resend l).mem = s.mem := by
  unfold State.resend
  dsimp only
  split
  · rfl
  · rw [State.foldl_mem _ (fun s p => by simp)]
    simp

@[simp] theorem execCreditUpdate_canonical (link : Fin 36) (flit : BitVec 1600) (s : State) (h : s.mem.wf = true) :
    Result.Canonical (execCreditUpdate link flit s) := by simp [execCreditUpdate, h]

@[simp] theorem execNak_canonical (link : Fin 36) (flit : BitVec 1600) (s : State) (h : s.mem.wf = true) : Result.Canonical (execNak link flit s) := by
    simp [execNak, h]

@[simp] theorem execReplayTimeout_canonical (link : Fin 36) (s : State) (h : s.mem.wf = true) : Result.Canonical (execReplayTimeout link s) := by
    simp [execReplayTimeout, h]

@[simp] theorem State.frameArrived_mem (s : State) (l vc : Nat) (p : RxPart) : (s.frameArrived l vc p).mem = s.mem := by simp [State.frameArrived]

@[simp] theorem State.takePayload_mem (s : State) (l x : Nat) : (s.takePayload l x).mem = s.mem := by
  unfold State.takePayload
  dsimp only
  split <;> simp

@[simp] theorem State.acceptFlit_mem (s : State) (l x : Nat) : (s.acceptFlit l x).mem = s.mem := by simp [State.acceptFlit]
@[simp] theorem State.discardFlit_mem (s : State) (l : Nat) : (s.discardFlit l).mem = s.mem := by simp [State.discardFlit]
@[simp] theorem State.fecCorrected_mem (s : State) (l n : Nat) : (s.fecCorrected l n).mem = s.mem := by simp [State.fecCorrected]

@[simp] theorem execFlitReceived_canonical (link : Fin 36) (flit : RxFlit) (s : State) (h : s.mem.wf = true) : Result.Canonical (execFlitReceived link flit s) := by
    simp [execFlitReceived, h]

@[simp] theorem execFenceNotice_canonical (link : Fin 36) (incarnation : BitVec 16) (s : State) (h : s.mem.wf = true) :
    Result.Canonical (execFenceNotice link incarnation s) := by simp [execFenceNotice, h]

@[simp] theorem execFenceNoticeSend_canonical (link : Fin 36) (s : State) (h : s.mem.wf = true) : Result.Canonical (execFenceNoticeSend link s) := by
    simp [execFenceNoticeSend, h]

@[simp] theorem State.dropStale_mem (s : State) : s.dropStale.mem = s.mem := by simp [State.dropStale]

@[simp] theorem State.reviewLink_mem (s : State) (l : Nat) : (s.reviewLink l).mem = s.mem := by
  unfold State.reviewLink
  dsimp only
  repeat' split
  all_goals simp

@[simp] theorem State.commitFabric_mem (s : State) : s.commitFabric.mem = s.mem := by
  unfold State.commitFabric
  simp only [State.foldl_mem _ State.reviewLink_mem, State.foldl_mem _ (fun (s : State) (g : Nat) => State.dset_mem s _ _ _), State.lset_mem]

@[simp] theorem State.recomputeStaged_mem (s : State) : s.recomputeStaged.mem = s.mem := by
  unfold State.recomputeStaged
  exact State.foldl_mem _ (fun s l => by simp) _ _

@[simp] theorem State.unfence_mem (s : State) : s.unfence.mem = s.mem := by simp [State.unfence]

@[simp] theorem State.seamCredit_mem (s : State) (route : List Nat) (hop vc : Nat) : (s.seamCredit route hop vc).mem = s.mem := by
  unfold State.seamCredit
  split <;> simp

@[simp] theorem State.seamFlit_mem (s : State) (dir hand cls : Nat) (header ok : Bool) : (s.seamFlit dir hand cls header ok).mem = s.mem := by simp [State.seamFlit]

@[simp] theorem execSeamRidgeFlit_canonical (hop : SeamHop) (load : SeamLoad) (wire : SeamWire) (s : State) (h : s.mem.wf = true) :
    Result.Canonical (execSeamRidgeFlit hop load wire s) := by
  unfold execSeamRidgeFlit
  dsimp only
  split <;> simp [h]

@[simp] theorem execDieLost_canonical (die : Fin 4) (s : State) (h : s.mem.wf = true) : Result.Canonical (execDieLost die s) := by simp [execDieLost, h]

/-! ### The fabric -/

@[simp] theorem State.dropFabric_mem (s : State) (id : Nat) : (s.dropFabric id).mem = s.mem := by simp [State.dropFabric]
@[simp] theorem State.descFault_mem (s : State) (a : Action) (l tag va : Nat) : (s.descFault a l tag va).mem = s.mem := by simp [State.descFault]

@[simp] theorem State.fabricXFault_mem (s : State) (a : Action) (tag va : Nat) (x : Xlate) : (s.fabricXFault a tag va x).mem = s.mem := by
  unfold State.fabricXFault
  split <;> simp

@[simp] theorem State.actionWork_wf (s : State) (a : Action) (tag : Nat) (spans : List Span) (k : State → List Bytes → List Pieces → State)
    (hk : ∀ s bss pss, s.mem.wf = true → (k s bss pss).mem.wf = true) (h : s.mem.wf = true) : (s.actionWork a tag spans k).mem.wf = true := by
  unfold State.actionWork
  have hd := s.spanData_wf a.ctx (.action a.id) a.transit.die a.step a.asid (0, 0, 0) spans h
  split <;> rename_i he <;> rw [he] at hd
  all_goals simp [hd, hk]

@[simp] theorem State.actionStore_wf (s : State) (a : Action) (va : Nat) (t : Target) (alloc : Bool) (bs : Bytes) (h : s.mem.wf = true) :
    (s.actionStore a va t alloc bs).mem.wf = true := by
  unfold State.actionStore
  split <;> simp [h]

@[simp] theorem State.actionWrite_wf (s : State) (a : Action) (ps : Pieces) (bs : Bytes) (h : s.mem.wf = true) : (s.actionWrite a ps bs).mem.wf = true :=
  List.foldlRecOn (motive := fun acc : State × Bytes => acc.1.mem.wf = true) _ _ h (fun acc ha p _ => by simp [ha])

@[simp] theorem State.closeAction_mem (s : State) (id : Nat) : (s.closeAction id).mem = s.mem := by simp [State.closeAction]
@[simp] theorem State.startGate_mem (s : State) (a : Action) : (s.startGate a).mem = s.mem := by simp [State.startGate]
@[simp] theorem State.takeGateInc_mem (s : State) (f : Frame) : (s.takeGateInc f).mem = s.mem := by simp [State.takeGateInc]

@[simp] theorem execGateInc_canonical (s : State) (h : s.mem.wf = true) : Result.Canonical (execGateInc s) :=
  takeFrame_canonical _ _ h (fun r f t ht => by simp [ht])

@[simp] theorem State.takeGateAck_mem (s : State) (f : Frame) : (s.takeGateAck f).mem = s.mem := by
  unfold State.takeGateAck
  split <;> simp

@[simp] theorem execGateAck_canonical (s : State) (h : s.mem.wf = true) : Result.Canonical (execGateAck s) :=
  takeFrame_canonical _ _ h (fun r f t ht => by simp [ht])

@[simp] theorem State.openWindow_mem (s : State) (a : Action) (d : Nat) (dst : Pieces) : (s.openWindow a d dst).mem = s.mem := by simp [State.openWindow]

@[simp] theorem State.startWindow_wf (s : State) (a : Action) (h : s.mem.wf = true) : (s.startWindow a).mem.wf = true := by
  unfold State.startWindow
  refine State.actionWork_wf _ _ _ _ _ (fun s bs pss hs => State.ite_wf (by simp [hs]) ?_) h
  exact State.actionWork_wf _ _ _ _ _ (fun s bs pss hs => by simp [hs]) hs

@[simp] theorem State.windowOut_mem (s : State) (a : Action) (w : WinOut) (t : Target) (body : Bytes) (eth : Nat → Nat → Frame → State → State) (heth : ∀ n n2 f s, (eth n n2 f s).mem = s.mem) :
    (s.windowOut a w t body eth).mem = s.mem := by simp [State.windowOut, heth]

@[simp] theorem State.sendWindow_wf (s : State) (a : Action) (w : WinOut) (eth : Nat → Nat → Frame → State → State)
    (heth : ∀ l n f s, (eth l n f s).mem = s.mem) (h : s.mem.wf = true) : (s.sendWindow a w eth).mem.wf = true := by
  unfold State.sendWindow
  exact State.actionWork_wf _ _ _ _ _ (fun s bs pss hs => by simp [hs, heth]) h

@[simp] theorem State.finishWindow_mem (s : State) (w : WinOut) : (s.finishWindow w).mem = s.mem := by
  unfold State.finishWindow
  split <;> simp

@[simp] theorem State.finishWindows_mem (s : State) : s.finishWindows.mem = s.mem := by simp [State.finishWindows]

@[simp] theorem State.foreignWrite_wf (s : State) (a : Nat) (bs : Bytes) (h : s.mem.wf = true) : (s.foreignWrite a bs).mem.wf = true := by
    simp [State.foreignWrite, h]

@[simp] theorem State.takeWindow_wf (s : State) (f : Frame) (back : Frame → State → State) (hback : ∀ f s, s.mem.wf = true → (back f s).mem.wf = true) (h : s.mem.wf = true) :
    (s.takeWindow f back).mem.wf = true := by simp [State.takeWindow, h, hback]

@[simp] theorem State.takeWindowDone_mem (s : State) (f : Frame) : (s.takeWindowDone f).mem = s.mem := by
  unfold State.takeWindowDone
  split <;> simp

/-! ### Ethernet-mode links -/

@[simp] theorem State.ethSend_mem (s : State) (l sport tx : Nat) (ackOnly : Bool) (frame : Bytes) : (s.ethSend l sport tx ackOnly frame).mem = s.mem := by
    simp [State.ethSend]

@[simp] theorem ethPump_mem (l n : Nat) (s : State) : (ethPump l n s).mem = s.mem := by
  induction n generalizing s with
  | zero => rfl
  | succ n ih =>
    unfold ethPump
    dsimp only
    split
    · rfl
    · split
      · rfl
      · simp [ih]

@[simp] theorem State.pumpEth_mem (s : State) (l : Nat) : (s.pumpEth l).mem = s.mem := by simp [State.pumpEth]
@[simp] theorem ethFrame_mem (l seq : Nat) (f : Frame) (s : State) : (ethFrame l seq f s).mem = s.mem := by simp [ethFrame]
@[simp] theorem State.ethAck_mem (s : State) (l : Nat) : (s.ethAck l).mem = s.mem := by simp [State.ethAck]
@[simp] theorem State.ethDrop_mem (s : State) (l : Nat) : (s.ethDrop l).mem = s.mem := by simp [State.ethDrop]

@[simp] theorem State.relay_mem (s : State) (l : Nat) (f : Frame) : (s.relay l f).2.mem = s.mem := by
  unfold State.relay
  dsimp only
  split <;> simp

@[simp] theorem State.relayFrame_mem (s : State) (l : Nat) (f : Frame) : (s.relayFrame l f).mem = s.mem := by simp [State.relayFrame]
@[simp] theorem State.ethDeliver_mem (s : State) (l : Nat) (bs : Bytes) : (s.ethDeliver l bs).mem = s.mem := by simp [State.ethDeliver]
@[simp] theorem State.ethDatagram_mem (s : State) (l : Nat) (ce : Bool) (data : Bytes) : (s.ethDatagram l ce data).mem = s.mem := by simp [State.ethDatagram]

@[simp] theorem State.ethPacket_mem (s : State) (l : Nat) (bs : Bytes) : (s.ethPacket l bs).mem = s.mem := by
  unfold State.ethPacket
  repeat' split
  all_goals simp

@[simp] theorem execEthPacket_canonical (link : Fin 36) (packet : List Byte) (s : State) (h : s.mem.wf = true) :
    Result.Canonical (execEthPacket link packet s) := by simp [execEthPacket, h]

@[simp] theorem State.ethResend_mem (s : State) (l : Nat) : (s.ethResend l).mem = s.mem := by simp [State.ethResend]
@[simp] theorem execEthLinkUp_canonical (link : Fin 36) (s : State) (h : s.mem.wf = true) : Result.Canonical (execEthLinkUp link s) := by simp [execEthLinkUp, h]

@[simp] theorem execEthLinkLost_canonical (link : Fin 36) (s : State) (h : s.mem.wf = true) : Result.Canonical (execEthLinkLost link s) := by
    simp [execEthLinkLost, h]

@[simp] theorem execEthRetransmitTimeout_canonical (link : Fin 36) (s : State) (h : s.mem.wf = true) : Result.Canonical (execEthRetransmitTimeout link s) := by
    simp [execEthRetransmitTimeout, h]

@[simp] theorem execEthAckTimer_canonical (link : Fin 36) (s : State) (h : s.mem.wf = true) : Result.Canonical (execEthAckTimer link s) := by
    simp [execEthAckTimer, h]

@[simp] theorem execEthNeighborSolicitation_canonical (link : Fin 36) (packet : List Byte) (s : State) (h : s.mem.wf = true) :
    Result.Canonical (execEthNeighborSolicitation link packet s) := by
  unfold execEthNeighborSolicitation
  repeat' split
  all_goals simp [h]

@[simp] theorem execEthEchoRequest_canonical (link : Fin 36) (packet : List Byte) (s : State) (h : s.mem.wf = true) :
    Result.Canonical (execEthEchoRequest link packet s) := by
  unfold execEthEchoRequest
  repeat' split
  all_goals simp [h]

@[simp] theorem execWindowFrameSend_canonical (window : Nat) (s : State) (h : s.mem.wf = true) : Result.Canonical (execWindowFrameSend window s) := by
  unfold execWindowFrameSend
  repeat' split
  all_goals simp [h]

@[simp] theorem State.takeDone_mem (s : State) (f : Frame) : (s.takeDone f).mem = s.mem := by
  unfold State.takeDone
  split <;> simp

@[simp] theorem execWindowDone_canonical (s : State) (h : s.mem.wf = true) : Result.Canonical (execWindowDone s) :=
  takeFrame_canonical _ _ h (fun r f t ht => by simp [ht])

@[simp] theorem windowBack_mem (r : RxFrame) (f : Frame) (s : State) : (windowBack r f s).mem = s.mem := by simp [windowBack]

theorem State.takeWindowFrame_mem (s : State) (r : RxFrame) (f : Frame) (t : State) (h : s.takeWindowFrame = some (r, f, t)) : t.mem = s.mem := by
  unfold State.takeWindowFrame at h
  split at h
  · cases h
  · cases h; rfl

@[simp] theorem execWindowData_canonical (s : State) (h : s.mem.wf = true) : Result.Canonical (execWindowData s) := by
  unfold execWindowData
  split
  · simp [h]
  · rename_i he
    simp [State.takeWindowFrame_mem s _ _ _ he, h]

/-! ### Reductions -/

@[simp] theorem State.setRoot_mem (s : State) (r : RedRoot) : (s.setRoot r).mem = s.mem := by simp [State.setRoot]
@[simp] theorem State.grantMore_mem (s : State) (a : Action) (r : RedRoot) : (s.grantMore a r).mem = s.mem := by simp [State.grantMore]
@[simp] theorem State.reduceDone_mem (s : State) (id : Nat) : (s.reduceDone id).mem = s.mem := by simp [State.reduceDone]
@[simp] theorem State.setContrib_mem (s : State) (c : RedContrib) : (s.setContrib c).mem = s.mem := by simp [State.setContrib]

@[simp] theorem pumpContrib_wf (a : Action) (index n : Nat) (s : State) (h : s.mem.wf = true) : (pumpContrib a index n s).mem.wf = true := by
  induction n generalizing s with
  | zero => exact h
  | succ n ih =>
    unfold pumpContrib
    split
    · exact h
    · split
      · exact h
      · exact ih _ (State.actionWork_wf _ _ _ _ _ (fun s bs pss hs => by simp [hs]) h)

@[simp] theorem State.pumpContribs_wf (s : State) (a : Action) (h : s.mem.wf = true) : (s.pumpContribs a).mem.wf = true :=
  State.ite_wf h (State.foldl_wf _ (fun s c hs => by simp [hs]) _ _ h)

@[simp] theorem State.takeEarly_mem (s : State) (c : RedContrib) : (s.takeEarly c).1.mem = s.mem := by simp [State.takeEarly]

@[simp] theorem State.openReduce_wf (s : State) (a : Action) (d : Nat) (entries : List Nat) (root : Bool) (mine : List (Nat × Nat)) (h : s.mem.wf = true) :
    (s.openReduce a d entries root mine).mem.wf = true := by simp [State.openReduce, h]

@[simp] theorem State.startReduce_wf (s : State) (a : Action) (h : s.mem.wf = true) : (s.startReduce a).mem.wf = true := by
  unfold State.startReduce
  dsimp only
  refine State.ite_wf (by simp [h]) (State.ite_wf (by simp [h]) (State.actionWork_wf _ _ _ _ _ (fun s bs pss hs => ?_) h))
  refine State.ite_wf (by simp [hs]) (State.ite_wf (by simp [hs]) (State.actionWork_wf _ _ _ _ _ (fun s bs pss hs => by simp [hs]) hs))

@[simp] theorem State.stagingDrop_mem (s : State) (die tag : Nat) : (s.stagingDrop die tag).mem = s.mem := by simp [State.stagingDrop]

@[simp] theorem State.takeGrant_wf (s : State) (f : Frame) (h : s.mem.wf = true) : (s.takeGrant f).mem.wf = true := by
  unfold State.takeGrant
  dsimp only
  repeat' split
  all_goals simp [h]

@[simp] theorem execReduceGrant_canonical (s : State) (h : s.mem.wf = true) : Result.Canonical (execReduceGrant s) :=
  takeFrame_canonical _ _ h (fun r f t ht => by simp [ht])

@[simp] theorem State.takeContrib_mem (s : State) (f : Frame) : (s.takeContrib f).mem = s.mem := by
  unfold State.takeContrib
  dsimp only
  split <;> simp

@[simp] theorem execReduceContrib_canonical (s : State) (h : s.mem.wf = true) : Result.Canonical (execReduceContrib s) :=
  takeFrame_canonical _ _ h (fun r f t ht => by simp [ht])

@[simp] theorem State.takeReduceAck_mem (s : State) (f : Frame) : (s.takeReduceAck f).mem = s.mem := by
  unfold State.takeReduceAck
  dsimp only
  split <;> simp

@[simp] theorem execReduceAck_canonical (s : State) (h : s.mem.wf = true) : Result.Canonical (execReduceAck s) :=
  takeFrame_canonical _ _ h (fun r f t ht => by simp [ht])

@[simp] theorem State.segmentWritten_mem (s : State) (a : Action) (r : RedRoot) (seg : Nat) : (s.segmentWritten a r seg).mem = s.mem := by
    simp [State.segmentWritten]

@[simp] theorem State.combineSegment_wf (s : State) (a : Action) (r : RedRoot) (x : RedSeg) (h : s.mem.wf = true) : (s.combineSegment a r x).mem.wf = true :=
  State.actionWork_wf _ _ _ _ _ (fun s bs pss hs => by simp [hs]) h

@[simp] theorem execReduceSegmentCombine_canonical (root segment : Nat) (s : State) (h : s.mem.wf = true) :
    Result.Canonical (execReduceSegmentCombine root segment s) := by
  unfold execReduceSegmentCombine
  repeat' split
  all_goals simp [h]

/-! ### Token exchanges -/

@[simp] theorem State.useVectors_mem (s : State) (x : Exchange) : (s.useVectors x).mem = s.mem := by simp [State.useVectors]
@[simp] theorem State.setExch_mem (s : State) (x : Exchange) : (s.setExch x).mem = s.mem := by simp [State.setExch]

@[simp] theorem State.exchDone_mem (s : State) (id : Nat) : (s.exchDone id).mem = s.mem := by
  unfold State.exchDone
  split <;> simp

@[simp] theorem State.sendFragment_wf (s : State) (a : Action) (x : Exchange) (t : TokSend) (rest : List TokSend) (h : s.mem.wf = true) :
    (s.sendFragment a x t rest).mem.wf = true := by simp [State.sendFragment, h]

@[simp] theorem pumpRows_wf (a : Action) (n : Nat) (s : State) (h : s.mem.wf = true) : (pumpRows a n s).mem.wf = true := by
  induction n generalizing s with
  | zero => exact h
  | succ n ih =>
    unfold pumpRows
    split
    · exact h
    · split
      · exact h
      · exact ih _ (by simp [h])

@[simp] theorem State.pumpExch_wf (s : State) (a : Action) (h : s.mem.wf = true) : (s.pumpExch a).mem.wf = true := by
  unfold State.pumpExch
  split <;> simp [h]

@[simp] theorem State.beginRows_wf (s : State) (a : Action) (x : Exchange) (n : List (List Nat)) (h : s.mem.wf = true) : (s.beginRows a x n).mem.wf = true := by
  unfold State.beginRows
  refine State.actionWork_wf _ _ _ _ _ (fun s bs pss hs => ?_) h
  exact State.pumpExch_wf _ _ (by simp [hs])

@[simp] theorem State.tryRows_wf (s : State) (a : Action) (h : s.mem.wf = true) : (s.tryRows a).mem.wf = true := by
  unfold State.tryRows
  repeat' split
  all_goals simp [h]

@[simp] theorem State.sendCounts_mem (s : State) (a : Action) (x : Exchange) : (s.sendCounts a x).mem = s.mem := by simp [State.sendCounts]

@[simp] theorem State.startDispatch_wf (s : State) (a : Action) (d : Nat) (group : List Nat) (map : List (Nat × Nat)) (h : s.mem.wf = true) :
    (s.startDispatch a d group map).mem.wf = true := by
  unfold State.startDispatch
  refine State.actionWork_wf _ _ _ _ _ (fun s bs pss hs => ?_) h
  exact State.ite_wf (by simp [hs]) (State.actionWork_wf _ _ _ _ _ (fun s bs pss hs => by simp [hs]) hs)

@[simp] theorem State.startReturn_wf (s : State) (a : Action) (d : Nat) (group : List Nat) (map : List (Nat × Nat)) (h : s.mem.wf = true) :
    (s.startReturn a d group map).mem.wf = true := by
  unfold State.startReturn
  refine State.actionWork_wf _ _ _ _ _ (fun s bs pss hs => ?_) h
  refine State.actionWork_wf _ _ _ _ _ (fun s bs pss hs => ?_) hs
  refine State.actionWork_wf _ _ _ _ _ (fun s bs pss hs => ?_) hs
  exact State.pumpExch_wf _ _ (State.foldl_wf _ (fun s ps hs => by simp [hs]) _ _ hs)

@[simp] theorem State.startExchange_wf (s : State) (a : Action) (h : s.mem.wf = true) : (s.startExchange a).mem.wf = true := by
  unfold State.startExchange
  dsimp only
  refine State.ite_wf (by simp [h]) (State.actionWork_wf _ _ _ _ _ (fun s bs pss hs => ?_) h)
  refine State.ite_wf (by simp [hs]) (State.actionWork_wf _ _ _ _ _ (fun s bs pss hs => ?_) hs)
  exact State.ite_wf (by simp [hs]) (State.ite_wf (by simp [hs]) (by simp [hs]))

@[simp] theorem State.addPart_mem (s : State) (f : Frame) : (s.addPart f).mem = s.mem := by simp [State.addPart]

@[simp] theorem State.takeCounts_wf (s : State) (f : Frame) (h : s.mem.wf = true) : (s.takeCounts f).mem.wf = true := by
  unfold State.takeCounts
  dsimp only
  split <;> simp [h]

@[simp] theorem execTokenCounts_canonical (s : State) (h : s.mem.wf = true) : Result.Canonical (execTokenCounts s) :=
  takeFrame_canonical _ _ h (fun r f t ht => when_wf _ h (by simp [ht]))

@[simp] theorem State.rowComplete_wf (s : State) (a : Action) (x : Exchange) (f : Frame) (r : TokRow) (h : s.mem.wf = true) : (s.rowComplete a x f r).mem.wf = true :=
  State.actionWork_wf _ _ _ _ _ (fun s bs pss hs => by simp [hs]) h

@[simp] theorem State.takeRow_wf (s : State) (a : Action) (x : Exchange) (f : Frame) (h : s.mem.wf = true) : (s.takeRow a x f).mem.wf = true := by
  unfold State.takeRow
  refine State.actionWork_wf _ _ _ _ _ (fun s bs pss hs => ?_) h
  exact State.ite_wf (by simp [hs]) (by simp [hs])

@[simp] theorem execTokenRow_canonical (s : State) (h : s.mem.wf = true) : Result.Canonical (execTokenRow s) := by
  refine takeFrame_canonical _ _ h (fun r f t ht => ?_)
  simp only [next_canonical, State.freeFrame_mem]
  split
  · simp [ht]
  · split <;> simp [ht]

@[simp] theorem State.takeTokenAck_mem (s : State) (f : Frame) : (s.takeTokenAck f).mem = s.mem := by
  unfold State.takeTokenAck
  split <;> simp

@[simp] theorem execTokenAck_canonical (s : State) (h : s.mem.wf = true) : Result.Canonical (execTokenAck s) :=
  takeFrame_canonical _ _ h (fun r f t ht => by simp [ht])

/-! ### Remote accesses -/

@[simp] theorem State.answer_mem (s : State) (ftype : Nat) (f : Frame) (poison : Option Nat) (data : Bytes) : (s.answer ftype f poison data).mem = s.mem := by
    simp [State.answer]

@[simp] theorem State.refuseForeign_mem (s : State) (lpa : Nat) : (s.refuseForeign lpa).mem = s.mem := by simp [State.refuseForeign]
@[simp] theorem State.countForeign_mem (s : State) (f : Frame) : (s.countForeign f).mem = s.mem := by simp [State.countForeign]

@[simp] theorem State.serveRead_wf (s : State) (f : Frame) (h : s.mem.wf = true) : (s.serveRead f).mem.wf = true := by
  unfold State.serveRead
  dsimp only
  repeat' split
  all_goals simp [h]

@[simp] theorem State.takeRequest_canonical (s : State) (ftype : Nat) (serve : Frame → State → State)
    (hserve : ∀ f s, s.mem.wf = true → (serve f s).mem.wf = true) (h : s.mem.wf = true) : Result.Canonical (s.takeRequest ftype serve) :=
  takeFrame_canonical _ _ h (fun r f t ht => when_wf _ h (by simp [hserve, ht]))

@[simp] theorem execMemRead_canonical (s : State) (h : s.mem.wf = true) : Result.Canonical (execMemRead s) :=
  State.takeRequest_canonical _ _ _ (fun f s hs => by simp [hs]) h

@[simp] theorem State.serveWrite_wf (s : State) (f : Frame) (h : s.mem.wf = true) : (s.serveWrite f).mem.wf = true := by simp [State.serveWrite, h]

@[simp] theorem execMemWrite_canonical (s : State) (h : s.mem.wf = true) : Result.Canonical (execMemWrite s) :=
  State.takeRequest_canonical _ _ _ (fun f s hs => by simp [hs]) h

@[simp] theorem State.serveAdd_wf (s : State) (f : Frame) (h : s.mem.wf = true) : (s.serveAdd f).mem.wf = true := by simp [State.serveAdd, h]

@[simp] theorem execMemWriteAdd_canonical (s : State) (h : s.mem.wf = true) : Result.Canonical (execMemWriteAdd s) :=
  State.takeRequest_canonical _ _ _ (fun f s hs => by simp [hs]) h

@[simp] theorem State.resumeAction_wf (s : State) (id : Nat) (h : s.mem.wf = true) : (s.resumeAction id).mem.wf = true := by
  unfold State.resumeAction
  repeat' split
  all_goals simp [h]

@[simp] theorem State.takeReadData_wf (s : State) (f : Frame) (h : s.mem.wf = true) : (s.takeReadData f).mem.wf = true := by
  unfold State.takeReadData
  repeat' split
  all_goals simp [h]

@[simp] theorem execReadData_canonical (s : State) (h : s.mem.wf = true) : Result.Canonical (execReadData s) :=
  takeFrame_canonical _ _ h (fun r f t ht => by simp [ht])

@[simp] theorem State.takeWriteAck_wf (s : State) (f : Frame) (h : s.mem.wf = true) : (s.takeWriteAck f).mem.wf = true := by
  unfold State.takeWriteAck
  repeat' split
  all_goals simp [h]

@[simp] theorem execWriteAck_canonical (s : State) (h : s.mem.wf = true) : Result.Canonical (execWriteAck s) :=
  takeFrame_canonical _ _ h (fun r f t ht => by simp [ht])

/-! ### The Sidereal unit -/

@[simp] theorem idleTick_mem (s : State) : (idleTick s).mem = s.mem := by simp [idleTick]
@[simp] theorem State.atBoundary_mem (s : State) : s.atBoundary.mem = s.mem := by simp [State.atBoundary]
@[simp] theorem State.atGuard_mem (s : State) : s.atGuard.mem = s.mem := by simp [State.atGuard]
@[simp] theorem State.follow_mem (s : State) (l : Nat) : (s.follow l).mem = s.mem := by simp [State.follow]

@[simp] theorem State.clockLost_mem (s : State) : s.clockLost.mem = s.mem := by
  unfold State.clockLost
  dsimp only
  split <;> simp

@[simp] theorem execParentClockLost_canonical (s : State) (h : s.mem.wf = true) : Result.Canonical (execParentClockLost s) := by simp [execParentClockLost, h]

@[simp] theorem execParentLinkRecovered_canonical (link : Fin 36) (s : State) (h : s.mem.wf = true) : Result.Canonical (execParentLinkRecovered link s) := by
    simp [execParentLinkRecovered, h]

@[simp] theorem State.sendBeacon_mem (s : State) (l : Nat) : (s.sendBeacon l).mem = s.mem := by simp [State.sendBeacon]
@[simp] theorem execBeaconRequestSend_canonical (s : State) (h : s.mem.wf = true) : Result.Canonical (execBeaconRequestSend s) := by simp [execBeaconRequestSend, h]

@[simp] theorem execUnusedParentBeacon_canonical (link : Fin 36) (s : State) (h : s.mem.wf = true) : Result.Canonical (execUnusedParentBeacon link s) := by
    simp [execUnusedParentBeacon, h]

theorem State.takeBeacon_mem (s : State) (response : Bool) (r : RxFrame) (f : Frame) (t : State) (h : s.takeBeacon response = some (r, f, t)) : t.mem = s.mem := by
  unfold State.takeBeacon at h
  dsimp only at h
  split at h
  · cases h
  · cases h; rfl

@[simp] theorem State.goodBeacon_mem (s : State) (r : RxFrame) (f : Frame) : (s.goodBeacon r f).2.mem = s.mem := by
  unfold State.goodBeacon
  dsimp only
  repeat' split
  all_goals simp

@[simp] theorem State.answerBeacon_mem (s : State) (r : RxFrame) (f : Frame) (t2frac t3frac turn : Nat) : (s.answerBeacon r f t2frac t3frac turn).mem = s.mem := by
    simp [State.answerBeacon]

@[simp] theorem execBeaconRequest_canonical (t2frac t3frac : Fin 256) (turn : Nat) (s : State) (h : s.mem.wf = true) : Result.Canonical (execBeaconRequest t2frac t3frac turn s) := by
  unfold execBeaconRequest
  split
  · simp [h]
  · rename_i r f t he
    have ht : t.mem.wf = true := by rw [State.takeBeacon_mem _ _ _ _ _ he]; exact h
    refine when_wf _ h ?_
    dsimp only
    rw [State.freeFrame_mem]
    exact State.ite_wf (by simp [ht]) (by simp [ht])

@[simp] theorem State.sampled_mem (s : State) : s.sampled.mem = s.mem := by
  unfold State.sampled
  split <;> simp

@[simp] theorem State.takeResponse_mem (s : State) (b : Beacon) (l : Nat) (t4 : Int) : (s.takeResponse b l t4).mem = s.mem := by simp [State.takeResponse]

@[simp] theorem execBeaconResponse_canonical (t4frac : Fin 256) (s : State) (h : s.mem.wf = true) : Result.Canonical (execBeaconResponse t4frac s) := by
  unfold execBeaconResponse
  split
  · simp [h]
  · rename_i r f t he
    have ht : t.mem.wf = true := by rw [State.takeBeacon_mem _ _ _ _ _ he]; exact h
    dsimp only
    simp only [next_canonical, State.freeFrame_mem]
    split <;> simp [ht]

@[simp] theorem State.slew_mem (s : State) : s.slew.mem = s.mem := by
  unfold State.slew
  repeat' split
  all_goals simp

/-! ### The Almanac -/

@[simp] theorem State.checkPoison_wf (s : State) (a n code : Nat) (k : State → State × CheckResult)
    (hk : ∀ s, s.mem.wf = true → (k s).1.mem.wf = true) (h : s.mem.wf = true) : (s.checkPoison a n code k).1.mem.wf = true := by
  unfold State.checkPoison
  dsimp only
  split
  · simp [h]
  · exact hk _ (by simp [h])

@[simp] theorem State.checkTable_wf (s : State) (h : AlmHeader) (size crc : Nat) (hm : s.mem.wf = true) : (s.checkTable h size crc).1.mem.wf = true := by
  unfold State.checkTable
  split
  · exact hm
  · split
    · exact hm
    · refine State.checkPoison_wf _ _ _ _ _ (fun s hs => ?_) hm
      dsimp only
      split
      · exact hs
      · split <;> exact hs

@[simp] theorem State.checkBuffer_wf (s : State) (buf : Buf) (h : s.mem.wf = true) : (s.checkBuffer buf).1.mem.wf = true := by
  unfold State.checkBuffer
  dsimp only
  split
  · exact h
  · refine State.checkPoison_wf _ _ _ _ _ (fun s hs => ?_) h
    split
    · exact hs
    · split
      · exact hs
      · exact State.checkTable_wf _ _ _ _ hs

@[simp] theorem State.leaveHalted_mem (s : State) : s.leaveHalted.mem = s.mem := by simp [State.leaveHalted]
@[simp] theorem State.dropStaged_mem (s : State) : s.dropStaged.mem = s.mem := by simp [State.dropStaged]
@[simp] theorem State.arm_mem (s : State) (buf : Buf) : (s.arm buf).mem = s.mem := by simp [State.arm]
@[simp] theorem State.stage_mem (s : State) (buf : Buf) : (s.stage buf).mem = s.mem := by simp [State.stage]
@[simp] theorem State.disarm_wf (s : State) (h : s.mem.wf = true) : s.disarm.mem.wf = true := by simp [State.disarm, h]
@[simp] theorem State.armClears_mem (s : State) : s.armClears.mem = s.mem := by simp [State.armClears]
@[simp] theorem State.freshAlmanac_mem (s : State) (h : AlmHeader) : (s.freshAlmanac h).mem = s.mem := by simp [State.freshAlmanac]
@[simp] theorem State.armDone_mem (s : State) (h : AlmHeader) : (s.armDone h).mem = s.mem := by simp [State.armDone]

@[simp] theorem State.armChecked_wf (s : State) (buf : Buf) (h : s.mem.wf = true) : (s.armChecked buf).mem.wf = true := by
  unfold State.armChecked
  dsimp only
  split <;> simp [h]

@[simp] theorem State.stageChecked_wf (s : State) (buf : Buf) (h : s.mem.wf = true) : (s.stageChecked buf).mem.wf = true := by
  unfold State.stageChecked
  dsimp only
  split <;> simp [h]

@[simp] theorem execAlmanacCheckDone_canonical (s : State) (h : s.mem.wf = true) : Result.Canonical (execAlmanacCheckDone s) := by
  unfold execAlmanacCheckDone
  split <;> simp [h]

@[simp] theorem State.evaluateGates_mem (s : State) : s.evaluateGates.mem = s.mem := by simp [State.evaluateGates]
@[simp] theorem State.startAlmanac_mem (s : State) : s.startAlmanac.mem = s.mem := by simp [State.startAlmanac]
@[simp] theorem execAlmanacStart_canonical (s : State) (h : s.mem.wf = true) : Result.Canonical (execAlmanacStart s) := by simp [execAlmanacStart, h]
@[simp] theorem execPauseResume_canonical (s : State) (h : s.mem.wf = true) : Result.Canonical (execPauseResume s) := by simp [execPauseResume, h]

@[simp] theorem State.readDescriptor_mem (s : State) (h : AlmHeader) (a : Nat) : (s.readDescriptor h a).mem = s.mem := by
  unfold State.readDescriptor
  split <;> simp

@[simp] theorem State.readDue_mem (n : Nat) (s : State) : (State.readDue n s).mem = s.mem := by
  induction n generalizing s with
  | zero => rfl
  | succ n ih =>
    unfold State.readDue
    split
    · split <;> simp [ih]
    · rfl

@[simp] theorem execAlmanacDescriptorRead_canonical (s : State) (h : s.mem.wf = true) : Result.Canonical (execAlmanacDescriptorRead s) := by
  unfold execAlmanacDescriptorRead
  split <;> simp [h]

/-! ### Conjunctions -/

@[simp] theorem State.contributed_mem (s : State) : s.contributed.mem = s.mem := by simp [State.contributed]
@[simp] theorem State.openConjunction_mem (s : State) (h : AlmHeader) (k c : Nat) : (s.openConjunction h k c).mem = s.mem := by simp [State.openConjunction]

@[simp] theorem State.guardSample_mem (s : State) : s.guardSample.mem = s.mem := by
  unfold State.guardSample
  dsimp only
  repeat' split
  all_goals simp

@[simp] theorem execGuardBandSample_canonical (s : State) (h : s.mem.wf = true) : Result.Canonical (execGuardBandSample s) := by simp [execGuardBandSample, h]
@[simp] theorem State.setWindow_mem (s : State) (w : Window) : (s.setWindow w).mem = s.mem := by simp [State.setWindow]
@[simp] theorem State.sendVector_mem (s : State) (w : Window) : (s.sendVector w).mem = s.mem := by simp [State.sendVector]
@[simp] theorem State.sendSeal_mem (s : State) (w : Window) : (s.sendSeal w).mem = s.mem := by simp [State.sendSeal]
@[simp] theorem State.lateFrame_mem (s : State) : s.lateFrame.mem = s.mem := by simp [State.lateFrame]

@[simp] theorem State.takeVector_mem (s : State) (f : Frame) : (s.takeVector f).mem = s.mem := by
  unfold State.takeVector
  split <;> simp

@[simp] theorem execAgreement_canonical (s : State) (h : s.mem.wf = true) : Result.Canonical (execAgreement s) :=
  takeFrame_canonical _ _ h (fun r f t ht => by simp [ht])

@[simp] theorem State.takeSeal_mem (s : State) (f : Frame) : (s.takeSeal f).mem = s.mem := by
  unfold State.takeSeal
  split <;> simp

@[simp] theorem execSeal_canonical (s : State) (h : s.mem.wf = true) : Result.Canonical (execSeal s) :=
  takeFrame_canonical _ _ h (fun r f t ht => by simp [ht])

@[simp] theorem State.deadline_canonical (s : State) (n closed : Nat) (h : s.mem.wf = true) : Result.Canonical (s.deadline n closed) := by
  unfold State.deadline
  split <;> simp [h]

@[simp] theorem execVectorDeadline_canonical (s : State) (h : s.mem.wf = true) : Result.Canonical (execVectorDeadline s) := by simp [execVectorDeadline, h]
@[simp] theorem execSealDeadline_canonical (s : State) (h : s.mem.wf = true) : Result.Canonical (execSealDeadline s) := by simp [execSealDeadline, h]
@[simp] theorem State.windowSlot_mem (s : State) (w : Window) : (s.windowSlot w).mem = s.mem := by simp [State.windowSlot]
@[simp] theorem State.windowSlots_mem (s : State) : s.windowSlots.mem = s.mem := by simp [State.windowSlots]
@[simp] theorem State.latch_mem (s : State) (w : Window) : (s.latch w).mem = s.mem := by simp [State.latch]

@[simp] theorem execConjunctionDecision_canonical (s : State) (h : s.mem.wf = true) : Result.Canonical (execConjunctionDecision s) := by
  unfold execConjunctionDecision
  split <;> simp [h]

@[simp] theorem State.bindSkip_mem (s : State) (step : Nat) : (s.bindSkip step).mem = s.mem := by simp [State.bindSkip]
@[simp] theorem State.completeAlmanac_mem (s : State) : s.completeAlmanac.mem = s.mem := by simp [State.completeAlmanac]
@[simp] theorem State.activate_mem (s : State) (h : AlmHeader) : (s.activate h).mem = s.mem := by simp [State.activate]

@[simp] theorem State.applyDecision_wf (s : State) (w : Window) (h : s.mem.wf = true) : (s.applyDecision w).mem.wf = true := by
  unfold State.applyDecision
  repeat' split
  all_goals simp [h]

@[simp] theorem State.conjunctionEffect_wf (s : State) (w : Window) (h : s.mem.wf = true) : (s.conjunctionEffect w).mem.wf = true := by
  unfold State.conjunctionEffect
  split <;> simp [h]

@[simp] theorem execConjunctionEffect_canonical (s : State) (h : s.mem.wf = true) : Result.Canonical (execConjunctionEffect s) := by
  unfold execConjunctionEffect
  split <;> simp [h]

/-! ### The log, telemetry and test -/

@[simp] theorem State.enqueueRec_mem (s : State) (r : LogRec) : (s.enqueueRec r).mem = s.mem := by simp [State.enqueueRec]
@[simp] theorem State.arriveRec_mem (s : State) (r : LogRec) : (s.arriveRec r).mem = s.mem := by simp [State.arriveRec]
@[simp] theorem State.lostRec_mem (s : State) : s.lostRec.mem = s.mem := by simp [State.lostRec]
@[simp] theorem State.programRec_mem (s : State) (r : LogRec) : (s.programRec r).mem = s.mem := by simp [State.programRec]
@[simp] theorem State.flushLog_mem (s : State) : s.flushLog.mem = s.mem := by simp [State.flushLog]

@[simp] theorem execLogRecordArrival_canonical (s : State) (h : s.mem.wf = true) : Result.Canonical (execLogRecordArrival s) := by
  unfold execLogRecordArrival
  split <;> simp [h]

@[simp] theorem execLogProgram_canonical (s : State) (h : s.mem.wf = true) : Result.Canonical (execLogProgram s) := by
  unfold execLogProgram
  split <;> simp [h]

@[simp] theorem State.teleQueue_mem (s : State) (bs : Bytes) : (s.teleQueue bs).mem = s.mem := by simp [State.teleQueue]
@[simp] theorem State.teleSample_mem (s : State) : s.teleSample.mem = s.mem := by simp [State.teleSample]
@[simp] theorem execTelemetrySample_canonical (s : State) (h : s.mem.wf = true) : Result.Canonical (execTelemetrySample s) := by simp [execTelemetrySample, h]
@[simp] theorem State.teleStore_wf (s : State) (off : Nat) (bs : Bytes) (h : s.mem.wf = true) : (s.teleStore off bs).mem.wf = true := by simp [State.teleStore, h]

@[simp] theorem State.teleWrite_wf (s : State) (bs : Bytes) (rest : List Bytes) (h : s.mem.wf = true) : (s.teleWrite bs rest).mem.wf = true := by
    simp [State.teleWrite, h]

@[simp] theorem execTelemetryWrite_canonical (s : State) (h : s.mem.wf = true) : Result.Canonical (execTelemetryWrite s) := by
  unfold execTelemetryWrite
  split <;> simp [h]

@[simp] theorem State.testCore_wf (s : State) (g : Nat) (h : s.mem.wf = true) : (s.testCore g).mem.wf = true :=
  Memory.forget_wf _ _ _ _ (Memory.forget_wf _ _ _ _ h)

@[simp] theorem State.startTest_wf (s : State) (v : Nat) (h : s.mem.wf = true) : (s.startTest v).mem.wf = true := by
  unfold State.startTest
  exact State.foldl_wf _ (fun s g hs => by simp [hs]) _ _ h

@[simp] theorem execCoreTestDone_canonical (failed : List (Fin 384)) (block : Nat) (s : State) (h : s.mem.wf = true) :
    Result.Canonical (execCoreTestDone failed block s) := by simp [execCoreTestDone, h]

@[simp] theorem State.tap_mem (s : State) (d : Nat) (op : TapOp) : (s.tap d op).mem = s.mem := by
  unfold State.tap
  dsimp only
  split <;> simp

@[simp] theorem execTapInstruction_canonical (d01 d23 : TapOp × TapOp) (s : State) (h : s.mem.wf = true) : Result.Canonical (execTapInstruction d01 d23 s) := by
    simp [execTapInstruction, h]

@[simp] theorem execTestLogicReset_canonical (s : State) (h : s.mem.wf = true) : Result.Canonical (execTestLogicReset s) := by simp [execTestLogicReset, h]

/-! ### The start sequence and resets -/

@[simp] theorem State.cleanStop_wf (s : State) (h : s.mem.wf = true) : s.cleanStop.mem.wf = true := by
  unfold State.cleanStop
  split <;> simp [h]

@[simp] theorem State.resetTo_wf (s : State) (cause : Nat) (lost : Bool) (h : s.mem.wf = true) : (s.resetTo cause lost).mem.wf = true := by
  cases lost
  · exact Memory.dropSram_wf _ _ h
  · rfl

@[simp] theorem State.packageReset_wf (s : State) (cause : Nat) (h : s.mem.wf = true) : (s.packageReset cause).mem.wf = true := by simp [State.packageReset, h]
@[simp] theorem State.setFwSlot_mem (s : State) (i : Nat) (f : FlashSlot) : (s.setFwSlot i f).mem = s.mem := by simp [State.setFwSlot]
@[simp] theorem State.noteVerdict_mem (s : State) (i v : Nat) : (s.noteVerdict i v).mem = s.mem := by simp [State.noteVerdict]
@[simp] theorem State.takeChunk_mem (s : State) (bytes : Bytes) : (s.takeChunk bytes).mem = s.mem := by simp [State.takeChunk]

@[simp] theorem execFwEraseDone_canonical (s : State) (h : s.mem.wf = true) : Result.Canonical (execFwEraseDone s) := by
  unfold execFwEraseDone
  split <;> simp [h]

@[simp] theorem execVerifyTargetDone_canonical (check : ImageCheck) (s : State) (h : s.mem.wf = true) : Result.Canonical (execVerifyTargetDone check s) := by
    simp [execVerifyTargetDone, h]

@[simp] theorem State.measure_mem (s : State) (n : Nat) (bs : Bytes) : (s.measure n bs).mem = s.mem := by simp [State.measure]
@[simp] theorem State.measureImage_mem (s : State) (i : Nat) : (s.measureImage i).mem = s.mem := by simp [State.measureImage]
@[simp] theorem State.measureFuses_mem (s : State) : s.measureFuses.mem = s.mem := by simp [State.measureFuses]
@[simp] theorem State.measureConfig_mem (s : State) : s.measureConfig.mem = s.mem := by simp [State.measureConfig]
@[simp] theorem State.measureKeys_mem (s : State) : s.measureKeys.mem = s.mem := by simp [State.measureKeys]
@[simp] theorem State.attest_mem (s : State) (nonce : Bytes) : (s.attest nonce).mem = s.mem := by simp [State.attest]
@[simp] theorem State.toPhase_mem (s : State) (n : Nat) : (s.toPhase n).mem = s.mem := by simp [State.toPhase]
@[simp] theorem State.bootEvent_mem (s : State) (code value slot : Nat) : (s.bootEvent code value slot).mem = s.mem := by simp [State.bootEvent]

@[simp] theorem State.enterDim_wf (s : State) (reason : Nat) (h : s.mem.wf = true) : (s.enterDim reason).mem.wf = true :=
  Memory.dropSram_wf _ _ (by simp [h])

@[simp] theorem State.failStart_mem (s : State) (phase : Nat) : (s.failStart phase).mem = s.mem := by simp [State.failStart]
@[simp] theorem State.startReplay_mem (s : State) : s.startReplay.mem = s.mem := by simp [State.startReplay]

@[simp] theorem execPackageResetRelease_canonical (s : State) (h : s.mem.wf = true) : Result.Canonical (execPackageResetRelease s) := by
    simp [execPackageResetRelease, h]

@[simp] theorem execRomPhaseDone_canonical (ok0 ok2 : Bool) (s : State) (h : s.mem.wf = true) : Result.Canonical (execRomPhaseDone ok0 ok2 s) := by
    simp [execRomPhaseDone, h]

@[simp] theorem State.trySlots_mem (s : State) (verdict : Nat → Nat) (is : List Nat) : (s.trySlots verdict is).1.mem = s.mem := by
  induction is generalizing s with
  | nil => rfl
  | cons i rest ih =>
    unfold State.trySlots
    dsimp only
    split <;> split <;> simp [ih]

@[simp] theorem State.selectImage_wf (s : State) (a b : ImageCheck) (h : s.mem.wf = true) : (s.selectImage a b).mem.wf = true := by
  unfold State.selectImage
  dsimp only
  have ht := s.trySlots_mem (fun i => s.imageVerdict i (if i = 0 then a else b)) s.tryOrder
  split <;> rename_i he <;> rw [he] at ht <;> dsimp only at ht
  · simp [ht, h]
  · exact State.ite_wf (by simp [ht, h]) (by simp [ht, h])

@[simp] theorem execImagePhaseDone_canonical (a b : ImageCheck) (s : State) (h : s.mem.wf = true) : Result.Canonical (execImagePhaseDone a b s) := by
    simp [execImagePhaseDone, h]

@[simp] theorem execPowerPhaseDone_canonical (s : State) (h : s.mem.wf = true) : Result.Canonical (execPowerPhaseDone s) := by simp [execPowerPhaseDone, h]

@[simp] theorem State.reviewLock_mem (s : State) : s.reviewLock.mem = s.mem := by
  unfold State.reviewLock
  repeat' split
  all_goals simp

@[simp] theorem execClocksPhaseDone_canonical (refclkGood : Bool) (s : State) (h : s.mem.wf = true) : Result.Canonical (execClocksPhaseDone refclkGood s) := by
    simp [execClocksPhaseDone, h]

@[simp] theorem execPairingPhaseDone_canonical (s : State) (h : s.mem.wf = true) : Result.Canonical (execPairingPhaseDone s) := by
  unfold execPairingPhaseDone
  split <;> simp [h]

@[simp] theorem execSramPhaseDone_canonical (s : State) (h : s.mem.wf = true) : Result.Canonical (execSramPhaseDone s) :=
  when_wf _ h (by rw [State.toPhase_mem]; exact Memory.dropSram_wf _ _ h)

@[simp] theorem State.inherit_mem (s : State) (d n : Nat) : (s.inherit d n).mem = s.mem := by
  unfold State.inherit
  split <;> simp

@[simp] theorem State.retireOn_mem (s : State) (d : Nat) (failed : List Nat) : (s.retireOn d failed).mem = s.mem := by simp [State.retireOn]

@[simp] theorem execCoresPhaseDone_canonical (failed : List (Fin 4 × Nat)) (s : State) (h : s.mem.wf = true) : Result.Canonical (execCoresPhaseDone failed s) := by
    simp [execCoresPhaseDone, h]

@[simp] theorem execMemoryPhaseDone_canonical (s : State) (h : s.mem.wf = true) : Result.Canonical (execMemoryPhaseDone s) :=
  when_wf _ h (by rw [State.toPhase_mem]; exact State.ite_wf rfl h)

@[simp] theorem execFirmwareLoadPhaseDone_canonical (s : State) (h : s.mem.wf = true) : Result.Canonical (execFirmwareLoadPhaseDone s) := by
    simp [execFirmwareLoadPhaseDone, h]

@[simp] theorem State.trainLinks_mem (s : State) : s.trainLinks.mem = s.mem := by
  unfold State.trainLinks
  exact State.foldl_mem _ (fun s l => by simp) _ _

@[simp] theorem execLinksPhaseDone_canonical (s : State) (h : s.mem.wf = true) : Result.Canonical (execLinksPhaseDone s) := by simp [execLinksPhaseDone, h]
@[simp] theorem State.startComplete_mem (s : State) : s.startComplete.mem = s.mem := by simp [State.startComplete]

@[simp] theorem execDictionaryPhaseDone_canonical (s : State) (h : s.mem.wf = true) : Result.Canonical (execDictionaryPhaseDone s) := by
    simp [execDictionaryPhaseDone, h]

@[simp] theorem execStartFailed_canonical (s : State) (h : s.mem.wf = true) : Result.Canonical (execStartFailed s) := by simp [execStartFailed, h]
@[simp] theorem State.loseLodestar_mem (s : State) (d : Nat) : (s.loseLodestar d).mem = s.mem := by simp [State.loseLodestar]
@[simp] theorem execLeaderHeartbeat_canonical (s : State) (h : s.mem.wf = true) : Result.Canonical (execLeaderHeartbeat s) := by simp [execLeaderHeartbeat, h]
@[simp] theorem State.spdmLost_mem (s : State) (ts : List Nat) : (s.spdmLost ts).mem = s.mem := by simp [State.spdmLost]
@[simp] theorem State.changeLeader_mem (s : State) : s.changeLeader.mem = s.mem := by simp [State.changeLeader]
@[simp] theorem execLeaderChange_canonical (s : State) (h : s.mem.wf = true) : Result.Canonical (execLeaderChange s) := by simp [execLeaderChange, h]

@[simp] theorem execLodestarFailure_canonical (die : Fin 4) (s : State) (h : s.mem.wf = true) : Result.Canonical (execLodestarFailure die s) := by
    simp [execLodestarFailure, h]

/-! ### Power -/

@[simp] theorem State.powerEvent_mem (s : State) (code die which : Nat) (reading : Int) (cause : Nat) :
    (s.powerEvent code die which reading cause).mem = s.mem := by simp [State.powerEvent]

@[simp] theorem State.quotient_mem (s : State) (n d : Nat) : (s.quotient n d).2.mem = s.mem := by
  unfold State.quotient
  split <;> simp

@[simp] theorem State.reviewDemand_mem (s : State) : s.reviewDemand.mem = s.mem := by simp [State.reviewDemand]
@[simp] theorem State.setThrottle_mem (s : State) (t step : Nat) : (s.setThrottle t step).mem = s.mem := by simp [State.setThrottle]
@[simp] theorem execThrottleStepRaise_canonical (s : State) (h : s.mem.wf = true) : Result.Canonical (execThrottleStepRaise s) := by simp [execThrottleStepRaise, h]

@[simp] theorem execThrottleStepLower_canonical (s : State) (h : s.mem.wf = true) : Result.Canonical (execThrottleStepLower s) := by
  unfold execThrottleStepLower
  split <;> simp [h]

@[simp] theorem State.setSupply_mem (s : State) (st : SupplyState) (mv : Nat) : (s.setSupply st mv).mem = s.mem := by simp [State.setSupply]

@[simp] theorem execSupplyWarning_canonical (mv : Nat) (s : State) (h : s.mem.wf = true) : Result.Canonical (execSupplyWarning mv s) := by
    simp [execSupplyWarning, h]

@[simp] theorem execSupplyLow_canonical (mv : Nat) (s : State) (h : s.mem.wf = true) : Result.Canonical (execSupplyLow mv s) := by simp [execSupplyLow, h]

@[simp] theorem execSupplyLowCleared_canonical (mv : Nat) (s : State) (h : s.mem.wf = true) : Result.Canonical (execSupplyLowCleared mv s) := by
    simp [execSupplyLowCleared, h]

@[simp] theorem execSupplyRecovered_canonical (mv : Nat) (s : State) (h : s.mem.wf = true) : Result.Canonical (execSupplyRecovered mv s) := by
    simp [execSupplyRecovered, h]

@[simp] theorem execOverVoltage_canonical (mv : Nat) (s : State) (h : s.mem.wf = true) : Result.Canonical (execOverVoltage mv s) := by simp [execOverVoltage, h]

@[simp] theorem execOverVoltageCleared_canonical (mv : Nat) (s : State) (h : s.mem.wf = true) : Result.Canonical (execOverVoltageCleared mv s) := by
    simp [execOverVoltageCleared, h]

@[simp] theorem State.supplyReset_wf (s : State) (cause : Nat) (reading : Int) (volts : Bool) (h : s.mem.wf = true) :
    (s.supplyReset cause reading volts).mem.wf = true := by simp [State.supplyReset, h]

@[simp] theorem execSupplyReset_canonical (mv : Nat) (s : State) (h : s.mem.wf = true) : Result.Canonical (execSupplyReset mv s) := by simp [execSupplyReset, h]

@[simp] theorem execOverVoltageReset_canonical (mv : Nat) (s : State) (h : s.mem.wf = true) : Result.Canonical (execOverVoltageReset mv s) := by
    simp [execOverVoltageReset, h]

@[simp] theorem execOverCurrentReset_canonical (ma : Nat) (s : State) (h : s.mem.wf = true) : Result.Canonical (execOverCurrentReset ma s) := by
    simp [execOverCurrentReset, h]

@[simp] theorem execVinRise_canonical (mv : Nat) (s : State) (h : s.mem.wf = true) : Result.Canonical (execVinRise mv s) := by simp [execVinRise, h]
@[simp] theorem execVinStable_canonical (mv : Nat) (s : State) (h : s.mem.wf = true) : Result.Canonical (execVinStable mv s) := by simp [execVinStable, h]
@[simp] theorem execPowerLoss_canonical (mv : Nat) (s : State) (h : s.mem.wf = true) : Result.Canonical (execPowerLoss mv s) := by simp [execPowerLoss, h]
@[simp] theorem execReversePolarity_canonical (s : State) (h : s.mem.wf = true) : Result.Canonical (execReversePolarity s) := by simp [execReversePolarity, h]
@[simp] theorem State.railsOff_wf (s : State) : s.railsOff.mem.wf = true := Memory.lost_wf _

@[simp] theorem execRailFault_canonical (die : Fin 4) (rail mv : Nat) (s : State) (h : s.mem.wf = true) : Result.Canonical (execRailFault die rail mv s) := by
    simp [execRailFault, h]

@[simp] theorem execRailFaultReset_canonical (s : State) (h : s.mem.wf = true) : Result.Canonical (execRailFaultReset s) := by simp [execRailFaultReset, h]
@[simp] theorem State.setThermal_mem (s : State) (n : Nat) : (s.setThermal n).mem = s.mem := by simp [State.setThermal]

@[simp] theorem execSenseOpen_canonical (kind : Nat) (die : Fin 4) (which reading : Nat) (s : State) (h : s.mem.wf = true) :
    Result.Canonical (execSenseOpen kind die which reading s) := by
  unfold execSenseOpen
  dsimp only
  split <;> simp [h]

@[simp] theorem State.holdCold_mem (s : State) : s.holdCold.mem = s.mem := by simp [State.holdCold]

@[simp] theorem execCoolantSensor_canonical (sensor : Fin 4) (failed : Bool) (reading : Int) (s : State) (h : s.mem.wf = true) :
    Result.Canonical (execCoolantSensor sensor failed reading s) := by simp [execCoolantSensor, h]

@[simp] theorem State.junctionSample_mem (s : State) (readings : List (List Int)) : (s.junctionSample readings).mem = s.mem := by
  unfold State.junctionSample
  refine State.foldl_mem _ (fun s d => ?_) _ _
  dsimp only
  split <;> simp

@[simp] theorem execThermalDemandRevise_canonical (s : State) (h : s.mem.wf = true) : Result.Canonical (execThermalDemandRevise s) := by
    simp [execThermalDemandRevise, h]

@[simp] theorem State.trip_mem (s : State) (d : Nat) : (s.trip d).mem = s.mem := by simp [State.trip]
@[simp] theorem execThermalTrip_canonical (die : Fin 4) (s : State) (h : s.mem.wf = true) : Result.Canonical (execThermalTrip die s) := by simp [execThermalTrip, h]

@[simp] theorem execThermalTripShutdown_canonical (s : State) (h : s.mem.wf = true) : Result.Canonical (execThermalTripShutdown s) := by
    simp [execThermalTripShutdown, h]

@[simp] theorem execThermalCooldownReset_canonical (s : State) (h : s.mem.wf = true) : Result.Canonical (execThermalCooldownReset s) := by
    simp [execThermalCooldownReset, h]

@[simp] theorem execThermalCutoff_canonical (die : Fin 4) (s : State) (h : s.mem.wf = true) : Result.Canonical (execThermalCutoff die s) := by
    simp [execThermalCutoff, h]

@[simp] theorem State.coolant_mem (s : State) (tin tout : Int) (power : Nat) : (s.coolant tin tout power).mem = s.mem := by simp [State.coolant]

@[simp] theorem execCoolantAverage_canonical (sensors : List Int) (tin tout : Int) (power : Nat) (s : State) (h : s.mem.wf = true) :
    Result.Canonical (execCoolantAverage sensors tin tout power s) := by
  unfold execCoolantAverage
  split
  · simp
  · refine when_wf _ h ?_
    rw [State.coolant_mem]
    exact State.foldl_wf _ (fun s i hs => by simp [hs]) _ _ h

@[simp] theorem State.inletCeiling_mem (s : State) : s.inletCeiling.2.mem = s.mem := by
  unfold State.inletCeiling
  dsimp only
  repeat' split
  all_goals simp

@[simp] theorem State.publishCeiling_mem (s : State) : s.publishCeiling.mem = s.mem := by simp [State.publishCeiling]

@[simp] theorem execPowerCeilingPublish_canonical (s : State) (h : s.mem.wf = true) : Result.Canonical (execPowerCeilingPublish s) := by
    simp [execPowerCeilingPublish, h]

@[simp] theorem State.controlPower_mem (s : State) (power ma : Nat) : (s.controlPower power ma).mem = s.mem := by simp [State.controlPower]

@[simp] theorem execPowerControl_canonical (power ma : Nat) (s : State) (h : s.mem.wf = true) : Result.Canonical (execPowerControl power ma s) := by
    simp [execPowerControl, h]

@[simp] theorem State.canary_mem (s : State) (d : Nat) (m : Int) : (s.canary d m).mem = s.mem := by simp [State.canary]

@[simp] theorem execCanaryMeasure_canonical (margins : List Int) (s : State) (h : s.mem.wf = true) : Result.Canonical (execCanaryMeasure margins s) := by
    simp [execCanaryMeasure, h]

@[simp] theorem execGuardBandRaise_canonical (die : Fin 4) (s : State) (h : s.mem.wf = true) : Result.Canonical (execGuardBandRaise die s) := by
    simp [execGuardBandRaise, h]

@[simp] theorem execSensorCalibration_canonical (s : State) (h : s.mem.wf = true) : Result.Canonical (execSensorCalibration s) := by simp [execSensorCalibration, h]

@[simp] theorem execCurrentSenseCalibration_canonical (s : State) (h : s.mem.wf = true) : Result.Canonical (execCurrentSenseCalibration s) := by
    simp [execCurrentSenseCalibration, h]

@[simp] theorem execInterfaceCalibration_canonical (s : State) (h : s.mem.wf = true) : Result.Canonical (execInterfaceCalibration s) := by
    simp [execInterfaceCalibration, h]

@[simp] theorem execFlashGarbageCollect_canonical (wear : Nat) (s : State) (h : s.mem.wf = true) : Result.Canonical (execFlashGarbageCollect wear s) := by
    simp [execFlashGarbageCollect, h]

/-! ### Clocks and crossings -/

@[simp] theorem State.pllLock_mem (s : State) (d : Nat) : (s.pllLock d).mem = s.mem := by
  unfold State.pllLock
  dsimp only
  repeat' split
  all_goals simp

@[simp] theorem execRootPllLock_canonical (die : Fin 4) (s : State) (h : s.mem.wf = true) : Result.Canonical (execRootPllLock die s) := by simp [execRootPllLock, h]
@[simp] theorem execPllUnlock_canonical (die : Fin 4) (s : State) (h : s.mem.wf = true) : Result.Canonical (execPllUnlock die s) := by simp [execPllUnlock, h]
@[simp] theorem execRefSwitch_canonical (s : State) (h : s.mem.wf = true) : Result.Canonical (execRefSwitch s) := by simp [execRefSwitch, h]
@[simp] theorem State.setCrossing_mem (s : State) (n : Nat) (c : Crossing) : (s.setCrossing n c).mem = s.mem := by simp [State.setCrossing]
@[simp] theorem State.overrun_mem (s : State) (n : Nat) : (s.overrun n).mem = s.mem := by simp [State.overrun]

@[simp] theorem execCrossingOverrun_canonical (crossing : Nat) (s : State) (h : s.mem.wf = true) : Result.Canonical (execCrossingOverrun crossing s) := by
    simp [execCrossingOverrun, h]

@[simp] theorem execCrossingReset_canonical (crossing : Nat) (s : State) (h : s.mem.wf = true) : Result.Canonical (execCrossingReset crossing s) := by
    simp [execCrossingReset, h]

@[simp] theorem execCrossingReleaseHandshake_canonical (crossing : Nat) (s : State) (h : s.mem.wf = true) :
    Result.Canonical (execCrossingReleaseHandshake crossing s) := by simp [execCrossingReleaseHandshake, h]

@[simp] theorem State.clearOverruns_mem (s : State) : s.clearOverruns.mem = s.mem := by simp [State.clearOverruns]

@[simp] theorem State.requestReset_mem (s : State) (cause : Nat) : (s.requestReset cause).mem = s.mem := by
  unfold State.requestReset
  split <;> simp

@[simp] theorem execResetDelayExpiry_canonical (s : State) (h : s.mem.wf = true) : Result.Canonical (execResetDelayExpiry s) := by
  unfold execResetDelayExpiry
  split <;> simp [h]

@[simp] theorem execResetForceWritebackTimeout_canonical (s : State) (h : s.mem.wf = true) : Result.Canonical (execResetForceWritebackTimeout s) := by
    simp [execResetForceWritebackTimeout, h]

/-! ### The host ports -/

@[simp] theorem State.skySnapshot_mem (s : State) : s.skySnapshot.mem = s.mem := by simp [State.skySnapshot]
@[simp] theorem State.mirrorCheck_mem (s : State) : s.mirrorCheck.mem = s.mem := by simp [State.mirrorCheck]

@[simp] theorem State.mirrorWrite_mem (s : State) : s.mirrorWrite.mem = s.mem := by
  unfold State.mirrorWrite
  exact State.foldl_mem _ (fun s n => by simp) _ _

@[simp] theorem State.mirrorStep_mem (s : State) : s.mirrorStep.mem = s.mem := by simp [State.mirrorStep]

@[simp] theorem execDimSkylightSnapshot_canonical (s : State) (h : s.mem.wf = true) : Result.Canonical (execDimSkylightSnapshot s) := by
    simp [execDimSkylightSnapshot, h]

@[simp] theorem State.resetPort_mem (s : State) (p : Nat) (l0 : Bool) : (s.resetPort p l0).mem = s.mem := by simp [State.resetPort]
@[simp] theorem execPortReset_canonical (port : Fin 2) (s : State) (h : s.mem.wf = true) : Result.Canonical (execPortReset port s) := by simp [execPortReset, h]

@[simp] theorem execConfigurationWrite_canonical (port : Fin 2) (busMaster d3hot : Bool) (bar2 : Nat) (s : State) (h : s.mem.wf = true) :
    Result.Canonical (execConfigurationWrite port busMaster d3hot bar2 s) := by simp [execConfigurationWrite, h]

@[simp] theorem execPcieLinkUp_canonical (port : Fin 2) (s : State) (h : s.mem.wf = true) : Result.Canonical (execPcieLinkUp port s) := by simp [execPcieLinkUp, h]
@[simp] theorem State.bar2Refused_mem (s : State) (p : Nat) : (s.bar2Refused p).mem = s.mem := by simp [State.bar2Refused]
@[simp] theorem State.bar2Read_wf (s : State) (p off n : Nat) (h : s.mem.wf = true) : (s.bar2Read p off n).mem.wf = true := by simp [State.bar2Read, h]

@[simp] theorem execBar2Read_canonical (port : Fin 2) (offset : BitVec 64) (len : Nat) (s : State) (h : s.mem.wf = true) :
    Result.Canonical (execBar2Read port offset len s) := by simp [execBar2Read, h]

@[simp] theorem State.bar2Write_wf (s : State) (p off : Nat) (bs : Bytes) (h : s.mem.wf = true) : (s.bar2Write p off bs).mem.wf = true := by
    simp [State.bar2Write, h]

@[simp] theorem execBar2Write_canonical (port : Fin 2) (offset : BitVec 64) (bytes : List Byte) (s : State) (h : s.mem.wf = true) :
    Result.Canonical (execBar2Write port offset bytes s) := by simp [execBar2Write, h]

/-! ### The Object Dictionary -/

@[simp] theorem State.readEffect_mem (s : State) (idx sub : Nat) : (s.readEffect idx sub).mem = s.mem := by simp [State.readEffect]
@[simp] theorem State.setKey_mem (s : State) (slot : Nat) (bs : Bytes) : (s.setKey slot bs).mem = s.mem := by simp [State.setKey]

@[simp] theorem State.longApply_wf (s : State) (idx sub : Nat) (bs : Bytes) (h : s.mem.wf = true) : (s.longApply idx sub bs).mem.wf = true := by
  unfold State.longApply
  split <;> simp [h]

@[simp] theorem State.writeLong_wf (s : State) (via : Via) (e : Entry) (sub : Nat) (bs : Bytes) (h : s.mem.wf = true) : (s.writeLong via e sub bs).1.mem.wf = true := by
  unfold State.writeLong
  dsimp only
  repeat' split
  all_goals simp [h]

@[simp] theorem State.segSnapshot_mem (s : State) (p : Nat) : (s.segSnapshot p).1.mem = s.mem := by
  unfold State.segSnapshot
  dsimp only
  repeat' split
  all_goals simp

@[simp] theorem State.segCommit_wf (s : State) (p : Nat) (h : s.mem.wf = true) : (s.segCommit p).1.mem.wf = true := by
  unfold State.segCommit
  dsimp only
  repeat' split
  all_goals simp [h]

@[simp] theorem State.segDiscard_mem (s : State) (p : Nat) : (s.segDiscard p).1.mem = s.mem := by simp [State.segDiscard]

@[simp] theorem State.segCommand_wf (s : State) (p v : Nat) (h : s.mem.wf = true) : (s.segCommand p v).1.mem.wf = true := by
  unfold State.segCommand
  split <;> simp [h]

@[simp] theorem State.segChoose_mem (s : State) (p v : Nat) : (s.segChoose p v).1.mem = s.mem := by
  unfold State.segChoose
  repeat' split
  all_goals simp

@[simp] theorem State.segWrite_mem (s : State) (p w : Nat) (bs : Bytes) : (s.segWrite p w bs).1.mem = s.mem := by
  unfold State.segWrite
  dsimp only
  repeat' split
  all_goals simp

@[simp] theorem State.segView_mem (s : State) (p w n : Nat) : (s.segView p w n).1.mem = s.mem := by
  unfold State.segView
  dsimp only
  repeat' split
  all_goals simp

@[simp] theorem State.fwControl_mem (s : State) (v : Nat) : (s.fwControl v).mem = s.mem := by
  unfold State.fwControl
  split <;> simp

@[simp] theorem State.requestRetire_mem (s : State) (d n : Nat) : (s.requestRetire d n).mem = s.mem := by simp [State.requestRetire]

@[simp] theorem State.almanacControl_wf (s : State) (v : Nat) (h : s.mem.wf = true) : (s.almanacControl v).mem.wf = true := by
  unfold State.almanacControl
  split <;> simp [h]

@[simp] theorem State.preControl_mem (s : State) (v : Nat) : (s.preControl v).mem = s.mem := by
  unfold State.preControl
  split <;> simp

@[simp] theorem State.teleMoved_mem (s : State) : s.teleMoved.mem = s.mem := by simp [State.teleMoved]

@[simp] theorem State.shortApply_wf (s : State) (e : Entry) (sub v : Nat) (h : s.mem.wf = true) : (s.shortApply e sub v).mem.wf = true := by
  unfold State.shortApply
  split <;> simp [h]

@[simp] theorem State.writeShort_wf (s : State) (via : Via) (e : Entry) (sub : Nat) (bs : Bytes) (h : s.mem.wf = true) :
    (s.writeShort via e sub bs).1.mem.wf = true := by
  unfold State.writeShort
  dsimp only
  repeat' split
  all_goals simp [h]

@[simp] theorem State.writeEntry_wf (s : State) (via : Via) (idx sub : Nat) (bs : Bytes) (h : s.mem.wf = true) : (s.writeEntry via idx sub bs).1.mem.wf = true := by
  unfold State.writeEntry
  repeat' split
  all_goals simp [h]

@[simp] theorem State.answerVia_mem (s : State) (via : Via) (code idx sub : Nat) : (s.answerVia via code idx sub).mem = s.mem := by
  unfold State.answerVia
  split <;> simp

@[simp] theorem State.accessed_canonical (s : State) (via : Via) (idx sub : Nat) (r : State × Nat) (h : s.mem.wf = true) (hr : r.1.mem.wf = true) :
    Result.Canonical (s.accessed via idx sub r) := by
  unfold State.accessed
  split
  · simp [h]
  · exact when_wf _ h (by simp [hr])

@[simp] theorem State.access_canonical (s : State) (via : Via) (idx sub : Nat) (bs : Bytes) (h : s.mem.wf = true) : Result.Canonical (s.access via idx sub bs) := by
    simp [State.access, h]

@[simp] theorem State.regWrite_canonical (s : State) (via : Via) (idx sub v : Nat) (h : s.mem.wf = true) : Result.Canonical (s.regWrite via idx sub v) := by
  unfold State.regWrite
  split <;> simp [h]

@[simp] theorem State.readEntry_mem (s : State) (via : Via) (idx sub : Nat) : (s.readEntry via idx sub).1.mem = s.mem := by
  unfold State.readEntry
  repeat' split
  all_goals simp

@[simp] theorem State.slotRead_mem (s : State) (p : Fin 2) (idx sub at_ n : Nat) : (s.slotRead p idx sub at_ n).1.mem = s.mem := by
  unfold State.slotRead
  dsimp only
  split
  · rfl
  · split
    · rfl
    · split
      · split <;> rfl
      · have hr := s.readEntry_mem (.bar0 p) idx sub
        split <;> rename_i he <;> rw [he] at hr <;> exact hr

@[simp] theorem State.slotWrite_wf (s : State) (p : Fin 2) (idx sub at_ : Nat) (bs : Bytes) (h : s.mem.wf = true) : (s.slotWrite p idx sub at_ bs).1.mem.wf = true := by
  unfold State.slotWrite
  dsimp only
  repeat' split
  all_goals simp [h]

@[simp] theorem State.bar0Write_canonical (s : State) (p : Fin 2) (o : Nat) (bs : Bytes) (h : s.mem.wf = true) : Result.Canonical (s.bar0Write p o bs) := by
  unfold State.bar0Write
  dsimp only
  repeat' split
  all_goals simp [h]

@[simp] theorem State.bar0Read_canonical (s : State) (p : Fin 2) (o n : Nat) (h : s.mem.wf = true) : Result.Canonical (s.bar0Read p o n) := by
  unfold State.bar0Read
  dsimp only
  repeat' split
  all_goals simp [h]

@[simp] theorem execRegisterWrite_canonical (via : Via) (index : BitVec 16) (sub : BitVec 8) (value : RegValue) (s : State) (h : s.mem.wf = true) :
    Result.Canonical (execRegisterWrite via index sub value s) := by
  unfold execRegisterWrite
  split <;> simp [h]

@[simp] theorem execArmA_canonical (via : Via) (s : State) (h : s.mem.wf = true) : Result.Canonical (execArmA via s) := by simp [execArmA, h]
@[simp] theorem execArmB_canonical (via : Via) (s : State) (h : s.mem.wf = true) : Result.Canonical (execArmB via s) := by simp [execArmB, h]
@[simp] theorem execStageA_canonical (via : Via) (s : State) (h : s.mem.wf = true) : Result.Canonical (execStageA via s) := by simp [execStageA, h]
@[simp] theorem execStageB_canonical (via : Via) (s : State) (h : s.mem.wf = true) : Result.Canonical (execStageB via s) := by simp [execStageB, h]
@[simp] theorem execUnstage_canonical (via : Via) (s : State) (h : s.mem.wf = true) : Result.Canonical (execUnstage via s) := by simp [execUnstage, h]
@[simp] theorem execDisarm_canonical (via : Via) (s : State) (h : s.mem.wf = true) : Result.Canonical (execDisarm via s) := by simp [execDisarm, h]

@[simp] theorem execResumeSdtWrite_canonical (via : Via) (value : BitVec 64) (s : State) (h : s.mem.wf = true) :
    Result.Canonical (execResumeSdtWrite via value s) := by simp [execResumeSdtWrite, h]

@[simp] theorem execParkRelease_canonical (via : Via) (value : BitVec 64) (s : State) (h : s.mem.wf = true) : Result.Canonical (execParkRelease via value s) := by
    simp [execParkRelease, h]

@[simp] theorem execParkAbandon_canonical (via : Via) (value : BitVec 64) (s : State) (h : s.mem.wf = true) : Result.Canonical (execParkAbandon via value s) := by
    simp [execParkAbandon, h]

@[simp] theorem execInvalRange_canonical (via : Via) (s : State) (h : s.mem.wf = true) : Result.Canonical (execInvalRange via s) := by simp [execInvalRange, h]
@[simp] theorem execInvalAsid_canonical (via : Via) (s : State) (h : s.mem.wf = true) : Result.Canonical (execInvalAsid via s) := by simp [execInvalAsid, h]
@[simp] theorem execInvalAll_canonical (via : Via) (s : State) (h : s.mem.wf = true) : Result.Canonical (execInvalAll via s) := by simp [execInvalAll, h]
@[simp] theorem execStop_canonical (via : Via) (s : State) (h : s.mem.wf = true) : Result.Canonical (execStop via s) := by simp [execStop, h]
@[simp] theorem execSave_canonical (via : Via) (s : State) (h : s.mem.wf = true) : Result.Canonical (execSave via s) := by simp [execSave, h]
@[simp] theorem execResume_canonical (via : Via) (s : State) (h : s.mem.wf = true) : Result.Canonical (execResume via s) := by simp [execResume, h]
@[simp] theorem execFabricCommit_canonical (via : Via) (s : State) (h : s.mem.wf = true) : Result.Canonical (execFabricCommit via s) := by simp [execFabricCommit, h]

@[simp] theorem execDomainGeometryWrite_canonical (via : Via) (sub : Fin 256) (value : Nat) (s : State) (h : s.mem.wf = true) :
    Result.Canonical (execDomainGeometryWrite via sub value s) := by simp [execDomainGeometryWrite, h]

@[simp] theorem execIncarnationWrite_canonical (via : Via) (value : Nat) (s : State) (h : s.mem.wf = true) :
    Result.Canonical (execIncarnationWrite via value s) := by simp [execIncarnationWrite, h]

@[simp] theorem execMirrorPeriodWrite_canonical (via : Via) (value : Nat) (s : State) (h : s.mem.wf = true) :
    Result.Canonical (execMirrorPeriodWrite via value s) := by simp [execMirrorPeriodWrite, h]

@[simp] theorem execHostGateInc_canonical (via : Via) (value : Nat) (s : State) (h : s.mem.wf = true) : Result.Canonical (execHostGateInc via value s) := by
    simp [execHostGateInc, h]

@[simp] theorem execDimExit_canonical (via : Via) (value : Nat) (s : State) (h : s.mem.wf = true) : Result.Canonical (execDimExit via value s) := by
    simp [execDimExit, h]

@[simp] theorem execVerifyTarget_canonical (via : Via) (s : State) (h : s.mem.wf = true) : Result.Canonical (execVerifyTarget via s) := by simp [execVerifyTarget, h]
@[simp] theorem execTrialTarget_canonical (via : Via) (s : State) (h : s.mem.wf = true) : Result.Canonical (execTrialTarget via s) := by simp [execTrialTarget, h]
@[simp] theorem execCancelTrial_canonical (via : Via) (s : State) (h : s.mem.wf = true) : Result.Canonical (execCancelTrial via s) := by simp [execCancelTrial, h]

@[simp] theorem execSvnFloorWrite_canonical (via : Via) (value : Nat) (s : State) (h : s.mem.wf = true) : Result.Canonical (execSvnFloorWrite via value s) := by
    simp [execSvnFloorWrite, h]

@[simp] theorem execFwKey0Revoke_canonical (via : Via) (value : Nat) (s : State) (h : s.mem.wf = true) : Result.Canonical (execFwKey0Revoke via value s) := by
    simp [execFwKey0Revoke, h]

@[simp] theorem execCoreRetireRequest_canonical (via : Via) (die : Fin 4) (value : Nat) (s : State) (h : s.mem.wf = true) :
    Result.Canonical (execCoreRetireRequest via die value s) := by simp [execCoreRetireRequest, h]

@[simp] theorem execOverrunClear_canonical (via : Via) (value : Nat) (s : State) (h : s.mem.wf = true) : Result.Canonical (execOverrunClear via value s) := by
    simp [execOverrunClear, h]

@[simp] theorem execResetRequest_canonical (via : Via) (value : Nat) (s : State) (h : s.mem.wf = true) : Result.Canonical (execResetRequest via value s) := by
    simp [execResetRequest, h]

@[simp] theorem execResetForce_canonical (via : Via) (value : Nat) (s : State) (h : s.mem.wf = true) : Result.Canonical (execResetForce via value s) := by
    simp [execResetForce, h]

@[simp] theorem execCoreTest_canonical (via : Via) (value : Nat) (s : State) (h : s.mem.wf = true) : Result.Canonical (execCoreTest via value s) := by
    simp [execCoreTest, h]

@[simp] theorem execTestAccessWrite_canonical (via : Via) (value : Nat) (s : State) (h : s.mem.wf = true) : Result.Canonical (execTestAccessWrite via value s) := by
    simp [execTestAccessWrite, h]

@[simp] theorem execFwChunk_canonical (via : Via) (bytes : List Byte) (s : State) (h : s.mem.wf = true) : Result.Canonical (execFwChunk via bytes s) := by
    simp [execFwChunk, h]

@[simp] theorem execAttestNonce_canonical (via : Via) (nonce : List Byte) (s : State) (h : s.mem.wf = true) : Result.Canonical (execAttestNonce via nonce s) := by
    simp [execAttestNonce, h]

@[simp] theorem execOperatorKeyWrite_canonical (via : Via) (slot : Fin 8) (value : List Byte) (s : State) (h : s.mem.wf = true) :
    Result.Canonical (execOperatorKeyWrite via slot value s) := by simp [execOperatorKeyWrite, h]

@[simp] theorem execShardGuardWrite_canonical (via : Via) (guard : Fin 64) (value : List Byte) (s : State) (h : s.mem.wf = true) :
    Result.Canonical (execShardGuardWrite via guard value s) := by simp [execShardGuardWrite, h]

@[simp] theorem execSegSelect_canonical (port : Fin 2) (value : BitVec 32) (s : State) (h : s.mem.wf = true) : Result.Canonical (execSegSelect port value s) := by
    simp [execSegSelect, h]

@[simp] theorem execSegSnapshot_canonical (port : Fin 2) (s : State) (h : s.mem.wf = true) : Result.Canonical (execSegSnapshot port s) := by
    simp [execSegSnapshot, h]

@[simp] theorem execSegCommit_canonical (port : Fin 2) (s : State) (h : s.mem.wf = true) : Result.Canonical (execSegCommit port s) := by simp [execSegCommit, h]
@[simp] theorem execSegDiscard_canonical (port : Fin 2) (s : State) (h : s.mem.wf = true) : Result.Canonical (execSegDiscard port s) := by simp [execSegDiscard, h]

@[simp] theorem execSegWindowWrite_canonical (port : Fin 2) (offset : Nat) (bytes : List Byte) (s : State) (h : s.mem.wf = true) :
    Result.Canonical (execSegWindowWrite port offset bytes s) := by simp [execSegWindowWrite, h]

@[simp] theorem execTrackingPeakRead_canonical (via : Via) (access : RegRead) (s : State) (h : s.mem.wf = true) :
    Result.Canonical (execTrackingPeakRead via access s) := by
  unfold execTrackingPeakRead
  split <;> simp [h]

/-! ### The Dictionary Protocol, MCTP and I3C -/

@[simp] theorem State.takeCounter_mem (s : State) (slot counter : Nat) : (s.takeCounter slot counter).mem = s.mem := by simp [State.takeCounter]
@[simp] theorem State.dropSegs_mem (s : State) (p : ProtSeg → Bool) : (s.dropSegs p).mem = s.mem := by simp [State.dropSegs]
@[simp] theorem State.editSegs_mem (s : State) (holder : Nat) (f : ProtSeg → ProtSeg) : (s.editSegs holder f).mem = s.mem := by simp [State.editSegs]
@[simp] theorem State.putSeg_mem (s : State) (g : ProtSeg) : (s.putSeg g).mem = s.mem := by simp [State.putSeg]
@[simp] theorem State.segTake_mem (s : State) (holder idx sub : Nat) (bs : Bytes) : (s.segTake holder idx sub bs).mem = s.mem := by simp [State.segTake]

@[simp] theorem State.segRead_mem (s : State) (via : Via) (holder idx sub off n : Nat) : (s.segRead via holder idx sub off n).1.mem = s.mem := by
  unfold State.segRead
  dsimp only
  repeat' split
  all_goals simp

@[simp] theorem State.segStage_mem (s : State) (e : Entry) (holder sub off : Nat) (data : Bytes) : (s.segStage e holder sub off data).1.mem = s.mem := by
  unfold State.segStage
  dsimp only
  repeat' split
  all_goals simp

@[simp] theorem State.segApply_wf (s : State) (via : Via) (e : Entry) (holder sub : Nat) (h : s.mem.wf = true) : (s.segApply via e holder sub).1.mem.wf = true := by
  unfold State.segApply
  dsimp only
  repeat' split
  all_goals simp [h]

@[simp] theorem State.dpRead_mem (s : State) (m : DpMsg) : (s.dpRead m).1.mem = s.mem := by
  unfold State.dpRead
  dsimp only
  repeat' split
  all_goals simp

@[simp] theorem State.dpWriteCode_wf (s : State) (m : DpMsg) (idx sub off total n : Nat) (data : Bytes) (h : s.mem.wf = true) :
    (s.dpWriteCode m idx sub off total n data).1.mem.wf = true := by
  unfold State.dpWriteCode
  dsimp only
  repeat' split
  all_goals simp [h]

@[simp] theorem State.dpWrite_wf (s : State) (m : DpMsg) (h : s.mem.wf = true) : (s.dpWrite m).1.mem.wf = true := by simp [State.dpWrite, h]

@[simp] theorem State.dpOpen_mem (s : State) (m : DpMsg) : (s.dpOpen m).1.mem = s.mem := by
  unfold State.dpOpen
  repeat' split
  all_goals simp

@[simp] theorem State.endSession_mem (s : State) (id : Nat) : (s.endSession id).mem = s.mem := by simp [State.endSession]
@[simp] theorem State.dpClose_mem (s : State) (m : DpMsg) : (s.dpClose m).1.mem = s.mem := by simp [State.dpClose]
@[simp] theorem State.dpDiscover_mem (s : State) (m : DpMsg) : (s.dpDiscover m).1.mem = s.mem := by simp [State.dpDiscover]
@[simp] theorem State.touchSession_mem (s : State) (m : DpMsg) : (s.touchSession m).mem = s.mem := by simp [State.touchSession]

@[simp] theorem State.dpAct_wf (s : State) (m : DpMsg) (h : s.mem.wf = true) : (s.dpAct m).1.mem.wf = true := by
  unfold State.dpAct
  split <;> simp [h]

@[simp] theorem State.dpRequest_wf (s : State) (m : DpMsg) (full sigOk : Bool) (h : s.mem.wf = true) : (s.dpRequest m full sigOk).1.mem.wf = true := by
  unfold State.dpRequest
  repeat' split
  all_goals simp [h]

@[simp] theorem State.dpFrom_canonical (s : State) (type : Nat) (frame : Bytes) (full sigOk : Bool) (h : s.mem.wf = true) :
    Result.Canonical (s.dpFrom type frame full sigOk) := by
  unfold State.dpFrom
  split
  · simp
  · split
    · simp [h]
    · split
      · simp [h]
      · split
        · simp [h]
        · rename_i m _
          have hr := s.dpRequest_wf m full sigOk h
          split <;> rename_i he <;> rw [he] at hr <;> simp [hr]

@[simp] theorem execDpRead_canonical (frame : List Byte) (full sigOk : Bool) (s : State) (h : s.mem.wf = true) :
    Result.Canonical (execDpRead frame full sigOk s) := by simp [execDpRead, h]

@[simp] theorem execDpWrite_canonical (frame : List Byte) (full sigOk : Bool) (s : State) (h : s.mem.wf = true) :
    Result.Canonical (execDpWrite frame full sigOk s) := by simp [execDpWrite, h]

@[simp] theorem execSessionOpen_canonical (frame : List Byte) (full sigOk : Bool) (s : State) (h : s.mem.wf = true) :
    Result.Canonical (execSessionOpen frame full sigOk s) := by simp [execSessionOpen, h]

@[simp] theorem execSessionClose_canonical (frame : List Byte) (full sigOk : Bool) (s : State) (h : s.mem.wf = true) :
    Result.Canonical (execSessionClose frame full sigOk s) := by simp [execSessionClose, h]

@[simp] theorem execDiscover_canonical (frame : List Byte) (full sigOk : Bool) (s : State) (h : s.mem.wf = true) :
    Result.Canonical (execDiscover frame full sigOk s) := by simp [execDiscover, h]

@[simp] theorem execSessionTimeout_canonical (session : Nat) (s : State) (h : s.mem.wf = true) : Result.Canonical (execSessionTimeout session s) := by
    simp [execSessionTimeout, h]

@[simp] theorem execSegmentLapse_canonical (holder : Nat) (s : State) (h : s.mem.wf = true) : Result.Canonical (execSegmentLapse holder s) := by
    simp [execSegmentLapse, h]

@[simp] theorem execMboxRequest_canonical (port : Fin 2) (commit : MboxCommit) (s : State) (h : s.mem.wf = true) :
    Result.Canonical (execMboxRequest port commit s) := by
  unfold execMboxRequest
  repeat' split
  all_goals simp [h]

@[simp] theorem execMgmtLinkUp_canonical (duplicate : Bool) (s : State) (h : s.mem.wf = true) : Result.Canonical (execMgmtLinkUp duplicate s) := by
    simp [execMgmtLinkUp, h]

@[simp] theorem State.mgmtAnswer_canonical (s : State) (p : Option NetPacket) (h : s.mem.wf = true) : Result.Canonical (s.mgmtAnswer p) := by
  unfold State.mgmtAnswer
  split <;> simp [h]

@[simp] theorem execMgmtNeighborSolicitation_canonical (packet : List Byte) (s : State) (h : s.mem.wf = true) :
    Result.Canonical (execMgmtNeighborSolicitation packet s) := by simp [execMgmtNeighborSolicitation, h]

@[simp] theorem execMgmtEchoRequest_canonical (packet : List Byte) (s : State) (h : s.mem.wf = true) : Result.Canonical (execMgmtEchoRequest packet s) := by
    simp [execMgmtEchoRequest, h]

/-! ### SPDM -/

@[simp] theorem execEntdaa_canonical (address : Fin 128) (s : State) (h : s.mem.wf = true) : Result.Canonical (execEntdaa address s) := by simp [execEntdaa, h]
@[simp] theorem execI3cTargetReset_canonical (s : State) (h : s.mem.wf = true) : Result.Canonical (execI3cTargetReset s) := by simp [execI3cTargetReset, h]
@[simp] theorem State.mctpAnswer_mem (s : State) (request bs : Bytes) : (s.mctpAnswer request bs).mem = s.mem := by simp [State.mctpAnswer]

@[simp] theorem State.mctpControl_canonical (s : State) (code : Nat) (request : Bytes) (f : Bytes → State) (hf : ∀ bs, (f bs).mem.wf = true) (h : s.mem.wf = true) :
    Result.Canonical (s.mctpControl code request f) := by
  unfold State.mctpControl
  split <;> simp [h, hf]

@[simp] theorem execSetEndpointId_canonical (request : List Byte) (s : State) (h : s.mem.wf = true) : Result.Canonical (execSetEndpointId request s) := by
    simp [execSetEndpointId, h]

@[simp] theorem execGetEndpointId_canonical (request : List Byte) (s : State) (h : s.mem.wf = true) : Result.Canonical (execGetEndpointId request s) := by
    simp [execGetEndpointId, h]

@[simp] theorem execGetMctpVersionSupport_canonical (request : List Byte) (s : State) (h : s.mem.wf = true) :
    Result.Canonical (execGetMctpVersionSupport request s) := by simp [execGetMctpVersionSupport, h]

@[simp] theorem execGetMessageTypeSupport_canonical (request : List Byte) (s : State) (h : s.mem.wf = true) :
    Result.Canonical (execGetMessageTypeSupport request s) := by simp [execGetMessageTypeSupport, h]

@[simp] theorem execI3cDictionaryRead_canonical (request : List Byte) (s : State) (h : s.mem.wf = true) : Result.Canonical (execI3cDictionaryRead request s) := by
  unfold execI3cDictionaryRead
  dsimp only
  repeat' split
  all_goals simp [h]

@[simp] theorem execI3cProvisioningWrite_canonical (request : List Byte) (s : State) (h : s.mem.wf = true) : Result.Canonical (execI3cProvisioningWrite request s) := by
  unfold execI3cProvisioningWrite
  dsimp only
  repeat' split
  all_goals simp [h]

@[simp] theorem State.spdmSend_mem (s : State) (tr : Nat) (bs : Bytes) : (s.spdmSend tr bs).mem = s.mem := by simp [State.spdmSend]
@[simp] theorem State.spdmError_mem (s : State) (tr code data : Nat) : (s.spdmError tr code data).mem = s.mem := by simp [State.spdmError]
@[simp] theorem State.spdmFresh_mem (s : State) (tr : Nat) (cert meas : Bool) : (s.spdmFresh tr cert meas).mem = s.mem := by simp [State.spdmFresh]
@[simp] theorem State.spdmMove_mem (s : State) (tr state : Nat) (bs : Bytes) : (s.spdmMove tr state bs).mem = s.mem := by simp [State.spdmMove]
@[simp] theorem State.spdmNonce_mem (s : State) : s.spdmNonce.2.mem = s.mem := by simp [State.spdmNonce]

@[simp] theorem State.spdmRequest_canonical (s : State) (tr code len ver least : Nat) (request : Bytes) (f : State → State) (hf : ∀ s, s.mem.wf = true → (f s).mem.wf = true) (h : s.mem.wf = true) :
    Result.Canonical (s.spdmRequest tr code len ver least request f) := by simp [State.spdmRequest, h, hf]

@[simp] theorem execGetVersion_canonical (transport : Fin 3) (request : List Byte) (s : State) (h : s.mem.wf = true) :
    Result.Canonical (execGetVersion transport request s) := by simp [execGetVersion, h]

@[simp] theorem execGetCapabilities_canonical (transport : Fin 3) (request : List Byte) (s : State) (h : s.mem.wf = true) :
    Result.Canonical (execGetCapabilities transport request s) := by simp [execGetCapabilities, h]

@[simp] theorem execNegotiateAlgorithms_canonical (transport : Fin 3) (request : List Byte) (s : State) (h : s.mem.wf = true) :
    Result.Canonical (execNegotiateAlgorithms transport request s) := by simp [execNegotiateAlgorithms, h]

@[simp] theorem State.spdmCertAnswer_mem (s : State) (tr : Nat) (request answer : Bytes) : (s.spdmCertAnswer tr request answer).mem = s.mem := by
    simp [State.spdmCertAnswer]

@[simp] theorem execGetDigests_canonical (transport : Fin 3) (request : List Byte) (s : State) (h : s.mem.wf = true) :
    Result.Canonical (execGetDigests transport request s) := by simp [execGetDigests, h]

@[simp] theorem execGetCertificate_canonical (transport : Fin 3) (request : List Byte) (s : State) (h : s.mem.wf = true) :
    Result.Canonical (execGetCertificate transport request s) := by simp [execGetCertificate, h]

@[simp] theorem execChallenge_canonical (transport : Fin 3) (request : List Byte) (s : State) (h : s.mem.wf = true) :
    Result.Canonical (execChallenge transport request s) := by simp [execChallenge, h]

@[simp] theorem execGetMeasurements_canonical (transport : Fin 3) (request : List Byte) (s : State) (h : s.mem.wf = true) :
    Result.Canonical (execGetMeasurements transport request s) := by simp [execGetMeasurements, h]

@[simp] theorem execSpdmUnsupportedRequest_canonical (transport : Fin 3) (request : List Byte) (s : State) (h : s.mem.wf = true) :
    Result.Canonical (execSpdmUnsupportedRequest transport request s) := by simp [execSpdmUnsupportedRequest, h]

/-! ### The slot boundary -/

@[simp] theorem State.addressFault_mem (s : State) (a : Action) : (s.addressFault a).mem = s.mem := by simp [State.addressFault]

@[simp] theorem State.storeAt_wf (s : State) (a : Action) (bs : Bytes) (h : s.mem.wf = true) : (s.storeAt a bs).mem.wf = true := by
  unfold State.storeAt
  have ht := State.translateSpans_wf a.ctx [⟨a.transit.addr, bs.length, true, false⟩] s h
  split <;> rename_i he <;> rw [he] at ht <;> simp [ht]

@[simp] theorem State.mark_wf (s : State) (a : Action) (h : s.mem.wf = true) : (s.mark a).mem.wf = true := by simp [State.mark, h]
@[simp] theorem State.snapshotAction_wf (s : State) (a : Action) (h : s.mem.wf = true) : (s.snapshotAction a).mem.wf = true := by simp [State.snapshotAction, h]

@[simp] theorem State.launch_wf (s : State) (a : Action) (h : s.mem.wf = true) : (s.launch a).mem.wf = true :=
  State.ite_wf (by simp [h]) (State.foldl_wf _ (fun s g hs => by simp [hs]) _ _ h)

@[simp] theorem State.startMover_mem (s : State) (a : Action) : (s.startMover a).mem = s.mem := by simp [State.startMover]

@[simp] theorem State.startAction_wf (s : State) (a : Action) (h : s.mem.wf = true) : (s.startAction a).mem.wf = true := by
  unfold State.startAction
  split <;> simp [h]

@[simp] theorem State.requeue_mem (s : State) (q : QTransit) (new : List QTransit) : (s.requeue q new).mem = s.mem := by simp [State.requeue]
@[simp] theorem State.noteFired_mem (s : State) (iter : Nat) : (s.noteFired iter).mem = s.mem := by simp [State.noteFired]
@[simp] theorem State.fire_wf (s : State) (h : AlmHeader) (q : QTransit) (hm : s.mem.wf = true) : (s.fire h q).mem.wf = true := by simp [State.fire, hm]

@[simp] theorem State.fireNext_wf (h : AlmHeader) (d : Nat) (qs : List QTransit) (blocked : List Nat) (s : State) (hm : s.mem.wf = true) :
    (State.fireNext h d qs blocked s).1.mem.wf = true := by
  induction qs generalizing blocked s with
  | nil => exact hm
  | cons q rest ih =>
    unfold State.fireNext
    split
    · exact hm
    · split
      · simp [hm]
      · exact ih _ _ (by simp [hm])

@[simp] theorem State.fireTick_wf (h : AlmHeader) (p : State × PerDie Turn) (hm : p.1.mem.wf = true) : (State.fireTick h p).1.mem.wf = true :=
  List.foldlRecOn (motive := fun p : State × PerDie Turn => p.1.mem.wf = true) _ _ hm (fun p hp d _ => by simp [hp])

@[simp] theorem State.fireTicks_wf (h : AlmHeader) (base n : Nat) (turns : PerDie Turn) (s : State) (hm : s.mem.wf = true) :
    (State.fireTicks h base n turns s).mem.wf = true := by
  induction n generalizing turns s with
  | zero => exact hm
  | succ n ih =>
    unfold State.fireTicks
    split
    · exact hm
    · have hf := State.fireTick_wf h (s.setSdt (base + (1983 - n)), turns) hm
      generalize State.fireTick h (s.setSdt (base + (1983 - n)), turns) = p at hf
      exact ih _ _ hf

@[simp] theorem State.firePass_wf (s : State) (h : s.mem.wf = true) : s.firePass.mem.wf = true := by
  unfold State.firePass
  split
  · have hr : (State.readDue 7936 s).mem.wf = true := by rw [State.readDue_mem]; exact h
    exact State.ite_wf (by rw [State.setSdt_mem]; exact State.fireTicks_wf _ _ _ _ _ hr) hr
  · exact h

@[simp] theorem State.newSlot_mem (s : State) : s.newSlot.mem = s.mem := by
  unfold State.newSlot
  repeat' split
  all_goals simp

@[simp] theorem State.newEpoch_mem (s : State) : s.newEpoch.mem = s.mem := by simp [State.newEpoch]
@[simp] theorem State.countStops_mem (s : State) : s.countStops.mem = s.mem := by simp [State.countStops]
@[simp] theorem State.compareSdt_mem (s : State) (upset : BitVec 4) (held : PerDie (BitVec 64)) : (s.compareSdt upset held).mem = s.mem := by simp [State.compareSdt]
@[simp] theorem State.deferTask_mem (s : State) (key : Nat) : (s.deferTask key).mem = s.mem := by simp [State.deferTask]
@[simp] theorem State.duskSlot_mem (s : State) : s.duskSlot.mem = s.mem := by simp [State.duskSlot]
@[simp] theorem State.workSlot_mem (s : State) : s.workSlot.mem = s.mem := by simp [State.workSlot]
@[simp] theorem State.skySlot_mem (s : State) : s.skySlot.mem = s.mem := by simp [State.skySlot]
@[simp] theorem State.countSecond_mem (s : State) : s.countSecond.mem = s.mem := by simp [State.countSecond]

@[simp] theorem State.boundary_wf (s : State) (junction : List (List Int)) (upset : BitVec 4) (held : PerDie (BitVec 64)) (h : s.mem.wf = true) :
    (s.boundary junction upset held).mem.wf = true := by simp [State.boundary, h]

@[simp] theorem execSlotBoundary_canonical (junction : List (List Int)) (upset : BitVec 4) (held : PerDie (BitVec 64)) (s : State) (h : s.mem.wf = true) :
    Result.Canonical (execSlotBoundary junction upset held s) := by simp [execSlotBoundary, h]

/-! ### The vector engine -/

@[simp] theorem State.vector_canonical (s : State) (g t cls op : Nat) (regs : Nat → Regs) (effect : State → Thread → Nat → State)
    (heffect : ∀ s th w, s.mem.wf = true → (effect s th w).mem.wf = true) (h : s.mem.wf = true) : Result.Canonical (s.vector g t cls op regs effect) :=
  State.issueInstr_canonical _ _ _ _ _ _ _ (fun s th w hs => by simp [hs, heffect]) h

@[simp] theorem State.putVd_mem (s : State) (g t : Nat) (th : Thread) (w v : Nat) : (s.putVd g t th w v).mem = s.mem := by simp [State.putVd]

@[simp] theorem State.putLanes_mem (s : State) (g t : Nat) (th : Thread) (w : Nat) (ls : List (Nat × Bool)) : (s.putLanes g t th w ls).mem = s.mem := by
    simp [State.putLanes]

@[simp] theorem binaryEffect_mem (g t : Nat) (lane : Nat → Nat → Nat → Nat × Bool) (s : State) (th : Thread) (w : Nat) :
    (binaryEffect g t lane s th w).mem = s.mem := by simp [binaryEffect]

@[simp] theorem unaryEffect_mem (g t : Nat) (lane : Nat → Nat → Nat × Bool) (s : State) (th : Thread) (w : Nat) : (unaryEffect g t lane s th w).mem = s.mem := by
    simp [unaryEffect]

@[simp] theorem execVadd_canonical (core : Fin 384) (thread : Fin 32) (s : State) (h : s.mem.wf = true) : Result.Canonical (execVadd core thread s) := by
    simp [execVadd, h]

@[simp] theorem execVsub_canonical (core : Fin 384) (thread : Fin 32) (s : State) (h : s.mem.wf = true) : Result.Canonical (execVsub core thread s) := by
    simp [execVsub, h]

@[simp] theorem execVmul_canonical (core : Fin 384) (thread : Fin 32) (s : State) (h : s.mem.wf = true) : Result.Canonical (execVmul core thread s) := by
    simp [execVmul, h]

@[simp] theorem fmaEffect_mem (g t : Nat) (s : State) (th : Thread) (w : Nat) : (fmaEffect g t s th w).mem = s.mem := by simp [fmaEffect]

@[simp] theorem execVfma_canonical (core : Fin 384) (thread : Fin 32) (s : State) (h : s.mem.wf = true) : Result.Canonical (execVfma core thread s) := by
    simp [execVfma, h]

@[simp] theorem vmaxEffect_mem (g t : Nat) (s : State) (th : Thread) (w : Nat) : (vmaxEffect g t s th w).mem = s.mem := by simp [vmaxEffect]

@[simp] theorem execVmax_canonical (core : Fin 384) (thread : Fin 32) (s : State) (h : s.mem.wf = true) : Result.Canonical (execVmax core thread s) := by
    simp [execVmax, h]

@[simp] theorem execVmin_canonical (core : Fin 384) (thread : Fin 32) (s : State) (h : s.mem.wf = true) : Result.Canonical (execVmin core thread s) := by
    simp [execVmin, h]

@[simp] theorem execVabs_canonical (core : Fin 384) (thread : Fin 32) (s : State) (h : s.mem.wf = true) : Result.Canonical (execVabs core thread s) := by
    simp [execVabs, h]

@[simp] theorem execVneg_canonical (core : Fin 384) (thread : Fin 32) (s : State) (h : s.mem.wf = true) : Result.Canonical (execVneg core thread s) := by
    simp [execVneg, h]

@[simp] theorem vcmpEffect_mem (g t : Nat) (s : State) (th : Thread) (w : Nat) : (vcmpEffect g t s th w).mem = s.mem := by simp [vcmpEffect]

@[simp] theorem execVcmp_canonical (core : Fin 384) (thread : Fin 32) (s : State) (h : s.mem.wf = true) : Result.Canonical (execVcmp core thread s) := by
    simp [execVcmp, h]

@[simp] theorem vselEffect_mem (g t : Nat) (s : State) (th : Thread) (w : Nat) : (vselEffect g t s th w).mem = s.mem := by simp [vselEffect]

@[simp] theorem execVsel_canonical (core : Fin 384) (thread : Fin 32) (s : State) (h : s.mem.wf = true) : Result.Canonical (execVsel core thread s) := by
    simp [execVsel, h]

@[simp] theorem vrsumEffect_mem (g t : Nat) (s : State) (th : Thread) (w : Nat) : (vrsumEffect g t s th w).mem = s.mem := by simp [vrsumEffect]

@[simp] theorem execVrsum_canonical (core : Fin 384) (thread : Fin 32) (s : State) (h : s.mem.wf = true) : Result.Canonical (execVrsum core thread s) := by
    simp [execVrsum, h]

@[simp] theorem vrmaxEffect_mem (least : Bool) (g t : Nat) (s : State) (th : Thread) (w : Nat) : (vrmaxEffect least g t s th w).mem = s.mem := by simp [vrmaxEffect]

@[simp] theorem execVrmax_canonical (core : Fin 384) (thread : Fin 32) (s : State) (h : s.mem.wf = true) : Result.Canonical (execVrmax core thread s) := by
    simp [execVrmax, h]

@[simp] theorem execVrmin_canonical (core : Fin 384) (thread : Fin 32) (s : State) (h : s.mem.wf = true) : Result.Canonical (execVrmin core thread s) := by
    simp [execVrmin, h]

@[simp] theorem vbcastEffect_mem (g t : Nat) (s : State) (th : Thread) (w : Nat) : (vbcastEffect g t s th w).mem = s.mem := by simp [vbcastEffect]

@[simp] theorem execVbcast_canonical (core : Fin 384) (thread : Fin 32) (s : State) (h : s.mem.wf = true) : Result.Canonical (execVbcast core thread s) := by
    simp [execVbcast, h]

@[simp] theorem State.gatherCycles_mem (s : State) (g n : Nat) : (s.gatherCycles g n).mem = s.mem := by simp [State.gatherCycles]
@[simp] theorem vgatherEffect_mem (g t : Nat) (s : State) (th : Thread) (w : Nat) : (vgatherEffect g t s th w).mem = s.mem := by simp [vgatherEffect]

@[simp] theorem execVgather_canonical (core : Fin 384) (thread : Fin 32) (s : State) (h : s.mem.wf = true) : Result.Canonical (execVgather core thread s) := by
    simp [execVgather, h]

@[simp] theorem vscatterEffect_wf (g t : Nat) (s : State) (th : Thread) (w : Nat) (h : s.mem.wf = true) : (vscatterEffect g t s th w).mem.wf = true := by
  unfold vscatterEffect
  dsimp only
  refine State.ite_wf (by simp [h]) ?_
  rw [State.next_mem]
  exact State.foldl_wf _ (fun s p hs => by split <;> simp [hs]) _ _ (by simp [h])

@[simp] theorem execVscatter_canonical (core : Fin 384) (thread : Fin 32) (s : State) (h : s.mem.wf = true) : Result.Canonical (execVscatter core thread s) :=
  State.vector_canonical _ _ _ _ _ _ _ (fun s th w hs => by simp [hs]) h

@[simp] theorem scatterAdd_wf (g ty : Nat) (s : State) (o x : Nat) (h : s.mem.wf = true) : (scatterAdd g ty s o x).mem.wf = true := by simp [scatterAdd, h]

@[simp] theorem vscataddEffect_wf (g t : Nat) (s : State) (th : Thread) (w : Nat) (h : s.mem.wf = true) : (vscataddEffect g t s th w).mem.wf = true := by
  unfold vscataddEffect
  dsimp only
  refine State.ite_wf (by simp [h]) ?_
  rw [State.next_mem]
  exact State.foldl_wf _ (fun s p hs => by split <;> simp [hs]) _ _ (by simp [h])

@[simp] theorem execVscatadd_canonical (core : Fin 384) (thread : Fin 32) (s : State) (h : s.mem.wf = true) : Result.Canonical (execVscatadd core thread s) :=
  State.vector_canonical _ _ _ _ _ _ _ (fun s th w hs => by simp [hs]) h

@[simp] theorem bitwiseEffect_mem (g t : Nat) (f : Nat → Nat → Nat) (s : State) (th : Thread) (w : Nat) : (bitwiseEffect g t f s th w).mem = s.mem := by
    simp [bitwiseEffect]

@[simp] theorem execVand_canonical (core : Fin 384) (thread : Fin 32) (s : State) (h : s.mem.wf = true) : Result.Canonical (execVand core thread s) := by
    simp [execVand, h]

@[simp] theorem execVor_canonical (core : Fin 384) (thread : Fin 32) (s : State) (h : s.mem.wf = true) : Result.Canonical (execVor core thread s) := by
    simp [execVor, h]

@[simp] theorem execVxor_canonical (core : Fin 384) (thread : Fin 32) (s : State) (h : s.mem.wf = true) : Result.Canonical (execVxor core thread s) := by
    simp [execVxor, h]

@[simp] theorem execVshl_canonical (core : Fin 384) (thread : Fin 32) (s : State) (h : s.mem.wf = true) : Result.Canonical (execVshl core thread s) := by
    simp [execVshl, h]

@[simp] theorem execVshr_canonical (core : Fin 384) (thread : Fin 32) (s : State) (h : s.mem.wf = true) : Result.Canonical (execVshr core thread s) := by
    simp [execVshr, h]

@[simp] theorem vcvtEffect_mem (g t : Nat) (s : State) (th : Thread) (w : Nat) : (vcvtEffect g t s th w).mem = s.mem := by simp [vcvtEffect]

@[simp] theorem execVcvt_canonical (core : Fin 384) (thread : Fin 32) (s : State) (h : s.mem.wf = true) : Result.Canonical (execVcvt core thread s) := by
    simp [execVcvt, h]

@[simp] theorem State.clash_mem (s : State) (g t w : Nat) (same : Bool) (v x y : Nat) : (s.clash g t w same v x y).mem = s.mem := by simp [State.clash]
@[simp] theorem quantIntEffect_mem (g t : Nat) (s : State) (th : Thread) (w : Nat) : (quantIntEffect g t s th w).mem = s.mem := by simp [quantIntEffect]
@[simp] theorem quantMxEffect_mem (f : Fmt) (g t : Nat) (s : State) (th : Thread) (w : Nat) : (quantMxEffect f g t s th w).mem = s.mem := by simp [quantMxEffect]

@[simp] theorem vquantEffect_mem (g t : Nat) (s : State) (th : Thread) (w : Nat) : (vquantEffect g t s th w).mem = s.mem := by
  unfold vquantEffect
  split <;> simp

@[simp] theorem execVquant_canonical (core : Fin 384) (thread : Fin 32) (s : State) (h : s.mem.wf = true) : Result.Canonical (execVquant core thread s) := by
    simp [execVquant, h]

@[simp] theorem vdequantEffect_mem (g t : Nat) (s : State) (th : Thread) (w : Nat) : (vdequantEffect g t s th w).mem = s.mem := by
  unfold vdequantEffect
  dsimp only
  split <;> simp

@[simp] theorem execVdequant_canonical (core : Fin 384) (thread : Fin 32) (s : State) (h : s.mem.wf = true) : Result.Canonical (execVdequant core thread s) := by
    simp [execVdequant, h]

@[simp] theorem vsplitEffect_mem (g t : Nat) (s : State) (th : Thread) (w : Nat) : (vsplitEffect g t s th w).mem = s.mem := by simp [vsplitEffect]

@[simp] theorem execVsplit_canonical (core : Fin 384) (thread : Fin 32) (s : State) (h : s.mem.wf = true) : Result.Canonical (execVsplit core thread s) := by
    simp [execVsplit, h]

@[simp] theorem vscaleEffect_mem (g t : Nat) (s : State) (th : Thread) (w : Nat) : (vscaleEffect g t s th w).mem = s.mem := by
  unfold vscaleEffect
  split <;> simp

@[simp] theorem execVscale_canonical (core : Fin 384) (thread : Fin 32) (s : State) (h : s.mem.wf = true) : Result.Canonical (execVscale core thread s) := by
    simp [execVscale, h]

@[simp] theorem sfuEffect_mem (op g t : Nat) (s : State) (th : Thread) (w : Nat) : (sfuEffect op g t s th w).mem = s.mem := by simp [sfuEffect]

@[simp] theorem execVexp_canonical (core : Fin 384) (thread : Fin 32) (s : State) (h : s.mem.wf = true) : Result.Canonical (execVexp core thread s) := by
    simp [execVexp, h]

@[simp] theorem execVexp2_canonical (core : Fin 384) (thread : Fin 32) (s : State) (h : s.mem.wf = true) : Result.Canonical (execVexp2 core thread s) := by
    simp [execVexp2, h]

@[simp] theorem execVln_canonical (core : Fin 384) (thread : Fin 32) (s : State) (h : s.mem.wf = true) : Result.Canonical (execVln core thread s) := by
    simp [execVln, h]

@[simp] theorem execVlog2_canonical (core : Fin 384) (thread : Fin 32) (s : State) (h : s.mem.wf = true) : Result.Canonical (execVlog2 core thread s) := by
    simp [execVlog2, h]

@[simp] theorem execVrcp_canonical (core : Fin 384) (thread : Fin 32) (s : State) (h : s.mem.wf = true) : Result.Canonical (execVrcp core thread s) := by
    simp [execVrcp, h]

@[simp] theorem execVrsqrt_canonical (core : Fin 384) (thread : Fin 32) (s : State) (h : s.mem.wf = true) : Result.Canonical (execVrsqrt core thread s) := by
    simp [execVrsqrt, h]

@[simp] theorem execVtanh_canonical (core : Fin 384) (thread : Fin 32) (s : State) (h : s.mem.wf = true) : Result.Canonical (execVtanh core thread s) := by
    simp [execVtanh, h]

@[simp] theorem execVsigmoid_canonical (core : Fin 384) (thread : Fin 32) (s : State) (h : s.mem.wf = true) : Result.Canonical (execVsigmoid core thread s) := by
    simp [execVsigmoid, h]

@[simp] theorem execVsinpi_canonical (core : Fin 384) (thread : Fin 32) (s : State) (h : s.mem.wf = true) : Result.Canonical (execVsinpi core thread s) := by
    simp [execVsinpi, h]

@[simp] theorem execVcospi_canonical (core : Fin 384) (thread : Fin 32) (s : State) (h : s.mem.wf = true) : Result.Canonical (execVcospi core thread s) := by
    simp [execVcospi, h]

/-! ### Page walks -/

@[simp] theorem State.walkOutcome_mem (s : State) (a : Agent) (c : XCtx) (x : Xlate) : (s.walkOutcome a c x).mem = s.mem := by
  unfold State.walkOutcome
  dsimp only
  split <;> simp

@[simp] theorem State.walkEcc_mem (s : State) (c : XCtx) (e : EccEvent) : (s.walkEcc c e).mem = s.mem := by
  unfold State.walkEcc
  split <;> simp

@[simp] theorem State.pageWalk_wf (s : State) (a : Agent) (c : XCtx) (e : EccEvent) (h : s.mem.wf = true) : (s.pageWalk a c e).mem.wf = true := by
    simp [State.pageWalk, h]

@[simp] theorem execPageWalk_canonical (agent : Agent) (write : Bool) (ecc : EccEvent) (s : State) (h : s.mem.wf = true) :
    Result.Canonical (execPageWalk agent write ecc s) := by
  unfold execPageWalk
  split <;> simp [h]

/-! ###  -/


/-! ### The step -/

/-- Whatever the command, its next states keep memory in its canonical form. -/
theorem exec_canonical (c : Instr) (s : State) (h : s.mem.wf = true) : Result.Canonical (exec c s) := by
  cases c <;> simp [h]

theorem step_canonical (s : State) (h : s.MemoryCanonical) : Result.Canonical (step s) := by
  cases hp : s.pending with
  | nil => rw [step_idle s hp, next_canonical, idleTick_mem]; exact h
  | cons c rest => rw [step_front s c rest hp]; exact exec_canonical c _ h

/-- Settles O54: a step is the meaning of the front command or an idle tick, and each keeps the canonical form. -/
theorem stepKeepsMemoryCanonical : Obligations.StepKeepsMemoryCanonical :=
  fun s u h hu => step_canonical s h u hu

end Sys2Proof.Machine
end

section
/-! SUPPORT. Memory whose cells are filtered: an address whose cells stay, and whose unlisted reading stays, reads as before. -/

namespace Sys2Proof.Machine

theorem findCell_filter (p : Host.Cell → Bool) (b : Nat) (hp : ∀ v, p (b, v) = true) (l : List Host.Cell) :
    findCell (l.filter p) b = findCell l b := by
  induction l with
  | nil => rfl
  | cons c t ih =>
    obtain ⟨k, w⟩ := c
    by_cases hb : b = k
    · subst hb; simp [hp, findCell]
    · cases hk : p (k, w) <;> simp [hk, findCell, hb, ih]

/-- The rule of every operation that drops cells. -/
theorem Memory.get_filter (m m' : Memory) (p : Host.Cell → Bool) (b : Nat) (hc : m'.cells = m.cells.filter p)
    (hp : ∀ v, p (b, v) = true) (hu : m'.unlisted b = m.unlisted b) : m'.get b = m.get b := by
  rw [Memory.get, Memory.get, hc, findCell_filter p b hp, hu]

theorem Memory.get_forget_outside (m : Memory) (a n tag b : Nat) (h : b < a ∨ a + n ≤ b) : (m.forget a n tag).get b = m.get b := by
  refine Memory.get_filter m _ _ b rfl (fun v => by simp; omega) ?_
  simp only [Memory.unlisted, Memory.forget]
  rw [staleTag_cons _ _ _ _ _ (by omega)]

theorem Memory.get_clear_outside (m : Memory) (a n b : Nat) (h : b < a ∨ a + n ≤ b) : (m.clear a n).get b = m.get b := by
  refine Memory.get_filter m _ _ b rfl (fun v => by simp; omega) ?_
  have hs : staleTag (m.clear a n).stale b = staleTag m.stale b :=
    staleTag_filter _ _ _ (fun r _ hp hr => by simp at hp; omega)
  simp only [Memory.unlisted, hs]; rfl

/-- Below the SRAM windows no address is scratch (R35). -/
theorem region_ne_scratch (b : Nat) (h : b < 0x30000000000) : region b ≠ .scratch := by
  have hsram : ¬(0xF0000000000 ≤ b ∧ b < 0xF8000000000) := by omega
  unfold region
  rw [if_neg hsram]
  split
  · simp
  · split
    · simp
    · split <;> simp

theorem Memory.get_dropSram_below (m : Memory) (tag b : Nat) (h : b < 0x30000000000) : (m.dropSram tag).get b = m.get b := by
  refine Memory.get_filter m _ _ b rfl (fun v => by simpa using h) ?_
  have hs : staleTag (m.dropSram tag).stale b = staleTag m.stale b :=
    staleTag_filter _ _ _ (fun r _ hp hr => by simp at hp; omega)
  have hr := region_ne_scratch b h
  simp only [Memory.unlisted, hs]
  cases hreg : region b with
  | scratch => exact absurd hreg hr
  | slate | thatch | accumulator | control | reserved => rfl

/-- Settles O19: each operation keeps the canonical form, and reads outside the addresses it names are unchanged. -/
theorem memoryOperations : Obligations.MemoryOperations := by
  intro m a v h
  refine ⟨Memory.get_set_same m a v h, fun b hb => Memory.get_set_other m a b v hb, Memory.set_wf m a v h, ?_, ?_, ?_⟩
  · exact fun n tag => ⟨Memory.forget_wf m a n tag h, fun b hb => Memory.get_forget_outside m a n tag b hb⟩
  · exact fun n => ⟨Memory.clear_wf m a n h, fun b hb => Memory.get_clear_outside m a n b hb⟩
  · exact fun tag => ⟨Memory.dropSram_wf m tag h, Memory.lost_wf tag, fun b hb => Memory.get_dropSram_below m tag b hb⟩

end Sys2Proof.Machine
end

section
/-! SUPPORT. The parts of the state that no write at a slice touches: one lemma for each operation on the way from a write's arrival to memory, for every such part at once. -/

namespace Sys2Proof.Machine

/-- A fold whose steps keep a part of the state keeps it. -/
theorem State.foldl_keeps {α β : Type} (part : State → β) (f : State → α → State) (hf : ∀ s a, part (f s a) = part s) (l : List α) (s : State) :
    part (l.foldl f s) = part s :=
  List.foldlRecOn (motive := fun t => part t = part s) l f rfl (fun t ht a _ => (hf t a).trans ht)

/-! ### What a write at a slice leaves alone -/

/-- A part of the state that caches, memory, requests, conjunctions, records on their way and the entries after STOP_REASON do not belong to. -/
structure SliceFrame {β : Type} (part : State → β) : Prop where
  cache : ∀ (s : State) c, part { s with cache := c } = part s
  mem : ∀ (s : State) m, part { s with mem := m } = part s
  trans : ∀ (s : State) t, part { s with trans := t } = part s
  conj : ∀ (s : State) c, part { s with conj := c } = part s
  arrivals : ∀ (s : State) l, part { s with log := { s.log with arrivals := l } } = part s
  dset : ∀ (s : State) i j v, 0x2121 < i → part (s.dset i j v) = part s

theorem SliceFrame.teleBuf : SliceFrame (fun s => s.log.teleBuf) := ⟨fun _ _ => rfl, fun _ _ => rfl, fun _ _ => rfl, fun _ _ => rfl, fun _ _ => rfl, fun _ _ _ _ _ => rfl⟩
theorem SliceFrame.alm : SliceFrame State.alm := ⟨fun _ _ => rfl, fun _ _ => rfl, fun _ _ => rfl, fun _ _ => rfl, fun _ _ => rfl, fun _ _ _ _ _ => rfl⟩
theorem SliceFrame.stopReason : SliceFrame (fun s => s.dget 0x2121 0) :=
  ⟨fun _ _ => rfl, fun _ _ => rfl, fun _ _ => rfl, fun _ _ => rfl, fun _ _ => rfl,
    fun s i j v h => s.dget_dset_other i j 0x2121 0 v (by simp only [entryKey]; omega)⟩

theorem State.writeBarred_counter {s : State} {a n i j : Nat} (h : s.writeBarred a n = some (i, j)) : 0x2121 < i := by
  simp only [State.writeBarred] at h
  split at h
  · cases h; decide
  · split at h
    · cases h; decide
    · cases h

theorem State.writeRefused_counter {s : State} {a n i j : Nat} (h : s.writeRefused a n = some (i, j)) : 0x2121 < i := by
  simp only [State.writeRefused] at h
  split at h
  · cases h; exact State.writeBarred_counter ‹_›
  · split at h
    · cases h; decide
    · cases h

/-- Both branches keep the part. -/
theorem State.ite_keeps {β : Type} {part : State → β} {c : Prop} [Decidable c] {s t u : State} (hs : part s = part u) (ht : part t = part u) :
    part (if c then s else t) = part u := by
  split <;> assumption

namespace SliceFrame
section
variable {β : Type} {part : State → β} (h : SliceFrame part)
include h

theorem dadd (s : State) (i j n : Nat) (hi : 0x2121 < i) : part (s.dadd i j n) = part s := by
  unfold State.dadd
  split
  · exact h.dset _ _ _ _ hi
  · rfl

theorem record (s : State) (code severity die : Nat) (src : Source) (step loc sub : Nat) (detail : Bytes) :
    part (s.record code severity die src step loc sub detail) = part s := h.arrivals _ _
theorem event (s : State) (code : Nat) (src : Source) (die loc : Nat) (detail : Bytes) : part (s.event code src die loc detail) = part s := h.record ..
theorem fatal (s : State) (code die : Nat) (src : Source) (step loc sub : Nat) (detail : Bytes) :
    part (s.fatal code die src step loc sub detail) = part s := (h.conj _ _).trans (h.record ..)

theorem store (s : State) (a : Nat) (bs : Bytes) : part (s.store a bs) = part s := by
  induction bs generalizing s a with
  | nil => rfl
  | cons b bs ih => exact (ih _ _).trans (h.mem _ _)

theorem poisonSector (s : State) (storage : Nat) : part (s.poisonSector storage) = part s := (h.cache _ _).trans (h.dadd _ _ _ _ (by decide))

theorem eccCorrected (s : State) (storage sub unit : Nat) : part (s.eccCorrected storage sub unit) = part s := by
  have hd := h.dadd s 0x350B sub 1 (by decide)
  unfold State.eccCorrected
  exact State.ite_keeps hd (((h.event ..).trans (h.cache _ _)).trans hd)

theorem outcome (s : State) (die useful late unused : Nat) : part (s.outcome die useful late unused) = part s :=
  (h.dadd _ _ _ _ (by decide)).trans ((h.dadd _ _ _ _ (by decide)).trans ((h.dadd _ _ _ _ (by decide)).trans (h.cache _ _)))

theorem loftEvict (s : State) (l : LoftLine) : part (s.loftEvict l) = part s := by
  unfold State.loftEvict
  have hd (t : State) (ht : part t = part s) (c d : CacheState) (p : Prop) [Decidable p] :
      part (if p then { t with cache := c } else { t with cache := d }) = part s := State.ite_keeps ((h.cache _ _).trans ht) ((h.cache _ _).trans ht)
  split
  · exact hd _ (h.outcome ..) _ _ _
  · exact hd _ rfl _ _ _

theorem loftInstall (s : State) (l : LoftLine) : part (s.loftInstall l) = part s := by
  unfold State.loftInstall
  refine (h.cache _ _).trans ?_
  split
  · exact h.loftEvict ..
  · rfl

theorem checkSector (s : State) (line : Nat) : part (s.checkSector line) = part s := by
  unfold State.checkSector
  split
  · exact h.cache _ _
  · rfl

theorem loftRefresh (s : State) (l : LoftLine) : part (s.loftRefresh l) = part s := h.cache _ _

theorem markWrite (s : State) (a n : Nat) (alloc : Bool) (src : Source) (loc sub step : Nat) : part (s.markWrite a n alloc src loc sub step) = part s := by
  unfold State.markWrite
  dsimp only
  repeat' split
  all_goals simp only [h.loftInstall, h.fatal, h.cache, h.loftRefresh, h.dadd, Nat.reduceLT]

theorem countGuards (s : State) (gs : List Nat) : part (s.countGuards gs) = part s :=
  (State.foldl_keeps part _ (fun s _ => h.cache s _) _ _).trans (State.ite_keeps rfl (h.dadd _ _ _ _ (by decide)))

theorem putBytes (s : State) (gs : List Nat) (a : Nat) (bs : Bytes) : part (s.putBytes gs a bs) = part s :=
  State.ite_keeps (h.store ..) ((h.cache _ _).trans (h.store ..))

theorem putSector (s : State) (gs : List Nat) (a : Nat) (bs : Bytes) : part (s.putSector gs a bs) = part s :=
  State.ite_keeps (State.ite_keeps ((h.putBytes ..).trans (h.cache _ _)) rfl) (h.putBytes ..)

theorem acceptWrite (s : State) (a : Nat) (bs : Bytes) (alloc : Bool) (src : Source) (loc sub step : Nat) :
    part (s.acceptWrite a bs alloc src loc sub step) = part s := by
  unfold State.acceptWrite
  have hm := (h.countGuards (s.markWrite a bs.length alloc src loc sub step) (s.watching a bs.length)).trans (h.markWrite ..)
  have hf := State.foldl_keeps part (fun t (p : Nat × Bytes) => t.putSector (s.watching a bs.length) p.1 p.2) (fun _ _ => h.putSector ..)
  split
  · exact State.ite_keeps ((h.putBytes ..).trans hm) ((hf _ _).trans hm)
  · exact State.ite_keeps ((h.putBytes ..).trans hm) ((hf _ _).trans hm)
  · exact (h.store ..).trans hm

theorem applyWrite (s : State) (a : Nat) (bs : Bytes) (alloc : Bool) (src : Source) (loc sub step : Nat) :
    part (s.applyWrite a bs alloc src loc sub step) = part s := by
  unfold State.applyWrite
  split
  · exact h.dadd _ _ _ _ (State.writeRefused_counter ‹_›)
  · exact h.acceptWrite ..

theorem applyAdd (s : State) (a fmt : Nat) (bs : Bytes) (src : Source) (loc sub step : Nat) : part (s.applyAdd a fmt bs src loc sub step).1 = part s := by
  unfold State.applyAdd
  split
  · exact h.dadd _ _ _ _ (State.writeRefused_counter ‹_›)
  · exact (State.foldl_keeps part _ (fun t _ => State.ite_keeps rfl (h.putBytes t _ _ _)) _ _).trans ((h.countGuards ..).trans (h.markWrite ..))

theorem eavesDrop (s : State) (die : Nat) (t : Target) : part (s.eavesDrop die t) = part s := by
  unfold State.eavesDrop
  split
  · exact h.cache _ _
  · rfl

theorem perform (s : State) (r : Req) : part (s.perform r) = part s := by
  have hm (t : State) (id : Nat) (f : Req → Req) : part (t.mapReq id f) = part t := h.trans _ _
  unfold State.perform
  split
  · dsimp only
    split
    · exact hm _ _ _
    · exact (hm _ _ _).trans (h.applyWrite ..)
    · exact (hm _ _ _).trans (h.applyAdd ..)
  · rfl

theorem serve (s : State) (r : Req) (line : Nat) : part (s.serve r line) = part s := State.ite_keeps ((h.cache _ _).trans (h.perform ..)) (h.perform ..)

theorem memoryEcc (s : State) (line : Nat) (e : EccEvent) : part (s.memoryEcc line e) = part s := by
  unfold State.memoryEcc
  split
  · rfl
  · exact h.eccCorrected ..
  · exact State.ite_keeps rfl (h.poisonSector ..)

theorem landFill (s : State) (f : Fill) (e : EccEvent) : part (s.landFill f e) = part s := by
  have hl (t : State) : part ((t.checkSector f.line).memoryEcc f.line e) = part t := (h.memoryEcc ..).trans (h.checkSector ..)
  have hc := (hl _).trans (h.cache s { s.cache with fills := s.cache.fills.filter (fun g => g.line != f.line) })
  unfold State.landFill
  refine (State.foldl_keeps part _ (fun t id => ?_) _ _).trans ?_
  · split
    · exact h.serve ..
    · rfl
  · split
    · exact (h.event ..).trans hc
    · refine State.ite_keeps ?_ hc
      split
      · exact (h.loftInstall ..).trans hc
      · exact (h.loftInstall ..).trans hc

theorem settle (s : State) (line : Nat) : part (s.settle line) = part s := by
  unfold State.settle
  split
  · exact h.landFill ..
  · rfl

/-- A write that reaches the slices keeps the part. -/
theorem arriveWrite (s : State) (die a : Nat) (bs : Bytes) (alloc : Bool) (src : Source) (loc sub step : Nat) :
    part (s.arriveWrite die a bs alloc src loc sub step) = part s :=
  State.foldl_keeps part _ (fun _ _ => (h.applyWrite ..).trans ((h.settle ..).trans (h.eavesDrop ..))) _ _

/-- A write of the device into its save area keeps the part. -/
theorem ownWrite (s : State) (a : Nat) (bs : Bytes) : part (s.ownWrite a bs) = part s := by
  refine State.foldl_keeps part _ (fun t p => ?_) _ _
  split
  · exact h.dadd _ _ _ _ (State.writeBarred_counter ‹_›)
  · exact (h.acceptWrite ..).trans (h.settle ..)

theorem noteOne (s : State) (die : Nat) : part (s.noteOne die) = part s := State.ite_keeps (h.dset _ _ _ _ (by decide)) rfl

end
end SliceFrame

end Sys2Proof.Machine
end

section
/-! SUPPORT. The log, telemetry and the test port: the record that a write takes off the buffer, a write of a short entry that is let through, and what an instruction does in a test port. -/

namespace Sys2Proof.Machine

/-! ### The log and telemetry -/

theorem State.teleStore_teleBuf (s : State) (off : Nat) (bs : Bytes) : (s.teleStore off bs).log.teleBuf = s.log.teleBuf :=
  (SliceFrame.teleBuf.noteOne ..).trans (SliceFrame.teleBuf.arriveWrite ..)

/-- TELEMETRY_WRITE takes the record written off the buffer, whether or not a pad record goes before it. -/
theorem State.teleWrite_teleBuf (s : State) (bs : Bytes) (rest : List Bytes) : (s.teleWrite bs rest).log.teleBuf = rest := by
  unfold State.teleWrite
  refine (State.teleStore_teleBuf ..).trans ?_
  split
  · rfl
  · exact State.teleStore_teleBuf ..

theorem State.teleQueue_teleDusk (s : State) (bs : Bytes) : (s.teleQueue bs).log.teleDusk = s.log.teleDusk := by
  unfold State.teleQueue
  split <;> simp

/-- A sample restarts the period, whatever is queued. -/
theorem State.teleSample_teleDusk (s : State) : s.teleSample.log.teleDusk = 0 :=
  State.foldl_keeps (fun t => t.log.teleDusk) _ (fun _ _ => State.teleQueue_teleDusk _ _) _ _

theorem State.lostRec_ring (s : State) : s.lostRec.log.ring = s.log.ring := by
  unfold State.lostRec
  split <;> rfl

theorem State.lostRec_none (s : State) (h : s.log.droppedRun = 0) : s.lostRec = s := by simp [State.lostRec, h]

theorem State.programRec_ring (s : State) (r : LogRec) : (s.programRec r).log.ring.head? = some r := rfl


/-! ### A write of a short entry -/

theorem findEntry_testAccess : findEntry 0x5000 0 = some ⟨0x5000, 0, 0, "TEST_ACCESS", 0x01, 1, .rws, .plain, 0, 0, 0, 1⟩ := by rfl
theorem findEntry_coreTest : findEntry 0x5010 0 = some ⟨0x5010, 0, 0, "CORE_TEST", 0x12, 2, .wo, .command, 0, 0, 0, 65535⟩ := by rfl

/-- A write that is let through (R392) to an entry outside the segment windows answers with the code of its value's check, and takes effect when that is 0. -/
theorem State.regWrite_of_mayWrite (s : State) (via : Via) (idx sub v : Nat) (e : Entry) (he : findEntry idx sub = some e) (hi : 0x1106 < e.index)
    (hm : s.mayWrite via idx sub = true) (hv : v < 2 ^ (8 * e.size)) :
    s.regWrite via idx sub v = .next (if s.shortCheck e sub v = 0 then (s.shortApply e sub v).answerVia via 0 idx sub
      else s.answerVia via (s.shortCheck e sub v) idx sub) := by
  simp only [State.mayWrite, he, Bool.and_eq_true, Bool.not_eq_true', beq_iff_eq] at hm
  obtain ⟨⟨⟨hk, hvia⟩, hlong⟩, hcode⟩ := hm
  have how : otherWindow via e.index = false := by
    cases via <;> simp [otherWindow]
    omega
  have hl : leNat (natLe e.size v) = v := by
    rw [leNat_natLe, Nat.mod_eq_of_lt]
    simpa [Nat.pow_mul] using hv
  have hw : ¬((e.index = 0x1105 ∨ e.index = 0x1106) ∧ sub = 1) ∧ ¬((e.index = 0x1105 ∨ e.index = 0x1106) ∧ sub = 2) := by omega
  have hn : ¬ 2 ^ (8 * e.size) ≤ v := by omega
  simp only [State.regWrite, he, hlong, hn, decide_false, Bool.or_false, Bool.false_eq_true, if_false, State.access, State.accessed, hk, hvia,
    Bool.not_true, when_true, State.writeEntry, State.writeShort, hcode, natLe_length, how, hl, ne_eq, not_true_eq_false, or_self]
  by_cases hc : s.shortCheck e sub v = 0
  · simp only [hc, if_true, hw.1, hw.2, if_false]
  · simp only [hc, if_false]

/-! ### Core self-test and the test access port -/

theorem State.answerVia_log (s : State) (via : Via) (code idx sub : Nat) : (s.answerVia via code idx sub).log = s.log := by
  cases via <;> simp [State.answerVia]
  split <;> simp

/-- An accepted access leaves every entry as it is. -/
theorem State.answerVia_ok_dget (s : State) (via : Via) (idx sub i j : Nat) : (s.answerVia via 0 idx sub).dget i j = s.dget i j := by
  cases via <;> simp [State.answerVia, State.dget]

/-- CORE_TEST takes the number of a core, or 0xFFFF, of a saved package. -/
theorem State.shortCheck_coreTest (s : State) (v : Nat) (hs : s.trans.preempt = .saved) (hv : v < 384 ∨ v = 0xFFFF) :
    s.shortCheck ⟨0x5010, 0, 0, "CORE_TEST", 0x12, 2, .wo, .command, 0, 0, 0, 65535⟩ 0 v = 0 := by
  rcases hv with hv | hv
  · have h1 : ¬ 65535 < v := by omega
    have h2 : ¬ 384 ≤ v := by omega
    simp [State.shortCheck, State.unitCheck, hs, h1, h2]
  · simp [State.shortCheck, State.unitCheck, hs, hv]

/-- TEST_ACCESS refuses 1 while the Almanac holds its state (R481). -/
theorem State.shortCheck_testAccess (s : State) (v : Nat) (hv : v ≤ 1) :
    s.shortCheck ⟨0x5000, 0, 0, "TEST_ACCESS", 0x01, 1, .rws, .plain, 0, 0, 0, 1⟩ 0 v = if v = 1 ∧ s.rwaLocked = true then 0x0A else 0 := by
  have : ¬ 1 < v := by omega
  simp [State.shortCheck, State.unitCheck, this]

theorem State.testAccessWrite_eq (s : State) (via : Via) (v : Nat) (hm : s.mayWrite via 0x5000 0 = true) (hv : v ≤ 1) :
    exec (.testAccessWrite via v) s = .next (if v = 1 ∧ s.rwaLocked = true then s.answerVia via 0x0A 0x5000 0
      else (s.dset 0x5000 0 v).answerVia via 0 0x5000 0) := by
  rw [exec_testAccessWrite, execTestAccessWrite, State.regWrite_of_mayWrite s via _ _ _ _ findEntry_testAccess (by decide) hm (by simp; omega),
    State.shortCheck_testAccess s v hv]
  by_cases h : v = 1 ∧ s.rwaLocked = true
  · simp [h]
  · simp only [h, if_false, if_true]; rfl

/-- The three instructions that a port obeys without test access (R481). -/
theorem State.tapEffective_eq (s : State) (op : TapOp) :
    s.tapEffective op = if s.dget 0x5000 0 = 1 ∨ op ∈ [TapOp.idcode, .bypass, .sample] then op else .bypass := by
  cases op <;> simp [State.tapEffective]

theorem State.tap_tapIr (s : State) (d : Nat) (op : TapOp) : (s.tap d op).log.tapIr = pset s.log.tapIr d (s.tapEffective op) := by
  unfold State.tap
  dsimp only
  split <;> rfl
@[simp] theorem State.tap_dict (s : State) (d : Nat) (op : TapOp) : (s.tap d op).dict = s.dict := by
  unfold State.tap
  dsimp only
  split <;> rfl
@[simp] theorem State.tap_fuse (s : State) (d : Nat) (op : TapOp) : (s.tap d op).fuse = s.fuse := by
  unfold State.tap
  dsimp only
  split <;> rfl
@[simp] theorem State.tap_out (s : State) (d : Nat) (op : TapOp) : (s.tap d op).out = s.out := by
  unfold State.tap
  dsimp only
  split <;> rfl
@[simp] theorem State.tapEffective_tap (s : State) (d : Nat) (op o : TapOp) : (s.tap d op).tapEffective o = s.tapEffective o := by
  simp [State.tapEffective_eq, State.dget]
@[simp] theorem State.idcode_tap (s : State) (d e : Nat) (op : TapOp) : (s.tap d op).idcode e = s.idcode e := by
  simp [State.idcode]

/-- EXTEST that acts faults the package; a port that follows leaves it faulted. -/
theorem State.tap_extest (s : State) (d : Nat) (op : TapOp) (h : s.tapEffective op = .extest) : (s.tap d op).boot.mode = .faulted := by
  simp [State.tap, h]
theorem State.tap_faulted (s : State) (d : Nat) (op : TapOp) (h : s.boot.mode = .faulted) : (s.tap d op).boot.mode = .faulted := by
  unfold State.tap
  dsimp only
  split <;> simp [h]
theorem State.tap_boot (s : State) (d : Nat) (op : TapOp) (h : s.dget 0x5000 0 ≠ 1) : (s.tap d op).boot = s.boot := by
  cases op <;> simp [State.tap, State.tapEffective, h]

/-- The four ports load their instructions, D0's first. -/
def State.tapAll (s : State) (ops : PerDie TapOp) : State := (List.range 4).foldl (fun s d => s.tap d (pget ops d)) s

theorem State.tapAll_eq (s : State) (ops : PerDie TapOp) : s.tapAll ops = (((s.tap 0 ops.d0).tap 1 ops.d1).tap 2 ops.d2).tap 3 ops.d3 := by
  simp [State.tapAll, List.range_succ, pget]

theorem exec_tapInstruction_next (s : State) (hk : s.power.hkUp = true) (ops : PerDie TapOp) :
    exec (.tapInstruction (ops.d0, ops.d1) (ops.d2, ops.d3)) s =
      .next ((s.tapAll ops).emit (.scan ([3, 2, 1, 0].map (fun d => s.tapData d (pget (s.tapAll ops).log.tapIr d))))) := by
  rw [exec_tapInstruction, execTapInstruction, hk, when_true, State.tapAll]

/-- Every port's register holds what its instruction acts as. -/
theorem State.tapAll_tapIr (s : State) (ops : PerDie TapOp) : (s.tapAll ops).log.tapIr = pmap s.tapEffective ops := by
  simp [State.tapAll_eq, State.tap_tapIr, pset, pmap]

theorem State.tapAll_boot (s : State) (ops : PerDie TapOp) (h : s.dget 0x5000 0 ≠ 1) : (s.tapAll ops).boot = s.boot := by
  have hd (t : State) (ht : t.dict = s.dict) : t.dget 0x5000 0 ≠ 1 := by simpa [State.dget, ht] using h
  simp [State.tapAll_eq, State.tap_boot _ _ _ (hd _ _)]

/-- One EXTEST that acts faults the package. -/
theorem State.tapAll_extest (s : State) (ops : PerDie TapOp) (die : Fin 4) (h : s.tapEffective (pget ops die) = .extest) :
    (s.tapAll ops).boot.mode = .faulted := by
  rw [State.tapAll_eq]
  fin_cases die
  · exact State.tap_faulted _ _ _ (State.tap_faulted _ _ _ (State.tap_faulted _ _ _ (State.tap_extest _ _ _ h)))
  · exact State.tap_faulted _ _ _ (State.tap_faulted _ _ _ (State.tap_extest _ _ _ (by rw [State.tapEffective_tap]; exact h)))
  · exact State.tap_faulted _ _ _ (State.tap_extest _ _ _ (by rw [State.tapEffective_tap, State.tapEffective_tap]; exact h))
  · exact State.tap_extest _ _ _ (by rw [State.tapEffective_tap, State.tapEffective_tap, State.tapEffective_tap]; exact h)

theorem pget_pmap {α β : Type} (f : α → β) (p : PerDie α) (d : Nat) : pget (pmap f p) d = f (pget p d) := by
  unfold pget pmap
  split <;> rfl

/-- The registers scanned are those of the instructions as they act, D3's first. -/
theorem State.tapAll_scan (s : State) (ops : PerDie TapOp) :
    [3, 2, 1, 0].map (fun d => s.tapData d (pget (s.tapAll ops).log.tapIr d)) =
      [s.tapData 3 (s.tapEffective (pget ops 3)), s.tapData 2 (s.tapEffective (pget ops 2)), s.tapData 1 (s.tapEffective (pget ops 1)),
        s.tapData 0 (s.tapEffective (pget ops 0))] := by
  simp [State.tapAll_tapIr, pget_pmap]

theorem State.tapAll_out (s : State) (ops : PerDie TapOp) : (s.tapAll ops).out = s.out := by simp [State.tapAll_eq]

/-! ### The obligation, clause by clause -/

theorem completes_of_next {c : Instr} {s u : State} {P : State → Prop} (hx : exec c s = .next u) (hp : P u) : Completes c s P := ⟨u, hx, hp⟩

theorem logRecordArrival_completes (s : State) (r : LogRec) (rest : List LogRec) (ha : s.log.arrivals = r :: rest) (hs : s.served = true) :
    ((s.log.queue.length < 3840 ∨ (r.severity = 1 ∧ s.log.queue.length < 4096)) →
      Completes .logRecordArrival s (fun u => u.log.arrivals = rest ∧ u.log.queue = s.log.queue ++ [{ r with seq := s.log.next }] ∧ u.log.next = s.log.next + 1)) ∧
    ((3840 ≤ s.log.queue.length ∧ (r.severity ≠ 1 ∨ 4096 ≤ s.log.queue.length)) →
      Completes .logRecordArrival s (fun u => u.log.arrivals = rest ∧ u.log.queue = s.log.queue ∧ u.log.droppedRun = s.log.droppedRun + 1 ∧ u.log.next = s.log.next)) := by
  have hx : exec .logRecordArrival s = .next (({ s with log := { s.log with arrivals := rest } } : State).arriveRec r) := by
    simp [execLogRecordArrival, ha, hs]
  constructor
  · intro h
    exact ⟨_, hx, by simp [State.arriveRec, h, State.enqueueRec]⟩
  · intro h
    have hn : ¬(s.log.queue.length < 3840 ∨ (r.severity = 1 ∧ s.log.queue.length < 4096)) := by omega
    exact ⟨_, hx, by simp [State.arriveRec, hn]⟩

theorem logProgram_completes (s : State) (r : LogRec) (rest : List LogRec) (hq : s.log.queue = r :: rest) (hs : s.served = true) :
    Completes .logProgram s (fun u => u.log.ring.head? = some r ∧ u.mem = s.mem ∧ (s.log.droppedRun = 0 → u.log.queue = rest)) := by
  refine ⟨(({ s with log := { s.log with queue := rest } } : State).programRec r).lostRec, by simp [execLogProgram, hq, hs], ?_, by simp, fun h => ?_⟩
  · rw [State.lostRec_ring, State.programRec_ring]
  · have hn := State.lostRec_none (({ s with log := { s.log with queue := rest } } : State).programRec r) h
    exact congrArg (fun t : State => t.log.queue) hn

theorem telemetry_completes (s : State) (ha : s.alive = true) (hs : s.served = true) (hd : s.inDusk = true) (ht : s.teleSize ≠ 0) :
    (s.dget 0x3030 3 ≤ s.log.teleDusk → Completes .telemetrySample s (fun u => u.log.teleDusk = 0 ∧ u.mem = s.mem)) ∧
    (∀ bs rest, s.log.teleBuf = bs :: rest → s.deferredNow teleKey = false → Completes .telemetryWrite s (fun u => u.log.teleBuf = rest)) := by
  refine ⟨fun hp => ⟨s.teleSample, ?_, s.teleSample_teleDusk, by simp⟩, fun bs rest hb hk => ⟨s.teleWrite bs rest, ?_, s.teleWrite_teleBuf bs rest⟩⟩
  · simp [execTelemetrySample, ha, hs, hd, ht, hp]
  · simp [execTelemetryWrite, hb, hk, ha, hs, hd, ht]

theorem coreTest_completes (s : State) (via : Via) (v : BitVec 16) (hm : s.mayWrite via 0x5010 0 = true) (hp : s.trans.preempt = .saved)
    (hv : v.toNat < 384 ∨ v = 0xFFFF) :
    Completes (.coreTest via v.toNat) s (fun u => u.log.coreTest = 1 ∧ u.log.coreNamed = (if v = 0xFFFF then List.range 384 else [v.toNat])) := by
  have hv' : v.toNat < 384 ∨ v.toNat = 0xFFFF := hv.imp_right (fun h => by simp [h])
  have hc := s.shortCheck_coreTest v.toNat hp hv'
  have hn : v.toNat = 0xFFFF ↔ v = 0xFFFF := by rw [BitVec.toNat_eq]; rfl
  refine ⟨(s.startTest v.toNat).answerVia via 0 0x5010 0, ?_, ?_⟩
  · rw [exec_coreTest, execCoreTest, State.regWrite_of_mayWrite s via _ _ _ _ findEntry_coreTest (by decide) hm v.isLt, if_pos hc]; rfl
  · simp [State.answerVia_log, State.startTest, testCores, hn]

theorem coreTestDone_completes (s : State) (failed : List (Fin 384)) (block : Nat) (ht : s.log.coreTest = 1) (hf : ∀ g ∈ failed, g.val ∈ s.log.coreNamed)
    (hb : block ≤ 5) (hz : block = 0 ↔ failed = []) :
    Completes (.coreTestDone failed block) s (fun u => u.log.coreTest = 2 ∧ u.log.coreResult = block ∧ u.log.coreFails = failed.map (fun g => g.val)) := by
  have hform : ¬(5 < block ∨ (block = 0 ↔ failed ≠ [])) := by
    by_cases h : failed = [] <;> simp [hz, h, hb]
  have hmay : (s.log.coreTest == 1 && (failed.map (fun g => g.val)).all (fun g => decide (g ∈ s.log.coreNamed))) = true := by simpa [ht] using hf
  refine completes_of_next (u := { s with log := { s.log with coreTest := 2, coreResult := block, coreFails := failed.map (fun g => g.val) } }) ?_ ⟨rfl, rfl, rfl⟩
  rw [exec_coreTestDone, execCoreTestDone]
  simp only [hform, if_false, hmay, when_true]

theorem testAccessWrite_completes (s : State) (via : Via) (hm : s.mayWrite via 0x5000 0 = true) :
    (s.rwaLocked = false → Completes (.testAccessWrite via 1) s (fun u => u.dget 0x5000 0 = 1)) ∧
    (s.rwaLocked = true → exec (.testAccessWrite via 1) s = .next (s.answerVia via 0x0A 0x5000 0)) ∧
    Completes (.testAccessWrite via 0) s (fun u => u.dget 0x5000 0 = 0) := by
  refine ⟨fun h => ⟨(s.dset 0x5000 0 1).answerVia via 0 0x5000 0, ?_, ?_⟩, fun h => ?_, ⟨(s.dset 0x5000 0 0).answerVia via 0 0x5000 0, ?_, ?_⟩⟩
  · simpa [h] using s.testAccessWrite_eq via 1 hm (by decide)
  · exact (State.answerVia_ok_dget ..).trans (State.dget_dset ..)
  · simpa [h] using s.testAccessWrite_eq via 1 hm (by decide)
  · simpa using s.testAccessWrite_eq via 0 hm (by decide)
  · exact (State.answerVia_ok_dget ..).trans (State.dget_dset ..)

theorem tapInstruction_completes (s : State) (hk : s.power.hkUp = true) (ops : PerDie TapOp) :
    Completes (.tapInstruction (ops.d0, ops.d1) (ops.d2, ops.d3)) s (fun u =>
      (∀ die : Fin 4, pget u.log.tapIr die = (if s.dget 0x5000 0 = 1 ∨ pget ops die ∈ [TapOp.idcode, .bypass, .sample] then pget ops die else .bypass)) ∧
      (s.dget 0x5000 0 = 1 → (∃ die : Fin 4, pget ops die = .extest) → u.boot.mode = .faulted) ∧
      (s.dget 0x5000 0 ≠ 1 → u.boot = s.boot) ∧
      ∃ d3 d2 d1 d0, u.out = .scan [d3, d2, d1, d0] :: s.out ∧
        (pget ops 0 = .idcode → d0 = some (32, s.idcode 0)) ∧ (pget ops 1 = .idcode → d1 = some (32, s.idcode 1)) ∧
        (pget ops 2 = .idcode → d2 = some (32, s.idcode 2)) ∧ (pget ops 3 = .idcode → d3 = some (32, s.idcode 3)) ∧
        (pget ops 0 = .bypass → d0 = some (1, 0)) ∧ (pget ops 3 = .bypass → d3 = some (1, 0))) := by
  refine completes_of_next (exec_tapInstruction_next s hk ops)
    ⟨fun die => ?_, fun h ⟨die, hx⟩ => s.tapAll_extest ops die (by rw [hx, State.tapEffective_eq]; simp [h]), fun h => s.tapAll_boot ops h, ?_⟩
  · rw [State.emit_log, s.tapAll_tapIr, pget_pmap, State.tapEffective_eq]
  · refine ⟨s.tapData 3 (s.tapEffective (pget ops 3)), s.tapData 2 (s.tapEffective (pget ops 2)), s.tapData 1 (s.tapEffective (pget ops 1)),
      s.tapData 0 (s.tapEffective (pget ops 0)), ?_, ?_⟩
    · rw [s.tapAll_scan, State.emit, s.tapAll_out]
    · refine ⟨?_, ?_, ?_, ?_, ?_, ?_⟩ <;> intro h <;> rw [h] <;> rfl

/-- Settles O50, clause by clause. -/
theorem logAndTest : Obligations.LogAndTest := by
  intro s
  refine ⟨fun r rest => logRecordArrival_completes s r rest, fun r rest => logProgram_completes s r rest, telemetry_completes s,
    coreTest_completes s, coreTestDone_completes s, testAccessWrite_completes s, fun hk => ⟨tapInstruction_completes s hk, ?_⟩⟩
  exact completes_of_next (u := { s with log := { s.log with tapIr := PerDie.all .idcode } }) (by rw [exec_testLogicReset, execTestLogicReset, hk, when_true]) ⟨rfl, rfl⟩

end Sys2Proof.Machine
end

section
/-! SUPPORT. The start sequence: what a phase's command leaves alone, the order in which the slots are tried, the links that begin to train, and the takeover of a leader. -/

namespace Sys2Proof.Machine

/-- A command that acts under a condition completes when the condition holds. -/
theorem completes_of_when {c : Instr} {s u : State} {b : Bool} {P : State → Prop} (hx : exec c s = when b s u) (hb : b = true) (hp : P u) :
    Completes c s P := completes_of_next (by rw [hx, hb, when_true]) hp

theorem tfind_foldl_tset {α : Type} (f : Nat → α) (l : List Nat) (t : Tab α) (k : Nat) (hk : k ∈ l) :
    tfind (l.foldl (fun t i => tset t i (f i)) t) k = some (f k) := by
  induction l using List.reverseRecOn with
  | nil => simp at hk
  | append_singleton l a ih =>
    rw [List.foldl_append, List.foldl_cons, List.foldl_nil]
    by_cases h : k = a
    · rw [h, tfind_tset_same]
    · rw [tfind_tset_other _ _ _ _ h]
      exact ih (by simpa [h] using hk)

/-! ### Phases -/

theorem State.atPhase_mode (s : State) (n : Nat) (h : s.atPhase n = true) : s.boot.mode = .starting := by
  simp only [State.atPhase, Bool.and_eq_true, beq_iff_eq] at h
  exact h.1.1.1

/-- Each of the eight replay counters takes its ceiling (R406). -/
theorem State.startReplay_replay (s : State) (i : Fin 8) : tfind s.startReplay.prot.replay i = some (tget 65536 s.fuse.ceilings i) :=
  tfind_foldl_tset _ _ _ _ (by simp)

@[simp] theorem State.toPhase_phase (s : State) (n : Nat) : (s.toPhase n).boot.phase = n := rfl
@[simp] theorem State.toPhase_mode (s : State) (n : Nat) : (s.toPhase n).boot.mode = s.boot.mode := rfl
@[simp] theorem State.toPhase_longs (s : State) (n : Nat) : (s.toPhase n).longs = s.longs := rfl
@[simp] theorem State.toPhase_cache (s : State) (n : Nat) : (s.toPhase n).cache = s.cache := rfl
@[simp] theorem State.toPhase_link (s : State) (n l : Nat) : (s.toPhase n).link l = s.link l := rfl

@[simp] theorem State.enterDim_mode (s : State) (reason : Nat) : (s.enterDim reason).boot.mode = .dim := rfl
@[simp] theorem State.enterDim_dimReason (s : State) (reason : Nat) : (s.enterDim reason).boot.dimReason = reason := rfl
@[simp] theorem State.enterDim_running (s : State) (reason : Nat) : (s.enterDim reason).boot.running = s.boot.running := rfl
@[simp] theorem State.enterDim_fuse (s : State) (reason : Nat) : (s.enterDim reason).fuse = s.fuse := rfl

/-! ### The slots that a start tries (R417) -/

@[simp] theorem State.noteVerdict_mode (s : State) (i v : Nat) : (s.noteVerdict i v).boot.mode = s.boot.mode := by
  unfold State.noteVerdict State.setFwSlot
  split <;> rfl
@[simp] theorem State.noteVerdict_failedStarts (s : State) (i v : Nat) : (s.noteVerdict i v).boot.failedStarts = s.boot.failedStarts := by
  unfold State.noteVerdict State.setFwSlot
  split <;> rfl

/-- Trying slots changes neither the mode nor the count of failed starts. -/
theorem State.trySlots_boot (s : State) (verdict : Nat → Nat) (l : List Nat) :
    (s.trySlots verdict l).1.boot.mode = s.boot.mode ∧ (s.trySlots verdict l).1.boot.failedStarts = s.boot.failedStarts := by
  induction l generalizing s with
  | nil => exact ⟨rfl, rfl⟩
  | cons i rest ih =>
    unfold State.trySlots
    dsimp only
    split
    · split <;> simp
    · split <;> simp [ih, State.bootEvent]

theorem State.trySlots_some (s : State) (verdict : Nat → Nat) (l : List Nat) (i : Nat) (h : (s.trySlots verdict l).2 = some i) : verdict i = 0x80 := by
  induction l generalizing s with
  | nil => cases h
  | cons j rest ih =>
    unfold State.trySlots at h
    dsimp only at h
    split at h
    · cases h; assumption
    · exact ih _ h

theorem State.trySlots_none (s : State) (verdict : Nat → Nat) (l : List Nat) (h : (s.trySlots verdict l).2 = none) : ∀ i ∈ l, verdict i ≠ 0x80 := by
  induction l generalizing s with
  | nil => simp
  | cons j rest ih =>
    unfold State.trySlots at h
    dsimp only at h
    split at h
    · cases h
    · exact List.forall_mem_cons.mpr ⟨by assumption, ih _ h⟩

theorem mem_addNew {α : Type} [DecidableEq α] (a b : α) (l : List α) : b ∈ addNew a l ↔ b = a ∨ b ∈ l := by
  unfold addNew
  split
  · rename_i h
    exact ⟨Or.inr, fun hb => hb.elim (fun e => e ▸ h) id⟩
  · rw [List.mem_append, List.mem_singleton, or_comm]

/-- Both slots are tried. -/
theorem State.mem_tryOrder (s : State) (i : Nat) (h : i < 2) : i ∈ s.tryOrder := by
  have hi : i = 0 ∨ i = 1 := by omega
  simp only [State.tryOrder, mem_addNew]
  tauto

@[simp] theorem State.measureImage_boot (s : State) (i : Nat) : (s.measureImage i).boot = s.boot := by simp [State.measureImage, State.measure]
@[simp] theorem State.measureFuses_boot (s : State) : s.measureFuses.boot = s.boot := by simp [State.measureFuses, State.measure]
@[simp] theorem State.measureConfig_boot (s : State) : s.measureConfig.boot = s.boot := by simp [State.measureConfig, State.measure]
@[simp] theorem State.measureKeys_boot (s : State) : s.measureKeys.boot = s.boot := by simp [State.measureKeys, State.measure]

/-- The verdict that a start gives slot i, with the checks of the two slots. -/
def State.startVerdict (s : State) (x y : ImageCheck) (i : Nat) : Nat := s.imageVerdict i (if i = 0 then x else y)

/-- No slot verifies: the boot ROM serves Dim mode. -/
theorem State.selectImage_none (s : State) (x y : ImageCheck) (h : ∀ i, s.startVerdict x y i ≠ 0x80) :
    (s.selectImage x y).boot.mode = .dim ∧ (s.selectImage x y).boot.dimReason = 0x01 ∧ (s.selectImage x y).boot.running = 255 := by
  unfold State.selectImage
  dsimp only
  split
  · simp
  · rename_i t i he
    exact absurd (s.trySlots_some (s.startVerdict x y) s.tryOrder i (congrArg Prod.snd he)) (h i)

/-- Slot A or B verifies: a slot that does runs, unless three starts have failed (R417, R425). -/
theorem State.selectImage_some (s : State) (x y : ImageCheck) (h : ∃ i, i < 2 ∧ s.startVerdict x y i = 0x80) :
    (s.boot.failedStarts < 3 → (s.selectImage x y).boot.phase = 3 ∧ (s.selectImage x y).boot.mode = s.boot.mode ∧
      s.startVerdict x y (s.selectImage x y).boot.running = 0x80) ∧
    (3 ≤ s.boot.failedStarts → (s.selectImage x y).boot.mode = .dim ∧ (s.selectImage x y).boot.dimReason = 0x02) := by
  unfold State.selectImage
  dsimp only
  split
  · rename_i t he
    obtain ⟨i, hi, hv⟩ := h
    exact absurd hv (s.trySlots_none (s.startVerdict x y) s.tryOrder (congrArg Prod.snd he) i (s.mem_tryOrder i hi))
  · rename_i t i he
    have hv : s.startVerdict x y i = 0x80 := s.trySlots_some (s.startVerdict x y) s.tryOrder i (congrArg Prod.snd he)
    obtain ⟨hm, hf⟩ := s.trySlots_boot (s.startVerdict x y) s.tryOrder
    replace hm : t.boot.mode = s.boot.mode := by rw [← hm]; exact congrArg (fun p => p.1.boot.mode) he.symm
    replace hf : t.boot.failedStarts = s.boot.failedStarts := by rw [← hf]; exact congrArg (fun p => p.1.boot.failedStarts) he.symm
    constructor
    · intro h3
      have : ¬ 3 ≤ s.boot.failedStarts := by omega
      simp [hf, this, State.toPhase, hm, hv]
    · intro h3
      simp [hf, h3]

/-! ### Clocks, cores and links -/

theorem State.reviewLock_keeps (s : State) :
    s.reviewLock.time.counting = s.time.counting ∧ s.reviewLock.time.sdt = s.time.sdt ∧ s.reviewLock.clk = s.clk := by
  unfold State.reviewLock
  repeat' split
  all_goals simp

@[simp] theorem State.inherit_boot (s : State) (d n : Nat) : (s.inherit d n).boot = s.boot := by
  unfold State.inherit
  split <;> rfl
@[simp] theorem State.retireOn_boot (s : State) (d : Nat) (failed : List Nat) : (s.retireOn d failed).boot = s.boot :=
  State.foldl_keeps State.boot _ (fun t n => t.inherit_boot d n) _ _

/-- The state in which a link begins a start (R423). -/
def State.firstLinkState (s : State) (l : Nat) : LinkSt :=
  if !pmEnable (s.portMap l) then .disabled else if s.ethRole l then .ethTraining else .detect

/-- Training starts on one link. -/
def State.trainLink (s : State) (l : Nat) : State := s.setLink l { s.link l with state := s.firstLinkState l }

theorem State.trainLinks_eq (s : State) : s.trainLinks = (List.range 36).foldl State.trainLink s := rfl

theorem State.trainLink_firstLinkState (s : State) (l k : Nat) : (s.trainLink l).firstLinkState k = s.firstLinkState k := rfl

theorem State.link_foldl_trainLink (l : List Nat) (s : State) (k : Nat) (hk : k ∈ l) :
    ((l.foldl State.trainLink s).link k).state = s.firstLinkState k := by
  induction l using List.reverseRecOn with
  | nil => simp at hk
  | append_singleton l a ih =>
    rw [List.foldl_append, List.foldl_cons, List.foldl_nil]
    have hs : (l.foldl State.trainLink s).firstLinkState k = s.firstLinkState k :=
      State.foldl_keeps (fun t => t.firstLinkState k) _ (fun t i => t.trainLink_firstLinkState i k) l s
    by_cases h : k = a
    · subst h
      rw [State.trainLink, State.link_setLink]
      exact hs
    · rw [State.trainLink, State.link_setLink_other _ _ _ _ h]
      exact ih (by simpa [h] using hk)

/-! ### Reset and takeover -/

theorem State.flushLog_boot (s : State) : s.flushLog.boot = s.boot := by
  have hp (l : List LogRec) (t : State) : (l.foldl State.programRec t).boot = t.boot := State.foldl_keeps State.boot State.programRec (fun _ _ => rfl) l t
  have he (l : List LogRec) (t : State) : (l.foldl State.enqueueRec t).boot = t.boot := State.foldl_keeps State.boot State.enqueueRec (fun _ _ => rfl) l t
  simp [State.flushLog, hp, he]

/-- A start has no work to stop. -/
theorem State.cleanStop_starting (s : State) (h : s.boot.mode = .starting) : s.cleanStop = s := by simp [State.cleanStop, h]

theorem State.resetTo_boot (s : State) (cause : Nat) (lost : Bool) (h : s.boot.inReset = false) :
    (s.resetTo cause lost).boot.lastFailedPhase = s.boot.lastFailedPhase ∧ (s.resetTo cause lost).boot.failedStarts = s.boot.failedStarts ∧
    (s.resetTo cause lost).boot.inReset = true ∧ (s.resetTo cause lost).boot.lastCause = cause := by
  simp [State.resetTo, State.takeId, h]

/-- What a takeover leaves of a segment record: its holder and entry, and the note of each buffer that was lost (R395). -/
def ProtSeg.leaderLost (g : ProtSeg) : ProtSeg :=
  { g with snapshot := none, staging := none, snapLost := g.snapLost || g.snapshot.isSome, stageLost := g.stageLost || g.staging.isSome }

theorem State.changeLeader_segs (s : State) : s.changeLeader.prot.segs = s.prot.segs.map ProtSeg.leaderLost := by
  unfold State.changeLeader State.loseLodestar
  dsimp only
  split <;> rfl

theorem State.changeLeader_keeps (s : State) : s.changeLeader.boot.leader = 2 - s.boot.leader ∧ s.changeLeader.boot.heartAt = s.sdt ∧
    s.changeLeader.alm = s.alm ∧ s.changeLeader.mem = s.mem ∧ s.changeLeader.host.p0 = s.host.p0.leaderLost ∧ s.changeLeader.host.p1 = s.host.p1.leaderLost := by
  unfold State.changeLeader State.loseLodestar
  dsimp only
  split <;> exact ⟨rfl, rfl, rfl, rfl, rfl, rfl⟩

/-! ### The obligation, phase by phase -/

theorem packageResetRelease_completes (s : State) (hr : s.boot.inReset = true) (hk : s.power.hkUp = true) (hs : s.power.supply ≠ .reset)
    (hv : s.power.reversed = false) :
    Completes .packageResetRelease s (fun u => u.boot.inReset = false ∧ u.boot.mode = .starting ∧ u.boot.phase = 1 ∧ u.power.cutoffLatch = false ∧ u.mem = s.mem ∧
      ∀ i : Fin 8, u.replay i = tget 65536 s.fuse.ceilings i) := by
  refine completes_of_when (exec_packageResetRelease s) (by simp [hr, hk, hs, hv]) ?_
  have hi (u : State) (hu : u.prot = s.startReplay.prot) (i : Fin 8) : u.replay i = tget 65536 s.fuse.ceilings i := by
    simp only [State.replay, hu, s.startReplay_replay i]
  split <;> exact ⟨by simp, by simp, by simp, by simp, by simp, hi _ (by simp)⟩

theorem romPhaseDone_completes (s : State) (ok0 ok2 : Bool) (h : s.atPhase 1 = true) (hok : ok0 = true ∨ ok2 = true) :
    Completes (.romPhaseDone ok0 ok2) s (fun u => u.boot.phase = 2 ∧ u.boot.leader = (if ok0 = true then 0 else 2) ∧ u.boot.lodestar0 = ok0 ∧ u.boot.lodestar2 = ok2) :=
  completes_of_when (exec_romPhaseDone ok0 ok2 s) (by simp [h, hok]) ⟨rfl, rfl, rfl, rfl⟩

theorem imagePhaseDone_completes (s : State) (x y : ImageCheck) (h : s.atPhase 2 = true) :
    ((∀ i, s.imageVerdict i (if i = 0 then x else y) ≠ 0x80) → Completes (.imagePhaseDone x y) s (fun u => u.boot.mode = .dim ∧ u.boot.dimReason = 0x01 ∧ u.boot.running = 255)) ∧
    ((∃ i, i < 2 ∧ s.imageVerdict i (if i = 0 then x else y) = 0x80) →
      (s.boot.failedStarts < 3 → Completes (.imagePhaseDone x y) s (fun u => u.boot.phase = 3 ∧ u.boot.mode = .starting ∧ s.imageVerdict u.boot.running (if u.boot.running = 0 then x else y) = 0x80)) ∧
      (3 ≤ s.boot.failedStarts → Completes (.imagePhaseDone x y) s (fun u => u.boot.mode = .dim ∧ u.boot.dimReason = 0x02))) := by
  refine ⟨fun hn => completes_of_when (exec_imagePhaseDone x y s) h (s.selectImage_none x y hn), fun hy => ?_⟩
  obtain ⟨hrun, hdim⟩ := s.selectImage_some x y hy
  refine ⟨fun hf => completes_of_when (exec_imagePhaseDone x y s) h ?_, fun hf => completes_of_when (exec_imagePhaseDone x y s) h (hdim hf)⟩
  obtain ⟨hp, hm, hv⟩ := hrun hf
  exact ⟨hp, hm.trans (s.atPhase_mode 2 h), hv⟩

theorem clocksPhaseDone_completes (s : State) (good : Bool) (h : s.atPhase 4 = true) (hl : s.pllsLocked = true) :
    Completes (.clocksPhaseDone good) s (fun u => u.boot.phase = 5 ∧ u.time.counting = true ∧
      u.clk.refSource = (if good = true then 0 else 1) ∧ ∀ d : Fin 4, pget u.time.sdt d = 0) := by
  refine completes_of_when (exec_clocksPhaseDone good s) (by simp [h, hl]) ?_
  obtain ⟨hc, hs, hk⟩ := State.reviewLock_keeps { s with clk := { s.clk with refSource := ofBool (!good) }, time := { counting := true, boundaryOpen := true } }
  refine ⟨rfl, hc, (congrArg ClkState.refSource hk).trans (by cases good <;> rfl), fun d => ?_⟩
  exact (congrArg (fun p => pget p d) hs).trans (pget_all _ _)

theorem pairingPhaseDone_completes (s : State) (h : s.atPhase 5 = true) :
    (∀ code, s.pair = .error code → Completes .pairingPhaseDone s (fun u => u.boot.mode = .dim ∧ u.boot.dimReason = code ∧ u.fuse.pairing = 2)) ∧
    (∀ level result, s.pair = .ok (level, result) → Completes .pairingPhaseDone s (fun u => u.boot.phase = 6 ∧ u.fuse.featureLevel = level ∧ u.fuse.pairing = result)) := by
  refine ⟨fun code hp => completes_of_when (exec_pairingPhaseDone s) h ?_, fun level result hp => completes_of_when (exec_pairingPhaseDone s) h ?_⟩
  · simp [hp]
  · simp only [hp]
    split <;> simp [State.toPhase]

theorem State.place_congr {s t : State} (h : t.longs = s.longs) (a : Nat) : t.place a = s.place a := by
  have hp (q : Nat) : t.packageWide q = s.packageWide q := by simp only [State.packageWide, State.lget, h]
  simp only [State.place, hp]

/-- What a read returns depends on memory, on the hidden writes and on the interleave alone. -/
theorem State.byte_congr {s t : State} (hl : t.longs = s.longs) (hh : t.cache.hiddenWrites = s.cache.hiddenWrites) (a : Nat)
    (hm : t.mem.get (s.place a) = s.mem.get (s.place a)) : t.byte a = s.byte a := by
  simp only [State.byte, State.place_congr hl, hh, hm]

theorem exec_sramPhaseDone_eq (s : State) :
    exec .sramPhaseDone s = when (s.atPhase 6) s (({ s.takeId.2 with mem := s.mem.dropSram s.alm.nextId } : State).toPhase 7) := by
  rw [exec_sramPhaseDone]; rfl

theorem sramPhaseDone_completes (s : State) (h : s.atPhase 6 = true) :
    Completes .sramPhaseDone s (fun u => u.boot.phase = 7 ∧ ∀ a, s.place a < 0x30000000000 → u.byte a = s.byte a) := by
  exact completes_of_when (exec_sramPhaseDone_eq s) h
    ⟨rfl, fun a ha => State.byte_congr (by simp) (by simp) a (Memory.get_dropSram_below s.mem s.alm.nextId (s.place a) ha)⟩

/-- The retirements of a start on every die, with the cores that fail on each. -/
def State.retireAll (s : State) (failed : Nat → List Nat) : State := (List.range 4).foldl (fun s d => s.retireOn d (failed d)) s

theorem State.retireAll_boot (s : State) (failed : Nat → List Nat) : (s.retireAll failed).boot = s.boot :=
  State.foldl_keeps State.boot (fun s d => s.retireOn d (failed d)) (fun t d => t.retireOn_boot d _) _ s

/-- The cores of a die that fail. -/
def failedOn (failed : List (Fin 4 × Nat)) (d : Nat) : List Nat := (failed.filter (fun p => p.1.val == d)).map (fun p => p.2)

theorem exec_coresPhaseDone_eq (s : State) (failed : List (Fin 4 × Nat)) : exec (.coresPhaseDone failed) s = when (s.atPhase 7) s
    (if (List.range 4).any (fun d => decide (s.goodCores d (failedOn failed d) < 96)) then (s.retireAll (failedOn failed)).enterDim 0x23
      else (s.retireAll (failedOn failed)).toPhase 8) := by
  rw [exec_coresPhaseDone]; rfl

theorem coresPhaseDone_completes (s : State) (h : s.atPhase 7 = true) (failed : List (Fin 4 × Nat)) :
    ((∃ d : Fin 4, s.goodCores d ((failed.filter (fun p => p.1.val == d.val)).map (fun p => p.2)) < 96) →
      Completes (.coresPhaseDone failed) s (fun u => u.boot.mode = .dim ∧ u.boot.dimReason = 0x23)) ∧
    ((∀ d : Fin 4, 96 ≤ s.goodCores d ((failed.filter (fun p => p.1.val == d.val)).map (fun p => p.2))) →
      Completes (.coresPhaseDone failed) s (fun u => u.boot.phase = 8 ∧ u.boot.mode = .starting)) := by
  refine ⟨fun ⟨d, hd⟩ => completes_of_when (exec_coresPhaseDone_eq s failed) h ?_, fun hg => completes_of_when (exec_coresPhaseDone_eq s failed) h ?_⟩
  · rw [if_pos (List.any_eq_true.mpr ⟨d.val, List.mem_range.mpr d.isLt, decide_eq_true hd⟩)]
    exact ⟨rfl, rfl⟩
  · rw [if_neg]
    · exact ⟨rfl, by rw [State.toPhase_mode, State.retireAll_boot, s.atPhase_mode 7 h]⟩
    · intro hx
      obtain ⟨d, hm, hd⟩ := List.any_eq_true.mp hx
      exact absurd (of_decide_eq_true hd) (by have := hg ⟨d, List.mem_range.mp hm⟩; exact Nat.not_lt.mpr this)

/-- Zeroed Slate and Thatch read zero (R423). -/
theorem Memory.get_fresh (tag a : Nat) (h : region a = .slate ∨ region a = .thatch) : Memory.get ⟨[], none, tag, []⟩ a = 0 := by
  rcases h with h | h <;> simp [Memory.get, findCell, Memory.unlisted, staleTag, h]

theorem exec_memoryPhaseDone_eq (s : State) :
    exec .memoryPhaseDone s = when (s.atPhase 8) s ((if s.boot.memLost then
      { s.takeId.2 with mem := ⟨[], none, s.alm.nextId, []⟩, cache := { s.cache with poison := [] }, boot := { s.boot with memLost := false } } else s).toPhase 9) := by
  rw [exec_memoryPhaseDone]; rfl

theorem memoryPhaseDone_completes (s : State) (h : s.atPhase 8 = true) :
    (s.boot.memLost = true → Completes .memoryPhaseDone s (fun u => u.boot.phase = 9 ∧ u.boot.memLost = false ∧ u.cache.poison = [] ∧
      ∀ a, (region a = .slate ∨ region a = .thatch) → u.mem.get a = 0)) ∧
    (s.boot.memLost = false → Completes .memoryPhaseDone s (fun u => u.boot.phase = 9 ∧ u.mem = s.mem)) := by
  refine ⟨fun hl => completes_of_when (exec_memoryPhaseDone_eq s) h ?_, fun hl => completes_of_when (exec_memoryPhaseDone_eq s) h ?_⟩
  · rw [if_pos hl]
    exact ⟨rfl, rfl, rfl, fun a ha => Memory.get_fresh s.alm.nextId a ha⟩
  · rw [hl]
    exact ⟨rfl, rfl⟩

theorem linksPhaseDone_completes (s : State) (h : s.atPhase 10 = true) :
    Completes .linksPhaseDone s (fun u => u.boot.phase = 11 ∧ ∀ l : Fin 36, (u.link l).state =
      (if pmEnable (s.portMap l) = false then .disabled else if s.ethRole l = true then .ethTraining else .detect)) := by
  refine completes_of_when (exec_linksPhaseDone s) h ⟨rfl, fun l => ?_⟩
  have hl := State.link_foldl_trainLink (List.range 36) s l (List.mem_range.mpr l.isLt)
  rw [State.toPhase_link, s.trainLinks_eq, hl]
  simp [State.firstLinkState]

theorem dictionaryPhaseDone_completes (s : State) (h : s.atPhase 11 = true) :
    Completes .dictionaryPhaseDone s (fun u => u.boot.mode = .ready ∧ u.boot.failedStarts = 0 ∧ u.boot.preferred = s.boot.running ∧
      u.boot.bootCount = (s.boot.bootCount + 1) % 2 ^ 32) := by
  refine completes_of_when (exec_dictionaryPhaseDone s) h ?_
  simp [State.startComplete, State.bootEvent]

theorem startFailed_completes (s : State) (hm : s.boot.mode = .starting) (hr : s.boot.inReset = false) (hk : s.power.hkUp = true) :
    Completes .startFailed s (fun u => u.boot.lastFailedPhase = s.boot.phase ∧ u.boot.failedStarts = min 255 (s.boot.failedStarts + 1) ∧ u.boot.inReset = true ∧ u.boot.lastCause = 0x06) := by
  refine completes_of_when (exec_startFailed s) (by simp [hm, hr, hk]) ?_
  have hc : (s.failStart s.boot.phase).cleanStop = s.failStart s.boot.phase := State.cleanStop_starting _ hm
  have hb : (s.failStart s.boot.phase).cleanStop.flushLog.boot = (s.failStart s.boot.phase).boot := by rw [hc, State.flushLog_boot]
  obtain ⟨h1, h2, h3, h4⟩ := State.resetTo_boot (s.failStart s.boot.phase).cleanStop.flushLog 0x06 false (by rw [hb]; exact hr)
  rw [hb] at h1 h2
  exact ⟨h1, h2, h3, h4⟩

theorem leaderChange_completes (s : State) (hs : s.standbyReady = true) (hm : s.heartbeatsMissed = true) :
    Completes .leaderChange s (fun u => u.boot.leader = 2 - s.boot.leader ∧ u.boot.heartAt = s.sdt ∧ u.alm = s.alm ∧ u.mem = s.mem ∧
      (∀ g ∈ u.prot.segs, g.snapshot = none ∧ g.staging = none) ∧
      (∀ g ∈ s.prot.segs, ∃ h ∈ u.prot.segs, h.holder = g.holder ∧ h.index = g.index ∧ h.sub = g.sub ∧
        (g.snapshot ≠ none → h.snapLost = true) ∧ (g.staging ≠ none → h.stageLost = true)) ∧
      u.host.p0.segSnap = none ∧ u.host.p0.segStage = none ∧ u.host.p1.segSnap = none ∧ u.host.p1.segStage = none) := by
  refine completes_of_when (exec_leaderChange s) (by simp [hs, hm]) ?_
  obtain ⟨hl, hh, ha, hmem, h0, h1⟩ := s.changeLeader_keeps
  simp only [s.changeLeader_segs, h0, h1]
  refine ⟨hl, hh, ha, hmem, ?_, fun g hg => ⟨g.leaderLost, List.mem_map_of_mem hg, rfl, rfl, rfl, ?_, ?_⟩, rfl, rfl, rfl, rfl⟩
  · simp [ProtSeg.leaderLost]
  · intro h; simp [ProtSeg.leaderLost, Option.isSome_iff_ne_none.mpr h]
  · intro h; simp [ProtSeg.leaderLost, Option.isSome_iff_ne_none.mpr h]

/-- Settles O43, phase by phase. -/
theorem startSequence : Obligations.StartSequence := by
  intro s
  refine ⟨packageResetRelease_completes s, romPhaseDone_completes s, imagePhaseDone_completes s,
    fun h => completes_of_when (exec_powerPhaseDone s) h ⟨rfl, rfl, rfl⟩, fun h hl good => clocksPhaseDone_completes s good h hl,
    pairingPhaseDone_completes s, sramPhaseDone_completes s, coresPhaseDone_completes s, memoryPhaseDone_completes s,
    fun h => completes_of_when (exec_firmwareLoadPhaseDone s) h ⟨rfl, rfl⟩, linksPhaseDone_completes s, dictionaryPhaseDone_completes s,
    startFailed_completes s, fun hr hl => ?_, leaderChange_completes s⟩
  rw [exec_leaderHeartbeat, execLeaderHeartbeat, hr, hl]
  rfl

end Sys2Proof.Machine
end

section
/-! SUPPORT. The flit layer: which operations leave the expected sequence numbers alone, flits discarded and accepted, replays, the fenced state, and the Seams and Ridges. -/

namespace Sys2Proof.Machine

/-! ### Links, quiet and counters -/

/-- The links are those of the fabric's state. -/
theorem State.link_of_fab {s t : State} (h : t.fab = s.fab) (j : Nat) : t.link j = s.link j := by rw [State.link, h, State.link]

@[simp] theorem State.link_emit (s : State) (o : Out) (j : Nat) : (s.emit o).link j = s.link j := rfl
@[simp] theorem State.link_dadd (s : State) (i k n j : Nat) : (s.dadd i k n).link j = s.link j := State.link_of_fab (s.dadd_fab ..) j

theorem State.quiet_congr {s t : State} (hb : t.boot = s.boot) (hf : t.fab.fenced = s.fab.fenced) (hp : t.power = s.power) : t.quiet = s.quiet := by
  simp only [State.quiet, hb, hf, hp]

/-- A counter of 8 bytes wraps at 2^64 (log 22). -/
theorem State.dget_dadd_of_size (s : State) (i j n : Nat) (h : (findEntry i j).map Entry.size = some 8) :
    (s.dadd i j n).dget i j = (s.dget i j + n) % 2 ^ 64 := by
  obtain ⟨e, he, hz⟩ := Option.map_eq_some_iff.mp h
  simp [State.dadd, he, hz]

theorem linkReplays_size : ∀ l : Fin 36, (findEntry 0x3700 (l + 1)).map Entry.size = some 8 := by decide +kernel
theorem seamReplays_size : ∀ k : Fin 4, (findEntry 0x3010 (k + 1)).map Entry.size = some 8 := by decide +kernel

theorem tget_terase_same {α : Type} (d : α) (t : Tab α) (k : Nat) : tget d (terase t k) k = d := by
  induction t with
  | nil => rfl
  | cons p t ih =>
    obtain ⟨i, v⟩ := p
    unfold terase at ih ⊢
    by_cases h : i = k
    · simp [h, ih]
    · simp [h, tget, ih, Ne.symm h]

/-! ### Sequence numbers that only an accepted flit raises -/

/-- A link put back with its expected sequence number as it was leaves those of all links alone. -/
theorem State.setLink_rxSeq (s : State) (l : Nat) (k : Link) (j : Nat) (h : k.rxSeq = (s.link l).rxSeq) :
    ((s.setLink l k).link j).rxSeq = (s.link j).rxSeq := by
  by_cases hj : j = l
  · rw [hj, State.link_setLink, h]
  · rw [State.link_setLink_other _ _ _ _ hj]

/-- Both branches leave the number that link j expects alone. -/
theorem State.ite_rxSeq {c : Prop} [Decidable c] {s a b : State} {j : Nat} (ha : (a.link j).rxSeq = (s.link j).rxSeq) (hb : (b.link j).rxSeq = (s.link j).rxSeq) :
    ((if c then a else b).link j).rxSeq = (s.link j).rxSeq := by
  split <;> assumption

@[simp] theorem State.sendControl_rxSeq (s : State) (l : Nat) (nak : Bool) (j : Nat) : ((s.sendControl l nak).link j).rxSeq = (s.link j).rxSeq := by
  unfold State.sendControl
  split <;> rfl

@[simp] theorem State.freeFlits_rxSeq (s : State) (l vc n j : Nat) : ((s.freeFlits l vc n).link j).rxSeq = (s.link j).rxSeq := by
  unfold State.freeFlits
  split
  · rfl
  · exact (State.sendControl_rxSeq ..).trans (State.setLink_rxSeq _ _ _ _ rfl)

@[simp] theorem sendFlit_rxSeq (s : State) (l j : Nat) : ((sendFlit s l).link j).rxSeq = (s.link j).rxSeq := by
  have hk (k : Link) (o : Out) (hk : k.rxSeq = (s.link l).rxSeq) : (((s.setLink l k).emit o).link j).rxSeq = (s.link j).rxSeq :=
    State.setLink_rxSeq s l k j hk
  unfold sendFlit
  dsimp only
  split
  · rfl
  · split
    · rfl
    · split
      · rfl
      · exact State.ite_rxSeq ((State.freeFlits_rxSeq ..).trans (hk _ _ rfl)) (hk _ _ rfl)

@[simp] theorem pumpLink_rxSeq (l n : Nat) (s : State) (j : Nat) : ((pumpLink l n s).link j).rxSeq = (s.link j).rxSeq := by
  induction n generalizing s with
  | zero => rfl
  | succ n ih => rw [pumpLink, ih, sendFlit_rxSeq]

@[simp] theorem State.pump_rxSeq (s : State) (l j : Nat) : ((s.pump l).link j).rxSeq = (s.link j).rxSeq := by
  unfold State.pump
  split
  · rfl
  · exact pumpLink_rxSeq ..

@[simp] theorem State.enqueue_rxSeq (s : State) (l vc : Nat) (half : Bool) (bytes : Bytes) (inLink inFlits j : Nat) :
    ((s.enqueue l vc half bytes inLink inFlits).link j).rxSeq = (s.link j).rxSeq :=
  (State.pump_rxSeq ..).trans (State.setLink_rxSeq _ _ _ _ rfl)

@[simp] theorem State.deliver_rxSeq (s : State) (r : RxFrame) (j : Nat) : ((s.deliver r).link j).rxSeq = (s.link j).rxSeq := by
  unfold State.deliver
  dsimp only
  split
  · simp
  · split
    · simp
    · rfl

@[simp] theorem State.forward_rxSeq (s : State) (f : Frame) (key inLink : Nat) (inHalf : Bool) (inFlits j : Nat) :
    ((s.forward f key inLink inHalf inFlits).link j).rxSeq = (s.link j).rxSeq := by
  unfold State.forward
  split
  · simp
  · refine State.ite_rxSeq rfl (State.ite_rxSeq (State.deliver_rxSeq ..) (State.ite_rxSeq ?_ ?_))
    · exact State.freeFlits_rxSeq ..
    · refine (State.enqueue_rxSeq ..).trans ?_
      split <;> rfl

@[simp] theorem State.frameArrived_rxSeq (s : State) (l vc : Nat) (p : RxPart) (j : Nat) : ((s.frameArrived l vc p).link j).rxSeq = (s.link j).rxSeq := by
  unfold State.frameArrived
  dsimp only
  repeat' split
  all_goals simp

@[simp] theorem State.takePayload_rxSeq (s : State) (l x j : Nat) : ((s.takePayload l x).link j).rxSeq = (s.link j).rxSeq := by
  have hset (t : State) (k : Link) (ht : (t.link j).rxSeq = (s.link j).rxSeq) (hk : k.rxSeq = (t.link l).rxSeq) :
      ((t.setLink l k).link j).rxSeq = (s.link j).rxSeq := (State.setLink_rxSeq t l k j hk).trans ht
  have hlost (n : Nat) : ((if n = 0 then s else s.freeFlits l (flitVc x) n).link j).rxSeq = (s.link j).rxSeq := by
    split
    · rfl
    · exact State.freeFlits_rxSeq ..
  unfold State.takePayload
  dsimp only
  split
  · exact hlost _
  · split
    · exact (State.frameArrived_rxSeq ..).trans (hset _ _ (hlost _) rfl)
    · exact hset _ _ (hlost _) rfl

theorem Link.acked_rxSeq (k : Link) (ack now : Nat) : (k.acked ack now).rxSeq = k.rxSeq := by
  unfold Link.acked
  split <;> rfl

/-! ### Flits received (R315, R317) -/

/-- What a flit accepted in order leaves expected. -/
theorem State.acceptFlit_rxSeq (s : State) (l x : Nat) : ((s.acceptFlit l x).link l).rxSeq = ((s.link l).rxSeq + 1) % 4096 := by
  simp [State.acceptFlit, Link.acked_rxSeq]

/-- A discarded flit leaves a NAK sent, nothing delivered and the same flit expected. -/
theorem State.discardFlit_link (s : State) (l : Nat) :
    ((s.discardFlit l).link l).rxSeq = (s.link l).rxSeq ∧ ((s.discardFlit l).link l).nakSent = true ∧ (s.discardFlit l).fab.inbox = s.fab.inbox := by
  unfold State.discardFlit
  dsimp only
  split
  · exact ⟨rfl, ‹_›, rfl⟩
  · have hf : ((s.setLink l { s.link l with nakSent := true }).sendControl l true).fab = (s.setLink l { s.link l with nakSent := true }).fab := by
      unfold State.sendControl
      split <;> rfl
    rw [State.link_of_fab hf, State.link_setLink, hf]
    exact ⟨rfl, rfl, rfl⟩

/-- Corrected symbols change a link's FEC counts alone. -/
theorem State.fecCorrected_keeps (s : State) (l n : Nat) : ((s.fecCorrected l n).link l).rxSeq = (s.link l).rxSeq ∧
    ((s.fecCorrected l n).link l).state = (s.link l).state ∧ (s.fecCorrected l n).quiet = s.quiet ∧ (s.fecCorrected l n).fab.inbox = s.fab.inbox := by
  unfold State.fecCorrected
  split
  · exact ⟨rfl, rfl, rfl, rfl⟩
  · dsimp only
    refine ⟨by simp, by simp, State.quiet_congr (by simp) ?_ (by simp), ?_⟩ <;> simp [State.setLink]

theorem Link.trained_congr {k k' : Link} (h : k'.state = k.state) : k'.trained = k.trained := by simp only [Link.trained, h]

/-- A flit that an ACTIVE or FENCED link of a package that is not quiet takes. -/
theorem exec_flitReceived_taken (s : State) (l : Fin 36) (x : BitVec 1600) (fec : Nat) (ht : (s.link l).trained = true) (hq : s.quiet = false)
    (hty : flitType x.toNat ≠ 0) (hst : (s.link l).state ∈ [LinkSt.active, .fenced]) :
    exec (.flitReceived l ⟨x, fec⟩) s = .next
      (if !flitCrcOk x.toNat then (s.fecCorrected l fec).discardFlit l
      else if flitType x.toNat = 3 ∨ 5 ≤ flitVc x.toNat then s.fecCorrected l fec
      else if flitSeq x.toNat ≠ (s.link l).rxSeq then (s.fecCorrected l fec).discardFlit l
      else (s.fecCorrected l fec).acceptFlit l x.toNat) := by
  obtain ⟨hr, hs, hqt, -⟩ := s.fecCorrected_keeps l fec
  have htaken : ((s.fecCorrected l fec).quiet || !((s.link l).state == .active || (s.link l).state == .fenced)) = false := by
    rw [hqt, hq]
    simpa [or_iff_not_imp_left] using hst
  rw [exec_flitReceived, execFlitReceived]
  simp only [hty, if_false, Link.trained_congr hs, ht, when_true, hs, htaken, hr, Bool.false_eq_true]

theorem flitReceived_discarded (s : State) (l : Fin 36) (x : BitVec 1600) (fec : Nat) (ht : (s.link l).trained = true) (hq : s.quiet = false)
    (hty : flitType x.toNat ≠ 0) (hst : (s.link l).state ∈ [LinkSt.active, .fenced])
    (hbad : flitCrcOk x.toNat = false ∨ (flitType x.toNat ≠ 3 ∧ flitVc x.toNat < 5 ∧ flitSeq x.toNat ≠ (s.link l).rxSeq)) :
    Completes (.flitReceived l ⟨x, fec⟩) s (fun u => (u.link l).rxSeq = (s.link l).rxSeq ∧ (u.link l).nakSent = true ∧ u.fab.inbox = s.fab.inbox) := by
  obtain ⟨hr, -, -, hi⟩ := s.fecCorrected_keeps l fec
  obtain ⟨dr, dn, di⟩ := (s.fecCorrected l fec).discardFlit_link l
  refine completes_of_next (u := (s.fecCorrected l fec).discardFlit l) ?_ ⟨dr.trans hr, dn, di.trans hi⟩
  rw [exec_flitReceived_taken s l x fec ht hq hty hst]
  by_cases hc : flitCrcOk x.toNat = true
  · obtain ⟨h3, hv, hs⟩ := hbad.resolve_left (by simp [hc])
    have hok : ¬(flitType x.toNat = 3 ∨ 5 ≤ flitVc x.toNat) := by omega
    simp only [hc, hok, hs, Bool.not_true, Bool.false_eq_true, if_false, ne_eq, not_false_eq_true, if_true]
  · simp only [hc, Bool.not_false, if_true]

theorem flitReceived_accepted (s : State) (l : Fin 36) (x : BitVec 1600) (fec : Nat) (ht : (s.link l).trained = true) (hq : s.quiet = false)
    (hty : flitType x.toNat ≠ 0) (hst : (s.link l).state ∈ [LinkSt.active, .fenced]) (hc : flitCrcOk x.toNat = true) (h3 : flitType x.toNat ≠ 3)
    (hv : flitVc x.toNat < 5) (hs : flitSeq x.toNat = (s.link l).rxSeq) :
    Completes (.flitReceived l ⟨x, fec⟩) s (fun u => (u.link l).rxSeq = ((s.link l).rxSeq + 1) % 4096) := by
  obtain ⟨hr, -, -, -⟩ := s.fecCorrected_keeps l fec
  refine completes_of_next (u := (s.fecCorrected l fec).acceptFlit l x.toNat) ?_ (by rw [State.acceptFlit_rxSeq, hr])
  have hok : ¬(flitType x.toNat = 3 ∨ 5 ≤ flitVc x.toNat) := by omega
  rw [exec_flitReceived_taken s l x fec ht hq hty hst]
  simp only [hc, hok, hs, Bool.not_true, Bool.false_eq_true, if_false, ne_eq, not_true_eq_false]

/-! ### Control flits and replays (R316, R317) -/

theorem controlFlit_taken (s : State) (l : Fin 36) (x : BitVec 1600) (ht : (s.link l).trained = true) (hq : s.quiet = false)
    (hty : flitType x.toNat = 0) (hc : flitCrcOk x.toNat = true) (ha : (s.link l).state = .active) :
    (field x.toNat 1480 8 ≠ 1 → exec (.creditUpdate l x) s = .next (s.takeCredits l x.toNat)) ∧
    (field x.toNat 1480 8 = 1 → exec (.nak l x) s = .next ((s.takeCredits l x.toNat).resend l)) := by
  constructor
  · intro hn
    rw [exec_creditUpdate, execCreditUpdate]
    simp [hty, hn, ht, hc, hq, ha]
  · intro hn
    rw [exec_nak, execNak]
    simp [hty, hn, ht, hc, hq, ha]

theorem State.foldl_emit_out {α : Type} (f : α → Out) (l : List α) (s : State) : (l.foldl (fun s p => s.emit (f p)) s).out.length = s.out.length + l.length := by
  induction l generalizing s with
  | nil => rfl
  | cons p l ih => rw [List.foldl_cons, ih, State.emit]; simp; omega

/-- The replay timer: every outstanding flit is sent again, and the sixteenth time a retrain is due (R317). -/
theorem replayTimeout_completes (s : State) (l : Fin 36) (hq : s.quiet = false) (ha : (s.link l).state = .active) (hr : (s.link l).replay ≠ [])
    (hd : (s.link l).retrainDue = false) (he : s.elapsed (s.link l).progress 3200 = true) :
    Completes (.replayTimeout l) s (fun u => (u.link l).progress = s.sdt ∧ (u.link l).resends = (s.link l).resends + 1 ∧ (u.link l).retrainDue = decide (15 ≤ (s.link l).resends) ∧
      (u.link l).replay = (s.link l).replay ∧ u.out.length = s.out.length + (s.link l).replay.length ∧ u.dget 0x3700 (l + 1) = (s.dget 0x3700 (l + 1) + 1) % 2 ^ 64) := by
  refine completes_of_when (exec_replayTimeout l s) (by simp [hq, ha, hr, hd, he]) ?_
  have hgo : ¬((s.link l).replay = [] ∨ (s.link l).retrainDue = true ∨ (s.link l).state ≠ .active) := by simp [hr, hd, ha]
  have hlink := State.foldl_keeps (fun t => t.link l) (fun t (p : Nat × BitVec 1600) => t.emit (.flit l p.2)) (fun _ _ => rfl) (s.link l).replay
  have hdict := State.foldl_keeps (fun t => t.dget 0x3700 (l + 1)) (fun t (p : Nat × BitVec 1600) => t.emit (.flit l p.2)) (fun _ _ => rfl) (s.link l).replay
  have hcount := s.dget_dadd_of_size 0x3700 (l + 1) 1 (linkReplays_size l)
  unfold State.resend
  simp only [hgo, if_false]
  refine ⟨?_, ?_, ?_, ?_, ?_, (hdict _).trans hcount⟩
  · rw [hlink, State.link_setLink]
  · rw [hlink, State.link_setLink]
  · rw [hlink, State.link_setLink]
    exact decide_eq_decide.mpr (by omega)
  · rw [hlink, State.link_setLink]
  · rw [State.foldl_emit_out]
    simp

/-! ### Fences (R331, R332) -/

namespace SliceFrame
section
variable {β : Type} {part : State → β} (h : SliceFrame part)
include h

theorem writeSaveArea (s : State) (kind abandoned : Nat) : part (s.writeSaveArea kind abandoned) = part s := by
  have hs (t : State) (off : Nat) (bs : Bytes) : part (t.saveBytes off bs) = part t := h.ownWrite ..
  have hf (f : Nat → Nat) (g : Nat → Bytes) (t : State) : part ((List.range 384).foldl (fun t k => t.saveBytes (f k) (g k)) t) = part t :=
    State.foldl_keeps part _ (fun t k => hs t (f k) (g k)) _ _
  have hhead := (hf (fun k => 0x33D0000 + 102400 * k) (fun k => (s.core k).arrayContext) _).trans
    ((hf (fun k => 0x10000 + 4416 * 32 * k) s.threadContexts _).trans ((hs _ 0x9000 ((List.range 384).map (fun g => s.updContext g)).flatten).trans
      ((hs _ 0x1000 ((List.range 256).map (fun m => s.moverContext (m / 64) (m % 64))).flatten).trans (hs s 0 (s.saveHeader kind abandoned)))))
  exact State.ite_keeps ((State.foldl_keeps part _ (fun _ _ => (hs _ _ _).trans (hs _ _ _)) _ _).trans hhead) hhead

theorem saveHalt (s : State) (abandoned : Nat) : part (s.saveHalt abandoned) = part s := State.ite_keeps rfl (h.writeSaveArea ..)

/-- The end of a halt keeps a part that the fabric's state does not belong to either. -/
theorem finishHalt (hfab : ∀ (s : State) f t, part { s with fab := f, trans := t } = part s) (s : State) : part s.finishHalt = part s :=
  State.ite_keeps ((h.saveHalt ..).trans (hfab _ _ _)) rfl

end
end SliceFrame

/-- A halt leaves the package HALTED with its code (R69). -/
theorem State.haltNow_halted (s : State) (code : Nat) (missing : BitVec 512) :
    (s.haltNow code missing).alm.state = .halted ∧ (s.haltNow code missing).dget 0x2121 0 = code := by
  unfold State.haltNow
  exact ⟨congrArg AlmState.state (SliceFrame.alm.finishHalt (fun _ _ _ => rfl) _),
    (SliceFrame.stopReason.finishHalt (fun _ _ _ => rfl) _).trans (State.dget_dset (s.stopUnits.stopThreads.stopMovers) 0x2121 0 code)⟩

theorem State.enterFence_fenced (s : State) (l : Nat) (hq : s.quiet = false) :
    (s.enterFence l).fab.fenced = true ∧ (s.enterFence l).alm.state = .halted ∧ (s.enterFence l).dget 0x2121 0 = 0x14 ∧ (s.enterFence l).quiet = true := by
  have hf : s.fab.fenced = false := by
    simp only [State.quiet, Bool.or_eq_false_iff] at hq
    tauto
  obtain ⟨hs, hc⟩ := (s.event 0x94 .link (linkDie l) l (s.linkDetail l 0)).haltNow_halted 0x14 0
  unfold State.enterFence
  rw [hf]
  exact ⟨rfl, hs, hc, by simp [State.quiet]⟩

theorem fenceNotice_completes (s : State) (l : Fin 36) (inc : BitVec 16) (hq : s.quiet = false) (ha : (s.link l).state = .active) :
    (inc.toNat ≠ s.incarnation → Completes (.fenceNotice l inc) s (fun u => u.fab.fenced = true ∧ u.alm.state = .halted ∧ u.dget 0x2121 0 = 0x14 ∧ u.quiet = true)) ∧
    (inc.toNat = s.incarnation → exec (.fenceNotice l inc) s = .next s) := by
  have ht : (s.link l).trained = true := by simp [Link.trained, ha]
  constructor
  · intro hn
    refine completes_of_next (u := s.enterFence l) ?_ (s.enterFence_fenced l hq)
    rw [exec_fenceNotice, execFenceNotice, ht]
    simp [hq, ha, hn]
  · intro hi
    rw [exec_fenceNotice, execFenceNotice, ht]
    simp [hi]

theorem fenceNoticeSend_completes (s : State) (l : Fin 36) (hq : s.quiet = false) (ht : (s.link l).trained = true) (hp : pmFenced (s.portMap l) = true)
    (he : s.elapsed (s.link l).noticeNext 0 = true) :
    Completes (.fenceNoticeSend l) s (fun u => u.out = .flit l (s.fenceFlit l) :: s.out ∧ u.link l = { s.link l with noticeNext := s.sdt + 1600000 } ∧ u.mem = s.mem) :=
  completes_of_when (exec_fenceNoticeSend l s) (by simp [hq, ht, hp, he]) ⟨rfl, by rw [State.link_emit, State.link_setLink], rfl⟩

/-! ### Seams, Ridges and dies (R19 to R23) -/

theorem dieRoute_lt {src dst : Fin 4} {hop dir : Nat} (h : (dieRoute src dst)[hop]? = some dir) : dir < 8 := by
  have hall : ∀ src dst : Fin 4, ∀ d ∈ dieRoute src dst, d < 8 := by decide
  exact hall src dst dir (List.mem_of_getElem? h)

theorem State.seamCredit_keeps (s : State) (route : List Nat) (hop vc : Nat) : (s.seamCredit route hop vc).out = s.out ∧
    (s.seamCredit route hop vc).fab.seamTries = s.fab.seamTries ∧ (s.seamCredit route hop vc).boot = s.boot := by
  unfold State.seamCredit
  dsimp only
  split <;> exact ⟨rfl, rfl, rfl⟩

/-- A flit that is right ends its direction's replays. -/
theorem State.seamFlit_right (s : State) (dir hand cls : Nat) (header : Bool) : (s.seamFlit dir hand cls header true).out = .seam dir cls header true :: s.out ∧
    (s.seamFlit dir hand cls header true).fab.seamTries = terase s.fab.seamTries dir ∧ (s.seamFlit dir hand cls header true).boot = s.boot := by
  unfold State.seamFlit
  dsimp only
  rw [if_pos rfl]
  split
  · simp [State.emit]
  · split <;> simp [State.emit]

/-- A flit that is wrong is replayed and counted, up to sixteen times (R23). -/
theorem State.seamFlit_replayed (s : State) (dir hand cls : Nat) (header : Bool) (hd : dir < 8) (ht : tget 0 s.fab.seamTries dir < 16) :
    (s.seamFlit dir hand cls header false).out = .seam dir cls header false :: s.out ∧
    tget 0 (s.seamFlit dir hand cls header false).fab.seamTries dir = tget 0 s.fab.seamTries dir + 1 ∧
    (s.seamFlit dir hand cls header false).dget 0x3010 (dir / 2 + 1) = (s.dget 0x3010 (dir / 2 + 1) + 1) % 2 ^ 64 ∧
    (s.seamFlit dir hand cls header false).boot = s.boot := by
  have hz : (findEntry 0x3010 (dir / 2 + 1)).map Entry.size = some 8 := seamReplays_size ⟨dir / 2, by omega⟩
  unfold State.seamFlit
  simp only [Bool.false_eq_true, if_false, ht, if_true]
  exact ⟨by simp [State.emit], by simp, State.dget_dadd_of_size _ _ _ 1 hz, by simp⟩

/-- The seventeenth failure faults the package (R23). -/
theorem State.seamFlit_faulted (s : State) (dir hand cls : Nat) (header : Bool) (ht : 16 ≤ tget 0 s.fab.seamTries dir) :
    (s.seamFlit dir hand cls header false).boot.mode = .faulted := by
  have hn : ¬ tget 0 s.fab.seamTries dir < 16 := by omega
  unfold State.seamFlit
  simp only [Bool.false_eq_true, if_false, hn]
  rfl

theorem State.quiet_of_faulted (s : State) (h : s.boot.mode = .faulted) : s.quiet = true := by simp [State.quiet, h]

/-- One crossing that a started package makes on its route. -/
theorem exec_seamRidgeFlit_crossing (s : State) (src dst : Fin 4) (hop : Fin 2) (load : SeamLoad) (zero ok : Bool) (dir : Nat) (hr : s.boot.inReset = false)
    (hm : s.boot.mode ≠ .dim) (hd : (dieRoute src dst)[hop.val]? = some dir)
    (hs : s.seamMay (dieRoute src dst) hop dir (loadVc load * 16 + src.val * 4 + dst.val) (loadVc load) = true) :
    exec (.seamRidgeFlit ⟨src, dst, hop⟩ load ⟨zero, ok⟩) s = .next
      (if ok then (s.seamFlit dir (loadVc load * 16 + src.val * 4 + dst.val) (loadClass load) (s.headerOnly dir zero) ok).seamCredit (dieRoute src dst) hop (loadVc load)
      else s.seamFlit dir (loadVc load * 16 + src.val * 4 + dst.val) (loadClass load) (s.headerOnly dir zero) ok) := by
  rw [exec_seamRidgeFlit, execSeamRidgeFlit]
  simp [hd, hr, hm, hs]

theorem seamRidgeFlit_completes (s : State) (hr : s.boot.inReset = false) (hm : s.boot.mode ≠ .dim) (src dst : Fin 4) (hop : Fin 2) (load : SeamLoad) (zero : Bool)
    (dir : Nat) (hd : (dieRoute src dst)[hop.val]? = some dir)
    (hs : s.seamMay (dieRoute src dst) hop dir (loadVc load * 16 + src.val * 4 + dst.val) (loadVc load) = true) :
    Completes (.seamRidgeFlit ⟨src, dst, hop⟩ load ⟨zero, true⟩) s (fun u => u.out = .seam dir (loadClass load) (s.headerOnly dir zero) true :: s.out ∧
      tget 0 u.fab.seamTries dir = 0 ∧ u.boot.mode = s.boot.mode) ∧
    (tget 0 s.fab.seamTries dir < 16 → Completes (.seamRidgeFlit ⟨src, dst, hop⟩ load ⟨zero, false⟩) s (fun u =>
      u.out = .seam dir (loadClass load) (s.headerOnly dir zero) false :: s.out ∧ tget 0 u.fab.seamTries dir = tget 0 s.fab.seamTries dir + 1 ∧
      u.dget 0x3010 (dir / 2 + 1) = (s.dget 0x3010 (dir / 2 + 1) + 1) % 2 ^ 64 ∧ u.boot.mode = s.boot.mode)) ∧
    (16 ≤ tget 0 s.fab.seamTries dir → Completes (.seamRidgeFlit ⟨src, dst, hop⟩ load ⟨zero, false⟩) s (fun u => u.boot.mode = .faulted ∧ u.quiet = true)) := by
  have hx (ok : Bool) := exec_seamRidgeFlit_crossing s src dst hop load zero ok dir hr hm hd hs
  refine ⟨completes_of_next (hx true) ?_, fun ht => completes_of_next (hx false) ?_, fun ht => completes_of_next (hx false) ?_⟩
  · rw [if_pos rfl]
    obtain ⟨co, ct, cb⟩ := State.seamCredit_keeps (s.seamFlit dir (loadVc load * 16 + src.val * 4 + dst.val) (loadClass load) (s.headerOnly dir zero) true)
      (dieRoute src dst) hop (loadVc load)
    obtain ⟨fo, ft, fb⟩ := s.seamFlit_right dir (loadVc load * 16 + src.val * 4 + dst.val) (loadClass load) (s.headerOnly dir zero)
    exact ⟨co.trans fo, by rw [ct, ft, tget_terase_same], by rw [cb, fb]⟩
  · rw [if_neg (by decide)]
    obtain ⟨fo, ft, fd, fb⟩ := s.seamFlit_replayed dir (loadVc load * 16 + src.val * 4 + dst.val) (loadClass load) (s.headerOnly dir zero) (dieRoute_lt hd) ht
    exact ⟨fo, ft, fd, by rw [fb]⟩
  · rw [if_neg (by decide)]
    have hfault := s.seamFlit_faulted dir (loadVc load * 16 + src.val * 4 + dst.val) (loadClass load) (s.headerOnly dir zero) ht
    exact ⟨hfault, State.quiet_of_faulted _ hfault⟩

theorem dieLost_completes (s : State) (hr : s.boot.inReset = false) (hf : s.boot.mode ≠ .faulted) (hm : s.boot.mode ≠ .dim) (die : Fin 4) :
    Completes (.dieLost die) s (fun u => u.boot.mode = .faulted ∧ pget u.fuse.answers die = false) :=
  completes_of_when (exec_dieLost die s) (by simp [hr, hf, hm]) ⟨rfl, pget_pset_same _ _ _⟩

/-- Settles O34, rule by rule. -/
theorem flitLayer : Obligations.FlitLayer := by
  intro s l
  refine ⟨fun x fec ht hq => ⟨fun hty hst => ⟨flitReceived_discarded s l x fec ht hq hty hst, flitReceived_accepted s l x fec ht hq hty hst⟩,
      controlFlit_taken s l x ht hq⟩, replayTimeout_completes s l, fun inc => fenceNotice_completes s l inc, fenceNoticeSend_completes s l,
    seamRidgeFlit_completes s, dieLost_completes s⟩

end Sys2Proof.Machine
end

section
/-! SUPPORT. The SDT counters along a step (R40, R47): every operation of the model leaves the time unit alone (`…_time`), or its counters alone (`…_sdt`), or leaves counters that agree (`…_agree`), and so every command does (`…_agreed`). The operations stand in the order of the model's files. -/

namespace Sys2Proof.Machine

/-- The counters of the four dies hold one value. -/
def Agree (p : PerDie (BitVec 64)) : Prop := ∀ d d' : Fin 4, pget p d = pget p d'

/-- Every next state of the result has four counters that agree. -/
def Result.Agreed (r : Result) : Prop := ∀ u, r = .next u → Agree u.time.sdt

@[simp] theorem next_agreed (s : State) : Result.Agreed (.next s) ↔ Agree s.time.sdt := ⟨fun h => h s rfl, fun h u e => by cases e; exact h⟩
@[simp] theorem refused_agreed (r : Refusal) : Result.Agreed (.refused r) := fun _ e => nomatch e
@[simp] theorem ite_agreed (c : Prop) [Decidable c] (r q : Result) : Result.Agreed (if c then r else q) ↔ if c then r.Agreed else q.Agreed := by
  split <;> rfl
@[simp] theorem when_agreed (c : Bool) (s t : State) : Result.Agreed (when c s t) ↔ if c then Agree t.time.sdt else Agree s.time.sdt := by
  cases c <;> simp [when]

@[simp] theorem State.ite_time (c : Prop) [Decidable c] (s t : State) : (if c then s else t).time = if c then s.time else t.time := apply_ite _ _ _ _
@[simp] theorem State.foldl_time {α : Type} (f : State → α → State) (hf : ∀ s a, (f s a).time = s.time) (l : List α) (s : State) :
    (l.foldl f s).time = s.time :=
  State.foldl_keeps State.time f hf l s

/-- The state of a result whose state keeps the time unit. -/
theorem time_of_fst {α : Type} {s t : State} {x : State × α} {r : α} (hx : x.1.time = s.time) (he : x = (t, r)) : t.time = s.time := by
  rw [he] at hx
  exact hx

@[simp] theorem TimeState.ite_sdt (c : Prop) [Decidable c] (t u : TimeState) : (if c then t else u).sdt = if c then t.sdt else u.sdt := apply_ite _ _ _ _
@[simp] theorem agree_ite (c : Prop) [Decidable c] (p q : PerDie (BitVec 64)) : Agree (if c then p else q) ↔ if c then Agree p else Agree q := by
  split <;> rfl

@[simp] theorem State.foldl_sdt {α : Type} (f : State → α → State) (hf : ∀ s a, (f s a).time.sdt = s.time.sdt) (l : List α) (s : State) :
    (l.foldl f s).time.sdt = s.time.sdt := State.foldl_keeps (fun s => s.time.sdt) f hf l s

theorem agree_of_fst {α : Type} {t : State} {x : State × α} {r : α} (hx : Agree x.1.time.sdt) (he : x = (t, r)) : Agree t.time.sdt := by
  rw [he] at hx
  exact hx

/-! ### Time, the log, votes, gates and actions -/

@[simp] theorem agree_all (t : BitVec 64) : Agree (PerDie.all t) := fun d d' => by simp
@[simp] theorem State.setSdt_agree (s : State) (t : Nat) : Agree (s.setSdt t).time.sdt := fun d d' => by simp [State.setSdt]
@[simp] theorem State.passTo_agree (s : State) (t : Nat) : Agree (s.passTo t).time.sdt := by
  unfold State.passTo
  dsimp only
  split <;> simp

@[simp] theorem State.invalidLanes_time (s : State) (g n : Nat) : (s.invalidLanes g n).time = s.time := by simp [State.invalidLanes]
@[simp] theorem State.vote_time (s : State) (veto : Bool) (step src die core : Nat) : (s.vote veto step src die core).time = s.time := by simp [State.vote]
@[simp] theorem State.nonfiniteOn_time (s : State) (die core step src : Nat) : (s.nonfiniteOn die core step src).time = s.time := by simp [State.nonfiniteOn]
@[simp] theorem State.nonfinite_time (s : State) (die step src : Nat) : (s.nonfinite die step src).time = s.time := by simp [State.nonfinite]
@[simp] theorem State.bumpGate_time (s : State) (g : Nat) (odd : Bool) : (s.bumpGate g odd).time = s.time := by simp [State.bumpGate]

@[simp] theorem State.localInc_time (s : State) (g : Nat) (odd : Bool) (step die core : Nat) : (s.localInc g odd step die core).time = s.time := by
  simp [State.localInc]

@[simp] theorem State.completeAction_time (s : State) (id : Nat) : (s.completeAction id).time = s.time := by
  unfold State.completeAction
  split <;> simp

@[simp] theorem State.countStop_time (s : State) (agent : Nat) : (s.countStop agent).time = s.time := by simp [State.countStop]

/-! ### Links, flits and frames -/

@[simp] theorem State.sendControl_time (s : State) (l : Nat) (nak : Bool) : (s.sendControl l nak).time = s.time := by simp [State.sendControl]
@[simp] theorem State.freeFlits_time (s : State) (l vc n : Nat) : (s.freeFlits l vc n).time = s.time := by simp [State.freeFlits]

@[simp] theorem sendFlit_time (s : State) (l : Nat) : (sendFlit s l).time = s.time := by
  unfold sendFlit
  dsimp only
  repeat' split
  all_goals simp

@[simp] theorem pumpLink_time (l n : Nat) (s : State) : (pumpLink l n s).time = s.time := by
  induction n generalizing s with
  | zero => rfl
  | succ n ih => rw [pumpLink, ih, sendFlit_time]

@[simp] theorem State.pump_time (s : State) (l : Nat) : (s.pump l).time = s.time := by simp [State.pump]

@[simp] theorem State.enqueue_time (s : State) (l vc : Nat) (half : Bool) (bytes : Bytes) (inLink inFlits : Nat) :
    (s.enqueue l vc half bytes inLink inFlits).time = s.time := by simp [State.enqueue]

@[simp] theorem State.noRoute_time (s : State) (l tag : Nat) : (s.noRoute l tag).time = s.time := by simp [State.noRoute]
@[simp] theorem State.deliver_time (s : State) (r : RxFrame) : (s.deliver r).time = s.time := by simp [State.deliver]

@[simp] theorem State.forward_time (s : State) (f : Frame) (key inLink : Nat) (inHalf : Bool) (inFlits : Nat) :
    (s.forward f key inLink inHalf inFlits).time = s.time := by
  unfold State.forward
  split <;> simp

@[simp] theorem State.send_time (s : State) (ftype dest gen die : Nat) (parity : Bool) (tf : Nat) (body : Bytes) (key : Nat) :
    (s.send ftype dest gen die parity tf body key).time = s.time := by simp [State.send]

@[simp] theorem State.sendOn_time (s : State) (l ftype gen die : Nat) (parity : Bool) (tf : Nat) (body : Bytes) (dest : Nat) :
    (s.sendOn l ftype gen die parity tf body dest).time = s.time := by
  unfold State.sendOn
  split <;> simp

@[simp] theorem State.sendAll_time (s : State) (ftype tf : Nat) (body : Bytes) : (s.sendAll ftype tf body).time = s.time := by simp [State.sendAll]

theorem State.takeFrame_time (s : State) (ftype : Nat) (r : RxFrame) (f : Frame) (t : State) (h : s.takeFrame ftype = some (r, f, t)) : t.time = s.time := by
  unfold State.takeFrame at h
  split at h
  · cases h
  · cases h; rfl

theorem takeFrame_agreed {s : State} (ftype : Nat) (k : RxFrame → Frame → State → Result) (hs : Agree s.time.sdt)
    (hk : ∀ r f t, Agree t.time.sdt → Result.Agreed (k r f t)) :
    Result.Agreed (match s.takeFrame ftype with | none => .next s | some (r, f, t) => k r f t) := by
  split
  · simp [hs]
  · rename_i he
    exact hk _ _ _ (by rw [State.takeFrame_time _ _ _ _ _ he]; exact hs)

@[simp] theorem State.freeFrame_time (s : State) (r : RxFrame) : (s.free_ r).time = s.time := by simp [State.free_]

/-! ### Stores, the Loft and Eaves caches and requests -/

@[simp] theorem State.store_time (s : State) (a : Nat) (bs : Bytes) : (s.store a bs).time = s.time := by
  induction bs generalizing s a with
  | nil => rfl
  | cons b bs ih => exact ih _ _

@[simp] theorem State.poisonSector_time (s : State) (storage : Nat) : (s.poisonSector storage).time = s.time := by simp [State.poisonSector]
@[simp] theorem State.eccCorrected_time (s : State) (storage sub unit : Nat) : (s.eccCorrected storage sub unit).time = s.time := by simp [State.eccCorrected]
@[simp] theorem State.poisonFound_time (s : State) (storage : Nat) : (s.poisonFound storage).time = s.time := by simp [State.poisonFound]

@[simp] theorem State.memoryPoison_time (s : State) (lpa : Nat) (src : Source) (die step loc sub : Nat) :
    (s.memoryPoison lpa src die step loc sub).time = s.time := by simp [State.memoryPoison]

@[simp] theorem State.outcome_time (s : State) (die useful late unused : Nat) : (s.outcome die useful late unused).time = s.time := by simp [State.outcome]

@[simp] theorem State.loftEvict_time (s : State) (l : LoftLine) : (s.loftEvict l).time = s.time := by
  unfold State.loftEvict
  split <;> simp

@[simp] theorem State.loftInstall_time (s : State) (l : LoftLine) : (s.loftInstall l).time = s.time := by
  unfold State.loftInstall
  dsimp only
  repeat' split
  all_goals simp

@[simp] theorem State.loftRefresh_time (s : State) (l : LoftLine) : (s.loftRefresh l).time = s.time := by simp [State.loftRefresh]

@[simp] theorem State.loftTouch_time (s : State) (l : LoftLine) : (s.loftTouch l).time = s.time := by
  unfold State.loftTouch
  split <;> simp

@[simp] theorem State.checkSector_time (s : State) (line : Nat) : (s.checkSector line).time = s.time := by
  unfold State.checkSector
  split <;> simp

@[simp] theorem State.exportLine_time (s : State) (line : Nat) : (s.export_ line).time = s.time := by simp [State.export_]

@[simp] theorem State.markWrite_time (s : State) (a n : Nat) (alloc : Bool) (src : Source) (loc sub step : Nat) :
    (s.markWrite a n alloc src loc sub step).time = s.time := by
  unfold State.markWrite
  dsimp only
  repeat' split
  all_goals simp

@[simp] theorem State.countGuards_time (s : State) (gs : List Nat) : (s.countGuards gs).time = s.time := by simp [State.countGuards]
@[simp] theorem State.putBytes_time (s : State) (gs : List Nat) (a : Nat) (bs : Bytes) : (s.putBytes gs a bs).time = s.time := by simp [State.putBytes]
@[simp] theorem State.putSector_time (s : State) (gs : List Nat) (a : Nat) (bs : Bytes) : (s.putSector gs a bs).time = s.time := by simp [State.putSector]

@[simp] theorem State.acceptWrite_time (s : State) (a : Nat) (bs : Bytes) (alloc : Bool) (src : Source) (loc sub step : Nat) :
    (s.acceptWrite a bs alloc src loc sub step).time = s.time := by
  unfold State.acceptWrite
  split <;> simp

@[simp] theorem State.applyWrite_time (s : State) (a : Nat) (bs : Bytes) (alloc : Bool) (src : Source) (loc sub step : Nat) :
    (s.applyWrite a bs alloc src loc sub step).time = s.time := by
  unfold State.applyWrite
  split <;> simp

@[simp] theorem State.applyAdd_time (s : State) (a fmt : Nat) (bs : Bytes) (src : Source) (loc sub step : Nat) :
    (s.applyAdd a fmt bs src loc sub step).1.time = s.time := by
  unfold State.applyAdd
  split <;> simp

@[simp] theorem State.eavesTouch_time (s : State) (l : EavesLine) : (s.eavesTouch l).time = s.time := by simp [State.eavesTouch]

@[simp] theorem State.eavesInstall_time (s : State) (die line : Nat) (sectors : BitVec 8) (off : Nat) (bs : Bytes) :
    (s.eavesInstall die line sectors off bs).time = s.time := by
  unfold State.eavesInstall
  simp

@[simp] theorem State.eavesDrop_time (s : State) (die : Nat) (t : Target) : (s.eavesDrop die t).time = s.time := by
  unfold State.eavesDrop
  split <;> simp

@[simp] theorem State.eavesInvalidate_time (s : State) : s.eavesInvalidate.time = s.time := by simp [State.eavesInvalidate]
@[simp] theorem State.mapReq_time (s : State) (id : Nat) (f : Req → Req) : (s.mapReq id f).time = s.time := by simp [State.mapReq]

@[simp] theorem State.perform_time (s : State) (r : Req) : (s.perform r).time = s.time := by
  unfold State.perform
  dsimp only
  repeat' split
  all_goals simp

@[simp] theorem State.serve_time (s : State) (r : Req) (line : Nat) : (s.serve r line).time = s.time := by simp [State.serve]

@[simp] theorem State.loftEcc_time (s : State) (line : Nat) (e : EccEvent) : (s.loftEcc line e).time = s.time := by
  unfold State.loftEcc
  repeat' split
  all_goals simp

@[simp] theorem State.memoryEcc_time (s : State) (line : Nat) (e : EccEvent) : (s.memoryEcc line e).time = s.time := by
  unfold State.memoryEcc
  split <;> simp

@[simp] theorem State.readEcc_time (s : State) (line : Nat) (e : EccEvent) : (s.readEcc line e).time = s.time := by simp [State.readEcc]

@[simp] theorem State.landFill_time (s : State) (f : Fill) (e : EccEvent) : (s.landFill f e).time = s.time := by
  unfold State.landFill
  refine (State.foldl_time _ (fun s id => by split <;> simp) _ _).trans ?_
  dsimp only
  repeat' split
  all_goals simp

@[simp] theorem State.settle_time (s : State) (line : Nat) : (s.settle line).time = s.time := by
  unfold State.settle
  split <;> simp

@[simp] theorem State.settleRead_time (s : State) (line : Nat) : (s.settleRead line).time = s.time := by
  unfold State.settleRead
  split <;> simp

@[simp] theorem State.loftRead_time (s : State) (a n : Nat) (alloc : Bool) : (s.loftRead a n alloc).time = s.time := by
  unfold State.loftRead
  dsimp only
  repeat' split
  all_goals simp

@[simp] theorem State.loftReads_time (s : State) (a n : Nat) (alloc : Bool) : (s.loftReads a n alloc).time = s.time := by simp [State.loftReads]

@[simp] theorem State.arriveWrite_time (s : State) (die a : Nat) (bs : Bytes) (alloc : Bool) (src : Source) (loc sub step : Nat) :
    (s.arriveWrite die a bs alloc src loc sub step).time = s.time := by simp [State.arriveWrite]

@[simp] theorem State.ownWrite_time (s : State) (a : Nat) (bs : Bytes) : (s.ownWrite a bs).time = s.time := by
  unfold State.ownWrite
  exact State.foldl_time _ (fun s p => by split <;> simp) _ _

@[simp] theorem State.forgetBytes_time (s : State) (a n : Nat) (src : Source) (loc sub step : Nat) : (s.forgetBytes a n src loc sub step).time = s.time := by
  unfold State.forgetBytes
  split <;> simp

@[simp] theorem State.rewriteStamp_time (s : State) (g : Nat) : (s.rewriteStamp g).time = s.time := by simp [State.rewriteStamp]

/-! ### Walks, translations, parks and engine reads -/

@[simp] theorem State.fillTlb_time (s : State) (c : XCtx) (e : TlbEntry) : (s.fillTlb c e).time = s.time := by
  unfold State.fillTlb
  split <;> simp

@[simp] theorem walkLevels_time (die asid va : Nat) (lvs : List Level) (table : Nat) (s : State) : (walkLevels die asid va lvs table s).1.time = s.time := by
  induction lvs generalizing table s with
  | nil => rfl
  | cons lv rest ih =>
    unfold walkLevels
    dsimp only
    repeat' split
    all_goals simp [ih]

@[simp] theorem State.peakAt_time (s : State) (die n : Nat) : (s.peakAt die n).time = s.time := by simp [State.peakAt]
@[simp] theorem State.notePeak_time (s : State) (die : Nat) : (s.notePeak die).time = s.time := by simp [State.notePeak]
@[simp] theorem State.noteOne_time (s : State) (die : Nat) : (s.noteOne die).time = s.time := by simp [State.noteOne]

@[simp] theorem State.walk_time (s : State) (die asid va : Nat) : (s.walk die asid va).1.time = s.time := by
  unfold State.walk
  dsimp only
  repeat' split
  all_goals simp

@[simp] theorem State.walkFor_time (s : State) (c : XCtx) : (s.walkFor c).1.time = s.time := by
  unfold State.walkFor
  have hw := s.walk_time c.die c.asid c.va
  repeat' split
  all_goals simp_all

@[simp] theorem State.translate_time (s : State) (c : XCtx) : (s.translate c).1.time = s.time := by
  unfold State.translate
  split <;> simp

@[simp] theorem State.translateRange_time (c : XCtx) (ps : List (Nat × Nat)) (s : State) : (State.translateRange c ps s).1.time = s.time := by
  induction ps generalizing s with
  | nil => rfl
  | cons p rest ih =>
    unfold State.translateRange
    have ht := s.translate_time { c with va := p.1 }
    split
    · rename_i s' _ _ _
      have hr := ih s'
      split <;> simp_all
    · simp_all

@[simp] theorem State.xFault_time (s : State) (code die step loc sub asid va agent : Nat) : (s.xFault code die step loc sub asid va agent).time = s.time := by
  simp [State.xFault]

@[simp] theorem State.park_time (s : State) (p : ParkInfo) : (s.park p).time = s.time := by simp [State.park]
@[simp] theorem State.writePark_time (s : State) (r : ParkRec) : (s.writePark r).time = s.time := by simp [State.writePark]

@[simp] theorem State.hostFault_time (s : State) (die step mover port status addr : Nat) : (s.hostFault die step mover port status addr).time = s.time := by
  simp [State.hostFault]

@[simp] theorem State.issue_time (s : State) (r : Req) (mayEaves : Bool) : (s.issue r mayEaves).1.time = s.time := by
  unfold State.issue
  dsimp only
  repeat' split
  all_goals simp

@[simp] theorem State.dropReq_time (s : State) (id : Nat) : (s.dropReq id).time = s.time := by simp [State.dropReq]
@[simp] theorem State.dropAgent_time (s : State) (a : Agent) : (s.dropAgent a).time = s.time := by simp [State.dropAgent]

@[simp] theorem State.fetchPieces_time (s : State) (agent : Agent) (die step asid : Nat) (pos : Nat × Nat × Nat) (ps : List (Nat × Nat × Target × Nat)) :
    (s.fetchPieces agent die step asid pos ps).1.time = s.time := by
  unfold State.fetchPieces
  dsimp only
  split
  · exact State.foldl_time _ (fun s p => by split <;> simp) _ _
  · split
    · rfl
    · split <;> exact State.foldl_time _ (fun s p => by split <;> simp) _ _

/-! ### The prefetcher -/

@[simp] theorem State.prefetchLine_time (s : State) (die lpa : Nat) : (s.prefetchLine die lpa).time = s.time := by simp [State.prefetchLine]

@[simp] theorem prefetchRun_time (die asid va : Nat) (stride : Int) (page : Option TlbEntry) (stop : Option Nat) (ns : List Nat) (s : State) :
    (prefetchRun die asid va stride page stop ns s).1.time = s.time := by
  induction ns generalizing s with
  | nil => rfl
  | cons n rest ih =>
    unfold prefetchRun
    dsimp only
    split
    · rfl
    · split
      · rw [ih]; split <;> simp
      · split
        · rfl
        · split
          · simp [ih]
          · simp

@[simp] theorem State.train_time (s : State) (die reader asid va : Nat) : (s.train die reader asid va).time = s.time := by
  unfold State.train
  dsimp only
  repeat' split
  all_goals simp

/-! ### The memory slices and scrubbing -/

@[simp] theorem State.countSectors_time (s : State) (die : Nat) (sectors : BitVec 8) : (s.countSectors die sectors).time = s.time := by
  simp [State.countSectors]

@[simp] theorem State.countIrregular_time (s : State) (r : Req) (line : Nat) (asked : BitVec 8) : (s.countIrregular r line asked).time = s.time := by
  unfold State.countIrregular
  split <;> simp

@[simp] theorem State.holdOn_time (s : State) (f : Fill) (r : Req) (need : BitVec 8) : (s.holdOn f r need).time = s.time := by simp [State.holdOn]

@[simp] theorem State.newFill_time (s : State) (line : Nat) (r : Req) (sectors : BitVec 8) (install : Bool) :
    (s.newFill line r sectors install).time = s.time := by simp [State.newFill]

@[simp] theorem State.sliceRead_time (s : State) (r : Req) (a : Nat) (e : EccEvent) : (s.sliceRead r a e).time = s.time := by
  unfold State.sliceRead
  dsimp only
  repeat' split
  all_goals simp

@[simp] theorem State.sliceWrite_time (s : State) (r : Req) (a : Nat) (e : EccEvent) : (s.sliceWrite r a e).time = s.time := by
  unfold State.sliceWrite
  dsimp only
  repeat' split
  all_goals simp

@[simp] theorem State.sliceAdd_time (s : State) (r : Req) (a : Nat) (e : EccEvent) : (s.sliceAdd r a e).time = s.time := by
  unfold State.sliceAdd
  dsimp only
  repeat' split
  all_goals simp

@[simp] theorem State.serveAt_agreed (s : State) (req : Nat) (p : ReqKind → Bool) (k : Req → Nat → State) (hk : ∀ r n, (k r n).time = s.time)
    (h : Agree s.time.sdt) :
    Result.Agreed (s.serveAt req p k) := by
  unfold State.serveAt
  split <;> simp [h, hk]

@[simp] theorem execLoftRead_agreed (of_ : LoftSource) (ecc : EccEvent) (s : State) (h : Agree s.time.sdt) : Result.Agreed (execLoftRead of_ ecc s) := by
  unfold execLoftRead
  split <;> simp [h]

@[simp] theorem execLoftWrite_agreed (req : Nat) (ecc : EccEvent) (s : State) (h : Agree s.time.sdt) : Result.Agreed (execLoftWrite req ecc s) := by
  simp [execLoftWrite, h]

@[simp] theorem execControllerWriteAdd_agreed (req : Nat) (ecc : EccEvent) (s : State) (h : Agree s.time.sdt) :
    Result.Agreed (execControllerWriteAdd req ecc s) := by simp [execControllerWriteAdd, h]

@[simp] theorem execLoftFillReturn_agreed (line : Nat) (ecc : EccEvent) (s : State) (h : Agree s.time.sdt) : Result.Agreed (execLoftFillReturn line ecc s) := by
  unfold execLoftFillReturn
  split <;> simp [h]

@[simp] theorem State.landEaves_time (s : State) (f : EavesFill) (r : Req) : (s.landEaves f r).time = s.time := by simp [State.landEaves]

@[simp] theorem execEavesFillReturn_agreed (die : Fin 4) (line : Nat) (s : State) (h : Agree s.time.sdt) : Result.Agreed (execEavesFillReturn die line s) := by
  unfold execEavesFillReturn
  split <;> simp [h]

@[simp] theorem execStampRewrite_agreed (guard : Fin 64) (s : State) (h : Agree s.time.sdt) : Result.Agreed (execStampRewrite guard s) := by
  simp [execStampRewrite, h]

@[simp] theorem execPrefetchDistanceRevise_agreed (die : Fin 4) (s : State) (h : Agree s.time.sdt) : Result.Agreed (execPrefetchDistanceRevise die s) := by
  simp [execPrefetchDistanceRevise, h]

@[simp] theorem State.scrubPoison_time (s : State) (sector : Nat) : (s.scrubPoison sector).time = s.time := by simp [State.scrubPoison]

@[simp] theorem State.scrubFound_time (s : State) (sector : Nat) (e : EccEvent) : (s.scrubFound sector e).time = s.time := by
  unfold State.scrubFound
  split <;> simp

@[simp] theorem State.scrubAdvance_time (s : State) (die : Nat) (thatch : Bool) : (s.scrubAdvance die thatch).time = s.time := by simp [State.scrubAdvance]
@[simp] theorem State.scrubMark_time (s : State) (die : Nat) : (s.scrubMark die).time = s.time := by simp [State.scrubMark]

@[simp] theorem execScrubDusk_agreed (die : Fin 4) (found : List (Nat × EccEvent)) (s : State) (h : Agree s.time.sdt) :
    Result.Agreed (execScrubDusk die found s) := by simp [execScrubDusk, h]

@[simp] theorem State.passEnd_time (s : State) (die : Nat) (thatch : Bool) : (s.passEnd die thatch).time = s.time := by simp [State.passEnd]

@[simp] theorem execScrubPassEnd_agreed (die : Fin 4) (thatch : Bool) (s : State) (h : Agree s.time.sdt) : Result.Agreed (execScrubPassEnd die thatch s) := by
  simp [execScrubPassEnd, h]

@[simp] theorem State.sramScrubFound_time (s : State) (g lpa : Nat) (e : EccEvent) : (s.sramScrubFound g lpa e).time = s.time := by
  unfold State.sramScrubFound
  split <;> simp

@[simp] theorem execSramScrub_agreed (core : Fin 384) (lpa : Nat) (found : EccEvent) (s : State) (h : Agree s.time.sdt) :
    Result.Agreed (execSramScrub core lpa found s) := by simp [execSramScrub, h]

@[simp] theorem State.cacheScrubFound_time (s : State) (die : Nat) (eaves : Bool) (line : Nat) (e : EccEvent) :
    (s.cacheScrubFound die eaves line e).time = s.time := by
  unfold State.cacheScrubFound
  repeat' split
  all_goals simp

@[simp] theorem State.dropSet_time (s : State) (die : Nat) (eaves : Bool) (line : Nat) : (s.dropSet die eaves line).time = s.time := by simp [State.dropSet]

@[simp] theorem State.tagScrubFound_time (s : State) (die : Nat) (eaves : Bool) (line : Nat) (e : EccEvent) :
    (s.tagScrubFound die eaves line e).time = s.time := by
  unfold State.tagScrubFound
  split <;> simp

@[simp] theorem execCacheScrub_agreed (die : Fin 4) (part : SlicePart) (line : Nat) (found : EccEvent) (s : State) (h : Agree s.time.sdt) :
    Result.Agreed (execCacheScrub die part line found s) := by simp [execCacheScrub, h]

@[simp] theorem execIdleBankScrub_agreed (core : Fin 384) (found : EccEvent) (s : State) (h : Agree s.time.sdt) :
    Result.Agreed (execIdleBankScrub core found s) := by simp [execIdleBankScrub, h]

/-! ### Threads -/

@[simp] theorem State.overwrite_time (s : State) (g t : Nat) (keys : List Nat) : (s.overwrite g t keys).time = s.time := by simp [State.overwrite]

@[simp] theorem State.threadsDone_time (s : State) (launch n : Nat) : (s.threadsDone launch n).time = s.time := by
  unfold State.threadsDone
  split <;> simp

@[simp] theorem State.failLaunch_time (s : State) (launch : Nat) : (s.failLaunch launch).time = s.time := by simp [State.failLaunch]
@[simp] theorem State.endThread_time (s : State) (g t : Nat) (failed : Bool) : (s.endThread g t failed).time = s.time := by simp [State.endThread]
@[simp] theorem State.threadFault_time (s : State) (g t code : Nat) : (s.threadFault g t code).time = s.time := by simp [State.threadFault]

@[simp] theorem State.sramFault_time (s : State) (src : Source) (g sub step lpa : Nat) : (s.sramFault src g sub step lpa).time = s.time := by
  simp [State.sramFault]

@[simp] theorem State.stall_time (s : State) (g cause : Nat) : (s.stall g cause).time = s.time := by simp [State.stall]

@[simp] theorem State.checkPc_time (s : State) (g t : Nat) : (s.checkPc g t).time = s.time := by
  unfold State.checkPc
  split <;> simp

@[simp] theorem State.next_time (s : State) (g t : Nat) : (s.next g t).time = s.time := by simp [State.next]

@[simp] theorem State.issueInstr_agreed (s : State) (g t : Nat) (mine bad : Nat → Bool) (regs : Nat → Regs) (effect : State → Thread → Nat → State)
    (heffect : ∀ s th n, (effect s th n).time = s.time) (h : Agree s.time.sdt) :
    Result.Agreed (s.issueInstr g t mine bad regs effect) := by
  simp [State.issueInstr, h, heffect]

@[simp] theorem scalarEffect_time (g t : Nat) (op : ScalarOp) (form : ScalarForm) (s : State) (th : Thread) (w : Nat) :
    (scalarEffect g t op form s th w).time = s.time := by
  unfold scalarEffect
  dsimp only
  repeat' split
  all_goals simp

@[simp] theorem execScalar_agreed (core : Fin 384) (thread : Fin 32) (op : Option ScalarOp) (form : ScalarForm) (s : State) (h : Agree s.time.sdt) :
    Result.Agreed (execScalar core thread op form s) := by
  unfold execScalar
  split <;> simp [h]

@[simp] theorem branchEffect_time (g t : Nat) (c : BranchCond) (s : State) (th : Thread) (w : Nat) : (branchEffect g t c s th w).time = s.time := by
  simp [branchEffect]

@[simp] theorem execBranch_agreed (core : Fin 384) (thread : Fin 32) (cond : Option BranchCond) (s : State) (h : Agree s.time.sdt) :
    Result.Agreed (execBranch core thread cond s) := by
  unfold execBranch
  split <;> simp [h]

@[simp] theorem State.lostBank_time (s : State) (g : Nat) : (s.lostBank g).time = s.time := by simp [State.lostBank]

@[simp] theorem State.scratchEcc_time (s : State) (g t : Nat) (th : Thread) (o : Nat) (ecc : WordEcc) (k : State → State) (hk : ∀ s, (k s).time = s.time) :
    (s.scratchEcc g t th o ecc k).time = s.time := by
  unfold State.scratchEcc
  split <;> simp [hk]

@[simp] theorem scratchLoadEffect_time (g t : Nat) (signed : Bool) (cycle : ScratchCycle) (s : State) (th : Thread) (w : Nat) :
    (scratchLoadEffect g t signed cycle s th w).time = s.time := by
  unfold scratchLoadEffect
  split <;> simp

@[simp] theorem execScratchLoad_agreed (core : Fin 384) (thread : Fin 32) (signed : Option Bool) (cycle : ScratchCycle) (s : State) (h : Agree s.time.sdt) :
    Result.Agreed (execScratchLoad core thread signed cycle s) := by simp [execScratchLoad, h]

@[simp] theorem scratchStoreEffect_time (g t : Nat) (cycle : ScratchCycle) (s : State) (th : Thread) (w : Nat) :
    (scratchStoreEffect g t cycle s th w).time = s.time := by
  unfold scratchStoreEffect
  split <;> simp

@[simp] theorem execScratchStore_agreed (thread : Fin 384 × Fin 32) (cycle : Option ScratchCycle) (s : State) (h : Agree s.time.sdt) :
    Result.Agreed (execScratchStore thread cycle s) := by simp [execScratchStore, h]

@[simp] theorem State.issueParts_time (s : State) (g t : Nat) (th : Thread) (kind : ReqKind) (key : Nat) (signed : Bool) (total : Nat) (data : Bytes)
    (base : Nat) (ps : List (Nat × Nat × Target × Nat)) :
    (s.issueParts g t th kind key signed total data base ps).time = s.time := by
  induction ps generalizing s with
  | nil => rfl
  | cons p rest ih => simp [State.issueParts, ih]

@[simp] theorem memoryEffect_time (g t : Nat) (kind : ReqKind) (signed : Bool) (s : State) (th : Thread) (w : Nat) :
    (memoryEffect g t kind signed s th w).time = s.time := by
  unfold memoryEffect
  dsimp only
  repeat' split
  all_goals simp

@[simp] theorem execMemoryLoad_agreed (core : Fin 384) (thread : Fin 32) (signed : Option Bool) (s : State) (h : Agree s.time.sdt) :
    Result.Agreed (execMemoryLoad core thread signed s) := by simp [execMemoryLoad, h]

@[simp] theorem execMemoryStore_agreed (thread : Fin 384 × Fin 32) (reserved : Bool) (s : State) (h : Agree s.time.sdt) :
    Result.Agreed (execMemoryStore thread reserved s) := by simp [execMemoryStore, h]

@[simp] theorem State.cinc_time (s : State) (g n : Nat) (amount : BitVec 32) : (s.cinc g n amount).time = s.time := by simp [State.cinc]
@[simp] theorem cincEffect_time (g t : Nat) (s : State) (th : Thread) (w : Nat) : (cincEffect g t s th w).time = s.time := by simp [cincEffect]

@[simp] theorem execCinc_agreed (core : Fin 384) (thread : Fin 32) (s : State) (h : Agree s.time.sdt) : Result.Agreed (execCinc core thread s) := by
  simp [execCinc, h]

@[simp] theorem cwaitEffect_time (g t : Nat) (s : State) (th : Thread) (w : Nat) : (cwaitEffect g t s th w).time = s.time := by simp [cwaitEffect]

@[simp] theorem execCwait_agreed (core : Fin 384) (thread : Fin 32) (s : State) (h : Agree s.time.sdt) : Result.Agreed (execCwait core thread s) := by
  simp [execCwait, h]

@[simp] theorem creadEffect_time (g t : Nat) (s : State) (th : Thread) (w : Nat) : (creadEffect g t s th w).time = s.time := by simp [creadEffect]

@[simp] theorem execCread_agreed (core : Fin 384) (thread : Fin 32) (s : State) (h : Agree s.time.sdt) : Result.Agreed (execCread core thread s) := by
  simp [execCread, h]

@[simp] theorem barrierEffect_time (g t : Nat) (s : State) (th : Thread) (w : Nat) : (barrierEffect g t s th w).time = s.time := by simp [barrierEffect]

@[simp] theorem execBarrier_agreed (core : Fin 384) (thread : Fin 32) (s : State) (h : Agree s.time.sdt) : Result.Agreed (execBarrier core thread s) := by
  simp [execBarrier, h]

@[simp] theorem gincEffect_time (g t : Nat) (s : State) (th : Thread) (w : Nat) : (gincEffect g t s th w).time = s.time := by simp [gincEffect]

@[simp] theorem execGinc_agreed (core : Fin 384) (thread : Fin 32) (s : State) (h : Agree s.time.sdt) : Result.Agreed (execGinc core thread s) := by
  simp [execGinc, h]

@[simp] theorem greadEffect_time (g t : Nat) (s : State) (th : Thread) (w : Nat) : (greadEffect g t s th w).time = s.time := by simp [greadEffect]

@[simp] theorem execGread_agreed (core : Fin 384) (thread : Fin 32) (s : State) (h : Agree s.time.sdt) : Result.Agreed (execGread core thread s) := by
  simp [execGread, h]

@[simp] theorem sdtrEffect_time (g t : Nat) (s : State) (th : Thread) (w : Nat) : (sdtrEffect g t s th w).time = s.time := by simp [sdtrEffect]

@[simp] theorem execSdtr_agreed (core : Fin 384) (thread : Fin 32) (s : State) (h : Agree s.time.sdt) : Result.Agreed (execSdtr core thread s) := by
  simp [execSdtr, h]

@[simp] theorem slotrEffect_time (g t : Nat) (s : State) (th : Thread) (w : Nat) : (slotrEffect g t s th w).time = s.time := by simp [slotrEffect]

@[simp] theorem execSlotr_agreed (core : Fin 384) (thread : Fin 32) (s : State) (h : Agree s.time.sdt) : Result.Agreed (execSlotr core thread s) := by
  simp [execSlotr, h]

@[simp] theorem waitsdtEffect_time (g t : Nat) (s : State) (th : Thread) (w : Nat) : (waitsdtEffect g t s th w).time = s.time := by simp [waitsdtEffect]

@[simp] theorem execWaitsdt_agreed (core : Fin 384) (thread : Fin 32) (s : State) (h : Agree s.time.sdt) : Result.Agreed (execWaitsdt core thread s) := by
  simp [execWaitsdt, h]

@[simp] theorem endEffect_time (g t : Nat) (s : State) (x1 : Thread) (x2 : Nat) : (endEffect g t s x1 x2).time = s.time := by simp [endEffect]

@[simp] theorem execEndThread_agreed (core : Fin 384) (thread : Fin 32) (s : State) (h : Agree s.time.sdt) : Result.Agreed (execEndThread core thread s) := by
  simp [execEndThread, h]

@[simp] theorem fenceEffect_time (g t : Nat) (s : State) (x1 : Thread) (w : Nat) : (fenceEffect g t s x1 w).time = s.time := by simp [fenceEffect]

@[simp] theorem execFence_agreed (core : Fin 384) (thread : Fin 32) (s : State) (h : Agree s.time.sdt) : Result.Agreed (execFence core thread s) := by
  simp [execFence, h]

@[simp] theorem State.startThreads_time (s : State) (a : Action) (g : Nat) (img : Image) (entry : Nat) : (s.startThreads a g img entry).time = s.time := by
  unfold State.startThreads
  dsimp only
  split
  · rfl
  · exact State.foldl_time _ (fun s t => by simp) _ _

@[simp] theorem State.launchFails_time (s : State) (a : Action) (g : Nat) : (s.launchFails a g).time = s.time := by
  unfold State.launchFails
  simp only [State.threadsDone_time, State.failLaunch_time]
  exact State.foldl_time _ (fun s t => by simp) _ _

@[simp] theorem State.imageMalformed_time (s : State) (a : Action) (g : Nat) : (s.imageMalformed a g).time = s.time := by simp [State.imageMalformed]

@[simp] theorem State.readThrough_time (s : State) (a : Action) (g va n : Nat) : (s.readThrough a g va n).1.time = s.time := by
  unfold State.readThrough
  have ht := State.translateRange_time ⟨a.asid, va, 3, false, some g, coreDie g⟩ (vaPieces va n) s
  split
  · simp_all
  · rename_i s' ps _
    have hf := s'.fetchPieces_time (.image g a.id) (coreDie g) a.step a.asid (0, 0, 0) ps
    split <;> simp_all

@[simp] theorem State.launchOn_time (s : State) (a : Action) (g : Nat) : (s.launchOn a g).time = s.time := by
  unfold State.launchOn
  have hr := s.readThrough_time a g a.transit.addr 32
  dsimp only
  repeat' split
  all_goals simp_all

@[simp] theorem State.dropFetch_time (s : State) (g launch : Nat) : (s.dropFetch g launch).time = s.time := by simp [State.dropFetch]

@[simp] theorem State.fetchFailed_time (s : State) (a : Action) (g : Nat) (f : State → State) (hf : ∀ s, (f s).time = s.time) :
    (s.fetchFailed a g f).time = s.time := by
  simp [State.fetchFailed, hf]

@[simp] theorem State.parkFetch_time (s : State) (a : Action) (g va kind level : Nat) : (s.parkFetch a g va kind level).time = s.time := by
  simp [State.parkFetch]

@[simp] theorem State.imageArrives_time (s : State) (a : Action) (g : Nat) : (s.imageArrives a g).time = s.time := by
  unfold State.imageArrives
  dsimp only
  split
  · have hr := time_of_fst (s.readThrough_time a g a.transit.addr 32) ‹_›
    split <;> simp [hr]
  · have hr := time_of_fst (s.readThrough_time a g a.transit.addr 32) ‹_›
    split
    · simp [hr]
    · split
      · simp [hr]
      · split
        · have hr' := (time_of_fst (State.readThrough_time _ _ _ _ _) ‹_›).trans hr
          split <;> simp [hr']
        · have hr' := (time_of_fst (State.readThrough_time _ _ _ _ _) ‹_›).trans hr
          repeat' split
          all_goals simp [hr']

@[simp] theorem State.imageParity_time (s : State) (a : Action) (g : Nat) : (s.imageParity a g).time = s.time := by simp [State.imageParity]

@[simp] theorem execImageFetchDone_agreed (core : Fin 384) (fetch : ImageFetch) (s : State) (h : Agree s.time.sdt) :
    Result.Agreed (execImageFetchDone core fetch s) := by
  unfold execImageFetchDone
  repeat' split
  all_goals simp [h]

/-! ### Movers and parks -/

@[simp] theorem State.endMover_time (s : State) (d m : Nat) : (s.endMover d m).time = s.time := by simp [State.endMover]
@[simp] theorem State.dropJob_time (s : State) (id : Nat) : (s.dropJob id).time = s.time := by simp [State.dropJob]

@[simp] theorem State.endAgent_time (s : State) (a : Agent) : (s.endAgent a).time = s.time := by
  unfold State.endAgent
  repeat' split
  all_goals simp

@[simp] theorem State.setParked_time (s : State) (a : Agent) : (s.setParked a).time = s.time := by
  unfold State.setParked
  split <;> simp

@[simp] theorem State.unpark_time (s : State) (a : Agent) : (s.unpark a).time = s.time := by
  unfold State.unpark
  repeat' split
  all_goals simp

@[simp] theorem State.parkAgent_time (s : State) (p : ParkInfo) : (s.parkAgent p).time = s.time := by
  unfold State.parkAgent
  split <;> simp

@[simp] theorem State.moverFault_time (s : State) (d m code va agent : Nat) : (s.moverFault d m code va agent).time = s.time := by simp [State.moverFault]
@[simp] theorem State.moverPoison_time (s : State) (d m lpa : Nat) : (s.moverPoison d m lpa).time = s.time := by simp [State.moverPoison]
@[simp] theorem State.moverHostFault_time (s : State) (d m p a : Nat) : (s.moverHostFault d m p a).time = s.time := by simp [State.moverHostFault]

@[simp] theorem State.moverRead_time (s : State) (d m va access n : Nat) : (s.moverRead d m va access n).1.time = s.time := by
  unfold State.moverRead
  dsimp only
  split
  · rename_i t a _
    have hf := s.fetchPieces_time (.moverDesc d m) d (s.stepOf (s.mover d m).action) (s.mover d m).asid ((s.mover d m).cur, (s.mover d m).elem, (s.mover d m).off)
      [(va, n, t, a)]
    repeat' split
    all_goals simp_all
  · rfl
  · rfl

@[simp] theorem State.readDesc_time (s : State) (d m i : Nat) : (s.readDesc d m i).1.time = s.time := by
  unfold State.readDesc
  dsimp only
  repeat' split
  all_goals simp

@[simp] theorem State.moverReadEnd_time (s : State) (d m va agent : Nat) (x1 : MoverRead) : (s.moverReadEnd d m va agent x1).time = s.time := by
  unfold State.moverReadEnd
  split <;> simp

@[simp] theorem State.takeDesc_time (s : State) (d m desc : Nat) : (s.takeDesc d m desc).time = s.time := by simp [State.takeDesc]

@[simp] theorem State.takeOp_agreed (s : State) (d m op : Nat) (h : Agree s.time.sdt) : Result.Agreed (s.takeOp d m op) := by
  unfold State.takeOp
  have hr := s.readDesc_time d m (s.mover d m).cur
  dsimp only
  repeat' split
  all_goals simp_all

@[simp] theorem execStream_agreed (die : Fin 4) (mover : Fin 64) (s : State) (h : Agree s.time.sdt) : Result.Agreed (execStream die mover s) := by
  simp [execStream, h]

@[simp] theorem execGather_agreed (die : Fin 4) (mover : Fin 64) (s : State) (h : Agree s.time.sdt) : Result.Agreed (execGather die mover s) := by
  simp [execGather, h]

@[simp] theorem execScatter_agreed (die : Fin 4) (mover : Fin 64) (s : State) (h : Agree s.time.sdt) : Result.Agreed (execScatter die mover s) := by
  simp [execScatter, h]

@[simp] theorem execStreamAdd_agreed (die : Fin 4) (mover : Fin 64) (s : State) (h : Agree s.time.sdt) : Result.Agreed (execStreamAdd die mover s) := by
  simp [execStreamAdd, h]

@[simp] theorem execScatterAdd_agreed (die : Fin 4) (mover : Fin 64) (s : State) (h : Agree s.time.sdt) : Result.Agreed (execScatterAdd die mover s) := by
  simp [execScatterAdd, h]

@[simp] theorem execMoverDescriptorReadahead_agreed (die : Fin 4) (mover : Fin 64) (s : State) (h : Agree s.time.sdt) :
    Result.Agreed (execMoverDescriptorReadahead die mover s) := by
  unfold execMoverDescriptorReadahead
  dsimp only
  split
  · simp [h]
  · have ht := s.translate_time (moverCtx die (s.mover die mover)
      ((s.mover die mover).descVa ((s.mover die mover).cur + 1 + (s.mover die mover).ahead.length)) 3)
    split
    · rename_i s' _ _ _
      have hr := s'.readDesc_time die mover ((s.mover die mover).cur + 1 + (s.mover die mover).ahead.length)
      split <;> simp_all
    · simp_all

@[simp] theorem State.readIndex_time (s : State) (d m desc : Nat) : (s.readIndex d m desc).1.time = s.time := by
  unfold State.readIndex
  split <;> simp

@[simp] theorem State.moverXlate_time (s : State) (d m va : Nat) (x1 : Xlate) : (s.moverXlate d m va x1).time = s.time := by
  unfold State.moverXlate
  split <;> simp

@[simp] theorem State.issuePiece_time (s : State) (d m desc idx : Nat) : (s.issuePiece d m desc idx).time = s.time := by
  unfold State.issuePiece
  dsimp only
  repeat' split
  all_goals simp

@[simp] theorem execMoverPieceIssue_agreed (die : Fin 4) (mover : Fin 64) (s : State) (h : Agree s.time.sdt) :
    Result.Agreed (execMoverPieceIssue die mover s) := by
  unfold execMoverPieceIssue
  split
  · simp [h]
  · rename_i desc _
    have hr := s.readIndex_time die mover desc.toNat
    repeat' split
    all_goals simp_all

@[simp] theorem State.retire_time (s : State) (d m : Nat) (o : MoverDesc) : (s.retire d m o).time = s.time := by simp [State.retire]

@[simp] theorem execDescriptorRetire_agreed (die : Fin 4) (mover : Fin 64) (s : State) (h : Agree s.time.sdt) :
    Result.Agreed (execDescriptorRetire die mover s) := by
  unfold execDescriptorRetire
  split <;> simp [h]

@[simp] theorem State.threadResponse_time (s : State) (r : Req) (g t : Nat) : (s.threadResponse r g t).time = s.time := by
  unfold State.threadResponse
  split <;> simp

@[simp] theorem State.moverResponse_time (s : State) (r : Req) (d m : Nat) : (s.moverResponse r d m).time = s.time := by
  unfold State.moverResponse
  dsimp only
  repeat' split
  all_goals simp

@[simp] theorem State.respond_time (s : State) (r : Req) : (s.respond r).time = s.time := by
  unfold State.respond
  dsimp only
  repeat' split
  all_goals simp

@[simp] theorem execMemoryResponse_agreed (req : Nat) (s : State) (h : Agree s.time.sdt) : Result.Agreed (execMemoryResponse req s) := by
  unfold execMemoryResponse
  split <;> simp [h]

@[simp] theorem execHostPieceCompletion_agreed (req : Nat) (bytes : List Byte) (s : State) (h : Agree s.time.sdt) :
    Result.Agreed (execHostPieceCompletion req bytes s) := by
  unfold execHostPieceCompletion
  repeat' split
  all_goals simp [h]

@[simp] theorem execHostAccess_agreed (req : Nat) (status : Fin 256) (s : State) (h : Agree s.time.sdt) : Result.Agreed (execHostAccess req status s) := by
  unfold execHostAccess
  repeat' split
  all_goals simp [h]

@[simp] theorem State.setParks_time (s : State) (ps : List ParkRec) : (s.setParks ps).time = s.time := by simp [State.setParks]

@[simp] theorem State.writeParkOf_time (s : State) (p : ParkInfo) : (s.writeParkOf p).time = s.time := by
  unfold State.writeParkOf
  dsimp only
  repeat' split
  all_goals simp

@[simp] theorem execParkRecordWrite_agreed (s : State) (h : Agree s.time.sdt) : Result.Agreed (execParkRecordWrite s) := by
  unfold execParkRecordWrite
  repeat' split
  all_goals simp [h]

@[simp] theorem State.releasePark_time (s : State) (r : ParkRec) : (s.releasePark r).time = s.time := by simp [State.releasePark]
@[simp] theorem State.abandonPark_time (s : State) (r : ParkRec) (code : Nat) : (s.abandonPark r code).time = s.time := by simp [State.abandonPark]

@[simp] theorem State.parkRelease_time (s : State) (v : Nat) : (s.parkRelease v).time = s.time := by
  unfold State.parkRelease
  split <;> simp

@[simp] theorem execParkTimeout_agreed (seq : Nat) (s : State) (h : Agree s.time.sdt) : Result.Agreed (execParkTimeout seq s) := by
  unfold execParkTimeout
  split <;> simp [h]

@[simp] theorem State.discardParks_time (s : State) : s.discardParks.time = s.time := by simp [State.discardParks]
@[simp] theorem State.purge_time (s : State) (c : InvalCmd) : (s.purge c).time = s.time := by simp [State.purge]
@[simp] theorem State.invalidate_time (s : State) (kind : Nat) : (s.invalidate kind).time = s.time := by simp [State.invalidate]
@[simp] theorem execInvalComplete_agreed (s : State) (h : Agree s.time.sdt) : Result.Agreed (execInvalComplete s) := by simp [execInvalComplete, h]

/-! ### The matrix arrays -/

@[simp] theorem State.matCount_time (s : State) (g w : Nat) : (s.matCount g w).time = s.time := by simp [State.matCount]

@[simp] theorem matEffect_time (g t : Nat) (s : State) (th : Thread) (w : Nat) : (matEffect g t s th w).time = s.time := by
  unfold matEffect
  dsimp only
  repeat' split
  all_goals simp

@[simp] theorem execMwload_agreed (core : Fin 384) (thread : Fin 32) (s : State) (h : Agree s.time.sdt) : Result.Agreed (execMwload core thread s) := by
  simp [execMwload, h]

@[simp] theorem execMstream_agreed (core : Fin 384) (thread : Fin 32) (s : State) (h : Agree s.time.sdt) : Result.Agreed (execMstream core thread s) := by
  simp [execMstream, h]

@[simp] theorem execMdrain_agreed (core : Fin 384) (thread : Fin 32) (s : State) (h : Agree s.time.sdt) : Result.Agreed (execMdrain core thread s) := by
  simp [execMdrain, h]

@[simp] theorem State.mapMat_time (s : State) (g seq : Nat) (f : MatInstr → MatInstr) : (s.mapMat g seq f).time = s.time := by simp [State.mapMat]
@[simp] theorem State.matDone_time (s : State) (g : Nat) (m : MatInstr) (arrays : BitVec 4) : (s.matDone g m arrays).time = s.time := by simp [State.matDone]

@[simp] theorem execMwloadStart_agreed (core : Fin 384) (array : Fin 4) (s : State) (h : Agree s.time.sdt) : Result.Agreed (execMwloadStart core array s) := by
  unfold execMwloadStart
  split <;> simp [h]

@[simp] theorem State.loadComplete_time (s : State) (g n : Nat) (m : MatInstr) : (s.loadComplete g n m).time = s.time := by simp [State.loadComplete]

@[simp] theorem execMwloadComplete_agreed (core : Fin 384) (array : Fin 4) (s : State) (h : Agree s.time.sdt) :
    Result.Agreed (execMwloadComplete core array s) := by
  unfold execMwloadComplete
  split <;> simp [h]

@[simp] theorem execMstreamStart_agreed (core : Fin 384) (array : Fin 4) (s : State) (h : Agree s.time.sdt) : Result.Agreed (execMstreamStart core array s) := by
  unfold execMstreamStart
  split <;> simp [h]

@[simp] theorem State.rowFails_time (s : State) (g : Nat) (m : MatInstr) (n kblock loc : Nat) (e0 e1 : Int) :
    (s.rowFails g m n kblock loc e0 e1).time = s.time := by simp [State.rowFails]

@[simp] theorem State.rowPasses_time (s : State) (g : Nat) (m : MatInstr) (rows : List (Nat × WeightSet × ActRow × List (List Int))) :
    (s.rowPasses g m rows).time = s.time := by simp [State.rowPasses]

@[simp] theorem State.streamRow_time (s : State) (g : Nat) (m : MatInstr) (busErr : Bool) (u : List (Fin 4 × Fin 130 × Fin 8 × Int)) :
    (s.streamRow g m busErr u).time = s.time := by
  unfold State.streamRow
  dsimp only
  repeat' split
  all_goals simp

@[simp] theorem execMstreamRow_agreed (core : Fin 384) (busErr : Bool) (upset : List (Fin 4 × Fin 130 × Fin 8 × Int)) (s : State) (h : Agree s.time.sdt) :
    Result.Agreed (execMstreamRow core busErr upset s) := by
  unfold execMstreamRow
  split <;> simp [h]

@[simp] theorem execMstreamComplete_agreed (core : Fin 384) (s : State) (h : Agree s.time.sdt) : Result.Agreed (execMstreamComplete core s) := by
  unfold execMstreamComplete
  split <;> simp [h]

@[simp] theorem execMdrainStart_agreed (core : Fin 384) (array : Fin 4) (s : State) (h : Agree s.time.sdt) : Result.Agreed (execMdrainStart core array s) := by
  unfold execMdrainStart
  split <;> simp [h]

@[simp] theorem State.nonfinites_time (s : State) (die step src n : Nat) : (s.nonfinites die step src n).time = s.time := by simp [State.nonfinites]

@[simp] theorem State.drainPlain_time (s : State) (g n i : Nat) (m : MatInstr) (vs : List Val) : (s.drainPlain g n i m vs).time = s.time := by
  simp [State.drainPlain]

@[simp] theorem State.putBit_time (s : State) (g o index : Nat) (v : Bool) : (s.putBit g o index v).time = s.time := by simp [State.putBit]

@[simp] theorem State.drainBlock_time (s : State) (g i k : Nat) (m : MatInstr) (f : Fmt) (vs : List (Val × Nat)) : (s.drainBlock g i k m f vs).time = s.time := by
  simp [State.drainBlock]

@[simp] theorem State.drainMx_time (s : State) (g n i : Nat) (m : MatInstr) (f : Fmt) (vs : List Val) : (s.drainMx g n i m f vs).time = s.time := by
  simp [State.drainMx]

@[simp] theorem State.drainStep_time (s : State) (g n : Nat) (m : MatInstr) : (s.drainStep g n m).time = s.time := by
  unfold State.drainStep
  dsimp only
  repeat' split
  all_goals simp

@[simp] theorem execMdrainStep_agreed (core : Fin 384) (array : Fin 4) (s : State) (h : Agree s.time.sdt) : Result.Agreed (execMdrainStep core array s) := by
  unfold execMdrainStep
  split <;> simp [h]

@[simp] theorem execMdrainComplete_agreed (core : Fin 384) (array : Fin 4) (s : State) (h : Agree s.time.sdt) :
    Result.Agreed (execMdrainComplete core array s) := by
  unfold execMdrainComplete
  split <;> simp [h]

/-! ### The update engine -/

@[simp] theorem State.setJob_time (s : State) (j : UpdJob) : (s.setJob j).time = s.time := by simp [State.setJob]

@[simp] theorem State.jobTurn_agreed (s : State) (j : UpdJob) (ok : Bool) (t : State) (h : Agree s.time.sdt) (ht : Agree t.time.sdt) :
    Result.Agreed (s.jobTurn j ok t) := by
  unfold State.jobTurn
  split <;> simp [h, ht]

@[simp] theorem State.jobFault_time (s : State) (j : UpdJob) (code : Nat) : (s.jobFault j code).time = s.time := by simp [State.jobFault]
@[simp] theorem State.forgetStaging_time (s : State) (cores : List Nat) : (s.forgetStaging cores).time = s.time := by simp [State.forgetStaging]
@[simp] theorem State.clearArrays_time (s : State) (cores : List Nat) : (s.clearArrays cores).time = s.time := by simp [State.clearArrays]

@[simp] theorem State.finishJob_time (s : State) (id : Nat) : (s.finishJob id).time = s.time := by
  unfold State.finishJob
  split <;> simp

@[simp] theorem State.retireEntry_time (s : State) (id : Nat) : (s.retireEntry id).time = s.time := by
  unfold State.retireEntry
  split <;> simp

@[simp] theorem State.translateSpans_time (ctx : Nat → Bool → XCtx) (sps : List Span) (s : State) : (State.translateSpans ctx sps s).1.time = s.time := by
  induction sps generalizing s with
  | nil => rfl
  | cons sp rest ih =>
    unfold State.translateSpans
    have h1 := State.translateRange_time (ctx sp.va false) (if sp.write && sp.read then vaPieces sp.va sp.len else []) s
    split <;> rename_i he <;> rw [he] at h1
    · exact h1
    · rename_i s1 _
      have h2 := State.translateRange_time (ctx sp.va sp.write) (vaPieces sp.va sp.len) s1
      split <;> rename_i he' <;> rw [he'] at h2
      · exact h2.trans h1
      · rename_i s2 _
        have h3 := (ih s2).trans (h2.trans h1)
        split <;> rename_i he'' <;> rw [he''] at h3 <;> exact h3

@[simp] theorem State.spanData_time (s : State) (ctx : Nat → Bool → XCtx) (a : Agent) (die step asid : Nat) (pos : Nat × Nat × Nat) (spans : List Span) :
    (s.spanData ctx a die step asid pos spans).1.time = s.time := by
  unfold State.spanData
  have ht := State.translateSpans_time ctx spans s
  split <;> rename_i he <;> rw [he] at ht
  · exact ht
  · rename_i s1 pss
    have hf := (s1.fetchPieces_time a die step asid pos (((spans.zip pss).map (fun p => if p.1.read then p.2 else [])).flatten)).trans ht
    dsimp only
    split <;> rename_i he' <;> rw [he'] at hf <;> exact hf

@[simp] theorem State.dropLoads_time (s : State) (a : Agent) : (s.dropLoads a).time = s.time := by simp [State.dropLoads]

@[simp] theorem State.parkJob_time (s : State) (j : UpdJob) (kind level va : Nat) (write : Bool) (unit : Nat) :
    (s.parkJob j kind level va write unit).time = s.time := by simp [State.parkJob]

@[simp] theorem State.unitData_time (s : State) (j : UpdJob) (unit : Nat) (spans : List Span) : (s.unitData j unit spans).1.time = s.time := by
  simp [State.unitData]

@[simp] theorem State.unitWork_time (s : State) (j : UpdJob) (unit : Nat) (spans : List Span) (k : State → List Bytes → List Pieces → State)
    (hk : ∀ s bss pss, (k s bss pss).time = s.time) :
    (s.unitWork j unit spans k).time = s.time := by
  unfold State.unitWork
  have hd := s.unitData_time j unit spans
  dsimp only
  split
  · rfl
  · split <;> simp_all

@[simp] theorem State.writeTarget_time (s : State) (j : UpdJob) (g va : Nat) (t : Target) (alloc : Bool) (bs : Bytes) :
    (s.writeTarget j g va t alloc bs).time = s.time := by
  unfold State.writeTarget
  split <;> simp

@[simp] theorem State.sendWaiting_time (n : Nat) (s : State) : (State.sendWaiting n s).time = s.time := by
  induction n generalizing s with
  | zero => rfl
  | succ n ih => unfold State.sendWaiting; split <;> simp [ih]

@[simp] theorem State.writePieces_time (s : State) (j : UpdJob) (g : Nat) (ps : Pieces) (bs : Bytes) : (s.writePieces j g ps bs).time = s.time :=
  List.foldlRecOn (motive := fun acc : State × Bytes => acc.1.time = s.time) _ _ rfl (fun acc ha p _ => by simp [ha])

@[simp] theorem State.pend_time (s : State) (j : UpdJob) (nothing empty : Bool) (u w : Nat) : (s.pend j nothing empty u w).time = s.time := by simp [State.pend]
@[simp] theorem State.refuseFrozen_time (s : State) (j : UpdJob) (ps : Pieces) : (s.refuseFrozen j ps).time = s.time := by simp [State.refuseFrozen]

@[simp] theorem State.beginEntry_time (s : State) (j : UpdJob) (list : List Nat) (bss : List Bytes) (pss : List Pieces) :
    (s.beginEntry j list bss pss).time = s.time := by simp [State.beginEntry]

@[simp] theorem State.takeParameter_time (s : State) (j : UpdJob) : (s.takeParameter j).time = s.time := by simp [State.takeParameter]

@[simp] theorem State.addFollow_time (s : State) (j : UpdJob) (kind : FollowKind) (pos : Nat) (desc : BitVec 1024) (rows : List UpdRow) (u w : Nat)
    (skipped : Bool) :
    (s.addFollow j kind pos desc rows u w skipped).time = s.time := by simp [State.addFollow]

@[simp] theorem State.writeWords_time (s : State) (j : UpdJob) (va : Nat) (rows : List UpdRow) (bytes : UpdRow → Bytes) :
    (s.writeWords j va rows bytes).time = s.time := by simp [State.writeWords]

@[simp] theorem State.takeRepublish_time (s : State) (j : UpdJob) : (s.takeRepublish j).time = s.time := by simp [State.takeRepublish]
@[simp] theorem State.takeEntry_time (s : State) (j : UpdJob) (e : Nat) : (s.takeEntry j e).time = s.time := by simp [State.takeEntry]

@[simp] theorem execUpdateEntry_agreed (job : Nat) (s : State) (h : Agree s.time.sdt) : Result.Agreed (execUpdateEntry job s) := by
  unfold execUpdateEntry
  split <;> simp [h]

@[simp] theorem State.clearGrad_time (s : State) (j : UpdJob) (ps : Pieces) (n : Nat) : (s.clearGrad j ps n).time = s.time := by simp [State.clearGrad]

@[simp] theorem State.chunkDone_time (s : State) (j : UpdJob) (bss : List Bytes) (pss : List Pieces) : (s.chunkDone j bss pss).time = s.time := by
  simp [State.chunkDone]

@[simp] theorem State.momentumDone_time (s : State) (j : UpdJob) (bss : List Bytes) (pss : List Pieces) : (s.momentumDone j bss pss).time = s.time := by
  simp [State.momentumDone]

@[simp] theorem State.applyDone_time (s : State) (j : UpdJob) (bss : List Bytes) (pss : List Pieces) : (s.applyDone j bss pss).time = s.time := by
  simp [State.applyDone]

@[simp] theorem execUpdateChunk_agreed (job : Nat) (s : State) (h : Agree s.time.sdt) : Result.Agreed (execUpdateChunk job s) := by
  unfold execUpdateChunk
  repeat' split
  all_goals simp [h]

@[simp] theorem State.lazyDone_time (s : State) (j : UpdJob) (k : Nat) (bss : List Bytes) (pss : List Pieces) : (s.lazyDone j k bss pss).time = s.time := by
  simp [State.lazyDone]

@[simp] theorem execLazyAdamRow_agreed (job : Nat) (s : State) (h : Agree s.time.sdt) : Result.Agreed (execLazyAdamRow job s) := by
  unfold execLazyAdamRow
  repeat' split
  all_goals simp [h]

@[simp] theorem State.foldDone_time (s : State) (j : UpdJob) (bss : List Bytes) : (s.foldDone j bss).time = s.time := by
  unfold State.foldDone
  split <;> simp

@[simp] theorem execChunkSumFold_agreed (job : Nat) (s : State) (h : Agree s.time.sdt) : Result.Agreed (execChunkSumFold job s) := by
  unfold execChunkSumFold
  repeat' split
  all_goals simp [h]

@[simp] theorem State.forgetSpace_time (s : State) (j : UpdJob) (ps : Pieces) : (s.forgetSpace j ps).time = s.time := by
  unfold State.forgetSpace
  exact State.foldl_time _ (fun s p => by split <;> simp) _ _

@[simp] theorem State.tileDone_time (s : State) (j : UpdJob) : (s.tileDone j).time = s.time := by simp [State.tileDone]

@[simp] theorem execOrthoProductTile_agreed (job : Nat) (s : State) (h : Agree s.time.sdt) : Result.Agreed (execOrthoProductTile job s) := by
  unfold execOrthoProductTile
  split <;> simp [h]

@[simp] theorem State.commitRec_time (s : State) (r : PendRec) : (s.commitRec r).time = s.time := by
  unfold State.commitRec
  dsimp only
  repeat' split
  all_goals simp

@[simp] theorem State.followRec_time (s : State) (r : PendRec) (skipped : Bool) : (s.followRec r skipped).time = s.time := by
  unfold State.followRec
  split <;> simp

@[simp] theorem State.updateEffect_time (s : State) (conj : Nat) (d : Decision) : (s.updateEffect conj d).time = s.time := by
  unfold State.updateEffect
  split <;> simp

@[simp] theorem State.discardUpdate_time (s : State) : s.discardUpdate.time = s.time := by simp [State.discardUpdate]

@[simp] theorem State.commitNotReady_time (s : State) (conj : Nat) (final : Bool) : (s.commitNotReady conj final).time = s.time := by
  simp [State.commitNotReady]

@[simp] theorem State.setFollow_time (s : State) (f : FollowOn) : (s.setFollow f).time = s.time := by simp [State.setFollow]
@[simp] theorem State.endFollow_time (s : State) (f : FollowOn) : (s.endFollow f).time = s.time := by simp [State.endFollow]

@[simp] theorem State.publishDone_time (s : State) (f : FollowOn) (j : UpdJob) (bss : List Bytes) (pss : List Pieces) :
    (s.publishDone f j bss pss).time = s.time := by simp [State.publishDone]

@[simp] theorem execPublishRow_agreed (rec : Nat) (s : State) (h : Agree s.time.sdt) : Result.Agreed (execPublishRow rec s) := by
  unfold execPublishRow
  split
  · simp [h]
  · refine s.jobTurn_agreed _ _ _ h ?_
    split <;> simp [h]

@[simp] theorem State.ratioDone_time (s : State) (f : FollowOn) (j : UpdJob) (ps : Pieces) : (s.ratioDone f j ps).time = s.time := by simp [State.ratioDone]

@[simp] theorem execRatioRecordWrite_agreed (rec : Nat) (s : State) (h : Agree s.time.sdt) : Result.Agreed (execRatioRecordWrite rec s) := by
  unfold execRatioRecordWrite
  split <;> simp [h]

@[simp] theorem State.sweepCounts_time (s : State) (c : List Nat) : (s.sweepCounts c).time = s.time := by simp [State.sweepCounts]

@[simp] theorem State.sweepDone_time (s : State) (f : FollowOn) (j : UpdJob) (bss : List Bytes) (pss : List Pieces) : (s.sweepDone f j bss pss).time = s.time := by
  simp [State.sweepDone]

@[simp] theorem execScaleSweepBlock_agreed (rec : Nat) (s : State) (h : Agree s.time.sdt) : Result.Agreed (execScaleSweepBlock rec s) := by
  unfold execScaleSweepBlock
  split <;> simp [h]

/-! ### Stopping, saving and restoring -/

@[simp] theorem State.stopCoreArrays_time (s : State) (g : Nat) : (s.stopCoreArrays g).time = s.time := by simp [State.stopCoreArrays]
@[simp] theorem State.stopArrays_time (s : State) : s.stopArrays.time = s.time := by simp [State.stopArrays]
@[simp] theorem State.stopFetches_time (s : State) : s.stopFetches.time = s.time := by simp [State.stopFetches]
@[simp] theorem State.stopUnits_time (s : State) : s.stopUnits.time = s.time := by simp [State.stopUnits]
@[simp] theorem State.preStop_time (s : State) : s.preStop.time = s.time := by simp [State.preStop]
@[simp] theorem State.preSave_time (s : State) : s.preSave.time = s.time := by simp [State.preSave]
@[simp] theorem State.preResume_time (s : State) : s.preResume.time = s.time := by simp [State.preResume]

@[simp] theorem State.restoreUpd_time (s : State) (ctx : Nat → Bytes) : (s.restoreUpd ctx).time = s.time := by
  unfold State.restoreUpd
  exact State.foldl_time _ (fun s p => by split <;> simp) _ _

@[simp] theorem State.saveBytes_time (s : State) (off : Nat) (bs : Bytes) : (s.saveBytes off bs).time = s.time := by simp [State.saveBytes]

/-- The time unit of a state is that of another: a predicate, so that no check compares the time units of long folds by computing them. -/
def State.SameTime (s t : State) : Prop := t.time = s.time

theorem State.SameTime.ite {s t u : State} {c : Prop} [Decidable c] (ht : s.SameTime t) (hu : s.SameTime u) : s.SameTime (if c then t else u) := by
  split <;> assumption
theorem State.SameTime.save {s t : State} (h : s.SameTime t) (off : Nat) (bs : Bytes) : s.SameTime (t.saveBytes off bs) := (t.saveBytes_time off bs).trans h
theorem State.SameTime.store {s t : State} (h : s.SameTime t) (a : Nat) (bs : Bytes) : s.SameTime (t.store a bs) := (t.store_time a bs).trans h
theorem State.SameTime.foldl {s t : State} {α : Type} (f : State → α → State) (hf : ∀ u a, s.SameTime u → s.SameTime (f u a)) (l : List α) (h : s.SameTime t) :
    s.SameTime (l.foldl f t) := List.foldlRecOn (motive := s.SameTime) l f h (fun t ht a _ => hf t a ht)

theorem State.writeSaveArea_sameTime (s : State) (kind abandoned : Nat) : s.SameTime (s.writeSaveArea kind abandoned) := by
  unfold State.writeSaveArea
  extract_lets t1 t2 t3 t4 t5
  have h3 : s.SameTime t3 := ((State.SameTime.save rfl _ _).save _ _).save _ _
  have h5 : s.SameTime t5 := State.SameTime.foldl _ (fun t g h => h.save _ _) _ (State.SameTime.foldl _ (fun t g h => h.save _ _) _ h3)
  refine .ite (State.SameTime.foldl _ (fun t g h => ?_) _ h5) h5
  generalize s.coreImages g = p
  exact (h.save _ _).save _ _
@[simp] theorem State.writeSaveArea_time (s : State) (kind abandoned : Nat) : (s.writeSaveArea kind abandoned).time = s.time :=
  s.writeSaveArea_sameTime kind abandoned

@[simp] theorem State.stopMovers_time (s : State) : s.stopMovers.time = s.time := by simp [State.stopMovers]
@[simp] theorem State.reachSafe_time (s : State) : s.reachSafe.time = s.time := by simp [State.reachSafe]

@[simp] theorem execPreemptStopDone_agreed (s : State) (h : Agree s.time.sdt) : Result.Agreed (execPreemptStopDone s) := by
  unfold execPreemptStopDone
  dsimp only
  simp [h]

@[simp] theorem execPreemptSaveDone_agreed (s : State) (h : Agree s.time.sdt) : Result.Agreed (execPreemptSaveDone s) := by
  unfold execPreemptSaveDone
  repeat' split
  all_goals simp [h]

@[simp] theorem State.checkMovers_time (s : State) : s.checkMovers.time = s.time := by simp [State.checkMovers]
@[simp] theorem State.checkUpdates_time (s : State) : s.checkUpdates.time = s.time := by simp [State.checkUpdates]

theorem State.checkCores_sameTime (s : State) : s.SameTime s.checkCores := by
  unfold State.checkCores
  exact State.SameTime.foldl _ (fun u g h => .ite h ((u.xFault_time _ _ _ _ _ _ _ _).trans h)) _ rfl
@[simp] theorem State.checkCores_time (s : State) : s.checkCores.time = s.time := s.checkCores_sameTime

@[simp] theorem State.checkArrays_time (s : State) : s.checkArrays.time = s.time := by simp [State.checkArrays]

theorem State.restoreAll_sameTime (s : State) : s.SameTime s.restoreAll := by
  unfold State.restoreAll
  extract_lets ctx t1 t2
  have h2 : s.SameTime t2 := State.restoreUpd_time t1 _
  exact State.SameTime.foldl _ (fun t g h => (h.store _ _).store _ _) _ h2
@[simp] theorem State.restoreAll_time (s : State) : s.restoreAll.time = s.time := s.restoreAll_sameTime

@[simp] theorem State.restartFetches_time (s : State) : s.restartFetches.time = s.time := by
  unfold State.restartFetches
  exact State.foldl_time _ (fun s p => State.foldl_time _ (fun s l => by split <;> simp) _ _) _ _

@[simp] theorem State.goOn_time (s : State) : s.goOn.time = s.time := by simp [State.goOn]

@[simp] theorem State.applyReleases_time (seqs abandons : List Nat) (s : State) : (State.applyReleases seqs abandons s).time = s.time := by
  unfold State.applyReleases
  exact (State.foldl_time _ (fun s q => by split <;> simp) _ _).trans (State.foldl_time _ (fun s q => by split <;> simp) _ _)

@[simp] theorem State.checkHeader_time (s : State) : s.checkHeader.time = s.time := by simp [State.checkHeader]
@[simp] theorem State.checkSaved_time (s : State) : s.checkSaved.time = s.time := by simp [State.checkSaved]

@[simp] theorem execPreemptRestoreDone_agreed (s : State) (h : Agree s.time.sdt) : Result.Agreed (execPreemptRestoreDone s) := by
  simp [execPreemptRestoreDone, h]

/-! ### Halts -/

@[simp] theorem State.stopThreads_time (s : State) : s.stopThreads.time = s.time := by simp [State.stopThreads]
@[simp] theorem State.saveHalt_time (s : State) (abandoned : Nat) : (s.saveHalt abandoned).time = s.time := by simp [State.saveHalt]
@[simp] theorem State.finishHalt_time (s : State) : s.finishHalt.time = s.time := by simp [State.finishHalt]
@[simp] theorem State.haltNow_time (s : State) (code : Nat) (missing : BitVec 512) : (s.haltNow code missing).time = s.time := by simp [State.haltNow]
@[simp] theorem State.enterFence_time (s : State) (l : Nat) : (s.enterFence l).time = s.time := by simp [State.enterFence]

@[simp] theorem State.stopAt_time (s : State) (r : Req) : (s.stopAt r).time = s.time := by
  unfold State.stopAt
  repeat' split
  all_goals simp

@[simp] theorem State.abandon_time (s : State) : s.abandon.time = s.time := by
  unfold State.abandon
  exact (State.saveHalt_time _ _).trans (State.foldl_time _ (fun s r => s.stopAt_time r) _ _)

@[simp] theorem execQuietRequestAbandon_agreed (s : State) (h : Agree s.time.sdt) : Result.Agreed (execQuietRequestAbandon s) := by
  unfold execQuietRequestAbandon
  split <;> simp [h]

/-! ### The link layer -/

@[simp] theorem State.enterLink_time (s : State) (l : Nat) (st : LinkSt) (code : Nat) : (s.enterLink l st code).time = s.time := by simp [State.enterLink]

@[simp] theorem State.compareIdentity_time (s : State) (l : Nat) : (s.compareIdentity l).time = s.time := by
  unfold State.compareIdentity
  repeat' split
  all_goals simp

@[simp] theorem execLinkRetryTimer_agreed (link : Fin 36) (s : State) (h : Agree s.time.sdt) : Result.Agreed (execLinkRetryTimer link s) := by
  unfold execLinkRetryTimer
  dsimp only
  repeat' split
  all_goals simp [h]

@[simp] theorem execLinkDetected_agreed (link : Fin 36) (s : State) (h : Agree s.time.sdt) : Result.Agreed (execLinkDetected link s) := by
  simp [execLinkDetected, h]

@[simp] theorem State.equalised_sdt (s : State) (l : Nat) (laneMap : BitVec 24) (polarity : BitVec 8) :
    (s.equalised l laneMap polarity).time.sdt = s.time.sdt := by simp [State.equalised]

@[simp] theorem execLinkEqualised_agreed (link : Fin 36) (laneMap : BitVec 24) (polarity : BitVec 8) (ok : Bool) (s : State) (h : Agree s.time.sdt) :
    Result.Agreed (execLinkEqualised link laneMap polarity ok s) := by simp [execLinkEqualised, h]

@[simp] theorem State.takeIdentity_time (s : State) (l : Nat) (m : IdentityMsg) : (s.takeIdentity l m).time = s.time := by simp [State.takeIdentity]
@[simp] theorem State.strand_time (s : State) (l : Nat) (f : TxFrame) : (s.strand l f).time = s.time := by simp [State.strand]
@[simp] theorem State.linkDown_sdt (s : State) (l : Nat) : (s.linkDown l).time.sdt = s.time.sdt := by simp [State.linkDown]

@[simp] theorem execLinkDown_agreed (link : Fin 36) (s : State) (h : Agree s.time.sdt) : Result.Agreed (execLinkDown link s) := by
  unfold execLinkDown
  split <;> simp [h]

@[simp] theorem State.retrain_time (s : State) (l : Nat) : (s.retrain l).time = s.time := by simp [State.retrain]

@[simp] theorem execLinkRetrain_agreed (link : Fin 36) (s : State) (h : Agree s.time.sdt) : Result.Agreed (execLinkRetrain link s) := by
  simp [execLinkRetrain, h]

@[simp] theorem execIdentity_agreed (link : Fin 36) (flit : BitVec 1600) (s : State) (h : Agree s.time.sdt) : Result.Agreed (execIdentity link flit s) := by
  simp [execIdentity, h]

@[simp] theorem State.takeCredits_time (s : State) (l x : Nat) : (s.takeCredits l x).time = s.time := by simp [State.takeCredits]

@[simp] theorem State.resend_time (s : State) (l : Nat) : (s.resend l).time = s.time := by
  unfold State.resend
  dsimp only
  split
  · rfl
  · rw [State.foldl_time _ (fun s p => by simp)]
    simp

@[simp] theorem execCreditUpdate_agreed (link : Fin 36) (flit : BitVec 1600) (s : State) (h : Agree s.time.sdt) :
    Result.Agreed (execCreditUpdate link flit s) := by simp [execCreditUpdate, h]

@[simp] theorem execNak_agreed (link : Fin 36) (flit : BitVec 1600) (s : State) (h : Agree s.time.sdt) : Result.Agreed (execNak link flit s) := by
  simp [execNak, h]

@[simp] theorem execReplayTimeout_agreed (link : Fin 36) (s : State) (h : Agree s.time.sdt) : Result.Agreed (execReplayTimeout link s) := by
  simp [execReplayTimeout, h]

@[simp] theorem State.frameArrived_time (s : State) (l vc : Nat) (p : RxPart) : (s.frameArrived l vc p).time = s.time := by simp [State.frameArrived]

@[simp] theorem State.takePayload_time (s : State) (l x : Nat) : (s.takePayload l x).time = s.time := by
  unfold State.takePayload
  dsimp only
  repeat' split
  all_goals simp

@[simp] theorem State.acceptFlit_time (s : State) (l x : Nat) : (s.acceptFlit l x).time = s.time := by simp [State.acceptFlit]
@[simp] theorem State.discardFlit_time (s : State) (l : Nat) : (s.discardFlit l).time = s.time := by simp [State.discardFlit]
@[simp] theorem State.fecCorrected_time (s : State) (l n : Nat) : (s.fecCorrected l n).time = s.time := by simp [State.fecCorrected]

@[simp] theorem execFlitReceived_agreed (link : Fin 36) (flit : RxFlit) (s : State) (h : Agree s.time.sdt) : Result.Agreed (execFlitReceived link flit s) := by
  simp [execFlitReceived, h]

@[simp] theorem execFenceNotice_agreed (link : Fin 36) (incarnation : BitVec 16) (s : State) (h : Agree s.time.sdt) :
    Result.Agreed (execFenceNotice link incarnation s) := by simp [execFenceNotice, h]

@[simp] theorem execFenceNoticeSend_agreed (link : Fin 36) (s : State) (h : Agree s.time.sdt) : Result.Agreed (execFenceNoticeSend link s) := by
  simp [execFenceNoticeSend, h]

@[simp] theorem State.dropStale_time (s : State) : s.dropStale.time = s.time := by simp [State.dropStale]

@[simp] theorem State.reviewLink_sdt (s : State) (l : Nat) : (s.reviewLink l).time.sdt = s.time.sdt := by
  unfold State.reviewLink
  dsimp only
  repeat' split
  all_goals simp

@[simp] theorem State.commitFabric_sdt (s : State) : s.commitFabric.time.sdt = s.time.sdt := by
  unfold State.commitFabric
  simp only [State.foldl_sdt _ State.reviewLink_sdt, State.foldl_time _ (fun (s : State) (g : Nat) => State.dset_time s _ _ _), State.lset_time]

@[simp] theorem State.recomputeStaged_time (s : State) : s.recomputeStaged.time = s.time := by
  unfold State.recomputeStaged
  exact State.foldl_time _ (fun s l => by simp) _ _

@[simp] theorem State.unfence_time (s : State) : s.unfence.time = s.time := by simp [State.unfence]

@[simp] theorem State.seamCredit_time (s : State) (route : List Nat) (hop vc : Nat) : (s.seamCredit route hop vc).time = s.time := by
  unfold State.seamCredit
  split <;> simp

@[simp] theorem State.seamFlit_time (s : State) (dir hand cls : Nat) (header ok : Bool) : (s.seamFlit dir hand cls header ok).time = s.time := by
  simp [State.seamFlit]

@[simp] theorem execSeamRidgeFlit_agreed (hop : SeamHop) (load : SeamLoad) (wire : SeamWire) (s : State) (h : Agree s.time.sdt) :
    Result.Agreed (execSeamRidgeFlit hop load wire s) := by
  unfold execSeamRidgeFlit
  dsimp only
  repeat' split
  all_goals simp [h]

@[simp] theorem execDieLost_agreed (die : Fin 4) (s : State) (h : Agree s.time.sdt) : Result.Agreed (execDieLost die s) := by simp [execDieLost, h]

/-! ### The fabric -/

@[simp] theorem State.dropFabric_time (s : State) (id : Nat) : (s.dropFabric id).time = s.time := by simp [State.dropFabric]
@[simp] theorem State.descFault_time (s : State) (a : Action) (l tag va : Nat) : (s.descFault a l tag va).time = s.time := by simp [State.descFault]

@[simp] theorem State.fabricXFault_time (s : State) (a : Action) (tag va : Nat) (x : Xlate) : (s.fabricXFault a tag va x).time = s.time := by
  unfold State.fabricXFault
  split <;> simp

@[simp] theorem State.actionWork_time (s : State) (a : Action) (tag : Nat) (spans : List Span) (k : State → List Bytes → List Pieces → State)
    (hk : ∀ s bss pss, (k s bss pss).time = s.time) :
    (s.actionWork a tag spans k).time = s.time := by
  unfold State.actionWork
  have hd := s.spanData_time a.ctx (.action a.id) a.transit.die a.step a.asid (0, 0, 0) spans
  split <;> simp_all

@[simp] theorem State.actionStore_time (s : State) (a : Action) (va : Nat) (t : Target) (alloc : Bool) (bs : Bytes) :
    (s.actionStore a va t alloc bs).time = s.time := by
  unfold State.actionStore
  split <;> simp

@[simp] theorem State.actionWrite_time (s : State) (a : Action) (ps : Pieces) (bs : Bytes) : (s.actionWrite a ps bs).time = s.time :=
  List.foldlRecOn (motive := fun acc : State × Bytes => acc.1.time = s.time) _ _ rfl (fun acc ha p _ => by simp [ha])

@[simp] theorem State.closeAction_time (s : State) (id : Nat) : (s.closeAction id).time = s.time := by simp [State.closeAction]
@[simp] theorem State.takeGateInc_time (s : State) (f : Frame) : (s.takeGateInc f).time = s.time := by simp [State.takeGateInc]
@[simp] theorem execGateInc_agreed (s : State) (h : Agree s.time.sdt) : Result.Agreed (execGateInc s) := takeFrame_agreed _ _ h (fun r f t ht => by simp [ht])

@[simp] theorem State.takeGateAck_time (s : State) (f : Frame) : (s.takeGateAck f).time = s.time := by
  unfold State.takeGateAck
  split <;> simp

@[simp] theorem execGateAck_agreed (s : State) (h : Agree s.time.sdt) : Result.Agreed (execGateAck s) := takeFrame_agreed _ _ h (fun r f t ht => by simp [ht])
@[simp] theorem State.openWindow_time (s : State) (a : Action) (d : Nat) (dst : Pieces) : (s.openWindow a d dst).time = s.time := by simp [State.openWindow]
@[simp] theorem State.startWindow_time (s : State) (a : Action) : (s.startWindow a).time = s.time := by simp [State.startWindow]

@[simp] theorem State.windowOut_time (s : State) (a : Action) (w : WinOut) (t : Target) (body : Bytes) (eth : Nat → Nat → Frame → State → State)
    (heth : ∀ l n f s, (eth l n f s).time = s.time) :
    (s.windowOut a w t body eth).time = s.time := by
  simp [State.windowOut, heth]

@[simp] theorem State.sendWindow_time (s : State) (a : Action) (w : WinOut) (eth : Nat → Nat → Frame → State → State)
    (heth : ∀ l n f s, (eth l n f s).time = s.time) :
    (s.sendWindow a w eth).time = s.time := by
  simp [State.sendWindow, heth]

@[simp] theorem State.finishWindow_time (s : State) (w : WinOut) : (s.finishWindow w).time = s.time := by
  unfold State.finishWindow
  split <;> simp

@[simp] theorem State.finishWindows_time (s : State) : s.finishWindows.time = s.time := by simp [State.finishWindows]
@[simp] theorem State.foreignWrite_time (s : State) (a : Nat) (bs : Bytes) : (s.foreignWrite a bs).time = s.time := by simp [State.foreignWrite]

@[simp] theorem State.takeWindow_time (s : State) (f : Frame) (back : Frame → State → State) (hback : ∀ f s, (back f s).time = s.time) :
    (s.takeWindow f back).time = s.time := by
  simp [State.takeWindow, hback]

@[simp] theorem State.takeWindowDone_time (s : State) (f : Frame) : (s.takeWindowDone f).time = s.time := by
  unfold State.takeWindowDone
  split <;> simp

/-! ### Ethernet-mode links -/

@[simp] theorem State.ethSend_time (s : State) (l sport tx : Nat) (ackOnly : Bool) (frame : Bytes) : (s.ethSend l sport tx ackOnly frame).time = s.time := by
  simp [State.ethSend]

@[simp] theorem ethPump_time (l n : Nat) (s : State) : (ethPump l n s).time = s.time := by
  induction n generalizing s with
  | zero => rfl
  | succ n ih =>
    unfold ethPump
    dsimp only
    split
    · rfl
    · split
      · rfl
      · simp [ih]

@[simp] theorem State.pumpEth_time (s : State) (l : Nat) : (s.pumpEth l).time = s.time := by simp [State.pumpEth]
@[simp] theorem ethFrame_time (l seq : Nat) (f : Frame) (s : State) : (ethFrame l seq f s).time = s.time := by simp [ethFrame]
@[simp] theorem State.ethAck_time (s : State) (l : Nat) : (s.ethAck l).time = s.time := by simp [State.ethAck]
@[simp] theorem State.ethDrop_time (s : State) (l : Nat) : (s.ethDrop l).time = s.time := by simp [State.ethDrop]

@[simp] theorem State.relay_time (s : State) (l : Nat) (f : Frame) : (s.relay l f).2.time = s.time := by
  unfold State.relay
  dsimp only
  repeat' split
  all_goals simp

@[simp] theorem State.relayFrame_time (s : State) (l : Nat) (f : Frame) : (s.relayFrame l f).time = s.time := by simp [State.relayFrame]
@[simp] theorem State.ethDeliver_time (s : State) (l : Nat) (bs : Bytes) : (s.ethDeliver l bs).time = s.time := by simp [State.ethDeliver]
@[simp] theorem State.ethDatagram_time (s : State) (l : Nat) (ce : Bool) (data : Bytes) : (s.ethDatagram l ce data).time = s.time := by simp [State.ethDatagram]

@[simp] theorem State.ethPacket_time (s : State) (l : Nat) (bs : Bytes) : (s.ethPacket l bs).time = s.time := by
  unfold State.ethPacket
  repeat' split
  all_goals simp

@[simp] theorem execEthPacket_agreed (link : Fin 36) (packet : List Byte) (s : State) (h : Agree s.time.sdt) : Result.Agreed (execEthPacket link packet s) := by
  simp [execEthPacket, h]

@[simp] theorem State.ethResend_time (s : State) (l : Nat) : (s.ethResend l).time = s.time := by simp [State.ethResend]
@[simp] theorem execEthLinkUp_agreed (link : Fin 36) (s : State) (h : Agree s.time.sdt) : Result.Agreed (execEthLinkUp link s) := by simp [execEthLinkUp, h]

@[simp] theorem execEthLinkLost_agreed (link : Fin 36) (s : State) (h : Agree s.time.sdt) : Result.Agreed (execEthLinkLost link s) := by
  simp [execEthLinkLost, h]

@[simp] theorem execEthRetransmitTimeout_agreed (link : Fin 36) (s : State) (h : Agree s.time.sdt) : Result.Agreed (execEthRetransmitTimeout link s) := by
  simp [execEthRetransmitTimeout, h]

@[simp] theorem execEthAckTimer_agreed (link : Fin 36) (s : State) (h : Agree s.time.sdt) : Result.Agreed (execEthAckTimer link s) := by
  simp [execEthAckTimer, h]

@[simp] theorem execEthNeighborSolicitation_agreed (link : Fin 36) (packet : List Byte) (s : State) (h : Agree s.time.sdt) :
    Result.Agreed (execEthNeighborSolicitation link packet s) := by
  unfold execEthNeighborSolicitation
  repeat' split
  all_goals simp [h]

@[simp] theorem execEthEchoRequest_agreed (link : Fin 36) (packet : List Byte) (s : State) (h : Agree s.time.sdt) :
    Result.Agreed (execEthEchoRequest link packet s) := by
  unfold execEthEchoRequest
  repeat' split
  all_goals simp [h]

@[simp] theorem execWindowFrameSend_agreed (window : Nat) (s : State) (h : Agree s.time.sdt) : Result.Agreed (execWindowFrameSend window s) := by
  unfold execWindowFrameSend
  repeat' split
  all_goals simp [h]

@[simp] theorem State.takeDone_time (s : State) (f : Frame) : (s.takeDone f).time = s.time := by
  unfold State.takeDone
  split <;> simp

@[simp] theorem execWindowDone_agreed (s : State) (h : Agree s.time.sdt) : Result.Agreed (execWindowDone s) :=
  takeFrame_agreed _ _ h (fun r f t ht => by simp [ht])

@[simp] theorem windowBack_time (r : RxFrame) (f : Frame) (s : State) : (windowBack r f s).time = s.time := by simp [windowBack]

@[simp] theorem State.takeWindowFrame_time (s : State) (r : RxFrame) (f : Frame) (t : State) (h : s.takeWindowFrame = some (r, f, t)) : t.time = s.time := by
  unfold State.takeWindowFrame at h
  split at h
  · cases h
  · cases h; rfl

@[simp] theorem execWindowData_agreed (s : State) (h : Agree s.time.sdt) : Result.Agreed (execWindowData s) := by
  unfold execWindowData
  split
  · simp [h]
  · rename_i he
    simp [State.takeWindowFrame_time s _ _ _ he, h]

/-! ### Reductions -/

@[simp] theorem State.setRoot_time (s : State) (r : RedRoot) : (s.setRoot r).time = s.time := by simp [State.setRoot]
@[simp] theorem State.grantMore_time (s : State) (a : Action) (r : RedRoot) : (s.grantMore a r).time = s.time := by simp [State.grantMore]
@[simp] theorem State.reduceDone_time (s : State) (id : Nat) : (s.reduceDone id).time = s.time := by simp [State.reduceDone]
@[simp] theorem State.setContrib_time (s : State) (c : RedContrib) : (s.setContrib c).time = s.time := by simp [State.setContrib]

@[simp] theorem pumpContrib_time (a : Action) (index n : Nat) (s : State) : (pumpContrib a index n s).time = s.time := by
  induction n generalizing s with
  | zero => rfl
  | succ n ih =>
    unfold pumpContrib
    repeat' split
    all_goals simp [ih]

@[simp] theorem State.pumpContribs_time (s : State) (a : Action) : (s.pumpContribs a).time = s.time := by simp [State.pumpContribs]
@[simp] theorem State.takeEarly_time (s : State) (c : RedContrib) : (s.takeEarly c).1.time = s.time := by simp [State.takeEarly]

@[simp] theorem State.openReduce_time (s : State) (a : Action) (d : Nat) (entries : List Nat) (root : Bool) (mine : List (Nat × Nat)) :
    (s.openReduce a d entries root mine).time = s.time := by simp [State.openReduce]

@[simp] theorem State.startReduce_time (s : State) (a : Action) : (s.startReduce a).time = s.time := by simp [State.startReduce]
@[simp] theorem State.stagingDrop_time (s : State) (die tag : Nat) : (s.stagingDrop die tag).time = s.time := by simp [State.stagingDrop]

@[simp] theorem State.takeGrant_time (s : State) (f : Frame) : (s.takeGrant f).time = s.time := by
  unfold State.takeGrant
  dsimp only
  repeat' split
  all_goals simp

@[simp] theorem execReduceGrant_agreed (s : State) (h : Agree s.time.sdt) : Result.Agreed (execReduceGrant s) :=
  takeFrame_agreed _ _ h (fun r f t ht => by simp [ht])

@[simp] theorem State.takeContrib_time (s : State) (f : Frame) : (s.takeContrib f).time = s.time := by
  unfold State.takeContrib
  dsimp only
  repeat' split
  all_goals simp

@[simp] theorem execReduceContrib_agreed (s : State) (h : Agree s.time.sdt) : Result.Agreed (execReduceContrib s) :=
  takeFrame_agreed _ _ h (fun r f t ht => by simp [ht])

@[simp] theorem State.takeReduceAck_time (s : State) (f : Frame) : (s.takeReduceAck f).time = s.time := by
  unfold State.takeReduceAck
  dsimp only
  repeat' split
  all_goals simp

@[simp] theorem execReduceAck_agreed (s : State) (h : Agree s.time.sdt) : Result.Agreed (execReduceAck s) :=
  takeFrame_agreed _ _ h (fun r f t ht => by simp [ht])

@[simp] theorem State.segmentWritten_time (s : State) (a : Action) (r : RedRoot) (seg : Nat) : (s.segmentWritten a r seg).time = s.time := by
  simp [State.segmentWritten]

@[simp] theorem State.combineSegment_time (s : State) (a : Action) (r : RedRoot) (x : RedSeg) : (s.combineSegment a r x).time = s.time := by
  simp [State.combineSegment]

@[simp] theorem execReduceSegmentCombine_agreed (root segment : Nat) (s : State) (h : Agree s.time.sdt) :
    Result.Agreed (execReduceSegmentCombine root segment s) := by
  unfold execReduceSegmentCombine
  repeat' split
  all_goals simp [h]

/-! ### Token exchanges -/

@[simp] theorem State.useVectors_time (s : State) (x : Exchange) : (s.useVectors x).time = s.time := by simp [State.useVectors]
@[simp] theorem State.setExch_time (s : State) (x : Exchange) : (s.setExch x).time = s.time := by simp [State.setExch]

@[simp] theorem State.exchDone_time (s : State) (id : Nat) : (s.exchDone id).time = s.time := by
  unfold State.exchDone
  split <;> simp

@[simp] theorem State.sendFragment_time (s : State) (a : Action) (x : Exchange) (t : TokSend) (rest : List TokSend) :
    (s.sendFragment a x t rest).time = s.time := by simp [State.sendFragment]

@[simp] theorem pumpRows_time (a : Action) (n : Nat) (s : State) : (pumpRows a n s).time = s.time := by
  induction n generalizing s with
  | zero => rfl
  | succ n ih =>
    unfold pumpRows
    repeat' split
    all_goals simp [ih]

@[simp] theorem State.pumpExch_time (s : State) (a : Action) : (s.pumpExch a).time = s.time := by
  unfold State.pumpExch
  split <;> simp

@[simp] theorem State.beginRows_time (s : State) (a : Action) (x : Exchange) (n : List (List Nat)) : (s.beginRows a x n).time = s.time := by
  simp [State.beginRows]

@[simp] theorem State.tryRows_time (s : State) (a : Action) : (s.tryRows a).time = s.time := by
  unfold State.tryRows
  repeat' split
  all_goals simp

@[simp] theorem State.sendCounts_time (s : State) (a : Action) (x : Exchange) : (s.sendCounts a x).time = s.time := by simp [State.sendCounts]

@[simp] theorem State.startDispatch_time (s : State) (a : Action) (d : Nat) (group : List Nat) (map : List (Nat × Nat)) :
    (s.startDispatch a d group map).time = s.time := by simp [State.startDispatch]

@[simp] theorem State.startReturn_time (s : State) (a : Action) (d : Nat) (group : List Nat) (map : List (Nat × Nat)) :
    (s.startReturn a d group map).time = s.time := by
  unfold State.startReturn
  refine State.actionWork_time _ _ _ _ _ (fun s bs pss => ?_)
  refine State.actionWork_time _ _ _ _ _ (fun s bs pss => ?_)
  refine State.actionWork_time _ _ _ _ _ (fun s bs pss => ?_)
  exact (State.pumpExch_time _ _).trans (State.foldl_time _ (fun s ps => by simp) _ _)

@[simp] theorem State.startExchange_time (s : State) (a : Action) : (s.startExchange a).time = s.time := by
  unfold State.startExchange
  exact State.ite_keeps (by simp) (State.actionWork_time _ _ _ _ _ (fun s bs pss => State.ite_keeps (by simp) (by simp)))

@[simp] theorem State.addPart_time (s : State) (f : Frame) : (s.addPart f).time = s.time := by simp [State.addPart]

@[simp] theorem State.takeCounts_time (s : State) (f : Frame) : (s.takeCounts f).time = s.time := by
  unfold State.takeCounts
  dsimp only
  repeat' split
  all_goals simp

@[simp] theorem execTokenCounts_agreed (s : State) (h : Agree s.time.sdt) : Result.Agreed (execTokenCounts s) :=
  takeFrame_agreed _ _ h (fun r f t ht => by simp [h, ht])

@[simp] theorem State.rowComplete_time (s : State) (a : Action) (x : Exchange) (f : Frame) (r : TokRow) : (s.rowComplete a x f r).time = s.time := by
  simp [State.rowComplete]

@[simp] theorem State.takeRow_time (s : State) (a : Action) (x : Exchange) (f : Frame) : (s.takeRow a x f).time = s.time := by simp [State.takeRow]

@[simp] theorem execTokenRow_agreed (s : State) (h : Agree s.time.sdt) : Result.Agreed (execTokenRow s) := by
  refine takeFrame_agreed _ _ h (fun r f t ht => ?_)
  simp only [next_agreed, State.freeFrame_time]
  split
  · simp [ht]
  · split <;> simp [ht]

@[simp] theorem State.takeTokenAck_time (s : State) (f : Frame) : (s.takeTokenAck f).time = s.time := by
  unfold State.takeTokenAck
  split <;> simp

@[simp] theorem execTokenAck_agreed (s : State) (h : Agree s.time.sdt) : Result.Agreed (execTokenAck s) := takeFrame_agreed _ _ h (fun r f t ht => by simp [ht])

/-! ### Remote accesses -/

@[simp] theorem State.answer_time (s : State) (ftype : Nat) (f : Frame) (poison : Option Nat) (data : Bytes) : (s.answer ftype f poison data).time = s.time := by
  simp [State.answer]

@[simp] theorem State.refuseForeign_time (s : State) (lpa : Nat) : (s.refuseForeign lpa).time = s.time := by simp [State.refuseForeign]
@[simp] theorem State.countForeign_time (s : State) (f : Frame) : (s.countForeign f).time = s.time := by simp [State.countForeign]

@[simp] theorem State.serveRead_time (s : State) (f : Frame) : (s.serveRead f).time = s.time := by
  unfold State.serveRead
  dsimp only
  repeat' split
  all_goals simp

@[simp] theorem State.takeRequest_agreed (s : State) (ftype : Nat) (serve : Frame → State → State) (hserve : ∀ f s, (serve f s).time = s.time)
    (h : Agree s.time.sdt) :
    Result.Agreed (s.takeRequest ftype serve) := takeFrame_agreed _ _ h (fun r f t ht => by simp [hserve, h, ht])

@[simp] theorem execMemRead_agreed (s : State) (h : Agree s.time.sdt) : Result.Agreed (execMemRead s) := by simp [execMemRead, h]
@[simp] theorem State.serveWrite_time (s : State) (f : Frame) : (s.serveWrite f).time = s.time := by simp [State.serveWrite]
@[simp] theorem execMemWrite_agreed (s : State) (h : Agree s.time.sdt) : Result.Agreed (execMemWrite s) := by simp [execMemWrite, h]
@[simp] theorem State.serveAdd_time (s : State) (f : Frame) : (s.serveAdd f).time = s.time := by simp [State.serveAdd]
@[simp] theorem execMemWriteAdd_agreed (s : State) (h : Agree s.time.sdt) : Result.Agreed (execMemWriteAdd s) := by simp [execMemWriteAdd, h]

@[simp] theorem State.resumeAction_time (s : State) (id : Nat) : (s.resumeAction id).time = s.time := by
  unfold State.resumeAction
  repeat' split
  all_goals simp

@[simp] theorem State.takeReadData_time (s : State) (f : Frame) : (s.takeReadData f).time = s.time := by
  unfold State.takeReadData
  repeat' split
  all_goals simp

@[simp] theorem execReadData_agreed (s : State) (h : Agree s.time.sdt) : Result.Agreed (execReadData s) := takeFrame_agreed _ _ h (fun r f t ht => by simp [ht])

@[simp] theorem State.takeWriteAck_time (s : State) (f : Frame) : (s.takeWriteAck f).time = s.time := by
  unfold State.takeWriteAck
  repeat' split
  all_goals simp

@[simp] theorem execWriteAck_agreed (s : State) (h : Agree s.time.sdt) : Result.Agreed (execWriteAck s) := takeFrame_agreed _ _ h (fun r f t ht => by simp [ht])

/-! ### The Sidereal unit -/

@[simp] theorem idleTick_agree (s : State) (h : Agree s.time.sdt) : Agree (idleTick s).time.sdt := by
  unfold idleTick
  split <;> simp [h]

@[simp] theorem State.atBoundary_agree (s : State) (h : Agree s.time.sdt) : Agree s.atBoundary.time.sdt := by
  unfold State.atBoundary
  split <;> simp [h]

@[simp] theorem State.atGuard_agree (s : State) : Agree s.atGuard.time.sdt := by simp [State.atGuard]
@[simp] theorem State.follow_sdt (s : State) (l : Nat) : (s.follow l).time.sdt = s.time.sdt := by simp [State.follow]

@[simp] theorem State.clockLost_sdt (s : State) : s.clockLost.time.sdt = s.time.sdt := by
  unfold State.clockLost
  dsimp only
  repeat' split
  all_goals simp

@[simp] theorem execParentClockLost_agreed (s : State) (h : Agree s.time.sdt) : Result.Agreed (execParentClockLost s) := by simp [execParentClockLost, h]

@[simp] theorem execParentLinkRecovered_agreed (link : Fin 36) (s : State) (h : Agree s.time.sdt) : Result.Agreed (execParentLinkRecovered link s) := by
  unfold execParentLinkRecovered
  split <;> simp [h]

@[simp] theorem State.sendBeacon_sdt (s : State) (l : Nat) : (s.sendBeacon l).time.sdt = s.time.sdt := by simp [State.sendBeacon]
@[simp] theorem execBeaconRequestSend_agreed (s : State) (h : Agree s.time.sdt) : Result.Agreed (execBeaconRequestSend s) := by simp [execBeaconRequestSend, h]

@[simp] theorem execUnusedParentBeacon_agreed (link : Fin 36) (s : State) (h : Agree s.time.sdt) : Result.Agreed (execUnusedParentBeacon link s) := by
  simp [execUnusedParentBeacon, h]

theorem State.takeBeacon_time (s : State) (response : Bool) (r : RxFrame) (f : Frame) (t : State) (h : s.takeBeacon response = some (r, f, t)) :
    t.time = s.time := by
  unfold State.takeBeacon at h
  dsimp only at h
  split at h
  · cases h
  · cases h; rfl

@[simp] theorem State.goodBeacon_time (s : State) (r : RxFrame) (f : Frame) : (s.goodBeacon r f).2.time = s.time := by
  unfold State.goodBeacon
  dsimp only
  repeat' split
  all_goals simp

@[simp] theorem State.answerBeacon_time (s : State) (r : RxFrame) (f : Frame) (t2frac t3frac turn : Nat) :
    (s.answerBeacon r f t2frac t3frac turn).time = s.time := by simp [State.answerBeacon]

@[simp] theorem execBeaconRequest_agreed (t2frac t3frac : Fin 256) (turn : Nat) (s : State) (h : Agree s.time.sdt) :
    Result.Agreed (execBeaconRequest t2frac t3frac turn s) := by
  unfold execBeaconRequest
  split
  · simp [h]
  · have ht := State.takeBeacon_time _ _ _ _ _ ‹_›
    simp [ht, h]

@[simp] theorem State.sampled_sdt (s : State) : s.sampled.time.sdt = s.time.sdt := by
  unfold State.sampled
  split <;> simp

@[simp] theorem State.takeResponse_sdt (s : State) (b : Beacon) (l : Nat) (t4 : Int) : (s.takeResponse b l t4).time.sdt = s.time.sdt := by
  simp [State.takeResponse]

@[simp] theorem execBeaconResponse_agreed (t4frac : Fin 256) (s : State) (h : Agree s.time.sdt) : Result.Agreed (execBeaconResponse t4frac s) := by
  unfold execBeaconResponse
  split
  · simp [h]
  · have ht := State.takeBeacon_time _ _ _ _ _ ‹_›
    dsimp only
    simp only [next_agreed, State.freeFrame_time]
    split <;> simp [ht, h]

@[simp] theorem Agree.map {p : PerDie (BitVec 64)} (h : Agree p) (f : BitVec 64 → BitVec 64) : Agree (pmap f p) := fun d d' => by
  rw [pget_pmap, pget_pmap, h d d']
@[simp] theorem State.slew_agree (s : State) (h : Agree s.time.sdt) : Agree s.slew.time.sdt := by
  unfold State.slew
  repeat' split
  all_goals simp [h, Agree.map]

/-! ### The Almanac -/

@[simp] theorem State.checkPoison_time (s : State) (a n code : Nat) (k : State → State × CheckResult) (hk : ∀ s, (k s).1.time = s.time) :
    (s.checkPoison a n code k).1.time = s.time := by
  unfold State.checkPoison
  dsimp only
  split <;> simp [hk]

@[simp] theorem State.checkTable_time (s : State) (h : AlmHeader) (size crc : Nat) : (s.checkTable h size crc).1.time = s.time := by
  unfold State.checkTable
  split
  · rfl
  · split
    · rfl
    · refine State.checkPoison_time _ _ _ _ _ (fun s => ?_)
      dsimp only
      repeat' split
      all_goals rfl

@[simp] theorem State.checkBuffer_time (s : State) (buf : Buf) : (s.checkBuffer buf).1.time = s.time := by
  unfold State.checkBuffer
  dsimp only
  split
  · rfl
  · refine State.checkPoison_time _ _ _ _ _ (fun s => ?_)
    repeat' split
    all_goals simp

@[simp] theorem State.leaveHalted_time (s : State) : s.leaveHalted.time = s.time := by simp [State.leaveHalted]
@[simp] theorem State.dropStaged_time (s : State) : s.dropStaged.time = s.time := by simp [State.dropStaged]
@[simp] theorem State.arm_time (s : State) (buf : Buf) : (s.arm buf).time = s.time := by simp [State.arm]
@[simp] theorem State.stage_time (s : State) (buf : Buf) : (s.stage buf).time = s.time := by simp [State.stage]
@[simp] theorem State.disarm_time (s : State) : s.disarm.time = s.time := by simp [State.disarm]
@[simp] theorem State.armClears_time (s : State) : s.armClears.time = s.time := by simp [State.armClears]
@[simp] theorem State.freshAlmanac_time (s : State) (h : AlmHeader) : (s.freshAlmanac h).time = s.time := by simp [State.freshAlmanac]
@[simp] theorem State.armDone_time (s : State) (h : AlmHeader) : (s.armDone h).time = s.time := by simp [State.armDone]

@[simp] theorem State.armChecked_time (s : State) (buf : Buf) : (s.armChecked buf).time = s.time := by
  unfold State.armChecked
  dsimp only
  repeat' split
  all_goals simp

@[simp] theorem State.stageChecked_time (s : State) (buf : Buf) : (s.stageChecked buf).time = s.time := by
  unfold State.stageChecked
  dsimp only
  repeat' split
  all_goals simp

@[simp] theorem execAlmanacCheckDone_agreed (s : State) (h : Agree s.time.sdt) : Result.Agreed (execAlmanacCheckDone s) := by
  unfold execAlmanacCheckDone
  split <;> simp [h]

@[simp] theorem State.evaluateGates_time (s : State) : s.evaluateGates.time = s.time := by simp [State.evaluateGates]
@[simp] theorem State.startAlmanac_time (s : State) : s.startAlmanac.time = s.time := by simp [State.startAlmanac]
@[simp] theorem execAlmanacStart_agreed (s : State) (h : Agree s.time.sdt) : Result.Agreed (execAlmanacStart s) := by simp [execAlmanacStart, h]
@[simp] theorem execPauseResume_agreed (s : State) (h : Agree s.time.sdt) : Result.Agreed (execPauseResume s) := by simp [execPauseResume, h]

@[simp] theorem State.readDescriptor_time (s : State) (h : AlmHeader) (a : Nat) : (s.readDescriptor h a).time = s.time := by
  unfold State.readDescriptor
  split <;> simp

@[simp] theorem State.readDue_time (n : Nat) (s : State) : (State.readDue n s).time = s.time := by
  induction n generalizing s with
  | zero => rfl
  | succ n ih =>
    unfold State.readDue
    split
    · split <;> simp [ih]
    · rfl

@[simp] theorem execAlmanacDescriptorRead_agreed (s : State) (h : Agree s.time.sdt) : Result.Agreed (execAlmanacDescriptorRead s) := by
  unfold execAlmanacDescriptorRead
  split <;> simp [h]

/-! ### Conjunctions -/

@[simp] theorem State.contributed_time (s : State) : s.contributed.time = s.time := by simp [State.contributed]
@[simp] theorem State.openConjunction_time (s : State) (h : AlmHeader) (k c : Nat) : (s.openConjunction h k c).time = s.time := by simp [State.openConjunction]

@[simp] theorem State.guardSample_agree (s : State) : Agree s.guardSample.time.sdt := by
  unfold State.guardSample
  dsimp only
  repeat' split
  all_goals simp

@[simp] theorem execGuardBandSample_agreed (s : State) (h : Agree s.time.sdt) : Result.Agreed (execGuardBandSample s) := by simp [execGuardBandSample, h]
@[simp] theorem State.setWindow_time (s : State) (w : Window) : (s.setWindow w).time = s.time := by simp [State.setWindow]
@[simp] theorem State.sendVector_time (s : State) (w : Window) : (s.sendVector w).time = s.time := by simp [State.sendVector]
@[simp] theorem State.sendSeal_time (s : State) (w : Window) : (s.sendSeal w).time = s.time := by simp [State.sendSeal]
@[simp] theorem State.lateFrame_time (s : State) : s.lateFrame.time = s.time := by simp [State.lateFrame]

@[simp] theorem State.takeVector_time (s : State) (f : Frame) : (s.takeVector f).time = s.time := by
  unfold State.takeVector
  split <;> simp

@[simp] theorem execAgreement_agreed (s : State) (h : Agree s.time.sdt) : Result.Agreed (execAgreement s) :=
  takeFrame_agreed _ _ h (fun r f t ht => by simp [ht])

@[simp] theorem State.takeSeal_time (s : State) (f : Frame) : (s.takeSeal f).time = s.time := by
  unfold State.takeSeal
  split <;> simp

@[simp] theorem execSeal_agreed (s : State) (h : Agree s.time.sdt) : Result.Agreed (execSeal s) := takeFrame_agreed _ _ h (fun r f t ht => by simp [ht])

@[simp] theorem State.deadline_agreed (s : State) (n closed : Nat) (h : Agree s.time.sdt) : Result.Agreed (s.deadline n closed) := by
  unfold State.deadline
  split <;> simp [h]

@[simp] theorem execVectorDeadline_agreed (s : State) (h : Agree s.time.sdt) : Result.Agreed (execVectorDeadline s) := by simp [execVectorDeadline, h]
@[simp] theorem execSealDeadline_agreed (s : State) (h : Agree s.time.sdt) : Result.Agreed (execSealDeadline s) := by simp [execSealDeadline, h]
@[simp] theorem State.windowSlot_time (s : State) (w : Window) : (s.windowSlot w).time = s.time := by simp [State.windowSlot]
@[simp] theorem State.windowSlots_time (s : State) : s.windowSlots.time = s.time := by simp [State.windowSlots]
@[simp] theorem State.latch_time (s : State) (w : Window) : (s.latch w).time = s.time := by simp [State.latch]

@[simp] theorem execConjunctionDecision_agreed (s : State) (h : Agree s.time.sdt) : Result.Agreed (execConjunctionDecision s) := by
  unfold execConjunctionDecision
  split <;> simp [h]

@[simp] theorem State.bindSkip_time (s : State) (step : Nat) : (s.bindSkip step).time = s.time := by simp [State.bindSkip]
@[simp] theorem State.completeAlmanac_time (s : State) : s.completeAlmanac.time = s.time := by simp [State.completeAlmanac]
@[simp] theorem State.activate_sdt (s : State) (h : AlmHeader) : (s.activate h).time.sdt = s.time.sdt := by simp [State.activate]

@[simp] theorem State.applyDecision_sdt (s : State) (w : Window) : (s.applyDecision w).time.sdt = s.time.sdt := by
  unfold State.applyDecision
  dsimp only
  repeat' split
  all_goals simp

@[simp] theorem State.conjunctionEffect_sdt (s : State) (w : Window) : (s.conjunctionEffect w).time.sdt = s.time.sdt := by
  unfold State.conjunctionEffect
  split <;> simp

@[simp] theorem execConjunctionEffect_agreed (s : State) (h : Agree s.time.sdt) : Result.Agreed (execConjunctionEffect s) := by
  unfold execConjunctionEffect
  split <;> simp [h]

/-! ### The log, telemetry and test -/

@[simp] theorem State.enqueueRec_time (s : State) (r : LogRec) : (s.enqueueRec r).time = s.time := by simp [State.enqueueRec]
@[simp] theorem State.arriveRec_time (s : State) (r : LogRec) : (s.arriveRec r).time = s.time := by simp [State.arriveRec]
@[simp] theorem State.lostRec_time (s : State) : s.lostRec.time = s.time := by simp [State.lostRec]
@[simp] theorem State.programRec_time (s : State) (r : LogRec) : (s.programRec r).time = s.time := by simp [State.programRec]
@[simp] theorem State.flushLog_time (s : State) : s.flushLog.time = s.time := by simp [State.flushLog]

@[simp] theorem execLogRecordArrival_agreed (s : State) (h : Agree s.time.sdt) : Result.Agreed (execLogRecordArrival s) := by
  unfold execLogRecordArrival
  split <;> simp [h]

@[simp] theorem execLogProgram_agreed (s : State) (h : Agree s.time.sdt) : Result.Agreed (execLogProgram s) := by
  unfold execLogProgram
  split <;> simp [h]

@[simp] theorem State.teleQueue_time (s : State) (bs : Bytes) : (s.teleQueue bs).time = s.time := by simp [State.teleQueue]
@[simp] theorem State.teleSample_time (s : State) : s.teleSample.time = s.time := by simp [State.teleSample]
@[simp] theorem execTelemetrySample_agreed (s : State) (h : Agree s.time.sdt) : Result.Agreed (execTelemetrySample s) := by simp [execTelemetrySample, h]
@[simp] theorem State.teleStore_time (s : State) (off : Nat) (bs : Bytes) : (s.teleStore off bs).time = s.time := by simp [State.teleStore]
@[simp] theorem State.teleWrite_time (s : State) (bs : Bytes) (rest : List Bytes) : (s.teleWrite bs rest).time = s.time := by simp [State.teleWrite]

@[simp] theorem execTelemetryWrite_agreed (s : State) (h : Agree s.time.sdt) : Result.Agreed (execTelemetryWrite s) := by
  unfold execTelemetryWrite
  split <;> simp [h]

@[simp] theorem State.testCore_time (s : State) (g : Nat) : (s.testCore g).time = s.time := by simp [State.testCore]
@[simp] theorem State.startTest_time (s : State) (v : Nat) : (s.startTest v).time = s.time := by simp [State.startTest]

@[simp] theorem execCoreTestDone_agreed (failed : List (Fin 384)) (block : Nat) (s : State) (h : Agree s.time.sdt) :
    Result.Agreed (execCoreTestDone failed block s) := by simp [execCoreTestDone, h]

@[simp] theorem State.tap_time (s : State) (d : Nat) (op : TapOp) : (s.tap d op).time = s.time := by
  unfold State.tap
  dsimp only
  repeat' split
  all_goals simp

@[simp] theorem execTapInstruction_agreed (d01 d23 : TapOp × TapOp) (s : State) (h : Agree s.time.sdt) : Result.Agreed (execTapInstruction d01 d23 s) := by
  simp [execTapInstruction, h]

@[simp] theorem execTestLogicReset_agreed (s : State) (h : Agree s.time.sdt) : Result.Agreed (execTestLogicReset s) := by simp [execTestLogicReset, h]

/-! ### The start sequence and resets -/

@[simp] theorem State.cleanStop_time (s : State) : s.cleanStop.time = s.time := by
  unfold State.cleanStop
  split <;> simp

@[simp] theorem State.resetTo_agree (s : State) (cause : Nat) (lost : Bool) : Agree (s.resetTo cause lost).time.sdt := agree_all 0
@[simp] theorem State.packageReset_agree (s : State) (cause : Nat) : Agree (s.packageReset cause).time.sdt := by simp [State.packageReset]
@[simp] theorem State.setFwSlot_time (s : State) (i : Nat) (f : FlashSlot) : (s.setFwSlot i f).time = s.time := by simp [State.setFwSlot]
@[simp] theorem State.noteVerdict_time (s : State) (i v : Nat) : (s.noteVerdict i v).time = s.time := by simp [State.noteVerdict]
@[simp] theorem State.takeChunk_time (s : State) (bytes : Bytes) : (s.takeChunk bytes).time = s.time := by simp [State.takeChunk]

@[simp] theorem execFwEraseDone_agreed (s : State) (h : Agree s.time.sdt) : Result.Agreed (execFwEraseDone s) := by
  unfold execFwEraseDone
  split <;> simp [h]

@[simp] theorem execVerifyTargetDone_agreed (check : ImageCheck) (s : State) (h : Agree s.time.sdt) : Result.Agreed (execVerifyTargetDone check s) := by
  simp [execVerifyTargetDone, h]

@[simp] theorem State.measure_time (s : State) (n : Nat) (bs : Bytes) : (s.measure n bs).time = s.time := by simp [State.measure]
@[simp] theorem State.measureImage_time (s : State) (i : Nat) : (s.measureImage i).time = s.time := by simp [State.measureImage]
@[simp] theorem State.measureFuses_time (s : State) : s.measureFuses.time = s.time := by simp [State.measureFuses]
@[simp] theorem State.measureConfig_time (s : State) : s.measureConfig.time = s.time := by simp [State.measureConfig]
@[simp] theorem State.measureKeys_time (s : State) : s.measureKeys.time = s.time := by simp [State.measureKeys]
@[simp] theorem State.attest_time (s : State) (nonce : Bytes) : (s.attest nonce).time = s.time := by simp [State.attest]
@[simp] theorem State.toPhase_time (s : State) (n : Nat) : (s.toPhase n).time = s.time := by simp [State.toPhase]
@[simp] theorem State.bootEvent_time (s : State) (code value slot : Nat) : (s.bootEvent code value slot).time = s.time := by simp [State.bootEvent]
@[simp] theorem State.enterDim_agree (s : State) (reason : Nat) : Agree (s.enterDim reason).time.sdt := agree_all 0
@[simp] theorem State.failStart_time (s : State) (phase : Nat) : (s.failStart phase).time = s.time := by simp [State.failStart]
@[simp] theorem State.startReplay_time (s : State) : s.startReplay.time = s.time := by simp [State.startReplay]

@[simp] theorem execPackageResetRelease_agreed (s : State) (h : Agree s.time.sdt) : Result.Agreed (execPackageResetRelease s) := by
  simp [execPackageResetRelease, h]

@[simp] theorem execRomPhaseDone_agreed (ok0 ok2 : Bool) (s : State) (h : Agree s.time.sdt) : Result.Agreed (execRomPhaseDone ok0 ok2 s) := by
  simp [execRomPhaseDone, h]

@[simp] theorem State.trySlots_time (s : State) (verdict : Nat → Nat) (is : List Nat) : (s.trySlots verdict is).1.time = s.time := by
  induction is generalizing s with
  | nil => rfl
  | cons i rest ih =>
    unfold State.trySlots
    dsimp only
    split <;> split <;> simp [ih]

@[simp] theorem State.selectImage_agree (s : State) (a b : ImageCheck) (h : Agree s.time.sdt) : Agree (s.selectImage a b).time.sdt := by
  unfold State.selectImage
  dsimp only
  split
  · simp
  · have ht := time_of_fst (State.trySlots_time _ _ _) ‹_›
    split <;> simp [ht, h]

@[simp] theorem execImagePhaseDone_agreed (a b : ImageCheck) (s : State) (h : Agree s.time.sdt) : Result.Agreed (execImagePhaseDone a b s) := by
  simp [execImagePhaseDone, h]

@[simp] theorem execPowerPhaseDone_agreed (s : State) (h : Agree s.time.sdt) : Result.Agreed (execPowerPhaseDone s) := by simp [execPowerPhaseDone, h]

@[simp] theorem State.reviewLock_sdt (s : State) : s.reviewLock.time.sdt = s.time.sdt := by
  unfold State.reviewLock
  dsimp only
  repeat' split
  all_goals simp

@[simp] theorem execClocksPhaseDone_agreed (refclkGood : Bool) (s : State) (h : Agree s.time.sdt) : Result.Agreed (execClocksPhaseDone refclkGood s) := by
  simp [execClocksPhaseDone, h, agree_all]

@[simp] theorem execPairingPhaseDone_agreed (s : State) (h : Agree s.time.sdt) : Result.Agreed (execPairingPhaseDone s) := by
  unfold execPairingPhaseDone
  split <;> simp [h]

@[simp] theorem execSramPhaseDone_agreed (s : State) (h : Agree s.time.sdt) : Result.Agreed (execSramPhaseDone s) := by simp [execSramPhaseDone, h]

@[simp] theorem State.inherit_time (s : State) (d n : Nat) : (s.inherit d n).time = s.time := by
  unfold State.inherit
  split <;> simp

@[simp] theorem State.retireOn_time (s : State) (d : Nat) (failed : List Nat) : (s.retireOn d failed).time = s.time := by simp [State.retireOn]

@[simp] theorem execCoresPhaseDone_agreed (failed : List (Fin 4 × Nat)) (s : State) (h : Agree s.time.sdt) : Result.Agreed (execCoresPhaseDone failed s) := by
  simp [execCoresPhaseDone, h]

@[simp] theorem execMemoryPhaseDone_agreed (s : State) (h : Agree s.time.sdt) : Result.Agreed (execMemoryPhaseDone s) := by simp [execMemoryPhaseDone, h]

@[simp] theorem execFirmwareLoadPhaseDone_agreed (s : State) (h : Agree s.time.sdt) : Result.Agreed (execFirmwareLoadPhaseDone s) := by
  simp [execFirmwareLoadPhaseDone, h]

@[simp] theorem State.trainLinks_time (s : State) : s.trainLinks.time = s.time := by
  unfold State.trainLinks
  exact State.foldl_time _ (fun s l => by simp) _ _

@[simp] theorem execLinksPhaseDone_agreed (s : State) (h : Agree s.time.sdt) : Result.Agreed (execLinksPhaseDone s) := by simp [execLinksPhaseDone, h]
@[simp] theorem State.startComplete_time (s : State) : s.startComplete.time = s.time := by simp [State.startComplete]

@[simp] theorem execDictionaryPhaseDone_agreed (s : State) (h : Agree s.time.sdt) : Result.Agreed (execDictionaryPhaseDone s) := by
  simp [execDictionaryPhaseDone, h]

@[simp] theorem execStartFailed_agreed (s : State) (h : Agree s.time.sdt) : Result.Agreed (execStartFailed s) := by simp [execStartFailed, h]
@[simp] theorem State.loseLodestar_time (s : State) (d : Nat) : (s.loseLodestar d).time = s.time := by simp [State.loseLodestar]
@[simp] theorem execLeaderHeartbeat_agreed (s : State) (h : Agree s.time.sdt) : Result.Agreed (execLeaderHeartbeat s) := by simp [execLeaderHeartbeat, h]
@[simp] theorem State.spdmLost_time (s : State) (ts : List Nat) : (s.spdmLost ts).time = s.time := by simp [State.spdmLost]
@[simp] theorem State.changeLeader_time (s : State) : s.changeLeader.time = s.time := by simp [State.changeLeader]
@[simp] theorem execLeaderChange_agreed (s : State) (h : Agree s.time.sdt) : Result.Agreed (execLeaderChange s) := by simp [execLeaderChange, h]

@[simp] theorem execLodestarFailure_agreed (die : Fin 4) (s : State) (h : Agree s.time.sdt) : Result.Agreed (execLodestarFailure die s) := by
  simp [execLodestarFailure, h]

/-! ### Power -/

@[simp] theorem State.powerEvent_time (s : State) (code die which : Nat) (reading : Int) (cause : Nat) :
    (s.powerEvent code die which reading cause).time = s.time := by simp [State.powerEvent]

@[simp] theorem State.quotient_time (s : State) (n d : Nat) : (s.quotient n d).2.time = s.time := by
  unfold State.quotient
  split <;> simp

@[simp] theorem State.reviewDemand_time (s : State) : s.reviewDemand.time = s.time := by simp [State.reviewDemand]
@[simp] theorem State.setThrottle_agree (s : State) (t step : Nat) : Agree (s.setThrottle t step).time.sdt := by simp [State.setThrottle]
@[simp] theorem execThrottleStepRaise_agreed (s : State) (h : Agree s.time.sdt) : Result.Agreed (execThrottleStepRaise s) := by simp [execThrottleStepRaise, h]

@[simp] theorem execThrottleStepLower_agreed (s : State) (h : Agree s.time.sdt) : Result.Agreed (execThrottleStepLower s) := by
  unfold execThrottleStepLower
  split <;> simp [h]

@[simp] theorem State.setSupply_time (s : State) (st : SupplyState) (mv : Nat) : (s.setSupply st mv).time = s.time := by simp [State.setSupply]

@[simp] theorem execSupplyWarning_agreed (mv : Nat) (s : State) (h : Agree s.time.sdt) : Result.Agreed (execSupplyWarning mv s) := by
  simp [execSupplyWarning, h]

@[simp] theorem execSupplyLow_agreed (mv : Nat) (s : State) (h : Agree s.time.sdt) : Result.Agreed (execSupplyLow mv s) := by simp [execSupplyLow, h]

@[simp] theorem execSupplyLowCleared_agreed (mv : Nat) (s : State) (h : Agree s.time.sdt) : Result.Agreed (execSupplyLowCleared mv s) := by
  simp [execSupplyLowCleared, h]

@[simp] theorem execSupplyRecovered_agreed (mv : Nat) (s : State) (h : Agree s.time.sdt) : Result.Agreed (execSupplyRecovered mv s) := by
  simp [execSupplyRecovered, h]

@[simp] theorem execOverVoltage_agreed (mv : Nat) (s : State) (h : Agree s.time.sdt) : Result.Agreed (execOverVoltage mv s) := by simp [execOverVoltage, h]

@[simp] theorem execOverVoltageCleared_agreed (mv : Nat) (s : State) (h : Agree s.time.sdt) : Result.Agreed (execOverVoltageCleared mv s) := by
  simp [execOverVoltageCleared, h]

@[simp] theorem State.supplyReset_agree (s : State) (cause : Nat) (reading : Int) (volts : Bool) : Agree (s.supplyReset cause reading volts).time.sdt := by
  simp [State.supplyReset]

@[simp] theorem execSupplyReset_agreed (mv : Nat) (s : State) (h : Agree s.time.sdt) : Result.Agreed (execSupplyReset mv s) := by simp [execSupplyReset, h]

@[simp] theorem execOverVoltageReset_agreed (mv : Nat) (s : State) (h : Agree s.time.sdt) : Result.Agreed (execOverVoltageReset mv s) := by
  simp [execOverVoltageReset, h]

@[simp] theorem execOverCurrentReset_agreed (ma : Nat) (s : State) (h : Agree s.time.sdt) : Result.Agreed (execOverCurrentReset ma s) := by
  simp [execOverCurrentReset, h]

@[simp] theorem execVinRise_agreed (mv : Nat) (s : State) (h : Agree s.time.sdt) : Result.Agreed (execVinRise mv s) := by simp [execVinRise, h]
@[simp] theorem execVinStable_agreed (mv : Nat) (s : State) (h : Agree s.time.sdt) : Result.Agreed (execVinStable mv s) := by simp [execVinStable, h]
@[simp] theorem execPowerLoss_agreed (mv : Nat) (s : State) (h : Agree s.time.sdt) : Result.Agreed (execPowerLoss mv s) := by simp [execPowerLoss, h]
@[simp] theorem execReversePolarity_agreed (s : State) (h : Agree s.time.sdt) : Result.Agreed (execReversePolarity s) := by simp [execReversePolarity, h]
@[simp] theorem State.railsOff_sdt (s : State) : s.railsOff.time.sdt = s.time.sdt := by simp [State.railsOff]

@[simp] theorem execRailFault_agreed (die : Fin 4) (rail mv : Nat) (s : State) (h : Agree s.time.sdt) : Result.Agreed (execRailFault die rail mv s) := by
  simp [execRailFault, h]

@[simp] theorem execRailFaultReset_agreed (s : State) (h : Agree s.time.sdt) : Result.Agreed (execRailFaultReset s) := by simp [execRailFaultReset, h]
@[simp] theorem State.setThermal_time (s : State) (n : Nat) : (s.setThermal n).time = s.time := by simp [State.setThermal]

@[simp] theorem execSenseOpen_agreed (kind : Nat) (die : Fin 4) (which reading : Nat) (s : State) (h : Agree s.time.sdt) :
    Result.Agreed (execSenseOpen kind die which reading s) := by
  unfold execSenseOpen
  repeat' split
  all_goals simp [h]

@[simp] theorem State.holdCold_time (s : State) : s.holdCold.time = s.time := by simp [State.holdCold]

@[simp] theorem execCoolantSensor_agreed (sensor : Fin 4) (failed : Bool) (reading : Int) (s : State) (h : Agree s.time.sdt) :
    Result.Agreed (execCoolantSensor sensor failed reading s) := by simp [execCoolantSensor, h]

@[simp] theorem State.junctionSample_time (s : State) (readings : List (List Int)) : (s.junctionSample readings).time = s.time := by
  unfold State.junctionSample
  refine State.foldl_time _ (fun s d => ?_) _ _
  dsimp only
  split <;> simp

@[simp] theorem execThermalDemandRevise_agreed (s : State) (h : Agree s.time.sdt) : Result.Agreed (execThermalDemandRevise s) := by
  simp [execThermalDemandRevise, h]

@[simp] theorem State.trip_time (s : State) (d : Nat) : (s.trip d).time = s.time := by simp [State.trip]
@[simp] theorem execThermalTrip_agreed (die : Fin 4) (s : State) (h : Agree s.time.sdt) : Result.Agreed (execThermalTrip die s) := by simp [execThermalTrip, h]

@[simp] theorem execThermalTripShutdown_agreed (s : State) (h : Agree s.time.sdt) : Result.Agreed (execThermalTripShutdown s) := by
  simp [execThermalTripShutdown, h]

@[simp] theorem execThermalCooldownReset_agreed (s : State) (h : Agree s.time.sdt) : Result.Agreed (execThermalCooldownReset s) := by
  simp [execThermalCooldownReset, h]

@[simp] theorem execThermalCutoff_agreed (die : Fin 4) (s : State) (h : Agree s.time.sdt) : Result.Agreed (execThermalCutoff die s) := by
  simp [execThermalCutoff, h]

@[simp] theorem State.coolant_time (s : State) (tin tout : Int) (power : Nat) : (s.coolant tin tout power).time = s.time := by simp [State.coolant]

@[simp] theorem execCoolantAverage_agreed (sensors : List Int) (tin tout : Int) (power : Nat) (s : State) (h : Agree s.time.sdt) :
    Result.Agreed (execCoolantAverage sensors tin tout power s) := by
  unfold execCoolantAverage
  split
  · simp
  · simp [State.foldl_time _ (fun (s : State) (i : Nat) => s.dset_time _ _ _), h]

@[simp] theorem State.inletCeiling_time (s : State) : s.inletCeiling.2.time = s.time := by
  unfold State.inletCeiling
  dsimp only
  repeat' split
  all_goals simp

@[simp] theorem State.publishCeiling_time (s : State) : s.publishCeiling.time = s.time := by simp [State.publishCeiling]

@[simp] theorem execPowerCeilingPublish_agreed (s : State) (h : Agree s.time.sdt) : Result.Agreed (execPowerCeilingPublish s) := by
  simp [execPowerCeilingPublish, h]

@[simp] theorem State.controlPower_time (s : State) (power ma : Nat) : (s.controlPower power ma).time = s.time := by simp [State.controlPower]

@[simp] theorem execPowerControl_agreed (power ma : Nat) (s : State) (h : Agree s.time.sdt) : Result.Agreed (execPowerControl power ma s) := by
  simp [execPowerControl, h]

@[simp] theorem State.canary_time (s : State) (d : Nat) (m : Int) : (s.canary d m).time = s.time := by simp [State.canary]

@[simp] theorem execCanaryMeasure_agreed (margins : List Int) (s : State) (h : Agree s.time.sdt) : Result.Agreed (execCanaryMeasure margins s) := by
  simp [execCanaryMeasure, h]

@[simp] theorem execGuardBandRaise_agreed (die : Fin 4) (s : State) (h : Agree s.time.sdt) : Result.Agreed (execGuardBandRaise die s) := by
  simp [execGuardBandRaise, h]

@[simp] theorem execSensorCalibration_agreed (s : State) (h : Agree s.time.sdt) : Result.Agreed (execSensorCalibration s) := by simp [execSensorCalibration, h]

@[simp] theorem execCurrentSenseCalibration_agreed (s : State) (h : Agree s.time.sdt) : Result.Agreed (execCurrentSenseCalibration s) := by
  simp [execCurrentSenseCalibration, h]

@[simp] theorem execInterfaceCalibration_agreed (s : State) (h : Agree s.time.sdt) : Result.Agreed (execInterfaceCalibration s) := by
  simp [execInterfaceCalibration, h]

@[simp] theorem execFlashGarbageCollect_agreed (wear : Nat) (s : State) (h : Agree s.time.sdt) : Result.Agreed (execFlashGarbageCollect wear s) := by
  simp [execFlashGarbageCollect, h]

/-! ### Clocks and crossings -/

@[simp] theorem State.pllLock_sdt (s : State) (d : Nat) : (s.pllLock d).time.sdt = s.time.sdt := by
  unfold State.pllLock
  dsimp only
  repeat' split
  all_goals simp

@[simp] theorem execRootPllLock_agreed (die : Fin 4) (s : State) (h : Agree s.time.sdt) : Result.Agreed (execRootPllLock die s) := by simp [execRootPllLock, h]
@[simp] theorem execPllUnlock_agreed (die : Fin 4) (s : State) (h : Agree s.time.sdt) : Result.Agreed (execPllUnlock die s) := by simp [execPllUnlock, h]
@[simp] theorem execRefSwitch_agreed (s : State) (h : Agree s.time.sdt) : Result.Agreed (execRefSwitch s) := by simp [execRefSwitch, h]
@[simp] theorem State.setCrossing_time (s : State) (n : Nat) (c : Crossing) : (s.setCrossing n c).time = s.time := by simp [State.setCrossing]
@[simp] theorem State.overrun_time (s : State) (n : Nat) : (s.overrun n).time = s.time := by simp [State.overrun]

@[simp] theorem execCrossingOverrun_agreed (crossing : Nat) (s : State) (h : Agree s.time.sdt) : Result.Agreed (execCrossingOverrun crossing s) := by
  simp [execCrossingOverrun, h]

@[simp] theorem execCrossingReset_agreed (crossing : Nat) (s : State) (h : Agree s.time.sdt) : Result.Agreed (execCrossingReset crossing s) := by
  simp [execCrossingReset, h]

@[simp] theorem execCrossingReleaseHandshake_agreed (crossing : Nat) (s : State) (h : Agree s.time.sdt) :
    Result.Agreed (execCrossingReleaseHandshake crossing s) := by simp [execCrossingReleaseHandshake, h]

@[simp] theorem State.clearOverruns_time (s : State) : s.clearOverruns.time = s.time := by simp [State.clearOverruns]

@[simp] theorem State.requestReset_time (s : State) (cause : Nat) : (s.requestReset cause).time = s.time := by
  unfold State.requestReset
  split <;> simp

@[simp] theorem execResetDelayExpiry_agreed (s : State) (h : Agree s.time.sdt) : Result.Agreed (execResetDelayExpiry s) := by
  unfold execResetDelayExpiry
  split <;> simp [h]

@[simp] theorem execResetForceWritebackTimeout_agreed (s : State) (h : Agree s.time.sdt) : Result.Agreed (execResetForceWritebackTimeout s) := by
  simp [execResetForceWritebackTimeout, h]

/-! ### The host ports -/

@[simp] theorem State.skySnapshot_time (s : State) : s.skySnapshot.time = s.time := by simp [State.skySnapshot]
@[simp] theorem State.mirrorCheck_time (s : State) : s.mirrorCheck.time = s.time := by simp [State.mirrorCheck]

@[simp] theorem State.mirrorWrite_time (s : State) : s.mirrorWrite.time = s.time := by
  unfold State.mirrorWrite
  exact State.foldl_time _ (fun s n => by simp) _ _

@[simp] theorem State.mirrorStep_time (s : State) : s.mirrorStep.time = s.time := by simp [State.mirrorStep]

@[simp] theorem execDimSkylightSnapshot_agreed (s : State) (h : Agree s.time.sdt) : Result.Agreed (execDimSkylightSnapshot s) := by
  simp [execDimSkylightSnapshot, h]

@[simp] theorem State.resetPort_time (s : State) (p : Nat) (l0 : Bool) : (s.resetPort p l0).time = s.time := by simp [State.resetPort]
@[simp] theorem execPortReset_agreed (port : Fin 2) (s : State) (h : Agree s.time.sdt) : Result.Agreed (execPortReset port s) := by simp [execPortReset, h]

@[simp] theorem execConfigurationWrite_agreed (port : Fin 2) (busMaster d3hot : Bool) (bar2 : Nat) (s : State) (h : Agree s.time.sdt) :
    Result.Agreed (execConfigurationWrite port busMaster d3hot bar2 s) := by simp [execConfigurationWrite, h]

@[simp] theorem execPcieLinkUp_agreed (port : Fin 2) (s : State) (h : Agree s.time.sdt) : Result.Agreed (execPcieLinkUp port s) := by simp [execPcieLinkUp, h]
@[simp] theorem State.bar2Refused_time (s : State) (p : Nat) : (s.bar2Refused p).time = s.time := by simp [State.bar2Refused]
@[simp] theorem State.bar2Read_time (s : State) (p off n : Nat) : (s.bar2Read p off n).time = s.time := by simp [State.bar2Read]

@[simp] theorem execBar2Read_agreed (port : Fin 2) (offset : BitVec 64) (len : Nat) (s : State) (h : Agree s.time.sdt) :
    Result.Agreed (execBar2Read port offset len s) := by simp [execBar2Read, h]

@[simp] theorem State.bar2Write_time (s : State) (p off : Nat) (bs : Bytes) : (s.bar2Write p off bs).time = s.time := by simp [State.bar2Write]

@[simp] theorem execBar2Write_agreed (port : Fin 2) (offset : BitVec 64) (bytes : List Byte) (s : State) (h : Agree s.time.sdt) :
    Result.Agreed (execBar2Write port offset bytes s) := by simp [execBar2Write, h]

/-! ### The Object Dictionary -/

@[simp] theorem State.readEffect_time (s : State) (idx sub : Nat) : (s.readEffect idx sub).time = s.time := by simp [State.readEffect]
@[simp] theorem State.setKey_time (s : State) (slot : Nat) (bs : Bytes) : (s.setKey slot bs).time = s.time := by simp [State.setKey]

@[simp] theorem State.longApply_time (s : State) (idx sub : Nat) (bs : Bytes) : (s.longApply idx sub bs).time = s.time := by
  unfold State.longApply
  split <;> simp

@[simp] theorem State.writeLong_time (s : State) (via : Via) (e : Entry) (sub : Nat) (bs : Bytes) : (s.writeLong via e sub bs).1.time = s.time := by
  unfold State.writeLong
  dsimp only
  repeat' split
  all_goals simp

@[simp] theorem State.segSnapshot_time (s : State) (p : Nat) : (s.segSnapshot p).1.time = s.time := by
  unfold State.segSnapshot
  dsimp only
  repeat' split
  all_goals simp

@[simp] theorem State.segCommit_time (s : State) (p : Nat) : (s.segCommit p).1.time = s.time := by
  unfold State.segCommit
  dsimp only
  repeat' split
  all_goals simp

@[simp] theorem State.segDiscard_time (s : State) (p : Nat) : (s.segDiscard p).1.time = s.time := by simp [State.segDiscard]

@[simp] theorem State.segCommand_time (s : State) (p v : Nat) : (s.segCommand p v).1.time = s.time := by
  unfold State.segCommand
  split <;> simp

@[simp] theorem State.segChoose_time (s : State) (p v : Nat) : (s.segChoose p v).1.time = s.time := by
  unfold State.segChoose
  repeat' split
  all_goals simp

@[simp] theorem State.segWrite_time (s : State) (p w : Nat) (bs : Bytes) : (s.segWrite p w bs).1.time = s.time := by
  unfold State.segWrite
  dsimp only
  repeat' split
  all_goals simp

@[simp] theorem State.segView_time (s : State) (p w n : Nat) : (s.segView p w n).1.time = s.time := by
  unfold State.segView
  dsimp only
  repeat' split
  all_goals simp

@[simp] theorem State.fwControl_time (s : State) (v : Nat) : (s.fwControl v).time = s.time := by
  unfold State.fwControl
  split <;> simp

@[simp] theorem State.requestRetire_time (s : State) (d n : Nat) : (s.requestRetire d n).time = s.time := by simp [State.requestRetire]

@[simp] theorem State.almanacControl_time (s : State) (v : Nat) : (s.almanacControl v).time = s.time := by
  unfold State.almanacControl
  split <;> simp

@[simp] theorem State.preControl_time (s : State) (v : Nat) : (s.preControl v).time = s.time := by
  unfold State.preControl
  split <;> simp

@[simp] theorem State.teleMoved_time (s : State) : s.teleMoved.time = s.time := by simp [State.teleMoved]

@[simp] theorem State.shortApply_agree (s : State) (e : Entry) (sub v : Nat) (h : Agree s.time.sdt) : Agree (s.shortApply e sub v).time.sdt := by
  unfold State.shortApply
  split <;> simp [h]

@[simp] theorem State.writeShort_agree (s : State) (via : Via) (e : Entry) (sub : Nat) (bs : Bytes) (h : Agree s.time.sdt) :
    Agree (s.writeShort via e sub bs).1.time.sdt := by
  unfold State.writeShort
  dsimp only
  repeat' split
  all_goals simp [h]

@[simp] theorem State.writeEntry_agree (s : State) (via : Via) (idx sub : Nat) (bs : Bytes) (h : Agree s.time.sdt) :
    Agree (s.writeEntry via idx sub bs).1.time.sdt := by
  unfold State.writeEntry
  repeat' split
  all_goals simp [h]

@[simp] theorem State.answerVia_time (s : State) (via : Via) (code idx sub : Nat) : (s.answerVia via code idx sub).time = s.time := by
  unfold State.answerVia
  split <;> simp

@[simp] theorem State.accessed_agreed (s : State) (via : Via) (idx sub : Nat) (r : State × Nat) (h : Agree s.time.sdt) (hr : Agree r.1.time.sdt) :
    Result.Agreed (s.accessed via idx sub r) := by
  unfold State.accessed
  split <;> simp [h, hr]

@[simp] theorem State.access_agreed (s : State) (via : Via) (idx sub : Nat) (bs : Bytes) (h : Agree s.time.sdt) : Result.Agreed (s.access via idx sub bs) := by
  simp [State.access, h]

@[simp] theorem State.regWrite_agreed (s : State) (via : Via) (idx sub v : Nat) (h : Agree s.time.sdt) : Result.Agreed (s.regWrite via idx sub v) := by
  unfold State.regWrite
  split <;> simp [h]

@[simp] theorem State.readEntry_time (s : State) (via : Via) (idx sub : Nat) : (s.readEntry via idx sub).1.time = s.time := by
  unfold State.readEntry
  repeat' split
  all_goals simp

@[simp] theorem State.slotRead_time (s : State) (p : Fin 2) (idx sub at_ n : Nat) : (s.slotRead p idx sub at_ n).1.time = s.time := by
  unfold State.slotRead
  dsimp only
  split
  · rfl
  · split
    · rfl
    · split
      · split <;> rfl
      · have hr := s.readEntry_time (.bar0 p) idx sub
        split <;> rename_i he <;> rw [he] at hr <;> exact hr

@[simp] theorem State.slotWrite_agree (s : State) (p : Fin 2) (idx sub at_ : Nat) (bs : Bytes) (h : Agree s.time.sdt) :
    Agree (s.slotWrite p idx sub at_ bs).1.time.sdt := by
  unfold State.slotWrite
  dsimp only
  repeat' split
  all_goals simp [h]

@[simp] theorem State.bar0Write_agreed (s : State) (p : Fin 2) (o : Nat) (bs : Bytes) (h : Agree s.time.sdt) : Result.Agreed (s.bar0Write p o bs) := by
  unfold State.bar0Write
  dsimp only
  repeat' split
  all_goals simp [h]

@[simp] theorem State.bar0Read_agreed (s : State) (p : Fin 2) (o n : Nat) (h : Agree s.time.sdt) : Result.Agreed (s.bar0Read p o n) := by
  unfold State.bar0Read
  dsimp only
  split
  · simp
  · refine s.accessed_agreed _ _ _ _ h ?_
    split <;> simp [h]

@[simp] theorem execRegisterWrite_agreed (via : Via) (index : BitVec 16) (sub : BitVec 8) (value : RegValue) (s : State) (h : Agree s.time.sdt) :
    Result.Agreed (execRegisterWrite via index sub value s) := by
  unfold execRegisterWrite
  split <;> simp [h]

@[simp] theorem execArmA_agreed (via : Via) (s : State) (h : Agree s.time.sdt) : Result.Agreed (execArmA via s) := by simp [execArmA, h]
@[simp] theorem execArmB_agreed (via : Via) (s : State) (h : Agree s.time.sdt) : Result.Agreed (execArmB via s) := by simp [execArmB, h]
@[simp] theorem execStageA_agreed (via : Via) (s : State) (h : Agree s.time.sdt) : Result.Agreed (execStageA via s) := by simp [execStageA, h]
@[simp] theorem execStageB_agreed (via : Via) (s : State) (h : Agree s.time.sdt) : Result.Agreed (execStageB via s) := by simp [execStageB, h]
@[simp] theorem execUnstage_agreed (via : Via) (s : State) (h : Agree s.time.sdt) : Result.Agreed (execUnstage via s) := by simp [execUnstage, h]
@[simp] theorem execDisarm_agreed (via : Via) (s : State) (h : Agree s.time.sdt) : Result.Agreed (execDisarm via s) := by simp [execDisarm, h]

@[simp] theorem execResumeSdtWrite_agreed (via : Via) (value : BitVec 64) (s : State) (h : Agree s.time.sdt) : Result.Agreed (execResumeSdtWrite via value s) := by
  simp [execResumeSdtWrite, h]

@[simp] theorem execParkRelease_agreed (via : Via) (value : BitVec 64) (s : State) (h : Agree s.time.sdt) : Result.Agreed (execParkRelease via value s) := by
  simp [execParkRelease, h]

@[simp] theorem execParkAbandon_agreed (via : Via) (value : BitVec 64) (s : State) (h : Agree s.time.sdt) : Result.Agreed (execParkAbandon via value s) := by
  simp [execParkAbandon, h]

@[simp] theorem execInvalRange_agreed (via : Via) (s : State) (h : Agree s.time.sdt) : Result.Agreed (execInvalRange via s) := by simp [execInvalRange, h]
@[simp] theorem execInvalAsid_agreed (via : Via) (s : State) (h : Agree s.time.sdt) : Result.Agreed (execInvalAsid via s) := by simp [execInvalAsid, h]
@[simp] theorem execInvalAll_agreed (via : Via) (s : State) (h : Agree s.time.sdt) : Result.Agreed (execInvalAll via s) := by simp [execInvalAll, h]
@[simp] theorem execStop_agreed (via : Via) (s : State) (h : Agree s.time.sdt) : Result.Agreed (execStop via s) := by simp [execStop, h]
@[simp] theorem execSave_agreed (via : Via) (s : State) (h : Agree s.time.sdt) : Result.Agreed (execSave via s) := by simp [execSave, h]
@[simp] theorem execResume_agreed (via : Via) (s : State) (h : Agree s.time.sdt) : Result.Agreed (execResume via s) := by simp [execResume, h]
@[simp] theorem execFabricCommit_agreed (via : Via) (s : State) (h : Agree s.time.sdt) : Result.Agreed (execFabricCommit via s) := by simp [execFabricCommit, h]

@[simp] theorem execDomainGeometryWrite_agreed (via : Via) (sub : Fin 256) (value : Nat) (s : State) (h : Agree s.time.sdt) :
    Result.Agreed (execDomainGeometryWrite via sub value s) := by simp [execDomainGeometryWrite, h]

@[simp] theorem execIncarnationWrite_agreed (via : Via) (value : Nat) (s : State) (h : Agree s.time.sdt) : Result.Agreed (execIncarnationWrite via value s) := by
  simp [execIncarnationWrite, h]

@[simp] theorem execMirrorPeriodWrite_agreed (via : Via) (value : Nat) (s : State) (h : Agree s.time.sdt) : Result.Agreed (execMirrorPeriodWrite via value s) := by
  simp [execMirrorPeriodWrite, h]

@[simp] theorem execHostGateInc_agreed (via : Via) (value : Nat) (s : State) (h : Agree s.time.sdt) : Result.Agreed (execHostGateInc via value s) := by
  simp [execHostGateInc, h]

@[simp] theorem execDimExit_agreed (via : Via) (value : Nat) (s : State) (h : Agree s.time.sdt) : Result.Agreed (execDimExit via value s) := by
  simp [execDimExit, h]

@[simp] theorem execVerifyTarget_agreed (via : Via) (s : State) (h : Agree s.time.sdt) : Result.Agreed (execVerifyTarget via s) := by simp [execVerifyTarget, h]
@[simp] theorem execTrialTarget_agreed (via : Via) (s : State) (h : Agree s.time.sdt) : Result.Agreed (execTrialTarget via s) := by simp [execTrialTarget, h]
@[simp] theorem execCancelTrial_agreed (via : Via) (s : State) (h : Agree s.time.sdt) : Result.Agreed (execCancelTrial via s) := by simp [execCancelTrial, h]

@[simp] theorem execSvnFloorWrite_agreed (via : Via) (value : Nat) (s : State) (h : Agree s.time.sdt) : Result.Agreed (execSvnFloorWrite via value s) := by
  simp [execSvnFloorWrite, h]

@[simp] theorem execFwKey0Revoke_agreed (via : Via) (value : Nat) (s : State) (h : Agree s.time.sdt) : Result.Agreed (execFwKey0Revoke via value s) := by
  simp [execFwKey0Revoke, h]

@[simp] theorem execCoreRetireRequest_agreed (via : Via) (die : Fin 4) (value : Nat) (s : State) (h : Agree s.time.sdt) :
    Result.Agreed (execCoreRetireRequest via die value s) := by simp [execCoreRetireRequest, h]

@[simp] theorem execOverrunClear_agreed (via : Via) (value : Nat) (s : State) (h : Agree s.time.sdt) : Result.Agreed (execOverrunClear via value s) := by
  simp [execOverrunClear, h]

@[simp] theorem execResetRequest_agreed (via : Via) (value : Nat) (s : State) (h : Agree s.time.sdt) : Result.Agreed (execResetRequest via value s) := by
  simp [execResetRequest, h]

@[simp] theorem execResetForce_agreed (via : Via) (value : Nat) (s : State) (h : Agree s.time.sdt) : Result.Agreed (execResetForce via value s) := by
  simp [execResetForce, h]

@[simp] theorem execCoreTest_agreed (via : Via) (value : Nat) (s : State) (h : Agree s.time.sdt) : Result.Agreed (execCoreTest via value s) := by
  simp [execCoreTest, h]

@[simp] theorem execTestAccessWrite_agreed (via : Via) (value : Nat) (s : State) (h : Agree s.time.sdt) : Result.Agreed (execTestAccessWrite via value s) := by
  simp [execTestAccessWrite, h]

@[simp] theorem execFwChunk_agreed (via : Via) (bytes : List Byte) (s : State) (h : Agree s.time.sdt) : Result.Agreed (execFwChunk via bytes s) := by
  simp [execFwChunk, h]

@[simp] theorem execAttestNonce_agreed (via : Via) (nonce : List Byte) (s : State) (h : Agree s.time.sdt) : Result.Agreed (execAttestNonce via nonce s) := by
  simp [execAttestNonce, h]

@[simp] theorem execOperatorKeyWrite_agreed (via : Via) (slot : Fin 8) (value : List Byte) (s : State) (h : Agree s.time.sdt) :
    Result.Agreed (execOperatorKeyWrite via slot value s) := by simp [execOperatorKeyWrite, h]

@[simp] theorem execShardGuardWrite_agreed (via : Via) (guard : Fin 64) (value : List Byte) (s : State) (h : Agree s.time.sdt) :
    Result.Agreed (execShardGuardWrite via guard value s) := by simp [execShardGuardWrite, h]

@[simp] theorem execSegSelect_agreed (port : Fin 2) (value : BitVec 32) (s : State) (h : Agree s.time.sdt) : Result.Agreed (execSegSelect port value s) := by
  simp [execSegSelect, h]

@[simp] theorem execSegSnapshot_agreed (port : Fin 2) (s : State) (h : Agree s.time.sdt) : Result.Agreed (execSegSnapshot port s) := by
  simp [execSegSnapshot, h]

@[simp] theorem execSegCommit_agreed (port : Fin 2) (s : State) (h : Agree s.time.sdt) : Result.Agreed (execSegCommit port s) := by simp [execSegCommit, h]
@[simp] theorem execSegDiscard_agreed (port : Fin 2) (s : State) (h : Agree s.time.sdt) : Result.Agreed (execSegDiscard port s) := by simp [execSegDiscard, h]

@[simp] theorem execSegWindowWrite_agreed (port : Fin 2) (offset : Nat) (bytes : List Byte) (s : State) (h : Agree s.time.sdt) :
    Result.Agreed (execSegWindowWrite port offset bytes s) := by simp [execSegWindowWrite, h]

@[simp] theorem execTrackingPeakRead_agreed (via : Via) (access : RegRead) (s : State) (h : Agree s.time.sdt) :
    Result.Agreed (execTrackingPeakRead via access s) := by
  unfold execTrackingPeakRead
  split <;> simp [h]

/-! ### The Dictionary Protocol, MCTP and I3C -/

@[simp] theorem State.takeCounter_time (s : State) (slot counter : Nat) : (s.takeCounter slot counter).time = s.time := by simp [State.takeCounter]
@[simp] theorem State.dropSegs_time (s : State) (p : ProtSeg → Bool) : (s.dropSegs p).time = s.time := by simp [State.dropSegs]
@[simp] theorem State.editSegs_time (s : State) (holder : Nat) (f : ProtSeg → ProtSeg) : (s.editSegs holder f).time = s.time := by simp [State.editSegs]
@[simp] theorem State.putSeg_time (s : State) (g : ProtSeg) : (s.putSeg g).time = s.time := by simp [State.putSeg]
@[simp] theorem State.segTake_time (s : State) (holder idx sub : Nat) (bs : Bytes) : (s.segTake holder idx sub bs).time = s.time := by simp [State.segTake]

@[simp] theorem State.segRead_time (s : State) (via : Via) (holder idx sub off n : Nat) : (s.segRead via holder idx sub off n).1.time = s.time := by
  unfold State.segRead
  dsimp only
  repeat' split
  all_goals simp

@[simp] theorem State.segStage_time (s : State) (e : Entry) (holder sub off : Nat) (data : Bytes) : (s.segStage e holder sub off data).1.time = s.time := by
  unfold State.segStage
  dsimp only
  repeat' split
  all_goals simp

@[simp] theorem State.segApply_time (s : State) (via : Via) (e : Entry) (holder sub : Nat) : (s.segApply via e holder sub).1.time = s.time := by
  unfold State.segApply
  dsimp only
  repeat' split
  all_goals simp

@[simp] theorem State.dpRead_time (s : State) (m : DpMsg) : (s.dpRead m).1.time = s.time := by
  unfold State.dpRead
  dsimp only
  repeat' split
  all_goals simp

@[simp] theorem State.dpWriteCode_agree (s : State) (m : DpMsg) (idx sub off total n : Nat) (data : Bytes) (h : Agree s.time.sdt) :
    Agree (s.dpWriteCode m idx sub off total n data).1.time.sdt := by
  unfold State.dpWriteCode
  dsimp only
  repeat' split
  all_goals simp [h]

@[simp] theorem State.dpWrite_agree (s : State) (m : DpMsg) (h : Agree s.time.sdt) : Agree (s.dpWrite m).1.time.sdt := by simp [State.dpWrite, h]

@[simp] theorem State.dpOpen_time (s : State) (m : DpMsg) : (s.dpOpen m).1.time = s.time := by
  unfold State.dpOpen
  repeat' split
  all_goals simp

@[simp] theorem State.endSession_time (s : State) (id : Nat) : (s.endSession id).time = s.time := by simp [State.endSession]
@[simp] theorem State.dpClose_time (s : State) (m : DpMsg) : (s.dpClose m).1.time = s.time := by simp [State.dpClose]
@[simp] theorem State.dpDiscover_time (s : State) (m : DpMsg) : (s.dpDiscover m).1.time = s.time := by simp [State.dpDiscover]
@[simp] theorem State.touchSession_time (s : State) (m : DpMsg) : (s.touchSession m).time = s.time := by simp [State.touchSession]

@[simp] theorem State.dpAct_agree (s : State) (m : DpMsg) (h : Agree s.time.sdt) : Agree (s.dpAct m).1.time.sdt := by
  unfold State.dpAct
  split <;> simp [h]

@[simp] theorem State.dpRequest_agree (s : State) (m : DpMsg) (full sigOk : Bool) (h : Agree s.time.sdt) : Agree (s.dpRequest m full sigOk).1.time.sdt := by
  unfold State.dpRequest
  repeat' split
  all_goals simp [h]

@[simp] theorem State.dpFrom_agreed (s : State) (type : Nat) (frame : Bytes) (full sigOk : Bool) (h : Agree s.time.sdt) :
    Result.Agreed (s.dpFrom type frame full sigOk) := by
  unfold State.dpFrom
  split
  · simp
  · split
    · simp [h]
    · split
      · simp [h]
      · split
        · simp [h]
        · split
          · simp [agree_of_fst (s.dpRequest_agree _ full sigOk h) ‹_›]
          · simp [agree_of_fst (s.dpRequest_agree _ full sigOk h) ‹_›]

@[simp] theorem execDpRead_agreed (frame : List Byte) (full sigOk : Bool) (s : State) (h : Agree s.time.sdt) : Result.Agreed (execDpRead frame full sigOk s) := by
  simp [execDpRead, h]

@[simp] theorem execDpWrite_agreed (frame : List Byte) (full sigOk : Bool) (s : State) (h : Agree s.time.sdt) :
    Result.Agreed (execDpWrite frame full sigOk s) := by simp [execDpWrite, h]

@[simp] theorem execSessionOpen_agreed (frame : List Byte) (full sigOk : Bool) (s : State) (h : Agree s.time.sdt) :
    Result.Agreed (execSessionOpen frame full sigOk s) := by simp [execSessionOpen, h]

@[simp] theorem execSessionClose_agreed (frame : List Byte) (full sigOk : Bool) (s : State) (h : Agree s.time.sdt) :
    Result.Agreed (execSessionClose frame full sigOk s) := by simp [execSessionClose, h]

@[simp] theorem execDiscover_agreed (frame : List Byte) (full sigOk : Bool) (s : State) (h : Agree s.time.sdt) :
    Result.Agreed (execDiscover frame full sigOk s) := by simp [execDiscover, h]

@[simp] theorem execSessionTimeout_agreed (session : Nat) (s : State) (h : Agree s.time.sdt) : Result.Agreed (execSessionTimeout session s) := by
  simp [execSessionTimeout, h]

@[simp] theorem execSegmentLapse_agreed (holder : Nat) (s : State) (h : Agree s.time.sdt) : Result.Agreed (execSegmentLapse holder s) := by
  simp [execSegmentLapse, h]

@[simp] theorem execMboxRequest_agreed (port : Fin 2) (commit : MboxCommit) (s : State) (h : Agree s.time.sdt) :
    Result.Agreed (execMboxRequest port commit s) := by
  unfold execMboxRequest
  repeat' split
  all_goals simp [h]

@[simp] theorem execMgmtLinkUp_agreed (duplicate : Bool) (s : State) (h : Agree s.time.sdt) : Result.Agreed (execMgmtLinkUp duplicate s) := by
  simp [execMgmtLinkUp, h]

@[simp] theorem State.mgmtAnswer_agreed (s : State) (p : Option NetPacket) (h : Agree s.time.sdt) : Result.Agreed (s.mgmtAnswer p) := by
  unfold State.mgmtAnswer
  split <;> simp [h]

@[simp] theorem execMgmtNeighborSolicitation_agreed (packet : List Byte) (s : State) (h : Agree s.time.sdt) :
    Result.Agreed (execMgmtNeighborSolicitation packet s) := by simp [execMgmtNeighborSolicitation, h]

@[simp] theorem execMgmtEchoRequest_agreed (packet : List Byte) (s : State) (h : Agree s.time.sdt) : Result.Agreed (execMgmtEchoRequest packet s) := by
  simp [execMgmtEchoRequest, h]

/-! ### SPDM -/

@[simp] theorem execEntdaa_agreed (address : Fin 128) (s : State) (h : Agree s.time.sdt) : Result.Agreed (execEntdaa address s) := by simp [execEntdaa, h]
@[simp] theorem execI3cTargetReset_agreed (s : State) (h : Agree s.time.sdt) : Result.Agreed (execI3cTargetReset s) := by simp [execI3cTargetReset, h]
@[simp] theorem State.mctpAnswer_time (s : State) (request bs : Bytes) : (s.mctpAnswer request bs).time = s.time := by simp [State.mctpAnswer]

@[simp] theorem State.mctpControl_agreed (s : State) (code : Nat) (request : Bytes) (f : Bytes → State) (hf : ∀ bs, (f bs).time = s.time)
    (h : Agree s.time.sdt) :
    Result.Agreed (s.mctpControl code request f) := by
  unfold State.mctpControl
  split <;> simp [h, hf]

@[simp] theorem execSetEndpointId_agreed (request : List Byte) (s : State) (h : Agree s.time.sdt) : Result.Agreed (execSetEndpointId request s) := by
  simp [execSetEndpointId, h]

@[simp] theorem execGetEndpointId_agreed (request : List Byte) (s : State) (h : Agree s.time.sdt) : Result.Agreed (execGetEndpointId request s) := by
  simp [execGetEndpointId, h]

@[simp] theorem execGetMctpVersionSupport_agreed (request : List Byte) (s : State) (h : Agree s.time.sdt) :
    Result.Agreed (execGetMctpVersionSupport request s) := by simp [execGetMctpVersionSupport, h]

@[simp] theorem execGetMessageTypeSupport_agreed (request : List Byte) (s : State) (h : Agree s.time.sdt) :
    Result.Agreed (execGetMessageTypeSupport request s) := by simp [execGetMessageTypeSupport, h]

@[simp] theorem execI3cDictionaryRead_agreed (request : List Byte) (s : State) (h : Agree s.time.sdt) : Result.Agreed (execI3cDictionaryRead request s) := by
  unfold execI3cDictionaryRead
  dsimp only
  repeat' split
  all_goals simp [h]

@[simp] theorem execI3cProvisioningWrite_agreed (request : List Byte) (s : State) (h : Agree s.time.sdt) : Result.Agreed (execI3cProvisioningWrite request s) := by
  unfold execI3cProvisioningWrite
  dsimp only
  repeat' split
  all_goals simp [h]

@[simp] theorem State.spdmSend_time (s : State) (tr : Nat) (bs : Bytes) : (s.spdmSend tr bs).time = s.time := by simp [State.spdmSend]
@[simp] theorem State.spdmError_time (s : State) (tr code data : Nat) : (s.spdmError tr code data).time = s.time := by simp [State.spdmError]
@[simp] theorem State.spdmFresh_time (s : State) (tr : Nat) (cert meas : Bool) : (s.spdmFresh tr cert meas).time = s.time := by simp [State.spdmFresh]
@[simp] theorem State.spdmMove_time (s : State) (tr state : Nat) (bs : Bytes) : (s.spdmMove tr state bs).time = s.time := by simp [State.spdmMove]
@[simp] theorem State.spdmNonce_time (s : State) : s.spdmNonce.2.time = s.time := by simp [State.spdmNonce]

@[simp] theorem State.spdmRequest_agreed (s : State) (tr code len ver least : Nat) (request : Bytes) (f : State → State) (hf : ∀ s, (f s).time = s.time)
    (h : Agree s.time.sdt) :
    Result.Agreed (s.spdmRequest tr code len ver least request f) := by
  simp [State.spdmRequest, h, hf]

@[simp] theorem execGetVersion_agreed (transport : Fin 3) (request : List Byte) (s : State) (h : Agree s.time.sdt) :
    Result.Agreed (execGetVersion transport request s) := by simp [execGetVersion, h]

@[simp] theorem execGetCapabilities_agreed (transport : Fin 3) (request : List Byte) (s : State) (h : Agree s.time.sdt) :
    Result.Agreed (execGetCapabilities transport request s) := by simp [execGetCapabilities, h]

@[simp] theorem execNegotiateAlgorithms_agreed (transport : Fin 3) (request : List Byte) (s : State) (h : Agree s.time.sdt) :
    Result.Agreed (execNegotiateAlgorithms transport request s) := by simp [execNegotiateAlgorithms, h]

@[simp] theorem State.spdmCertAnswer_time (s : State) (tr : Nat) (request answer : Bytes) : (s.spdmCertAnswer tr request answer).time = s.time := by
  simp [State.spdmCertAnswer]

@[simp] theorem execGetDigests_agreed (transport : Fin 3) (request : List Byte) (s : State) (h : Agree s.time.sdt) :
    Result.Agreed (execGetDigests transport request s) := by simp [execGetDigests, h]

@[simp] theorem execGetCertificate_agreed (transport : Fin 3) (request : List Byte) (s : State) (h : Agree s.time.sdt) :
    Result.Agreed (execGetCertificate transport request s) := by simp [execGetCertificate, h]

@[simp] theorem execChallenge_agreed (transport : Fin 3) (request : List Byte) (s : State) (h : Agree s.time.sdt) :
    Result.Agreed (execChallenge transport request s) := by simp [execChallenge, h]

@[simp] theorem execGetMeasurements_agreed (transport : Fin 3) (request : List Byte) (s : State) (h : Agree s.time.sdt) :
    Result.Agreed (execGetMeasurements transport request s) := by simp [execGetMeasurements, h]

@[simp] theorem execSpdmUnsupportedRequest_agreed (transport : Fin 3) (request : List Byte) (s : State) (h : Agree s.time.sdt) :
    Result.Agreed (execSpdmUnsupportedRequest transport request s) := by simp [execSpdmUnsupportedRequest, h]

/-! ### The slot boundary -/

@[simp] theorem State.addressFault_time (s : State) (a : Action) : (s.addressFault a).time = s.time := by simp [State.addressFault]

@[simp] theorem State.firePass_agree (s : State) (h : Agree s.time.sdt) : Agree s.firePass.time.sdt := by
  unfold State.firePass
  split
  · have hr : Agree (State.readDue 7936 s).time.sdt := by rw [State.readDue_time]; exact h
    dsimp only
    split
    · exact State.setSdt_agree _ _
    · exact hr
  · exact h

@[simp] theorem State.newSlot_time (s : State) : s.newSlot.time = s.time := by
  unfold State.newSlot
  repeat' split
  all_goals simp

@[simp] theorem State.newEpoch_time (s : State) : s.newEpoch.time = s.time := by simp [State.newEpoch]
@[simp] theorem State.countStops_time (s : State) : s.countStops.time = s.time := by simp [State.countStops]

@[simp] theorem State.compareSdt_time (s : State) (upset : BitVec 4) (held : PerDie (BitVec 64)) : (s.compareSdt upset held).time = s.time := by
  simp [State.compareSdt]

@[simp] theorem State.deferTask_time (s : State) (key : Nat) : (s.deferTask key).time = s.time := by simp [State.deferTask]
@[simp] theorem State.duskSlot_time (s : State) : s.duskSlot.time = s.time := by simp [State.duskSlot]
@[simp] theorem State.workSlot_sdt (s : State) : s.workSlot.time.sdt = s.time.sdt := by simp [State.workSlot]
@[simp] theorem State.skySlot_time (s : State) : s.skySlot.time = s.time := by simp [State.skySlot]
@[simp] theorem State.countSecond_time (s : State) : s.countSecond.time = s.time := by simp [State.countSecond]

@[simp] theorem State.boundary_agree (s : State) (junction : List (List Int)) (upset : BitVec 4) (held : PerDie (BitVec 64)) (h : Agree s.time.sdt) :
    Agree (s.boundary junction upset held).time.sdt := by
  simp [State.boundary, h]

@[simp] theorem execSlotBoundary_agreed (junction : List (List Int)) (upset : BitVec 4) (held : PerDie (BitVec 64)) (s : State) (h : Agree s.time.sdt) :
    Result.Agreed (execSlotBoundary junction upset held s) := by simp [execSlotBoundary, h]

/-! ### The vector engine -/

@[simp] theorem State.vector_agreed (s : State) (g t cls op : Nat) (regs : Nat → Regs) (effect : State → Thread → Nat → State)
    (heffect : ∀ s th w, (effect s th w).time = s.time) (h : Agree s.time.sdt) :
    Result.Agreed (s.vector g t cls op regs effect) := by
  simp [State.vector, h, heffect]

@[simp] theorem State.putVd_time (s : State) (g t : Nat) (th : Thread) (w v : Nat) : (s.putVd g t th w v).time = s.time := by simp [State.putVd]

@[simp] theorem State.putLanes_time (s : State) (g t : Nat) (th : Thread) (w : Nat) (ls : List (Nat × Bool)) : (s.putLanes g t th w ls).time = s.time := by
  simp [State.putLanes]

@[simp] theorem binaryEffect_time (g t : Nat) (lane : Nat → Nat → Nat → Nat × Bool) (s : State) (th : Thread) (w : Nat) :
    (binaryEffect g t lane s th w).time = s.time := by simp [binaryEffect]

@[simp] theorem unaryEffect_time (g t : Nat) (lane : Nat → Nat → Nat × Bool) (s : State) (th : Thread) (w : Nat) :
    (unaryEffect g t lane s th w).time = s.time := by simp [unaryEffect]

@[simp] theorem execVadd_agreed (core : Fin 384) (thread : Fin 32) (s : State) (h : Agree s.time.sdt) : Result.Agreed (execVadd core thread s) := by
  simp [execVadd, h]

@[simp] theorem execVsub_agreed (core : Fin 384) (thread : Fin 32) (s : State) (h : Agree s.time.sdt) : Result.Agreed (execVsub core thread s) := by
  simp [execVsub, h]

@[simp] theorem execVmul_agreed (core : Fin 384) (thread : Fin 32) (s : State) (h : Agree s.time.sdt) : Result.Agreed (execVmul core thread s) := by
  simp [execVmul, h]

@[simp] theorem fmaEffect_time (g t : Nat) (s : State) (th : Thread) (w : Nat) : (fmaEffect g t s th w).time = s.time := by simp [fmaEffect]

@[simp] theorem execVfma_agreed (core : Fin 384) (thread : Fin 32) (s : State) (h : Agree s.time.sdt) : Result.Agreed (execVfma core thread s) := by
  simp [execVfma, h]

@[simp] theorem vmaxEffect_time (g t : Nat) (s : State) (th : Thread) (w : Nat) : (vmaxEffect g t s th w).time = s.time := by simp [vmaxEffect]

@[simp] theorem execVmax_agreed (core : Fin 384) (thread : Fin 32) (s : State) (h : Agree s.time.sdt) : Result.Agreed (execVmax core thread s) := by
  simp [execVmax, h]

@[simp] theorem execVmin_agreed (core : Fin 384) (thread : Fin 32) (s : State) (h : Agree s.time.sdt) : Result.Agreed (execVmin core thread s) := by
  simp [execVmin, h]

@[simp] theorem execVabs_agreed (core : Fin 384) (thread : Fin 32) (s : State) (h : Agree s.time.sdt) : Result.Agreed (execVabs core thread s) := by
  simp [execVabs, h]

@[simp] theorem execVneg_agreed (core : Fin 384) (thread : Fin 32) (s : State) (h : Agree s.time.sdt) : Result.Agreed (execVneg core thread s) := by
  simp [execVneg, h]

@[simp] theorem vcmpEffect_time (g t : Nat) (s : State) (th : Thread) (w : Nat) : (vcmpEffect g t s th w).time = s.time := by simp [vcmpEffect]

@[simp] theorem execVcmp_agreed (core : Fin 384) (thread : Fin 32) (s : State) (h : Agree s.time.sdt) : Result.Agreed (execVcmp core thread s) := by
  simp [execVcmp, h]

@[simp] theorem vselEffect_time (g t : Nat) (s : State) (th : Thread) (w : Nat) : (vselEffect g t s th w).time = s.time := by simp [vselEffect]

@[simp] theorem execVsel_agreed (core : Fin 384) (thread : Fin 32) (s : State) (h : Agree s.time.sdt) : Result.Agreed (execVsel core thread s) := by
  simp [execVsel, h]

@[simp] theorem vrsumEffect_time (g t : Nat) (s : State) (th : Thread) (w : Nat) : (vrsumEffect g t s th w).time = s.time := by simp [vrsumEffect]

@[simp] theorem execVrsum_agreed (core : Fin 384) (thread : Fin 32) (s : State) (h : Agree s.time.sdt) : Result.Agreed (execVrsum core thread s) := by
  simp [execVrsum, h]

@[simp] theorem vrmaxEffect_time (least : Bool) (g t : Nat) (s : State) (th : Thread) (w : Nat) : (vrmaxEffect least g t s th w).time = s.time := by
  simp [vrmaxEffect]

@[simp] theorem execVrmax_agreed (core : Fin 384) (thread : Fin 32) (s : State) (h : Agree s.time.sdt) : Result.Agreed (execVrmax core thread s) := by
  simp [execVrmax, h]

@[simp] theorem execVrmin_agreed (core : Fin 384) (thread : Fin 32) (s : State) (h : Agree s.time.sdt) : Result.Agreed (execVrmin core thread s) := by
  simp [execVrmin, h]

@[simp] theorem vbcastEffect_time (g t : Nat) (s : State) (th : Thread) (w : Nat) : (vbcastEffect g t s th w).time = s.time := by simp [vbcastEffect]

@[simp] theorem execVbcast_agreed (core : Fin 384) (thread : Fin 32) (s : State) (h : Agree s.time.sdt) : Result.Agreed (execVbcast core thread s) := by
  simp [execVbcast, h]

@[simp] theorem State.gatherCycles_time (s : State) (g n : Nat) : (s.gatherCycles g n).time = s.time := by simp [State.gatherCycles]
@[simp] theorem vgatherEffect_time (g t : Nat) (s : State) (th : Thread) (w : Nat) : (vgatherEffect g t s th w).time = s.time := by simp [vgatherEffect]

@[simp] theorem execVgather_agreed (core : Fin 384) (thread : Fin 32) (s : State) (h : Agree s.time.sdt) : Result.Agreed (execVgather core thread s) := by
  simp [execVgather, h]

@[simp] theorem vscatterEffect_time (g t : Nat) (s : State) (th : Thread) (w : Nat) : (vscatterEffect g t s th w).time = s.time := by
  unfold vscatterEffect
  refine State.ite_keeps (by simp) ((State.next_time _ _ _).trans ?_)
  exact (State.foldl_time _ (fun s p => by split <;> simp) _ _).trans (by simp)

@[simp] theorem execVscatter_agreed (core : Fin 384) (thread : Fin 32) (s : State) (h : Agree s.time.sdt) : Result.Agreed (execVscatter core thread s) := by
  simp [execVscatter, h]

@[simp] theorem scatterAdd_time (g ty : Nat) (s : State) (o x : Nat) : (scatterAdd g ty s o x).time = s.time := by simp [scatterAdd]

@[simp] theorem vscataddEffect_time (g t : Nat) (s : State) (th : Thread) (w : Nat) : (vscataddEffect g t s th w).time = s.time := by
  unfold vscataddEffect
  refine State.ite_keeps (by simp) ((State.next_time _ _ _).trans ?_)
  exact (State.foldl_time _ (fun s p => by split <;> simp) _ _).trans (by simp)

@[simp] theorem execVscatadd_agreed (core : Fin 384) (thread : Fin 32) (s : State) (h : Agree s.time.sdt) : Result.Agreed (execVscatadd core thread s) := by
  simp [execVscatadd, h]

@[simp] theorem bitwiseEffect_time (g t : Nat) (f : Nat → Nat → Nat) (s : State) (th : Thread) (w : Nat) : (bitwiseEffect g t f s th w).time = s.time := by
  simp [bitwiseEffect]

@[simp] theorem execVand_agreed (core : Fin 384) (thread : Fin 32) (s : State) (h : Agree s.time.sdt) : Result.Agreed (execVand core thread s) := by
  simp [execVand, h]

@[simp] theorem execVor_agreed (core : Fin 384) (thread : Fin 32) (s : State) (h : Agree s.time.sdt) : Result.Agreed (execVor core thread s) := by
  simp [execVor, h]

@[simp] theorem execVxor_agreed (core : Fin 384) (thread : Fin 32) (s : State) (h : Agree s.time.sdt) : Result.Agreed (execVxor core thread s) := by
  simp [execVxor, h]

@[simp] theorem execVshl_agreed (core : Fin 384) (thread : Fin 32) (s : State) (h : Agree s.time.sdt) : Result.Agreed (execVshl core thread s) := by
  simp [execVshl, h]

@[simp] theorem execVshr_agreed (core : Fin 384) (thread : Fin 32) (s : State) (h : Agree s.time.sdt) : Result.Agreed (execVshr core thread s) := by
  simp [execVshr, h]

@[simp] theorem vcvtEffect_time (g t : Nat) (s : State) (th : Thread) (w : Nat) : (vcvtEffect g t s th w).time = s.time := by simp [vcvtEffect]

@[simp] theorem execVcvt_agreed (core : Fin 384) (thread : Fin 32) (s : State) (h : Agree s.time.sdt) : Result.Agreed (execVcvt core thread s) := by
  simp [execVcvt, h]

@[simp] theorem State.clash_time (s : State) (g t w : Nat) (same : Bool) (v x y : Nat) : (s.clash g t w same v x y).time = s.time := by simp [State.clash]
@[simp] theorem quantIntEffect_time (g t : Nat) (s : State) (th : Thread) (w : Nat) : (quantIntEffect g t s th w).time = s.time := by simp [quantIntEffect]

@[simp] theorem quantMxEffect_time (f : Fmt) (g t : Nat) (s : State) (th : Thread) (w : Nat) : (quantMxEffect f g t s th w).time = s.time := by
  simp [quantMxEffect]

@[simp] theorem vquantEffect_time (g t : Nat) (s : State) (th : Thread) (w : Nat) : (vquantEffect g t s th w).time = s.time := by
  unfold vquantEffect
  split <;> simp

@[simp] theorem execVquant_agreed (core : Fin 384) (thread : Fin 32) (s : State) (h : Agree s.time.sdt) : Result.Agreed (execVquant core thread s) := by
  simp [execVquant, h]

@[simp] theorem vdequantEffect_time (g t : Nat) (s : State) (th : Thread) (w : Nat) : (vdequantEffect g t s th w).time = s.time := by
  unfold vdequantEffect
  dsimp only
  split <;> simp

@[simp] theorem execVdequant_agreed (core : Fin 384) (thread : Fin 32) (s : State) (h : Agree s.time.sdt) : Result.Agreed (execVdequant core thread s) := by
  simp [execVdequant, h]

@[simp] theorem vsplitEffect_time (g t : Nat) (s : State) (th : Thread) (w : Nat) : (vsplitEffect g t s th w).time = s.time := by simp [vsplitEffect]

@[simp] theorem execVsplit_agreed (core : Fin 384) (thread : Fin 32) (s : State) (h : Agree s.time.sdt) : Result.Agreed (execVsplit core thread s) := by
  simp [execVsplit, h]

@[simp] theorem vscaleEffect_time (g t : Nat) (s : State) (th : Thread) (w : Nat) : (vscaleEffect g t s th w).time = s.time := by
  unfold vscaleEffect
  split <;> simp

@[simp] theorem execVscale_agreed (core : Fin 384) (thread : Fin 32) (s : State) (h : Agree s.time.sdt) : Result.Agreed (execVscale core thread s) := by
  simp [execVscale, h]

@[simp] theorem sfuEffect_time (op g t : Nat) (s : State) (th : Thread) (w : Nat) : (sfuEffect op g t s th w).time = s.time := by simp [sfuEffect]

@[simp] theorem execVexp_agreed (core : Fin 384) (thread : Fin 32) (s : State) (h : Agree s.time.sdt) : Result.Agreed (execVexp core thread s) := by
  simp [execVexp, h]

@[simp] theorem execVexp2_agreed (core : Fin 384) (thread : Fin 32) (s : State) (h : Agree s.time.sdt) : Result.Agreed (execVexp2 core thread s) := by
  simp [execVexp2, h]

@[simp] theorem execVln_agreed (core : Fin 384) (thread : Fin 32) (s : State) (h : Agree s.time.sdt) : Result.Agreed (execVln core thread s) := by
  simp [execVln, h]

@[simp] theorem execVlog2_agreed (core : Fin 384) (thread : Fin 32) (s : State) (h : Agree s.time.sdt) : Result.Agreed (execVlog2 core thread s) := by
  simp [execVlog2, h]

@[simp] theorem execVrcp_agreed (core : Fin 384) (thread : Fin 32) (s : State) (h : Agree s.time.sdt) : Result.Agreed (execVrcp core thread s) := by
  simp [execVrcp, h]

@[simp] theorem execVrsqrt_agreed (core : Fin 384) (thread : Fin 32) (s : State) (h : Agree s.time.sdt) : Result.Agreed (execVrsqrt core thread s) := by
  simp [execVrsqrt, h]

@[simp] theorem execVtanh_agreed (core : Fin 384) (thread : Fin 32) (s : State) (h : Agree s.time.sdt) : Result.Agreed (execVtanh core thread s) := by
  simp [execVtanh, h]

@[simp] theorem execVsigmoid_agreed (core : Fin 384) (thread : Fin 32) (s : State) (h : Agree s.time.sdt) : Result.Agreed (execVsigmoid core thread s) := by
  simp [execVsigmoid, h]

@[simp] theorem execVsinpi_agreed (core : Fin 384) (thread : Fin 32) (s : State) (h : Agree s.time.sdt) : Result.Agreed (execVsinpi core thread s) := by
  simp [execVsinpi, h]

@[simp] theorem execVcospi_agreed (core : Fin 384) (thread : Fin 32) (s : State) (h : Agree s.time.sdt) : Result.Agreed (execVcospi core thread s) := by
  simp [execVcospi, h]

/-! ### Page walks -/

@[simp] theorem State.walkOutcome_time (s : State) (a : Agent) (c : XCtx) (x : Xlate) : (s.walkOutcome a c x).time = s.time := by
  unfold State.walkOutcome
  repeat' split
  all_goals simp

@[simp] theorem State.walkEcc_time (s : State) (c : XCtx) (e : EccEvent) : (s.walkEcc c e).time = s.time := by
  unfold State.walkEcc
  split <;> simp

@[simp] theorem State.pageWalk_time (s : State) (a : Agent) (c : XCtx) (e : EccEvent) : (s.pageWalk a c e).time = s.time := by simp [State.pageWalk]

@[simp] theorem execPageWalk_agreed (agent : Agent) (write : Bool) (ecc : EccEvent) (s : State) (h : Agree s.time.sdt) :
    Result.Agreed (execPageWalk agent write ecc s) := by
  unfold execPageWalk
  split <;> simp [h]

theorem exec_agreed (c : Instr) (s : State) (h : Agree s.time.sdt) : Result.Agreed (exec c s) := by
  unfold exec
  split <;> simp [h]

/-! ### The step -/

/-- A step is the meaning of the front command or an idle tick. -/
theorem step_agreed (s : State) (h : Agree s.time.sdt) : Result.Agreed (step s) := by
  cases hp : s.pending with
  | nil => rw [step_idle s hp, next_agreed]; exact idleTick_agree s h
  | cons c rest => rw [step_front s c rest hp]; exact exec_agreed c _ h

/-- Settles O56: only the passing of time, a time step and a reset write the counters, each of them on all four dies alike. -/
theorem stepKeepsSdtAgreed : Obligations.StepKeepsSdtAgreed := fun s u h hu => step_agreed s h u hu

end Sys2Proof.Machine
end

section
/-! SUPPORT. The synchronisation instructions (R85, R86, R89): an instruction that goes on to the next, and the signed arithmetic of WAITSDT. -/

namespace Sys2Proof.Machine

/-! ### Signed numbers as bit vectors -/

theorem ofSigned_eq (w : Nat) (i : Int) : ofSigned w i = (BitVec.ofInt w i).toNat := (BitVec.toNat_ofInt i).symm

theorem toSigned_eq (w n : Nat) (hw : 0 < w) : toSigned w n = (BitVec.ofNat w n).toInt := by
  obtain ⟨k, rfl⟩ : ∃ k, w = k + 1 := ⟨w - 1, by omega⟩
  rw [BitVec.toInt_eq_toNat_cond, BitVec.toNat_ofNat, toSigned, Nat.add_sub_cancel, Nat.pow_succ]
  split <;> split <;> omega

/-- The instant that WAITSDT waits for, as its operands add up on 64 bits. -/
theorem ofSigned_add_toSigned (x imm : Nat) :
    ofSigned 64 ((x : Int) + toSigned 32 imm) = (BitVec.ofNat 64 x + (BitVec.ofNat 32 imm).signExtend 64).toNat := by
  rw [toSigned_eq 32 imm (by decide), ofSigned_eq, BitVec.ofInt_add, BitVec.ofInt_natCast, BitVec.signExtend]

/-! ### Instructions that go on -/

/-- An effect that replaces the thread by one that goes on within its image is all that the instruction does. -/
theorem State.issueInstr_replaces {s v : State} {g t : Nat} {mine : Nat → Bool} {regs : Nat → Regs} {effect : State → Thread → Nat → State} {th : Thread}
    (h : s.issues g t mine regs = true) (he : effect s (s.thread g t) (s.word g t) = v.setThread g t th) (hc : v.cores = s.cores)
    (hp : th.pc = (s.thread g t).pc + 8) (ha : th.asid = (s.thread g t).asid) (hv : th.imgVa = (s.thread g t).imgVa) (hx : th.imgCrc = (s.thread g t).imgCrc) :
    s.issueInstr g t mine (fun _ => false) regs effect = .next (v.setThread g t th) := by
  rw [State.issueInstr_issues s g t mine _ regs effect h rfl, he, State.checkPc_setThread s v g t th (State.issues_room _ _ _ _ _ h) hc hp ha hv hx]

/-- An effect that only moves the thread on. -/
theorem State.issueInstr_advances {s v : State} {g t : Nat} {mine : Nat → Bool} {regs : Nat → Regs} {effect : State → Thread → Nat → State}
    (h : s.issues g t mine regs = true) (he : effect s (s.thread g t) (s.word g t) = v.setThread g t (s.thread g t).advance) (hc : v.cores = s.cores) :
    s.issueInstr g t mine (fun _ => false) regs effect = .next (v.setThread g t (s.thread g t).advance) :=
  State.issueInstr_replaces h he hc rfl rfl rfl rfl

/-- An effect that puts a value into a scalar register and moves the thread on. -/
theorem State.issueInstr_setS {s : State} {g t : Nat} {mine : Nat → Bool} {regs : Nat → Regs} {effect : State → Thread → Nat → State} {i v : Nat}
    (h : s.issues g t mine regs = true) (he : effect s (s.thread g t) (s.word g t) = s.setThread g t ((s.thread g t).setS i v).advance) :
    s.issueInstr g t mine (fun _ => false) regs effect = .next (s.setThread g t ((s.thread g t).setS i v).advance) :=
  State.issueInstr_replaces h he rfl (by simp) (by simp) (by simp) (by simp)

@[simp] theorem State.cinc_thread (s : State) (g n : Nat) (amount : BitVec 32) (h t : Nat) : (s.cinc g n amount).thread h t = s.thread h t := rfl

theorem State.counter_cinc (s : State) (g n : Nat) (amount : BitVec 32) : (s.cinc g n amount).counter g n = s.counter g n + amount := by
  simp [State.counter, State.cinc]

/-- A core counter belongs to no image. -/
theorem State.cinc_imageOf (s : State) (g n : Nat) (amount : BitVec 32) (t : Nat) : (s.cinc g n amount).imageOf g t = s.imageOf g t := by
  simp only [State.imageOf, State.cinc_thread]
  rw [State.cinc, State.core_setCore]
  rfl

theorem execCinc_next (s : State) (g : Fin 384) (t : Fin 32) (h : s.issues g t (isOp 9 1) (fun w => ⟨[wSrcA w], []⟩) = true) (ho : s.storesOpen g t = false) :
    execCinc g t s = .next ((s.cinc g (wCounter (s.word g t)) (syncAmount (s.thread g t) (s.word g t))).setThread g t (s.thread g t).advance) := by
  have hi (n : Nat) (a : BitVec 32) : ((s.cinc g n a).setThread g t (s.thread g t).advance).imageOf g t = s.imageOf g t :=
    (State.imageOf_of (s.cinc g n a) ((s.cinc g n a).setThread g t (s.thread g t).advance) g t rfl (by simp) (by simp)
      (by simp)).trans (s.cinc_imageOf g n a t)
  rw [execCinc, State.issueInstr_issues _ _ _ _ _ _ _ h rfl, cincEffect, ho, if_neg Bool.false_ne_true, State.next, State.cinc_thread,
    State.checkPc_next s _ g t (State.issues_room _ _ _ _ _ h) (hi _ _) (by simp)]

/-- An increment that is not one of the two gates that vote (R214, R362). -/
theorem State.localInc_plain (s : State) (g : Nat) (odd : Bool) (step die core : Nat) (hn : g ≠ s.dget 0x2302 4) (hv : g ≠ s.dget 0x2001 0) :
    s.localInc g odd step die core = s.bumpGate g odd := by
  have hd (i j : Nat) : (s.bumpGate g odd).dget i j = s.dget i j := by
    unfold State.bumpGate
    split <;> rfl
  simp [State.localInc, hd, hn, hv]

theorem State.bumpGate_cores (s : State) (g : Nat) (odd : Bool) : (s.bumpGate g odd).cores = s.cores := by
  unfold State.bumpGate
  split <;> rfl

theorem State.bumpGate_thread (s : State) (g : Nat) (odd : Bool) (h t : Nat) : (s.bumpGate g odd).thread h t = s.thread h t := by
  unfold State.bumpGate
  split <;> rfl

theorem gincEffect_plain (s : State) (g t w : Nat) (ho : s.storesOpen g t = false) (ha : s.sameAlmanac (s.thread g t).launch = true)
    (hn : wImm w % 4096 ≠ s.dget 0x2302 4) (hv : wImm w % 4096 ≠ s.dget 0x2001 0) :
    gincEffect g t s (s.thread g t) w = (s.bumpGate (wImm w % 4096) ((s.thread g t).iter % 2 == 1)).setThread g t (s.thread g t).advance := by
  rw [gincEffect, ho, if_neg Bool.false_ne_true, if_pos ha, s.localInc_plain _ _ _ _ _ hn hv, State.next, State.bumpGate_thread]

/-- Settles O5, operation by operation. -/
theorem syncOperations : Obligations.SyncOperations := by
  intro s g t
  refine ⟨fun h ho => ⟨?_, State.counter_cinc ..⟩, fun h hw => ?_, fun h => ?_, fun h ho ha hn hv => ?_, fun h => ?_, fun h => ?_, fun h => ?_, fun h hw => ?_⟩
  · exact execCinc_next s g t h ho
  · exact State.issueInstr_advances h (if_pos (decide_eq_true hw)) rfl
  · exact State.issueInstr_setS h rfl
  · exact State.issueInstr_advances h (gincEffect_plain s g t _ ho ha hn hv) (s.bumpGate_cores _ _)
  · exact State.issueInstr_setS h rfl
  · exact State.issueInstr_setS h rfl
  · exact State.issueInstr_setS h rfl
  · exact State.issueInstr_advances h (if_pos (by rw [ofSigned_add_toSigned]; exact hw)) rfl

end Sys2Proof.Machine
end

section
/-! SUPPORT. The passing of time (R40, R41; log 1): what an idle tick and the way to an instant leave alone, and the value that every die's counter has afterwards. -/

namespace Sys2Proof.Machine

/-- The parts of the state that the passing of time within a slot does not touch. -/
structure TimeFrame {β : Type} (part : State → β) : Prop where
  sdt : ∀ (s : State) t, part (s.setSdt t) = part s
  withheld : ∀ (s : State) n, part { s with power := { s.power with withheld := n }, conj := { s.conj with throttled := true } } = part s

theorem TimeFrame.passTo {β : Type} {part : State → β} (h : TimeFrame part) (s : State) (t : Nat) : part (s.passTo t) = part s := by
  unfold State.passTo
  exact State.ite_keeps (h.sdt _ _) ((h.sdt _ _).trans (h.withheld _ _))

theorem TimeFrame.idleTick {β : Type} {part : State → β} (h : TimeFrame part) (s : State) : part (idleTick s) = part s := by
  unfold Machine.idleTick
  exact State.ite_keeps (h.passTo _ _) rfl

/-- Every counter shows the instant to which time has passed. -/
@[simp] theorem State.passTo_sdt (s : State) (t : Nat) : (s.passTo t).time.sdt = PerDie.all (BitVec.ofNat 64 t) := by
  unfold State.passTo
  dsimp only
  split <;> rfl

theorem idleTick_clockOff (s : State) (h : s.clockOn = false) : idleTick s = s := by simp [idleTick, h]

/-- Nothing holds the counters: the idle tick is the next tick. -/
theorem idleTick_free (s : State) (hc : s.clockOn = true) (hb : s.time.boundaryOpen = false) (hl : s.sdt % 2048 ≠ 2047) (hg : s.sdt % 2048 ≠ 1983) :
    idleTick s = s.passTo (s.sdt + 1) := by
  simp [idleTick, hc, hb, tickOf, hl, hg]

/-- Settles O52: the front command's meaning, or an idle tick. -/
theorem stepRunsFront : Obligations.StepRunsFront := by
  intro s
  refine ⟨fun c rest hp => step_front s c rest hp, fun hp => ⟨idleTick s, step_idle s hp, ?_, ?_, ?_, ?_, idleTick_clockOff s, ?_⟩⟩
  · exact idleTick_mem s
  · exact TimeFrame.idleTick (part := State.threads) ⟨fun _ _ => rfl, fun _ _ => rfl⟩ s
  · exact TimeFrame.idleTick (part := State.gates) ⟨fun _ _ => rfl, fun _ _ => rfl⟩ s
  · exact (TimeFrame.idleTick (part := State.pending) ⟨fun _ _ => rfl, fun _ _ => rfl⟩ s).trans hp
  · intro hc hb hw hl hg d
    rw [idleTick_free s hc hb hl hg, State.passTo_sdt, pget_all, BitVec.toNat_ofNat, Nat.mod_eq_of_lt hw]

end Sys2Proof.Machine
end

section
/-! SUPPORT. The instants of a slot (R40, R41, R49): tick 0 at the boundary, tick 1,984 at the guard band, and the snapshot of the Skylight in Dim mode. -/

namespace Sys2Proof.Machine

/-- Tick 0 of the next slot, as every counter shows it. -/
theorem State.atBoundary_sdt (s : State) (h : s.time.boundaryOpen = false) : s.atBoundary.time.sdt = PerDie.all (BitVec.ofNat 64 s.nextSlotStart) := by
  rw [State.atBoundary, if_neg (by simp [h])]
  exact s.passTo_sdt _

theorem execSlotBoundary_runs (s : State) (junction : List (List Int)) (upset : BitVec 4) (held : PerDie (BitVec 64)) (hm : s.boundaryMay = true)
    (hb : s.atBoundary.boundaryBlocked = false) : execSlotBoundary junction upset held s = .next (s.atBoundary.boundary junction upset held) := by
  simp [execSlotBoundary, hm, hb]

/-- What the sample opens belongs to the conjunction, so that the time unit only notes it. -/
theorem State.guardSample_time (s : State) : s.guardSample.time = { s.atGuard.time with sampled := true } := by
  unfold State.guardSample
  dsimp only
  repeat' split
  all_goals simp

theorem execGuardBandSample_runs (s : State) (hm : s.guardMay = true) (hd : s.inDusk = false) (ht : s.time.sampled = false)
    (hl : s.leads = true → s.decisionDue = false ∧ ∀ c, s.upcoming = some c → s.unreadDue c = false) : execGuardBandSample s = .next s.guardSample := by
  have hn : ¬ ((!s.guardMay) = true ∨ s.inDusk = true ∨ s.time.sampled = true) := by simp [hm, hd, ht]
  rw [execGuardBandSample, if_neg hn]
  cases hle : s.leads with
  | false => simp
  | true =>
    obtain ⟨hdec, hun⟩ := hl hle
    cases hu : s.upcoming with
    | none => simp [hdec]
    | some c => simp [hdec, hun c hu]

/-- A snapshot begins with its generation number. -/
theorem State.skyBytes_head (s : State) (gen : Nat) : slice (s.skyBytes gen) 0 8 = natLe 8 gen := by
  obtain ⟨rest, hr⟩ : natLe 8 gen <+: s.skyBytes gen := by
    unfold State.skyBytes
    simp only [List.append_assoc, List.prefix_append]
  rw [← hr, slice, List.drop_zero, List.take_left' (natLe_length 8 gen)]
  simp

/-- Settles O21: both instants move every counter at once. -/
theorem boundaryAndGuardBand : Obligations.BoundaryAndGuardBand := by
  intro s
  refine ⟨fun hm hb junction upset held => execSlotBoundary_runs s junction upset held hm hb, fun hb d => ?_, fun hm hd ht hl => ?_, fun hdim hs => ?_⟩
  · rw [s.atBoundary_sdt hb, pget_all]
    rfl
  · refine completes_of_next (execGuardBandSample_runs s hm hd ht hl) ?_
    rw [State.guardSample_time, State.atGuard, State.passTo_sdt]
    exact ⟨rfl, fun d => pget_all _ _⟩
  · exact completes_of_when rfl (by simp [hdim, hs]) ⟨rfl, s.skyBytes_head _, rfl⟩

end Sys2Proof.Machine
end

section
/-! SUPPORT. The parent clock (R42, R43, R44): the link that stands in for a lost one, and the links that recover. -/

namespace Sys2Proof.Machine

@[simp] theorem State.follow_lock (s : State) (l : Nat) : (s.follow l).time.lock = s.time.lock := rfl
@[simp] theorem State.follow_parentLink (s : State) (l : Nat) : (s.follow l).time.parentLink = l := rfl

/-- The state in which a link's recovered clock is lost. -/
def State.dropClock (s : State) (l : Nat) : State := { s with time := { s.time with rxClock := s.time.rxClock &&& ~~~(1#36 <<< l) } }
/-- The state in which a link's clock is recovered. -/
def State.gainClock (s : State) (l : Nat) : State := { s with time := { s.time with rxClock := s.time.rxClock ||| (1#36 <<< l) } }

theorem State.gainClock_rxClock (s : State) (l : Fin 36) : (s.gainClock l).time.rxClock.getLsbD l = true := by
  simp [State.gainClock, l.isLt]

theorem State.clockLost_none (s : State) (h : (s.dropClock s.time.parentLink).parentLinks = []) : s.clockLost.time.lock = .holdover := by
  have h' : ((s.dropClock s.time.parentLink).parentLinks.filter (fun k => s.time.parentLink < k)) ++ (s.dropClock s.time.parentLink).parentLinks = [] := by simp [h]
  unfold State.clockLost
  dsimp only
  split
  · rename_i he
    cases he.symm.trans h'
  · rfl

/-- With another parent link the package follows one of them, and LOCK_STATE stays. -/
theorem State.clockLost_some (s : State) (h : (s.dropClock s.time.parentLink).parentLinks ≠ []) :
    s.clockLost.time.lock = s.time.lock ∧ s.clockLost.time.parentLink ∈ (s.dropClock s.time.parentLink).parentLinks := by
  unfold State.clockLost
  dsimp only
  split
  · rename_i k rest he
    have hk : k ∈ ((s.dropClock s.time.parentLink).parentLinks.filter (fun k => s.time.parentLink < k)) ++ (s.dropClock s.time.parentLink).parentLinks := by
      rw [State.dropClock, he]
      exact List.mem_cons_self
    exact ⟨rfl, (List.mem_append.mp hk).elim List.mem_of_mem_filter id⟩
  · rename_i he
    exact absurd (List.append_eq_nil_iff.mp he).2 h

theorem execParentClockLost_following (s : State) (hc : s.clockOn = true) (hr : s.isRoot = false) (hl : s.time.lock ∈ [LockState.syntonising, .aligning, .locked])
    (hp : s.time.parentLink < 36) : execParentClockLost s = .next s.clockLost := by
  rw [execParentClockLost, when_next, if_pos]
  simp only [List.mem_cons, List.not_mem_nil, or_false] at hl
  rcases hl with h | h | h <;> simp [hc, hr, h, hp]

theorem parentClockLost_completes (s : State) (hc : s.clockOn = true) (hr : s.isRoot = false) (hl : s.time.lock ∈ [LockState.syntonising, .aligning, .locked])
    (hp : s.time.parentLink < 36) : Completes .parentClockLost s (fun u =>
      ((s.dropClock s.time.parentLink).parentLinks = [] → u.time.lock = .holdover) ∧
      ((s.dropClock s.time.parentLink).parentLinks ≠ [] →
        u.time.lock = s.time.lock ∧ u.time.parentLink ∈ (s.dropClock s.time.parentLink).parentLinks)) :=
  completes_of_next (execParentClockLost_following s hc hr hl hp) ⟨s.clockLost_none, s.clockLost_some⟩

/-- The four conditions of the event. -/
theorem parentLinkRecovered_when (s : State) (link : Fin 36) {idle : Bool} (hc : s.clockOn = true) (hr : s.isRoot = false)
    (hm : link.val ∈ (s.gainClock link).parentLinks) (hi : idle = true) :
    (s.clockOn && !s.isRoot && decide (link.val ∈ (s.gainClock link).parentLinks) && idle) = true := by
  simp [hc, hr, hm, hi]

/-- From FREE or HOLDOVER the package follows the link, and the root PLLs lock anew. -/
theorem parentLinkRecovered_idle (s : State) (link : Fin 36) (hc : s.clockOn = true) (hr : s.isRoot = false) (hm : link.val ∈ (s.gainClock link).parentLinks)
    (hl : s.time.lock ∈ [LockState.free, .holdover]) :
    Completes (.parentLinkRecovered link) s (fun u => u.time.lock = .syntonising ∧ u.time.parentLink = link.val ∧ u.clk.pll = PerDie.all 1) := by
  simp only [List.mem_cons, List.not_mem_nil, or_false] at hl
  refine completes_of_when rfl (parentLinkRecovered_when s link hc hr hm ?_) ?_
  · rcases hl with h | h <;> simp [h]
  · rcases hl with h | h <;> rw [h] <;> exact ⟨rfl, rfl, rfl⟩

/-- In any other state the package notes the recovered clock. -/
theorem parentLinkRecovered_busy (s : State) (link : Fin 36) (hc : s.clockOn = true) (hr : s.isRoot = false) (hm : link.val ∈ (s.gainClock link).parentLinks)
    (hl : s.time.lock ∉ [LockState.free, .holdover]) (hx : s.time.rxClock.getLsbD link = false) :
    Completes (.parentLinkRecovered link) s (fun u => u.time.lock = s.time.lock ∧ u.time.rxClock.getLsbD link = true ∧ u.clk = s.clk) := by
  refine completes_of_when rfl (parentLinkRecovered_when s link hc hr hm (by rw [hx, Bool.not_false, Bool.or_true])) ?_
  have hg := s.gainClock_rxClock link
  cases h : s.time.lock with
  | free | holdover => simp [h] at hl
  | syntonising | aligning | locked => exact ⟨h, hg, rfl⟩

/-- Settles O23, by what the other parent links are and by LOCK_STATE. -/
theorem parentClock : Obligations.ParentClock := fun s =>
  ⟨parentClockLost_completes s, fun link hc hr hm => ⟨parentLinkRecovered_idle s link hc hr hm, parentLinkRecovered_busy s link hc hr hm⟩⟩

end Sys2Proof.Machine
end

section
/-! SUPPORT. The commands of ALMANAC_CONTROL (R54, R394): which are permitted, what an accepted write of the entry does, and the answer to one that is not. -/

namespace Sys2Proof.Machine

theorem findEntry_almanacControl : findEntry 0x2112 0 = some ⟨0x2112, 0, 0, "ALMANAC_CONTROL", 0x11, 1, .wo, .command, 0, 0, 0, 255⟩ := by rfl

/-- The permission of each command of ALMANAC_CONTROL (R54). -/
def State.almanacPermits (s : State) (v : Nat) : Bool :=
  match v with
  | 1 | 2 => s.armPermits
  | 3 => s.stagePermits .a
  | 4 => s.stagePermits .b
  | 5 => s.unstagePermits
  | _ => s.disarmPermits

/-- The six commands are checked against their permission and nothing else. -/
theorem State.shortCheck_almanacControl (s : State) (v : Nat) (h0 : v ≠ 0) (h6 : v ≤ 6) :
    s.shortCheck ⟨0x2112, 0, 0, "ALMANAC_CONTROL", 0x11, 1, .wo, .command, 0, 0, 0, 255⟩ 0 v = if s.almanacPermits v = true then 0 else 0x0A := by
  have hr : ¬ (v < 0 ∨ 255 < v) := by omega
  have hb : ¬ (v = 0 ∨ 6 < v) := by omega
  unfold State.shortCheck
  dsimp only
  rw [if_neg hr, if_neg (by decide), if_pos (by decide)]
  unfold State.jobCheck
  dsimp only
  rw [if_neg hb]
  rfl

/-- A write of ALMANAC_CONTROL with its authority: the command, or the answer 0x0A. -/
theorem State.almanacControl_write (s : State) (via : Via) (v : Nat) (hm : s.mayWrite via 0x2112 0 = true) (h0 : v ≠ 0) (h6 : v ≤ 6) :
    s.regWrite via 0x2112 0 v = .next (if s.almanacPermits v = true then (s.almanacControl v).answerVia via 0 0x2112 0 else s.answerVia via 0x0A 0x2112 0) := by
  rw [State.regWrite_of_mayWrite s via _ _ _ _ findEntry_almanacControl (by decide) hm (by simp; omega), State.shortCheck_almanacControl s v h0 h6]
  cases s.almanacPermits v <;> rfl

theorem State.almanacControl_permitted (s : State) (via : Via) (v : Nat) (hm : s.mayWrite via 0x2112 0 = true) (h0 : v ≠ 0) (h6 : v ≤ 6)
    (hp : s.almanacPermits v = true) : s.regWrite via 0x2112 0 v = .next ((s.almanacControl v).answerVia via 0 0x2112 0) := by
  rw [s.almanacControl_write via v hm h0 h6, if_pos hp]

theorem State.almanacControl_refused (s : State) (via : Via) (v : Nat) (hm : s.mayWrite via 0x2112 0 = true) (h0 : v ≠ 0) (h6 : v ≤ 6)
    (hp : s.almanacPermits v = false) : s.regWrite via 0x2112 0 v = .next (s.answerVia via 0x0A 0x2112 0) := by
  rw [s.almanacControl_write via v hm h0 h6, hp]
  rfl

/-- An answer changes neither the Almanac nor memory. -/
theorem State.answerVia_alm (s : State) (via : Via) (code idx sub : Nat) : (s.answerVia via code idx sub).alm = s.alm := by
  unfold State.answerVia
  split
  · split <;> rfl
  · rfl

/-- Leaving HALTED drops the actions; the rest of the Almanac stays. -/
theorem State.leaveHalted_activeBuf (s : State) : s.leaveHalted.alm.activeBuf = s.alm.activeBuf := by
  have h : s.discardUpdate.discardParks.alm = s.alm := by simp [State.discardUpdate, State.discardParks, State.setParks]
  rw [← h]
  rfl

theorem State.arm_alm (s : State) (buf : Buf) :
    (s.arm buf).alm.state = .checking ∧ (s.arm buf).alm.armCheck = some buf ∧ (s.arm buf).alm.activeBuf = s.alm.activeBuf := by
  have hl : (if s.alm.state = .halted then s.leaveHalted else s).alm.activeBuf = s.alm.activeBuf :=
    State.ite_keeps (part := fun t : State => t.alm.activeBuf) s.leaveHalted_activeBuf rfl
  have hd (t : State) : (if t.alm.activeBuf ≠ buf ∧ t.alm.standby = .staged then t.dropStaged else t).alm.activeBuf = t.alm.activeBuf := by
    split <;> rfl
  exact ⟨rfl, rfl, (hd _).trans hl⟩

theorem arm_completes (s : State) (via : Via) (hm : s.mayWrite via 0x2112 0 = true) (hp : s.armPermits = true) :
    Completes (.armA via) s (fun u => u.alm.state = .checking ∧ u.alm.armCheck = some .a ∧ u.alm.activeBuf = s.alm.activeBuf) ∧
    Completes (.armB via) s (fun u => u.alm.state = .checking ∧ u.alm.armCheck = some .b ∧ u.alm.activeBuf = s.alm.activeBuf) := by
  refine ⟨completes_of_next (s.almanacControl_permitted via 1 hm (by decide) (by decide) hp) ?_,
    completes_of_next (s.almanacControl_permitted via 2 hm (by decide) (by decide) hp) ?_⟩
  · rw [State.answerVia_alm]
    exact s.arm_alm .a
  · rw [State.answerVia_alm]
    exact s.arm_alm .b

theorem stage_completes (s : State) (via : Via) (hm : s.mayWrite via 0x2112 0 = true) :
    (s.stagePermits .a = true → Completes (.stageA via) s (fun u => u.alm.standby = .checking ∧ u.alm.stageCheck = some .a ∧ u.alm.state = s.alm.state)) ∧
    (s.stagePermits .b = true → Completes (.stageB via) s (fun u => u.alm.standby = .checking ∧ u.alm.stageCheck = some .b ∧ u.alm.state = s.alm.state)) := by
  refine ⟨fun hp => completes_of_next (s.almanacControl_permitted via 3 hm (by decide) (by decide) hp) ?_,
    fun hp => completes_of_next (s.almanacControl_permitted via 4 hm (by decide) (by decide) hp) ?_⟩
  · rw [State.answerVia_alm]
    exact ⟨rfl, rfl, rfl⟩
  · rw [State.answerVia_alm]
    exact ⟨rfl, rfl, rfl⟩

theorem unstage_completes (s : State) (via : Via) (hm : s.mayWrite via 0x2112 0 = true) (hp : s.unstagePermits = true) :
    Completes (.unstage via) s (fun u => u.alm.standby = .none ∧ u.alm.state = s.alm.state ∧ u.mem = s.mem) := by
  refine completes_of_next (s.almanacControl_permitted via 5 hm (by decide) (by decide) hp) ?_
  rw [State.answerVia_alm, State.answerVia_mem]
  exact ⟨rfl, rfl, rfl⟩

theorem disarm_completes_idle (s : State) (via : Via) (hm : s.mayWrite via 0x2112 0 = true) (hp : s.disarmPermits = true) (hr : s.running = false) :
    Completes (.disarm via) s (fun u => u.alm.state = .idle ∧ u.mem = s.mem) := by
  refine completes_of_next (s.almanacControl_permitted via 6 hm (by decide) (by decide) hp) ?_
  rw [State.answerVia_alm, State.answerVia_mem, show s.almanacControl 6 = s.disarm from rfl, State.disarm, hr]
  exact ⟨rfl, rfl⟩

/-- DISARM of an Almanac that runs is a halt (R54, R69). -/
theorem disarm_completes_halted (s : State) (via : Via) (hm : s.mayWrite via 0x2112 0 = true) (hp : s.disarmPermits = true) (hr : s.running = true) :
    Completes (.disarm via) s (fun u => u.alm.state = .halted ∧ u.dget 0x2121 0 = 0x13) := by
  refine completes_of_next (s.almanacControl_permitted via 6 hm (by decide) (by decide) hp) ?_
  rw [State.answerVia_alm, State.answerVia_ok_dget, show s.almanacControl 6 = s.disarm from rfl, State.disarm, hr]
  exact s.haltNow_halted 0x13 0

theorem State.armPermits_iff (s : State) :
    s.armPermits = true ↔ (s.alm.standby ≠ .checking ∧ s.alm.state ∈ [AlmanacState.idle, .complete, .halted, .rejected]) := by
  unfold State.armPermits
  cases s.alm.state <;> simp

/-- Settles O24, command by command. -/
theorem almanacControl : Obligations.AlmanacControl := fun s via hm =>
  ⟨arm_completes s via hm, (stage_completes s via hm).1, (stage_completes s via hm).2, unstage_completes s via hm, disarm_completes_idle s via hm,
    disarm_completes_halted s via hm, s.armPermits_iff,
    fun hp => ⟨s.almanacControl_refused via 1 hm (by decide) (by decide) hp, s.almanacControl_refused via 2 hm (by decide) (by decide) hp⟩,
    fun hp => s.almanacControl_refused via 6 hm (by decide) (by decide) hp⟩

end Sys2Proof.Machine
end

section
/-! SUPPORT. A locked Almanac buffer (R56): a write into it is refused with its own counter, whether it is applied at the slice or reaches it within one line. -/

namespace Sys2Proof.Machine

/-- When a buffer refuses writes. -/
theorem State.bufLocked_iff (s : State) (buf : Buf) : s.bufLocked buf = true ↔
    (s.alm.armCheck = some buf ∨ s.alm.stageCheck = some buf ∨
      (s.alm.activeBuf = buf ∧ (s.alm.state = .armed ∨ s.alm.state = .running ∨ s.alm.state = .paused)) ∨
      (s.alm.standby = .staged ∧ s.alm.activeBuf ≠ buf)) := by
  unfold State.bufLocked
  cases s.alm.state <;> simp [or_assoc]

/-- A write that overlaps a locked buffer is refused under ALMANAC_WRITE_REFUSED. -/
theorem State.writeRefused_locked (s : State) (buf : Buf) (a n : Nat) (hl : s.bufLocked buf = true) (ho : overlaps a n (s.bufRange buf).1 (s.bufRange buf).2 = true) :
    s.writeRefused a n = some (0x2126, 2) := by
  have hb : s.writeBarred a n = some (0x2126, 2) := by
    cases buf with
    | a => simp [State.writeBarred, hl, ho]
    | b => simp [State.writeBarred, hl, ho]
  simp [State.writeRefused, hb]

theorem State.applyWrite_of_refused (s : State) (a i j : Nat) (bs : Bytes) (alloc : Bool) (src : Source) (loc sub step : Nat)
    (h : s.writeRefused a bs.length = some (i, j)) : s.applyWrite a bs alloc src loc sub step = s.dadd i j 1 := by
  rw [State.applyWrite, h]

theorem writeRefusals_size : (findEntry 0x2126 2).map Entry.size = some 8 := by rfl

/-- A write into a locked buffer is discarded and counted. -/
theorem State.applyWrite_locked (s : State) (buf : Buf) (a : Nat) (bs : Bytes) (alloc : Bool) (src : Source) (loc sub step : Nat) (hl : s.bufLocked buf = true)
    (ho : overlaps a bs.length (s.bufRange buf).1 (s.bufRange buf).2 = true) :
    (s.applyWrite a bs alloc src loc sub step).mem = s.mem ∧ (s.applyWrite a bs alloc src loc sub step).dget 0x2126 2 = (s.dget 0x2126 2 + 1) % 2 ^ 64 ∧
    (s.applyWrite a bs alloc src loc sub step).cache = s.cache := by
  rw [s.applyWrite_of_refused a _ _ bs alloc src loc sub step (s.writeRefused_locked buf a bs.length hl ho)]
  exact ⟨s.dadd_mem .., s.dget_dadd_of_size _ _ _ writeRefusals_size, s.dadd_cache ..⟩

/-- What an Eaves copy's invalidation leaves. -/
theorem State.eavesDrop_keeps (s : State) (die : Nat) (t : Target) : (s.eavesDrop die t).alm = s.alm ∧ (s.eavesDrop die t).mem = s.mem ∧
    (s.eavesDrop die t).dict = s.dict ∧ (s.eavesDrop die t).cache.fills = s.cache.fills := by
  unfold State.eavesDrop
  split <;> exact ⟨rfl, rfl, rfl, rfl⟩

theorem State.settle_of_noFill (s : State) (line : Nat) (h : s.fill line = none) : s.settle line = s := by
  rw [State.settle, h]

/-- All bytes of a list are its slice. -/
theorem slice_self (bs : Bytes) : slice bs 0 bs.length = bs := by simp [slice]

/-- Bytes within one line are one piece. -/
theorem pieces_of_le {unit a n fuel : Nat} (hn : 0 < n) (h : a % unit + n ≤ unit) : pieces unit (fuel + 2) a n = [(a, n)] := by
  have hk : min n (unit - a % unit) = n := by omega
  have h0 : n ≠ 0 := by omega
  simp [pieces, hk, h0]

/-- A write within one line, over which no fill is outstanding, is applied once the writer's Eaves copy has gone. -/
theorem State.arriveWrite_line (s : State) (die a : Nat) (bs : Bytes) (alloc : Bool) (src : Source) (loc sub step : Nat) (hn : 0 < bs.length)
    (h : a % 256 + bs.length ≤ 256) (hf : s.fill (s.line a) = none) :
    s.arriveWrite die a bs alloc src loc sub step = (s.eavesDrop die (.here a)).applyWrite a bs alloc src loc sub step := by
  obtain ⟨-, -, -, hfills⟩ := s.eavesDrop_keeps die (.here a)
  have hf' : (s.eavesDrop die (.here a)).fill (s.line a) = none := by rw [State.fill, hfills, ← State.fill, hf]
  rw [State.arriveWrite, pieces_of_le hn h, List.foldl_cons, List.foldl_nil, State.settle_of_noFill _ _ hf', Nat.sub_self, slice_self]

/-- Settles O20: the buffer is locked, so the write is refused. -/
theorem lockedBufferRefusesWrites : Obligations.LockedBufferRefusesWrites := by
  intro s buf a bs alloc src loc sub step hlock hn hsize hlo hhi
  have hl := (s.bufLocked_iff buf).mpr hlock
  have ho : overlaps a bs.length (s.bufRange buf).1 (s.bufRange buf).2 = true := by
    simp only [overlaps, Bool.and_eq_true, decide_eq_true_eq, bne_iff_ne]
    omega
  obtain ⟨hmem, hcount, hcache⟩ := s.applyWrite_locked buf a bs alloc src loc sub step hl ho
  refine ⟨hmem, hcount, hcache, fun die hline hf => ?_⟩
  obtain ⟨halm, hm, hd, -⟩ := s.eavesDrop_keeps die (.here a)
  have hdget (i j : Nat) : (s.eavesDrop die (.here a)).dget i j = s.dget i j := by rw [State.dget, hd, ← State.dget]
  have hlocked : (s.eavesDrop die (.here a)).bufLocked buf = true := by rw [State.bufLocked, halm]; exact hl
  have hrange : (s.eavesDrop die (.here a)).bufRange buf = s.bufRange buf := by simp only [State.bufRange, hdget]
  obtain ⟨hm', hc', -⟩ := (s.eavesDrop die (.here a)).applyWrite_locked buf a bs alloc src loc sub step hlocked (by rw [hrange]; exact ho)
  rw [s.arriveWrite_line die a bs alloc src loc sub step hn hline hf]
  exact ⟨hm'.trans hm, by rw [hc', hdget]⟩

end Sys2Proof.Machine
end

section
/-! SUPPORT. Encodings: numbers written into bytes and read back, and the bound of CRC-32C. -/

namespace Sys2Proof.Machine

/-- The bytes of a number are those of its low part and then those of its high part. -/
theorem natLe_add (v w n : Nat) : natLe (v + w) n = natLe v n ++ natLe w (n / 256 ^ v) := by
  induction v generalizing n with
  | zero => simp [natLe]
  | succ v ih => rw [Nat.succ_add, natLe, natLe, ih, Nat.div_div_eq_div_mul, Nat.pow_succ', List.cons_append]

theorem slice_append_left (a b : Bytes) : slice (a ++ b) 0 a.length = a := by simp [slice]
theorem slice_append_right (a b : Bytes) (n : Nat) : slice (a ++ b) a.length n = slice b 0 n := by simp [slice]

/-- A number of w bytes is read back from the head of a list. -/
theorem leAt_natLe_append (w n : Nat) (bs : Bytes) : leAt (natLe w n ++ bs) 0 w = n % 256 ^ w := by
  have h := slice_append_left (natLe w n) bs
  rw [natLe_length] at h
  rw [leAt, h, leNat_natLe]

theorem leAt_natLe (w n : Nat) : leAt (natLe w n) 0 w = n % 256 ^ w := by
  simpa using leAt_natLe_append w n []

theorem field_eq (n lo len : Nat) : field n lo len = n / 2 ^ lo % 2 ^ len := by rw [field, Nat.shiftRight_eq_div_pow]

theorem crcBit_lt (c : Nat) (h : c < 2 ^ 32) : crcBit c < 2 ^ 32 := by
  have hd : c / 2 < 2 ^ 32 := by omega
  unfold crcBit
  split
  · exact Nat.xor_lt_two_pow hd (by decide)
  · exact hd

theorem crcByte_lt (c : Nat) (b : Byte) (h : c < 2 ^ 32) : crcByte c b < 2 ^ 32 := by
  have hx : c ^^^ b.toNat < 2 ^ 32 := Nat.xor_lt_two_pow h (by omega)
  exact crcBit_lt _ (crcBit_lt _ (crcBit_lt _ (crcBit_lt _ (crcBit_lt _ (crcBit_lt _ (crcBit_lt _ (crcBit_lt _ hx)))))))

/-- A CRC-32C has 32 bits. -/
theorem crc32c_lt (bs : Bytes) : crc32c bs < 2 ^ 32 :=
  Nat.xor_lt_two_pow (List.foldlRecOn (motive := fun c => c < 2 ^ 32) bs crcByte (by decide) (fun c hc b _ => crcByte_lt c b hc)) (by decide)

end Sys2Proof.Machine
end

section
/-! SUPPORT. Agreement vectors (R64) and gates (R58): the merge of two vectors is the join of a semilattice, and a vector's bytes hold its fields. -/

namespace Sys2Proof.Machine

theorem AVec.merge_comm (x y : AVec) : x.merge y = y.merge x := by
  simp only [AVec.merge, BitVec.or_comm, Nat.min_comm, Nat.max_comm]

theorem AVec.merge_assoc (x y z : AVec) : (x.merge y).merge z = x.merge (y.merge z) := by
  simp only [AVec.merge, BitVec.or_assoc, Nat.min_assoc, Nat.max_assoc]

theorem AVec.merge_self (x : AVec) : x.merge x = x := by
  simp only [AVec.merge, BitVec.or_self, Nat.min_self, Nat.max_self]

theorem AVec.bytes_length (x : AVec) : x.bytes.length = 128 := natLe_length 128 _

/-- Every field of a vector within its width is where R64 places it. -/
theorem AVec.vecOf_bytes (x : AVec) (hi : x.idMin < 2 ^ 32) (hI : x.idMax < 2 ^ 32) (hc : x.conjMin < 2 ^ 32) (hC : x.conjMax < 2 ^ 32)
    (hs : x.standbyMin < 2 ^ 32) (hS : x.standbyMax < 2 ^ 32) (hk : x.skipMin < 2 ^ 32) (hf : x.faultRankMin < 2 ^ 16) (hl : x.slipKey < 2 ^ 24) :
    vecOf x.bytes = x := by
  have hcrc : x.crc < 2 ^ 32 := crc32c_lt _
  have hp := x.presence.isLt
  have hg := x.flags.isLt
  have hn : leAt x.bytes 0 128 = x.body + x.crc := by
    rw [AVec.bytes, leAt_natLe]
    refine Nat.mod_eq_of_lt ?_
    unfold AVec.body
    omega
  rw [vecOf, hn]
  unfold AVec.body
  simp only [field_eq, Nat.shiftRight_eq_div_pow]
  generalize x.crc = crc at hcrc
  obtain ⟨p, i, I, c, C, s, S, k, f, l, g⟩ := x
  simp only [AVec.mk.injEq] at *
  refine ⟨BitVec.eq_of_toNat_eq ?_, ?_, ?_, ?_, ?_, ?_, ?_, ?_, ?_, ?_, BitVec.eq_of_toNat_eq ?_⟩
  · rw [BitVec.toNat_ofNat]
    omega
  on_goal 10 => rw [BitVec.toNat_ofNat]
  all_goals omega

theorem State.gateOpenNow_iff (s : State) (q : QTransit) : s.gateOpenNow q = true ↔
    (q.transit.waitGate = 0 ∨ (s.gate q.transit.waitGate (q.iter % 2 == 1) - q.transit.waitValue).toNat < 2 ^ 31) := by
  simp [State.gateOpenNow, gateOpen]

/-- Settles O28: the laws of the merge, the bytes of a vector, and the gate's comparison. -/
theorem vectorMerge : Obligations.VectorMerge :=
  ⟨fun x y z => ⟨x.merge_comm y, x.merge_assoc y z, x.merge_self⟩,
    fun x hi hI hc hC hs hS hk hf hl => ⟨x.bytes_length, x.vecOf_bytes hi hI hc hC hs hS hk hf hl⟩, State.gateOpenNow_iff⟩

end Sys2Proof.Machine
end

section
/-! SUPPORT. The bytes of beacons (R46) and of Rafter frames (R320), read back. -/

namespace Sys2Proof.Machine

theorem stampBits_eq (t : Nat) (h : t < 2 ^ 72) : stampBits t = t := by
  unfold stampBits
  omega

/-- The fields of a beacon in their places, without the CRC. -/
def Beacon.body (b : Beacon) : Nat :=
  b.type % 256 * 2 ^ 504 + b.rank % 1024 * 2 ^ 480 + b.inc % 65536 * 2 ^ 464 + b.seq % 65536 * 2 ^ 448 + stampBits b.tx * 2 ^ 376 +
    b.state % 256 * 2 ^ 368 + stampBits b.echoTx * 2 ^ 296 + stampBits b.echoRx * 2 ^ 224 + b.hops % 256 * 2 ^ 216
/-- FRAME_CRC of a beacon. -/
def Beacon.crc (b : Beacon) : Nat := crc32c (natLe 60 (b.body / 2 ^ 32))

theorem Beacon.bytes_eq (b : Beacon) : b.bytes = natLe 64 (b.body + b.crc) := rfl
theorem Beacon.crc_lt (b : Beacon) : b.crc < 2 ^ 32 := crc32c_lt _

theorem stampBits_lt (t : Nat) : stampBits t < 2 ^ 72 := by
  unfold stampBits
  omega

/-- The body of a beacon fills the bits from 216 up. -/
theorem Beacon.body_eq (b : Beacon) : ∃ k < 2 ^ 296, b.body = k * 2 ^ 216 := by
  have htx := stampBits_lt b.tx
  have het := stampBits_lt b.echoTx
  have her := stampBits_lt b.echoRx
  refine ⟨b.body / 2 ^ 216, ?_, ?_⟩
  all_goals unfold Beacon.body; omega

theorem Beacon.leAt_bytes (b : Beacon) : leAt b.bytes 0 64 = b.body + b.crc := by
  obtain ⟨k, hk, hb⟩ := b.body_eq
  have hc := b.crc_lt
  rw [Beacon.bytes_eq, leAt_natLe, hb]
  exact Nat.mod_eq_of_lt (by omega)

/-- Every field of a beacon within its width is where R46 places it. -/
theorem Beacon.beaconOf_bytes (b : Beacon) (hty : b.type < 256) (hr : b.rank < 1024) (hi : b.inc < 65536) (hq : b.seq < 65536) (htx : b.tx < 2 ^ 72)
    (hst : b.state < 256) (het : b.echoTx < 2 ^ 72) (her : b.echoRx < 2 ^ 72) (hh : b.hops < 256) : beaconOf b.bytes = b := by
  have hc := b.crc_lt
  rw [beaconOf, b.leAt_bytes]
  unfold Beacon.body
  rw [stampBits_eq _ htx, stampBits_eq _ het, stampBits_eq _ her]
  generalize b.crc = crc at hc
  obtain ⟨type, rank, inc, seq, tx, state, echoTx, echoRx, hops⟩ := b
  simp only [field_eq, Beacon.mk.injEq] at *
  refine ⟨?_, ?_, ?_, ?_, ?_, ?_, ?_, ?_, ?_⟩
  all_goals omega

/-- The first four bytes of a beacon are the CRC of the other sixty. -/
theorem Beacon.crc_ok (b : Beacon) : beaconCrcOk b.bytes = true := by
  obtain ⟨k, hk, hb⟩ := b.body_eq
  have hc := b.crc_lt
  have hbytes : b.bytes = natLe 4 (b.body + b.crc) ++ natLe 60 (b.body / 2 ^ 32) := by
    have hdiv : (b.body + b.crc) / 256 ^ 4 = b.body / 2 ^ 32 := by omega
    rw [Beacon.bytes_eq, natLe_add 4 60, hdiv]
  have hcrc : leAt b.bytes 0 4 = b.crc := by
    rw [hbytes, leAt_natLe_append]
    omega
  have hrest : slice b.bytes 4 60 = natLe 60 (b.body / 2 ^ 32) := by
    have h := slice_append_right (natLe 4 (b.body + b.crc)) (natLe 60 (b.body / 2 ^ 32)) 60
    rw [natLe_length] at h
    have hs := slice_self (natLe 60 (b.body / 2 ^ 32))
    rw [natLe_length] at hs
    rw [hbytes, h, hs]
  rw [beaconCrcOk, hcrc, hrest, beq_iff_eq]
  rfl

/-- The header of a frame as a number (R320). -/
def Frame.header (f : Frame) : Nat :=
  f.tf % 2 ^ 48 + ofBool f.parity * 2 ^ 48 + f.die % 4 * 2 ^ 49 + f.hops % 16 * 2 ^ 51 + f.body.length % 8192 * 2 ^ 55 + f.gen % 65536 * 2 ^ 68 +
    f.inc % 65536 * 2 ^ 84 + f.src % 1024 * 2 ^ 100 + f.dest % 1024 * 2 ^ 110 + f.ftype % 256 * 2 ^ 120

theorem encodeFrame_eq (f : Frame) : encodeFrame f = natLe 16 f.header ++ f.body := rfl

theorem ofBool_lt (b : Bool) : ofBool b < 2 := by cases b <;> decide
theorem ofBool_beq_one (b : Bool) : (ofBool b == 1) = b := by cases b <;> rfl

theorem Frame.leAt_encodeFrame (f : Frame) : leAt (encodeFrame f) 0 16 = f.header := by
  have hp := ofBool_lt f.parity
  rw [encodeFrame_eq, leAt_natLe_append]
  refine Nat.mod_eq_of_lt ?_
  unfold Frame.header
  omega

/-- The payload stands after the sixteen bytes of the header. -/
theorem Frame.slice_encodeFrame (f : Frame) : slice (encodeFrame f) 16 f.body.length = f.body := by
  have h := slice_append_right (natLe 16 f.header) f.body f.body.length
  rw [natLe_length] at h
  rw [encodeFrame_eq, h, slice_self]

/-- A frame whose fields are within their widths is read back from its bytes. -/
theorem Frame.parseFrame_encodeFrame (f : Frame) (hty : f.ftype < 256) (hd : f.dest < 1024) (hs : f.src < 1024) (hi : f.inc < 65536) (hg : f.gen < 65536)
    (hh : f.hops < 16) (hdie : f.die < 4) (htf : f.tf < 2 ^ 48) (hb : f.body.length < 8192) : parseFrame (encodeFrame f) = f := by
  have hp := ofBool_lt f.parity
  have hlen : field f.header 55 13 = f.body.length := by
    rw [field_eq]
    unfold Frame.header
    omega
  have hpar : bit f.header 48 = f.parity := by
    have hf : field f.header 48 1 = ofBool f.parity := by
      rw [field_eq]
      unfold Frame.header
      omega
    rw [bit, hf, ofBool_beq_one]
  rw [parseFrame, f.leAt_encodeFrame, hpar, hlen, f.slice_encodeFrame]
  unfold Frame.header
  obtain ⟨ftype, dest, src, inc, gen, hops, die, parity, tf, body⟩ := f
  simp only [field_eq, Frame.mk.injEq, and_true, true_and] at *
  refine ⟨?_, ?_, ?_, ?_, ?_, ?_, ?_, ?_⟩
  all_goals omega

/-- Settles O60: a beacon and a frame are read back from their bytes. -/
theorem beaconAndFrameEncodings : Obligations.BeaconAndFrameEncodings :=
  ⟨fun b hty hr hi hq htx hst het her hh => ⟨natLe_length 64 _, b.beaconOf_bytes hty hr hi hq htx hst het her hh, b.crc_ok⟩,
    fun f hty hd hs hi hg hh hdie htf hb => f.parseFrame_encodeFrame hty hd hs hi hg hh hdie htf hb⟩

end Sys2Proof.Machine
end

section
/-! SUPPORT. A descriptor that is read after its slot has begun (R56): it is not ahead of dispatch, so the count of the transits ahead of dispatch does not rise. -/

namespace Sys2Proof.Machine

/-- The header of an Almanac with one transit. -/
def lateHeader : AlmHeader :=
  { buf := .a, base := 0, id := 7, asid := 0, count := 1, epochSlots := 16, epochCount := 1, iterations := 4, stepBase := 0, variant := 0, chain := false, ranks := 1 }
/-- A running package whose Almanac slot 0 has begun before its descriptor, whose SLOT is 0, is read. -/
def lateRead : State :=
  { boot := { mode := .ready, inReset := false, lodestar0 := true }, alm := { state := .running, hdr := some lateHeader, nextAlm := 1 },
    mem := ⟨[], none, 0, []⟩ }

theorem lateRead_leads : lateRead.leads = true := by decide
theorem lateRead_nextDescriptor : lateRead.nextDescriptor = some (lateHeader, 128) := by decide +kernel
theorem lateRead_queued : lateRead.queued = 0 := by decide

/-- The descriptor goes into its queue, where it is not ahead of dispatch. -/
theorem lateRead_read : (lateRead.readDescriptor lateHeader 128).queued = 0 ∧
    (pget (lateRead.readDescriptor lateHeader 128).alm.queues 0).length = 1 := by decide +kernel

theorem exec_lateRead : exec .almanacDescriptorRead lateRead = .next (lateRead.readDescriptor lateHeader 128) := by
  rw [exec_almanacDescriptorRead, execAlmanacDescriptorRead, lateRead_nextDescriptor]
  rfl

/-- Refutes O25: the descriptor of slot 0, read when slot 0 has begun, leaves the count of transits ahead of dispatch at 0. -/
theorem not_almanacRuns : ¬ Obligations.AlmanacRuns := by
  intro h
  obtain ⟨-, -, -, hread, -⟩ := h lateRead
  obtain ⟨u, hx, hq, -⟩ := hread lateRead_leads (by rw [lateRead_queued]; decide) lateHeader 128 lateRead_nextDescriptor rfl
  cases exec_lateRead.symm.trans hx
  rw [lateRead_queued, lateRead_read.1] at hq
  exact absurd hq (by decide)

end Sys2Proof.Machine
end

section
/-! SUPPORT. The parts of the state that sending on the links does not touch (R315 to R318, R326): one lemma for each operation on a frame's way out, for every such part at once. -/

namespace Sys2Proof.Machine

/-- A part of the state that the links and what the package shows on them do not belong to. -/
structure LinkFrame {β : Type} (part : State → β) : Prop where
  setLink : ∀ (s : State) l k, part (s.setLink l k) = part s
  emit : ∀ (s : State) o, part (s.emit o) = part s

namespace LinkFrame
section
variable {β : Type} {part : State → β} (h : LinkFrame part)
include h

theorem sendControl (s : State) (l : Nat) (nak : Bool) : part (s.sendControl l nak) = part s := State.ite_keeps rfl (h.emit _ _)

theorem freeFlits (s : State) (l vc n : Nat) : part (s.freeFlits l vc n) = part s :=
  State.ite_keeps rfl ((h.sendControl _ _ _).trans (h.setLink _ _ _))

/-- The flits of a frame that has been taken are freed. -/
theorem freeFrame (s : State) (r : RxFrame) : part (s.free_ r) = part s := h.freeFlits ..

theorem sendFlit (s : State) (l : Nat) : part (Machine.sendFlit s l) = part s := by
  have hs (k : Link) (o : Out) : part ((s.setLink l k).emit o) = part s := (h.emit _ _).trans (h.setLink _ _ _)
  unfold Machine.sendFlit
  dsimp only
  split
  · rfl
  · split
    · rfl
    · split
      · rfl
      · exact State.ite_keeps ((h.freeFlits ..).trans (hs _ _)) (hs _ _)

theorem pumpLink (l n : Nat) (s : State) : part (Machine.pumpLink l n s) = part s := by
  induction n generalizing s with
  | zero => rfl
  | succ n ih => exact (ih _).trans (h.sendFlit s l)

theorem enqueue (s : State) (l vc : Nat) (half : Bool) (bytes : Bytes) (inLink inFlits : Nat) : part (s.enqueue l vc half bytes inLink inFlits) = part s := by
  have hp (t : State) : part (t.pump l) = part t := State.ite_keeps rfl (h.pumpLink _ _ _)
  exact (hp _).trans (h.setLink _ _ _)

theorem sendOn (s : State) (l ftype gen die : Nat) (parity : Bool) (tf : Nat) (body : Bytes) (dest : Nat) :
    part (s.sendOn l ftype gen die parity tf body dest) = part s := by
  unfold State.sendOn
  split
  · rfl
  · exact State.ite_keeps rfl (h.enqueue ..)

theorem sendAll (s : State) (ftype tf : Nat) (body : Bytes) : part (s.sendAll ftype tf body) = part s :=
  State.foldl_keeps part _ (fun _ _ => h.sendOn ..) _ _

end
end LinkFrame

theorem LinkFrame.conj : LinkFrame State.conj := ⟨fun _ _ _ => rfl, fun _ _ => rfl⟩
theorem LinkFrame.dget (i j : Nat) : LinkFrame (fun s => s.dget i j) := ⟨fun _ _ _ => rfl, fun _ _ => rfl⟩

end Sys2Proof.Machine
end

section
/-! SUPPORT. Conjunction windows (R64, R66, R70, R500): the window that a vector, a seal, a deadline or a decision replaces stands among the windows afterwards. -/

namespace Sys2Proof.Machine

/-- An element that is found and changed stands in the changed list. -/
theorem mem_mapIf {α : Type} {p : α → Bool} {f : α → α} {l : List α} {a : α} (ha : a ∈ l) (hp : p a = true) : f a ∈ mapIf p f l :=
  List.mem_map.mpr ⟨a, ha, by rw [hp, if_pos rfl]⟩

theorem State.mem_setWindow {s : State} {w w' : Window} (hw : w ∈ s.conj.windows) (hc : w'.conj = w.conj) (hg : w'.gen = w.gen) : w' ∈ (s.setWindow w').conj.windows :=
  mem_mapIf (f := fun _ => w') hw (by simp [hc, hg])

/-- A delivered frame that is taken leaves the rest of the state. -/
theorem State.takeFrame_keeps {s t : State} {ftype : Nat} {r : RxFrame} {f : Frame} (h : s.takeFrame ftype = some (r, f, t)) :
    r ∈ s.fab.inbox ∧ f = parseFrame r.bytes ∧ t = { s with fab := { s.fab with inbox := s.fab.inbox.erase r } } := by
  unfold State.takeFrame at h
  split at h
  · cases h
  · cases h
    exact ⟨List.mem_of_find?_eq_some ‹_›, rfl, rfl⟩

theorem lateFrames_size : (findEntry 0x2126 1).map Entry.size = some 8 := by rfl

/-- A frame that no window takes is counted, and the windows stay. -/
theorem State.lateFrame_counts (s : State) (r : RxFrame) :
    (s.lateFrame.free_ r).conj = s.conj ∧ (s.lateFrame.free_ r).dget 0x2126 1 = (s.dget 0x2126 1 + 1) % 2 ^ 64 :=
  ⟨(LinkFrame.conj.freeFrame _ _).trans (s.dadd_conj 0x2126 1 1), ((LinkFrame.dget 0x2126 1).freeFrame _ _).trans (s.dget_dadd_of_size _ _ _ lateFrames_size)⟩

theorem State.takesFrame_mem {s : State} {k : Nat} {isSeal : Bool} {w : Window} (h : s.takesFrame k isSeal = some w) : w ∈ s.conj.windows :=
  List.mem_of_find?_eq_some h

theorem State.takeVector_late (s : State) (f : Frame) (h : s.takesFrame (f.tf % 2 ^ 32) false = none) : s.takeVector f = s.lateFrame := by
  rw [State.takeVector, h]

/-- A vector that a window takes is merged into it. -/
theorem State.takeVector_merged {s : State} {f : Frame} {w : Window} (h : s.takesFrame (f.tf % 2 ^ 32) false = some w) :
    ({ w with vec := w.vec.merge (vecOf f.body) } : Window) ∈ (s.takeVector f).conj.windows := by
  have hm : ({ w with vec := w.vec.merge (vecOf f.body) } : Window) ∈ (s.setWindow { w with vec := w.vec.merge (vecOf f.body) }).conj.windows :=
    State.mem_setWindow (State.takesFrame_mem h) rfl rfl
  have hc : (s.takeVector f).conj = (s.setWindow { w with vec := w.vec.merge (vecOf f.body) }).conj := by
    rw [State.takeVector, h]
    exact State.ite_keeps (LinkFrame.conj.sendAll _ _ _ _) rfl
  rw [hc]
  exact hm

theorem State.takeSeal_late (s : State) (f : Frame) (h : s.takesFrame (f.tf % 2 ^ 32) true = none) : s.takeSeal f = s.lateFrame := by
  rw [State.takeSeal, h]

/-- The window with a received seal merged, by minimum and maximum (R66). -/
def Window.withSeal (w : Window) (lo hi : BitVec 32) : Window :=
  { w with sealMin := if lo < w.sealMin then lo else w.sealMin, sealMax := if w.sealMax < hi then hi else w.sealMax }

theorem Window.withSeal_sealMin (w : Window) (lo hi : BitVec 32) : (w.withSeal lo hi).sealMin.toNat = min w.sealMin.toNat lo.toNat := by
  simp only [Window.withSeal, BitVec.lt_def]
  split <;> omega

theorem Window.withSeal_sealMax (w : Window) (lo hi : BitVec 32) : (w.withSeal lo hi).sealMax.toNat = max w.sealMax.toNat hi.toNat := by
  simp only [Window.withSeal, BitVec.lt_def]
  split <;> omega

/-- A seal that a window takes is merged into it. -/
theorem State.takeSeal_merged {s : State} {f : Frame} {w : Window} (h : s.takesFrame (f.tf % 2 ^ 32) true = some w) :
    w.withSeal (BitVec.ofNat 32 (leAt f.body 0 4)) (BitVec.ofNat 32 (leAt f.body 4 4)) ∈ (s.takeSeal f).conj.windows := by
  have hm := State.mem_setWindow (w' := w.withSeal (BitVec.ofNat 32 (leAt f.body 0 4)) (BitVec.ofNat 32 (leAt f.body 4 4))) (State.takesFrame_mem h) rfl rfl
  have hc : (s.takeSeal f).conj = (s.setWindow (w.withSeal (BitVec.ofNat 32 (leAt f.body 0 4)) (BitVec.ofNat 32 (leAt f.body 4 4)))).conj := by
    rw [State.takeSeal, h]
    exact State.ite_keeps (LinkFrame.conj.sendAll _ _ _ _) rfl
  rw [hc]
  exact hm

/-- A number in w bytes is below 256 to the w. -/
theorem leNat_lt (bs : Bytes) : leNat bs < 256 ^ bs.length := by
  induction bs with
  | nil => simp [leNat]
  | cons b bs ih =>
    have hb : b.toNat < 256 := b.isLt
    simp only [leNat, List.length_cons, Nat.pow_succ']
    omega

theorem slice_length (bs : Bytes) (off n : Nat) : (slice bs off n).length = n := by
  simp only [slice, List.length_append, List.length_take, List.length_drop, List.length_replicate]
  omega

theorem leAt_lt (bs : Bytes) (off n : Nat) : leAt bs off n < 256 ^ n := by
  simpa only [leAt, slice_length] using leNat_lt (slice bs off n)

theorem leAt_ofNat (bs : Bytes) (off : Nat) : (BitVec.ofNat 32 (leAt bs off 4)).toNat = leAt bs off 4 := by
  have h := leAt_lt bs off 4
  rw [BitVec.toNat_ofNat]
  exact Nat.mod_eq_of_lt (by omega)

theorem agreement_completes {s : State} {r : RxFrame} {f : Frame} {t : State} (h : s.takeFrame 0x02 = some (r, f, t)) :
    Completes .agreement s (fun u =>
      (∀ w, t.takesFrame (f.tf % 2 ^ 32) false = some w → ({ w with vec := w.vec.merge (vecOf f.body) } : Window) ∈ u.conj.windows) ∧
      (t.takesFrame (f.tf % 2 ^ 32) false = none → u.conj = s.conj ∧ u.dget 0x2126 1 = (s.dget 0x2126 1 + 1) % 2 ^ 64)) := by
  obtain ⟨-, -, ht⟩ := State.takeFrame_keeps h
  refine completes_of_next (u := (t.takeVector f).free_ r) (by rw [exec_agreement, execAgreement, h]) ⟨fun w hw => ?_, fun hn => ?_⟩
  · rw [LinkFrame.conj.freeFrame]
    exact State.takeVector_merged hw
  · rw [t.takeVector_late f hn]
    obtain ⟨hc, hd⟩ := t.lateFrame_counts r
    rw [hc, hd, ht]
    exact ⟨rfl, rfl⟩

theorem seal_completes {s : State} {r : RxFrame} {f : Frame} {t : State} (h : s.takeFrame 0x03 = some (r, f, t)) :
    Completes .seal s (fun u =>
      (∀ w, t.takesFrame (f.tf % 2 ^ 32) true = some w → ∃ w' ∈ u.conj.windows, w'.vec = w.vec ∧
        w'.sealMin.toNat = min w.sealMin.toNat (leAt f.body 0 4) ∧ w'.sealMax.toNat = max w.sealMax.toNat (leAt f.body 4 4)) ∧
      (t.takesFrame (f.tf % 2 ^ 32) true = none → u.conj = s.conj ∧ u.dget 0x2126 1 = (s.dget 0x2126 1 + 1) % 2 ^ 64)) := by
  obtain ⟨-, -, ht⟩ := State.takeFrame_keeps h
  refine completes_of_next (u := (t.takeSeal f).free_ r) (by rw [exec_seal, execSeal, h]) ⟨fun w hw => ?_, fun hn => ?_⟩
  · rw [LinkFrame.conj.freeFrame]
    refine ⟨_, State.takeSeal_merged hw, rfl, ?_, ?_⟩
    · rw [Window.withSeal_sealMin, leAt_ofNat]
    · rw [Window.withSeal_sealMax, leAt_ofNat]
  · rw [t.takeSeal_late f hn]
    obtain ⟨hc, hd⟩ := t.lateFrame_counts r
    rw [hc, hd, ht]
    exact ⟨rfl, rfl⟩

/-- Tick 1,984 is reached with the windows as they are. -/
theorem State.atGuard_windows (s : State) : s.atGuard.conj.windows = s.conj.windows :=
  TimeFrame.passTo (part := fun s => s.conj.windows) ⟨fun _ _ => rfl, fun _ _ => rfl⟩ s _

/-- A deadline closes its window. -/
theorem State.deadline_closes (s : State) (n closed : Nat) (w : Window) (hg : s.guardMay = true) (hd : s.inDusk = false) (hw : s.deadlineWindow n closed = some w) :
    s.deadline n closed = .next (s.atGuard.setWindow { w with closed := closed }) ∧
    ({ w with closed := closed } : Window) ∈ (s.atGuard.setWindow { w with closed := closed }).conj.windows := by
  refine ⟨?_, State.mem_setWindow (w := w) ?_ rfl rfl⟩
  · rw [State.deadline, hw]
    simp [hg, hd]
  · rw [s.atGuard_windows]
    exact List.mem_of_find?_eq_some hw

theorem deadlines_complete (s : State) (hg : s.guardMay = true) (hd : s.inDusk = false) (w : Window) :
    (s.deadlineWindow 2 1 = some w → Completes .vectorDeadline s (fun u => ({ w with closed := 1 } : Window) ∈ u.conj.windows)) ∧
    (s.deadlineWindow 3 2 = some w → Completes .sealDeadline s (fun u => ({ w with closed := 2 } : Window) ∈ u.conj.windows)) :=
  ⟨fun hw => completes_of_next (s.deadline_closes 2 1 w hg hd hw).1 (s.deadline_closes 2 1 w hg hd hw).2,
    fun hw => completes_of_next (s.deadline_closes 3 2 w hg hd hw).1 (s.deadline_closes 3 2 w hg hd hw).2⟩

theorem State.dget_dadd_other (s : State) (i j n i' j' : Nat) (h : entryKey i' j' ≠ entryKey i j) : (s.dadd i j n).dget i' j' = s.dget i' j' := by
  unfold State.dadd
  split
  · exact State.dget_dset_other _ _ _ _ _ _ h
  · rfl

/-- The state with LAST_AGREEMENT at a value. -/
def State.withAgreement (s : State) (v : BitVec 1024) : State := { s with conj := { s.conj with lastAgreement := v } }
theorem State.withAgreement_windows (s : State) (v : BitVec 1024) : (s.withAgreement v).conj.windows = s.conj.windows := rfl
theorem State.withAgreement_lastAgreement (s : State) (v : BitVec 1024) : (s.withAgreement v).conj.lastAgreement = v := rfl

/-- The state with a window's decision latched and its merged vector published, before the count of swaps that are not ready. -/
def State.publish (s : State) (w : Window) : State :=
  ((s.setWindow { w with decision := some w.decide }).withAgreement (BitVec.ofNat 1024 (leNat w.vec.bytes))).dset 0x2104 4 w.vec.slipKey

theorem State.latch_eq (s : State) (w : Window) :
    s.latch w = if w.swapNotReady = true ∧ (s.publish w).dget 0x2117 0 ≠ 0 then (s.publish w).dadd 0x2126 3 1 else s.publish w := rfl

theorem State.publish_windows (s : State) (w : Window) : (s.publish w).conj.windows = (s.setWindow { w with decision := some w.decide }).conj.windows := by
  rw [State.publish, State.dset_conj, State.withAgreement_windows]
theorem State.publish_lastAgreement (s : State) (w : Window) : (s.publish w).conj.lastAgreement = BitVec.ofNat 1024 (leNat w.vec.bytes) := by
  rw [State.publish, State.dset_conj, State.withAgreement_lastAgreement]
theorem State.publish_slipKey (s : State) (w : Window) : (s.publish w).dget 0x2104 4 = w.vec.slipKey := State.dget_dset _ _ _ _

theorem State.latch_conj (s : State) (w : Window) : (s.latch w).conj = (s.publish w).conj := by
  rw [State.latch_eq]
  exact State.ite_keeps (State.dadd_conj _ _ _ _) rfl

theorem State.latch_slipKey (s : State) (w : Window) : (s.latch w).dget 0x2104 4 = w.vec.slipKey := by
  rw [State.latch_eq]
  exact (State.ite_keeps (part := fun t : State => t.dget 0x2104 4) (State.dget_dadd_other _ _ _ _ _ _ (by decide)) rfl).trans (s.publish_slipKey w)

/-- The decision is latched in its window, and the merged vector published. -/
theorem State.latch_publishes (s : State) (w : Window) (hw : w ∈ s.conj.windows) : ({ w with decision := some w.decide } : Window) ∈ (s.latch w).conj.windows ∧
    (s.latch w).conj.lastAgreement = BitVec.ofNat 1024 (leNat w.vec.bytes) ∧ (s.latch w).dget 0x2104 4 = w.vec.slipKey := by
  rw [s.latch_conj, s.publish_windows, s.publish_lastAgreement, s.latch_slipKey]
  exact ⟨State.mem_setWindow hw rfl rfl, rfl, rfl⟩

/-- Settles O26, event by event. -/
theorem conjunctionWindow : Obligations.ConjunctionWindow := fun s =>
  ⟨fun _ _ _ h => agreement_completes h, fun _ _ _ h => seal_completes h, fun hg hd w => deadlines_complete s hg hd w,
    fun hl hc w hw hn => completes_of_next (by rw [exec_conjunctionDecision, execConjunctionDecision, hw]; simp [hl, hc, hn])
      (s.latch_publishes w (List.mem_of_find?_eq_some hw))⟩

end Sys2Proof.Machine
end

section
/-! SUPPORT. The open windows (R500): the engine's work at an effect slot, the save area of a halt and the activation of an Almanac leave them as they are. -/

namespace Sys2Proof.Machine

theorem LinkFrame.windows : LinkFrame (fun s => s.conj.windows) := ⟨fun _ _ _ => rfl, fun _ _ => rfl⟩

@[simp] theorem State.ite_windows (c : Prop) [Decidable c] (s t : State) :
    (if c then s else t).conj.windows = if c then s.conj.windows else t.conj.windows := apply_ite (fun s : State => s.conj.windows) _ _ _

@[simp] theorem State.foldl_windows {α : Type} (f : State → α → State) (hf : ∀ s a, (f s a).conj.windows = s.conj.windows) (l : List α) (s : State) :
    (l.foldl f s).conj.windows = s.conj.windows := State.foldl_keeps (fun s => s.conj.windows) f hf l s

@[simp] theorem State.fatal_windows (s : State) (code die : Nat) (src : Source) (step loc sub : Nat) (det : Bytes) :
    (s.fatal code die src step loc sub det).conj.windows = s.conj.windows := rfl

@[simp] theorem State.freeFlits_windows (s : State) (l vc n : Nat) : (s.freeFlits l vc n).conj.windows = s.conj.windows := LinkFrame.windows.freeFlits ..
@[simp] theorem State.pump_windows (s : State) (l : Nat) : (s.pump l).conj.windows = s.conj.windows :=
  State.ite_keeps (part := fun s => s.conj.windows) rfl (LinkFrame.windows.pumpLink ..)

@[simp] theorem State.enqueue_windows (s : State) (l vc : Nat) (half : Bool) (bytes : Bytes) (inLink inFlits : Nat) :
    (s.enqueue l vc half bytes inLink inFlits).conj.windows = s.conj.windows := LinkFrame.windows.enqueue ..

@[simp] theorem State.vote_windows (s : State) (veto : Bool) (step src die core : Nat) : (s.vote veto step src die core).conj.windows = s.conj.windows := by simp [State.vote]
@[simp] theorem State.nonfiniteOn_windows (s : State) (die core step src : Nat) : (s.nonfiniteOn die core step src).conj.windows = s.conj.windows := by simp [State.nonfiniteOn]
@[simp] theorem State.bumpGate_windows (s : State) (g : Nat) (odd : Bool) : (s.bumpGate g odd).conj.windows = s.conj.windows := by simp [State.bumpGate]
@[simp] theorem State.localInc_windows (s : State) (g : Nat) (odd : Bool) (step die core : Nat) : (s.localInc g odd step die core).conj.windows = s.conj.windows := by
  simp [State.localInc]

@[simp] theorem State.completeAction_windows (s : State) (id : Nat) : (s.completeAction id).conj.windows = s.conj.windows := by
  unfold State.completeAction
  split <;> simp

@[simp] theorem State.noRoute_windows (s : State) (l tag : Nat) : (s.noRoute l tag).conj.windows = s.conj.windows := by simp [State.noRoute]
@[simp] theorem State.deliver_windows (s : State) (r : RxFrame) : (s.deliver r).conj.windows = s.conj.windows := by simp [State.deliver]
@[simp] theorem State.forward_windows (s : State) (f : Frame) (key inLink : Nat) (inHalf : Bool) (inFlits : Nat) :
    (s.forward f key inLink inHalf inFlits).conj.windows = s.conj.windows := by
  unfold State.forward
  split <;> simp

@[simp] theorem State.send_windows (s : State) (ftype dest gen die : Nat) (parity : Bool) (tf : Nat) (body : Bytes) (key : Nat) :
    (s.send ftype dest gen die parity tf body key).conj.windows = s.conj.windows := by simp [State.send]

@[simp] theorem State.store_windows (s : State) (a : Nat) (bs : Bytes) : (s.store a bs).conj.windows = s.conj.windows := by
  induction bs generalizing s a with
  | nil => rfl
  | cons b bs ih => exact ih _ _

@[simp] theorem State.poisonSector_windows (s : State) (storage : Nat) : (s.poisonSector storage).conj.windows = s.conj.windows := by simp [State.poisonSector]
@[simp] theorem State.eccCorrected_windows (s : State) (storage sub unit : Nat) : (s.eccCorrected storage sub unit).conj.windows = s.conj.windows := by simp [State.eccCorrected]
@[simp] theorem State.poisonFound_windows (s : State) (storage : Nat) : (s.poisonFound storage).conj.windows = s.conj.windows := by simp [State.poisonFound]
@[simp] theorem State.outcome_windows (s : State) (die useful late unused : Nat) : (s.outcome die useful late unused).conj.windows = s.conj.windows := by simp [State.outcome]
@[simp] theorem State.loftEvict_windows (s : State) (l : LoftLine) : (s.loftEvict l).conj.windows = s.conj.windows := by
  unfold State.loftEvict
  split <;> simp

@[simp] theorem State.loftInstall_windows (s : State) (l : LoftLine) : (s.loftInstall l).conj.windows = s.conj.windows := by
  unfold State.loftInstall
  dsimp only
  repeat' split
  all_goals simp

@[simp] theorem State.loftRefresh_windows (s : State) (l : LoftLine) : (s.loftRefresh l).conj.windows = s.conj.windows := by simp [State.loftRefresh]
@[simp] theorem State.checkSector_windows (s : State) (line : Nat) : (s.checkSector line).conj.windows = s.conj.windows := by
  unfold State.checkSector
  split <;> simp

@[simp] theorem State.markWrite_windows (s : State) (a n : Nat) (alloc : Bool) (src : Source) (loc sub step : Nat) :
    (s.markWrite a n alloc src loc sub step).conj.windows = s.conj.windows := by
  unfold State.markWrite
  dsimp only
  repeat' split
  all_goals simp

@[simp] theorem State.countGuards_windows (s : State) (gs : List Nat) : (s.countGuards gs).conj.windows = s.conj.windows := by simp [State.countGuards]
@[simp] theorem State.putBytes_windows (s : State) (gs : List Nat) (a : Nat) (bs : Bytes) : (s.putBytes gs a bs).conj.windows = s.conj.windows := by simp [State.putBytes]
@[simp] theorem State.putSector_windows (s : State) (gs : List Nat) (a : Nat) (bs : Bytes) : (s.putSector gs a bs).conj.windows = s.conj.windows := by simp [State.putSector]
@[simp] theorem State.acceptWrite_windows (s : State) (a : Nat) (bs : Bytes) (alloc : Bool) (src : Source) (loc sub step : Nat) :
    (s.acceptWrite a bs alloc src loc sub step).conj.windows = s.conj.windows := by
  unfold State.acceptWrite
  split <;> simp

@[simp] theorem State.applyWrite_windows (s : State) (a : Nat) (bs : Bytes) (alloc : Bool) (src : Source) (loc sub step : Nat) :
    (s.applyWrite a bs alloc src loc sub step).conj.windows = s.conj.windows := by
  unfold State.applyWrite
  split <;> simp

@[simp] theorem State.applyAdd_windows (s : State) (a fmt : Nat) (bs : Bytes) (src : Source) (loc sub step : Nat) :
    (s.applyAdd a fmt bs src loc sub step).1.conj.windows = s.conj.windows := by
  unfold State.applyAdd
  split <;> simp

@[simp] theorem State.eavesDrop_windows (s : State) (die : Nat) (t : Target) : (s.eavesDrop die t).conj.windows = s.conj.windows := by
  unfold State.eavesDrop
  split <;> simp

@[simp] theorem State.eavesInvalidate_windows (s : State) : s.eavesInvalidate.conj.windows = s.conj.windows := by simp [State.eavesInvalidate]
@[simp] theorem State.mapReq_windows (s : State) (id : Nat) (f : Req → Req) : (s.mapReq id f).conj.windows = s.conj.windows := by simp [State.mapReq]
@[simp] theorem State.perform_windows (s : State) (r : Req) : (s.perform r).conj.windows = s.conj.windows := by
  unfold State.perform
  dsimp only
  repeat' split
  all_goals simp

@[simp] theorem State.export_windows (s : State) (line : Nat) : (s.export_ line).conj.windows = s.conj.windows := rfl
@[simp] theorem State.serve_windows (s : State) (r : Req) (line : Nat) : (s.serve r line).conj.windows = s.conj.windows := by simp [State.serve]
@[simp] theorem State.memoryEcc_windows (s : State) (line : Nat) (e : EccEvent) : (s.memoryEcc line e).conj.windows = s.conj.windows := by
  unfold State.memoryEcc
  split <;> simp

@[simp] theorem State.landFill_windows (s : State) (f : Fill) (e : EccEvent) : (s.landFill f e).conj.windows = s.conj.windows := by
  unfold State.landFill
  refine (State.foldl_windows _ (fun s id => by split <;> simp) _ _).trans ?_
  dsimp only
  repeat' split
  all_goals simp

@[simp] theorem State.settle_windows (s : State) (line : Nat) : (s.settle line).conj.windows = s.conj.windows := by
  unfold State.settle
  split <;> simp

@[simp] theorem State.arriveWrite_windows (s : State) (die a : Nat) (bs : Bytes) (alloc : Bool) (src : Source) (loc sub step : Nat) :
    (s.arriveWrite die a bs alloc src loc sub step).conj.windows = s.conj.windows := by simp [State.arriveWrite]

@[simp] theorem State.peakAt_windows (s : State) (die n : Nat) : (s.peakAt die n).conj.windows = s.conj.windows := by simp [State.peakAt]
@[simp] theorem State.noteOne_windows (s : State) (die : Nat) : (s.noteOne die).conj.windows = s.conj.windows := by simp [State.noteOne]
@[simp] theorem State.notePeak_windows (s : State) (die : Nat) : (s.notePeak die).conj.windows = s.conj.windows := by simp [State.notePeak]
@[simp] theorem State.eavesTouch_windows (s : State) (l : EavesLine) : (s.eavesTouch l).conj.windows = s.conj.windows := rfl
@[simp] theorem State.issue_windows (s : State) (r : Req) (mayEaves : Bool) : (s.issue r mayEaves).1.conj.windows = s.conj.windows := by
  unfold State.issue
  dsimp only
  repeat' split
  all_goals simp

@[simp] theorem State.dropAgent_windows (s : State) (a : Agent) : (s.dropAgent a).conj.windows = s.conj.windows := by simp [State.dropAgent]
@[simp] theorem State.dropJob_windows (s : State) (id : Nat) : (s.dropJob id).conj.windows = s.conj.windows := by simp [State.dropJob]
@[simp] theorem State.setJob_windows (s : State) (j : UpdJob) : (s.setJob j).conj.windows = s.conj.windows := by simp [State.setJob]
@[simp] theorem State.forgetStaging_windows (s : State) (cores : List Nat) : (s.forgetStaging cores).conj.windows = s.conj.windows := by simp [State.forgetStaging]
@[simp] theorem State.clearArrays_windows (s : State) (cores : List Nat) : (s.clearArrays cores).conj.windows = s.conj.windows := by simp [State.clearArrays]
@[simp] theorem State.finishJob_windows (s : State) (id : Nat) : (s.finishJob id).conj.windows = s.conj.windows := by
  unfold State.finishJob
  split <;> simp

@[simp] theorem State.retireEntry_windows (s : State) (id : Nat) : (s.retireEntry id).conj.windows = s.conj.windows := by
  unfold State.retireEntry
  split <;> simp

@[simp] theorem State.writeTarget_windows (s : State) (j : UpdJob) (g va : Nat) (t : Target) (alloc : Bool) (bs : Bytes) :
    (s.writeTarget j g va t alloc bs).conj.windows = s.conj.windows := by
  unfold State.writeTarget
  split <;> simp

@[simp] theorem State.addFollow_windows (s : State) (j : UpdJob) (kind : FollowKind) (pos : Nat) (desc : BitVec 1024) (rows : List UpdRow) (u w : Nat)
    (skipped : Bool) :
    (s.addFollow j kind pos desc rows u w skipped).conj.windows = s.conj.windows := by simp [State.addFollow]

@[simp] theorem State.writeWords_windows (s : State) (j : UpdJob) (va : Nat) (rows : List UpdRow) (bytes : UpdRow → Bytes) :
    (s.writeWords j va rows bytes).conj.windows = s.conj.windows := by simp [State.writeWords]

@[simp] theorem State.commitRec_windows (s : State) (r : PendRec) : (s.commitRec r).conj.windows = s.conj.windows := by
  unfold State.commitRec
  dsimp only
  repeat' split
  all_goals simp

@[simp] theorem State.followRec_windows (s : State) (r : PendRec) (skipped : Bool) : (s.followRec r skipped).conj.windows = s.conj.windows := by
  unfold State.followRec
  split <;> simp

@[simp] theorem State.updateEffect_windows (s : State) (conj : Nat) (d : Decision) : (s.updateEffect conj d).conj.windows = s.conj.windows := by
  unfold State.updateEffect
  split <;> simp

@[simp] theorem State.ownWrite_windows (s : State) (a : Nat) (bs : Bytes) : (s.ownWrite a bs).conj.windows = s.conj.windows := by
  unfold State.ownWrite
  exact State.foldl_windows _ (fun s p => by split <;> simp) _ _

@[simp] theorem State.saveBytes_windows (s : State) (off : Nat) (bs : Bytes) : (s.saveBytes off bs).conj.windows = s.conj.windows := by simp [State.saveBytes]

/-- The save area of a halt is written by saveBytes alone: what every such write keeps, it keeps. -/
theorem State.writeSaveArea_keeps {β : Type} {part : State → β} (hs : ∀ (t : State) off bs, part (t.saveBytes off bs) = part t) (s : State) (kind abandoned : Nat) :
    part (s.writeSaveArea kind abandoned) = part s := by
  have hf (f : Nat → Nat) (g : Nat → Bytes) (t : State) : part ((List.range 384).foldl (fun t k => t.saveBytes (f k) (g k)) t) = part t :=
    State.foldl_keeps part _ (fun t k => hs t (f k) (g k)) _ _
  have hhead := (hf (fun k => 0x33D0000 + 102400 * k) (fun k => (s.core k).arrayContext) _).trans
    ((hf (fun k => 0x10000 + 4416 * 32 * k) s.threadContexts _).trans ((hs _ 0x9000 ((List.range 384).map (fun g => s.updContext g)).flatten).trans
      ((hs _ 0x1000 ((List.range 256).map (fun m => s.moverContext (m / 64) (m % 64))).flatten).trans (hs s 0 (s.saveHeader kind abandoned)))))
  exact State.ite_keeps ((State.foldl_keeps part _ (fun _ _ => (hs _ _ _).trans (hs _ _ _)) _ _).trans hhead) hhead

@[simp] theorem State.writeSaveArea_windows (s : State) (kind abandoned : Nat) : (s.writeSaveArea kind abandoned).conj.windows = s.conj.windows :=
  State.writeSaveArea_keeps (part := fun s => s.conj.windows) State.saveBytes_windows s kind abandoned

@[simp] theorem State.saveHalt_windows (s : State) (abandoned : Nat) : (s.saveHalt abandoned).conj.windows = s.conj.windows := by simp [State.saveHalt]
@[simp] theorem State.finishHalt_windows (s : State) : s.finishHalt.conj.windows = s.conj.windows := by simp [State.finishHalt]
@[simp] theorem State.enterLink_windows (s : State) (l : Nat) (st : LinkSt) (code : Nat) : (s.enterLink l st code).conj.windows = s.conj.windows := by simp [State.enterLink]
@[simp] theorem State.compareIdentity_windows (s : State) (l : Nat) : (s.compareIdentity l).conj.windows = s.conj.windows := by
  unfold State.compareIdentity
  repeat' split
  all_goals simp

@[simp] theorem State.strand_windows (s : State) (l : Nat) (f : TxFrame) : (s.strand l f).conj.windows = s.conj.windows := by simp [State.strand]
@[simp] theorem State.linkDown_windows (s : State) (l : Nat) : (s.linkDown l).conj.windows = s.conj.windows := by simp [State.linkDown]
@[simp] theorem State.reviewLink_windows (s : State) (l : Nat) : (s.reviewLink l).conj.windows = s.conj.windows := by
  unfold State.reviewLink
  dsimp only
  repeat' split
  all_goals simp

@[simp] theorem State.commitFabric_windows (s : State) : s.commitFabric.conj.windows = s.conj.windows := by
  unfold State.commitFabric
  refine (State.foldl_windows _ State.reviewLink_windows _ _).trans ?_
  refine (State.foldl_windows (fun (s : State) (g : Nat) => s.dset _ _ _) (fun _ _ => rfl) _ _).trans ?_
  exact State.foldl_windows (fun (s : State) (l : Nat) => s.dset _ _ _) (fun _ _ => rfl) _ _

@[simp] theorem State.dropStaged_windows (s : State) : s.dropStaged.conj.windows = s.conj.windows := by simp [State.dropStaged]
@[simp] theorem State.freshAlmanac_windows (s : State) (h : AlmHeader) : (s.freshAlmanac h).conj.windows = s.conj.windows := by simp [State.freshAlmanac]
@[simp] theorem State.bindSkip_windows (s : State) (step : Nat) : (s.bindSkip step).conj.windows = s.conj.windows := by simp [State.bindSkip]
@[simp] theorem State.completeAlmanac_windows (s : State) : s.completeAlmanac.conj.windows = s.conj.windows := by simp [State.completeAlmanac]
@[simp] theorem State.activate_windows (s : State) (h : AlmHeader) : (s.activate h).conj.windows = s.conj.windows := by simp [State.activate]
@[simp] theorem State.atBoundary_windows (s : State) : s.atBoundary.conj.windows = s.conj.windows := by
  unfold State.atBoundary
  exact State.ite_keeps (part := fun s => s.conj.windows) rfl
    (TimeFrame.passTo (part := fun s => s.conj.windows) ⟨fun _ _ => rfl, fun _ _ => rfl⟩ s _)

end Sys2Proof.Machine
end

section
/-! SUPPORT. The outcome of a conjunction (R67) and its effect at c + 4 (R68 to R70, R500). -/

namespace Sys2Proof.Machine

/-! ### The rules of R67 -/

/-- A rank is missing when it is expected and not present. -/
theorem Window.missing_iff (w : Window) : w.missing ≠ 0 ↔ ∃ i : Fin 512, w.ranks.getLsbD i = true ∧ w.vec.presence.getLsbD i = false := by
  constructor
  · intro h
    by_contra hn
    refine h (BitVec.eq_of_getLsbD_eq fun i hi => ?_)
    by_contra hb
    refine hn ⟨⟨i, hi⟩, ?_⟩
    simpa [Window.missing, hi] using hb
  · rintro ⟨i, hr, hp⟩ h
    have hi := congrArg (fun b : BitVec 512 => b.getLsbD i) h
    rw [Window.missing, BitVec.getLsbD_and, BitVec.getLsbD_not, hr, hp] at hi
    simp at hi

theorem AVec.standbyReady_iff (v : AVec) : v.standbyReady = true ↔ v.standbyMin = v.standbyMax ∧ v.standbyMax ≠ 0 := by
  simp only [AVec.standbyReady, Bool.and_eq_true, beq_iff_eq, bne_iff_ne]
  constructor
  · rintro ⟨h, hn⟩
    exact ⟨h, h ▸ hn⟩
  · rintro ⟨h, hn⟩
    exact ⟨h, h ▸ hn⟩

/-- The rules of R67 in their order, in the terms of the vector's fields. -/
theorem Window.decide_eq (w : Window) : w.decide =
    (if ¬(w.sealMin = w.sealMax ∧ w.vec.idMin = w.vec.idMax ∧ w.vec.conjMin = w.vec.conjMax) then Decision.halt 0x12
    else if ∃ i : Fin 512, w.ranks.getLsbD i = true ∧ w.vec.presence.getLsbD i = false then .halt 0x11
    else if w.vec.flags.getLsbD 0 = true then .halt 0x10
    else if w.vec.flags.getLsbD 3 = true then .pause
    else if w.vec.flags.getLsbD 4 = true ∧ w.vec.standbyMin = w.vec.standbyMax ∧ w.vec.standbyMax ≠ 0 then .swap
    else if w.final = true then .complete (w.chain && Decidable.decide (w.vec.standbyMin = w.vec.standbyMax ∧ w.vec.standbyMax ≠ 0))
    else if w.vec.slipKey / 2 ^ 16 ≠ 0 then .slip (w.vec.slipKey / 2 ^ 16)
    else .nothing) := by
  have hseal : (w.sealMin ≠ w.sealMax ∨ w.vec.idMin ≠ w.vec.idMax ∨ w.vec.conjMin ≠ w.vec.conjMax) ↔
      ¬(w.sealMin = w.sealMax ∧ w.vec.idMin = w.vec.idMax ∧ w.vec.conjMin = w.vec.conjMax) := by tauto
  have hready : w.vec.standbyReady = Decidable.decide (w.vec.standbyMin = w.vec.standbyMax ∧ w.vec.standbyMax ≠ 0) := by
    rw [Bool.eq_iff_iff, w.vec.standbyReady_iff, decide_eq_true_iff]
  have hslip : 0 < w.vec.slip ↔ w.vec.slipKey / 2 ^ 16 ≠ 0 := Nat.pos_iff_ne_zero
  unfold Window.decide
  simp only [AVec.flag, hseal, w.missing_iff, hready, hslip, Bool.and_eq_true, decide_eq_true_eq]
  rfl

/-! ### The effect -/

/-- The state before a window's decision is applied: the window is gone, the skip bound and the engine's work done (R215, R217, R234). -/
def State.beforeDecision (s : State) (w : Window) : State :=
  let s : State := { s with conj := { s.conj with windows := s.conj.windows.filter (fun x => !(x.conj == w.conj && x.gen == w.gen)) } }
  let s := s.dadd 0x2104 1 1
  let s := match w.decision with | some (.halt _) => s | _ => s.bindSkip w.vec.skipMin
  s.updateEffect (s.updateView w).1 (s.updateView w).2

theorem State.conjunctionEffect_eq (s : State) (w : Window) : s.conjunctionEffect w = (s.beforeDecision w).applyDecision w := rfl

theorem State.beforeDecision_windows (s : State) (w : Window) :
    (s.beforeDecision w).conj.windows = s.conj.windows.filter (fun x => !(x.conj == w.conj && x.gen == w.gen)) := by
  unfold State.beforeDecision
  dsimp only
  split <;> simp

@[simp] theorem State.bindSkip_alm (s : State) (step : Nat) : (s.bindSkip step).alm = s.alm := by
  unfold State.bindSkip
  dsimp only
  repeat' split
  all_goals simp

/-- A slip commits nothing. -/
theorem State.updateEffect_slip_alm (s : State) (conj n : Nat) : (s.updateEffect conj (.slip n)).alm = s.alm := by
  unfold State.updateEffect
  dsimp only
  rw [if_neg Bool.false_ne_true, State.dadd_alm]

/-- A slip lets the engine commit nothing, and the Almanac is as it was. -/
theorem State.beforeDecision_alm_of_slip (s : State) (w : Window) (n : Nat) (h : w.decision = some (.slip n)) : (s.beforeDecision w).alm = s.alm := by
  have hu (t : State) : (t.updateView w).2 = .slip n := by
    simp only [State.updateView, h, Option.getD_some]
    split <;> rfl
  unfold State.beforeDecision
  dsimp only
  rw [hu, h, State.updateEffect_slip_alm]
  simp

/-- A halt takes the package out of every conjunction (R69). -/
theorem State.haltNow_windows (s : State) (code : Nat) (missing : BitVec 512) : (s.haltNow code missing).conj.windows = [] := by
  unfold State.haltNow
  dsimp only
  rw [State.finishHalt_windows]

/-- A decision opens no window. -/
theorem State.applyDecision_windows (s : State) (w x : Window) (hx : x ∈ (s.applyDecision w).conj.windows) : x ∈ s.conj.windows := by
  unfold State.applyDecision at hx
  split at hx
  · rw [State.haltNow_windows] at hx
    cases hx
  · exact hx
  · split at hx
    · simpa using hx
    · exact hx
  · split at hx
    · exact hx
    · split at hx
      · simpa using hx
      · simpa using hx
  · simpa using hx
  · exact hx

/-- The effect takes the decided window away. -/
theorem State.conjunctionEffect_windows (s : State) (w x : Window) (hx : x ∈ (s.conjunctionEffect w).conj.windows) : x.conj ≠ w.conj ∨ x.gen ≠ w.gen := by
  rw [s.conjunctionEffect_eq w] at hx
  have h := (s.beforeDecision w).applyDecision_windows w x hx
  rw [s.beforeDecision_windows] at h
  have hf := (List.mem_filter.mp h).2
  simp only [Bool.not_eq_true', Bool.and_eq_false_iff, beq_eq_false_iff_ne] at hf
  exact hf

theorem State.applyDecision_halt (s : State) (w : Window) (code : Nat) (h : w.decision = some (.halt code)) :
    s.applyDecision w = s.haltNow code (if code = 0x11 then w.missing else 0) := by rw [State.applyDecision, h]

theorem State.applyDecision_pause (s : State) (w : Window) (h : w.decision = some .pause) :
    s.applyDecision w = ({ s with alm := { s.alm with state := .paused, resumeAt := none } } : State).dset 0x2115 0 0 := by rw [State.applyDecision, h]

/-- A slip delays the Almanac's slots from its first on. -/
theorem State.applyDecision_slip (s : State) (w : Window) (n : Nat) (h : w.decision = some (.slip n)) :
    (s.applyDecision w).alm = { s.alm with slips := s.alm.slips ++ [(s.slipFirst w, n)] } := by
  rw [State.applyDecision, h]
  simp

theorem State.slipFirst_eq (s : State) (w : Window) : s.slipFirst w = if w.gen = s.alm.gen then w.first else s.alm.nextAlm := by
  simp [State.slipFirst, State.ownWindow]

theorem State.atBoundary_alm (s : State) : s.atBoundary.alm = s.alm := by
  unfold State.atBoundary
  exact State.ite_keeps (part := State.alm) rfl (TimeFrame.passTo (part := State.alm) ⟨fun _ _ => rfl, fun _ _ => rfl⟩ s _)

/-- The conditions of the effect of a window with a decision. -/
theorem exec_conjunctionEffect_due (s : State) (w : Window) (d : Decision) (hl : s.leads = true) (hb : s.boundaryMay = true) (hd : isDusk s.atBoundary.slot = false)
    (hw : s.dueWindow = some w) (hdec : w.decision = some d) : exec .conjunctionEffect s = .next (s.atBoundary.conjunctionEffect w) := by
  rw [exec_conjunctionEffect, execConjunctionEffect, hw]
  simp [hl, hb, hd, hdec]

/-- Settles O27: the rules of R67, and what the effects of a decision, of a halt, of a pause and of a slip leave. -/
theorem conjunctionOutcome : Obligations.ConjunctionOutcome := by
  refine ⟨Window.decide_eq, fun s w hl hb hd hw => ⟨fun d hdec => ?_, fun code hdec => ?_, fun hdec => ?_, fun n hdec => ?_⟩⟩
  all_goals refine completes_of_next (exec_conjunctionEffect_due s w _ hl hb hd hw hdec) ?_
  · exact fun x hx => s.atBoundary.conjunctionEffect_windows w x hx
  · rw [State.conjunctionEffect_eq, State.applyDecision_halt _ w code hdec]
    obtain ⟨hs, hc⟩ := (s.atBoundary.beforeDecision w).haltNow_halted code (if code = 0x11 then w.missing else 0)
    exact ⟨hs, hc, State.haltNow_windows _ _ _⟩
  · rw [State.conjunctionEffect_eq, State.applyDecision_pause _ w hdec]
    exact ⟨rfl, State.dget_dset _ _ _ _⟩
  · rw [State.conjunctionEffect_eq, State.applyDecision_slip _ w n hdec, State.slipFirst_eq, State.beforeDecision_alm_of_slip _ w n hdec, State.atBoundary_alm]
    exact ⟨rfl, rfl⟩

end Sys2Proof.Machine
end

section
/-! SUPPORT. Clocks and resets (R453 to R465): root PLLs, crossings, the three entries that command them, and what a package reset leaves in the boot unit. -/

namespace Sys2Proof.Machine

/-! ### PLLs -/

/-- With three root PLLs locked, the fourth completes them. -/
theorem plist_pset_locked (p : PerDie Nat) (die : Fin 4) (h : ∀ d : Fin 4, d ≠ die → pget p d = 2) : plist (pset p die 2) = [2, 2, 2, 2] := by
  obtain ⟨a, b, c, e⟩ := p
  have h0 := h 0
  have h1 := h 1
  have h2 := h 2
  have h3 := h 3
  fin_cases die <;> simp_all [plist, pset, pget]

/-- The state with a root PLL locked. -/
def State.lockPll (s : State) (d : Nat) : State := { s with clk := { s.clk with pll := pset s.clk.pll d 2 } }

theorem State.pllLock_eq (s : State) (d : Nat) : s.pllLock d =
    if !(s.lockPll d).pllsLocked ∨ !(s.lockPll d).time.counting then s.lockPll d
    else if (s.lockPll d).isRoot then (s.lockPll d).reviewLock
    else match (s.lockPll d).time.lock with
      | .syntonising => { s.lockPll d with time := { (s.lockPll d).time with lock := .aligning, inTolerance := 0 } }
      | _ => s.lockPll d := by
  unfold State.pllLock State.lockPll
  rfl

/-- A PLL that locks stays locked through what follows from it. -/
theorem State.pllLock_clk (s : State) (d : Nat) : (s.pllLock d).clk = (s.lockPll d).clk := by
  rw [State.pllLock_eq]
  split
  · rfl
  · split
    · exact (State.reviewLock_keeps _).2.2
    · split <;> rfl

/-- At the root the last PLL brings LOCKED. -/
theorem State.pllLock_root (s : State) (die : Fin 4) (hc : s.time.counting = true) (hr : s.isRoot = true) (ho : ∀ d : Fin 4, d ≠ die → pget s.clk.pll d = 2) :
    (s.pllLock die).time.lock = .locked := by
  have hp : (s.lockPll die).pllsLocked = true := by
    rw [State.pllsLocked, State.lockPll, plist_pset_locked s.clk.pll die ho]
    rfl
  have hl : (s.lockPll die).reviewLock.time.lock = .locked := by
    unfold State.reviewLock
    rw [if_neg (by simp [State.lockPll, hc]), if_pos (show (s.lockPll die).isRoot = true from hr), hp]
    rfl
  have hcount : (s.lockPll die).time.counting = true := hc
  have he : s.pllLock die = (s.lockPll die).reviewLock := by
    rw [State.pllLock_eq, if_neg (by simp [hp, hcount]), if_pos (show (s.lockPll die).isRoot = true from hr)]
  rw [he, hl]

theorem rootPll_completes (s : State) (die : Fin 4) (hr : s.boot.inReset = false) :
    (pget s.clk.pll die = 1 → Completes (.rootPllLock die) s (fun u => pget u.clk.pll die = 2 ∧
      (s.time.counting = true → s.isRoot = true → (∀ d : Fin 4, d ≠ die → pget s.clk.pll d = 2) → u.time.lock = .locked))) ∧
    (s.clockOn = true → pget s.clk.pll die = 2 → Completes (.pllUnlock die) s (fun u => pget u.clk.pll die = 1 ∧ u.boot.mode = .faulted)) := by
  refine ⟨fun h => completes_of_when (exec_rootPllLock die s) (by simp [hr, h]) ⟨?_, fun hc hroot ho => s.pllLock_root die hc hroot ho⟩,
    fun hc h => completes_of_when (exec_pllUnlock die s) (by simp [hc, h]) ⟨pget_pset_same _ _ _, rfl⟩⟩
  rw [State.pllLock_clk]
  exact pget_pset_same _ _ _

theorem refSwitch_completes (s : State) (hc : s.clockOn = true) (hl : s.time.lock = .free) (hr : s.clk.refSource = 0) :
    Completes .refSwitch s (fun u => u.clk.refSource = 1 ∧ u.time = s.time ∧ u.mem = s.mem) :=
  completes_of_when (exec_refSwitch s) (by simp [hc, hl, hr]) ⟨rfl, rfl, rfl⟩

/-! ### Crossings -/

theorem State.crossing_setCrossing (s : State) (n : Nat) (c : Crossing) : (s.setCrossing n c).crossing n = c := tget_tset_same _ _ _ _
theorem State.crossing_of_clk {s t : State} (h : t.clk = s.clk) (n : Nat) : t.crossing n = s.crossing n := by rw [State.crossing, h, ← State.crossing]

/-- An overrun sets the sticky flag and raises the count up to all ones. -/
theorem State.overrun_crossing (s : State) (n : Nat) :
    (s.overrun n).crossing n = { s.crossing n with overrun := true, count := min (2 ^ 32 - 1) ((s.crossing n).count + 1) } := by
  have hk : (s.overrun n).clk = (s.setCrossing n { s.crossing n with overrun := true, count := min (2 ^ 32 - 1) ((s.crossing n).count + 1) }).clk := by
    unfold State.overrun
    dsimp only
    split <;> simp
  rw [State.crossing_of_clk hk, State.crossing_setCrossing]

theorem crossing_completes (s : State) (n : Nat) (hn : n < Config.crossings) (hr : s.boot.inReset = false) :
    ((s.crossing n).inReset = false → Completes (.crossingOverrun n) s (fun u => (u.crossing n).overrun = true ∧
      (u.crossing n).count = min (2 ^ 32 - 1) ((s.crossing n).count + 1))) ∧
    Completes (.crossingReset n) s (fun u => (u.crossing n).inReset = true ∧ (u.crossing n).overrun = (s.crossing n).overrun ∧ u.log = s.log) ∧
    ((s.crossing n).inReset = true → Completes (.crossingReleaseHandshake n) s (fun u => (u.crossing n).inReset = false ∧
      (u.crossing n).count = (s.crossing n).count)) := by
  refine ⟨fun h => completes_of_when (exec_crossingOverrun n s) (by simp [hn, hr, h]) ?_, completes_of_when (exec_crossingReset n s) (by simp [hn, hr]) ?_,
    fun h => completes_of_when (exec_crossingReleaseHandshake n s) (by simp [hn, hr, h]) ?_⟩
  · rw [State.overrun_crossing]
    exact ⟨rfl, rfl⟩
  · rw [State.crossing_setCrossing]
    exact ⟨rfl, rfl, rfl⟩
  · rw [State.crossing_setCrossing]
    exact ⟨rfl, rfl⟩

/-- A function over the values of a table that keeps the default is a function over its lookups. -/
theorem tget_map {α : Type} (d : α) (f : α → α) (hd : f d = d) (t : Tab α) (k : Nat) : tget d (t.map (fun p => (p.1, f p.2))) k = f (tget d t k) := by
  induction t with
  | nil => exact hd.symm
  | cons p t ih =>
    simp only [List.map_cons, tget]
    split
    · rfl
    · exact ih

theorem State.clearOverruns_crossing (s : State) (n : Nat) : s.clearOverruns.crossing n = { s.crossing n with overrun := false, count := 0 } :=
  tget_map (⟨false, false, 0⟩ : Crossing) (fun c => { c with overrun := false, count := 0 }) rfl s.clk.crossings n

/-! ### The entries that command a reset -/

theorem findEntry_overrunClear : findEntry 0x2912 0 = some ⟨0x2912, 0, 0, "OVERRUN_CLEAR", 0x11, 1, .wo, .command, 0, 0, 0, 255⟩ := by rfl
theorem findEntry_resetRequest : findEntry 0x2900 1 = some ⟨0x2900, 1, 1, "RESET_REQUEST", 0x11, 1, .wo, .command, 0, 0, 0, 255⟩ := by rfl
theorem findEntry_resetForce : findEntry 0x2900 2 = some ⟨0x2900, 2, 2, "RESET_FORCE", 0x01, 1, .rws, .command, 0, 0, 0, 1⟩ := by rfl

theorem State.answerVia_clk (s : State) (via : Via) (code idx sub : Nat) : (s.answerVia via code idx sub).clk = s.clk := by
  unfold State.answerVia
  split
  · split <;> rfl
  · rfl
theorem State.answerVia_boot (s : State) (via : Via) (code idx sub : Nat) : (s.answerVia via code idx sub).boot = s.boot := by
  unfold State.answerVia
  split
  · split <;> rfl
  · rfl

/-- An accepted write of 1 clears the overruns. -/
theorem exec_overrunClear_one (s : State) (via : Via) (hm : s.mayWrite via 0x2912 0 = true) :
    exec (.overrunClear via 1) s = .next (s.clearOverruns.answerVia via 0 0x2912 0) := by
  rw [exec_overrunClear, execOverrunClear, State.regWrite_of_mayWrite s via _ _ _ _ findEntry_overrunClear (by decide) hm (by decide)]
  rfl

/-- A write of 1 to RESET_REQUEST: the request, or its refusal while the Almanac is in force or pre-emption is (R464). -/
theorem exec_resetRequest_one (s : State) (via : Via) (hm : s.mayWrite via 0x2900 1 = true) :
    exec (.resetRequest via 1) s = .next (if s.rwaLocked = true ∨ s.trans.preempt ≠ .running then s.answerVia via 0x0A 0x2900 1
      else (s.requestReset 0x08).answerVia via 0 0x2900 1) := by
  have hc : s.shortCheck ⟨0x2900, 1, 1, "RESET_REQUEST", 0x11, 1, .wo, .command, 0, 0, 0, 255⟩ 1 1 =
      if s.rwaLocked = true ∨ s.trans.preempt ≠ .running then 0x0A else 0 := by
    simp [State.shortCheck, State.unitCheck]
  rw [exec_resetRequest, execResetRequest, State.regWrite_of_mayWrite s via _ _ _ _ findEntry_resetRequest (by decide) hm (by decide), hc]
  by_cases h : s.rwaLocked = true ∨ s.trans.preempt ≠ .running
  · simp only [if_pos h]
    rfl
  · simp only [if_neg h]
    rfl

theorem exec_resetForce_one (s : State) (via : Via) (hm : s.mayWrite via 0x2900 2 = true) :
    exec (.resetForce via 1) s = .next ((s.requestReset 0x09).answerVia via 0 0x2900 2) := by
  rw [exec_resetForce, execResetForce, State.regWrite_of_mayWrite s via _ _ _ _ findEntry_resetForce (by decide) hm (by decide)]
  rfl
theorem exec_resetForce_zero (s : State) (via : Via) (hm : s.mayWrite via 0x2900 2 = true) :
    exec (.resetForce via 0) s = .next (s.answerVia via 0 0x2900 2) := by
  rw [exec_resetForce, execResetForce, State.regWrite_of_mayWrite s via _ _ _ _ findEntry_resetForce (by decide) hm (by decide)]
  rfl

/-- The first request stands; its time is that of the write. -/
theorem State.requestReset_boot (s : State) (cause : Nat) : (s.requestReset cause).boot.resetDue = some (s.boot.resetDue.getD cause) ∧
    (s.boot.resetDue = none → (s.requestReset cause).boot.resetAt = s.sdt) ∧ (s.requestReset cause).boot.inReset = s.boot.inReset := by
  unfold State.requestReset
  split
  · rename_i c h
    simp [h]
  · rename_i h
    simp [h]

theorem resetEntries_complete (s : State) (via : Via) :
    (s.mayWrite via 0x2912 0 = true → Completes (.overrunClear via 1) s (fun u => ∀ n, (u.crossing n).overrun = false ∧ (u.crossing n).count = 0 ∧
      (u.crossing n).inReset = (s.crossing n).inReset)) ∧
    (s.mayWrite via 0x2900 1 = true →
      (s.rwaLocked = false → s.trans.preempt = .running → Completes (.resetRequest via 1) s (fun u => u.boot.resetDue = some (s.boot.resetDue.getD 0x08) ∧
        (s.boot.resetDue = none → u.boot.resetAt = s.sdt) ∧ u.boot.inReset = s.boot.inReset)) ∧
      (s.rwaLocked = true ∨ s.trans.preempt ≠ .running → exec (.resetRequest via 1) s = .next (s.answerVia via 0x0A 0x2900 1))) ∧
    (s.mayWrite via 0x2900 2 = true → Completes (.resetForce via 1) s (fun u => u.boot.resetDue = some (s.boot.resetDue.getD 0x09)) ∧
      Completes (.resetForce via 0) s (fun u => u.boot = s.boot)) := by
  refine ⟨fun hm => completes_of_next (exec_overrunClear_one s via hm) fun n => ?_, fun hm => ⟨fun hl hp => ?_, fun h => ?_⟩,
    fun hm => ⟨completes_of_next (exec_resetForce_one s via hm) ?_, completes_of_next (exec_resetForce_zero s via hm) (State.answerVia_boot _ _ _ _ _)⟩⟩
  · rw [State.crossing_of_clk (State.answerVia_clk _ _ _ _ _), State.clearOverruns_crossing]
    exact ⟨rfl, rfl, rfl⟩
  · refine completes_of_next (exec_resetRequest_one s via hm) ?_
    rw [if_neg (by simp [hl, hp]), State.answerVia_boot]
    exact s.requestReset_boot 0x08
  · rw [exec_resetRequest_one s via hm, if_pos h]
  · rw [State.answerVia_boot]
    exact (s.requestReset_boot 0x09).1

/-! ### The package reset -/

theorem SliceFrame.boot : SliceFrame State.boot := ⟨fun _ _ => rfl, fun _ _ => rfl, fun _ _ => rfl, fun _ _ => rfl, fun _ _ => rfl, fun _ _ _ _ _ => rfl⟩

theorem State.stopCoreArrays_boot (s : State) (g : Nat) : (s.stopCoreArrays g).boot = s.boot := by
  have hc (l : List Nat) (t : State) : (l.foldl (fun s n => s.countStop (stopKeyArray g n)) t).boot = t.boot :=
    State.foldl_keeps State.boot (fun s n => s.countStop (stopKeyArray g n)) (fun t n => State.ite_keeps rfl rfl) l t
  have hd (t : State) (c : Prop) [Decidable c] (n : Nat) : (if c then t else t.dadd 0x2225 (coreDie g + 1) n).boot = t.boot :=
    State.ite_keeps (part := State.boot) rfl (State.dadd_boot _ _ _ _)
  unfold State.stopCoreArrays
  dsimp only
  exact State.ite_keeps (part := State.boot) ((hc _ _).trans (hd _ _ _)) (hd _ _ _)

theorem State.stopUnits_boot (s : State) : s.stopUnits.boot = s.boot :=
  State.foldl_keeps State.boot State.stopCoreArrays (fun t g => t.stopCoreArrays_boot g) _ s

/-- The stop of R463 leaves the boot unit as it is. -/
theorem State.cleanStop_boot (s : State) : s.cleanStop.boot = s.boot := by
  unfold State.cleanStop
  split
  · exact (SliceFrame.boot.saveHalt _ _).trans s.stopUnits_boot
  · exact (SliceFrame.boot.saveHalt _ _).trans s.stopUnits_boot
  · rfl

/-- A reset is asserted, no further one is due, and its cause is recorded unless one already stood. -/
theorem State.resetTo_asserts (s : State) (cause : Nat) (lost : Bool) : (s.resetTo cause lost).boot.inReset = true ∧ (s.resetTo cause lost).boot.resetDue = none ∧
    (s.boot.inReset = false → (s.resetTo cause lost).boot.lastCause = cause) :=
  ⟨rfl, rfl, fun h => (s.resetTo_boot cause lost h).2.2.2⟩

theorem State.stopped_boot (s : State) : s.cleanStop.flushLog.boot = s.boot := by rw [State.flushLog_boot, State.cleanStop_boot]

theorem resetDelayExpiry_completes (s : State) (cause : Nat) (hd : s.boot.resetDue = some cause) (he : s.elapsed s.boot.resetAt 16000000 = true) :
    Completes .resetDelayExpiry s (fun u => u.boot.inReset = true ∧ u.boot.resetDue = none ∧ (s.boot.inReset = false → u.boot.lastCause = cause)) := by
  obtain ⟨hr, hn, hc⟩ := s.cleanStop.flushLog.resetTo_asserts cause false
  rw [State.stopped_boot] at hc
  refine completes_of_next (u := s.packageReset cause) ?_ ⟨hr, hn, hc⟩
  rw [exec_resetDelayExpiry, execResetDelayExpiry, hd]
  simp only [he, when_true]

/-- Memory is lost when the write-back is cut short. -/
theorem State.resetTo_lost_cells (s : State) (cause : Nat) : (s.resetTo cause true).mem.cells = [] := rfl

theorem resetForceTimeout_completes (s : State) (hd : s.boot.resetDue = some 0x09) (he : s.elapsed s.boot.resetAt 1600000 = true) :
    Completes .resetForceWritebackTimeout s (fun u => u.boot.inReset = true ∧ u.boot.cutShort = true ∧ u.mem.cells = [] ∧
      (s.boot.inReset = false → u.boot.lastCause = 0x09)) := by
  obtain ⟨hr, -, hc⟩ := s.cleanStop.flushLog.resetTo_asserts 0x09 true
  rw [State.stopped_boot] at hc
  exact completes_of_when (exec_resetForceWritebackTimeout s) (by simp [hd, he]) ⟨hr, rfl, State.resetTo_lost_cells s.cleanStop.flushLog 0x09, hc⟩

/-- Settles O49, rule by rule. -/
theorem clocksAndResets : Obligations.ClocksAndResets := fun s =>
  ⟨fun die hr => rootPll_completes s die hr, refSwitch_completes s, fun n hn hr => crossing_completes s n hn hr, resetEntries_complete s,
    resetDelayExpiry_completes s, resetForceTimeout_completes s⟩

end Sys2Proof.Machine
end

section
/-! SUPPORT. The parts of the state that a frame on its way out by the route table or an Ethernet-mode link does not touch (R326, R330, R345). -/

namespace Sys2Proof.Machine

/-- A part of the state that links, Ethernet ports, delivered frames, counters and records do not belong to. -/
structure SendFrame {β : Type} (part : State → β) : Prop extends LinkFrame part where
  inbox : ∀ (s : State) l, part { s with fab := { s.fab with inbox := l } } = part s
  groupCtr : ∀ (s : State) t, part { s with fab := { s.fab with groupCtr := t } } = part s
  dict : ∀ (s : State) t, part { s with dict := t } = part s
  fatal : ∀ (s : State) code die src step loc sub det, part (s.fatal code die src step loc sub det) = part s
  setEthPort : ∀ (s : State) l e, part (s.setEthPort l e) = part s
  takeFree : ∀ (s : State) w, part (s.takeFree w).2 = part s

namespace SendFrame
section
variable {β : Type} {part : State → β} (h : SendFrame part)
include h

theorem dadd (s : State) (i j n : Nat) : part (s.dadd i j n) = part s := by
  unfold State.dadd
  split
  · exact h.dict _ _
  · rfl

theorem deliver (s : State) (r : RxFrame) : part (s.deliver r) = part s :=
  State.ite_keeps ((h.freeFlits ..).trans (h.dadd ..)) (State.ite_keeps ((h.freeFlits ..).trans (h.dadd ..)) (h.inbox _ _))

theorem noRoute (s : State) (l tag : Nat) : part (s.noRoute l tag) = part s := h.fatal ..

theorem forward (s : State) (f : Frame) (key inLink : Nat) (inHalf : Bool) (inFlits : Nat) : part (s.forward f key inLink inHalf inFlits) = part s := by
  unfold State.forward
  split
  · exact h.dadd ..
  · exact State.ite_keeps rfl (State.ite_keeps (h.deliver ..) (State.ite_keeps ((h.freeFlits ..).trans (h.noRoute ..))
      ((h.enqueue ..).trans (State.ite_keeps (h.groupCtr _ _) rfl))))

theorem send (s : State) (ftype dest gen die : Nat) (parity : Bool) (tf : Nat) (body : Bytes) (key : Nat) :
    part (s.send ftype dest gen die parity tf body key) = part s := h.forward ..

theorem ethSend (s : State) (l sport tx : Nat) (ackOnly : Bool) (frame : Bytes) : part (s.ethSend l sport tx ackOnly frame) = part s :=
  (h.emit _ _).trans ((h.setEthPort _ _ _).trans (h.takeFree s 20))

theorem ethPump (l fuel : Nat) (s : State) : part (Machine.ethPump l fuel s) = part s := by
  induction fuel generalizing s with
  | zero => rfl
  | succ fuel ih =>
    rw [Machine.ethPump]
    split
    · rfl
    · exact State.ite_keeps rfl ((ih _).trans ((h.setEthPort _ _ _).trans (h.ethSend ..)))

theorem ethFrame (l seq : Nat) (f : Frame) (s : State) : part (Machine.ethFrame l seq f s) = part s := by
  have hp (t : State) : part (t.pumpEth l) = part t := State.ite_keeps rfl (h.ethPump ..)
  exact (hp _).trans (h.setEthPort _ _ _)

/-- The answer of a window's destination, by whichever way it goes. -/
theorem windowBack (r : RxFrame) (f : Frame) (s : State) : part (Machine.windowBack r f s) = part s := State.ite_keeps (h.ethFrame ..) (h.forward ..)

end
end SendFrame

theorem SendFrame.gates : SendFrame State.gates :=
  ⟨⟨fun _ _ _ => rfl, fun _ _ => rfl⟩, fun _ _ => rfl, fun _ _ => rfl, fun _ _ => rfl, fun _ _ _ _ _ _ _ _ => rfl, fun _ _ _ => rfl, fun _ _ => rfl⟩
theorem SendFrame.mem : SendFrame State.mem :=
  ⟨⟨fun _ _ _ => rfl, fun _ _ => rfl⟩, fun _ _ => rfl, fun _ _ => rfl, fun _ _ => rfl, fun _ _ _ _ _ _ _ _ => rfl, fun _ _ _ => rfl, fun _ _ => rfl⟩
theorem SendFrame.relays : SendFrame (fun s => s.fab.relays) :=
  ⟨⟨fun _ _ _ => rfl, fun _ _ => rfl⟩, fun _ _ => rfl, fun _ _ => rfl, fun _ _ => rfl, fun _ _ _ _ _ _ _ _ => rfl, fun _ _ _ => rfl, fun _ _ => rfl⟩
theorem SendFrame.winOut : SendFrame (fun s => s.fab.winOut) :=
  ⟨⟨fun _ _ _ => rfl, fun _ _ => rfl⟩, fun _ _ => rfl, fun _ _ => rfl, fun _ _ => rfl, fun _ _ _ _ _ _ _ _ => rfl, fun _ _ _ => rfl, fun _ _ => rfl⟩
theorem SendFrame.winIn : SendFrame (fun s => s.fab.winIn) :=
  ⟨⟨fun _ _ _ => rfl, fun _ _ => rfl⟩, fun _ _ => rfl, fun _ _ => rfl, fun _ _ => rfl, fun _ _ _ _ _ _ _ _ => rfl, fun _ _ _ => rfl, fun _ _ => rfl⟩
theorem SendFrame.gateOut : SendFrame (fun s => s.fab.gateOut) :=
  ⟨⟨fun _ _ _ => rfl, fun _ _ => rfl⟩, fun _ _ => rfl, fun _ _ => rfl, fun _ _ => rfl, fun _ _ _ _ _ _ _ _ => rfl, fun _ _ _ => rfl, fun _ _ => rfl⟩
theorem SendFrame.reqs : SendFrame (fun s => s.trans.reqs) :=
  ⟨⟨fun _ _ _ => rfl, fun _ _ => rfl⟩, fun _ _ => rfl, fun _ _ => rfl, fun _ _ => rfl, fun _ _ _ _ _ _ _ _ => rfl, fun _ _ _ => rfl, fun _ _ => rfl⟩

end Sys2Proof.Machine
end

section
/-! SUPPORT. Frames taken (R58, R89, R334, R336, R347): requests served, gates raised, answers that reach their requests, and windows on their way in and out. -/

namespace Sys2Proof.Machine

/-! ### Requests served -/

/-- A request behind no earlier one of its rank for the same bytes is served. -/
theorem State.takeRequest_served {s : State} {ftype : Nat} {serve : Frame → State → State} {r : RxFrame} {f : Frame} {t : State}
    (h : s.takeFrame ftype = some (r, f, t))
    (hw : ∀ q ∈ s.fab.inbox.takeWhile (· != r), (parseFrame q.bytes).isRequest = true → (parseFrame q.bytes).src = f.src →
      overlaps ((parseFrame q.bytes).tf % 2 ^ 44) (parseFrame q.bytes).reqLen (f.tf % 2 ^ 44) f.reqLen = false) :
    s.takeRequest ftype serve = .next ((serve f t).free_ r) := by
  have hnone : ((s.fab.inbox.takeWhile (· != r)).map (fun q => parseFrame q.bytes)).any (fun g => g.isRequest && g.src == f.src &&
      overlaps (g.tf % 2 ^ 44) g.reqLen (f.tf % 2 ^ 44) f.reqLen) = false := by
    simp only [List.any_map, List.any_eq_false, Function.comp_apply, Bool.and_eq_true, beq_iff_eq, not_and, Bool.not_eq_true]
    exact fun q hq hreq => hw q hq hreq.1 hreq.2
  rw [State.takeRequest, h]
  simp only [hnone, Bool.not_false, when_true]

/-- What a read of memory depends on: the interleave, the writes still hidden, and memory. -/
def State.stored (s : State) : List (Nat × Bytes) × List HiddenWrite × Memory := (s.longs, s.cache.hiddenWrites, s.mem)

theorem State.read_of_stored {s t : State} (h : t.stored = s.stored) (a n : Nat) : t.read a n = s.read a n := by
  simp only [State.stored, Prod.mk.injEq] at h
  obtain ⟨hl, hh, hm⟩ := h
  induction n generalizing a with
  | zero => rfl
  | succ n ih => rw [State.read, State.read, ih, State.byte_congr hl hh a (by rw [hm])]

theorem State.dadd_stored (s : State) (i j n : Nat) : (s.dadd i j n).stored = s.stored := by simp [State.stored]
theorem State.loftRefresh_stored (s : State) (l : LoftLine) : (s.loftRefresh l).stored = s.stored := rfl

theorem State.outcome_stored (s : State) (die useful late unused : Nat) : (s.outcome die useful late unused).stored = s.stored := by
  unfold State.outcome
  simp only [State.dadd_stored]
  rfl

theorem State.loftEvict_stored (s : State) (l : LoftLine) : (s.loftEvict l).stored = s.stored := by
  unfold State.loftEvict
  dsimp only
  split
  · split
    · exact s.outcome_stored _ 0 0 1
    · exact s.outcome_stored _ 0 0 1
  · split <;> rfl

theorem State.loftInstall_stored (s : State) (l : LoftLine) : (s.loftInstall l).stored = s.stored := by
  unfold State.loftInstall
  dsimp only
  split
  · exact s.loftEvict_stored _
  · rfl

theorem State.loftTouch_stored (s : State) (l : LoftLine) : (s.loftTouch l).stored = s.stored := by
  unfold State.loftTouch
  rw [State.loftRefresh_stored]
  split
  · exact s.outcome_stored _ 1 0 0
  · rfl

theorem State.checkSector_stored (s : State) (line : Nat) : (s.checkSector line).stored = s.stored := by
  unfold State.checkSector
  split <;> rfl

/-- With no fill outstanding a read at the slice changes no stored byte. -/
theorem State.loftRead_stored (s : State) (a n : Nat) (alloc : Bool) (hf : s.cache.fills = []) : (s.loftRead a n alloc).stored = s.stored := by
  have hs (line : Nat) : s.settleRead line = s := by simp [State.settleRead, State.fill, hf]
  unfold State.loftRead
  dsimp only
  simp only [hs]
  repeat' split
  all_goals simp only [State.loftRefresh_stored, State.loftInstall_stored, State.loftTouch_stored, State.checkSector_stored, State.dadd_stored]

theorem State.countForeign_keeps (s : State) (f : Frame) : (s.countForeign f).stored = s.stored ∧ (s.countForeign f).cache = s.cache := by
  unfold State.countForeign
  dsimp only
  split
  · exact ⟨State.dadd_stored _ _ _ _, State.dadd_cache _ _ _ _⟩
  · exact ⟨rfl, rfl⟩

/-- The state in which the owner reads the bytes of a request: the access counted, the line taken in and, for an Eaves fill, exported. -/
def State.readFor (s : State) (f : Frame) : State :=
  if f.eaves then ((s.countForeign f).loftRead (f.tf % 2 ^ 44) f.reqLen (f.alloc || f.eaves)).export_ (s.line (f.tf % 2 ^ 44))
  else (s.countForeign f).loftRead (f.tf % 2 ^ 44) f.reqLen (f.alloc || f.eaves)

theorem State.readFor_stored (s : State) (f : Frame) (hf : s.cache.fills = []) : (s.readFor f).stored = s.stored := by
  obtain ⟨hs, hc⟩ := s.countForeign_keeps f
  have hl := ((s.countForeign f).loftRead_stored (f.tf % 2 ^ 44) f.reqLen (f.alloc || f.eaves) (by rw [hc, hf])).trans hs
  unfold State.readFor
  split
  · exact hl
  · exact hl

theorem State.line_of_stored {s t : State} (h : t.stored = s.stored) (a : Nat) : t.line a = s.line a := by
  rw [State.line, State.place_congr (congrArg Prod.fst h), ← State.line]

/-- A read of memory without poison is answered with the bytes there. -/
theorem State.serveRead_clean (s : State) (f : Frame) (hm : memoryRange (f.tf % 2 ^ 44) f.reqLen = true) (hf : s.cache.fills = [])
    (hp : (s.readFor f).poisonedAt (f.tf % 2 ^ 44) f.reqLen = none) :
    s.serveRead f = (s.readFor f).answer 0x18 f none (s.read (f.tf % 2 ^ 44) f.reqLen) := by
  obtain ⟨hs, hc⟩ := s.countForeign_keeps f
  have hl := ((s.countForeign f).loftRead_stored (f.tf % 2 ^ 44) f.reqLen (f.alloc || f.eaves) (by rw [hc, hf])).trans hs
  have he : (if f.eaves = true then ((s.countForeign f).loftRead (f.tf % 2 ^ 44) f.reqLen (f.alloc || f.eaves)).export_
      (((s.countForeign f).loftRead (f.tf % 2 ^ 44) f.reqLen (f.alloc || f.eaves)).line (f.tf % 2 ^ 44))
      else (s.countForeign f).loftRead (f.tf % 2 ^ 44) f.reqLen (f.alloc || f.eaves)) = s.readFor f := by
    rw [State.line_of_stored hl]
    rfl
  have hr := State.read_of_stored (s.readFor_stored f hf) (f.tf % 2 ^ 44) f.reqLen
  unfold State.serveRead
  simp only [hm, Bool.not_true, Bool.false_eq_true, if_false]
  rw [he, hp]
  simp only [hr]

theorem memRead_completes {s : State} {r : RxFrame} {f : Frame} {t : State} (h : s.takeFrame 0x10 = some (r, f, t))
    (hw : ∀ q ∈ s.fab.inbox.takeWhile (· != r), (parseFrame q.bytes).isRequest = true → (parseFrame q.bytes).src = f.src →
      overlaps ((parseFrame q.bytes).tf % 2 ^ 44) (parseFrame q.bytes).reqLen (f.tf % 2 ^ 44) f.reqLen = false)
    (hm : memoryRange (f.tf % 2 ^ 44) f.reqLen = true) (hf : s.cache.fills = []) (hp : (t.readFor f).poisonedAt (f.tf % 2 ^ 44) f.reqLen = none) :
    Completes .memRead s (fun u => u.mem = s.mem ∧ u = ((t.readFor f).answer 0x18 f none (t.read (f.tf % 2 ^ 44) f.reqLen)).free_ r) := by
  obtain ⟨-, -, ht⟩ := State.takeFrame_keeps h
  have htf : t.cache.fills = [] := by rw [ht]; exact hf
  have htm : t.mem = s.mem := by rw [ht]
  refine completes_of_next ((State.takeRequest_served h hw).trans (congrArg (fun x : State => Host.Outcome.next (x.free_ r)) (t.serveRead_clean f hm htf hp))) ⟨?_, rfl⟩
  have hv : (t.readFor f).mem = t.mem := congrArg (fun p => p.2.2) (t.readFor_stored f htf)
  exact (SendFrame.mem.freeFrame _ _).trans ((SendFrame.mem.send _ _ _ _ _ _ _ _ _).trans (hv.trans htm))

/-! ### Gates -/

theorem State.gate_of_gates {s t : State} (h : t.gates = s.gates) (g : Nat) (odd : Bool) : t.gate g odd = s.gate g odd := by rw [State.gate, h, ← State.gate]

theorem State.gate_bumpGate (s : State) (g : Nat) (odd : Bool) (h0 : g ≠ 0) (h1 : g < 4096) : (s.bumpGate g odd).gate g odd = s.gate g odd + 1 := by
  rw [State.bumpGate, if_neg (by omega)]
  exact tget_tset_same _ _ _ _

theorem gateInc_completes {s : State} {r : RxFrame} {f : Frame} {t : State} (h : s.takeFrame 0x28 = some (r, f, t)) (hg : f.tf % 4096 ≠ 0) :
    Completes .gateInc s (fun u => u.gate (f.tf % 4096) f.parity = s.gate (f.tf % 4096) f.parity + 1 ∧ u.mem = s.mem) := by
  obtain ⟨-, -, ht⟩ := State.takeFrame_keeps h
  have hgates : ((t.takeGateInc f).free_ r).gates = (t.bumpGate (f.tf % 4096) f.parity).gates := (SendFrame.gates.freeFrame _ _).trans (SendFrame.gates.send ..)
  have hmem : ((t.takeGateInc f).free_ r).mem = t.mem := (SendFrame.mem.freeFrame _ _).trans ((SendFrame.mem.send ..).trans (t.bumpGate_mem _ _))
  refine completes_of_next (u := (t.takeGateInc f).free_ r) (by rw [exec_gateInc, execGateInc, h]) ⟨?_, ?_⟩
  · rw [State.gate_of_gates hgates, State.gate_bumpGate _ _ _ hg (by omega), ht]
    rfl
  · rw [hmem, ht]

theorem State.vote_fab (s : State) (veto : Bool) (step src die core : Nat) : (s.vote veto step src die core).fab = s.fab := by
  unfold State.vote
  dsimp only
  repeat' split
  all_goals simp

theorem State.nonfiniteOn_fab (s : State) (die core step src : Nat) : (s.nonfiniteOn die core step src).fab = s.fab :=
  (State.ite_keeps (part := State.fab) (State.vote_fab _ _ _ _ _ _) rfl).trans (State.dadd_fab _ _ _ _)

theorem State.bumpGate_fab (s : State) (g : Nat) (odd : Bool) : (s.bumpGate g odd).fab = s.fab := State.ite_keeps rfl rfl

theorem State.localInc_fab (s : State) (g : Nat) (odd : Bool) (step die core : Nat) : (s.localInc g odd step die core).fab = s.fab := by
  have hb := s.bumpGate_fab g odd
  unfold State.localInc
  dsimp only
  split
  · exact hb
  · split
    · exact (State.nonfiniteOn_fab _ _ _ _ _).trans hb
    · split
      · exact (State.vote_fab _ _ _ _ _ _).trans ((State.dadd_fab _ _ _ _).trans hb)
      · exact hb

/-- The completion of an action changes nothing of the fabric. -/
theorem State.completeAction_fab (s : State) (id : Nat) : (s.completeAction id).fab = s.fab := by
  unfold State.completeAction
  split
  · rfl
  · exact State.ite_keeps (part := State.fab) (State.localInc_fab _ _ _ _ _ _) rfl

theorem gateAck_completes {s : State} {r : RxFrame} {f : Frame} {t : State} {g : Nat × Nat × Nat} (h : s.takeFrame 0x29 = some (r, f, t))
    (hg : s.fab.gateOut.find? (fun g => g.2.1 == f.src && g.2.2 == f.tf % 4096) = some g) :
    Completes .gateAck s (fun u => u.fab.gateOut = s.fab.gateOut.erase g) := by
  obtain ⟨-, -, ht⟩ := State.takeFrame_keeps h
  have hto : t.fab.gateOut = s.fab.gateOut := by rw [ht]
  have hk : (t.takeGateAck f).fab = { t.fab with gateOut := t.fab.gateOut.erase g } := by
    rw [State.takeGateAck, hto, hg]
    exact State.completeAction_fab _ _
  refine completes_of_next (u := (t.takeGateAck f).free_ r) (by rw [exec_gateAck, execGateAck, h]) ?_
  exact (SendFrame.gateOut.freeFrame _ _).trans ((congrArg FabState.gateOut hk).trans (by rw [hto]))

/-! ### Answers -/

/-- A request that is found and changed stands among the requests. -/
theorem State.mem_mapReq {s : State} {id : Nat} {q : Req} (h : s.req id = some q) (f : Req → Req) : f q ∈ (s.mapReq q.id f).trans.reqs :=
  mem_mapIf (List.mem_of_find?_eq_some h) (beq_self_eq_true q.id)

theorem readData_completes {s : State} {r : RxFrame} {f : Frame} {t : State} {q : Req} (h : s.takeFrame 0x18 = some (r, f, t)) (hq : s.req f.tag = some q)
    (ha : ∀ id, q.agent ≠ .action id ∧ q.agent ≠ .update id) :
    Completes .readData s (fun u => ({ q with done := true, data := f.body.drop 8, poison := f.poison q.target } : Req) ∈ u.trans.reqs) := by
  obtain ⟨-, -, ht⟩ := State.takeFrame_keeps h
  have hqt : t.req f.tag = some q := by rw [ht]; exact hq
  have hk : t.takeReadData f = t.mapReq q.id (fun q' => { q' with done := true, data := f.body.drop 8, poison := f.poison q.target }) := by
    rw [State.takeReadData, hqt]
    dsimp only
    split
    · exact absurd ‹q.agent = _› (ha _).1
    · exact absurd ‹q.agent = _› (ha _).2
    · rfl
  refine completes_of_next (u := (t.takeReadData f).free_ r) (by rw [exec_readData, execReadData, h]) ?_
  rw [SendFrame.reqs.freeFrame, hk]
  exact State.mem_mapReq hqt (fun q' => { q' with done := true, data := f.body.drop 8, poison := f.poison q.target })

theorem writeAck_completes {s : State} {r : RxFrame} {f : Frame} {t : State} {q : Req} (h : s.takeFrame 0x19 = some (r, f, t)) (hq : s.req f.tag = some q)
    (ha : ∀ id, q.agent ≠ .action id ∧ q.agent ≠ .update id) :
    Completes .writeAck s (fun u => ({ q with done := true, poison := f.poison q.target } : Req) ∈ u.trans.reqs) := by
  obtain ⟨-, -, ht⟩ := State.takeFrame_keeps h
  have hqt : t.req f.tag = some q := by rw [ht]; exact hq
  have hk : t.takeWriteAck f = t.mapReq q.id (fun q' => { q' with done := true, poison := f.poison q.target }) := by
    rw [State.takeWriteAck, hqt]
    dsimp only
    split
    · exact absurd ‹q.agent = _› (ha _).2
    · exact absurd ‹q.agent = _› (ha _).1
    · rfl
  refine completes_of_next (u := (t.takeWriteAck f).free_ r) (by rw [exec_writeAck, execWriteAck, h]) ?_
  rw [SendFrame.reqs.freeFrame, hk]
  exact State.mem_mapReq hqt (fun q' => { q' with done := true, poison := f.poison q.target })

/-! ### Windows received -/

/-- Bytes of a window that have arrived before a frame of it. -/
def State.gotBefore (s : State) (f : Frame) (seq : Nat) : Nat :=
  match s.winIn f seq with
  | some w => w.got
  | none => 0

theorem State.takeWindowFrame_keeps {s t : State} {r : RxFrame} {f : Frame} (h : s.takeWindowFrame = some (r, f, t)) :
    t = { s with fab := { s.fab with inbox := s.fab.inbox.erase r } } := by
  unfold State.takeWindowFrame at h
  split at h
  · cases h
  · cases h
    rfl

theorem SliceFrame.gates : SliceFrame State.gates := ⟨fun _ _ => rfl, fun _ _ => rfl, fun _ _ => rfl, fun _ _ => rfl, fun _ _ => rfl, fun _ _ _ _ _ => rfl⟩

theorem State.foreignWrite_gates (s : State) (a : Nat) (bs : Bytes) : (s.foreignWrite a bs).gates = s.gates :=
  State.ite_keeps (part := State.gates) rfl (State.ite_keeps rfl (SliceFrame.gates.arriveWrite ..))

/-- The die that tracks a window. -/
def State.windowOwner (s : State) (f : Frame) (seq : Nat) : Nat :=
  match s.winIn f seq with
  | some w => w.owner
  | none => lpaDie (f.tf % 2 ^ 44)

/-- The state in which a frame's bytes are written and its window's record is taken out. -/
def State.endWindow (s : State) (f : Frame) (seq : Nat) : State :=
  let s := s.foreignWrite (f.tf % 2 ^ 44) (f.body.drop 16)
  { s with fab := { s.fab with winIn := s.fab.winIn.filter (fun w => !(w.rank == f.src && w.die == f.die && w.seq == seq)) } }

/-- The state in which a frame's bytes are written and counted in its window's record. -/
def State.keepWindow (s : State) (f : Frame) (seq : Nat) : State :=
  let t := s.endWindow f seq
  { t with fab := { t.fab with
    winIn := t.fab.winIn ++ [⟨f.src, f.inc, f.die, seq, s.windowOwner f seq, s.gotBefore f seq + (f.body.drop 16).length⟩] } }

/-- A window frame, in the terms of its fields: the last of a window answers it, another is counted. -/
theorem State.takeWindow_eq (s : State) (f : Frame) (back : Frame → State → State) {seq total off gate : Nat} (hf : windowFields f = (seq, total, off, gate)) :
    s.takeWindow f back = if total ≤ s.gotBefore f seq + (f.body.drop 16).length then
      back (((s.endWindow f seq).bumpGate gate f.parity).frame 0x21 f.src 0 (s.windowOwner f seq) f.parity seq [])
        ((s.endWindow f seq).bumpGate gate f.parity)
      else s.keepWindow f seq := by
  rw [State.takeWindow, hf]
  rfl

/-- The frame that completes a window raises its gate. -/
theorem State.takeWindow_last (s : State) (f : Frame) (back : Frame → State → State) (hb : ∀ f t, (back f t).gates = t.gates) {seq total off gate : Nat}
    (hf : windowFields f = (seq, total, off, gate)) (ht : total ≤ s.gotBefore f seq + (f.body.drop 16).length) :
    (s.takeWindow f back).gates = (s.bumpGate gate f.parity).gates := by
  have hw := s.foreignWrite_gates (f.tf % 2 ^ 44) (f.body.drop 16)
  have hbump (t : State) (h : t.gates = s.gates) : (t.bumpGate gate f.parity).gates = (s.bumpGate gate f.parity).gates := by
    simp only [State.bumpGate, State.gate, h]
    split
    · exact h
    · rfl
  rw [s.takeWindow_eq f back hf, if_pos ht, hb]
  exact hbump _ hw

/-- A frame that leaves its window incomplete is counted in the window's record. -/
theorem State.takeWindow_part (s : State) (f : Frame) (back : Frame → State → State) {seq total off gate : Nat} (hf : windowFields f = (seq, total, off, gate))
    (ht : s.gotBefore f seq + (f.body.drop 16).length < total) : ∃ w ∈ (s.takeWindow f back).fab.winIn,
      w.rank = f.src ∧ w.die = f.die ∧ w.seq = seq ∧ w.got = s.gotBefore f seq + (f.body.drop 16).length := by
  rw [s.takeWindow_eq f back hf, if_neg (Nat.not_le.mpr ht)]
  exact ⟨_, List.mem_append_right _ (List.mem_singleton.mpr rfl), rfl, rfl, rfl, rfl⟩

theorem windowData_completes {s : State} {r : RxFrame} {f : Frame} {t : State} {seq total off gate : Nat} (h : s.takeWindowFrame = some (r, f, t))
    (hf : windowFields f = (seq, total, off, gate)) :
    (total ≤ s.gotBefore f seq + (f.body.drop 16).length → 0 < gate → gate < 4096 →
      Completes .windowData s (fun u => u.gate gate f.parity = s.gate gate f.parity + 1)) ∧
    (s.gotBefore f seq + (f.body.drop 16).length < total →
      Completes .windowData s (fun u => ∃ w ∈ u.fab.winIn, w.rank = f.src ∧ w.die = f.die ∧ w.seq = seq ∧
        w.got = s.gotBefore f seq + (f.body.drop 16).length)) := by
  have ht := State.takeWindowFrame_keeps h
  have hgot : t.gotBefore f seq = s.gotBefore f seq := by rw [ht]; rfl
  have hx : exec .windowData s = .next ((t.takeWindow f (windowBack r)).free_ r) := by rw [exec_windowData, execWindowData, h]
  refine ⟨fun hl h0 h1 => completes_of_next hx ?_, fun hp => completes_of_next hx ?_⟩
  · have hg := (SendFrame.gates.freeFrame (t.takeWindow f (windowBack r)) r).trans
      (t.takeWindow_last f (windowBack r) (fun f t => SendFrame.gates.windowBack r f t) hf (by rw [hgot]; exact hl))
    rw [State.gate_of_gates hg, State.gate_bumpGate _ _ _ (by omega) h1, ht]
    rfl
  · have hw := t.takeWindow_part f (windowBack r) hf (by rw [hgot]; exact hp)
    rw [hgot] at hw
    rw [SendFrame.winIn.freeFrame]
    exact hw

/-! ### Windows sent -/

/-- The end of a fabric action opens no window. -/
theorem State.closeAction_winOut (s : State) (id : Nat) (x : WinOut) (hx : x ∈ (s.closeAction id).fab.winOut) : x ∈ s.fab.winOut := by
  unfold State.closeAction at hx
  split at hx
  · rw [State.completeAction_fab] at hx
    exact List.mem_of_mem_filter hx
  · exact hx

theorem windowDone_relayed {s : State} {r : RxFrame} {f : Frame} {t : State} {w : WinRelay} (h : s.takeFrame 0x21 = some (r, f, t))
    (hw : s.fab.relays.find? (fun x => x.seq == f.tf % 2 ^ 32) = some w) :
    Completes .windowDone s (fun u => u.fab.relays = s.fab.relays.erase w ∧ u.fab.winOut = s.fab.winOut) := by
  obtain ⟨-, -, ht⟩ := State.takeFrame_keeps h
  have hto : t.fab.relays = s.fab.relays := by rw [ht]
  refine completes_of_next (u := (t.takeDone f).free_ r) (by rw [exec_windowDone, execWindowDone, h]) ?_
  rw [SendFrame.relays.freeFrame, SendFrame.winOut.freeFrame, State.takeDone, hto, hw]
  dsimp only
  rw [SendFrame.relays.ethFrame, SendFrame.winOut.ethFrame, ht]
  exact ⟨rfl, rfl⟩

/-- The state in which a window is marked as arrived. -/
def State.markDone (s : State) (w : WinOut) : State :=
  { s with fab := { s.fab with winOut := mapIf (fun x => x.seq == w.seq) (fun _ => { w with done := true }) s.fab.winOut } }

theorem State.takeDone_window {s : State} {f : Frame} {w : WinOut} (hn : s.fab.relays.find? (fun x => x.seq == f.tf % 2 ^ 32) = none)
    (hw : s.window (f.tf % 2 ^ 32) = some w) : s.takeDone f = (s.markDone w).finishWindow { w with done := true } := by
  rw [State.takeDone, hn]
  dsimp only
  rw [State.takeWindowDone, hw]
  rfl

theorem windowDone_own {s : State} {r : RxFrame} {f : Frame} {t : State} {w : WinOut} {a : Action} (h : s.takeFrame 0x21 = some (r, f, t))
    (hn : s.fab.relays.find? (fun x => x.seq == f.tf % 2 ^ 32) = none) (hw : s.window (f.tf % 2 ^ 32) = some w) (ha : s.action w.action = some a) :
    (s.windowAge w < a.transit.param → Completes .windowDone s (fun u => ({ w with done := true } : WinOut) ∈ u.fab.winOut)) ∧
    (a.transit.param ≤ s.windowAge w → Completes .windowDone s (fun u => ∀ x ∈ u.fab.winOut, x.seq ≠ w.seq)) := by
  obtain ⟨-, -, ht⟩ := State.takeFrame_keeps h
  have hnt : t.fab.relays.find? (fun x => x.seq == f.tf % 2 ^ 32) = none := by rw [ht]; exact hn
  have hwt : t.window (f.tf % 2 ^ 32) = some w := by rw [ht]; exact hw
  have hat : (t.markDone w).action w.action = some a := by rw [ht]; exact ha
  have hage : (t.markDone w).windowAge { w with done := true } = s.windowAge w := by rw [ht]; rfl
  have hx : exec .windowDone s = .next ((t.takeDone f).free_ r) := by rw [exec_windowDone, execWindowDone, h]
  refine ⟨fun hp => completes_of_next hx ?_, fun hp => completes_of_next hx ?_⟩
  · rw [SendFrame.winOut.freeFrame, State.takeDone_window hnt hwt, State.finishWindow, hat]
    dsimp only
    rw [if_neg (by rw [hage]; omega)]
    exact mem_mapIf (f := fun _ => ({ w with done := true } : WinOut)) (List.mem_of_find?_eq_some hwt) (beq_self_eq_true w.seq)
  · rw [SendFrame.winOut.freeFrame, State.takeDone_window hnt hwt, State.finishWindow, hat]
    dsimp only
    rw [if_pos ⟨rfl, by rw [hage]; exact hp⟩]
    intro x hx
    have hf := (List.mem_filter.mp (State.closeAction_winOut _ _ x hx)).2
    simpa using hf

/-- A window frame that is due is sent. -/
theorem windowFrameSend_due {s : State} {seq : Nat} {w : WinOut} {a : Action} (hw : s.window seq = some w) (ha : s.action w.action = some a)
    (hm : s.fabricMay = true) (hd : s.windowDue a w = true) : exec (.windowFrameSend seq) s = .next (s.sendWindow a w ethFrame) := by
  rw [exec_windowFrameSend, execWindowFrameSend, hw]
  dsimp only
  rw [ha]
  simp [hm, hd]

/-! ### The obligation -/

/-- A request frame is taken by its type's command. -/
theorem requestFrame_served (s : State) (c : Instr) (ftype : Nat) (take : State → Frame → State)
    (hc : (c, ftype, take) ∈ [(Instr.memRead, 0x10, State.serveRead), (.memWrite, 0x11, State.serveWrite), (.memWriteAdd, 0x12, State.serveAdd)])
    (r : RxFrame) (f : Frame) (t : State) (h : s.takeFrame ftype = some (r, f, t))
    (hw : ∀ q ∈ s.fab.inbox.takeWhile (· != r), (parseFrame q.bytes).isRequest = true → (parseFrame q.bytes).src = f.src →
      overlaps ((parseFrame q.bytes).tf % 2 ^ 44) (parseFrame q.bytes).reqLen (f.tf % 2 ^ 44) f.reqLen = false) :
    exec c s = .next ((take t f).free_ r) ∧ r ∈ s.fab.inbox ∧ t.fab.inbox = s.fab.inbox.erase r := by
  obtain ⟨hr, -, ht⟩ := State.takeFrame_keeps h
  refine ⟨?_, hr, by rw [ht]⟩
  simp only [List.mem_cons, Prod.mk.injEq, List.not_mem_nil, or_false] at hc
  rcases hc with ⟨rfl, rfl, rfl⟩ | ⟨rfl, rfl, rfl⟩ | ⟨rfl, rfl, rfl⟩
  · exact State.takeRequest_served h hw
  · exact State.takeRequest_served h hw
  · exact State.takeRequest_served h hw

/-- An answer, a WINDOW_DONE or a gate frame is taken by its type's command. -/
theorem answerFrame_taken (s : State) (c : Instr) (ftype : Nat) (take : State → Frame → State)
    (hc : (c, ftype, take) ∈ [(Instr.readData, 0x18, State.takeReadData), (.writeAck, 0x19, State.takeWriteAck), (.windowDone, 0x21, State.takeDone),
      (.gateInc, 0x28, State.takeGateInc), (.gateAck, 0x29, State.takeGateAck)])
    (r : RxFrame) (f : Frame) (t : State) (h : s.takeFrame ftype = some (r, f, t)) :
    exec c s = .next ((take t f).free_ r) ∧ r ∈ s.fab.inbox ∧ t.fab.inbox = s.fab.inbox.erase r := by
  obtain ⟨hr, -, ht⟩ := State.takeFrame_keeps h
  refine ⟨?_, hr, by rw [ht]⟩
  simp only [List.mem_cons, Prod.mk.injEq, List.not_mem_nil, or_false] at hc
  rcases hc with ⟨rfl, rfl, rfl⟩ | ⟨rfl, rfl, rfl⟩ | ⟨rfl, rfl, rfl⟩ | ⟨rfl, rfl, rfl⟩ | ⟨rfl, rfl, rfl⟩
  · rw [exec_readData, execReadData, h]
  · rw [exec_writeAck, execWriteAck, h]
  · rw [exec_windowDone, execWindowDone, h]
  · rw [exec_gateInc, execGateInc, h]
  · rw [exec_gateAck, execGateAck, h]

/-- Settles O35, frame by frame. -/
theorem fabricFrames : Obligations.FabricFrames := by
  intro s
  refine ⟨requestFrame_served s, answerFrame_taken s, ?_, fun r f t h hg => gateInc_completes h hg, fun r f t g h hg => gateAck_completes h hg,
    fun r f t q h hq ha => readData_completes h hq ha, fun r f t q h hq ha => writeAck_completes h hq ha,
    fun r f t seq total off gate h hf => windowData_completes h hf, fun r f t w h hw => windowDone_relayed h hw,
    fun r f t w a h hn hw ha => windowDone_own h hn hw ha, fun seq w a hw ha hm hd => windowFrameSend_due hw ha hm hd⟩
  intro r f t v h hw hm hf hv hp
  subst hv
  exact memRead_completes h hw hm hf hp

end Sys2Proof.Machine
end

section
/-! SUPPORT. The frame of a thread's instructions (R75, R77, R94, R95): the parts of the state that ending a launch does not touch, those that one thread's instruction does not, one lemma for each operation for every such part at once, and the frame of each instruction. -/

namespace Sys2Proof.Machine

/-! ### What the end of a launch leaves alone -/

/-- A part of the state that actions, contributions, records on their way, counters of the dictionary and the pins of images do not belong to, nor, unless `quiet`, gates. -/
structure DoneFrame (quiet : Prop) {β : Type} (part : State → β) : Prop where
  alm : ∀ (s : State) a, part { s with alm := a } = part s
  conj : ∀ (s : State) c, part { s with conj := c } = part s
  arrivals : ∀ (s : State) l, part { s with log := { s.log with arrivals := l } } = part s
  dict : ∀ (s : State) d, part { s with dict := d } = part s
  gates : ¬ quiet → ∀ (s : State) t, part { s with gates := t } = part s
  images : ∀ (s : State) (f : Core → List Image), part { s with cores := s.cores.map (fun p => (p.1, { p.2 with images := f p.2 })) } = part s

/-- A launch whose thread failed is marked so. -/
theorem State.action_failLaunch {s : State} {launch : Nat} {a : Action} (h : (s.failLaunch launch).action launch = some a) : a.failed = true := by
  obtain ⟨b, -, hb⟩ := List.mem_map.mp (List.mem_of_find?_eq_some h)
  have ha : a.id = launch := by simpa using List.find?_some h
  split at hb
  · rw [← hb]
  · rename_i hn
    subst hb
    exact absurd (by simpa using ha) hn

theorem tget_map_keeps {α β : Type} {part : α → β} {f : α → α} (hf : ∀ a, part (f a) = part a) (d : α) (l : Tab α) (k : Nat) :
    part (tget d (l.map (fun p => (p.1, f p.2))) k) = part (tget d l k) := by
  induction l with
  | nil => rfl
  | cons p l ih =>
    simp only [List.map_cons, tget]
    split
    · exact hf _
    · exact ih

/-- The images of a core do not concern its counters. -/
theorem State.counter_images (s : State) (f : Core → List Image) (h n : Nat) :
    ({ s with cores := s.cores.map (fun p => (p.1, { p.2 with images := f p.2 })) } : State).counter h n = s.counter h n :=
  congrArg (fun c => tget 0 c n) (tget_map_keeps (part := Core.counters) (f := fun k => { k with images := f k }) (fun _ => rfl) {} s.cores h)

namespace DoneFrame
section
variable {quiet : Prop} {β : Type} {part : State → β} (h : DoneFrame quiet part)
include h

theorem dadd (s : State) (i j n : Nat) : part (s.dadd i j n) = part s := by
  unfold State.dadd
  split
  · exact h.dict _ _
  · rfl

theorem record (s : State) (code severity die : Nat) (src : Source) (step loc sub : Nat) (detail : Bytes) :
    part (s.record code severity die src step loc sub detail) = part s := h.arrivals _ _

theorem fatal (s : State) (code die : Nat) (src : Source) (step loc sub : Nat) (detail : Bytes) :
    part (s.fatal code die src step loc sub detail) = part s := (h.conj _ _).trans (h.record ..)

theorem vote (s : State) (veto : Bool) (step src die core : Nat) : part (s.vote veto step src die core) = part s :=
  State.ite_keeps (h.fatal ..) (State.ite_keeps (h.dadd ..) (State.ite_keeps (h.conj _ _) (State.ite_keeps (h.conj _ _) (h.fatal ..))))

theorem nonfiniteOn (s : State) (die core step src : Nat) : part (s.nonfiniteOn die core step src) = part s :=
  State.ite_keeps ((h.vote ..).trans (h.dadd ..)) (h.dadd ..)

theorem localInc (hq : ¬ quiet) (s : State) (g : Nat) (odd : Bool) (step die core : Nat) : part (s.localInc g odd step die core) = part s := by
  have hb : part (s.bumpGate g odd) = part s := State.ite_keeps rfl (h.gates hq _ _)
  exact State.ite_keeps hb (State.ite_keeps ((h.nonfiniteOn ..).trans hb) (State.ite_keeps ((h.vote ..).trans ((h.dadd ..).trans hb)) hb))

/-- An action that completes raises no gate when it is marked as failed. -/
theorem completeAction (s : State) (id : Nat) (hf : quiet → ∀ a, s.action id = some a → a.failed = true) : part (s.completeAction id) = part s := by
  unfold State.completeAction
  split
  · rfl
  · rename_i a ha
    dsimp only
    split
    · rename_i hg
      have hq : ¬ quiet := fun q => by simp [hf q a ha] at hg
      exact (h.localInc hq ..).trans (h.alm _ _)
    · exact h.alm _ _

theorem threadsDone (s : State) (launch n : Nat) (hf : quiet → ∀ a, s.action launch = some a → a.failed = true) : part (s.threadsDone launch n) = part s := by
  unfold State.threadsDone
  split
  · rfl
  · have hi := h.images s (fun k => k.images.map (fun i => { i with pinned := i.pinned.filter (· != launch) }))
    exact State.ite_keeps ((h.completeAction _ _ (by exact hf)).trans hi) (h.alm _ _)

theorem failLaunch (s : State) (launch : Nat) : part (s.failLaunch launch) = part s := h.alm _ _

end
end DoneFrame

/-! ### What an instruction of one thread leaves alone -/

/-- A part of the state that, beside what the end of a launch touches, one thread, its core, requests and the log of corrected errors do not belong to. -/
structure ThreadPart (quiet : Prop) (g t : Nat) {β : Type} (part : State → β) : Prop extends DoneFrame quiet part where
  setThread : ∀ (s : State) th, part (s.setThread g t th) = part s
  setCore : ∀ (s : State) k, part (s.setCore g k) = part s
  trans : ∀ (s : State) r, part { s with trans := r } = part s
  eccLogged : ∀ (s : State) l, part { s with cache := { s.cache with eccLogged := l } } = part s

namespace ThreadPart
section
variable {quiet : Prop} {g t : Nat} {β : Type} {part : State → β} (h : ThreadPart quiet g t part)
include h

theorem next (s : State) : part (s.next g t) = part s := h.setThread _ _
theorem stall (s : State) (cause : Nat) : part (s.stall g cause) = part s := h.setCore _ _
theorem overwrite (s : State) (keys : List Nat) : part (s.overwrite g t keys) = part s := h.trans _ _
theorem cinc (s : State) (n : Nat) (amount : BitVec 32) : part (s.cinc g n amount) = part s := h.setCore _ _
theorem lostBank (s : State) : part (s.lostBank g) = part s := (h.dadd ..).trans (h.stall ..)

/-- A thread that ends with a fault raises no gate; nor does one whose end may raise gates, where gates do not count. -/
theorem endThread (s : State) (failed : Bool) (hf : quiet → failed = true) : part (s.endThread g t failed) = part s := by
  unfold State.endThread
  dsimp only
  cases failed with
  | true =>
    rw [if_pos rfl]
    exact (h.threadsDone _ _ _ (fun _ _ ha => State.action_failLaunch ha)).trans ((h.failLaunch _ _).trans ((h.trans _ _).trans (h.setThread _ _)))
  | false =>
    rw [if_neg Bool.false_ne_true]
    exact (h.threadsDone _ _ _ (fun q => absurd (hf q) Bool.false_ne_true)).trans ((h.trans _ _).trans (h.setThread _ _))

theorem threadFault (s : State) (code : Nat) : part (s.threadFault g t code) = part s := (h.endThread _ _ (fun _ => rfl)).trans (h.fatal ..)

theorem checkPc (s : State) : part (s.checkPc g t) = part s := by
  unfold State.checkPc
  split
  · exact State.ite_keeps (h.threadFault ..) rfl
  · rfl

/-- An instruction whose effect keeps the part keeps it, whether it executes, waits, is skipped or faults. -/
theorem issueInstr {s : State} {mine bad : Nat → Bool} {regs : Nat → Regs} {effect : State → Thread → Nat → State}
    (he : ∀ v th w, part (effect v th w) = part v) {u : State} (hx : s.issueInstr g t mine bad regs effect = .next u) : part u = part s := by
  have hn {v : State} (hv : part v = part s) (e : (Host.Outcome.next v : Result) = .next u) : part u = part s := by
    cases e
    exact hv
  unfold State.issueInstr at hx
  dsimp only at hx
  repeat' split at hx
  · exact hn (h.stall ..) hx
  · exact hn rfl hx
  · exact hn (h.stall ..) hx
  · exact hn (h.threadFault ..) hx
  · exact hn rfl hx
  · exact hn (h.threadFault ..) hx
  · exact hn (h.threadFault ..) hx
  · exact hn ((h.checkPc _).trans (h.next _)) hx
  · exact hn (h.stall ..) hx
  · exact hn ((h.checkPc _).trans ((he ..).trans (h.overwrite ..))) hx

/-! ### Scalar, branch, scratch, synchronisation and system -/

theorem scalarEffect (op : ScalarOp) (form : ScalarForm) (s : State) (th : Thread) (w : Nat) : part (Machine.scalarEffect g t op form s th w) = part s := by
  unfold Machine.scalarEffect
  dsimp only
  split
  · exact h.setThread _ _
  · exact h.setThread _ _

theorem branchEffect (c : BranchCond) (s : State) (th : Thread) (w : Nat) : part (Machine.branchEffect g t c s th w) = part s :=
  State.ite_keeps (h.setThread _ _) (h.setThread _ _)

theorem eccCorrected (s : State) (storage sub unit : Nat) : part (s.eccCorrected storage sub unit) = part s :=
  State.ite_keeps (h.dadd ..) ((h.record ..).trans ((h.eccLogged _ _).trans (h.dadd ..)))

theorem sramFault (s : State) (src : Source) (core sub step lpa : Nat) : part (s.sramFault src core sub step lpa) = part s := (h.fatal ..).trans (h.dadd ..)

/-- What the check bits report keeps the part, if what follows does. -/
theorem scratchEcc (s : State) (th : Thread) (o : Nat) (ecc : WordEcc) {k : State → State} (hk : ∀ v, part (k v) = part v) :
    part (s.scratchEcc g t th o ecc k) = part s := by
  cases ecc with
  | clean => exact hk _
  | corrected => exact (hk _).trans (h.eccCorrected ..)
  | uncorrectable => exact (h.endThread _ _ (fun _ => rfl)).trans (h.sramFault ..)

theorem scratchLoadEffect (signed : Bool) (cycle : ScratchCycle) (s : State) (th : Thread) (w : Nat) :
    part (Machine.scratchLoadEffect g t signed cycle s th w) = part s := by
  refine State.ite_keeps (h.threadFault ..) ?_
  cases cycle with
  | lost => exact h.lostBank _
  | served ecc => exact h.scratchEcc s th _ ecc (fun v => (h.setThread _ _).trans (h.overwrite ..))

theorem cincEffect (s : State) (th : Thread) (w : Nat) : part (Machine.cincEffect g t s th w) = part s := State.ite_keeps rfl ((h.next _).trans (h.cinc ..))
theorem cwaitEffect (s : State) (th : Thread) (w : Nat) : part (Machine.cwaitEffect g t s th w) = part s := State.ite_keeps (h.next _) (h.stall ..)
theorem creadEffect (s : State) (th : Thread) (w : Nat) : part (Machine.creadEffect g t s th w) = part s := h.setThread _ _
theorem barrierEffect (s : State) (th : Thread) (w : Nat) : part (Machine.barrierEffect g t s th w) = part s :=
  State.ite_keeps rfl (State.ite_keeps ((h.setThread _ _).trans (h.setThread _ _)) ((h.stall ..).trans (h.setThread _ _)))
theorem gincEffect (hq : ¬ quiet) (s : State) (th : Thread) (w : Nat) : part (Machine.gincEffect g t s th w) = part s :=
  State.ite_keeps rfl ((h.next _).trans (State.ite_keeps (h.localInc hq ..) rfl))
theorem greadEffect (s : State) (th : Thread) (w : Nat) : part (Machine.greadEffect g t s th w) = part s := h.setThread _ _
theorem sdtrEffect (s : State) (th : Thread) (w : Nat) : part (Machine.sdtrEffect g t s th w) = part s := h.setThread _ _
theorem slotrEffect (s : State) (th : Thread) (w : Nat) : part (Machine.slotrEffect g t s th w) = part s := h.setThread _ _
theorem waitsdtEffect (s : State) (th : Thread) (w : Nat) : part (Machine.waitsdtEffect g t s th w) = part s := State.ite_keeps (h.next _) (h.stall ..)
theorem endEffect (hq : ¬ quiet) (s : State) (th : Thread) (w : Nat) : part (Machine.endEffect g t s th w) = part s :=
  State.ite_keeps rfl (h.endThread _ _ (fun q => absurd q hq))
theorem fenceEffect (s : State) (th : Thread) (w : Nat) : part (Machine.fenceEffect g t s th w) = part s := State.ite_keeps rfl (h.next _)

/-! ### The matrix queues -/

theorem matEffect (s : State) (th : Thread) (w : Nat) : part (Machine.matEffect g t s th w) = part s := by
  have hc : part ((s.matCount g w).next g t) = part s := (h.next _).trans (State.ite_keeps (h.cinc ..) rfl)
  unfold Machine.matEffect
  dsimp only
  refine State.ite_keeps hc (State.ite_keeps (h.stall ..) (State.ite_keeps (h.threadFault ..) ?_))
  split
  · exact h.threadFault ..
  · exact State.ite_keeps hc ((h.next _).trans ((h.setCore _ _).trans (h.alm _ _)))

/-! ### The vector engine -/

theorem invalidLanes (s : State) (core n : Nat) : part (s.invalidLanes core n) = part s := State.ite_keeps rfl (h.dadd ..)
theorem putVd (s : State) (th : Thread) (w v : Nat) : part (s.putVd g t th w v) = part s := h.setThread _ _
theorem putLanes (s : State) (th : Thread) (w : Nat) (ls : List (Nat × Bool)) : part (s.putLanes g t th w ls) = part s := (h.putVd ..).trans (h.invalidLanes ..)
theorem binaryEffect (lane : Nat → Nat → Nat → Nat × Bool) (s : State) (th : Thread) (w : Nat) : part (Machine.binaryEffect g t lane s th w) = part s := h.putLanes ..
theorem unaryEffect (lane : Nat → Nat → Nat × Bool) (s : State) (th : Thread) (w : Nat) : part (Machine.unaryEffect g t lane s th w) = part s := h.putLanes ..
theorem vmaxEffect (s : State) (th : Thread) (w : Nat) : part (Machine.vmaxEffect g t s th w) = part s := by
  unfold Machine.vmaxEffect
  exact h.binaryEffect ..
theorem vcmpEffect (s : State) (th : Thread) (w : Nat) : part (Machine.vcmpEffect g t s th w) = part s := h.binaryEffect ..
theorem fmaEffect (s : State) (th : Thread) (w : Nat) : part (Machine.fmaEffect g t s th w) = part s := h.putLanes ..
theorem vrsumEffect (s : State) (th : Thread) (w : Nat) : part (Machine.vrsumEffect g t s th w) = part s := (h.putVd ..).trans (h.invalidLanes ..)

theorem vgatherEffect (s : State) (th : Thread) (w : Nat) : part (Machine.vgatherEffect g t s th w) = part s :=
  State.ite_keeps (h.threadFault ..) ((h.putVd ..).trans (h.dadd ..))

theorem clash (s : State) (w : Nat) (same : Bool) (v x y : Nat) : part (s.clash g t w same v x y) = part s := State.ite_keeps (h.setThread _ _) rfl

theorem vquantEffect (s : State) (th : Thread) (w : Nat) : part (Machine.vquantEffect g t s th w) = part s := by
  unfold Machine.vquantEffect
  split
  · exact (h.clash ..).trans (h.setThread _ _)
  · exact h.putVd ..

theorem vdequantEffect (s : State) (th : Thread) (w : Nat) : part (Machine.vdequantEffect g t s th w) = part s := by
  unfold Machine.vdequantEffect
  dsimp only
  split
  · exact h.putVd ..
  · exact (h.putVd ..).trans (h.invalidLanes ..)

theorem vsplitEffect (s : State) (th : Thread) (w : Nat) : part (Machine.vsplitEffect g t s th w) = part s := (h.clash ..).trans ((h.clash ..).trans (h.setThread _ _))

theorem vscaleEffect (s : State) (th : Thread) (w : Nat) : part (Machine.vscaleEffect g t s th w) = part s := by
  unfold Machine.vscaleEffect
  split
  · exact h.putVd ..
  · rfl

/-- A vector instruction whose effect keeps the part keeps it. -/
theorem vector {s : State} {cls op : Nat} {regs : Nat → Regs} {effect : State → Thread → Nat → State} (he : ∀ v th w, part (effect v th w) = part v) {u : State}
    (hx : s.vector g t cls op regs effect = .next u) : part u = part s := h.issueInstr (fun v th w => (h.dadd ..).trans (he v th w)) hx

end
end ThreadPart

/-! ### The obligation -/

/-- The instruction raises no gate of its own (R86, R94). -/
def raisesNone (g : Fin 384) (t : Fin 32) (c : Instr) : Prop := c ≠ .ginc g t ∧ c ≠ .endThread g t

section
variable {quiet : Prop} {g : Fin 384} {t : Fin 32} {β : Type} {part : State → β}

/-- A command that issues an instruction whose effect keeps the part keeps it. -/
theorem ThreadPart.ensures_issue (h : ThreadPart quiet g t part) {c : Instr} {mine bad : Nat → Bool} {regs : Nat → Regs}
    {effect : State → Thread → Nat → State} (hx : ∀ v, exec c v = v.issueInstr g t mine bad regs effect) (he : ∀ v th w, part (effect v th w) = part v)
    (s : State) : Ensures c s (fun u => part u = part s) := fun _ hu => h.issueInstr he ((hx s).symm.trans hu)

theorem ThreadPart.ensures_vector (h : ThreadPart quiet g t part) {c : Instr} {cls op : Nat} {regs : Nat → Regs}
    {effect : State → Thread → Nat → State} (hx : ∀ v, exec c v = v.vector g t cls op regs effect) (he : ∀ v th w, part (effect v th w) = part v)
    (s : State) : Ensures c s (fun u => part u = part s) := fun _ hu => h.vector he ((hx s).symm.trans hu)

theorem ThreadPart.ensures_scalar (h : ThreadPart quiet g t part) (op : Option ScalarOp) (form : ScalarForm) (s : State) :
    Ensures (.scalar g t op form) s (fun u => part u = part s) := by
  refine h.ensures_issue (exec_scalar g t op form) (fun v th w => ?_) s
  cases op with
  | some o => exact h.scalarEffect o form v th w
  | none => rfl

theorem ThreadPart.ensures_branch (h : ThreadPart quiet g t part) (cond : Option BranchCond) (s : State) :
    Ensures (.branch g t cond) s (fun u => part u = part s) := by
  refine h.ensures_issue (exec_branch g t cond) (fun v th w => ?_) s
  cases cond with
  | some k => exact h.branchEffect k v th w
  | none => rfl

end

/-- The commands of one thread that store nothing keep every part that is not the thread's. -/
theorem ThreadPart.ensures {g : Fin 384} {t : Fin 32} {c : Instr} {β : Type} {part : State → β} (hc : threadOnly g t c)
    (h : ThreadPart (raisesNone g t c) g t part) (s : State) : Ensures c s (fun u => part u = part s) := by
  rcases hc with ⟨op, form, rfl⟩ | ⟨cond, rfl⟩ | ⟨signed, cycle, rfl⟩ | hc
  · exact h.ensures_scalar op form s
  · exact h.ensures_branch cond s
  · exact h.ensures_issue (exec_scratchLoad g t signed cycle) (h.scratchLoadEffect _ cycle) s
  · revert h
    revert c
    simp only [List.forall_mem_cons, List.not_mem_nil, false_imp_iff, implies_true, and_true]
    exact ⟨fun h => h.ensures_issue (exec_cinc g t) h.cincEffect s,
      fun h => h.ensures_issue (exec_cwait g t) h.cwaitEffect s,
      fun h => h.ensures_issue (exec_cread g t) h.creadEffect s,
      fun h => h.ensures_issue (exec_barrier g t) h.barrierEffect s,
      fun h => h.ensures_issue (exec_ginc g t) (h.gincEffect (fun q => q.1 rfl)) s,
      fun h => h.ensures_issue (exec_gread g t) h.greadEffect s,
      fun h => h.ensures_issue (exec_sdtr g t) h.sdtrEffect s,
      fun h => h.ensures_issue (exec_slotr g t) h.slotrEffect s,
      fun h => h.ensures_issue (exec_waitsdt g t) h.waitsdtEffect s,
      fun h => h.ensures_issue (exec_endThread g t) (h.endEffect (fun q => q.2 rfl)) s,
      fun h => h.ensures_issue (exec_fence g t) h.fenceEffect s,
      fun h => h.ensures_issue (exec_mwload g t) h.matEffect s,
      fun h => h.ensures_issue (exec_mstream g t) h.matEffect s,
      fun h => h.ensures_issue (exec_mdrain g t) h.matEffect s,
      fun h => h.ensures_vector (exec_vadd g t) (h.binaryEffect _) s,
      fun h => h.ensures_vector (exec_vsub g t) (h.binaryEffect _) s,
      fun h => h.ensures_vector (exec_vmul g t) (h.binaryEffect _) s,
      fun h => h.ensures_vector (exec_vfma g t) h.fmaEffect s,
      fun h => h.ensures_vector (exec_vmax g t) h.vmaxEffect s,
      fun h => h.ensures_vector (exec_vmin g t) (h.binaryEffect _) s,
      fun h => h.ensures_vector (exec_vabs g t) (h.unaryEffect _) s,
      fun h => h.ensures_vector (exec_vneg g t) (h.unaryEffect _) s,
      fun h => h.ensures_vector (exec_vcmp g t) h.vcmpEffect s,
      fun h => h.ensures_vector (exec_vsel g t) (fun v th w => h.putVd v th w _) s,
      fun h => h.ensures_vector (exec_vrsum g t) h.vrsumEffect s,
      fun h => h.ensures_vector (exec_vrmax g t) (fun v th w => h.putVd v th w _) s,
      fun h => h.ensures_vector (exec_vrmin g t) (fun v th w => h.putVd v th w _) s,
      fun h => h.ensures_vector (exec_vbcast g t) (fun v th w => h.putVd v th w _) s,
      fun h => h.ensures_vector (exec_vgather g t) h.vgatherEffect s,
      fun h => h.ensures_vector (exec_vand g t) (h.binaryEffect _) s,
      fun h => h.ensures_vector (exec_vor g t) (h.binaryEffect _) s,
      fun h => h.ensures_vector (exec_vxor g t) (h.binaryEffect _) s,
      fun h => h.ensures_vector (exec_vshl g t) (h.binaryEffect _) s,
      fun h => h.ensures_vector (exec_vshr g t) (h.binaryEffect _) s,
      fun h => h.ensures_vector (exec_vcvt g t) (fun v th w => h.putVd v th w _) s,
      fun h => h.ensures_vector (exec_vquant g t) h.vquantEffect s,
      fun h => h.ensures_vector (exec_vdequant g t) h.vdequantEffect s,
      fun h => h.ensures_vector (exec_vsplit g t) h.vsplitEffect s,
      fun h => h.ensures_vector (exec_vscale g t) h.vscaleEffect s,
      fun h => h.ensures_vector (exec_vexp g t) (h.unaryEffect _) s,
      fun h => h.ensures_vector (exec_vexp2 g t) (h.unaryEffect _) s,
      fun h => h.ensures_vector (exec_vln g t) (h.unaryEffect _) s,
      fun h => h.ensures_vector (exec_vlog2 g t) (h.unaryEffect _) s,
      fun h => h.ensures_vector (exec_vrcp g t) (h.unaryEffect _) s,
      fun h => h.ensures_vector (exec_vrsqrt g t) (h.unaryEffect _) s,
      fun h => h.ensures_vector (exec_vtanh g t) (h.unaryEffect _) s,
      fun h => h.ensures_vector (exec_vsigmoid g t) (h.unaryEffect _) s,
      fun h => h.ensures_vector (exec_vsinpi g t) (h.unaryEffect _) s,
      fun h => h.ensures_vector (exec_vcospi g t) (h.unaryEffect _) s⟩

/-! ### Parts that a thread's instruction leaves alone -/

theorem DoneFrame.threads (quiet : Prop) : DoneFrame quiet State.threads :=
  ⟨fun _ _ => rfl, fun _ _ => rfl, fun _ _ => rfl, fun _ _ => rfl, fun _ _ _ => rfl, fun _ _ => rfl⟩

/-- The units beside threads, cores, gates, actions, contributions, requests, counters and the log. -/
def State.otherUnits (s : State) :=
  (s.mem, s.longs, s.time, s.movers, s.fuse, s.clk, s.boot, s.power, s.host, s.prot)

theorem ThreadPart.otherUnits (quiet : Prop) (g t : Nat) : ThreadPart quiet g t State.otherUnits :=
  ⟨⟨fun _ _ => rfl, fun _ _ => rfl, fun _ _ => rfl, fun _ _ => rfl, fun _ _ _ => rfl, fun _ _ => rfl⟩, fun _ _ => rfl, fun _ _ => rfl, fun _ _ => rfl, fun _ _ => rfl⟩

theorem ThreadPart.quietGates {quiet : Prop} (hq : quiet) (g t : Nat) : ThreadPart quiet g t State.gates :=
  ⟨⟨fun _ _ => rfl, fun _ _ => rfl, fun _ _ => rfl, fun _ _ => rfl, fun hn => absurd hq hn, fun _ _ => rfl⟩, fun _ _ => rfl, fun _ _ => rfl, fun _ _ => rfl, fun _ _ => rfl⟩

theorem threadKey_ne {g t g' t' : Nat} (ht : t < 32) (ht' : t' < 32) (hn : g' ≠ g ∨ t' ≠ t) : threadKey g' t' ≠ threadKey g t := by
  unfold threadKey
  omega

theorem ThreadPart.otherThread (quiet : Prop) {g t g' t' : Nat} (ht : t < 32) (ht' : t' < 32) (hn : g' ≠ g ∨ t' ≠ t) :
    ThreadPart quiet g t (fun s => s.thread g' t') :=
  ⟨⟨fun _ _ => rfl, fun _ _ => rfl, fun _ _ => rfl, fun _ _ => rfl, fun _ _ _ => rfl, fun _ _ => rfl⟩,
    fun s th => s.thread_setThread_other g t g' t' th (threadKey_ne ht ht' hn), fun _ _ => rfl, fun _ _ => rfl, fun _ _ => rfl⟩

theorem ThreadPart.otherCounter (quiet : Prop) {g h : Nat} (hn : h ≠ g) (t n : Nat) : ThreadPart quiet g t (fun s => s.counter h n) :=
  ⟨⟨fun _ _ => rfl, fun _ _ => rfl, fun _ _ => rfl, fun _ _ => rfl, fun _ _ _ => rfl, fun s f => s.counter_images f h n⟩,
    fun _ _ => rfl, fun s k => congrArg (fun c : Core => tget 0 c.counters n) (s.core_setCore_other g h k hn), fun _ _ => rfl, fun _ _ => rfl⟩

theorem ThreadPart.byte (quiet : Prop) (g t a : Nat) : ThreadPart quiet g t (fun s => s.byte a) :=
  ⟨⟨fun _ _ => rfl, fun _ _ => rfl, fun _ _ => rfl, fun _ _ => rfl, fun _ _ _ => rfl, fun _ _ => rfl⟩, fun _ _ => rfl, fun _ _ => rfl, fun _ _ => rfl, fun _ _ => rfl⟩

/-- Settles O58: every part the statement names keeps what ends a launch, what a thread's instruction does to its thread and its core, and what it counts. -/
theorem threadFrame : Obligations.ThreadFrame := by
  intro s g t c hc u hx
  have hu := ThreadPart.ensures hc (.otherUnits _ g t) s u hx
  simp only [State.otherUnits, Prod.mk.injEq] at hu
  obtain ⟨hmem, hlongs, htime, hmovers, hfuse, hclk, hboot, hpower, hhost, hprot⟩ := hu
  refine ⟨hmem, fun a => ThreadPart.ensures hc (.byte _ g t a) s u hx, fun g' t' hlt hn => ?_, htime, hmovers, hlongs, hfuse, hclk, hboot, hpower, hhost, hprot, fun h n hn => ?_, fun hginc hend => ?_⟩
  · exact ThreadPart.ensures hc (.otherThread _ t.isLt hlt.2 hn) s u hx
  · exact ThreadPart.ensures hc (.otherCounter _ (fun e => hn (Fin.ext e)) t n) s u hx
  · exact ThreadPart.ensures hc (.quietGates ⟨hginc, hend⟩ g t) s u hx

end Sys2Proof.Machine
end

section
/-! SUPPORT. SCALAR and BRANCH (R83, R84): operations and conditions on 64-bit integers, the effect of an operation, and the target of a branch. -/

namespace Sys2Proof.Machine

/-! ### Operands and results as 64-bit integers -/

theorem Thread.s_lt (th : Thread) (i : Nat) : th.s i < 2 ^ 64 := by
  unfold Thread.s
  split
  · decide
  · exact (tget 0 th.sregs i).isLt

theorem ofSigned_lt (w : Nat) (i : Int) : ofSigned w i < 2 ^ w := by
  rw [ofSigned_eq]
  exact BitVec.isLt _

theorem scalarOperand_lt (th : Thread) (form : ScalarForm) (w : Nat) : scalarOperand th form w < 2 ^ 64 := by
  cases form with
  | reg => exact th.s_lt _
  | immSigned => exact ofSigned_lt _ _
  | immZero => exact (Nat.mod_lt _ (by decide)).trans (by decide : 2 ^ 32 < 2 ^ 64)

theorem toSigned_toNat (x : BitVec 64) : toSigned 64 x.toNat = x.toInt := by
  rw [toSigned_eq 64 _ (by decide), BitVec.ofNat_toNat, BitVec.setWidth_eq]

theorem ofSigned_toInt (x : BitVec 64) : ofSigned 64 x.toInt = x.toNat := by rw [ofSigned_eq, BitVec.ofInt_toInt]

theorem ofSigned_sub (x y : BitVec 64) : ofSigned 64 (x.toInt - y.toInt) = (x - y).toNat := by
  rw [ofSigned_eq]
  exact congrArg BitVec.toNat (BitVec.eq_of_toInt_eq (by rw [BitVec.toInt_ofInt, BitVec.toInt_sub]))

theorem ofSigned_div (x : BitVec 64) (n : Nat) : ofSigned 64 (x.toInt / 2 ^ n) = (x.sshiftRight n).toNat := by
  rw [ofSigned_eq, BitVec.sshiftRight, Int.shiftRight_eq_div_pow]
  norm_cast

theorem ofSigned_min (x y : BitVec 64) : ofSigned 64 (min x.toInt y.toInt) = (if x.slt y then x else y).toNat := by
  simp only [BitVec.slt, decide_eq_true_eq]
  split
  · rw [min_eq_left (by omega), ofSigned_toInt]
  · rw [min_eq_right (by omega), ofSigned_toInt]

theorem ofSigned_max (x y : BitVec 64) : ofSigned 64 (max x.toInt y.toInt) = (if x.slt y then y else x).toNat := by
  simp only [BitVec.slt, decide_eq_true_eq]
  split
  · rw [max_eq_right (by omega), ofSigned_toInt]
  · rw [max_eq_left (by omega), ofSigned_toInt]

theorem min_toNat (x y : BitVec 64) : min x.toNat y.toNat = (if x.ult y then x else y).toNat := by
  simp only [BitVec.ult, decide_eq_true_eq]
  split
  · rw [min_eq_left (by omega)]
  · rw [min_eq_right (by omega)]

theorem max_toNat (x y : BitVec 64) : max x.toNat y.toNat = (if x.ult y then y else x).toNat := by
  simp only [BitVec.ult, decide_eq_true_eq]
  split
  · rw [max_eq_right (by omega)]
  · rw [max_eq_left (by omega)]

theorem toNat_beq (x y : BitVec 64) : (x.toNat == y.toNat) = (x == y) := by
  rw [Bool.eq_iff_iff, beq_iff_eq, beq_iff_eq, BitVec.toNat_inj]

/-! ### SCALAR -/

/-- A compare gives the predicate of the specification. -/
theorem scalarCompare_of_spec {op : ScalarOp} {x y : BitVec 64} {b : Bool} (h : scalarSpec op x y = some (.inr b)) :
    scalarCompare op x.toNat y.toNat = some b := by
  cases op <;> simp only [scalarSpec, Option.some.injEq, Sum.inr.injEq, reduceCtorEq] at h
  case cmpEq => rw [scalarCompare, toNat_beq, h]
  case cmpNe => rw [scalarCompare, bne, toNat_beq, ← h, bne]
  case cmpLt | cmpLe => rw [scalarCompare, toSigned_toNat, toSigned_toNat, ← h]; rfl
  case cmpLtu | cmpLeu => rw [← h]; rfl
  case shl | shr | sar => split at h <;> simp at h

/-- Another operation gives the value of the specification. -/
theorem scalarValue_of_spec {op : ScalarOp} {x y v : BitVec 64} (h : scalarSpec op x y = some (.inl v)) :
    scalarCompare op x.toNat y.toNat = none ∧ scalarValue op x.toNat y.toNat = v.toNat := by
  cases op <;> simp only [scalarSpec, Option.some.injEq, Sum.inl.injEq, reduceCtorEq] at h <;> refine ⟨rfl, ?_⟩ <;>
    simp only [scalarValue, toSigned_toNat]
  case add => rw [← h, BitVec.toNat_add]
  case sub => rw [← h, ofSigned_sub]
  case mul => rw [← h, BitVec.toNat_mul]
  case and => rw [← h, BitVec.toNat_and]
  case or => rw [← h, BitVec.toNat_or]
  case xor => rw [← h, BitVec.toNat_xor]
  case min => rw [← h, ofSigned_min]
  case max => rw [← h, ofSigned_max]
  case minu => rw [← h, min_toNat]
  case maxu => rw [← h, max_toNat]
  case shl =>
    split at h
    · cases h
      rw [if_pos ‹_›, BitVec.toNat_shiftLeft]
    · cases h
  case shr =>
    split at h
    · cases h
      rw [if_pos ‹_›, BitVec.toNat_ushiftRight]
    · cases h
  case sar =>
    split at h
    · cases h
      rw [if_pos ‹_›, ofSigned_div]
    · cases h

/-- Where the specification states nothing, a shift gives a free value of its operands (log 5). -/
theorem scalarValue_of_spec_none {op : ScalarOp} {x y : BitVec 64} (h : scalarSpec op x y = none) :
    scalarCompare op x.toNat y.toNat = none ∧ ∃ n, scalarValue op x.toNat y.toNat = (Config.shiftBeyond n x y).toNat := by
  have hb (n : Nat) : shiftBeyond n x.toNat y.toNat = (Config.shiftBeyond n x y).toNat := by
    simp only [shiftBeyond, BitVec.ofNat_toNat, BitVec.setWidth_eq]
  cases op <;> simp only [scalarSpec, reduceCtorEq] at h <;> refine ⟨rfl, ?_⟩ <;> split at h <;> cases h <;> simp only [scalarValue, if_neg ‹_›, hb]
  case shl => exact ⟨0, rfl⟩
  case shr => exact ⟨1, rfl⟩
  case sar => exact ⟨2, rfl⟩

section
variable {g t : Nat} {op : ScalarOp} {form : ScalarForm} {s : State} {th : Thread} {w : Nat}

/-- The operands of a SCALAR word as bit vectors, back as numbers. -/
theorem scalarOperands_toNat (th : Thread) (form : ScalarForm) (w : Nat) :
    (BitVec.ofNat 64 (th.s (wSrcA w))).toNat = th.s (wSrcA w) ∧ (BitVec.ofNat 64 (scalarOperand th form w)).toNat = scalarOperand th form w :=
  ⟨Nat.mod_eq_of_lt (th.s_lt _), Nat.mod_eq_of_lt (scalarOperand_lt th form w)⟩

theorem scalarEffect_of_spec {r : BitVec 64 ⊕ Bool} (h : scalarSpec op (BitVec.ofNat 64 (th.s (wSrcA w))) (BitVec.ofNat 64 (scalarOperand th form w)) = some r) :
    scalarEffect g t op form s th w = s.setThread g t (th.putScalar (wDst w) r).advance := by
  obtain ⟨hx, hy⟩ := scalarOperands_toNat th form w
  unfold scalarEffect
  cases r with
  | inl v =>
    obtain ⟨hc, hv⟩ := scalarValue_of_spec h
    rw [hx, hy] at hc hv
    simp only [hc, hv]
    rfl
  | inr b =>
    have hc := scalarCompare_of_spec h
    rw [hx, hy] at hc
    simp only [hc]
    rfl

theorem scalarEffect_of_spec_none (h : scalarSpec op (BitVec.ofNat 64 (th.s (wSrcA w))) (BitVec.ofNat 64 (scalarOperand th form w)) = none) :
    ∃ n, scalarEffect g t op form s th w = s.setThread g t (th.setS (wDst w)
      (Config.shiftBeyond n (BitVec.ofNat 64 (th.s (wSrcA w))) (BitVec.ofNat 64 (scalarOperand th form w))).toNat).advance := by
  obtain ⟨hx, hy⟩ := scalarOperands_toNat th form w
  obtain ⟨hc, n, hv⟩ := scalarValue_of_spec_none h
  rw [hx, hy] at hc hv
  exact ⟨n, by unfold scalarEffect; simp only [hc, hv]⟩

end

@[simp] theorem Thread.putScalar_pc (th : Thread) (d : Nat) (r : BitVec 64 ⊕ Bool) : (th.putScalar d r).pc = th.pc := by cases r <;> simp [Thread.putScalar]
@[simp] theorem Thread.putScalar_asid (th : Thread) (d : Nat) (r : BitVec 64 ⊕ Bool) : (th.putScalar d r).asid = th.asid := by cases r <;> simp [Thread.putScalar]
@[simp] theorem Thread.putScalar_imgVa (th : Thread) (d : Nat) (r : BitVec 64 ⊕ Bool) : (th.putScalar d r).imgVa = th.imgVa := by cases r <;> simp [Thread.putScalar]
@[simp] theorem Thread.putScalar_imgCrc (th : Thread) (d : Nat) (r : BitVec 64 ⊕ Bool) : (th.putScalar d r).imgCrc = th.imgCrc := by cases r <;> simp [Thread.putScalar]

/-- An instruction that the command does not make a reserved encoding issues like one that never is. -/
theorem State.issueInstr_bad {s : State} {g t : Nat} {mine bad : Nat → Bool} {regs : Nat → Regs} {effect : State → Thread → Nat → State}
    (hb : bad (s.word g t) = false) : s.issueInstr g t mine bad regs effect = s.issueInstr g t mine (fun _ => false) regs effect := by
  unfold State.issueInstr
  simp only [hb]

/-- A SCALAR word that executes does what its operation does. -/
theorem exec_scalar_issues {s : State} {g : Fin 384} {t : Fin 32} {op : ScalarOp} {form : ScalarForm} {th : Thread}
    (h : s.issues g t (fun w => wClass w == 0) (scalarRegs (some op) form) = true) (hf : form = .reg → field (s.word g t) 0 20 = 0)
    (he : scalarEffect g t op form s (s.thread g t) (s.word g t) = s.setThread g t th.advance)
    (hp : th.pc = (s.thread g t).pc) (ha : th.asid = (s.thread g t).asid) (hv : th.imgVa = (s.thread g t).imgVa) (hx : th.imgCrc = (s.thread g t).imgCrc) :
    exec (.scalar g t (some op) form) s = .next (s.setThread g t th.advance) := by
  have hb : (fun w => (some op).isNone || (form == .reg && field w 0 20 != 0)) (s.word g t) = false := by
    cases form with
    | reg => simp [hf rfl]
    | immSigned | immZero => rfl
  rw [exec_scalar, execScalar, State.issueInstr_bad hb]
  exact State.issueInstr_replaces h he rfl (congrArg (· + 8) hp) ha hv hx

/-- Settles O1: the operation's value by the specification, or a free value where there is none. -/
theorem scalarResult : Obligations.ScalarResult := by
  intro s g t op form h hf
  refine ⟨fun r hr => ?_, fun hr => ?_⟩
  · exact exec_scalar_issues h hf (scalarEffect_of_spec hr) (by simp) (by simp) (by simp) (by simp)
  · obtain ⟨n, he⟩ := scalarEffect_of_spec_none (g := g) (t := t) (s := s) hr
    exact ⟨n, exec_scalar_issues h hf he (by simp) (by simp) (by simp) (by simp)⟩

/-! ### BRANCH -/

theorem branchTaken_spec (c : BranchCond) (x y : BitVec 64) : branchTaken c x.toNat y.toNat = branchSpec c x y := by
  cases c <;> simp only [branchTaken, branchSpec, toSigned_toNat, toNat_beq, bne]
  case lt | ge | ltu | geu => rfl

/-- A thread whose next instruction lies in its image passes the check of its PC. -/
theorem State.checkPc_inside {s : State} {g t : Nat} {i : Image} (hi : s.imageOf g t = some i) (hp : (s.thread g t).pc + 8 ≤ i.code.length) :
    s.checkPc g t = s := by
  unfold State.checkPc
  rw [hi]
  exact if_neg (fun hn => by omega)

/-- The image of a thread whose PC was moved. -/
theorem State.imageOf_setPc (s : State) (g t pc : Nat) : (s.setThread g t { s.thread g t with pc := pc }).imageOf g t = s.imageOf g t :=
  State.imageOf_of _ _ _ _ rfl (by simp) (by simp) (by simp)

section
variable {s : State} {g : Fin 384} {t : Fin 32} {c : BranchCond} {i : Image}

/-- The byte offset at which a branch aims, as an integer (R83). -/
def State.branchTarget (s : State) (g t : Nat) : Int := ((s.thread g t).pc : Int) + 8 * wOffset (s.word g t)

/-- The condition of the branch on the registers of its word (R84). -/
def State.branchHolds (s : State) (g t : Nat) (c : BranchCond) : Bool :=
  branchSpec c (BitVec.ofNat 64 ((s.thread g t).s (wDst (s.word g t)))) (BitVec.ofNat 64 ((s.thread g t).s (wSrcA (s.word g t))))

theorem branchEffect_eq (s : State) (g t : Nat) (c : BranchCond) : branchEffect g t c s (s.thread g t) (s.word g t) =
    if s.branchHolds g t c then s.setThread g t { s.thread g t with pc := ofSigned 64 (s.branchTarget g t) } else s.setThread g t (s.thread g t).advance := by
  have hs (r : Nat) : (BitVec.ofNat 64 ((s.thread g t).s r)).toNat = (s.thread g t).s r := Nat.mod_eq_of_lt ((s.thread g t).s_lt r)
  rw [State.branchHolds, ← branchTaken_spec, hs, hs]
  rfl

/-- A branch whose condition fails goes on. -/
theorem exec_branch_fails (h : s.issues g t (fun w => wClass w == 1) (fun w => ⟨[wDst w, wSrcA w], []⟩) = true) (hc : s.branchHolds g t c = false) :
    exec (.branch g t (some c)) s = .next (s.setThread g t (s.thread g t).advance) := by
  rw [exec_branch, execBranch]
  refine State.issueInstr_advances h ?_ rfl
  exact (branchEffect_eq s g t c).trans (if_neg (by simp [hc]))

/-- A branch whose condition holds goes to its target, formed in 64 bits, where that lies in the image (R83). -/
theorem exec_branch_holds (h : s.issues g t (fun w => wClass w == 1) (fun w => ⟨[wDst w, wSrcA w], []⟩) = true) (hi : s.imageOf g t = some i)
    (hc : s.branchHolds g t c = true) (hin : ofSigned 64 (s.branchTarget g t) + 8 ≤ i.code.length) :
    exec (.branch g t (some c)) s = .next (s.setThread g t { s.thread g t with pc := ofSigned 64 (s.branchTarget g t) }) := by
  rw [exec_branch, execBranch, State.issueInstr_issues s g t _ _ _ _ h rfl]
  dsimp only
  rw [branchEffect_eq, if_pos hc, State.checkPc_inside ((s.imageOf_setPc g t _).trans hi) (by simpa using hin)]

/-- In an image of at most 2^64 bytes a target inside the image is one formed in 64 bits: there BRANCH does what O2 says. -/
theorem exec_branch_inside (h : s.issues g t (fun w => wClass w == 1) (fun w => ⟨[wDst w, wSrcA w], []⟩) = true) (hi : s.imageOf g t = some i)
    (hc : s.branchHolds g t c = true) (hlen : i.code.length ≤ 2 ^ 64) (h0 : 0 ≤ s.branchTarget g t) (h1 : s.branchTarget g t + 8 ≤ i.code.length) :
    exec (.branch g t (some c)) s = .next (s.setThread g t { s.thread g t with pc := (s.branchTarget g t).toNat }) := by
  have ht : ofSigned 64 (s.branchTarget g t) = (s.branchTarget g t).toNat := by
    unfold ofSigned
    rw [Int.emod_eq_of_lt h0 (by omega)]
  rw [exec_branch_holds h hi hc (by omega), ht]

end

/-! ### An image beyond 2^64 bytes -/

/-- Thread 0 of core 0 of a package that runs, at a PC of an image with this code. -/
def runsAt (code : Bytes) (pc : Nat) : State :=
  { boot := { mode := .ready, inReset := false }, power := { railsUp := true },
    cores := [(0, { images := [⟨0, 0, 0, [], code⟩] })], threads := [(0, { status := .running, pc := pc })] }

theorem runsAt_imageOf (code : Bytes) (pc : Nat) : (runsAt code pc).imageOf 0 0 = some ⟨0, 0, 0, [], code⟩ := rfl
theorem runsAt_thread (code : Bytes) (pc : Nat) : (runsAt code pc).thread 0 0 = { status := .running, pc := pc } := rfl

theorem leAt_replicate {len off n : Nat} (b : Byte) (h : off + n ≤ len) : leAt (List.replicate len b) off n = leNat (List.replicate n b) := by
  have ht : ((List.replicate len b).drop off).take n = List.replicate n b := by
    rw [List.drop_replicate, List.take_replicate, Nat.min_eq_left (by omega)]
  rw [leAt, slice, ht, List.length_replicate, Nat.sub_self, List.replicate_zero, List.append_nil]

/-- Each word of code made of bytes 0x10 is a BRANCH of OFFSET 0x1010_1010 on predicate p0. -/
theorem runsAt_word {len pc : Nat} (h : pc + 8 ≤ len) : (runsAt (List.replicate len 0x10) pc).word 0 0 = 0x1010101010101010 :=
  leAt_replicate 0x10 h

theorem runsAt_issues {len pc : Nat} (h : pc + 16 ≤ len) :
    (runsAt (List.replicate len 0x10) pc).issues 0 0 (fun w => wClass w == 1) (fun w => ⟨[wDst w, wSrcA w], []⟩) = true := by
  have hm : (runsAt (List.replicate len 0x10) pc).mayIssue 0 0 = true := rfl
  have hw : (runsAt (List.replicate len 0x10) pc).withheldNow = false := rfl
  have hr : (runsAt (List.replicate len 0x10) pc).roomAfter 0 0 = true := by
    rw [State.roomAfter, runsAt_imageOf, runsAt_thread]
    simpa using h
  simp only [State.issues, runsAt_word (show pc + 8 ≤ len by omega), hm, hw, hr]
  rfl

theorem runsAt_target {len : Nat} (h : 2 ^ 64 ≤ len) : (runsAt (List.replicate len 0x10) (2 ^ 64 - 8)).branchTarget 0 0 = 2 ^ 64 + 0x80808078 := by
  have ho : wOffset 0x1010101010101010 = 0x10101010 := by decide
  rw [State.branchTarget, runsAt_word (by omega), runsAt_thread, ho]
  norm_num

/-- Refutes O2: the statement bounds the image by nothing, and past 2^64 a target inside the image is not the target formed in 64 bits (R83). With code of 2^65 bytes 0x10, the branch at 2^64 - 8 aims 0x1010_1010 instructions ahead and arrives 2^64 below. Images that the header of R91 admits, of at most 64 KiB, are those of `exec_branch_inside`. -/
theorem not_branchGoesToTarget : ¬ Obligations.BranchGoesToTarget := by
  intro h
  obtain ⟨len, hlen⟩ : ∃ len : Nat, len = 2 ^ 65 := ⟨_, rfl⟩
  have hcode : (List.replicate len (0x10 : Byte)).length = len := List.length_replicate
  have hi := runsAt_issues (show 2 ^ 64 - 8 + 16 ≤ len by omega)
  have ht : (runsAt (List.replicate len 0x10) (2 ^ 64 - 8)).branchTarget (0 : Fin 384) (0 : Fin 32) = 2 ^ 64 + 0x80808078 := runsAt_target (by omega)
  have hwraps : ofSigned 64 (2 ^ 64 + 0x80808078) = 0x80808078 := by decide
  have hsaid := (h _ 0 0 .always _ hi (runsAt_imageOf _ _)).2 rfl (by rw [← State.branchTarget, ht]; decide)
    (by rw [← State.branchTarget, ht, hcode]; omega)
  have hdone := exec_branch_holds (g := 0) (t := 0) (c := .always) hi (runsAt_imageOf _ _) rfl (by rw [ht, hwraps, hcode]; omega)
  have hpc := congrArg (fun u : State => (u.thread (0 : Fin 384) (0 : Fin 32)).pc) (Host.Outcome.next.inj (hdone.symm.trans hsaid))
  simp only [State.thread_setThread] at hpc
  rw [← State.branchTarget, ht, hwraps] at hpc
  exact absurd hpc (by decide)

end Sys2Proof.Machine
end

section
/-! SUPPORT. SCRATCH (R79 to R81, R275): where scratch lies, what a store leaves as it was, and the accesses that are served, lose their bank or fault. -/

namespace Sys2Proof.Machine

/-! ### Scratch among the regions (R35, R37) -/

theorem region_scratchLpa {g o : Nat} (hg : g < 384) (ho : o < 0x300000) : region (scratchLpa g o) = .scratch := by
  have hd : coreDie g < 4 := by unfold coreDie; omega
  have hc : g % 96 < 96 := Nat.mod_lt _ (by decide)
  unfold region scratchLpa
  generalize coreDie g = d at hd ⊢
  generalize g % 96 = c at hc ⊢
  have hm : (0xF0000000000 + d * 0x2000000000 + c * 0x400000 + o) % 0x2000000000 = c * 0x400000 + o := by omega
  have hw : (c * 0x400000 + o) % 0x400000 = o := by omega
  rw [if_neg (by omega), if_neg (by omega), if_pos (by omega)]
  dsimp only
  rw [hm, if_pos (by omega), hw, if_pos ho]

/-- Outside Slate an address is its own storage location. -/
theorem State.place_of_region {s : State} {a : Nat} (h : region a ≠ .slate) : s.place a = a := by
  unfold State.place
  split
  · exact absurd ‹_› h
  · rfl

theorem region_slate {a : Nat} (h : region a = .slate) : a < 0x12000000000 := by
  by_contra hn
  unfold region at h
  rw [if_neg hn] at h
  dsimp only at h
  repeat' split at h
  all_goals cases h

/-- The storage location of a Slate address is a Slate address (R265). -/
theorem State.place_slate_lt {s : State} {a : Nat} (h : region a = .slate) : s.place a < 0x12000000000 := by
  have ha := region_slate h
  unfold State.place
  rw [h]
  dsimp only
  split
  · have hf (y : Nat) : field y 8 2 < 4 := Nat.mod_lt _ (by decide)
    have := hf (a / 0x4800000000 * 2 ^ 30 + a % 0x4800000000 % 2 ^ 30)
    omega
  · exact ha

/-- No other address is stored where a byte of scratch is. -/
theorem State.place_eq_scratch {s : State} {a p : Nat} (hp : region p = .scratch) (h : s.place a = p) : a = p := by
  by_cases hs : region a = .slate
  · have hlt := h ▸ s.place_slate_lt hs
    rw [region, if_pos hlt] at hp
    cases hp
  · rw [← h, State.place_of_region hs]

/-! ### Stores -/

theorem State.store_cores (s : State) (a : Nat) (bs : Bytes) : (s.store a bs).cores = s.cores := by
  induction bs generalizing s a with
  | nil => rfl
  | cons b bs ih => exact ih _ _

/-- A byte whose storage location is none of those that a store writes reads as before. -/
theorem State.byte_store_outside (s : State) (a b : Nat) (bs : Bytes) (h : ∀ i < bs.length, s.place b ≠ s.place (a + i)) : (s.store a bs).byte b = s.byte b := by
  induction bs generalizing s a with
  | nil => rfl
  | cons x bs ih =>
    have hx : ({ s with mem := s.mem.set (s.place a) x } : State).byte b = s.byte b :=
      State.byte_congr (s := s) (t := { s with mem := s.mem.set (s.place a) x }) rfl rfl b (Memory.get_set_other _ _ _ _ (h 0 (by simp)))
    refine (ih _ _ (fun i hi => ?_)).trans hx
    have := h (i + 1) (by simpa using hi)
    rwa [show a + (i + 1) = a + 1 + i by omega] at this

/-- A store to scratch leaves every byte outside it. -/
theorem State.byte_store_scratch (s : State) {g o : Nat} (hg : g < 384) (bs : Bytes) (ho : o + bs.length ≤ 0x300000) (a : Nat)
    (ha : a < scratchLpa g o ∨ scratchLpa g o + bs.length ≤ a) : (s.store (scratchLpa g o) bs).byte a = s.byte a := by
  refine s.byte_store_outside _ a bs (fun i hi he => ?_)
  have hl : scratchLpa g o + i = scratchLpa g (o + i) := Nat.add_assoc ..
  have hr := region_scratchLpa hg (show o + i < 0x300000 by omega)
  rw [hl, State.place_of_region (a := scratchLpa g (o + i)) (by rw [hr]; decide)] at he
  have := State.place_eq_scratch hr he
  omega

theorem storeData_length (th : Thread) (w : Nat) : (storeData th w).length = sizeBytes (wSize w) := by
  unfold storeData sizeBytes
  split
  · exact natLe_length _ _
  · exact natLe_length _ _

/-! ### What issues -/

/-- An instruction that issues with some registers issues with fewer. -/
theorem State.issues_fewer {s : State} {g t : Nat} {mine : Nat → Bool} {regs fewer : Nat → Regs} (h : s.issues g t mine regs = true)
    (hf : ∀ w, ∀ k ∈ (fewer w).reads ++ (fewer w).writes, k ∈ (regs w).reads ++ (regs w).writes) : s.issues g t mine fewer = true := by
  simp only [State.issues, Bool.and_eq_true, Bool.not_eq_true'] at h ⊢
  obtain ⟨⟨hw, ha⟩, hr⟩ := h
  refine ⟨⟨hw, ?_⟩, hr⟩
  simp only [State.awaits, List.any_eq_false, Bool.and_eq_true, decide_eq_true_eq, not_and] at ha ⊢
  exact fun r hm hk hi => ha r hm hk (hf _ _ hi)

/-- An instruction that issues awaits none of its registers. -/
theorem State.issues_awaits {s : State} {g t : Nat} {mine : Nat → Bool} {regs : Nat → Regs} (h : s.issues g t mine regs = true) :
    s.awaits g t ((regs (s.word g t)).reads ++ (regs (s.word g t)).writes) = false := by
  simp only [State.issues, Bool.and_eq_true, Bool.not_eq_true'] at h
  exact h.1.2

/-- A thread that has ended passes the check of its PC. -/
theorem State.checkPc_ended {s : State} {g t : Nat} (h : (s.thread g t).status = .ended) : s.checkPc g t = s := by
  unfold State.checkPc
  split
  · exact if_neg (by simp [h])
  · rfl

/-- What does not move the thread nor change its image leaves it inside. -/
theorem State.checkPc_stays {s u : State} {g t : Nat} (hr : s.roomAfter g t = true) (ht : u.thread g t = s.thread g t) (hi : u.imageOf g t = s.imageOf g t) :
    u.checkPc g t = u := by
  unfold State.roomAfter at hr
  cases hs : s.imageOf g t with
  | none => rw [State.checkPc, hi, hs]
  | some i =>
    rw [hs] at hr
    have hl : (s.thread g t).pc + 16 ≤ i.code.length := by simpa using hr
    exact State.checkPc_inside (hi.trans hs) (by rw [ht]; omega)

theorem State.endThread_ended (s : State) (g t : Nat) (failed : Bool) : ((s.endThread g t failed).thread g t).status = .ended := by
  have hd (v : State) (l : Nat) : (v.threadsDone l 1).threads = v.threads := (DoneFrame.threads False).threadsDone v l 1 False.elim
  have hv (v : State) (l : Nat) (r : TransState) : ((if failed then ({ v with trans := r } : State).failLaunch l else { v with trans := r }).threadsDone l 1).threads = v.threads :=
    (hd _ l).trans (by cases failed <;> rfl)
  unfold State.thread State.endThread
  rw [hv]
  exact congrArg Thread.status (State.thread_setThread s g t _)

/-- An effect after which the check of the PC finds nothing is all that the instruction does. -/
theorem State.issueInstr_effect {s v : State} {g t : Nat} {mine : Nat → Bool} {regs : Nat → Regs} {effect : State → Thread → Nat → State}
    (h : s.issues g t mine regs = true) (he : effect s (s.thread g t) (s.word g t) = v) (hv : v.checkPc g t = v) :
    s.issueInstr g t mine (fun _ => false) regs effect = .next v := by
  rw [State.issueInstr_issues s g t mine _ regs effect h rfl, he, hv]

theorem State.issueInstr_faults {s : State} {g t code : Nat} {mine : Nat → Bool} {regs : Nat → Regs} {effect : State → Thread → Nat → State}
    (h : s.issues g t mine regs = true) (he : effect s (s.thread g t) (s.word g t) = s.threadFault g t code) :
    s.issueInstr g t mine (fun _ => false) regs effect = .next (s.threadFault g t code) :=
  State.issueInstr_effect h he (State.checkPc_ended (State.endThread_ended ..))

theorem State.imageOf_stall (s : State) (g cause t : Nat) : (s.stall g cause).imageOf g t = s.imageOf g t := by
  simp only [State.imageOf, State.stall, State.core_setCore]
  rfl

/-- A loaded value moves the thread nowhere. -/
theorem Thread.loaded_keeps (th : Thread) (key : Nat) (signed : Bool) (bs : Bytes) : (th.loaded key signed bs).pc = th.pc ∧
    (th.loaded key signed bs).asid = th.asid ∧ (th.loaded key signed bs).imgVa = th.imgVa ∧ (th.loaded key signed bs).imgCrc = th.imgCrc := by
  unfold Thread.loaded
  repeat' split
  all_goals simp

/-! ### Accesses -/

/-- The offset of a SCRATCH word's access, and its bytes. -/
abbrev State.scratchOffset (s : State) (g t : Nat) : Nat := effAddr (s.thread g t) (s.word g t)
abbrev State.scratchSize (s : State) (g t : Nat) : Nat := sizeBytes (wSize (s.word g t))

/-- An access is refused exactly where a byte lies outside scratch or the offset is misaligned (R80). -/
theorem scratchOk_false {o n : Nat} (h : 0x300000 < o + n ∨ ¬ (if n = 256 then 64 else n) ∣ o) : scratchOk o n = false := by
  rw [← Bool.not_eq_true]
  intro hk
  simp only [scratchOk, inScratch, Bool.and_eq_true, decide_eq_true_eq, beq_iff_eq] at hk
  obtain ⟨hin, hal⟩ := hk
  rcases h with h | h
  · omega
  · exact h (Nat.dvd_of_mod_eq_zero hal)

section
variable {s : State} {g : Fin 384} {t : Fin 32} (h : s.issues g t (fun w => wClass w == 2) (fun w => ⟨[dataKey w, wSrcA w], []⟩) = true)
include h

/-- A SCRATCH word that issues as a store issues as a load. -/
theorem scratch_issues_load : s.issues g t (fun w => wClass w == 2) (fun w => ⟨[wSrcA w], []⟩) = true :=
  State.issues_fewer h (fun w k hk => by simp at hk; simp [hk])

theorem scratch_awaits_data : s.awaits g t [dataKey (s.word g t)] = false := by
  have ha := State.issues_awaits h
  rw [show ([dataKey (s.word g t), wSrcA (s.word g t)] ++ [] : List Nat) = [dataKey (s.word g t)] ++ [wSrcA (s.word g t)] from rfl,
    State.awaits_append, Bool.or_eq_false_iff] at ha
  exact ha.1

/-- A load that is served without an error puts the bytes into its register (R83). -/
theorem exec_scratchLoad_clean (hok : scratchOk (s.scratchOffset g t) (s.scratchSize g t) = true) (signed : Bool) :
    exec (.scratchLoad g t (some signed) (.served .clean)) s =
      .next (s.setThread g t ((s.thread g t).loaded (dataKey (s.word g t)) signed (s.read (scratchLpa g (s.scratchOffset g t)) (s.scratchSize g t))).advance) := by
  have he : scratchLoadEffect g t signed (.served .clean) s (s.thread g t) (s.word g t) =
      s.setThread g t ((s.thread g t).loaded (dataKey (s.word g t)) signed (s.read (scratchLpa g (s.scratchOffset g t)) (s.scratchSize g t))).advance := by
    refine (if_neg (by simp [hok])).trans ?_
    dsimp only [State.scratchEcc]
    rw [State.overwrite_none _ _ _ _ (scratch_awaits_data h)]
  obtain ⟨hp, ha, hv, hx⟩ := (s.thread g t).loaded_keeps (dataKey (s.word g t)) signed (s.read (scratchLpa g (s.scratchOffset g t)) (s.scratchSize g t))
  exact State.issueInstr_replaces (scratch_issues_load h) he rfl (congrArg (· + 8) hp) ha hv hx

/-- A store that is served without an error stores the bytes of its register (R83). -/
theorem exec_scratchStore_clean (hok : scratchOk (s.scratchOffset g t) (s.scratchSize g t) = true) :
    exec (.scratchStore (g, t) (some (.served .clean))) s =
      .next ((s.store (scratchLpa g (s.scratchOffset g t)) (storeData (s.thread g t) (s.word g t))).setThread g t (s.thread g t).advance) := by
  have he : scratchStoreEffect g t (.served .clean) s (s.thread g t) (s.word g t) =
      (s.store (scratchLpa g (s.scratchOffset g t)) (storeData (s.thread g t) (s.word g t))).setThread g t (s.thread g t).advance := by
    refine (if_neg (by simp [hok])).trans ?_
    simp only [ite_self]
    rfl
  exact State.issueInstr_advances h he (State.store_cores ..)

/-- Whatever the bank and the check bits do, a store leaves every byte outside it. -/
theorem scratchStore_outside (hok : scratchOk (s.scratchOffset g t) (s.scratchSize g t) = true) (cycle : ScratchCycle) {a : Nat}
    (ha : a < scratchLpa g (s.scratchOffset g t) ∨ scratchLpa g (s.scratchOffset g t) + s.scratchSize g t ≤ a) :
    Ensures (.scratchStore (g, t) (some cycle)) s (fun u => u.byte a = s.byte a) := by
  intro u hu
  have hp : ThreadPart True g t (fun v : State => v.byte a) := .byte True g t a
  have hlen := storeData_length (s.thread g t) (s.word g t)
  have hin : s.scratchOffset g t + (storeData (s.thread g t) (s.word g t)).length ≤ 0x300000 := by
    simp only [scratchOk, inScratch, Bool.and_eq_true, decide_eq_true_eq] at hok
    rw [hlen]
    exact hok.1
  have hstore (v : State) : ((v.store (scratchLpa g (s.scratchOffset g t)) (storeData (s.thread g t) (s.word g t))).setThread g t (s.thread g t).advance).byte a
      = v.byte a := (hp.setThread _ _).trans (v.byte_store_scratch g.isLt _ hin a (by rw [hlen]; exact ha))
  have he : (scratchStoreEffect g t cycle s (s.thread g t) (s.word g t)).byte a = s.byte a := by
    refine State.ite_keeps (part := fun v : State => v.byte a) (hp.threadFault ..) ?_
    cases cycle with
    | lost => exact hp.lostBank _
    | served ecc => exact hp.scratchEcc _ _ _ _ hstore
  have hx := State.issueInstr_issues s g t _ (fun _ => false) _ (scratchStoreEffect g t cycle) h rfl
  cases hx.symm.trans hu
  exact (hp.checkPc _).trans he

/-- An access that loses its bank is counted, and the thread stays where it is (R81). -/
theorem scratch_checkPc_lost : (s.lostBank g).checkPc g t = s.lostBank g := by
  have hl : (s.lostBank g).thread g t = s.thread g t := by
    unfold State.thread State.lostBank
    rw [State.dadd_threads]
    rfl
  refine State.checkPc_stays (State.issues_room _ _ _ _ _ h) hl (Eq.trans ?_ (s.imageOf_stall g 0 t))
  exact State.imageOf_of _ _ _ _ (State.dadd_cores ..) (by rw [hl]; rfl) (by rw [hl]; rfl) (by rw [hl]; rfl)

theorem exec_scratch_lost (hok : scratchOk (s.scratchOffset g t) (s.scratchSize g t) = true) (signed : Bool) :
    exec (.scratchLoad g t (some signed) .lost) s = .next (s.lostBank g) ∧ exec (.scratchStore (g, t) (some .lost)) s = .next (s.lostBank g) := by
  have hl : scratchLoadEffect g t signed .lost s (s.thread g t) (s.word g t) = s.lostBank g := if_neg (by simp [hok])
  have hs : scratchStoreEffect g t .lost s (s.thread g t) (s.word g t) = s.lostBank g := if_neg (by simp [hok])
  have hc := scratch_checkPc_lost h
  exact ⟨State.issueInstr_effect (scratch_issues_load h) hl hc, State.issueInstr_effect h hs hc⟩

/-- An access outside scratch or misaligned is fault 0x32 of the thread (R80, R95). -/
theorem exec_scratch_faults (hok : scratchOk (s.scratchOffset g t) (s.scratchSize g t) = false) (signed : Bool) (cycle : ScratchCycle) :
    exec (.scratchLoad g t (some signed) cycle) s = .next (s.threadFault g t 0x32) ∧
      exec (.scratchStore (g, t) (some cycle)) s = .next (s.threadFault g t 0x32) :=
  ⟨State.issueInstr_faults (scratch_issues_load h) (if_pos (by simp [hok])), State.issueInstr_faults h (if_pos (by simp [hok]))⟩

end

/-- Settles O3, access by access. -/
theorem scratchAccess : Obligations.ScratchAccess := fun _ _ _ h hok =>
  ⟨fun signed => exec_scratchLoad_clean h hok signed, exec_scratchStore_clean h hok, fun cycle u hu _ ha => scratchStore_outside h hok cycle ha u hu,
    fun signed => exec_scratch_lost h hok signed⟩

/-- Settles O4: a refused access is the fault alone, and a fault changes no byte. -/
theorem scratchAddressFault : Obligations.ScratchAddressFault := by
  intro s g t h hbad signed cycle
  obtain ⟨hl, hs⟩ := exec_scratch_faults h (scratchOk_false hbad) signed cycle
  exact ⟨completes_of_next hl ⟨rfl, State.threadFault_mem ..⟩, completes_of_next hs ⟨rfl, State.threadFault_mem ..⟩⟩

end Sys2Proof.Machine
end

section
/-! SUPPORT. The parts of the state that issuing a request does not touch (R259, R268, R289, R334, R387): one lemma for each operation on a MEMORY access's way out, for every such part at once. -/

namespace Sys2Proof.Machine

/-- A part of the state that the caches and the numbers of requests do not belong to, nor what sending touches. -/
structure IssueFrame {β : Type} (part : State → β) : Prop extends SendFrame part where
  cache : ∀ (s : State) c, part { s with cache := c } = part s
  alm : ∀ (s : State) a, part { s with alm := a } = part s

theorem IssueFrame.threads : IssueFrame State.threads :=
  ⟨⟨⟨fun _ _ _ => rfl, fun _ _ => rfl⟩, fun _ _ => rfl, fun _ _ => rfl, fun _ _ => rfl, fun _ _ _ _ _ _ _ _ => rfl, fun _ _ _ => rfl, fun _ _ => rfl⟩,
    fun _ _ => rfl, fun _ _ => rfl⟩
theorem IssueFrame.cores : IssueFrame State.cores :=
  ⟨⟨⟨fun _ _ _ => rfl, fun _ _ => rfl⟩, fun _ _ => rfl, fun _ _ => rfl, fun _ _ => rfl, fun _ _ _ _ _ _ _ _ => rfl, fun _ _ _ => rfl, fun _ _ => rfl⟩,
    fun _ _ => rfl, fun _ _ => rfl⟩
theorem IssueFrame.reqs : IssueFrame (fun s => s.trans.reqs) := ⟨SendFrame.reqs, fun _ _ => rfl, fun _ _ => rfl⟩

namespace IssueFrame
section
variable {β : Type} {part : State → β} (h : IssueFrame part)
include h

theorem notePeak (s : State) (die : Nat) : part (s.notePeak die) = part s := State.ite_keeps (h.dict _ _) rfl

theorem eavesDrop (s : State) (die : Nat) (t : Target) : part (s.eavesDrop die t) = part s := by
  unfold State.eavesDrop
  split
  · exact h.cache _ _
  · rfl

theorem prefetchLine (s : State) (die lpa : Nat) : part (s.prefetchLine die lpa) = part s :=
  State.ite_keeps rfl (State.ite_keeps (h.dadd ..) ((h.notePeak ..).trans ((h.cache _ _).trans (h.dadd ..))))

theorem prefetchRun (die asid va : Nat) (stride : Int) (page : Option TlbEntry) (stop : Option Nat) (ns : List Nat) (s : State) :
    part (Machine.prefetchRun die asid va stride page stop ns s).1 = part s := by
  induction ns generalizing s with
  | nil => rfl
  | cons n rest ih =>
    unfold Machine.prefetchRun
    dsimp only
    split
    · rfl
    · split
      · refine (ih _).trans ?_
        split
        · exact h.prefetchLine ..
        · rfl
      · split
        · rfl
        · split
          · exact (ih _).trans (h.prefetchLine ..)
          · exact h.dadd ..

theorem train (s : State) (die reader asid va : Nat) : part (s.train die reader asid va) = part s := by
  have hrun (c : Prop) [Decidable c] (r : State × Option Nat) (stop : Option Nat) (hr : part r.1 = part s) : part (if c then r else (s, stop)).1 = part s := by
    split
    · exact hr
    · rfl
  unfold State.train
  dsimp only
  split
  · exact (h.cache _ _).trans (hrun _ _ _ (h.prefetchRun ..))
  · exact (h.cache _ _).trans (hrun _ _ _ (h.prefetchRun ..))

end
end IssueFrame

/-! ### What issuing a request does -/

/-- A read that misses the Eaves cache notes its fill (R259). -/
def State.noteFill (s : State) (r : Req) : State :=
  match s.globalLine r.target with
  | some g => if r.eaves then { s with cache := { s.cache with eavesFills := s.cache.eavesFills ++ [(⟨r.die, g, r.id, false⟩ : EavesFill)] } } else s
  | none => s

/-- The request takes its tracking entry (R289). -/
def State.track (s : State) (r : Req) : State := ({ s with trans := { s.trans with reqs := s.trans.reqs ++ [r] } } : State).notePeak r.die

/-- A remote request leaves for its rank (R334), one of the host by its port (R387). -/
def State.sendReq (s : State) (r : Req) : State :=
  match r.target with
  | .here _ => s
  | .remote rank a =>
    let odd := s.agentIter r.agent % 2 == 1
    match r.kind with
    | .load => s.send 0x10 rank 0 r.die odd ((r.span a).1 % 2 ^ 44) (reqExt (r.span a).2 r.id r.eaves r.irregular r.alloc) (reqKey a)
    | .store => s.send 0x11 rank 0 r.die odd (a % 2 ^ 44) (reqExt r.len r.id false r.irregular r.alloc ++ r.data) (reqKey a)
    | .add fmt => s.send 0x12 rank 0 r.die odd (a % 2 ^ 44 + fmt % 16 * 2 ^ 44) (reqExt r.len r.id false r.irregular r.alloc ++ r.data) (reqKey a)
  | .host p a =>
    if r.kind == .load then s.emit (.hostRead p a r.len r.id) else (s.emit (.hostWrite p a r.data)).emit (.hostRead p a 0 r.id)

/-- The Eaves line that answers a request, if it may look there and its bytes are valid (R259). -/
def State.eavesFor (s : State) (r : Req) (mayEaves : Bool) : Option EavesLine :=
  if r.kind == .load && mayEaves && s.running && s.foreign r.die r.target then
    (s.globalLine r.target).bind (fun g => s.eavesHit r.die g (sectorMask (match r.target with | .here a => a | .remote _ a => a | .host _ a => a) r.len))
  else none

/-- The state in which a write has dropped the own copy of its line (R261). -/
def State.beforeIssue (s : State) (r : Req) : State := if r.kind == .load then s.takeId.2 else s.takeId.2.eavesDrop r.die r.target

/-- The request with its number, as it leaves when no Eaves line answers it. -/
def State.issuedReq (s : State) (r : Req) (mayEaves : Bool) : Req :=
  { r with id := s.takeId.1, eaves := r.kind == .load && mayEaves && s.takeId.2.running && s.takeId.2.foreign r.die r.target }

/-- The request answered by an Eaves line. -/
def State.foundReq (s : State) (r : Req) (l : EavesLine) : Req :=
  { r with id := s.takeId.1, done := true, data := slice l.bytes ((match r.target with | .here a => a | .remote _ a => a | .host _ a => a) % 256) r.len }

/-- A request issued finds its bytes in the Eaves cache, or is tracked and sent. -/
theorem State.issue_eq (s : State) (r : Req) (mayEaves : Bool) : s.issue r mayEaves = match s.takeId.2.eavesFor r mayEaves with
    | some l => ((((s.beforeIssue r).dadd 0x3502 (r.die + 1) 1).eavesTouch l).track (s.foundReq r l), s.takeId.1)
    | none => ((((s.beforeIssue r).noteFill (s.issuedReq r mayEaves)).track (s.issuedReq r mayEaves)).sendReq (s.issuedReq r mayEaves), s.takeId.1) := by
  unfold State.issue State.eavesFor
  rfl

namespace IssueFrame
section
variable {β : Type} {part : State → β} (h : IssueFrame part)
include h

theorem beforeIssue (s : State) (r : Req) : part (s.beforeIssue r) = part s := State.ite_keeps (h.alm _ _) ((h.eavesDrop ..).trans (h.alm _ _))

theorem noteFill (s : State) (r : Req) : part (s.noteFill r) = part s := by
  unfold State.noteFill
  split
  · exact State.ite_keeps (h.cache _ _) rfl
  · rfl

theorem sendReq (s : State) (r : Req) : part (s.sendReq r) = part s := by
  unfold State.sendReq
  split
  · rfl
  · dsimp only
    split
    · exact h.send ..
    · exact h.send ..
    · exact h.send ..
  · exact State.ite_keeps (h.emit _ _) ((h.emit _ _).trans (h.emit _ _))

/-- A part that requests do not belong to either is kept when one is issued. -/
theorem issue (ht : ∀ (s : State) t, part { s with trans := t } = part s) (s : State) (r : Req) (mayEaves : Bool) : part (s.issue r mayEaves).1 = part s := by
  have htrack (v : State) (q : Req) : part (v.track q) = part v := (h.notePeak ..).trans (ht _ _)
  rw [State.issue_eq]
  split <;> dsimp only
  · exact (htrack _ _).trans ((h.cache _ _).trans ((h.dadd ..).trans (h.beforeIssue ..)))
  · exact (h.sendReq ..).trans ((htrack _ _).trans ((h.noteFill ..).trans (h.beforeIssue ..)))

theorem issueParts (ht : ∀ (s : State) t, part { s with trans := t } = part s) (s : State) (g t : Nat) (th : Thread) (kind : ReqKind) (key : Nat)
    (signed : Bool) (total : Nat) (data : Bytes) (base : Nat) (ps : List (Nat × Nat × Target × Nat)) :
    part (s.issueParts g t th kind key signed total data base ps) = part s := by
  induction ps generalizing s with
  | nil => rfl
  | cons p rest ih => exact (ih _).trans (h.issue ht ..)

end
end IssueFrame

/-- A request issued is one more request. -/
theorem State.issue_length (s : State) (r : Req) (mayEaves : Bool) : (s.issue r mayEaves).1.trans.reqs.length = s.trans.reqs.length + 1 := by
  have h := IssueFrame.reqs
  have htrack (v : State) (q : Req) : (v.track q).trans.reqs = v.trans.reqs ++ [q] := h.notePeak ..
  have hone {v : State} (hr : v.trans.reqs = s.trans.reqs) (q : Req) : (v.track q).trans.reqs.length = s.trans.reqs.length + 1 := by
    rw [htrack, List.length_append, List.length_singleton, hr]
  rw [State.issue_eq]
  split <;> dsimp only
  · exact hone ((h.cache _ _).trans ((h.dadd ..).trans (h.beforeIssue ..))) _
  · exact (congrArg List.length (h.sendReq ..)).trans (hone ((h.noteFill ..).trans (h.beforeIssue ..)) _)

/-- An access issues one request for each of its parts. -/
theorem State.issueParts_length (s : State) (g t : Nat) (th : Thread) (kind : ReqKind) (key : Nat) (signed : Bool) (total : Nat) (data : Bytes) (base : Nat)
    (ps : List (Nat × Nat × Target × Nat)) :
    (s.issueParts g t th kind key signed total data base ps).trans.reqs.length = s.trans.reqs.length + ps.length := by
  induction ps generalizing s with
  | nil => rfl
  | cons p rest ih =>
    rw [State.issueParts, ih, State.issue_length, List.length_cons, Nat.add_assoc, Nat.add_comm 1]

end Sys2Proof.Machine
end

section
/-! SUPPORT. Waiting, ending, MEMORY accesses and their responses (R87, R89, R92, R94, R98, R275, R501). -/

namespace Sys2Proof.Machine

/-! ### BARRIER, END and FENCE -/

/-- A thread that issues has a legal word. -/
theorem State.issues_legal {s : State} {g t : Nat} {mine : Nat → Bool} {regs : Nat → Regs} (h : s.issues g t mine regs = true) : wordLegal (s.word g t) = true := by
  simp only [State.issues, Bool.and_eq_true] at h
  obtain ⟨⟨⟨⟨⟨⟨-, hlegal⟩, -⟩, -⟩, -⟩, -⟩, -⟩ := h
  exact hlegal

/-- A legal BARRIER names one of eight barriers (R87). -/
theorem barrier_counter_lt {w : Nat} (hl : wordLegal w = true) (hm : isOp 9 4 w = true) : wCounter w < 8 := by
  simp only [isOp, Bool.and_eq_true, beq_iff_eq] at hm
  obtain ⟨hc, ho⟩ := hm
  simpa [wordLegal, hc, ho] using hl

/-- The thread as it arrives at a barrier. -/
def Thread.arrives (th : Thread) (b : Nat) : Thread := { th with atBarrier := true, barriers := tadd th.barriers b 1 }
/-- The thread as it goes on from a barrier. -/
def Thread.leaves (th : Thread) : Thread := { th.advance with atBarrier := false }

/-- A barrier at which every other thread of the launch has arrived as often, or ended, is met (R87). -/
theorem State.barrierMet_of {s : State} {g t launch b n : Nat}
    (h : ∀ u : Fin 32, u.val ≠ t → (s.thread g u).launch = launch →
      (s.thread g u).status = .running ∨ (s.thread g u).status = .parked ∨ (s.thread g u).status = .stopped → n ≤ tget 0 (s.thread g u).barriers b) :
    s.barrierMet g t launch b n = true := by
  simp only [State.barrierMet, List.all_eq_true, List.mem_range, Bool.or_eq_true, beq_iff_eq, bne_iff_ne, ne_eq, decide_eq_true_eq]
  intro u hu
  by_cases hut : u = t
  · simp [hut]
  by_cases hl : (s.thread g u).launch = launch
  · have hx := h ⟨u, hu⟩ hut hl
    cases hs : (s.thread g u).status with
    | idle | ended => simp
    | running | parked | stopped => exact .inr (hx (by simp [hs]))
  · simp [hl]

theorem barrier_completes {s : State} {g : Fin 384} {t : Fin 32} (h : s.issues g t (isOp 9 4) (fun _ => ⟨[], []⟩) = true) (ho : s.storesOpen g t = false)
    (ha : (s.thread g t).atBarrier = false)
    (hu : ∀ u : Fin 32, u ≠ t → (s.thread g u).launch = (s.thread g t).launch →
      (s.thread g u).status = .running ∨ (s.thread g u).status = .parked ∨ (s.thread g u).status = .stopped →
      tget 0 (s.thread g t).barriers (wCounter (s.word g t)) + 1 ≤ tget 0 (s.thread g u).barriers (wCounter (s.word g t))) :
    Completes (.barrier g t) s (fun u => (u.thread g t).pc = (s.thread g t).pc + 8 ∧ (u.thread g t).atBarrier = false ∧
      tget 0 (u.thread g t).barriers (wCounter (s.word g t)) = tget 0 (s.thread g t).barriers (wCounter (s.word g t)) + 1) := by
  have hb : wCounter (s.word g t) % 8 = wCounter (s.word g t) := Nat.mod_eq_of_lt (barrier_counter_lt (State.issues_legal h) (State.issues_mine _ _ _ _ _ h))
  have hcount : tget 0 ((s.thread g t).arrives (wCounter (s.word g t))).barriers (wCounter (s.word g t)) =
      tget 0 (s.thread g t).barriers (wCounter (s.word g t)) + 1 := tget_tset_same _ _ _ _
  have hmet : (s.setThread g t ((s.thread g t).arrives (wCounter (s.word g t)))).barrierMet g t (s.thread g t).launch (wCounter (s.word g t))
      (tget 0 (s.thread g t).barriers (wCounter (s.word g t)) + 1) = true := by
    refine State.barrierMet_of (fun u hut => ?_)
    rw [State.thread_setThread_other _ _ _ _ _ _ (threadKey_ne t.isLt u.isLt (.inr hut))]
    exact hu u (fun e => hut (congrArg Fin.val e))
  have he : barrierEffect g t s (s.thread g t) (s.word g t) =
      (s.setThread g t ((s.thread g t).arrives (wCounter (s.word g t)))).setThread g t ((s.thread g t).arrives (wCounter (s.word g t))).leaves := by
    refine (if_neg (by simp [ho])).trans ?_
    dsimp only
    rw [ha, if_neg Bool.false_ne_true, hb]
    refine if_pos ?_
    rw [← hcount] at hmet
    exact hmet
  refine completes_of_next ((exec_barrier g t s).trans (State.issueInstr_replaces h he rfl rfl rfl rfl rfl)) ?_
  simp only [State.thread_setThread]
  exact ⟨rfl, rfl, hcount⟩

theorem endThread_completes {s : State} {g : Fin 384} {t : Fin 32} (h : s.issues g t (isOp 11 1) (fun _ => ⟨[], []⟩) = true) (ho : s.storesOpen g t = false)
    (hm : ∀ m ∈ (s.core g).matrix, m.thread ≠ t.val) : Completes (.endThread g t) s (fun u => (u.thread g t).status = .ended ∧ u.mem = s.mem) := by
  have hmat : (s.core g).matrix.any (fun m => m.thread == t) = false := by
    simpa only [List.any_eq_false, beq_iff_eq] using hm
  have he : endEffect g t s (s.thread g t) (s.word g t) = s.endThread g t false := if_neg (by simp [ho, hmat])
  have hend := s.endThread_ended g t false
  exact completes_of_next ((exec_endThread g t s).trans (State.issueInstr_effect h he (State.checkPc_ended hend))) ⟨hend, State.endThread_mem ..⟩

theorem exec_fence_next {s : State} {g : Fin 384} {t : Fin 32} (h : s.issues g t (isOp 11 2) (fun _ => ⟨[], []⟩) = true)
    (ho : wCounter (s.word g t) = 1 → s.storesOpen g t = false) : exec (.fence g t) s = .next (s.setThread g t (s.thread g t).advance) :=
  (exec_fence g t s).trans (State.issueInstr_advances h (if_neg (fun hw => by simp [ho hw.1] at hw)) rfl)

/-! ### MEMORY -/

/-- The parts of the access that the thread's word makes (R501). -/
abbrev State.memoryParts (s : State) (g t : Nat) : List (Nat × Nat) := accessParts (effAddr (s.thread g t) (s.word g t)) (sizeBytes (wSize (s.word g t)))

/-- The state in which every part of an access is issued; a load takes its register from earlier ones (R77). -/
def State.partsIssued (s : State) (g t : Nat) (kind : ReqKind) (signed : Bool) (l : List (Nat × Nat × Target × Nat)) : State :=
  let th := s.thread g t
  let w := s.word g t
  (if kind == .load then s.overwrite g t [dataKey w] else s).issueParts g t th kind (dataKey w) signed (sizeBytes (wSize w))
    (if kind == .load then [] else storeData th w) (effAddr th w) l

/-- The state in which a load of a worker thread has trained the prefetcher too (R268). -/
def State.accessIssued (s : State) (g t : Nat) (kind : ReqKind) (signed : Bool) (l : List (Nat × Nat × Target × Nat)) : State :=
  let v := s.partsIssued g t kind signed l
  if kind == .load && decide (4 ≤ t) then v.train (coreDie g) g (s.thread g t).asid (effAddr (s.thread g t) (s.word g t)) else v

section
variable (s : State) (g t : Nat) (kind : ReqKind) (signed : Bool) (l : List (Nat × Nat × Target × Nat))

theorem State.accessIssued_keeps {β : Type} {part : State → β} (h : IssueFrame part) (ht : ∀ (s : State) t, part { s with trans := t } = part s) :
    part (s.accessIssued g t kind signed l) = part s := by
  have hp : part (s.partsIssued g t kind signed l) = part s := (h.issueParts ht ..).trans (State.ite_keeps (ht _ _) rfl)
  exact State.ite_keeps ((h.train ..).trans hp) hp

theorem State.partsIssued_length : (s.partsIssued g t kind signed l).trans.reqs.length = s.trans.reqs.length + l.length := by
  have ho : (s.overwrite g t [dataKey (s.word g t)]).trans.reqs.length = s.trans.reqs.length := List.length_map _
  rw [State.partsIssued, State.issueParts_length]
  exact congrArg (· + l.length) (State.ite_keeps (part := fun v : State => v.trans.reqs.length) ho rfl)

theorem State.accessIssued_length : (s.accessIssued g t kind signed l).trans.reqs.length = s.trans.reqs.length + l.length := by
  have hp := s.partsIssued_length g t kind signed l
  unfold State.accessIssued
  dsimp only
  split
  · exact (congrArg List.length (IssueFrame.reqs.train ..)).trans hp
  · exact hp

end

/-- An access whose parts translate, with load limits and tracking entries free, issues them all (R98, R289, R501). -/
theorem memoryEffect_issues {s : State} {g t : Nat} {kind : ReqKind} {signed : Bool} {l : List (Nat × Nat × Target × Nat)}
    (hl : s.lookupParts g (s.thread g t) (if kind == .load then 0 else 1) (s.memoryParts g t) = .ok l)
    (hlim : kind = .load → s.loadsOf (fun h u => h == g && u == t) < 16 ∧ s.loadsOf (fun h _ => h == g) < 256)
    (hk : s.canTrack (.thread g t) (coreDie g) (s.memoryParts g t).length = true) :
    memoryEffect g t kind signed s (s.thread g t) (s.word g t) = (s.accessIssued g t kind signed l).next g t := by
  have hfree : ((kind == .load && (decide (16 ≤ s.loadsOf (fun h u => h == g && u == t)) || decide (256 ≤ s.loadsOf (fun h _ => h == g)))) ||
      !s.canTrack (.thread g t) (coreDie g) (s.memoryParts g t).length) = false := by
    by_cases hkind : kind = .load
    · obtain ⟨h16, h256⟩ := hlim hkind
      simp [hk, h16, h256]
    · simp [hk, hkind]
  unfold memoryEffect
  dsimp only
  rw [hl]
  dsimp only
  rw [hfree]
  exact if_neg Bool.false_ne_true

/-- The instruction goes on, with one request more for each part. -/
theorem memory_completes {s : State} {g : Fin 384} {t : Fin 32} {c : Instr} {kind : ReqKind} {signed : Bool} {regs : Nat → Regs} {l : List (Nat × Nat × Target × Nat)}
    (hx : exec c s = s.issueInstr g t (fun w => wClass w == 3) (fun _ => false) regs (memoryEffect g t kind signed))
    (h : s.issues g t (fun w => wClass w == 3) regs = true)
    (hl : s.lookupParts g (s.thread g t) (if kind == .load then 0 else 1) (s.memoryParts g t) = .ok l)
    (hlim : kind = .load → s.loadsOf (fun h u => h == g.val && u == t.val) < 16 ∧ s.loadsOf (fun h _ => h == g.val) < 256)
    (hk : s.canTrack (.thread g t) (coreDie g) (s.memoryParts g t).length = true) :
    Completes c s (fun u => (u.thread g t).pc = (s.thread g t).pc + 8 ∧ u.trans.reqs.length = s.trans.reqs.length + l.length) := by
  have hth : (s.accessIssued g t kind signed l).threads = s.threads := s.accessIssued_keeps g t kind signed l .threads (fun _ _ => rfl)
  have hco : (s.accessIssued g t kind signed l).cores = s.cores := s.accessIssued_keeps g t kind signed l .cores (fun _ _ => rfl)
  have he : memoryEffect g t kind signed s (s.thread g t) (s.word g t) = (s.accessIssued g t kind signed l).setThread g t (s.thread g t).advance := by
    rw [memoryEffect_issues hl hlim hk, State.next, State.thread, hth]
    rfl
  refine completes_of_next (hx.trans (State.issueInstr_advances h he hco)) ⟨?_, s.accessIssued_length g t kind signed l⟩
  simp only [State.thread_setThread, Thread.advance_pc]

/-! ### Images and responses -/

theorem exec_imageFetch_arrived {s : State} {g : Fin 384} {launch : Nat} {a : Action} (ha : s.action launch = some a) (hv : s.alive = true)
    (hp : s.trans.preempt = .running) (hh : s.alm.state ≠ .halted) (hf : launch ∈ (s.core g).fetches) :
    exec (.imageFetchDone g (.arrived launch)) s = .next (s.imageArrives a g) := by
  simp [execImageFetchDone, ha, hv, hp, bne_iff_ne.mpr hh, hf]

theorem exec_imageFetch_parity {s : State} {g : Fin 384} {launch : Nat} {a : Action} (ha : s.action launch = some a) (hv : s.alive = true)
    (hp : s.trans.preempt = .running) (hh : s.alm.state ≠ .halted) (hi : (s.core g).images.any (fun i => decide (launch ∈ i.pinned)) = true) :
    exec (.imageFetchDone g (.parity launch)) s = .next (s.imageParity a g) := by
  simp [execImageFetchDone, ha, hv, hp, bne_iff_ne.mpr hh, hi]

/-- Bytes put over as many, from the first, are all that is left. -/
theorem patch_whole {old new : Bytes} (h : old.length = new.length) : patch old 0 new = new := by
  rw [patch, List.take_zero, List.nil_append, Nat.sub_zero, Nat.zero_add, h, List.take_length, List.drop_eq_nil_of_le (by omega), List.append_nil]

section
variable {s : State} {g : Fin 384} {t : Fin 32} {req : Nat} {r : Req} (hr : s.req req = some r)
include hr

theorem State.req_id : r.id = req := by simpa using List.find?_some hr

/-- A response to a thread reaches it in its turn. -/
theorem exec_memoryResponse_thread (ha : r.answered = true) (hn : r.next = none) (ht : r.done = true ∨ s.inTurn r = true) (hg : r.agent = .thread g t) :
    exec (.memoryResponse req) s = .next (s.respond r) := by
  have hroom : s.nextRoom r = true := by simp [State.nextRoom, hn]
  have hturn : (r.done || s.inTurn r) = true := by simpa using ht
  simp [execMemoryResponse, hr, ha, hroom, hg, hturn]

/-- The answer to a request that is done, and not poisoned, frees it; that of a load brings the bytes. -/
theorem State.respond_done (hd : r.done = true) (hg : r.agent = .thread g t) : s.respond r = s.threadResponse r g t := by
  have hs : (if r.done = true then s else s.perform r) = s := if_pos hd
  unfold State.respond
  rw [hs, State.req_id hr]
  dsimp only
  rw [hr]
  dsimp only
  rw [hg]

/-- The answer to a store leaves the state without the request. -/
theorem State.threadResponse_store (hp : r.poison = none) (hk : r.kind ≠ .load) : s.threadResponse r g t = s.dropReq req := by
  unfold State.threadResponse
  rw [State.req_id hr, hp]
  exact if_pos (.inl hk)

/-- The last part of a load, whole from its first byte, extends to its register. -/
theorem State.threadResponse_load (hp : r.poison = none) (hk : r.kind = .load) (hreg : r.reg < 32) (hoff : r.off = 0) (hlen : r.data.length = r.desc)
    (hlast : ∀ q ∈ s.trans.reqs, q.id ≠ req → q.agent = .thread g t → q.kind = .load → q.reg ≠ r.reg) :
    s.threadResponse r g t = (s.dropReq req).setThread g t ((s.thread g t).setS r.reg (loadValue r.signed r.data)) := by
  have hmore : ((s.dropReq req).requestsOf g t).any (fun q => q.kind == .load && q.reg == r.reg) = false := by
    simp only [State.requestsOf, State.dropReq, List.any_eq_false, List.mem_filter, beq_iff_eq, bne_iff_ne, Bool.and_eq_true, not_and, and_imp]
    exact fun q hq hid hag hld => hlast q hq hid hag hld
  have hbytes (old : Bytes) : patch (slice old 0 r.desc) r.off r.data = r.data := by
    rw [hoff, patch_whole ((slice_length ..).trans hlen.symm)]
  unfold State.threadResponse
  rw [State.req_id hr, hp]
  dsimp only
  rw [if_neg (by simp [hk]; omega), hmore, hbytes, Bool.not_false, Bool.and_true, Thread.loaded, if_neg (by omega)]
  rfl

end

/-- Settles O6, wait by wait. -/
theorem threadWaitsEnd : Obligations.ThreadWaitsEnd := by
  intro s g t
  refine ⟨fun h ho ha hu => barrier_completes h ho ha hu, fun h ho hm => endThread_completes h ho hm, fun h ho => exec_fence_next h ho,
    fun h l signed hl h16 h256 hk => memory_completes (exec_memoryLoad g t (some signed) s) h hl (fun _ => ⟨h16, h256⟩) hk,
    fun h l hl hk => memory_completes (exec_memoryStore (g, t) false s) h hl (fun e => nomatch e) hk,
    fun launch a ha hv hp hh hf => exec_imageFetch_arrived ha hv hp hh hf, fun launch a ha hv hp hh hi => exec_imageFetch_parity ha hv hp hh hi, ?_⟩
  intro req r hr ha hn hturn hg
  have hx := exec_memoryResponse_thread hr ha hn hturn hg
  refine ⟨hx, fun hd hp hk => completes_of_next hx ?_, fun hd hp hk hreg hoff hlen hlast => completes_of_next hx ?_⟩
  · rw [State.respond_done hr hd hg, State.threadResponse_store hr hp hk]
    exact ⟨rfl, rfl, fun q hq => by simpa using (List.mem_filter.mp hq).2⟩
  · rw [State.respond_done hr hd hg, State.threadResponse_load hr hp hk hreg hoff hlen hlast]
    exact ⟨State.thread_setThread .., rfl, fun g' t' hlt hne => State.thread_setThread_other _ _ _ _ _ _ (threadKey_ne t.isLt hlt.2 hne)⟩

end Sys2Proof.Machine
end

section
/-! SUPPORT. The vector engine's arithmetic (R114, R185 to R190): an instruction that writes VD and goes on, the register that lane results make, and each result rounded once to the lane type. -/

namespace Sys2Proof.Machine

/-! ### Instructions that write VD -/

/-- The command completes with the value in VD of the thread, which goes on to the next instruction; memory and every other thread are as they were. -/
def PutsVd (c : Instr) (s : State) (g t x : Nat) : Prop :=
  Completes c s (fun u => u.thread g t = ((s.thread g t).setV (wVd (s.word g t)) x).advance ∧ u.mem = s.mem ∧ OtherThreads g t s u)

theorem State.thread_of_threads {s u : State} (h : u.threads = s.threads) (g t : Nat) : u.thread g t = s.thread g t := by simp only [State.thread, h]

theorem State.invalidLanes_threads (s : State) (g n : Nat) : (s.invalidLanes g n).threads = s.threads := State.ite_keeps rfl (State.dadd_threads ..)
theorem State.invalidLanes_cores (s : State) (g n : Nat) : (s.invalidLanes g n).cores = s.cores := State.ite_keeps rfl (State.dadd_cores ..)

section
variable {c : Instr} {s v : State} {g : Fin 384} {t : Fin 32} {cls op : Nat} {regs : Nat → Regs} {effect : State → Thread → Nat → State}

/-- Beside its effect a vector instruction only counts its issue cycle (R186). -/
theorem vector_putVd {x : Nat} (hx : exec c s = s.vector g t cls op regs effect) (h : s.issues g t (isOp cls op) regs = true)
    (he : effect s (s.thread g t) (s.word g t) = v.putVd g t (s.thread g t) (s.word g t) x)
    (hc : v.cores = s.cores) (ht : v.threads = s.threads) (hm : v.mem = s.mem) : PutsVd c s g t x := by
  have hv : s.vector g t cls op regs effect = .next ((v.putVd g t (s.thread g t) (s.word g t) x).dadd 0x3003 (coreDie g + 1) 1) :=
    State.issueInstr_effect h (congrArg (State.dadd · 0x3003 (coreDie g + 1) 1) he)
      (State.checkPc_setThread_dadd s v g t _ _ _ _ (State.issues_room _ _ _ _ _ h) hc rfl rfl rfl rfl)
  refine completes_of_next (hx.trans hv) ⟨?_, ?_, fun g' t' hlt hne => ?_⟩
  · exact (State.thread_of_threads (State.dadd_threads ..) g t).trans (State.thread_setThread ..)
  · exact (State.dadd_mem ..).trans ((State.putVd_mem ..).trans hm)
  · calc State.thread _ g' t' = (v.putVd g t (s.thread g t) (s.word g t) x).thread g' t' := State.thread_of_threads (State.dadd_threads ..) g' t'
      _ = v.thread g' t' := State.thread_setThread_other _ _ _ _ _ _ (threadKey_ne t.isLt hlt.2 hne)
      _ = s.thread g' t' := State.thread_of_threads ht g' t'

/-- Result lanes are written to VD; the count of invalid ones is no part of a thread, a core or memory. -/
theorem vector_putLanes {ls : List (Nat × Bool)} (hx : exec c s = s.vector g t cls op regs effect) (h : s.issues g t (isOp cls op) regs = true)
    (he : effect s (s.thread g t) (s.word g t) = s.putLanes g t (s.thread g t) (s.word g t) ls) :
    PutsVd c s g t (packLanes (wType (s.word g t)) (ls.map Prod.fst)) :=
  vector_putVd hx h he (State.invalidLanes_cores ..) (State.invalidLanes_threads ..) (State.invalidLanes_mem ..)

/-- A two-operand operation writes, in each lane, the lane function's result. -/
theorem vector_binary {lane : Nat → Nat → Nat → Nat × Bool} {f : Nat → Nat → Nat} (hx : exec c s = s.vector g t cls op regs effect)
    (h : s.issues g t (isOp cls op) regs = true)
    (he : effect s (s.thread g t) (s.word g t) = binaryEffect g t lane s (s.thread g t) (s.word g t))
    (hf : ∀ x y, (lane (wType (s.word g t)) x y).1 = f x y) :
    PutsVd c s g t (lanes2 (wType (s.word g t)) f ((s.thread g t).v (wVa (s.word g t))) ((s.thread g t).v (wVb (s.word g t)))) := by
  obtain rfl : (fun x y => (lane (wType (s.word g t)) x y).1) = f := funext fun x => funext (hf x)
  rw [lanes2, ← List.map_zipWith]
  exact vector_putLanes hx h he

/-- A one-operand operation writes, in each lane, the lane function's result. -/
theorem vector_unary {lane : Nat → Nat → Nat × Bool} {f : Nat → Nat} (hx : exec c s = s.vector g t cls op regs (unaryEffect g t lane))
    (h : s.issues g t (isOp cls op) regs = true) (hf : ∀ x, (lane (wType (s.word g t)) x).1 = f x) :
    PutsVd c s g t (lanes1 (wType (s.word g t)) f ((s.thread g t).v (wVa (s.word g t)))) := by
  obtain rfl : (fun x => (lane (wType (s.word g t)) x).1) = f := funext hf
  rw [lanes1, ← Function.comp_def, ← List.map_map]
  exact vector_putLanes hx h rfl

end

/-! ### Lanes that are not INT32 -/

/-- One lane of two operands: the exact result of the two values, rounded once. -/
theorem lane2_fst {ty : Nat} (hty : ty ≠ 11) (f : Val → Val → Val) (i : Int → Int → Int) (x y : Nat) :
    (lane2 ty f i x y).1 = encodeLane ty .rne 0 (f (decodeLane ty x) (decodeLane ty y)) := by
  rw [lane2, if_neg hty]
  rfl

/-- One lane of one operand: the exact result of the value, rounded once. -/
theorem lane1_fst {ty : Nat} (hty : ty ≠ 11) (f : Val → Val) (i : Int → Int) (x : Nat) :
    (lane1 ty f i x).1 = encodeLane ty .rne 0 (f (decodeLane ty x)) := by
  rw [lane1, if_neg hty]
  rfl

/-- Without MOD[0], VMAX takes the larger of the values themselves (R188). -/
theorem vmaxEffect_plain {w : Nat} (hw : wMod w = 0) (g t : Nat) (s : State) (th : Thread) :
    vmaxEffect g t s th w = binaryEffect g t (fun ty => lane2 ty valMax max) s th w := by
  have hn : ¬ wMod w = 1 := by omega
  simp only [vmaxEffect, if_neg hn]

/-- Settles O8, operation by operation. -/
theorem vectorArithmeticLanes : Obligations.VectorArithmeticLanes := by
  intro g t s hty
  refine ⟨fun c op f hc h => ?_, fun h hw => ?_, fun h => ?_, fun c op f hc h => ?_, fun h => ?_⟩
  · simp only [List.mem_cons, Prod.mk.injEq, List.not_mem_nil, or_false] at hc
    obtain ⟨rfl, rfl, rfl⟩ | ⟨rfl, rfl, rfl⟩ | ⟨rfl, rfl, rfl⟩ | ⟨rfl, rfl, rfl⟩ := hc
    · exact vector_binary (exec_vadd g t s) h rfl (lane2_fst hty _ _)
    · exact vector_binary (exec_vsub g t s) h rfl (lane2_fst hty _ _)
    · exact vector_binary (exec_vmul g t s) h rfl (lane2_fst hty _ _)
    · exact vector_binary (exec_vmin g t s) h rfl (lane2_fst hty _ _)
  · exact vector_binary (exec_vmax g t s) h (vmaxEffect_plain hw ..) (lane2_fst hty _ _)
  · exact vector_binary (exec_vcmp g t s) h rfl (fun _ _ => rfl)
  · simp only [List.mem_cons, Prod.mk.injEq, List.not_mem_nil, or_false] at hc
    obtain ⟨rfl, rfl, rfl⟩ | ⟨rfl, rfl, rfl⟩ := hc
    · exact vector_unary (exec_vabs g t s) h (lane1_fst hty _ _)
    · exact vector_unary (exec_vneg g t s) h (lane1_fst hty _ _)
  · have hp := vector_putLanes (exec_vfma g t s) h rfl
    rw [List.map_zipWith] at hp
    exact hp

end Sys2Proof.Machine
end

section
/-! SUPPORT. Parity of the matrix arrays (R152, R154, R155): the error sums of a K-block are the weighted sums of what disturbed its columns, and the location that they name. -/

namespace Sys2Proof.Machine

/-! ### Sums over columns and positions -/

theorem foldl_range_add_if (p : Nat → Bool) (f : Nat → Int) (n : Nat) :
    (List.range n).foldl (fun a c => if p c then a + f c else a) 0 = ∑ c ∈ Finset.range n, if p c then f c else 0 := by
  induction n with
  | zero => rfl
  | succ n ih =>
    rw [List.range_succ, List.foldl_append, ih, Finset.sum_range_succ, List.foldl_cons, List.foldl_nil]
    split <;> simp

@[simp] theorem nth_nil (k : Nat) : nth [] k = 0 := rfl

theorem nth_map_range (f : Nat → Int) {n k : Nat} (h : k < n) : nth ((List.range n).map f) k = f k := by simp [nth, h]

/-- A sum of products runs over positions; beyond the lists they are zero. -/
theorem dot_eq_sum (a w : List Int) (n : Nat) (h : w.length ≤ n) : dot a w = ∑ k ∈ Finset.range n, nth a k * nth w k := by
  induction w generalizing a n with
  | nil => simp [dot]
  | cons y w ih =>
    obtain ⟨n, rfl⟩ : ∃ m, n = m + 1 := ⟨n - 1, by simp at h; omega⟩
    cases a with
    | nil => simp [dot]
    | cons x a =>
      rw [Finset.sum_range_succ', add_comm]
      exact congrArg (x * y + ·) (ih a n (by simpa using h))

/-- Of rows of one length, joined, a row is read back at its place. -/
theorem take_drop_flatten {α : Type} {n : Nat} (l : List (List α)) (h : ∀ r ∈ l, r.length = n) {b : Nat} (hb : b < l.length) :
    (l.flatten.drop (b * n)).take n = l[b] := by
  induction l generalizing b with
  | nil => simp at hb
  | cons r l ih =>
    have hr : r.length = n := h r List.mem_cons_self
    cases b with
    | zero => simp [← hr]
    | succ b =>
      have hd : (b + 1) * n = r.length + b * n := by rw [hr]; ring
      rw [List.flatten_cons, hd, List.drop_length_add_append, List.getElem_cons_succ]
      exact ih (fun r hr => h r (List.mem_cons_of_mem _ hr)) (by simpa using hb)

/-- The mask of a list of flags, as a loaded set holds its coverage. -/
def flagMask (l : List Bool) : Nat := l.zipIdx.foldl (fun m p => if p.1 then m + 2 ^ p.2 else m) 0

theorem flagMask_append (l : List Bool) (v : Bool) : flagMask (l ++ [v]) = if v then flagMask l + 2 ^ l.length else flagMask l := by
  simp [flagMask, List.zipIdx_append]

theorem flagMask_lt (l : List Bool) : flagMask l < 2 ^ l.length := by
  induction l using List.reverseRecOn with
  | nil => simp [flagMask]
  | append_singleton l v ih =>
    rw [flagMask_append, List.length_append, List.length_singleton, pow_succ]
    split <;> omega

theorem testBit_flagMask (l : List Bool) (c : Nat) : (flagMask l).testBit c = l.getD c false := by
  induction l using List.reverseRecOn with
  | nil => simp [flagMask]
  | append_singleton l v ih =>
    have hadd : flagMask l + 2 ^ l.length = 2 ^ l.length ||| flagMask l := by
      rw [add_comm, ← mul_one (2 ^ l.length), Nat.two_pow_add_eq_or_of_lt (flagMask_lt l)]
    have hv : (flagMask (l ++ [v])).testBit c = (decide (l.length = c) && v || l.getD c false) := by
      rw [flagMask_append]
      cases v <;> simp [hadd, ih, Nat.testBit_two_pow]
    rw [hv]
    rcases lt_trichotomy c l.length with hc | rfl | hc
    · simp [List.getElem?_append_left hc, hc.ne']
    · simp
    · simp [List.getElem?_append_right hc.le, hc.ne, List.getElem?_eq_none hc.le, Nat.sub_ne_zero_of_lt hc]

/-! ### The loaded parity columns (R152) -/

namespace WeightSet

/-- Positions of a K-block. -/
def blockLen (x : WeightSet) : Nat := if isMxType x.elemType then blockSize x.block16 else x.k

/-- Xmax of a K-block; an integer type has none. -/
def xmaxAt (x : WeightSet) (b : Nat) : Nat := if isMxType x.elemType then x.xmaxOf b else 0

/-- The parity weight with which column c counts in K-block b: none when it is not covered. -/
def share (x : WeightSet) (b c : Nat) : Int := if x.covers c b (x.xmaxAt b) then x.weight c b (x.xmaxAt b) else 0

/-- The column whose K-blocks hold the weighted sums of the data columns, column c counted f c times. -/
def parityColumn (x : WeightSet) (f : Nat → Int) : List Int :=
  ((List.range x.blocks).map (fun b => (List.range x.blockLen).map (fun k => ∑ c ∈ Finset.range 128, f c * nth (x.ints c b) k * x.share b c))).flatten

theorem share_pos {x : WeightSet} {b c : Nat} (h : x.covers c b (x.xmaxAt b) = true) : 0 < x.share b c := by
  rw [share, if_pos h, weight]
  split <;> positivity

theorem ints_length_le (x : WeightSet) (c b : Nat) : (x.ints c b).length ≤ x.blockLen :=
  (List.length_map _).trans_le (List.length_take_le _ _)

theorem ints_beyond {x : WeightSet} {c : Nat} (h : x.elems.length ≤ c) (b : Nat) : x.ints c b = [] := by
  rw [ints, List.getD_eq_default _ _ h]
  simp

/-- The model's sums over the covered columns. -/
theorem foldl_share (x : WeightSet) {b n xm : Nat} {p : Nat → Bool} (g : Nat → Int) (hp : ∀ c < n, p c = x.covers c b (x.xmaxAt b))
    (hx : xm = x.xmaxAt b) :
    (List.range n).foldl (fun a c => if p c then a + g c * x.weight c b xm else a) 0 = ∑ c ∈ Finset.range n, g c * x.share b c := by
  rw [foldl_range_add_if, hx]
  refine Finset.sum_congr rfl fun c hc => ?_
  rw [hp c (Finset.mem_range.mp hc), share, mul_ite, mul_zero]

section
variable {x : WeightSet} {b : Nat} (hb : b < x.blocks)
include hb

theorem xmax_withParity : x.withParity.xmax.getD b 0 = x.xmaxAt b := by simp [withParity, xmaxAt, hb]

theorem covered_withParity {c : Nat} (hc : c < 128) : (x.withParity.covered.getD b 0).getLsbD c = x.covers c b (x.xmaxAt b) := by
  have hm : x.withParity.covered = (List.range x.blocks).map (fun b => BitVec.ofNat 128 (flagMask
      ((List.range 128).map (fun c => x.covers c b (((List.range x.blocks).map x.xmaxAt).getD b 0))))) := List.map_map
  rw [hm, List.getD_eq_getElem _ _ (by simpa using hb), List.getElem_map, List.getElem_range, BitVec.getLsbD_ofNat, testBit_flagMask]
  simp [hb, hc]

theorem parityColumn_block (f : Nat → Int) :
    ((x.parityColumn f).drop (b * x.blockLen)).take x.blockLen =
      (List.range x.blockLen).map (fun k => ∑ c ∈ Finset.range 128, f c * nth (x.ints c b) k * x.share b c) := by
  rw [parityColumn, take_drop_flatten _ (fun r hr => ?_) (by simpa using hb)]
  · simp
  · obtain ⟨b, -, rfl⟩ := List.mem_map.mp hr
    simp

end

/-- A parity column as the loader sums it, over the columns that are loaded. -/
theorem loader_parityColumn {x : WeightSet} (h : x.elems.length ≤ 128) (f : Nat → Int) {cover : List (List Bool)} {xm : List Nat}
    (hc : ∀ b < x.blocks, ∀ c < 128, (cover.getD b []).getD c true = x.covers c b (x.xmaxAt b)) (hx : ∀ b < x.blocks, xm.getD b 0 = x.xmaxAt b) :
    ((List.range x.blocks).map (fun b => (List.range x.blockLen).map (fun k => (List.range x.elems.length).foldl (fun a c =>
      if (cover.getD b []).getD c true then a + f c * nth (x.ints c b) k * x.weight c b (xm.getD b 0) else a) 0))).flatten = x.parityColumn f := by
  refine congrArg List.flatten (List.map_congr_left fun b hb => List.map_congr_left fun k _ => ?_)
  rw [List.mem_range] at hb
  rw [foldl_share x (fun c => f c * nth (x.ints c b) k) (fun c hlt => hc b hb c (hlt.trans_le h)) (hx b hb)]
  refine Finset.sum_subset (Finset.range_subset_range.mpr h) fun c _ hn => ?_
  rw [ints_beyond (by simpa using hn), nth_nil, mul_zero, zero_mul]

section
variable {x : WeightSet} (h : x.elems.length ≤ 128)
include h

theorem p0_withParity : x.withParity.p0 = x.parityColumn (fun _ => 1) :=
  loader_parityColumn h _ (fun b hb c hc => by simp [hb, hc, xmaxAt]) (fun b hb => by simp [hb, xmaxAt])

theorem p1_withParity : x.withParity.p1 = x.parityColumn (fun c => (c : Int) + 1) :=
  loader_parityColumn h _ (fun b hb c hc => by simp [hb, hc, xmaxAt]) (fun b hb => by simp [hb, xmaxAt])

end

/-! ### Error sums (R154) -/

/-- What disturbed the columns of a K-block, column c counted f c times by its parity weight. -/
def disturbance (x : WeightSet) (u : List (Fin 4 × Fin 130 × Fin 8 × Int)) (n b : Nat) (f : Nat → Int) : Int :=
  ∑ c ∈ Finset.range 128, f c * upsetOf u n c b * x.share b c

/-- The weighted sum of the columns' products is the product with the parity column (R152). -/
theorem sum_dot_share {x : WeightSet} {b : Nat} (hb : b < x.blocks) (a : List Int) (f : Nat → Int) :
    ∑ c ∈ Finset.range 128, f c * dot a (x.ints c b) * x.share b c = dot a (((x.parityColumn f).drop (b * x.blockLen)).take x.blockLen) := by
  have hl : (((x.parityColumn f).drop (b * x.blockLen)).take x.blockLen).length ≤ x.blockLen := List.length_take_le _ _
  rw [dot_eq_sum _ _ _ hl, parityColumn_block hb]
  calc ∑ c ∈ Finset.range 128, f c * dot a (x.ints c b) * x.share b c
      = ∑ c ∈ Finset.range 128, ∑ k ∈ Finset.range x.blockLen, nth a k * (f c * nth (x.ints c b) k * x.share b c) :=
        Finset.sum_congr rfl fun c _ => by
          rw [dot_eq_sum _ _ _ (x.ints_length_le c b), Finset.mul_sum, Finset.sum_mul]
          exact Finset.sum_congr rfl fun k _ => by ring
    _ = ∑ k ∈ Finset.range x.blockLen, nth a k * ∑ c ∈ Finset.range 128, f c * nth (x.ints c b) k * x.share b c := by
        rw [Finset.sum_comm]
        exact Finset.sum_congr rfl fun k _ => (Finset.mul_sum ..).symm
    _ = _ := Finset.sum_congr rfl fun k hk => by rw [nth_map_range _ (Finset.mem_range.mp hk)]

theorem nth_blockInts {x : WeightSet} (a : ActRow) (u : List (Fin 4 × Fin 130 × Fin 8 × Int)) (n : Nat) {b c : Nat} (hb : b < x.blocks) (hc : c < 128) :
    nth ((blockInts x a u n).getD b []) c = dot (a.part x b) (x.ints c b) + upsetOf u n c b := by
  simp [blockInts, nth, hb, hc]

/-- The sum that the columns give, less that of the parity column, is what disturbed the columns. -/
theorem columns_sub_parity {x : WeightSet} (a : ActRow) (u : List (Fin 4 × Fin 130 × Fin 8 × Int)) (n : Nat) {b : Nat} (hb : b < x.blocks) (f : Nat → Int) :
    (List.range 128).foldl (fun acc c => if (x.withParity.covered.getD b 0).getLsbD c then
        acc + f c * nth ((blockInts x.withParity a u n).getD b []) c * x.weight c b (x.withParity.xmax.getD b 0) else acc) 0 -
      dot (a.part x b) (((x.parityColumn f).drop (b * x.blockLen)).take x.blockLen) = x.disturbance u n b f := by
  rw [foldl_share x (fun c => f c * nth ((blockInts x.withParity a u n).getD b []) c) (fun c hc => covered_withParity hb hc) (xmax_withParity hb),
    ← sum_dot_share hb, ← Finset.sum_sub_distrib]
  refine Finset.sum_congr rfl fun c hc => ?_
  have hn : nth ((blockInts x.withParity a u n).getD b []) c = dot (a.part x b) (x.ints c b) + upsetOf u n c b :=
    nth_blockInts (x := x.withParity) a u n hb (Finset.mem_range.mp hc)
  rw [hn]
  ring

theorem parityErrors_withParity {x : WeightSet} (h : x.elems.length ≤ 128) (a : ActRow) (u : List (Fin 4 × Fin 130 × Fin 8 × Int)) (n : Nat) {b : Nat}
    (hb : b < x.blocks) :
    parityErrors x.withParity a u n b ((blockInts x.withParity a u n).getD b []) =
      (x.disturbance u n b (fun _ => 1) - upsetOf u n 128 b, x.disturbance u n b (fun c => (c : Int) + 1) - upsetOf u n 129 b) := by
  rw [← columns_sub_parity a u n hb, ← columns_sub_parity a u n hb, ← p0_withParity h, ← p1_withParity h]
  rfl

end WeightSet

/-! ### The location (R155) -/

theorem location_of_multiple {e j : Int} (he : e ≠ 0) (h1 : 1 ≤ j) (h2 : j ≤ 128) : location e (j * e) = (j - 1).toNat := by
  have hj : j * e ≠ 0 := mul_ne_zero (by omega) he
  have hm : j * e % e = 0 := Int.mul_emod_left j e
  have hd : j * e / e = j := Int.mul_ediv_cancel j he
  rw [location, if_pos ⟨he, hj⟩, hm, hd, if_pos ⟨rfl, h1, h2⟩]
  omega

theorem location_of_not_multiple {e0 e1 : Int} (h0 : e0 ≠ 0) (h1 : e1 ≠ 0) (h : ∀ j : Int, 1 ≤ j → j ≤ 128 → e1 ≠ j * e0) : location e0 e1 = 0xFF := by
  rw [location, if_pos ⟨h0, h1⟩, if_neg]
  rintro ⟨hm, hl, hu⟩
  exact h _ hl hu (Int.ediv_mul_cancel (Int.dvd_of_emod_eq_zero hm)).symm

theorem location_of_left {e0 e1 : Int} (h0 : e0 ≠ 0) (h1 : e1 = 0) : location e0 e1 = 0x80 := by simp [location, h0, h1]
theorem location_of_right {e0 e1 : Int} (h0 : e0 = 0) (h1 : e1 ≠ 0) : location e0 e1 = 0x81 := by simp [location, h0, h1]
theorem location_of_none {e0 e1 : Int} (h0 : e0 = 0) (h1 : e1 = 0) : location e0 e1 = 0xFF := by simp [location, h0, h1]

/-! ### Upsets of one column and of two -/

theorem upsetOf_nil (n c b : Nat) : upsetOf [] n c b = 0 := rfl

theorem upsetOf_cons (n : Fin 4) (b : Fin 8) (d : Fin 130) (e : Int) (u : List (Fin 4 × Fin 130 × Fin 8 × Int)) (c : Nat) :
    upsetOf ((n, d, b, e) :: u) n c b = (if d.val = c then e else 0) + upsetOf u n c b := by
  simp [upsetOf]

theorem WeightSet.disturbance_nil (x : WeightSet) (n b : Nat) (f : Nat → Int) : x.disturbance [] n b f = 0 := by
  simp [WeightSet.disturbance, upsetOf_nil]

theorem WeightSet.disturbance_cons (x : WeightSet) (n : Fin 4) (b : Fin 8) {d : Fin 130} (hd : d.val < 128) (e : Int)
    (u : List (Fin 4 × Fin 130 × Fin 8 × Int)) (f : Nat → Int) :
    x.disturbance ((n, d, b, e) :: u) n b f = f d * e * x.share b d + x.disturbance u n b f := by
  simp only [WeightSet.disturbance, upsetOf_cons, mul_add, add_mul, Finset.sum_add_distrib, mul_ite, ite_mul, mul_zero, zero_mul]
  rw [Finset.sum_ite_eq, if_pos (Finset.mem_range.mpr hd)]

/-- Settles O14: the error sums are what disturbed the covered columns, once by their parity weights and once by these times the column's number from 1. -/
theorem parityLocatesColumn : Obligations.ParityLocatesColumn := by
  refine ⟨fun x a n b hl hb => ?_, fun e0 e1 => ⟨fun j h1 h2 h0 he => he ▸ location_of_multiple h0 h1 h2, location_of_left, location_of_right,
    location_of_not_multiple, location_of_none⟩⟩
  replace hb : b.val < x.blocks := hb
  have herr := fun u => WeightSet.parityErrors_withParity hl a u n hb
  have hcov {c : Fin 130} (hc : c.val < 128) (h : (x.withParity.covered.getD b 0).getLsbD c = true) : 0 < x.share b c :=
    WeightSet.share_pos ((WeightSet.covered_withParity hb hc).symm.trans h)
  refine ⟨?_, fun c e hc he h e0 e1 hE => ?_, fun c d e f hc hd hne he hf h h' hE => ?_⟩
  · rw [herr, WeightSet.disturbance_nil, WeightSet.disturbance_nil]
    rfl
  · rw [herr, Prod.mk.injEq, WeightSet.disturbance_cons x n b hc, WeightSet.disturbance_cons x n b hc, upsetOf_cons, upsetOf_cons,
      if_neg hc.ne, if_neg (by omega)] at hE
    simp only [WeightSet.disturbance_nil, upsetOf_nil, add_zero, sub_zero] at hE
    obtain ⟨h0, h1⟩ := hE
    have hs := hcov hc h
    have h0' : e0 ≠ 0 := by rw [← h0]; positivity
    have hj : e1 = ((c.val : Int) + 1) * e0 := by rw [← h0, ← h1]; ring
    refine ⟨.inl h0', ?_⟩
    rw [hj, location_of_multiple h0' (by omega) (by omega)]
    omega
  · rw [herr, Prod.mk.injEq] at hE
    simp only [WeightSet.disturbance_cons x n b hc, WeightSet.disturbance_cons x n b hd, upsetOf_cons, upsetOf_nil, if_neg hc.ne, if_neg hd.ne,
      if_neg (show c.val ≠ 129 by omega), if_neg (show d.val ≠ 129 by omega), WeightSet.disturbance_nil, add_zero, sub_zero] at hE
    obtain ⟨h0, h1⟩ := hE
    have hz : ((d.val : Int) - c.val) * (f * x.share b d) = 0 := by linear_combination h1 - (c.val + 1) * h0
    have hdc : (d.val : Int) - c.val ≠ 0 := by
      intro hz
      exact hne (Fin.ext (by omega))
    exact mul_ne_zero hdc (mul_ne_zero hf (hcov hd h').ne') hz

end Sys2Proof.Machine
end

section
/-! SUPPORT. The issue of MWLOAD, MSTREAM and MDRAIN (R131 to R134, R139): an instruction that names no array, and the record that one which enters the queues leaves. -/

namespace Sys2Proof.Machine

/-! ### Widths of what is latched -/

theorem field_lt (n lo len : Nat) : field n lo len < 2 ^ len := Nat.mod_lt _ (Nat.two_pow_pos len)

theorem State.word_lt (s : State) (g t : Nat) : s.word g t < 2 ^ 64 := by
  unfold State.word
  split
  · exact leAt_lt _ _ 8
  · exact Nat.two_pow_pos 64

theorem State.read_length (s : State) (a n : Nat) : (s.read a n).length = n := by
  induction n generalizing a with
  | zero => rfl
  | succ n ih => exact congrArg (· + 1) (ih _)

/-- A number of n bytes is held whole in 8 n bits. -/
theorem State.toNat_readNat (s : State) (a : Nat) {n w : Nat} (hw : w = 8 * n) : (BitVec.ofNat w (s.readNat a n)).toNat = s.readNat a n := by
  have h := leNat_lt (s.read a n)
  rw [State.read_length, show 256 = 2 ^ 8 from rfl, ← pow_mul] at h
  rw [BitVec.toNat_ofNat, hw]
  exact Nat.mod_eq_of_lt h

/-! ### What the issue leaves in the core -/

@[simp] theorem State.matCount_thread (s : State) (g w h t : Nat) : (s.matCount g w).thread h t = s.thread h t :=
  State.ite_keeps (part := fun v => v.thread h t) rfl rfl

/-- A core counter is no part of the core's images, queues or weight sets. -/
theorem State.matCount_core {β : Type} {part : Core → β} (h : ∀ k c, part { k with counters := c } = part k) (s : State) (g w : Nat) :
    part ((s.matCount g w).core g) = part (s.core g) :=
  State.ite_keeps (part := fun v => part (v.core g)) (by rw [State.cinc, State.core_setCore]; exact h _ _) rfl

/-- The declaration of a load changes the attributes of sets alone (R139). -/
theorem declare_keeps {β : Type} {part : Core → β} (h : ∀ k sets, part { k with sets := sets } = part k) (k : Core) (w b : Nat) :
    part (declare k w b) = part k := by
  unfold declare
  induction arraysOf (wMask w) generalizing k with
  | nil => rfl
  | cons n l ih => exact (ih _).trans (h _ _)

/-- The instruction as it is latched at issue, with the 64 bytes of its command block (R133, R134). -/
def State.latched (s : State) (g t w b : Nat) : MatInstr :=
  { seq := s.alm.nextId, thread := t, iter := (s.thread g t).iter, step := (s.thread g t).step, mask := BitVec.ofNat 4 (wMask w),
    word := BitVec.ofNat 64 w, block := BitVec.ofNat 512 b, opnd := (s.thread g t).s (wOpnd w), pos := BitVec.ofNat 64 ((s.thread g t).s (wPos w)),
    started := 0, done := 0, rows := 0, tries := 0 }

/-- The core with the instruction in the queues of its arrays, and the sets of a load declared. -/
def State.enqueued (s : State) (g t w b : Nat) : Core :=
  let k := if wOp w = 1 then declare (s.core g) w b else s.core g
  { k with matrix := k.matrix ++ [s.latched g t w b] }

/-- The faults that the checks at issue find (R133, R139, R143, R147). -/
def matCheck (k : Core) (w b opnd : Nat) : Option Nat :=
  match wOp w with
  | 1 => loadCheck w b opnd
  | 2 => streamCheck k w b opnd
  | _ => drainCheck w b opnd

theorem State.enqueued_matrix (s : State) (g t w b : Nat) : (s.enqueued g t w b).matrix = (s.core g).matrix ++ [s.latched g t w b] := by
  unfold State.enqueued
  dsimp only
  split
  · rw [declare_keeps (part := Core.matrix) (fun _ _ => rfl)]
  · rfl

theorem State.enqueued_images (s : State) (g t w b : Nat) : (s.enqueued g t w b).images = (s.core g).images := by
  unfold State.enqueued
  dsimp only
  split
  · exact declare_keeps (part := Core.images) (fun _ _ => rfl) _ _ _
  · rfl

/-! ### The effect of a matrix instruction -/

theorem matEffect_maskless {w : Nat} (hm : wMask w = 0) (s : State) (g t : Nat) (th : Thread) :
    matEffect g t s th w = (s.matCount g w).setThread g t (s.thread g t).advance := by
  rw [matEffect, if_pos hm, State.next, State.matCount_thread]

/-- With room in the queues and no failed check, the instruction enters the queues of its arrays (R133, R134). -/
theorem matEffect_enqueues {s : State} {g t w b : Nat} (hm : wMask w ≠ 0) (hq : ∀ n ∈ arraysOf (wMask w), ((s.core g).queue n).length < 8)
    (ha : (s.thread g t).s (wCmd w) % 64 = 0) (hr : (s.thread g t).s (wCmd w) + 64 ≤ 0x300000)
    (hb : b = s.readNat (scratchLpa g ((s.thread g t).s (wCmd w))) 64) (hc : matCheck (s.core g) w b ((s.thread g t).s (wOpnd w)) = none)
    (he : matEmpty w b = false) :
    matEffect g t s (s.thread g t) w = (s.takeId.2.setCore g (s.enqueued g t w b)).setThread g t (s.thread g t).advance := by
  have hfull : ¬ ((arraysOf (wMask w)).any (fun n => decide (8 ≤ ((s.core g).queue n).length)) = true) := by simpa using hq
  have hcmd : ¬ ((s.thread g t).s (wCmd w) % 64 ≠ 0 ∨ (!inScratch ((s.thread g t).s (wCmd w)) 64) = true) := by simp [ha, hr, inScratch]
  unfold matEffect
  dsimp only
  rw [if_neg hm, if_neg hfull, if_neg hcmd, ← hb]
  split
  · next code hx => exact absurd (hx.symm.trans hc) (by simp)
  · rw [he, if_neg Bool.false_ne_true]
    rfl

theorem exec_matrix {c : Instr} {op : Nat} {g : Fin 384} {t : Fin 32}
    (hc : (c, op) ∈ ([(.mwload g t, 1), (.mstream g t, 2), (.mdrain g t, 3)] : List (Instr × Nat))) (s : State) :
    exec c s = s.issueInstr g t (isOp 8 op) (fun _ => false) matKeys (matEffect g t) := by
  simp only [List.mem_cons, Prod.mk.injEq, List.not_mem_nil, or_false] at hc
  obtain ⟨rfl, rfl⟩ | ⟨rfl, rfl⟩ | ⟨rfl, rfl⟩ := hc
  · exact exec_mwload g t s
  · exact exec_mstream g t s
  · exact exec_mdrain g t s

/-- An effect that moves the thread on and leaves its image where it is, is all that the instruction does. -/
theorem State.issueInstr_moves {s v : State} {g t : Nat} {mine : Nat → Bool} {regs : Nat → Regs} {effect : State → Thread → Nat → State}
    (h : s.issues g t mine regs = true) (he : effect s (s.thread g t) (s.word g t) = v.setThread g t (s.thread g t).advance)
    (hi : (v.core g).images = (s.core g).images) :
    s.issueInstr g t mine (fun _ => false) regs effect = .next (v.setThread g t (s.thread g t).advance) := by
  have himg : (v.setThread g t (s.thread g t).advance).imageOf g t = s.imageOf g t := by
    simp only [State.imageOf, State.thread_setThread, Thread.advance_asid, Thread.advance_imgVa, Thread.advance_imgCrc, Core.image]
    exact congrArg _ hi
  exact State.issueInstr_effect h he (State.checkPc_next s _ g t (State.issues_room _ _ _ _ _ h) himg (by simp))

/-- Settles O12: with no array the instruction only counts; else it is latched behind the instructions already issued. -/
theorem matrixIssue : Obligations.MatrixIssue := by
  intro s g t c op hop hi
  have hx := exec_matrix hop s
  refine ⟨fun hm => ?_, fun hm hq ha hr b hb hc he => ?_⟩
  · exact hx.trans (State.issueInstr_moves hi (matEffect_maskless hm s g t _) (s.matCount_core (part := Core.images) (fun _ _ => rfl) g _))
  · have hw : wOp (s.word g t) = op := by
      have := State.issues_mine _ _ _ _ _ hi
      simp only [isOp, Bool.and_eq_true, beq_iff_eq] at this
      exact this.2
    have hc' : matCheck (s.core g) (s.word g t) b ((s.thread g t).s (wOpnd (s.word g t))) = none := by
      rw [matCheck, hw]
      exact hc
    have hnext := State.issueInstr_moves hi (matEffect_enqueues hm hq ha hr hb hc' he)
      ((congrArg Core.images (State.core_setCore ..)).trans (s.enqueued_images ..))
    refine completes_of_next (hx.trans hnext) ⟨State.thread_setThread .., rfl, fun g' t' hlt hne => ?_, s.latched g t (s.word g t) b, ?_⟩
    · exact State.thread_setThread_other _ _ _ _ _ _ (threadKey_ne t.isLt hlt.2 hne)
    · refine ⟨?_, rfl, ?_, ?_, ?_, rfl, ?_, rfl, rfl⟩
      · exact (congrArg Core.matrix (State.core_setCore ..)).trans (s.enqueued_matrix ..)
      · exact (BitVec.toNat_ofNat ..).trans (Nat.mod_eq_of_lt (s.word_lt g t))
      · exact (BitVec.toNat_ofNat ..).trans (Nat.mod_eq_of_lt (field_lt _ _ 4))
      · rw [hb]
        exact s.toNat_readNat _ rfl
      · exact (BitVec.toNat_ofNat ..).trans (Nat.mod_eq_of_lt (Thread.s_lt _ _))

end Sys2Proof.Machine
end

section
/-! SUPPORT. Progress of the array queues (R129, R130, R132, R135, R139, R148, R154, R440): what each command of the arrays does to the queues of its core, and the row of a stream that passes its check. -/

namespace Sys2Proof.Machine

/-! ### Instructions of the queues -/

theorem State.mapMat_matrix (s : State) (g seq : Nat) (f : MatInstr → MatInstr) :
    ((s.mapMat g seq f).core g).matrix = mapIf (fun m => m.seq == seq) f (s.core g).matrix :=
  congrArg Core.matrix (State.core_setCore ..)

/-- An instruction that is complete in every array leaves the queues, and raises its counter (R89, R132). -/
theorem State.matDone_last {s : State} {g : Nat} {m : MatInstr} {arrays : BitVec 4} (h : m.done ||| (arrays &&& m.mask) = m.mask) :
    s.matDone g m arrays = (s.setCore g { s.core g with matrix := (s.core g).matrix.filter (fun x => x.seq != m.seq) }).matCount g m.word.toNat := if_pos h

/-- Completion in an array touches the queues and a counter alone. -/
theorem State.matDone_keeps {β : Type} {part : State → β} (hc : ∀ s c, part { s with cores := c } = part s) (s : State) (g : Nat) (m : MatInstr)
    (arrays : BitVec 4) : part (s.matDone g m arrays) = part s :=
  State.ite_keeps ((State.ite_keeps (hc _ _) rfl).trans (hc _ _)) (hc _ _)

theorem State.matDone_sets (s : State) (g : Nat) (m : MatInstr) (arrays : BitVec 4) : ((s.matDone g m arrays).core g).sets = (s.core g).sets := by
  refine State.ite_keeps (part := fun v => (v.core g).sets) ?_ ?_
  · rw [State.matCount_core (part := Core.sets) (fun _ _ => rfl), State.core_setCore]
  · rw [State.mapMat, State.core_setCore]

/-! ### Starts and completions (R129, R132, R135, R139) -/

section
variable {s : State} {g : Fin 384} {n : Fin 4} {m : MatInstr} (hrun : s.arraysRun = true)
include hrun

theorem exec_mwloadStart_marks (hm : (s.core g).loadHead n = some m) (hmay : (s.core g).loadMay n m = true) :
    exec (.mwloadStart g n) s = .next (s.mapMat g m.seq (fun x => { x with started := x.started ||| arrayBit n })) := by
  simp [execMwloadStart, hm, hrun, hmay]

theorem exec_mdrainStart_marks (hm : (s.core g).drainFor n false = some m) (hmay : (s.core g).drainMay n m = true) :
    exec (.mdrainStart g n) s = .next (s.mapMat g m.seq (fun x => { x with started := x.started ||| arrayBit n })) := by
  simp [execMdrainStart, hm, hrun, hmay]

theorem mwloadComplete_loads (hm : (s.core g).loadHead n = some m) (hstop : (s.core g).stopped n = false) (hst : m.started.getLsbD n = true) :
    Completes (.mwloadComplete g n) s (fun u => (u.core g).wset n m.set = s.loadSet g n m ∧ u.mem = s.mem ∧ u.threads = s.threads) := by
  have hx : exec (.mwloadComplete g n) s = .next (s.loadComplete g n m) := by
    simp only [exec_mwloadComplete, execMwloadComplete, hm, hrun, hstop, hst, Bool.not_false, Bool.and_self, when_true]
  refine completes_of_next hx ⟨?_, s.loadComplete_mem .., (State.matDone_keeps (part := State.threads) (fun _ _ => rfl) ..).trans (State.dadd_threads ..)⟩
  have hsets : ((s.loadComplete g n m).core g).sets = tset (s.core g).sets (2 * n + m.set) (s.loadSet g n m) := by
    rw [State.loadComplete, State.matDone_sets]
    simp [State.core, State.setCore, Core.setWset]
  rw [Core.wset, hsets, tget_tset_same]

theorem mstreamStart_takesBus (hm : (s.core g).streamFor n = some m) (hmay : (s.core g).streamMay m = true) :
    Completes (.mstreamStart g n) s (fun u => (u.core g).bus = some m.seq ∧ u.mem = s.mem ∧ ∀ x ∈ (u.core g).matrix, x.seq = m.seq → x.started = x.mask) := by
  have hx : exec (.mstreamStart g n) s = .next (s.setCore g { s.core g with
      bus := some m.seq, matrix := mapIf (fun x => x.seq == m.seq) (fun x => { x with started := x.mask }) (s.core g).matrix }) := by
    simp [execMstreamStart, hm, hrun, hmay]
  refine completes_of_next hx ?_
  rw [State.core_setCore]
  refine ⟨rfl, rfl, fun x hmem hseq => ?_⟩
  obtain ⟨y, -, rfl⟩ := List.mem_map.mp hmem
  split
  · rfl
  · rename_i hn
    rw [if_neg hn] at hseq
    exact absurd (beq_iff_eq.mpr hseq) hn

theorem exec_mstreamComplete_leaves (hm : (s.core g).streamed = some m) (hdone : m.done = 0) :
    exec (.mstreamComplete g) s =
      .next ((s.setCore g { s.core g with matrix := (s.core g).matrix.filter (fun x => x.seq != m.seq) }).matCount g m.word.toNat) := by
  have hall : m.done ||| (m.mask &&& m.mask) = m.mask := by simp [hdone]
  simp [execMstreamComplete, hm, hrun, State.matDone_last hall]

theorem mdrainComplete_leaves (hm : (s.core g).drainFor n true = some m) (hrows : m.total * m.width ≤ m.rows) (hall : m.done ||| (arrayBit n &&& m.mask) = m.mask) :
    Completes (.mdrainComplete g n) s (fun u => (u.core g).matrix = (s.core g).matrix.filter (fun x => x.seq != m.seq) ∧ u.mem = s.mem) := by
  have hx : exec (.mdrainComplete g n) s = .next (s.matDone g m (arrayBit n)) := by
    simp [execMdrainComplete, hm, hrun, hrows]
  refine completes_of_next hx ⟨?_, s.matDone_mem ..⟩
  rw [State.matDone_last hall, State.matCount_core (part := Core.matrix) (fun _ _ => rfl), State.core_setCore]

end

/-! ### Rows of a stream (R130, R154) -/

theorem State.store_keeps {β : Type} {part : State → β} (hm : ∀ s m, part { s with mem := m } = part s) (s : State) (a : Nat) (bs : Bytes) :
    part (s.store a bs) = part s := by
  induction bs generalizing s a with
  | nil => rfl
  | cons b bs ih => exact (ih _ _).trans (hm _ _)

/-- The counters of the row (R130). -/
def State.rowCounted (s : State) (g : Nat) : State := (s.dadd 0x3001 (coreDie g + 1) 1).dadd 0x3002 (coreDie g + 1) 1

/-- The row as each named array meets it, with no upset. -/
def State.arrayRows (s : State) (g : Nat) (m : MatInstr) : List (Nat × WeightSet × ActRow × List (List Int)) :=
  (arraysOf m.mask.toNat).map (fun n =>
    let x := (s.core g).wset n m.set
    let a := s.actRow g m m.rows x.k x.block16
    (n, x, a, blockInts x a [] n))

/-- Every block of the row passes its parity check in every named array (R154). -/
def State.RowClean (s : State) (g : Nat) (m : MatInstr) : Prop :=
  ∀ a ∈ arraysOf m.mask.toNat, ∀ b < ((s.core g).wset a m.set).blocks, ∀ r,
    r = s.actRow g m m.rows ((s.core g).wset a m.set).k ((s.core g).wset a m.set).block16 →
    parityErrors ((s.core g).wset a m.set) r [] a b ((blockInts ((s.core g).wset a m.set) r [] a).getD b []) = (0, 0)

theorem State.rowCounted_core (s : State) (g h : Nat) : (s.rowCounted g).core h = s.core h := by simp [State.rowCounted, State.core]

theorem State.rowCounted_read (s : State) (g a n : Nat) : (s.rowCounted g).read a n = s.read a n :=
  State.read_of_stored (by simp [State.rowCounted, State.dadd_stored]) a n

theorem State.rowCounted_clean {s : State} {g : Nat} {m : MatInstr} (h : s.RowClean g m) : (s.rowCounted g).RowClean g m := by
  simpa only [State.RowClean, State.actRow, State.rowCounted_core, State.rowCounted_read] using h

/-- The first block of an array that fails its check, with its K-block number and error sums (R154). -/
def firstBad (p : Nat × WeightSet × ActRow × List (List Int)) : Option (Nat × Nat × Int × Int) :=
  (List.range p.2.1.blocks).findSome? (fun b =>
    let e := parityErrors p.2.1 p.2.2.1 [] p.1 b (p.2.2.2.getD b [])
    if e.1 = 0 ∧ e.2 = 0 then none else some (p.1, p.2.1.kBlock + b, e.1, e.2))

theorem State.RowClean.no_bad {s : State} {g : Nat} {m : MatInstr} (h : s.RowClean g m) : (s.arrayRows g m).findSome? firstBad = none := by
  refine List.findSome?_eq_none_iff.mpr fun p hp => ?_
  obtain ⟨n, hn, rfl⟩ := List.mem_map.mp hp
  refine List.findSome?_eq_none_iff.mpr fun b hb => ?_
  have hz := h n hn b (List.mem_range.mp hb) _ rfl
  exact if_pos ⟨congrArg Prod.fst hz, congrArg Prod.snd hz⟩

/-- A row without a failing block is added and written. -/
theorem State.streamRow_clean {s : State} {g : Nat} {m : MatInstr} (h : s.RowClean g m) :
    s.streamRow g m false [] = (s.rowCounted g).rowPasses g m ((s.rowCounted g).arrayRows g m) := by
  have hn := (State.rowCounted_clean h).no_bad
  unfold State.streamRow
  dsimp only
  split
  · next hx => exact absurd (hx.symm.trans hn) (by simp)
  · rfl

/-- Memory and the cores are all that a passing row touches. -/
theorem State.rowPasses_keeps {β : Type} {part : State → β} (hm : ∀ s m, part { s with mem := m } = part s) (hc : ∀ s c, part { s with cores := c } = part s)
    (s : State) (g : Nat) (m : MatInstr) (rows : List (Nat × WeightSet × ActRow × List (List Int))) : part (s.rowPasses g m rows) = part s := by
  unfold State.rowPasses
  dsimp only
  refine State.ite_keeps ((hc _ _).trans ?_) ?_ <;>
  exact (hc _ _).trans (State.foldl_keeps part _ (fun t p => State.ite_keeps rfl (State.store_keeps hm ..)) _ _)

theorem State.rowPasses_matrix (s : State) (g : Nat) (m : MatInstr) (rows : List (Nat × WeightSet × ActRow × List (List Int))) :
    ((s.rowPasses g m rows).core g).matrix =
      mapIf (fun x => x.seq == m.seq) (fun x => { x with rows := x.rows + 1, tries := 0 }) (s.core g).matrix := by
  have hbus (c : Prop) [Decidable c] (v : State) : ((if c then v.setCore g { v.core g with bus := none } else v).core g).matrix = (v.core g).matrix :=
    State.ite_keeps (part := fun v => (v.core g).matrix) (by rw [State.core_setCore]) rfl
  unfold State.rowPasses
  dsimp only
  rw [hbus, State.mapMat_matrix]
  congr 2
  exact State.foldl_keeps (fun v => v.core g) _ (fun t p => State.ite_keeps (part := fun v => v.core g) rfl (congrArg (tget _ · _) (State.store_cores ..))) _ _

theorem exec_mstreamRow_clean {s : State} {g : Fin 384} {m : MatInstr} (hrun : s.arraysRun = true) (hbus : (s.core g).onBus = some m)
    (hmay : (s.core g).rowMay m = true) (hw : s.withheldNow = false) (hclean : s.RowClean g m) :
    exec (.mstreamRow g false []) s = .next ((s.rowCounted g).rowPasses g m ((s.rowCounted g).arrayRows g m)) := by
  simp [execMstreamRow, hbus, hrun, hmay, hw, State.streamRow_clean hclean]

/-- A row that passes raises no retry counter and writes one more row; a subindex has 8 bits (R390). -/
theorem mstreamRow_writes {s : State} {g : Fin 384} {m : MatInstr} (hrun : s.arraysRun = true) (hbus : (s.core g).onBus = some m)
    (hmay : (s.core g).rowMay m = true) (hw : s.withheldNow = false) (hclean : s.RowClean g m) :
    Completes (.mstreamRow g false []) s (fun u => (∀ x ∈ (s.core g).matrix, x.seq = m.seq → { x with rows := x.rows + 1, tries := 0 } ∈ (u.core g).matrix) ∧
      u.log = s.log ∧ (∀ d < 256, u.dget 0x2221 d = s.dget 0x2221 d) ∧ u.threads = s.threads) := by
  refine completes_of_next (exec_mstreamRow_clean hrun hbus hmay hw hclean) ⟨fun x hx hseq => ?_, ?_, fun d hd => ?_, ?_⟩
  · rw [State.rowPasses_matrix, State.rowCounted_core]
    exact mem_mapIf (f := fun x : MatInstr => { x with rows := x.rows + 1, tries := 0 }) hx (by simp [hseq])
  · exact (State.rowPasses_keeps (part := State.log) (fun _ _ => rfl) (fun _ _ => rfl) ..).trans (by simp [State.rowCounted])
  · have hk (i j : Nat) (hi : 0x3001 ≤ i) : entryKey 0x2221 d ≠ entryKey i j := by
      simp only [entryKey]
      omega
    rw [State.rowPasses_keeps (part := fun v => v.dget 0x2221 d) (fun _ _ => rfl) (fun _ _ => rfl), State.rowCounted,
      State.dget_dadd_other _ _ _ _ _ _ (hk _ _ (by decide)), State.dget_dadd_other _ _ _ _ _ _ (hk _ _ (by decide))]
  · exact (State.rowPasses_keeps (part := State.threads) (fun _ _ => rfl) (fun _ _ => rfl) ..).trans (by simp [State.rowCounted])

/-! ### Steps of a drain (R148, R149) -/

theorem SliceFrame.cores : SliceFrame State.cores := ⟨fun _ _ => rfl, fun _ _ => rfl, fun _ _ => rfl, fun _ _ => rfl, fun _ _ => rfl, fun _ _ _ _ _ => rfl⟩

namespace SliceFrame
section
variable {β : Type} {part : State → β} (h : SliceFrame part)
include h

theorem vote (s : State) (veto : Bool) (step src die core : Nat) : part (s.vote veto step src die core) = part s :=
  State.ite_keeps (h.fatal ..) (State.ite_keeps (h.dadd _ _ _ _ (by decide)) (State.ite_keeps (h.conj _ _) (State.ite_keeps (h.conj _ _) (h.fatal ..))))

theorem nonfinite (s : State) (die step src : Nat) : part (s.nonfinite die step src) = part s :=
  State.ite_keeps ((h.vote ..).trans (h.dadd _ _ _ _ (by decide))) (h.dadd _ _ _ _ (by decide))

theorem drainPlain (s : State) (g n i : Nat) (m : MatInstr) (vs : List Val) : part (s.drainPlain g n i m vs) = part s :=
  (State.foldl_keeps part _ (fun _ _ => h.nonfinite ..) _ _).trans (State.foldl_keeps part _ (fun _ _ => h.store ..) _ _)

theorem drainBlock (s : State) (g i k : Nat) (m : MatInstr) (f : Fmt) (vs : List (Val × Nat)) : part (s.drainBlock g i k m f vs) = part s := by
  unfold State.drainBlock
  dsimp only
  have hbit (c : Prop) [Decidable c] (v : State) (o index : Nat) (b : Bool) : part (if c then v.putBit g o index b else v) = part v :=
    State.ite_keeps (h.store ..) rfl
  refine State.ite_keeps ((h.nonfinite ..).trans ?_) ?_ <;>
  rw [h.store, hbit, h.store, h.store]

theorem drainMx (s : State) (g n i : Nat) (m : MatInstr) (f : Fmt) (vs : List Val) : part (s.drainMx g n i m f vs) = part s :=
  State.foldl_keeps part _ (fun _ _ => h.drainBlock ..) _ _

end
end SliceFrame

theorem State.drainStep_matrix (s : State) (g n : Nat) (m : MatInstr) :
    ((s.drainStep g n m).core g).matrix = mapIf (fun x => x.seq == m.seq) (fun x => { x with rows := x.rows + 1 }) (s.core g).matrix := by
  have hstats (c : Prop) [Decidable c] (v : State) (a : Nat) (bs : Bytes) : (if c then v.store a bs else v).cores = v.cores :=
    State.ite_keeps (State.store_cores ..) rfl
  unfold State.drainStep
  dsimp only
  rw [State.mapMat_matrix]
  congr 2
  refine congrArg (tget _ · _) ((hstats ..).trans ?_)
  split
  · exact SliceFrame.cores.drainMx ..
  · exact SliceFrame.cores.drainPlain ..

section
variable {s : State} {g : Fin 384} {n : Fin 4} {m : MatInstr} (hrun : s.arraysRun = true)
include hrun

theorem mdrainStep_drains (hm : (s.core g).drainFor n true = some m) (hmay : (s.core g).stepMay n m = true) (hw : s.withheldNow = false) :
    Completes (.mdrainStep g n) s (fun u => ∀ x ∈ (s.core g).matrix, x.seq = m.seq → { x with rows := x.rows + 1 } ∈ (u.core g).matrix) := by
  have hx : exec (.mdrainStep g n) s = .next (s.drainStep g n m) := by
    simp [execMdrainStep, hm, hrun, hmay, hw]
  refine completes_of_next hx fun x hmem hseq => ?_
  rw [State.drainStep_matrix]
  exact mem_mapIf (f := fun x : MatInstr => { x with rows := x.rows + 1 }) hmem (by simp [hseq])

theorem exec_mstreamRow_withheld (hm : (s.core g).onBus = some m) (hmay : (s.core g).rowMay m = true) (hw : s.withheldNow = true) (err : Bool)
    (up : List (Fin 4 × Fin 130 × Fin 8 × Int)) : exec (.mstreamRow g err up) s = .next s := by
  simp [execMstreamRow, hm, hrun, hmay, hw]

theorem exec_mdrainStep_withheld (hm : (s.core g).drainFor n true = some m) (hmay : (s.core g).stepMay n m = true) (hw : s.withheldNow = true) :
    exec (.mdrainStep g n) s = .next s := by
  simp [execMdrainStep, hm, hrun, hmay, hw]

end

/-! ### A subindex beyond the entry -/

/-- The loaded set of one INT8 weight. -/
def oneWeight : WeightSet := { elemType := 6, k := 1, elems := [[3]] }
/-- An MSTREAM of one row to array 0, which holds the bus. -/
def oneRowStream : MatInstr :=
  { seq := 1, thread := 0, iter := 0, step := 0, mask := 1, word := BitVec.ofNat 64 (8 * 2 ^ 60 + 2 * 2 ^ 52 + 2 ^ 44 + 2 ^ 12),
    block := BitVec.ofNat 512 (6 * 2 ^ 508), opnd := 0, pos := 0, started := 1, done := 0, rows := 0, tries := 0 }
/-- A package that runs, with the stream in core 0. -/
def oneRowState : State :=
  { boot := { mode := .ready, inReset := false }, power := { railsUp := true },
    cores := [(0, { matrix := [oneRowStream], bus := some 1, sets := [(0, oneWeight.withParity)] })] }

theorem oneRowState_runs : oneRowState.arraysRun = true ∧ oneRowState.withheldNow = false := by decide +kernel
theorem oneRowState_row : (oneRowState.core (0 : Fin 384)).onBus = some oneRowStream ∧ (oneRowState.core (0 : Fin 384)).rowMay oneRowStream = true := by decide +kernel

theorem oneRowState_clean : oneRowState.RowClean (0 : Fin 384) oneRowStream := by
  intro a ha b hb r _
  obtain rfl : a = 0 := List.mem_singleton.mp (show a ∈ [0] from ha)
  have hb' : b < oneWeight.blocks := hb
  have hlen : oneWeight.elems.length ≤ 128 := by decide
  refine (WeightSet.parityErrors_withParity hlen r [] 0 hb').trans ?_
  rw [WeightSet.disturbance_nil, WeightSet.disturbance_nil]
  rfl

/-- Refutes O13: the statement bounds the subindex of PARITY_RETRIES by nothing, and past 255 its key is that of another entry: 0x2221 with subindex 0xDE001 has the key of ARRAY_ROWS of die 0, which each row raises (R390). With a subindex of 8 bits the clause is `mstreamRow_writes`. The other clauses hold: `exec_mwloadStart_marks`, `mwloadComplete_loads`, `mstreamStart_takesBus`, `exec_mstreamComplete_leaves`, `exec_mdrainStart_marks`, `mdrainStep_drains`, `mdrainComplete_leaves`, `exec_mstreamRow_withheld` and `exec_mdrainStep_withheld`. -/
theorem not_matrixProgress : ¬ Obligations.MatrixProgress := by
  intro h
  obtain ⟨-, -, -, hrow, -⟩ := h oneRowState 0 0 oneRowStream oneRowState_runs.1
  obtain ⟨u, hx, -, -, hd, -⟩ := hrow oneRowState_row.1 oneRowState_row.2 oneRowState_runs.2 oneRowState_clean
  have hu := Host.Outcome.next.inj ((exec_mstreamRow_clean oneRowState_runs.1 oneRowState_row.1 oneRowState_row.2 oneRowState_runs.2 oneRowState_clean).symm.trans hx)
  have hcount : u.dget 0x2221 0xDE001 = (oneRowState.rowCounted 0).dget 0x2221 0xDE001 :=
    hu ▸ State.rowPasses_keeps (part := fun v => v.dget 0x2221 0xDE001) (fun _ _ => rfl) (fun _ _ => rfl) ..
  exact absurd (hcount.symm.trans (hd 0xDE001)) (by decide +kernel)

end Sys2Proof.Machine
end

section
/-! SUPPORT. Vector registers (R185): the lanes and the bytes of a register are the digits of its number, and a register that is written reads back. -/

namespace Sys2Proof.Machine

/-! ### Registers -/

@[simp] theorem Thread.advance_v (th : Thread) (r : Nat) : th.advance.v r = th.v r := rfl

theorem Thread.v_setV_same (th : Thread) (r x : Nat) : (th.setV r x).v r = x % 2 ^ 2048 :=
  (congrArg BitVec.toNat (tget_tset_same ..)).trans (BitVec.toNat_ofNat ..)

theorem Thread.v_setV_other (th : Thread) {r q : Nat} (h : q ≠ r) (x : Nat) : (th.setV r x).v q = th.v q := by
  simp only [Thread.v, Thread.setV, tget_tset_other _ _ _ _ _ h]

/-! ### Digits -/

/-- A field that starts beyond the lowest digit is a field of the rest. -/
theorem field_succ_digit (d m w n len : Nat) (hd : d < 2 ^ w) : field (d + m * 2 ^ w) (w * (n + 1)) len = field m (w * n) len := by
  rw [field_eq, field_eq, Nat.mul_succ, Nat.add_comm (w * n), Nat.pow_add, ← Nat.div_div_eq_div_mul, Nat.add_mul_div_right _ _ (Nat.two_pow_pos w),
    Nat.div_eq_of_lt hd, Nat.zero_add]

theorem field_zero_digit (d m w : Nat) (hd : d < 2 ^ w) : field (d + m * 2 ^ w) 0 w = d := by
  rw [field_eq, Nat.pow_zero, Nat.div_one, Nat.add_mul_mod_self_right, Nat.mod_eq_of_lt hd]

/-- Lane n of the register that holds some lanes; lanes beyond them are zero. -/
theorem field_packLanes (ty : Nat) (ls : List Nat) (n : Nat) :
    field (packLanes ty ls) (8 * laneBytes ty * n) (8 * laneBytes ty) = ls.getD n 0 % 2 ^ (8 * laneBytes ty) := by
  have hlt (c : Nat) : c % 2 ^ (8 * laneBytes ty) < 2 ^ (8 * laneBytes ty) := Nat.mod_lt _ (Nat.two_pow_pos _)
  induction ls generalizing n with
  | nil => simp [packLanes, field]
  | cons c ls ih =>
    cases n with
    | zero => exact field_zero_digit _ _ _ (hlt c)
    | succ n => exact (field_succ_digit _ _ _ n _ (hlt c)).trans (ih n)

/-- Byte n of the number that some bytes form; bytes beyond them are zero. -/
theorem field_leNat (bs : Bytes) (n : Nat) : field (leNat bs) (8 * n) 8 = (bs.getD n 0).toNat := by
  induction bs generalizing n with
  | nil => simp [leNat, field]
  | cons b bs ih =>
    have hl : leNat (b :: bs) = b.toNat + leNat bs * 2 ^ 8 := congrArg (b.toNat + ·) (Nat.mul_comm ..)
    rw [hl]
    cases n with
    | zero => exact field_zero_digit _ _ _ b.isLt
    | succ n => exact (field_succ_digit _ _ _ n _ b.isLt).trans (ih n)

/-- A field within the bits that are kept. -/
theorem field_mod_two_pow (x : Nat) {lo len k : Nat} (h : lo + len ≤ k) : field (x % 2 ^ k) lo len = field x lo len := by
  obtain ⟨j, rfl⟩ : ∃ j, k = lo + (len + j) := ⟨k - (lo + len), by omega⟩
  rw [field_eq, field_eq, Nat.pow_add, Nat.mod_mul_right_div_self, Nat.mod_mod_of_dvd _ (Nat.pow_dvd_pow 2 (Nat.le_add_right len j))]

/-! ### Lanes of 32 bits -/

theorem lanesOf_getElem? (ty v : Nat) {n : Nat} (h : n < 256 / laneBytes ty) :
    (lanesOf ty v)[n]? = some (field v (8 * laneBytes ty * n) (8 * laneBytes ty)) := by
  rw [lanesOf, List.getElem?_map, List.getElem?_range h, Option.map_some]

theorem Thread.lane32_toNat (th : Thread) (r i : Nat) : (th.lane32 r i).toNat = field (th.v r) (32 * i) 32 := by
  rw [Thread.lane32, BitVec.toNat_ofNat, field_eq]

theorem Thread.lane32_lanesOf (th : Thread) (r : Nat) {i : Nat} (hi : i < 64) : (lanesOf 11 (th.v r))[i]? = some (th.lane32 r i).toNat :=
  (lanesOf_getElem? 11 _ hi).trans (congrArg some (th.lane32_toNat r i).symm)

/-- Lane i of INT32 lanes that were written. -/
theorem Thread.lane32_setV (th : Thread) (r : Nat) (ls : List Nat) {i x : Nat} (hi : i < 64) (hx : ls[i]? = some x) :
    ((th.setV r (packLanes 11 ls)).advance.lane32 r i) = BitVec.ofNat 32 x := by
  apply BitVec.eq_of_toNat_eq
  rw [Thread.lane32_toNat, Thread.advance_v, Thread.v_setV_same, field_mod_two_pow _ (by omega), BitVec.toNat_ofNat]
  refine (field_packLanes 11 ls i).trans ?_
  rw [List.getD_eq_getElem?_getD, hx, Option.getD_some]
  rfl

end Sys2Proof.Machine
end

section
/-! SUPPORT. The vector engine on INT32 lanes (R188): each lane operation on numbers is the operation on bit vectors of 32 bits. -/

namespace Sys2Proof.Machine

/-! ### Lane operations -/

theorem lane2_int32 (f : Val → Val → Val) (i : Int → Int → Int) (a b : BitVec 32) :
    BitVec.ofNat 32 (lane2 11 f i a.toNat b.toNat).1 = BitVec.ofInt 32 (i a.toInt b.toInt) := by
  rw [lane2, if_pos rfl]
  simp only [ofSigned_eq, toSigned_eq 32 _ (by decide), BitVec.ofNat_toNat, BitVec.setWidth_eq]

theorem lane1_int32 (f : Val → Val) (i : Int → Int) (a : BitVec 32) :
    BitVec.ofNat 32 (lane1 11 f i a.toNat).1 = BitVec.ofInt 32 (i a.toInt) := by
  rw [lane1, if_pos rfl]
  simp only [ofSigned_eq, toSigned_eq 32 _ (by decide), BitVec.ofNat_toNat, BitVec.setWidth_eq]

theorem ofInt_sub {w : Nat} (a b : BitVec w) : BitVec.ofInt w (a.toInt - b.toInt) = a - b :=
  BitVec.eq_of_toInt_eq (by rw [BitVec.toInt_ofInt, BitVec.toInt_sub])

theorem ofInt_max {w : Nat} (a b : BitVec w) : BitVec.ofInt w (max a.toInt b.toInt) = if a.slt b then b else a := by
  simp only [BitVec.slt, decide_eq_true_eq]
  split
  · rw [max_eq_right (by omega), BitVec.ofInt_toInt]
  · rw [max_eq_left (by omega), BitVec.ofInt_toInt]

theorem ofInt_min {w : Nat} (a b : BitVec w) : BitVec.ofInt w (min a.toInt b.toInt) = if b.slt a then b else a := by
  simp only [BitVec.slt, decide_eq_true_eq]
  split
  · rw [min_eq_right (by omega), BitVec.ofInt_toInt]
  · rw [min_eq_left (by omega), BitVec.ofInt_toInt]

/-- The magnitude wraps at the least number, which stays as it is. -/
theorem ofInt_natAbs {w : Nat} (a : BitVec w) : BitVec.ofInt w (a.toInt.natAbs : Int) = if a.msb then -a else a := by
  rw [BitVec.msb_eq_toInt]
  simp only [decide_eq_true_eq]
  split
  · rw [Int.ofNat_natAbs_of_nonpos (by omega), BitVec.ofInt_neg, BitVec.ofInt_toInt]
  · rw [Int.natAbs_of_nonneg (by omega), BitVec.ofInt_toInt]

/-! ### Instructions -/

/-- What holds of every such next state holds of the one answered. -/
theorem Completes.mono {c : Instr} {s : State} {P Q : State → Prop} (h : Completes c s P) (hpq : ∀ u, P u → Q u) : Completes c s Q :=
  h.imp (fun u hu => hu.imp_right (hpq u))

section
variable {c : Instr} {s : State} {g : Fin 384} {t : Fin 32} {cls op : Nat} {regs : Nat → Regs} {effect : State → Thread → Nat → State}

/-- A two-operand operation on INT32 lanes, lane by lane. -/
theorem vector_binary_int32 {lane : Nat → Nat → Nat → Nat × Bool} {f : BitVec 32 → BitVec 32 → BitVec 32} (hx : exec c s = s.vector g t cls op regs effect)
    (h : s.issues g t (isOp cls op) regs = true) (hty : wType (s.word g t) = 11)
    (he : effect s (s.thread g t) (s.word g t) = binaryEffect g t lane s (s.thread g t) (s.word g t))
    (hf : ∀ a b : BitVec 32, BitVec.ofNat 32 (lane 11 a.toNat b.toNat).1 = f a b) {i : Nat} (hi : i < 64) :
    Completes c s (fun u => (u.thread g t).lane32 (wVd (s.word g t)) i =
      f ((s.thread g t).lane32 (wVa (s.word g t)) i) ((s.thread g t).lane32 (wVb (s.word g t)) i)) := by
  refine (vector_binary hx h he (fun _ _ => rfl)).mono (fun u ⟨hth, _⟩ => ?_)
  rw [hth, hty, lanes2, ← hf]
  exact Thread.lane32_setV _ _ _ hi (by rw [List.getElem?_zipWith, Thread.lane32_lanesOf _ _ hi, Thread.lane32_lanesOf _ _ hi])

/-- A one-operand operation on INT32 lanes, lane by lane. -/
theorem vector_unary_int32 {lane : Nat → Nat → Nat × Bool} {f : BitVec 32 → BitVec 32} (hx : exec c s = s.vector g t cls op regs (unaryEffect g t lane))
    (h : s.issues g t (isOp cls op) regs = true) (hty : wType (s.word g t) = 11)
    (hf : ∀ a : BitVec 32, BitVec.ofNat 32 (lane 11 a.toNat).1 = f a) {i : Nat} (hi : i < 64) :
    Completes c s (fun u => (u.thread g t).lane32 (wVd (s.word g t)) i = f ((s.thread g t).lane32 (wVa (s.word g t)) i)) := by
  refine (vector_unary hx h (fun _ => rfl)).mono (fun u ⟨hth, _⟩ => ?_)
  rw [hth, hty, lanes1, ← hf]
  exact Thread.lane32_setV _ _ _ hi (by rw [List.getElem?_map, Thread.lane32_lanesOf _ _ hi, Option.map_some])

end

/-- A bitwise operation on numbers is one on bit vectors where it gives the number of its result. -/
theorem bitwise_int32 {f : Nat → Nat → Nat} {a b r : BitVec 32} (h : f a.toNat b.toNat % 2 ^ 32 = r.toNat) :
    BitVec.ofNat 32 (f a.toNat b.toNat % 2 ^ 32) = r := by
  rw [h, BitVec.ofNat_toNat, BitVec.setWidth_eq]

/-- Settles O7, operation by operation. -/
theorem vectorInt32Lanes : Obligations.VectorInt32Lanes := by
  intro s g t i hi hty
  refine ⟨fun c op f hc h => ?_, fun h hw => ?_, fun h => ?_, fun h => ?_⟩
  · simp only [List.mem_cons, Prod.mk.injEq, List.not_mem_nil, or_false] at hc
    obtain ⟨rfl, rfl, rfl⟩ | ⟨rfl, rfl, rfl⟩ | ⟨rfl, rfl, rfl⟩ | ⟨rfl, rfl, rfl⟩ | ⟨rfl, rfl, rfl⟩ | ⟨rfl, rfl, rfl⟩ | ⟨rfl, rfl, rfl⟩ |
      ⟨rfl, rfl, rfl⟩ | ⟨rfl, rfl, rfl⟩ := hc
    · exact vector_binary_int32 (exec_vadd g t s) h hty rfl (fun a b => by rw [lane2_int32, BitVec.ofInt_add, BitVec.ofInt_toInt, BitVec.ofInt_toInt]) hi
    · exact vector_binary_int32 (exec_vsub g t s) h hty rfl (fun a b => (lane2_int32 ..).trans (ofInt_sub a b)) hi
    · exact vector_binary_int32 (exec_vmul g t s) h hty rfl (fun a b => by rw [lane2_int32, BitVec.ofInt_mul, BitVec.ofInt_toInt, BitVec.ofInt_toInt]) hi
    · exact vector_binary_int32 (exec_vmin g t s) h hty rfl (fun a b => (lane2_int32 ..).trans (ofInt_min a b)) hi
    · exact vector_binary_int32 (exec_vand g t s) h hty rfl (fun a b => bitwise_int32 (f := (· &&& ·))
        (by rw [← BitVec.toNat_and]; exact BitVec.toNat_mod_cancel _)) hi
    · exact vector_binary_int32 (exec_vor g t s) h hty rfl (fun a b => bitwise_int32 (f := (· ||| ·))
        (by rw [← BitVec.toNat_or]; exact BitVec.toNat_mod_cancel _)) hi
    · exact vector_binary_int32 (exec_vxor g t s) h hty rfl (fun a b => bitwise_int32 (f := (· ^^^ ·))
        (by rw [← BitVec.toNat_xor]; exact BitVec.toNat_mod_cancel _)) hi
    · exact vector_binary_int32 (exec_vshl g t s) h hty rfl (fun a b => bitwise_int32 (f := fun x y => x <<< (y % 32)) (BitVec.toNat_shiftLeft ..).symm) hi
    · exact vector_binary_int32 (exec_vshr g t s) h hty rfl (fun a b => bitwise_int32 (f := fun x y => x >>> (y % 32))
        (by rw [← BitVec.toNat_ushiftRight]; exact BitVec.toNat_mod_cancel _)) hi
  · exact vector_binary_int32 (exec_vmax g t s) h hty (vmaxEffect_plain hw ..) (fun a b => (lane2_int32 ..).trans (ofInt_max a b)) hi
  · exact vector_unary_int32 (exec_vabs g t s) h hty (fun a => (lane1_int32 ..).trans (ofInt_natAbs a)) hi
  · exact vector_unary_int32 (exec_vneg g t s) h hty (fun a => by rw [lane1_int32, BitVec.ofInt_neg, BitVec.ofInt_toInt]) hi

end Sys2Proof.Machine
end

section
/-! SUPPORT. Special functions, selection, broadcast, reductions and conversions (R187 to R195): what a legal word's TYPE may be, the instructions that write VD alone, and those that write several registers. -/

namespace Sys2Proof.Machine

/-! ### Legal words -/

theorem isOp_iff {cls op w : Nat} : isOp cls op w = true ↔ wClass w = cls ∧ wOp w = op := by
  simp only [isOp, Bool.and_eq_true, beq_iff_eq]

section
variable {s : State} {g t : Nat} {op : Nat} {regs : Nat → Regs}

/-- A special function takes FP32 or BF16 lanes (R191). -/
theorem sfu_type (h : s.issues g t (isOp 6 op) regs = true) : wType (s.word g t) ≤ 1 := by
  have hl := State.issues_legal h
  obtain ⟨hc, -⟩ := isOp_iff.mp (State.issues_mine _ _ _ _ _ h)
  simp only [wordLegal, hc, sfuLegal, Bool.and_eq_true, decide_eq_true_eq] at hl
  obtain ⟨⟨⟨⟨-, hty⟩, -⟩, -⟩, -⟩ := hl
  exact hty

/-- VSCALE names an MX element format and a headroom below 4 (R195). -/
theorem vscale_legal (h : s.issues g t (isOp 5 5) regs = true) : isMxType (wType (s.word g t)) = true ∧ wMod (s.word g t) < 4 := by
  have hl := State.issues_legal h
  obtain ⟨hc, ho⟩ := isOp_iff.mp (State.issues_mine _ _ _ _ _ h)
  simp only [wordLegal, hc, convertLegal, ho, Bool.and_eq_true, decide_eq_true_eq] at hl
  obtain ⟨⟨⟨hty, -⟩, hm⟩, -⟩ := hl
  exact ⟨hty, hm⟩

end

/-- The MX types are those that have an element format (R100). -/
theorem isMxType_eq_isSome (ty : Nat) : isMxType ty = (mxFmt ty).isSome := by
  unfold mxFmt isMxType
  split
  · rfl
  · rfl
  · rfl
  · simp_all

/-! ### Instructions that write VD alone -/

section
variable {c : Instr} {g : Fin 384} {t : Fin 32}

/-- A special function, rounded once to the lane type (R191). -/
theorem sfu_writesVd {op : Nat} (hx : ∀ s, exec c s = s.vector g t 6 op (vKeys true true false false false) (sfuEffect op g t)) :
    WritesVd c g t 6 op (vKeys true true false false false) (fun _ th w =>
      lanes1 (wType w) (fun x => encodeLane (wType w) .rne 0 (sfuVal op (decodeLane (wType w) x))) (th.v (wVa w))) :=
  fun s h => vector_unary (hx s) h (lane1_fst (by have := sfu_type h; omega) _ _)

/-- VRSUM: the sum of segment j in lane j, zero in every other lane (R189). -/
theorem vrsum_writesVd : WritesVd (.vrsum g t) g t 4 0x0B (vKeys true true false false false) (fun _ th w =>
    packLanes (wType w) (placeLanes (256 / laneBytes (wType w))
      ((segments (wType w) (th.v (wVa w)) (wMod w % 4)).zipIdx.map (fun p => (p.2, (segmentSum (wType w) p.1).1))))) := by
  intro s h
  have hp := vector_putVd (exec_vrsum g t s) h rfl (State.invalidLanes_cores ..) (State.invalidLanes_threads ..) (State.invalidLanes_mem ..)
  rw [List.zipIdx_map, List.map_map] at hp
  exact hp

/-- VDEQUANT writes VD, from an MX format and from an integer format (R194). -/
theorem vdequant_putsVd {s : State} (h : s.issues g t (isOp 5 0x03) (vKeys true true true false false) = true) : ∃ v, PutsVd (.vdequant g t) s g t v := by
  cases hf : mxFmt (wType (s.word g t)) with
  | some f => exact ⟨_, vector_putVd (exec_vdequant g t s) h (by rw [vdequantEffect, hf]) rfl rfl rfl⟩
  | none =>
    exact ⟨_, vector_putVd (exec_vdequant g t s) h (by rw [vdequantEffect, hf]) (State.invalidLanes_cores ..) (State.invalidLanes_threads ..)
      (State.invalidLanes_mem ..)⟩

/-- The bytes that VSCALE writes: the code of each lane of VA (R195). -/
def vscaleBytes (f : Fmt) (th : Thread) (w : Nat) : Bytes := (lanesOf 0 (th.v (wVa w))).map (fun x => BitVec.ofNat 8 (vscale f (wMod w) (ofF32 x)))

theorem vscale_putsVd {s : State} {f : Fmt} (h : s.issues g t (isOp 5 0x05) (vKeys true true false false false) = true)
    (hf : mxFmt (wType (s.word g t)) = some f) : PutsVd (.vscale g t) s g t (leNat (vscaleBytes f (s.thread g t) (s.word g t))) := by
  obtain ⟨-, hm⟩ := vscale_legal h
  refine vector_putVd (exec_vscale g t s) h ?_ rfl rfl rfl
  rw [vscaleEffect, hf, Nat.mod_eq_of_lt hm]
  rfl

theorem PutsVd.some_value {s : State} {x : Nat} (h : PutsVd c s g t x) : Completes c s (fun u =>
    (∃ v, u.thread g t = ((s.thread g t).setV (wVd (s.word g t)) v).advance) ∧ u.mem = s.mem ∧ OtherThreads g t s u) :=
  Completes.mono h (fun _ hu => hu.imp_left (Exists.intro x))

end

/-! ### Instructions that write several registers -/

/-- From state s to state u thread t of core g went on to the next instruction of its image, and no vector register but those listed has changed; cores, memory and every other thread are as they were. -/
structure State.WritesRegs (s u : State) (g t : Nat) (rs : List Nat) : Prop where
  cores : u.cores = s.cores
  mem : u.mem = s.mem
  others : OtherThreads g t s u
  pc : (u.thread g t).pc = (s.thread g t).pc + 8
  asid : (u.thread g t).asid = (s.thread g t).asid
  imgVa : (u.thread g t).imgVa = (s.thread g t).imgVa
  imgCrc : (u.thread g t).imgCrc = (s.thread g t).imgCrc
  regs : ∀ r, r ∉ rs → (u.thread g t).v r = (s.thread g t).v r

namespace State.WritesRegs

theorem dadd {s u : State} {g t : Nat} {rs : List Nat} (h : s.WritesRegs u g t rs) (i j n : Nat) : s.WritesRegs (u.dadd i j n) g t rs := by
  have ht (g' t' : Nat) : (u.dadd i j n).thread g' t' = u.thread g' t' := State.thread_of_threads (State.dadd_threads ..) g' t'
  obtain ⟨hc, hm, ho, hp, ha, hv, hx, hr⟩ := h
  refine ⟨(State.dadd_cores ..).trans hc, (State.dadd_mem ..).trans hm, fun g' t' hlt hne => (ht g' t').trans (ho g' t' hlt hne), ?_, ?_, ?_, ?_, fun r hn => ?_⟩
  · rw [ht, hp]
  · rw [ht, ha]
  · rw [ht, hv]
  · rw [ht, hx]
  · rw [ht, hr r hn]

/-- The next state of a vector instruction whose effect writes the registers listed: beside it the instruction only counts its issue cycle (R186). -/
theorem completes {c : Instr} {s : State} {g : Fin 384} {t : Fin 32} {cls op : Nat} {regs : Nat → Regs} {effect : State → Thread → Nat → State} {rs : List Nat}
    (hx : exec c s = s.vector g t cls op regs effect) (h : s.issues g t (isOp cls op) regs = true)
    (he : s.WritesRegs (effect s (s.thread g t) (s.word g t)) g t rs) : Completes c s (fun u => s.WritesRegs u g t rs) := by
  have hd := he.dadd 0x3003 (coreDie g + 1) 1
  refine completes_of_next (hx.trans (State.issueInstr_effect h rfl ?_)) hd
  exact State.checkPc_next s _ g t (State.issues_room _ _ _ _ _ h) (State.imageOf_of _ _ _ _ hd.cores hd.asid hd.imgVa hd.imgCrc) hd.pc

variable {s : State} {g t : Nat} {rs : List Nat} {th : Thread}

/-- A thread that went on with other values in the registers listed. -/
theorem setThread (ht : t < 32) (hp : th.pc = (s.thread g t).pc + 8) (ha : th.asid = (s.thread g t).asid) (hv : th.imgVa = (s.thread g t).imgVa)
    (hx : th.imgCrc = (s.thread g t).imgCrc) (hr : ∀ r, r ∉ rs → th.v r = (s.thread g t).v r) : s.WritesRegs (s.setThread g t th) g t rs := by
  have hth := s.thread_setThread g t th
  refine ⟨rfl, rfl, fun g' t' hlt hne => State.thread_setThread_other _ _ _ _ _ _ (threadKey_ne ht hlt.2 hne), ?_, ?_, ?_, ?_, fun r hn => ?_⟩
  · rw [hth, hp]
  · rw [hth, ha]
  · rw [hth, hv]
  · rw [hth, hx]
  · rw [hth, hr r hn]

theorem putVd (ht : t < 32) {w : Nat} (hm : wVd w ∈ rs) (v : Nat) : s.WritesRegs (s.putVd g t (s.thread g t) w v) g t rs :=
  setThread ht rfl rfl rfl rfl (fun r hr => Thread.v_setV_other _ (fun e : r = wVd w => hr (e ▸ hm)) v)

/-- A second destination in the same register writes that register alone (log 27). -/
theorem clash {u : State} (h : s.WritesRegs u g t rs) (ht : t < 32) {r : Nat} (hm : r ∈ rs) (w : Nat) (same : Bool) (x y : Nat) :
    s.WritesRegs (u.clash g t w same r x y) g t rs := by
  unfold State.clash
  split
  · obtain ⟨hc, hmem, ho, hp, ha, hv, hx, hr⟩ := h
    have hth (th : Thread) := u.thread_setThread g t th
    refine ⟨hc, hmem, fun g' t' hlt hne => (State.thread_setThread_other _ _ _ _ _ _ (threadKey_ne ht hlt.2 hne)).trans (ho g' t' hlt hne), ?_, ?_, ?_, ?_,
      fun q hn => ?_⟩
    · rw [hth, Thread.setV_pc, hp]
    · rw [hth, Thread.setV_asid, ha]
    · rw [hth, Thread.setV_imgVa, hv]
    · rw [hth, Thread.setV_imgCrc, hx]
    · rw [hth, Thread.v_setV_other _ (fun e : q = r => hn (e ▸ hm)), hr q hn]
  · exact h

end State.WritesRegs

/-- VQUANT to an integer format writes VD (R193). -/
theorem quantIntEffect_writesRegs (s : State) {g t w : Nat} (ht : t < 32) : s.WritesRegs (quantIntEffect g t s (s.thread g t) w) g t [wVd w] :=
  .putVd ht List.mem_cons_self _

/-- VQUANT to an MX format writes VD and VC (R193). -/
theorem quantMxEffect_writesRegs (f : Fmt) (s : State) {g t w : Nat} (ht : t < 32) :
    s.WritesRegs (quantMxEffect f g t s (s.thread g t) w) g t [wVd w, wVc w] := by
  refine .clash ?_ ht List.mem_cons_self ..
  refine .setThread ht rfl rfl rfl rfl (fun r hr => ?_)
  simp only [List.mem_cons, List.not_mem_nil, or_false, not_or] at hr
  rw [Thread.advance_v, Thread.v_setV_other _ hr.2, Thread.v_setV_other _ hr.1]

theorem vquant_writesRegs {s : State} {g : Fin 384} {t : Fin 32} (h : s.issues g t (isOp 5 0x02) vquantRegs = true) :
    Completes (.vquant g t) s (fun u => s.WritesRegs u g t
      (if isMxType (wType (s.word g t)) = true then [wVd (s.word g t), wVc (s.word g t)] else [wVd (s.word g t)])) := by
  refine State.WritesRegs.completes (exec_vquant g t s) h ?_
  rw [isMxType_eq_isSome, vquantEffect]
  cases mxFmt (wType (s.word g t)) with
  | some f => exact quantMxEffect_writesRegs f s t.isLt
  | none => exact quantIntEffect_writesRegs s t.isLt

/-- Settles O9, operation by operation. -/
theorem vectorWritesVd : Obligations.VectorWritesVd := by
  intro g t
  refine ⟨fun c op hc => ?_, fun s h => vector_putVd (exec_vsel g t s) h rfl rfl rfl rfl, fun s h => vector_putVd (exec_vbcast g t s) h rfl rfl rfl rfl,
    vrsum_writesVd, fun c op hc s h => ?_, fun s h => (vector_putVd (exec_vcvt g t s) h rfl rfl rfl rfl).some_value, fun s h => ?_, fun s h => ?_, fun s h => ?_⟩
  · simp only [List.mem_cons, Prod.mk.injEq, List.not_mem_nil, or_false] at hc
    obtain ⟨rfl, rfl⟩ | ⟨rfl, rfl⟩ | ⟨rfl, rfl⟩ | ⟨rfl, rfl⟩ | ⟨rfl, rfl⟩ | ⟨rfl, rfl⟩ | ⟨rfl, rfl⟩ | ⟨rfl, rfl⟩ | ⟨rfl, rfl⟩ | ⟨rfl, rfl⟩ := hc
    · exact sfu_writesVd (exec_vexp g t)
    · exact sfu_writesVd (exec_vexp2 g t)
    · exact sfu_writesVd (exec_vln g t)
    · exact sfu_writesVd (exec_vlog2 g t)
    · exact sfu_writesVd (exec_vrcp g t)
    · exact sfu_writesVd (exec_vrsqrt g t)
    · exact sfu_writesVd (exec_vtanh g t)
    · exact sfu_writesVd (exec_vsigmoid g t)
    · exact sfu_writesVd (exec_vsinpi g t)
    · exact sfu_writesVd (exec_vcospi g t)
  · simp only [List.mem_cons, Prod.mk.injEq, List.not_mem_nil, or_false] at hc
    obtain ⟨rfl, rfl⟩ | ⟨rfl, rfl⟩ := hc
    · exact (vector_putVd (exec_vrmax g t s) h rfl rfl rfl rfl).some_value
    · exact (vector_putVd (exec_vrmin g t s) h rfl rfl rfl rfl).some_value
  · obtain ⟨_, hv⟩ := vdequant_putsVd h
    exact hv.some_value
  · obtain ⟨f, hf⟩ := Option.isSome_iff_exists.mp ((isMxType_eq_isSome _).symm.trans (vscale_legal h).1)
    exact (vscale_putsVd h hf).some_value
  · refine (vquant_writesRegs h).mono (fun u hu => ⟨hu.pc, hu.mem, hu.others, fun r hd hc => hu.regs r ?_⟩)
    split
    · simp [hd, hc ‹_›]
    · simp [hd]

end Sys2Proof.Machine
end

section
/-! SUPPORT. Gathers, scatters and plane split (R199 to R202): the lanes of a scatter, one after the other, leave every byte outside their elements. -/

namespace Sys2Proof.Machine

/-! ### Scatters -/

/-- From state s to state u no thread and no core has changed, and no byte outside the elements of z bytes at the offsets listed, in the scratch of core g. -/
structure State.ScattersTo (s u : State) (g z : Nat) (os : List (Option Nat)) : Prop where
  cores : u.cores = s.cores
  threads : u.threads = s.threads
  byte : ∀ a, (∀ o, some o ∈ os → a < scratchLpa g o ∨ scratchLpa g o + z ≤ a) → u.byte a = s.byte a

namespace State.ScattersTo
variable {s u : State} {g z : Nat} {os : List (Option Nat)}

theorem refl (s : State) : s.ScattersTo s g z os := ⟨rfl, rfl, fun _ _ => rfl⟩

/-- Counting changes no byte. -/
theorem dadd (h : s.ScattersTo u g z os) (i j n : Nat) : s.ScattersTo (u.dadd i j n) g z os :=
  ⟨(State.dadd_cores ..).trans h.cores, (State.dadd_threads ..).trans h.threads,
    fun a ha => (State.byte_of _ _ a (State.dadd_mem ..) (State.dadd_longs ..) (State.dadd_cache ..)).trans (h.byte a ha)⟩

theorem invalidLanes (h : s.ScattersTo u g z os) (n : Nat) : s.ScattersTo (u.invalidLanes g n) g z os := by
  unfold State.invalidLanes
  split
  · exact h
  · exact h.dadd ..

/-- An element stored at one of the offsets. -/
theorem store (h : s.ScattersTo u g z os) (hg : g < 384) {o : Nat} (hm : some o ∈ os) (hs : o + z ≤ 0x300000) (x : Nat) :
    s.ScattersTo (u.store (scratchLpa g o) (natLe z x)) g z os := by
  refine ⟨(State.store_cores ..).trans h.cores, (State.store_keeps (part := State.threads) (fun _ _ => rfl) ..).trans h.threads, fun a ha => ?_⟩
  rw [u.byte_store_scratch hg (natLe z x) (by rwa [natLe_length]) a (by rw [natLe_length]; exact ha o hm)]
  exact h.byte a ha

/-- The lanes take effect one after the other; each that names an element changes no byte outside it. -/
theorem lanes {f : State → Option Nat × Nat → State} (hf : ∀ v p, p.1 ∈ os → s.ScattersTo v g z os → s.ScattersTo (f v p) g z os)
    (h : s.ScattersTo u g z os) (xs : List Nat) : s.ScattersTo ((os.zip xs).foldl f u) g z os :=
  List.foldlRecOn (motive := fun v => s.ScattersTo v g z os) _ f h (fun v hv _ hp => hf v _ (List.of_mem_zip hp).1 hv)

end State.ScattersTo

/-- An offset that passes the check lies within scratch with its element. -/
theorem offsetsOk_fits {z o : Nat} {os : List (Option Nat)} (h : offsetsOk z os = true) (hm : some o ∈ os) : o + z ≤ 0x300000 := by
  have hk := List.all_eq_true.mp h _ hm
  simp only [inScratch, Bool.and_eq_true, decide_eq_true_eq] at hk
  exact hk.1

section
variable {s : State} {g : Fin 384} {t : Fin 32} {w : Nat}

/-- VSCATTER stores lane after lane and goes on (R201, R202). -/
theorem vscatterEffect_next (ho : offsetsOk (laneBytes (wType w)) (laneOffsets (s.thread g t) w) = true) :
    ∃ v, vscatterEffect g t s (s.thread g t) w = v.next g t ∧ s.ScattersTo v g (laneBytes (wType w)) (laneOffsets (s.thread g t) w) := by
  refine ⟨_, if_neg (by simp [ho]), .lanes (fun v p hp hv => ?_) ((State.ScattersTo.refl s).dadd ..) _⟩
  obtain ⟨_ | o, x⟩ := p
  · exact hv
  · exact hv.store g.isLt hp (offsetsOk_fits ho hp) x

/-- VSCATADD adds lane after lane and goes on (R201, R202). -/
theorem vscataddEffect_next (ho : offsetsOk (laneBytes (wType w)) (laneOffsets (s.thread g t) w) = true) :
    ∃ v, vscataddEffect g t s (s.thread g t) w = v.next g t ∧ s.ScattersTo v g (laneBytes (wType w)) (laneOffsets (s.thread g t) w) := by
  refine ⟨_, if_neg (by simp [ho]), .lanes (fun v p hp hv => ?_) ((State.ScattersTo.refl s).dadd ..) _⟩
  obtain ⟨_ | o, x⟩ := p
  · exact hv
  · exact (hv.invalidLanes _).store g.isLt hp (offsetsOk_fits ho hp) _

/-- A vector instruction whose effect is to scatter and to go on. -/
theorem vector_scatters {c : Instr} {cls op z : Nat} {regs : Nat → Regs} {effect : State → Thread → Nat → State} {os : List (Option Nat)}
    (hx : exec c s = s.vector g t cls op regs effect) (h : s.issues g t (isOp cls op) regs = true)
    (he : ∃ v, effect s (s.thread g t) (s.word g t) = v.next g t ∧ s.ScattersTo v g z os) :
    Completes c s (fun u => u.thread g t = (s.thread g t).advance ∧ OtherThreads g t s u ∧
      ∀ a, (∀ o, some o ∈ os → a < scratchLpa g o ∨ scratchLpa g o + z ≤ a) → u.byte a = s.byte a) := by
  obtain ⟨v, hv, hs⟩ := he
  have hth (g' t' : Nat) : v.thread g' t' = s.thread g' t' := State.thread_of_threads hs.threads g' t'
  have hn : v.next g t = v.setThread g t (s.thread g t).advance := by rw [State.next, hth]
  rw [hn] at hv
  refine completes_of_next (hx.trans (State.issueInstr_effect h (congrArg (State.dadd · 0x3003 (coreDie g + 1) 1) hv)
    (State.checkPc_setThread_dadd s v g t _ _ _ _ (State.issues_room _ _ _ _ _ h) hs.cores rfl rfl rfl rfl))) ⟨?_, fun g' t' hlt hne => ?_, fun a ha => ?_⟩
  · exact (State.thread_of_threads (State.dadd_threads ..) g t).trans (State.thread_setThread ..)
  · rw [State.thread_of_threads (State.dadd_threads ..) g' t', State.thread_setThread_other _ _ _ _ _ _ (threadKey_ne t.isLt hlt.2 hne), hth]
  · calc State.byte _ a = (v.setThread g t (s.thread g t).advance).byte a :=
          State.byte_of _ _ a (State.dadd_mem ..) (State.dadd_longs ..) (State.dadd_cache ..)
      _ = v.byte a := State.byte_of _ _ a rfl rfl rfl
      _ = s.byte a := hs.byte a ha

end

/-! ### Plane split -/

/-- VSPLIT writes VD, VC and VB (R199), also where two of them are one register (log 27). -/
theorem vsplitEffect_writesRegs (s : State) {g t w : Nat} (ht : t < 32) :
    s.WritesRegs (vsplitEffect g t s (s.thread g t) w) g t [wVd w, wVc w, wVb w] := by
  refine .clash (.clash ?_ ht ?_ ..) ht ?_ ..
  · refine .setThread ht rfl rfl rfl rfl (fun r hr => ?_)
    simp only [List.mem_cons, List.not_mem_nil, or_false, not_or] at hr
    obtain ⟨hd, hc, hb⟩ := hr
    rw [Thread.advance_v, Thread.v_setV_other _ hb, Thread.v_setV_other _ hc, Thread.v_setV_other _ hd]
  · simp
  · simp

/-- Settles O10: the gather, the two scatters, and the plane split. -/
theorem gatherScatter : Obligations.GatherScatter := by
  intro s g t
  refine ⟨fun h ho => ?_, fun c op hc h ho => ?_, fun h => ?_⟩
  · have hp := vector_putVd (exec_vgather g t s) h (if_neg (by simp [ho])) (State.dadd_cores ..) (State.dadd_threads ..) (State.dadd_mem ..)
    exact Completes.mono hp (fun u ⟨hth, hm, _⟩ => ⟨hm, hth⟩)
  · simp only [List.mem_cons, Prod.mk.injEq, List.not_mem_nil, or_false] at hc
    obtain ⟨rfl, rfl⟩ | ⟨rfl, rfl⟩ := hc
    · exact vector_scatters (exec_vscatter g t s) h (vscatterEffect_next ho)
    · exact vector_scatters (exec_vscatadd g t s) h (vscataddEffect_next ho)
  · have hw := State.WritesRegs.completes (exec_vsplit g t s) h (vsplitEffect_writesRegs s t.isLt)
    exact hw.mono (fun u hu => ⟨hu.mem, hu.others, hu.pc, fun r hd hb hc => hu.regs r (by simp [hd, hb, hc])⟩)

end Sys2Proof.Machine
end

section
/-! SUPPORT. E8M0 scale selection (R195): magnitudes compared as rationals, the code that VSCALE chooses, and the bytes that it writes. -/

namespace Sys2Proof.Machine

/-! ### Magnitudes -/

/-- A magnitude brought to a lower exponent is the same number. -/
theorem shifted_mul_zpow (m : Nat) {e lo : Int} (h : lo ≤ e) : ((m <<< (e - lo).toNat : Nat) : ℚ) * 2 ^ lo = (m : ℚ) * 2 ^ e := by
  have hk : ((e - lo).toNat : Int) + lo = e := by omega
  rw [Nat.shiftLeft_eq, Nat.cast_mul, Nat.cast_pow, Nat.cast_ofNat, mul_assoc, ← zpow_natCast, ← zpow_add₀ two_ne_zero, hk]

/-- The comparison is exact. -/
theorem magGt_iff (m1 : Nat) (e1 : Int) (m2 : Nat) (e2 : Int) : magGt m1 e1 m2 e2 = true ↔ (m2 : ℚ) * 2 ^ e2 < (m1 : ℚ) * 2 ^ e1 := by
  rw [← shifted_mul_zpow m1 (min_le_left e1 e2), ← shifted_mul_zpow m2 (min_le_right e1 e2), mul_lt_mul_iff_of_pos_right (zpow_pos two_pos _), Nat.cast_lt]
  exact decide_eq_true_iff

/-! ### The code -/

/-- The largest magnitude of a format under the scale of code x (R195). -/
def Fmt.scaledMax (f : Fmt) (x : Nat) : ℚ := (f.maxM : ℚ) * 2 ^ (f.maxE + ((x : Int) - 127))

theorem Fmt.scaledMax_mono (f : Fmt) {x y : Nat} (h : x ≤ y) : f.scaledMax x ≤ f.scaledMax y :=
  mul_le_mul_of_nonneg_left (zpow_le_zpow_right₀ one_le_two (by omega)) (Nat.cast_nonneg _)

/-- The codes under which a magnitude does not exceed the largest. -/
theorem not_magGt_iff (f : Fmt) (m : Nat) (e : Int) (x : Nat) : (!magGt m e f.maxM (f.maxE + (x : Int) - 127)) = true ↔ (m : ℚ) * 2 ^ e ≤ f.scaledMax x := by
  rw [Bool.not_eq_true', Bool.eq_false_iff, ne_eq, magGt_iff, not_lt, Fmt.scaledMax, add_sub_assoc]

theorem vscale_nonfinite (f : Fmt) (h : Nat) {a : Val} (ha : a.nonfinite = true) : vscale f h a = 0xFF := by
  cases a with
  | nan => rfl
  | inf n => rfl
  | fin n m e => cases ha

theorem vscale_zero (f : Fmt) (h : Nat) {a : Val} (ha : a.isZero = true) : vscale f h a = 0x7F := by
  cases a with
  | nan => cases ha
  | inf n => cases ha
  | fin n m e => exact if_pos (by simpa [Val.isZero] using ha)

section
variable (f : Fmt) (h : Nat) (n : Bool) {m : Nat} {e : Int}

/-- A magnitude beyond the largest under the last scale takes that scale. -/
theorem vscale_beyond (hm : m ≠ 0) (hb : f.scaledMax 254 < (m : ℚ) * 2 ^ (e + h)) : vscale f h (.fin n m e) = 0xFE := by
  have hnone : (List.range 255).find? (fun (x : Nat) => !magGt m (e + h) f.maxM (f.maxE + (x : Int) - 127)) = none := by
    refine List.find?_eq_none.mpr (fun x hx => ?_)
    rw [not_magGt_iff, not_le]
    exact (f.scaledMax_mono (Nat.le_of_lt_succ (List.mem_range.mp hx))).trans_lt hb
  rw [vscale, if_neg hm, hnone, Option.getD_none]

/-- Any other magnitude takes the smallest scale under which it does not exceed the largest. -/
theorem vscale_smallest (hm : m ≠ 0) (hb : (m : ℚ) * 2 ^ (e + h) ≤ f.scaledMax 254) :
    vscale f h (.fin n m e) ≤ 0xFE ∧ (m : ℚ) * 2 ^ (e + h) ≤ f.scaledMax (vscale f h (.fin n m e)) ∧
      ∀ x : Nat, (m : ℚ) * 2 ^ (e + h) ≤ f.scaledMax x → vscale f h (.fin n m e) ≤ x := by
  obtain ⟨y, hy⟩ : ∃ y, (List.range 255).find? (fun (x : Nat) => !magGt m (e + h) f.maxM (f.maxE + (x : Int) - 127)) = some y :=
    Option.isSome_iff_exists.mp (List.find?_isSome.mpr ⟨254, List.mem_range.mpr (by decide), (not_magGt_iff ..).mpr hb⟩)
  have hv : vscale f h (.fin n m e) = y := by rw [vscale, if_neg hm, hy, Option.getD_some]
  obtain ⟨hp, hlt, hmin⟩ := List.find?_range_eq_some.mp hy
  rw [hv]
  refine ⟨Nat.le_of_lt_succ (List.mem_range.mp hlt), (not_magGt_iff ..).mp hp, fun x hx => not_lt.mp (fun hxy => ?_)⟩
  have hn := hmin x hxy
  rw [(not_magGt_iff ..).mpr hx] at hn
  cases hn

end

theorem vscale_le (f : Fmt) (h : Nat) (a : Val) : vscale f h a ≤ 0xFF := by
  cases a with
  | nan => exact le_rfl
  | inf n => exact le_rfl
  | fin n m e =>
    by_cases hm : m = 0
    · exact (vscale_zero f h (a := .fin n m e) (by simp [Val.isZero, hm])).trans_le (by decide)
    · rcases lt_or_ge (f.scaledMax 254) ((m : ℚ) * 2 ^ (e + h)) with hb | hb
      · exact (vscale_beyond f h n hm hb).trans_le (by decide)
      · exact (vscale_smallest f h n hm hb).1.trans (by decide)

/-! ### The instruction -/

/-- Byte n is the code of lane n; there are 64 lanes. -/
theorem field_vscaleBytes (f : Fmt) (th : Thread) (w n : Nat) : field (leNat (vscaleBytes f th w)) (8 * n) 8 =
    if n < 64 then vscale f (wMod w) (ofF32 (field (th.v (wVa w)) (32 * n) 32)) else 0 := by
  rw [field_leNat, List.getD_eq_getElem?_getD, vscaleBytes, List.getElem?_map]
  split
  · rw [lanesOf_getElem? 0 _ ‹_›]
    exact Nat.mod_eq_of_lt (Nat.lt_succ_of_le (vscale_le ..))
  · rw [List.getElem?_eq_none (by simpa [lanesOf, laneBytes] using ‹¬ n < 64›)]
    rfl

/-- The codes fit in VD. -/
theorem leNat_vscaleBytes_lt (f : Fmt) (th : Thread) (w : Nat) : leNat (vscaleBytes f th w) < 2 ^ 2048 := by
  have hl : (vscaleBytes f th w).length = 64 := by simp [vscaleBytes, lanesOf, laneBytes]
  have hlt : leNat (vscaleBytes f th w) < (2 ^ 8) ^ 64 := hl ▸ leNat_lt _
  rw [← Nat.pow_mul] at hlt
  exact hlt.trans_le (Nat.pow_le_pow_right two_pos (by decide))

/-- Settles O11: the cases of the table, and the bytes of VD. -/
theorem vscaleCode : Obligations.VscaleCode := by
  refine ⟨fun ty f h a _ _ => ⟨vscale_nonfinite f h, vscale_zero f h, ?_⟩, fun s g t f h hf => ?_⟩
  · rintro n m e rfl hm
    exact ⟨vscale_beyond f h n hm, vscale_smallest f h n hm⟩
  · refine Completes.mono (vscale_putsVd h hf) (fun u ⟨hth, _⟩ n => ?_)
    rw [hth, Thread.advance_v, Thread.v_setV_same, Nat.mod_eq_of_lt (leNat_vscaleBytes_lt ..)]
    exact field_vscaleBytes ..

end Sys2Proof.Machine
end

section
/-! SUPPORT. The scale sweep (R207): what one block is left with, rule by rule in the order of the pass, and what every outcome has in common. -/

namespace Sys2Proof.Machine

/-- A bit as the specification's arithmetic on the status reads it. -/
theorem bit_eq_decide (n i : Nat) : bit n i = decide (n / 2 ^ i % 2 = 1) := by
  rw [bit, field_eq, Nat.pow_one]
  rfl

section
variable {h st x q : Nat} {skipped : Bool}

/-- A NaN scale is left for the driver to reseed. -/
theorem sweepBlock_nanScale : sweepBlock h skipped st 0xFF q = (0xFF, q, [0, 0, 0, ofBool (bit st 2), 1, 0]) := by
  simp [sweepBlock]

/-- An overflow doubles the scale and ends the quiet run, in a skipped step too (R208). -/
theorem sweepBlock_double (hx : x < 0xFE) (ho : bit st 0 = true) :
    sweepBlock h skipped st x q = (x + 1, 0, [1, 0, 0, ofBool (bit st 2), 0, 0]) := by
  have hn : x ≠ 255 := by omega
  simp [sweepBlock, hn, ho, hx]

/-- An overflow at the largest scale is counted and ends the quiet run. -/
theorem sweepBlock_atLimit (ho : bit st 0 = true) :
    sweepBlock h skipped st 0xFE q = (0xFE, 0, [0, 1, 0, ofBool (bit st 2), 0, 0]) := by
  simp [sweepBlock, ho]

/-- A skipped step without overflow moves neither the scale nor the quiet count. -/
theorem sweepBlock_skipped (hx : x < 0xFF) (ho : bit st 0 = false) :
    sweepBlock h true st x q = (x, q, [0, 0, 0, ofBool (bit st 2), 0, 0]) := by
  simp [sweepBlock, hx.ne, ho]

/-- Headroom below a factor of 4 ends the quiet run. -/
theorem sweepBlock_noHeadroom (hx : x < 0xFF) (ho : bit st 0 = false) (hr : bit st 1 = true) :
    sweepBlock h false st x q = (x, 0, [0, 0, 0, ofBool (bit st 2), 0, 1]) := by
  simp [sweepBlock, hx.ne, ho, hr]

/-- A quiet step is counted; the one that completes the run halves the scale and starts the next run. -/
theorem sweepBlock_quiet (hx : x < 0xFF) (ho : bit st 0 = false) (hr : bit st 1 = false) :
    sweepBlock h false st x q =
      if h ≠ 0 ∧ h ≤ min (q + 1) 0xFFFF ∧ 0 < x then (x - 1, 0, [0, 0, 1, ofBool (bit st 2), 0, 0])
      else (x, min (q + 1) 0xFFFF, [0, 0, 0, ofBool (bit st 2), 0, 0]) := by
  simp only [sweepBlock, hx.ne, ho, hr, if_false, Bool.false_eq_true]

/-- MASKED is counted whatever becomes of the scale (R213). -/
theorem sweepBlock_masked : (sweepBlock h skipped st x q).2.2.getD 3 0 = ofBool (bit st 2) := by
  unfold sweepBlock
  dsimp only
  split_ifs <;> rfl

/-- A scale stays a number and moves by one step at most: only an overflow below the limit raises it. -/
theorem sweepBlock_scale_bounds (hx : x < 0xFF) :
    (sweepBlock h skipped st x q).1 < 0xFF ∧ (sweepBlock h skipped st x q).1 ≤ x + 1 ∧ x ≤ (sweepBlock h skipped st x q).1 + 1 := by
  cases ho : bit st 0 with
  | true =>
    rcases Nat.lt_or_ge x 0xFE with hl | hl
    · rw [sweepBlock_double hl ho]
      omega
    · obtain rfl : x = 0xFE := by omega
      rw [sweepBlock_atLimit ho]
      omega
  | false =>
    cases skipped with
    | true =>
      rw [sweepBlock_skipped hx ho]
      omega
    | false =>
      cases hr : bit st 1 with
      | true =>
        rw [sweepBlock_noHeadroom hx ho hr]
        omega
      | false =>
        rw [sweepBlock_quiet hx ho hr]
        split <;> dsimp only <;> omega

end

/-- Settles O16, rule by rule. -/
theorem scaleSweepRule : Obligations.ScaleSweepRule := by
  intro h st x q skipped _ _
  have overflow : st % 2 = 1 → bit st 0 = true := by simp [bit_eq_decide]
  have fits : st % 2 = 0 → bit st 0 = false := fun e => by simp [bit_eq_decide, e]
  have tight : st / 2 % 2 = 1 → bit st 1 = true := by simp [bit_eq_decide]
  have roomy : st / 2 % 2 = 0 → bit st 1 = false := fun e => by simp [bit_eq_decide, e]
  refine ⟨?_, ?_, ?_, ?_, ?_, ?_, ?_, ?_, sweepBlock_scale_bounds⟩
  · rintro rfl
    simp [sweepBlock_nanScale]
  · intro hx ho
    simp [sweepBlock_double hx (overflow ho)]
  · rintro rfl ho
    simp [sweepBlock_atLimit (overflow ho)]
  · rintro hx ho rfl
    simp [sweepBlock_skipped hx (fits ho)]
  · rintro hx ho rfl hr
    simp [sweepBlock_noHeadroom hx (fits ho) (tight hr)]
  · rintro hx ho rfl hr hh hq h0
    rw [sweepBlock_quiet hx (fits ho) (roomy hr), if_pos ⟨hh, hq, h0⟩]
    exact ⟨rfl, rfl, rfl⟩
  · rintro hx ho rfl hr hc
    rw [sweepBlock_quiet hx (fits ho) (roomy hr), if_neg (by omega)]
    exact ⟨rfl, rfl⟩
  · rw [sweepBlock_masked, bit_eq_decide]
    simp [ofBool]

end Sys2Proof.Machine
end

section
/-! SUPPORT. The memory slices (R254 to R260): a request served in its turn, the bytes that answer a read, the fill that a miss leaves outstanding, writes and write-adds whose line holds what they need, and an Eaves fill that is installed. -/

namespace Sys2Proof.Machine

/-! ### Requests in their turn -/

theorem Req.target_of_sliceLpa {r : Req} {a : Nat} (h : r.sliceLpa = some a) : r.target = .here a := by
  unfold Req.sliceLpa at h
  split at h
  · split at h
    · cases h
      assumption
    · cases h
  · cases h

section
variable {s : State} {id a : Nat} {p : ReqKind → Bool} {r : Req} (h : s.atSlice id p = some (r, a))
include h

/-- What waits at its slice is a tracked request of the kind, for a local address. -/
theorem State.atSlice_inv : s.req id = some r ∧ r.target = .here a ∧ p r.kind = true := by
  unfold State.atSlice at h
  split at h
  · rename_i q hq
    split at h
    · rename_i b hb
      split at h
      · rename_i hk
        cases h
        exact ⟨hq, Req.target_of_sliceLpa hb, (Bool.and_eq_true_iff.mp hk).1⟩
      · cases h
    · cases h
  · cases h

theorem State.serveAt_inTurn (ht : s.inTurn r = true) (k : Req → Nat → State) : s.serveAt id p k = .next (k r a) := by
  rw [State.serveAt, h]
  exact congrArg (fun c => when c s (k r a)) ht

end

/-! ### What an access at the slice leaves alone -/

theorem State.outcome_trans (s : State) (die useful late unused : Nat) : (s.outcome die useful late unused).trans = s.trans := by simp [State.outcome]

theorem State.loftTouch_trans (s : State) (l : LoftLine) : (s.loftTouch l).trans = s.trans := by
  unfold State.loftTouch
  split
  · exact s.outcome_trans _ 1 0 0
  · rfl

/-- Exporting the line leaves the requests and what is stored as the request performed left them. -/
theorem State.serve_keeps (s : State) (r : Req) (line : Nat) :
    (s.serve r line).stored = (s.perform r).stored ∧ (s.serve r line).trans = (s.perform r).trans := by
  unfold State.serve
  dsimp only
  split
  · exact ⟨rfl, rfl⟩
  · exact ⟨rfl, rfl⟩

theorem State.countIrregular_keeps (s : State) (r : Req) (line : Nat) (asked : BitVec 8) :
    (s.countIrregular r line asked).cache = s.cache ∧ (s.countIrregular r line asked).trans = s.trans := by
  unfold State.countIrregular
  split
  · exact ⟨State.dadd_cache .., State.dadd_trans ..⟩
  · exact ⟨rfl, rfl⟩

/-! ### Loads performed (R255) -/

theorem State.perform_load {s : State} {r : Req} {a : Nat} (ht : r.target = .here a) (hk : r.kind = .load) :
    s.perform r = s.mapReq r.id (fun q => { q with done := true, data := s.read (r.span a).1 (r.span a).2, poison := s.poisonedAt a r.len }) := by
  rw [State.perform, ht]
  dsimp only
  rw [hk]

/-- A tracked load that is served has the bytes of memory as its answer, and memory stays as it was. -/
theorem State.serve_load {s : State} {r : Req} {a : Nat} (hr : r ∈ s.trans.reqs) (ht : r.target = .here a) (hk : r.kind = .load) (line : Nat) :
    (s.serve r line).mem = s.mem ∧
      ∃ q ∈ (s.serve r line).trans.reqs, q.id = r.id ∧ q.done = true ∧ q.data = s.read (r.span a).1 (r.span a).2 := by
  obtain ⟨hstored, htrans⟩ := s.serve_keeps r line
  rw [State.perform_load ht hk] at hstored htrans
  refine ⟨congrArg (fun x => x.2.2) hstored, ?_⟩
  rw [htrans]
  exact ⟨_, mem_mapIf hr (beq_self_eq_true r.id), rfl, rfl, rfl⟩

/-- The state in which a hit is served: the access counted, and its line the most recently used one. -/
def State.hitBy (s : State) (a : Nat) (l : LoftLine) : State := (s.dadd 0x3500 (lpaDie (s.line a * 256) + 1) 1).loftTouch l

theorem State.hitBy_keeps (s : State) (a : Nat) (l : LoftLine) : (s.hitBy a l).stored = s.stored ∧ (s.hitBy a l).trans = s.trans :=
  ⟨(State.loftTouch_stored _ _).trans (State.dadd_stored ..), (State.loftTouch_trans _ _).trans (State.dadd_trans ..)⟩

/-! ### With no fill outstanding for the line (R255 to R257) -/

section
variable {s : State} {r : Req} {a : Nat} {l : LoftLine} (hf : s.fill (s.line a) = none)
include hf

theorem State.sliceRead_hit (hl : s.loftLine (s.line a) = some l) (hv : l.valid &&& sectorMask a r.len = sectorMask a r.len) :
    s.sliceRead r a .clean = (s.hitBy a l).serve r (s.line a) := by
  simp only [State.sliceRead, hf, hl, if_pos hv]
  rfl

theorem State.sliceRead_absent (hl : s.loftLine (s.line a) = none) (e : EccEvent) :
    s.sliceRead r a e = s.newFill (s.line a) r (if r.len = 256 then 0xFF else sectorMask a r.len) (r.alloc || r.eaves) := by
  simp only [State.sliceRead, hf, hl]

theorem State.sliceWrite_present (hl : s.loftLine (s.line a) = some l)
    (hv : l.valid &&& (sectorMask a r.len &&& ~~~wholeMask a r.len) = sectorMask a r.len &&& ~~~wholeMask a r.len) :
    s.sliceWrite r a .clean = s.perform r := by
  simp only [State.sliceWrite, hf, hl, if_pos hv]
  rfl

theorem State.sliceAdd_present (hl : s.loftLine (s.line a) = some l) (hv : l.valid &&& sectorMask a r.len = sectorMask a r.len) :
    s.sliceAdd r a .clean = s.perform r := by
  simp only [State.sliceAdd, hf, hl, if_pos hv]
  rfl

end

/-! ### Fills (R255, R259, R260) -/

/-- A new fill is the one outstanding for a line that had none, it holds its request, and it changes no request. -/
theorem State.newFill_outstanding {s : State} {line : Nat} (hf : s.fill line = none) (r : Req) (sectors : BitVec 8) (install : Bool) :
    (s.newFill line r sectors install).trans = s.trans ∧
      (s.newFill line r sectors install).fill line = some ⟨line, sectors, install, false, r.die, [r.id]⟩ := by
  obtain ⟨hcache, htrans⟩ := (s.dadd 0x3501 (lpaDie (line * 256) + 1) 1).countIrregular_keeps r line 0
  rw [State.dadd_cache] at hcache
  rw [State.dadd_trans] at htrans
  rw [State.fill] at hf
  refine ⟨htrans, ?_⟩
  simp only [State.newFill, State.fill, hcache, List.find?_append, hf, Option.none_or, List.find?_cons, beq_self_eq_true]

/-- The line of an Eaves fill stands in the cache once it is installed. -/
theorem State.eavesInstall_holds (s : State) (die line : Nat) (sectors : BitVec 8) (off : Nat) (bs : Bytes) :
    ∃ x ∈ (s.eavesInstall die line sectors off bs).cache.eaves, x.die = die ∧ x.line = line := by
  refine ⟨_, List.mem_cons_self, ?_⟩
  cases hx : s.cache.eaves.find? (fun l => l.die == die && l.line == line) with
  | none => exact ⟨rfl, rfl⟩
  | some x =>
    have hx := List.find?_some hx
    rw [Bool.and_eq_true, beq_iff_eq, beq_iff_eq] at hx
    exact hx

theorem State.eavesInstall_fills (s : State) (die line : Nat) (sectors : BitVec 8) (off : Nat) (bs : Bytes) :
    (s.eavesInstall die line sectors off bs).cache.eavesFills = s.cache.eavesFills := rfl

/-- The fill that has landed is no longer outstanding. -/
theorem State.landEaves_done (s : State) (f : EavesFill) (r : Req) : ∀ x ∈ (s.landEaves f r).cache.eavesFills, x.req ≠ f.req := by
  have hfills : (s.landEaves f r).cache.eavesFills = s.cache.eavesFills.filter (fun g => g.req != f.req) := by
    unfold State.landEaves
    dsimp only
    split
    · rw [State.dadd_cache]
      rfl
    · split
      · rfl
      · exact (State.eavesInstall_fills ..).trans (congrArg CacheState.eavesFills (State.dadd_cache ..))
  rw [hfills]
  exact fun x hx => by simpa using (List.mem_filter.mp hx).2

/-- A live fill whose data is sound is installed. -/
theorem State.landEaves_holds (s : State) {f : EavesFill} {r : Req} (hd : f.dead = false) (hp : r.poison = none) :
    ∃ x ∈ (s.landEaves f r).cache.eaves, x.die = f.die ∧ x.line = f.line := by
  unfold State.landEaves
  simp only [hd, hp, Option.isSome_none, Bool.false_eq_true, if_false]
  exact State.eavesInstall_holds ..

/-! ### The commands -/

theorem loftRead_hit_completes {s : State} {id a : Nat} {r : Req} {l : LoftLine} (h : s.atSlice id (· == .load) = some (r, a)) (ht : s.inTurn r = true)
    (hf : s.fill (s.line a) = none) (hl : s.loftLine (s.line a) = some l) (hv : l.valid &&& sectorMask a r.len = sectorMask a r.len) :
    Completes (.loftRead (.request id) .clean) s (fun u => u.mem = s.mem ∧
      ∃ q ∈ u.trans.reqs, q.id = r.id ∧ q.done = true ∧ q.data = s.read (r.span a).1 (r.span a).2) := by
  obtain ⟨hreq, htgt, hk⟩ := State.atSlice_inv h
  obtain ⟨hstored, htrans⟩ := s.hitBy_keeps a l
  have hmem : (s.hitBy a l).mem = s.mem := congrArg (fun x => x.2.2) hstored
  have hserve := State.serve_load (htrans ▸ List.mem_of_find?_eq_some hreq) htgt (beq_iff_eq.mp hk) (s.line a)
  rw [hmem, State.read_of_stored hstored, ← State.sliceRead_hit hf hl hv] at hserve
  exact completes_of_next (State.serveAt_inTurn h ht _) hserve

theorem loftRead_absent_completes {s : State} {id a : Nat} {r : Req} (h : s.atSlice id (· == .load) = some (r, a)) (ht : s.inTurn r = true)
    (hf : s.fill (s.line a) = none) (hl : s.loftLine (s.line a) = none) (e : EccEvent) :
    Completes (.loftRead (.request id) e) s (fun u => u.mem = s.mem ∧ u.trans = s.trans ∧ ∃ f, u.fill (s.line a) = some f ∧ f.held = [r.id]) := by
  refine completes_of_next (State.serveAt_inTurn h ht _) ?_
  rw [State.sliceRead_absent hf hl]
  obtain ⟨htrans, hfill⟩ := State.newFill_outstanding hf r (if r.len = 256 then 0xFF else sectorMask a r.len) (r.alloc || r.eaves)
  exact ⟨State.newFill_mem .., htrans, _, hfill, rfl⟩

theorem loftRead_line_completes {s : State} {n : Nat} (hv : s.alive = true) (hn : inTiers (n * 256) = true) (hf : s.fill n = none) (e : EccEvent) :
    Completes (.loftRead (.line n) e) s (fun u => u = s.readEcc n e ∧ u.mem = s.mem) := by
  refine completes_of_next ?_ ⟨rfl, State.readEcc_mem s n e⟩
  simp [execLoftRead, hv, hn, hf]

theorem eavesFillReturn_completes {s : State} {die : Fin 4} {line : Nat} {f : EavesFill} {r : Req} (h : s.eavesReady die line = some (f, r))
    (hd : f.dead = false) (hp : r.poison = none) :
    Completes (.eavesFillReturn die line) s (fun u => u.mem = s.mem ∧ (∃ x ∈ u.cache.eaves, x.die = f.die ∧ x.line = f.line) ∧
      ∀ x ∈ u.cache.eavesFills, x.req ≠ f.req) := by
  refine completes_of_next (u := s.landEaves f r) ?_ ⟨State.landEaves_mem .., s.landEaves_holds hd hp, s.landEaves_done f r⟩
  rw [exec_eavesFillReturn, execEavesFillReturn, h]

/-- Settles O17: a hit, a miss, a read served in one step, a write, a write-add, a Loft fill and an Eaves fill. -/
theorem loftSliceServes : Obligations.LoftSliceServes := by
  intro s id r a l
  refine ⟨loftRead_hit_completes, loftRead_absent_completes, fun n hv hn hf => loftRead_line_completes hv hn hf, ?_, ?_, ?_,
    fun die line f => eavesFillReturn_completes⟩
  · intro h ht hf hl hv
    rw [← State.sliceWrite_present hf hl hv]
    exact State.serveAt_inTurn h ht _
  · intro h ht hf hl hv
    rw [← State.sliceAdd_present hf hl hv]
    exact State.serveAt_inTurn h ht _
  · intro line f e h
    rw [exec_loftFillReturn, execLoftFillReturn, h]

end Sys2Proof.Machine
end

section
/-! SUPPORT. Invalidation (R288): the caches after a purge, the write of INVAL_COMMAND that is let through, and the end of the invalidations in progress. -/

namespace Sys2Proof.Machine

theorem findEntry_invalCommand : findEntry 0x2610 3 = some ⟨0x2610, 3, 3, "INVAL_COMMAND", 0x11, 1, .wo, .command, 0, 0, 0, 255⟩ := by rfl

theorem State.answerVia_trans (s : State) (via : Via) (code idx sub : Nat) : (s.answerVia via code idx sub).trans = s.trans := by
  unfold State.answerVia
  split
  · split <;> rfl
  · rfl
theorem State.answerVia_cores (s : State) (via : Via) (code idx sub : Nat) : (s.answerVia via code idx sub).cores = s.cores := by
  unfold State.answerVia
  split
  · split <;> rfl
  · rfl

/-- A code of INVAL_COMMAND, of 1 to 3, is taken (R288). -/
theorem State.invalCommand_write (s : State) (via : Via) (v : Nat) (hm : s.mayWrite via 0x2610 3 = true) (h0 : v ≠ 0) (h3 : v ≤ 3) :
    s.regWrite via 0x2610 3 v = .next ((s.invalidate v).answerVia via 0 0x2610 3) := by
  have hr : ¬ 255 < v := by omega
  have hc : s.shortCheck ⟨0x2610, 3, 3, "INVAL_COMMAND", 0x11, 1, .wo, .command, 0, 0, 0, 255⟩ 3 v = 0 := by
    simp [State.shortCheck, State.unitCheck, hr, h0, h3]
  rw [State.regWrite_of_mayWrite s via _ _ _ _ findEntry_invalCommand (by decide) hm (by simp; omega), if_pos hc]
  rfl

/-- The invalidation that a code of INVAL_COMMAND begins. -/
def State.invalCmd (s : State) (kind : Nat) : InvalCmd :=
  ⟨kind, s.dget 0x2610 4 % 4096, s.dget 0x2610 1, s.dget 0x2610 1 + s.dget 0x2610 2 * 65536⟩

theorem State.invalidate_purges (s : State) (kind : Nat) (h : kind = 1 → s.dget 0x2610 2 ≠ 0) : s.invalidate kind = s.purge (s.invalCmd kind) :=
  if_neg fun hn => h hn.1 hn.2

/-- A range of no pages does nothing (R12). -/
theorem State.invalidate_empty (s : State) (h : s.dget 0x2610 2 = 0) : s.invalidate 1 = s := if_pos ⟨rfl, h⟩

/-- What stays in a list of translations once an invalidation has passed. -/
theorem mem_filter_uncovered (c : InvalCmd) (l : List TlbEntry) (e : TlbEntry) :
    e ∈ l.filter (fun e => !c.covers e.asid e.va e.size) ↔ (e ∈ l ∧ c.covers e.asid e.va e.size = false) := by
  rw [List.mem_filter, Bool.not_eq_true']

theorem State.purge_dieTlb (s : State) (c : InvalCmd) (d : Nat) (e : TlbEntry) :
    e ∈ pget (s.purge c).trans.dieTlb d ↔ (e ∈ pget s.trans.dieTlb d ∧ c.covers e.asid e.va e.size = false) := by
  rw [show (s.purge c).trans.dieTlb = pmap _ s.trans.dieTlb from rfl, pget_pmap]
  exact mem_filter_uncovered c _ e

theorem State.purge_coreTlb (s : State) (c : InvalCmd) (g : Nat) (e : TlbEntry) :
    e ∈ ((s.purge c).core g).tlb ↔ (e ∈ (s.core g).tlb ∧ c.covers e.asid e.va e.size = false) := by
  have hcore : (s.purge c).core g = { s.core g with tlb := (s.core g).tlb.filter (fun e => !c.covers e.asid e.va e.size) } :=
    tget_map ({} : Core) (fun k => { k with tlb := k.tlb.filter (fun e => !c.covers e.asid e.va e.size) }) rfl s.cores g
  rw [hcore]
  exact mem_filter_uncovered c _ e

/-- Each of the three commands leaves the caches purged and its invalidation in progress. -/
theorem invalidation_completes (s : State) (via : Via) (kind : Nat) (c : Instr) (hx : exec c s = s.regWrite via 0x2610 3 kind)
    (hm : s.mayWrite via 0x2610 3 = true) (h0 : kind ≠ 0) (h3 : kind ≤ 3) (hp : kind = 1 → s.dget 0x2610 2 ≠ 0) :
    Completes c s (fun u => u.trans.inval = s.trans.inval ++ [s.invalCmd kind] ∧
      (∀ (d : Fin 4) (e : TlbEntry), e ∈ pget u.trans.dieTlb d ↔ (e ∈ pget s.trans.dieTlb d ∧ (s.invalCmd kind).covers e.asid e.va e.size = false)) ∧
      (∀ (g : Fin 384) (e : TlbEntry), e ∈ (u.core g).tlb ↔ (e ∈ (s.core g).tlb ∧ (s.invalCmd kind).covers e.asid e.va e.size = false)) ∧ u.mem = s.mem) := by
  refine completes_of_next (hx.trans (s.invalCommand_write via kind hm h0 h3)) ?_
  rw [s.invalidate_purges kind hp, State.answerVia_trans, State.answerVia_mem]
  refine ⟨rfl, fun d e => s.purge_dieTlb _ d e, fun g e => ?_, rfl⟩
  rw [State.core, State.answerVia_cores, ← State.core]
  exact s.purge_coreTlb _ g e

/-- A request that no invalidation in progress covers, for its read or for the write that follows, does not hold one up. -/
theorem InvalCmd.holds_false {c : InvalCmd} {r : Req} (hr : c.covers r.asid r.va r.len = false)
    (hn : ∀ n, r.next = some n → c.covers r.asid n.2.2.2 r.len = false) : c.holds r = false := by
  cases h : r.next with
  | none => simp [InvalCmd.holds, hr, h]
  | some n => simp [InvalCmd.holds, hr, h, hn n h]

theorem invalComplete_completes (s : State) (hne : s.trans.inval ≠ [])
    (hfree : ∀ r ∈ s.trans.reqs, ∀ c ∈ s.trans.inval, c.covers r.asid r.va r.len = false ∧ ∀ n, r.next = some n → c.covers r.asid n.2.2.2 r.len = false) :
    Completes .invalComplete s (fun u => u.trans.inval = [] ∧ u.viewUnits 0x2610 5 = 0 ∧ u.mem = s.mem) := by
  have hany : s.trans.reqs.any (fun r => s.trans.inval.any (fun c => c.holds r)) = false := by
    simp only [List.any_eq_false, Bool.not_eq_true]
    exact fun r hr c hc => InvalCmd.holds_false (hfree r hr c hc).1 (hfree r hr c hc).2
  exact completes_of_when (exec_invalComplete s) (by simp [hne, hany]) ⟨rfl, rfl, rfl⟩

/-- Settles O30: the three commands, an empty range, and the end of the invalidations in progress. -/
theorem invalidation : Obligations.Invalidation := by
  intro s via hm
  refine ⟨fun c k hck hp => ?_, fun h0 => ?_, invalComplete_completes s⟩
  · simp only [List.mem_cons, Prod.mk.injEq, List.not_mem_nil, or_false] at hck
    obtain ⟨rfl, rfl⟩ | ⟨rfl, rfl⟩ | ⟨rfl, rfl⟩ := hck
    · exact invalidation_completes s via 1 _ (exec_invalRange via s) hm (by decide) (by decide) hp
    · exact invalidation_completes s via 2 _ (exec_invalAsid via s) hm (by decide) (by decide) hp
    · exact invalidation_completes s via 3 _ (exec_invalAll via s) hm (by decide) (by decide) hp
  · refine completes_of_next (s.invalCommand_write via 1 hm (by decide) (by decide)) ?_
    rw [s.invalidate_empty h0]
    exact ⟨State.answerVia_trans .., State.answerVia_cores .., State.answerVia_mem ..⟩

end Sys2Proof.Machine
end

section
/-! SUPPORT. The state of pre-emption (R301) beside reads, launches and parks: what a write at a slice leaves of the translation unit, and what an access served in one step, an agent that ends and one that goes on leave of PREEMPT_STATE. -/

namespace Sys2Proof.Machine

/-! ### What a write at a slice leaves of the translation unit -/

@[simp] theorem State.ite_trans (c : Prop) [Decidable c] (s t : State) : (if c then s else t).trans = if c then s.trans else t.trans :=
  apply_ite State.trans _ _ _
@[simp] theorem State.foldl_trans {α : Type} (f : State → α → State) (hf : ∀ s a, (f s a).trans = s.trans) (l : List α) (s : State) :
    (l.foldl f s).trans = s.trans := State.foldl_keeps State.trans f hf l s

@[simp] theorem State.store_trans (s : State) (a : Nat) (bs : Bytes) : (s.store a bs).trans = s.trans := by
  induction bs generalizing s a with
  | nil => rfl
  | cons b bs ih => exact ih _ _

@[simp] theorem State.poisonSector_trans (s : State) (storage : Nat) : (s.poisonSector storage).trans = s.trans := State.dadd_trans ..
@[simp] theorem State.eccCorrected_trans (s : State) (storage sub unit : Nat) : (s.eccCorrected storage sub unit).trans = s.trans := by simp [State.eccCorrected]
@[simp] theorem State.memoryEcc_trans (s : State) (line : Nat) (e : EccEvent) : (s.memoryEcc line e).trans = s.trans := by
  unfold State.memoryEcc
  split <;> simp
@[simp] theorem State.checkSector_trans (s : State) (line : Nat) : (s.checkSector line).trans = s.trans := by
  unfold State.checkSector
  split <;> rfl
@[simp] theorem State.loftEvict_trans (s : State) (l : LoftLine) : (s.loftEvict l).trans = s.trans := by
  unfold State.loftEvict
  split <;> simp [State.outcome_trans]
@[simp] theorem State.loftInstall_trans (s : State) (l : LoftLine) : (s.loftInstall l).trans = s.trans := by
  unfold State.loftInstall
  dsimp only
  split <;> simp
@[simp] theorem State.loftRefresh_trans (s : State) (l : LoftLine) : (s.loftRefresh l).trans = s.trans := rfl
@[simp] theorem State.markWrite_trans (s : State) (a n : Nat) (alloc : Bool) (src : Source) (loc sub step : Nat) :
    (s.markWrite a n alloc src loc sub step).trans = s.trans := by
  unfold State.markWrite
  dsimp only
  repeat' split
  all_goals simp
@[simp] theorem State.countGuards_trans (s : State) (gs : List Nat) : (s.countGuards gs).trans = s.trans := by simp [State.countGuards]
@[simp] theorem State.putBytes_trans (s : State) (gs : List Nat) (a : Nat) (bs : Bytes) : (s.putBytes gs a bs).trans = s.trans := by simp [State.putBytes]
@[simp] theorem State.putSector_trans (s : State) (gs : List Nat) (a : Nat) (bs : Bytes) : (s.putSector gs a bs).trans = s.trans := by simp [State.putSector]
@[simp] theorem State.acceptWrite_trans (s : State) (a : Nat) (bs : Bytes) (alloc : Bool) (src : Source) (loc sub step : Nat) :
    (s.acceptWrite a bs alloc src loc sub step).trans = s.trans := by
  unfold State.acceptWrite
  split <;> simp
@[simp] theorem State.applyWrite_trans (s : State) (a : Nat) (bs : Bytes) (alloc : Bool) (src : Source) (loc sub step : Nat) :
    (s.applyWrite a bs alloc src loc sub step).trans = s.trans := by
  unfold State.applyWrite
  split <;> simp
@[simp] theorem State.applyAdd_trans (s : State) (a fmt : Nat) (bs : Bytes) (src : Source) (loc sub step : Nat) :
    (s.applyAdd a fmt bs src loc sub step).1.trans = s.trans := by
  unfold State.applyAdd
  split <;> simp

/-! ### Accesses served in one step -/

@[simp] theorem State.mapReq_preempt (s : State) (id : Nat) (f : Req → Req) : (s.mapReq id f).trans.preempt = s.trans.preempt := rfl
@[simp] theorem State.perform_preempt (s : State) (r : Req) : (s.perform r).trans.preempt = s.trans.preempt := by
  unfold State.perform
  dsimp only
  repeat' split
  all_goals simp
@[simp] theorem State.serve_preempt (s : State) (r : Req) (line : Nat) : (s.serve r line).trans.preempt = s.trans.preempt := by
  rw [(s.serve_keeps r line).2, State.perform_preempt]
@[simp] theorem State.landFill_preempt (s : State) (f : Fill) (e : EccEvent) : (s.landFill f e).trans.preempt = s.trans.preempt := by
  unfold State.landFill
  refine (State.foldl_keeps (fun t => t.trans.preempt) _ (fun t id => ?_) _ _).trans ?_
  · split <;> simp
  · dsimp only
    repeat' split
    all_goals simp [State.poisonFound]
@[simp] theorem State.settleRead_preempt (s : State) (line : Nat) : (s.settleRead line).trans.preempt = s.trans.preempt := by
  unfold State.settleRead
  repeat' split
  all_goals simp [State.outcome_trans]
@[simp] theorem State.loftRead_preempt (s : State) (a n : Nat) (alloc : Bool) : (s.loftRead a n alloc).trans.preempt = s.trans.preempt := by
  unfold State.loftRead
  dsimp only
  repeat' split
  all_goals simp [State.loftTouch_trans]
@[simp] theorem State.peakAt_trans (s : State) (die n : Nat) : (s.peakAt die n).trans = s.trans := by simp [State.peakAt]

/-- A request issued leaves the pre-emption as it is. -/
theorem IssueFrame.preempt : IssueFrame (fun s => s.trans.preempt) :=
  ⟨⟨⟨fun _ _ _ => rfl, fun _ _ => rfl⟩, fun _ _ => rfl, fun _ _ => rfl, fun _ _ => rfl, fun _ _ _ _ _ _ _ _ => rfl, fun _ _ _ => rfl, fun _ _ => rfl⟩,
    fun _ _ => rfl, fun _ _ => rfl⟩
@[simp] theorem State.issue_preempt (s : State) (r : Req) (mayEaves : Bool) : (s.issue r mayEaves).1.trans.preempt = s.trans.preempt := by
  have h := IssueFrame.preempt
  have htrack (v : State) (q : Req) : (v.track q).trans.preempt = v.trans.preempt := h.notePeak ..
  rw [State.issue_eq]
  split <;> dsimp only
  · exact (htrack _ _).trans ((h.cache _ _).trans ((h.dadd ..).trans (h.beforeIssue ..)))
  · exact (h.sendReq ..).trans ((htrack _ _).trans ((h.noteFill ..).trans (h.beforeIssue ..)))

@[simp] theorem State.fillTlb_preempt (s : State) (c : XCtx) (e : TlbEntry) : (s.fillTlb c e).trans.preempt = s.trans.preempt := by
  unfold State.fillTlb
  split <;> rfl

@[simp] theorem walkLevels_preempt (die asid va : Nat) (lvs : List Level) (table : Nat) (s : State) :
    (walkLevels die asid va lvs table s).1.trans.preempt = s.trans.preempt := by
  induction lvs generalizing table s with
  | nil => rfl
  | cons lv rest ih =>
    unfold walkLevels
    dsimp only
    repeat' split
    all_goals simp [ih]

@[simp] theorem State.walk_preempt (s : State) (die asid va : Nat) : (s.walk die asid va).1.trans.preempt = s.trans.preempt := by
  unfold State.walk
  dsimp only
  repeat' split
  all_goals simp [State.noteOne]

@[simp] theorem State.walkFor_preempt (s : State) (c : XCtx) : (s.walkFor c).1.trans.preempt = s.trans.preempt := by
  unfold State.walkFor
  split
  · rfl
  · have hw := s.walk_preempt c.die c.asid c.va
    split <;> rename_i he <;> rw [he] at hw
    case h_4 => split <;> simpa using hw
    all_goals exact hw

@[simp] theorem State.translate_preempt (s : State) (c : XCtx) : (s.translate c).1.trans.preempt = s.trans.preempt := by
  unfold State.translate
  split <;> simp

@[simp] theorem State.translateRange_preempt (c : XCtx) (ps : List (Nat × Nat)) (s : State) :
    (State.translateRange c ps s).1.trans.preempt = s.trans.preempt := by
  induction ps generalizing s with
  | nil => rfl
  | cons p rest ih =>
    unfold State.translateRange
    have ht := s.translate_preempt { c with va := p.1 }
    split
    · rename_i s' _ _ he
      rw [he] at ht
      have hr := (ih s').trans ht
      split <;> rename_i he' <;> rw [he'] at hr <;> exact hr
    · rename_i he
      rw [he] at ht
      exact ht

@[simp] theorem State.fetchPieces_preempt (s : State) (agent : Agent) (die step asid : Nat) (pos : Nat × Nat × Nat) (ps : List (Nat × Nat × Target × Nat)) :
    (s.fetchPieces agent die step asid pos ps).1.trans.preempt = s.trans.preempt := by
  have hread (t : State) (p : Nat × Nat × Target × Nat) :
      (match p.2.2.1 with | .here a => (t.loftRead a p.2.1 (bit p.2.2.2 0)).noteOne die | _ => t).trans.preempt = t.trans.preempt := by
    split <;> simp [State.noteOne]
  unfold State.fetchPieces
  dsimp only
  split
  · exact State.foldl_keeps (fun t => t.trans.preempt) _ (fun t p => by split <;> simp) _ _
  · split
    · rfl
    · split <;> exact State.foldl_keeps (fun t => t.trans.preempt) _ hread _ _

@[simp] theorem State.readThrough_preempt (s : State) (a : Action) (g va n : Nat) : (s.readThrough a g va n).1.trans.preempt = s.trans.preempt := by
  have ht := State.translateRange_preempt ⟨a.asid, va, 3, false, some g, coreDie g⟩ (vaPieces va n) s
  unfold State.readThrough
  split
  · rename_i he
    rw [he] at ht
    exact ht
  · rename_i s' ps he
    rw [he] at ht
    have hf := (s'.fetchPieces_preempt (.image g a.id) (coreDie g) a.step a.asid (0, 0, 0) ps).trans ht
    split <;> rename_i he' <;> rw [he'] at hf <;> exact hf

/-! ### Launches, and agents that end or go on -/

theorem DoneFrame.translation (quiet : Prop) : DoneFrame quiet State.trans :=
  ⟨fun _ _ => rfl, fun _ _ => rfl, fun _ _ => rfl, fun _ _ => rfl, fun _ _ _ => rfl, fun _ _ => rfl⟩

@[simp] theorem State.threadsDone_trans (s : State) (launch n : Nat) : (s.threadsDone launch n).trans = s.trans :=
  (DoneFrame.translation False).threadsDone s launch n False.elim
@[simp] theorem State.failLaunch_trans (s : State) (launch : Nat) : (s.failLaunch launch).trans = s.trans := rfl
@[simp] theorem State.launchFails_trans (s : State) (a : Action) (g : Nat) : (s.launchFails a g).trans = s.trans :=
  (State.threadsDone_trans ..).trans ((State.failLaunch_trans ..).trans (State.foldl_keeps State.trans _ (fun _ _ => State.setThread_trans ..) _ _))
@[simp] theorem State.imageMalformed_trans (s : State) (a : Action) (g : Nat) : (s.imageMalformed a g).trans = s.trans := by simp [State.imageMalformed]
@[simp] theorem State.startThreads_trans (s : State) (a : Action) (g : Nat) (img : Image) (entry : Nat) : (s.startThreads a g img entry).trans = s.trans :=
  State.ite_keeps (part := State.trans) rfl (State.foldl_keeps State.trans _ (fun _ _ => State.setThread_trans ..) _ _)

@[simp] theorem State.launchOn_preempt (s : State) (a : Action) (g : Nat) : (s.launchOn a g).trans.preempt = s.trans.preempt := by
  have hr := s.readThrough_preempt a g a.transit.addr 32
  unfold State.launchOn
  dsimp only
  split
  · simp
  · split
    · rename_i he
      rw [he] at hr
      repeat' split
      all_goals simpa using hr
    · rename_i he
      rw [he] at hr
      exact hr

@[simp] theorem State.dropFetch_preempt (s : State) (g launch : Nat) : (s.dropFetch g launch).trans.preempt = s.trans.preempt := rfl
@[simp] theorem State.endThread_preempt (s : State) (g t : Nat) (failed : Bool) : (s.endThread g t failed).trans.preempt = s.trans.preempt := by
  cases failed <;> simp [State.endThread]
@[simp] theorem State.endAgent_preempt (s : State) (a : Agent) : (s.endAgent a).trans.preempt = s.trans.preempt := by
  unfold State.endAgent
  repeat' split
  all_goals simp [State.endMover, State.dropJob]
@[simp] theorem State.unpark_preempt (s : State) (a : Agent) : (s.unpark a).trans.preempt = s.trans.preempt := by
  unfold State.unpark
  repeat' split
  all_goals simp

theorem State.setParks_preempt (s : State) (ps : List ParkRec) : (s.setParks ps).trans.preempt = s.trans.preempt := rfl
theorem State.releasePark_preempt (s : State) (r : ParkRec) : (s.releasePark r).trans.preempt = s.trans.preempt :=
  (State.foldl_keeps (fun t => t.trans.preempt) _ (fun _ _ => State.unpark_preempt ..) _ _).trans (State.setParks_preempt ..)
theorem State.xFault_trans (s : State) (code die step loc sub asid va agent : Nat) : (s.xFault code die step loc sub asid va agent).trans = s.trans := rfl
theorem State.abandonPark_preempt (s : State) (r : ParkRec) (code : Nat) : (s.abandonPark r code).trans.preempt = s.trans.preempt :=
  (State.foldl_keeps (fun t => t.trans.preempt) _ (fun _ _ => (State.endAgent_preempt _ _).trans (congrArg TransState.preempt (State.xFault_trans ..))) _ _).trans
    (State.setParks_preempt ..)

end Sys2Proof.Machine
end

section
/-! SUPPORT. Pre-emption (R301, R302, R307): the write of PREEMPT_CONTROL that is let through, what its commands leave, and the ends of STOPPING, SAVING and RESTORING. -/

namespace Sys2Proof.Machine

/-! ### The commands (R301) -/

theorem findEntry_preemptControl : findEntry 0x2640 0 = some ⟨0x2640, 0, 0, "PREEMPT_CONTROL", 0x11, 1, .wo, .command, 0, 0, 0, 255⟩ := by rfl

/-- A command is taken that the present state permits; SAVE also needs its save area in place. -/
def State.preTakes (s : State) (v : Nat) : Bool := s.prePermits v && (v != 2 || placed (s.dget 0x2642 0) 65536 0x60000000)

theorem State.shortCheck_preemptControl (s : State) (v : Nat) (h0 : v ≠ 0) (h3 : v ≤ 3) :
    s.shortCheck ⟨0x2640, 0, 0, "PREEMPT_CONTROL", 0x11, 1, .wo, .command, 0, 0, 0, 255⟩ 0 v = if s.preTakes v = true then 0 else 0x0A := by
  have hr : ¬ (v < 0 ∨ 255 < v) := by omega
  have hb : ¬ (v = 0 ∨ 3 < v) := by omega
  have htakes : ((!s.prePermits v) = true ∨ (v = 2 ∧ (!placed (s.dget 0x2642 0) 65536 0x60000000) = true)) ↔ ¬ s.preTakes v = true := by
    simp only [State.preTakes, Bool.and_eq_true, Bool.or_eq_true, Bool.not_eq_true', bne_iff_ne, ne_eq, ← Bool.not_eq_true]
    tauto
  unfold State.shortCheck
  dsimp only
  rw [if_neg hr, if_neg (by decide), if_neg (by decide)]
  unfold State.unitCheck
  dsimp only
  rw [if_neg hb, if_congr htakes rfl rfl, ite_not]
  rfl

/-- A write of PREEMPT_CONTROL with its authority: the command, or the answer 0x0A. -/
theorem State.preControl_write (s : State) (via : Via) (v : Nat) (hm : s.mayWrite via 0x2640 0 = true) (h0 : v ≠ 0) (h3 : v ≤ 3) :
    s.regWrite via 0x2640 0 v = .next (if s.preTakes v = true then (s.preControl v).answerVia via 0 0x2640 0 else s.answerVia via 0x0A 0x2640 0) := by
  rw [State.regWrite_of_mayWrite s via _ _ _ _ findEntry_preemptControl (by decide) hm (by simp; omega), State.shortCheck_preemptControl s v h0 h3]
  cases s.preTakes v <;> rfl

theorem State.preControl_taken (s : State) (via : Via) (v : Nat) (hm : s.mayWrite via 0x2640 0 = true) (h0 : v ≠ 0) (h3 : v ≤ 3) (hp : s.preTakes v = true) :
    s.regWrite via 0x2640 0 v = .next ((s.preControl v).answerVia via 0 0x2640 0) := by
  rw [s.preControl_write via v hm h0 h3, if_pos hp]

theorem State.preControl_refused (s : State) (via : Via) (v : Nat) (hm : s.mayWrite via 0x2640 0 = true) (h0 : v ≠ 0) (h3 : v ≤ 3)
    (hp : s.prePermits v = false) : s.regWrite via 0x2640 0 v = .next (s.answerVia via 0x0A 0x2640 0) := by
  rw [s.preControl_write via v hm h0 h3, State.preTakes, hp]
  rfl

@[simp] theorem State.countStop_trans (s : State) (agent : Nat) : (s.countStop agent).trans = s.trans := by simp [State.countStop]
@[simp] theorem State.stopCoreArrays_trans (s : State) (g : Nat) : (s.stopCoreArrays g).trans = s.trans := by simp [State.stopCoreArrays]

/-- Stopping the units leaves the pre-emption as it is. -/
theorem State.stopUnits_preempt (s : State) : s.stopUnits.trans.preempt = s.trans.preempt :=
  State.foldl_keeps (fun t => t.trans.preempt) State.stopCoreArrays (fun t g => congrArg TransState.preempt (t.stopCoreArrays_trans g)) _ s

theorem State.preStop_preempt (s : State) : s.preStop.trans.preempt = .stopping := by
  unfold State.preStop
  dsimp only
  rw [State.stopUnits_preempt]
  split <;> simp

theorem State.preSave_preempt (s : State) : s.preSave.trans.preempt = .saving := by
  unfold State.preSave
  split <;> rfl

theorem preemptCommands_complete (s : State) (via : Via) (hm : s.mayWrite via 0x2640 0 = true) :
    (s.prePermits 1 = true → Completes (.stop via) s (fun u => u.trans.preempt = .stopping ∧ u.mem = s.mem)) ∧
    (s.prePermits 2 = true → placed (s.dget 0x2642 0) 65536 0x60000000 = true →
      Completes (.save via) s (fun u => u.trans.preempt = .saving ∧ u.mem = s.mem)) ∧
    (s.prePermits 3 = true → Completes (.resume via) s (fun u => u.trans.preempt = .restoring ∧
      u.trans.restoreAll = (s.trans.preempt == .saved) ∧ u.mem = s.mem)) := by
  refine ⟨fun hp => completes_of_next (s.preControl_taken via 1 hm (by decide) (by decide) (by simp [State.preTakes, hp])) ?_,
    fun hp ha => completes_of_next (s.preControl_taken via 2 hm (by decide) (by decide) (by simp [State.preTakes, hp, ha])) ?_,
    fun hp => completes_of_next (s.preControl_taken via 3 hm (by decide) (by decide) (by simp [State.preTakes, hp])) ?_⟩ <;>
  rw [State.answerVia_trans, State.answerVia_mem]
  · exact ⟨s.preStop_preempt, s.preStop_mem⟩
  · exact ⟨s.preSave_preempt, s.preSave_mem⟩
  · exact ⟨rfl, rfl, rfl⟩

/-! ### Safe points (R302) -/

theorem preemptStopDone_completes (s : State) (hs : s.allSafe = true) (hp : s.trans.preempt = .stopping) :
    Completes .preemptStopDone s (fun u => u.trans.preempt = .stopped) :=
  completes_of_when (exec_preemptStopDone s) (by simp [hs, hp]) rfl

theorem preemptSaveDone_completes (s : State) (hs : s.allSafe = true) (hp : s.trans.preempt = .saving) :
    Completes .preemptSaveDone s (fun u => u.trans.preempt = .saved) :=
  completes_of_when (exec_preemptSaveDone s) (by simp [hs, hp]) rfl

/-! ### Restoring (R302, R307) -/

/-- The translation unit is as it was: a predicate of its own, because the kernel, shown the equation, evaluates the images that are read. -/
def State.SameTrans (s t : State) : Prop := t.trans = s.trans

theorem State.SameTrans.check {s t u : State} {c : Prop} [Decidable c] (ht : s.SameTrans t) (hu : u.trans = t.trans) : s.SameTrans (if c then t else u) := by
  split
  · exact ht
  · exact hu.trans ht
theorem State.SameTrans.foldl {s t : State} (f : State → Nat → State) (hf : ∀ u n, s.SameTrans u → s.SameTrans (f u n)) (l : List Nat) (h : s.SameTrans t) :
    s.SameTrans (l.foldl f t) := List.foldlRecOn (motive := s.SameTrans) l f h (fun u hu n _ => hf u n hu)

/-- Checking a saved image reports faults, and leaves the translation unit as it is. -/
theorem State.checkSaved_sameTrans (s : State) : s.SameTrans s.checkSaved := by
  have hheader : s.SameTrans s.checkHeader := .check rfl (State.xFault_trans ..)
  unfold State.checkSaved State.checkArrays State.checkCores State.checkUpdates State.checkMovers
  refine .foldl _ (fun u g h => .check h (State.fatal_trans ..)) _ ?_
  refine .foldl _ (fun u g h => .check h (State.xFault_trans ..)) _ ?_
  refine .foldl _ (fun u g h => .check h (State.fatal_trans ..)) _ ?_
  exact .foldl _ (fun u g h => .check h (State.xFault_trans ..)) _ hheader

/-- Launches that start again leave the pre-emption as it is. -/
theorem State.restartFetches_preempt (s : State) : s.restartFetches.trans.preempt = s.trans.preempt := by
  refine State.foldl_keeps (fun t => t.trans.preempt) _ (fun t p => State.foldl_keeps (fun t => t.trans.preempt) _ (fun t l => ?_) _ _) _ _
  split
  · exact (State.launchOn_preempt ..).trans (State.dropFetch_preempt ..)
  · rfl

theorem State.goOn_preempt (s : State) : s.goOn.trans.preempt = .running := State.restartFetches_preempt _

/-- The releases and abandonments that waited leave the pre-emption as it is. -/
theorem State.applyReleases_preempt (seqs abandons : List Nat) (s : State) : (State.applyReleases seqs abandons s).trans.preempt = s.trans.preempt := by
  have heach (f : State → ParkRec → State) (hf : ∀ t r, (f t r).trans.preempt = t.trans.preempt) (l : List Nat) (t : State) :
      (l.foldl (fun t q => match t.trans.parks.find? (fun r => r.seq == q) with | some r => f t r | none => t) t).trans.preempt = t.trans.preempt :=
    State.foldl_keeps (fun t => t.trans.preempt) _ (fun t q => by split <;> simp [hf]) l t
  exact (heach (fun t r => t.abandonPark r 0x86) (fun t r => t.abandonPark_preempt r 0x86) abandons _).trans (heach State.releasePark State.releasePark_preempt seqs s)

/-- The end of RESTORING, with t the state in which the image has been checked (R307). -/
def State.restoreEnd (s t : State) : State :=
  if t.log.arrivals.length = s.log.arrivals.length then
    State.applyReleases s.trans.released s.trans.abandons (if s.trans.restoreAll then s.restoreAll else s).goOn
  else { t with trans := { t.trans with restoreFailed := true } }

theorem exec_preemptRestoreDone_eq (s : State) : exec .preemptRestoreDone s =
    when (s.trans.preempt == .restoring && !s.trans.restoreFailed) s (s.restoreEnd (if s.trans.restoreAll then s.checkSaved else s)) := rfl

/-- With no fault reported the units go on. -/
theorem State.restoreEnd_runs {s t : State} (h : t.log.arrivals.length = s.log.arrivals.length) : (s.restoreEnd t).trans.preempt = .running := by
  rw [State.restoreEnd, if_pos h, State.applyReleases_preempt, State.goOn_preempt]

/-- A fault that the check reported leaves the package where it is. -/
theorem State.restoreEnd_fails {s t : State} (h : t.log.arrivals.length ≠ s.log.arrivals.length) (hs : s.SameTrans t) :
    (s.restoreEnd t).trans.preempt = s.trans.preempt ∧ (s.restoreEnd t).trans.restoreFailed = true := by
  have hpre : t.trans.preempt = s.trans.preempt := congrArg TransState.preempt hs
  rw [State.restoreEnd, if_neg h]
  exact ⟨hpre, rfl⟩

theorem preemptRestoreDone_completes (s : State) (hp : s.trans.preempt = .restoring) (hf : s.trans.restoreFailed = false) :
    (s.trans.restoreAll = false → Completes .preemptRestoreDone s (fun u => u.trans.preempt = .running)) ∧
    (s.trans.restoreAll = true → Completes .preemptRestoreDone s (fun u =>
      (s.checkSaved.log.arrivals.length ≠ s.log.arrivals.length → u.trans.preempt = .restoring ∧ u.trans.restoreFailed = true) ∧
      (s.checkSaved.log.arrivals.length = s.log.arrivals.length → u.trans.preempt = .running))) := by
  have hsame := s.checkSaved_sameTrans
  have hx := exec_preemptRestoreDone_eq s
  generalize s.checkSaved = t at hsame hx ⊢
  refine ⟨fun ha => completes_of_when hx (by simp [hp, hf]) ?_,
    fun ha => completes_of_when hx (by simp [hp, hf]) ⟨fun hne => ?_, fun heq => ?_⟩⟩
  · rw [ha, if_neg Bool.false_ne_true]
    exact State.restoreEnd_runs rfl
  · rw [ha, if_pos rfl]
    exact hp ▸ State.restoreEnd_fails hne hsame
  · rw [ha, if_pos rfl]
    exact State.restoreEnd_runs heq

/-- Settles O31: the commands, their refusals, and the ends of stopping, saving and restoring. -/
theorem preemption : Obligations.Preemption := fun s =>
  ⟨fun via hm =>
    have ⟨hstop, hsave, hresume⟩ := preemptCommands_complete s via hm
    ⟨hstop, hsave, hresume, s.preControl_refused via 1 hm (by decide) (by decide), s.preControl_refused via 2 hm (by decide) (by decide),
      s.preControl_refused via 3 hm (by decide) (by decide)⟩,
    preemptStopDone_completes s, preemptSaveDone_completes s, preemptRestoreDone_completes s⟩

end Sys2Proof.Machine
end

section
/-! SUPPORT. Mover descriptors (R290 to R295): a descriptor taken up, one read ahead, the piece at the mover's position, and the oldest descriptor that retires. -/

namespace Sys2Proof.Machine

/-! ### Descriptors taken up (R290, R291) -/

/-- A well-formed descriptor that is neither empty nor held by a fence is translated from its first element. -/
theorem State.takeDesc_ready (s : State) (d m desc : Nat) (hw : mdMalformed d desc = false) (he : mdEmpty desc = false)
    (hf : mdFence desc = true → (s.mover d m).open_ = []) :
    s.takeDesc d m desc = s.setMover d m { s.mover d m with
      ahead := (s.mover d m).ahead.filter (fun p => p.1 != (s.mover d m).cur), desc := some (BitVec.ofNat 512 desc), elem := 0, off := 0 } := by
  have hopen : ¬ (mdFence desc && (s.mover d m).open_ != []) = true := by simpa using hf
  unfold State.takeDesc
  dsimp only
  rw [if_neg (by simp [hw]), if_neg hopen, if_neg (by simp [he])]

/-- A working mover that has no descriptor takes up the one at its position when it is of the command's OPCODE. -/
theorem State.takeOp_reads {s t : State} {d m op : Nat} {bs : Bytes} (hmay : s.moverMay d m = true) (hd : (s.mover d m).desc = none)
    (hc : (s.mover d m).cur < (s.mover d m).count) (ha : (s.mover d m).addr % 64 = 0) (hr : s.readDesc d m (s.mover d m).cur = (t, .bytes bs))
    (hop : mdOp (leNat bs) = op) : s.takeOp d m op = .next (t.takeDesc d m (leNat bs)) := by
  unfold State.takeOp
  dsimp only
  rw [if_neg (by simp [hmay, hd, hc]), if_neg (by simp [ha]), hr]
  exact if_pos (Or.inl hop)

theorem takeOp_completes {s t : State} {d m op : Nat} {bs : Bytes} {c : Instr} (hx : exec c s = s.takeOp d m op) (hmay : s.moverMay d m = true)
    (hd : (s.mover d m).desc = none) (hc : (s.mover d m).cur < (s.mover d m).count) (ha : (s.mover d m).addr % 64 = 0)
    (hr : s.readDesc d m (s.mover d m).cur = (t, .bytes bs)) (hop : mdOp (leNat bs) = op) (hw : mdMalformed d (leNat bs) = false)
    (he : mdEmpty (leNat bs) = false) (hf : mdFence (leNat bs) = true → (t.mover d m).open_ = []) :
    Completes c s (fun u => (u.mover d m).desc = some (BitVec.ofNat 512 (leNat bs)) ∧ (u.mover d m).elem = 0 ∧ (u.mover d m).off = 0 ∧ u.mem = t.mem) := by
  refine completes_of_next (hx.trans (State.takeOp_reads hmay hd hc ha hr hop)) ?_
  rw [t.takeDesc_ready d m _ hw he hf, State.mover_setMover]
  exact ⟨rfl, rfl, rfl, rfl⟩

/-! ### Reading ahead (R295) -/

/-- Index of the descriptor that a mover would read next. -/
def Mover.nextAhead (v : Mover) : Nat := v.cur + 1 + v.ahead.length

theorem readahead_completes {s t u : State} {d : Fin 4} {m : Fin 64} {tr : Target} {attr : Nat} {bs : Bytes} (hmay : s.moverMay d m = true)
    (ha : (s.mover d m).addr % 64 = 0) (hc : (s.mover d m).nextAhead < (s.mover d m).count) (hl : (s.mover d m).ahead.length < 4)
    (ht : s.translate (moverCtx d (s.mover d m) ((s.mover d m).descVa (s.mover d m).nextAhead) 3) = (t, .ok tr attr))
    (hr : t.readDesc d m (s.mover d m).nextAhead = (u, .bytes bs)) (hw : mdMalformed d (leNat bs) = false) :
    Completes (.moverDescriptorReadahead d m) s (fun v => (v.mover d m).ahead =
      (u.mover d m).ahead ++ [((s.mover d m).nextAhead, BitVec.ofNat 512 (leNat bs))]) := by
  unfold Mover.nextAhead at hc ht hr ⊢
  refine completes_of_next (u := u.setMover d m { u.mover d m with
    ahead := (u.mover d m).ahead ++ [((s.mover d m).cur + 1 + (s.mover d m).ahead.length, BitVec.ofNat 512 (leNat bs))] }) ?_ (by rw [State.mover_setMover])
  rw [exec_moverDescriptorReadahead, execMoverDescriptorReadahead]
  dsimp only
  rw [if_neg (by simp [hmay, ha, hc, hl]), ht]
  dsimp only
  rw [hr]
  dsimp only
  rw [if_neg (by simp [hw])]

/-! ### Pieces (R291, R292) -/

/-- The number of an element that a descriptor without indices names stands in 4 bytes. -/
theorem leNat_natLe_four {n : Nat} (h : n < 2 ^ 32) : leNat (natLe 4 n) = n := by
  rw [leNat_natLe, Nat.mod_eq_of_lt (by simpa using h)]

theorem exec_moverPieceIssue_index {s t : State} {d : Fin 4} {m : Fin 64} {desc : BitVec 512} {bs : Bytes} (hmay : s.moverMay d m = true)
    (hd : (s.mover d m).desc = some desc) (hr : s.readIndex d m desc.toNat = (t, .bytes bs)) :
    exec (.moverPieceIssue d m) s = .next (t.issuePiece d m desc.toNat (leNat bs)) := by
  rw [exec_moverPieceIssue, execMoverPieceIssue, hd]
  dsimp only
  rw [if_neg (by simp [hmay]), hr]

theorem exec_moverPieceIssue_plain {s : State} {d : Fin 4} {m : Fin 64} {desc : BitVec 512} (hmay : s.moverMay d m = true)
    (hd : (s.mover d m).desc = some desc) (hi : mdIndexed desc.toNat = false) (he : (s.mover d m).elem < 2 ^ 32) :
    exec (.moverPieceIssue d m) s = .next (s.issuePiece d m desc.toNat (s.mover d m).elem) := by
  have hr : s.readIndex d m desc.toNat = (s, .bytes (natLe 4 (s.mover d m).elem)) := if_neg (by simp [hi])
  rw [exec_moverPieceIssue_index hmay hd hr, leNat_natLe_four he]

theorem exec_moverPieceIssue_indexed {s t : State} {d : Fin 4} {m : Fin 64} {desc : BitVec 512} {bs : Bytes} (hmay : s.moverMay d m = true)
    (hd : (s.mover d m).desc = some desc) (hi : mdIndexed desc.toNat = true)
    (hr : s.moverRead d m ((s.mover d m).indexVa desc.toNat) 0 4 = (t, .bytes bs)) :
    exec (.moverPieceIssue d m) s = .next (t.issuePiece d m desc.toNat (leNat bs)) :=
  exec_moverPieceIssue_index hmay hd ((if_pos hi).trans hr)

/-! ### Retiring (R292) -/

theorem DoneFrame.movers (quiet : Prop) : DoneFrame quiet State.movers :=
  ⟨fun _ _ => rfl, fun _ _ => rfl, fun _ _ => rfl, fun _ _ => rfl, fun _ _ _ => rfl, fun _ _ => rfl⟩

/-- The oldest descriptor goes; with the last one the mover is idle. -/
theorem State.retire_mover (s : State) (d m : Nat) (o : MoverDesc) :
    (s.retire d m o).mover d m = { s.mover d m with
      open_ := (s.mover d m).open_.drop 1, oldest := o.idx + 1,
      status := if (s.mover d m).count ≤ o.idx + 1 then .idle else (s.mover d m).status } := by
  have hdone (t : State) (id : Nat) : (t.completeAction id).mover d m = t.mover d m := by
    rw [State.mover, (DoneFrame.movers False).completeAction t id False.elim, ← State.mover]
  unfold State.retire
  dsimp only
  split
  · rw [hdone, State.mover_setMover]
  · rw [State.mover_setMover]

theorem descriptorRetire_completes {s : State} {d : Fin 4} {m : Fin 64} {o : MoverDesc} {rest : List MoverDesc} (ho : (s.mover d m).open_ = o :: rest)
    (hr : ∀ r ∈ s.trans.reqs, ¬(r.agent = .mover d m ∧ r.desc = o.idx)) :
    Completes (.descriptorRetire d m) s (fun u => (u.mover d m).open_ = rest ∧ (u.mover d m).oldest = o.idx + 1 ∧
      ((s.mover d m).count ≤ o.idx + 1 → (u.mover d m).status = .idle)) := by
  have hany : s.trans.reqs.any (fun r => r.agent == Agent.mover d m && r.desc == o.idx) = false := by
    simpa only [List.any_eq_false, Bool.and_eq_true, beq_iff_eq] using hr
  refine completes_of_next (u := s.retire d m o) ?_ ?_
  · rw [exec_descriptorRetire, execDescriptorRetire, ho]
    dsimp only
    rw [hany, Bool.not_false, when_true]
  · rw [s.retire_mover d m o, ho]
    exact ⟨rfl, rfl, fun h => if_pos h⟩

/-- Settles O32: a descriptor of each OPCODE, reading ahead, a piece of either kind, and the oldest descriptor. -/
theorem moverDescriptors : Obligations.MoverDescriptors := by
  intro s d m hmay
  refine ⟨fun c op hop hd hc ha t bs hr hop' hw he hf => ?_, fun ha hc hl t tr at_ u bs ht hr hw => readahead_completes hmay ha hc hl ht hr hw,
    fun desc hd => ⟨exec_moverPieceIssue_plain hmay hd, fun t bs hi hr => exec_moverPieceIssue_indexed hmay hd hi hr⟩,
    fun o rest ho hr => descriptorRetire_completes ho hr⟩
  have hx : exec c s = s.takeOp d m op := by
    simp only [List.mem_cons, Prod.mk.injEq, List.not_mem_nil, or_false] at hop
    obtain ⟨rfl, rfl⟩ | ⟨rfl, rfl⟩ | ⟨rfl, rfl⟩ | ⟨rfl, rfl⟩ | ⟨rfl, rfl⟩ := hop <;> rfl
  exact takeOp_completes hx hmay hd hc ha hr hop' hw he hf

end Sys2Proof.Machine
end

section
/-! SUPPORT. Late commands (R289, R344, R358, R377, R410, R426, R434, R465): a write of a long entry that is let through, what a guard's stamp leaves of the versions, and reads of TRACKING_PEAK, ports, links, ENTDAA, power loss and Lodestars. -/

namespace Sys2Proof.Machine

/-! ### Shard guards (R358 to R360) -/

theorem findEntry_shardGuard (g : Fin 64) :
    findEntry 0x2010 (g + 1) = some ⟨0x2010, 1, 64, "SHARD_GUARD", 0x40, 24, .rw, .long, 0, 0, 0, 18446744073709551615⟩ := by
  fin_cases g <;> rfl

/-- A write that is let through (R392) to a long entry, of the entry's size and passing the entry's own rules, takes effect (R391). -/
theorem State.access_of_mayWriteLong {s : State} {via : Via} {idx sub : Nat} {e : Entry} {bs : Bytes} (he : findEntry idx sub = some e)
    (hm : s.mayWriteLong via idx sub = true) (hl : bs.length = e.size) (hc : s.longCheck e.index sub (cleanLong e.index bs) = 0) :
    s.access via idx sub bs = .next ((s.longApply e.index sub (cleanLong e.index bs)).answerVia via 0 idx sub) := by
  simp only [State.mayWriteLong, he, Bool.and_eq_true, beq_iff_eq] at hm
  obtain ⟨⟨⟨hk, hvia⟩, hlong⟩, hcode⟩ := hm
  have hw : s.writeEntry via idx sub bs = (s.longApply e.index sub (cleanLong e.index bs), 0) := by
    simp only [State.writeEntry, he, hlong, if_true, State.writeLong, hcode, hl, hc, ne_eq, not_true_eq_false, if_false]
  rw [State.access, State.accessed, hw, hk, hvia]
  rfl

/-- The record stands and its version has risen; the stamp is still the old one. -/
def State.putGuard (s : State) (g : Nat) (bs : Bytes) : State :=
  { s.lset 0x2010 (g + 1) bs with cache := { s.cache with versions := tset s.cache.versions g (tget 0 s.cache.versions g + 1) } }

/-- An accepted record is kept, its version rises, and its stamp is rewritten (R358, R359). -/
theorem exec_shardGuardWrite_accepted {s : State} {via : Via} {g : Fin 64} {bs : Bytes} (hm : s.mayWriteLong via 0x2010 (g + 1) = true) (hl : bs.length = 24)
    (hc : s.longCheck 0x2010 (g + 1) (cleanLong 0x2010 bs) = 0) :
    exec (.shardGuardWrite via g bs) s = .next (((s.putGuard g (cleanLong 0x2010 bs)).rewriteStamp g).answerVia via 0 0x2010 (g + 1)) :=
  State.access_of_mayWriteLong (findEntry_shardGuard g) hm hl hc

theorem State.store_cache (s : State) (a : Nat) (bs : Bytes) : (s.store a bs).cache = s.cache := by
  induction bs generalizing s a with
  | nil => rfl
  | cons b bs ih => exact ih _ _
theorem State.loftEvict_versions (s : State) (l : LoftLine) : (s.loftEvict l).cache.versions = s.cache.versions := by
  unfold State.loftEvict
  split
  · exact State.ite_keeps (part := fun t => t.cache.versions) (by simp [State.outcome]) (by simp [State.outcome])
  · exact State.ite_keeps (part := fun t => t.cache.versions) rfl rfl
theorem State.loftInstall_versions (s : State) (l : LoftLine) : (s.loftInstall l).cache.versions = s.cache.versions := by
  unfold State.loftInstall
  dsimp only
  split
  · exact State.loftEvict_versions ..
  · rfl

/-- A write marked in the Loft raises no version. -/
theorem State.markWrite_versions (s : State) (a n : Nat) (alloc : Bool) (src : Source) (loc sub step : Nat) :
    (s.markWrite a n alloc src loc sub step).cache.versions = s.cache.versions := by
  unfold State.markWrite
  dsimp only
  repeat' split
  all_goals simp [State.loftInstall_versions, State.loftRefresh]

/-- A stamp's bytes, which no guard watches, raise no version. -/
theorem State.putSector_versions (s : State) (a : Nat) (bs : Bytes) : (s.putSector [] a bs).cache.versions = s.cache.versions := by
  have hput (t : State) : (t.putBytes [] a bs).cache.versions = t.cache.versions := congrArg CacheState.versions (State.store_cache ..)
  exact State.ite_keeps (part := fun t => t.cache.versions) (State.ite_keeps (part := fun t => t.cache.versions) (hput _) rfl) (hput s)

/-- With no fill outstanding for the stamp's line, a stamp rewritten raises no version. -/
theorem State.rewriteStamp_versions (s : State) (g : Nat) (hf : s.fill (s.line (guardFields (s.guard g)).2.2.1) = none) :
    (s.rewriteStamp g).cache.versions = s.cache.versions := by
  unfold State.rewriteStamp
  dsimp only
  rw [State.settle_of_noFill _ _ hf]
  exact (State.putSector_versions ..).trans (State.markWrite_versions ..)

theorem SliceFrame.longs : SliceFrame State.longs := ⟨fun _ _ => rfl, fun _ _ => rfl, fun _ _ => rfl, fun _ _ => rfl, fun _ _ => rfl, fun _ _ _ _ _ => rfl⟩

theorem State.rewriteStamp_longs (s : State) (g : Nat) : (s.rewriteStamp g).longs = s.longs := by
  have h := SliceFrame.longs
  exact (h.putSector ..).trans ((h.markWrite ..).trans (h.settle ..))

theorem State.answerVia_cache (s : State) (via : Via) (code idx sub : Nat) : (s.answerVia via code idx sub).cache = s.cache := by
  unfold State.answerVia
  split
  · split <;> rfl
  · rfl
theorem State.answerVia_longs (s : State) (via : Via) (code idx sub : Nat) : (s.answerVia via code idx sub).longs = s.longs := by
  unfold State.answerVia
  split
  · split <;> rfl
  · rfl
theorem State.lget_of_longs {s t : State} (h : t.longs = s.longs) (idx sub : Nat) : t.lget idx sub = s.lget idx sub := by rw [State.lget, h, ← State.lget]
theorem State.lget_lset (s : State) (idx sub : Nat) (v : Bytes) : (s.lset idx sub v).lget idx sub = v := by simp [State.lget, State.lset, tfind_tset_same]

/-- With no fill outstanding for its stamp's line, an accepted record is kept and its version rises by 1. -/
theorem shardGuardWrite_completes {s : State} {via : Via} {g : Fin 64} {bs : Bytes} (hm : s.mayWriteLong via 0x2010 (g + 1) = true) (hl : bs.length = 24)
    (hc : s.longCheck 0x2010 (g + 1) (cleanLong 0x2010 bs) = 0)
    (hf : s.fill ((s.putGuard g (cleanLong 0x2010 bs)).line (guardFields (cleanLong 0x2010 bs)).2.2.1) = none) :
    Completes (.shardGuardWrite via g bs) s (fun u => u.lget 0x2010 (g + 1) = cleanLong 0x2010 bs ∧
      tget 0 u.cache.versions g = tget 0 s.cache.versions g + 1) := by
  have hguard : (s.putGuard g (cleanLong 0x2010 bs)).guard g = cleanLong 0x2010 bs := State.lget_lset ..
  refine completes_of_next (exec_shardGuardWrite_accepted hm hl hc) ⟨?_, ?_⟩
  · rw [State.lget_of_longs (State.answerVia_longs ..), State.lget_of_longs (State.rewriteStamp_longs ..)]
    exact hguard
  · rw [State.answerVia_cache, State.rewriteStamp_versions _ _ (by rw [hguard]; exact hf)]
    exact tget_tset_same ..

/-! ### Reads of TRACKING_PEAK (R289) -/

/-- A read that answers a value has done only what reading the entry does. -/
theorem State.readEntry_effect {s t : State} {via : Via} {idx sub : Nat} {bs : Bytes} (h : s.readEntry via idx sub = (t, 0, bs)) : t = s.readEffect idx sub := by
  unfold State.readEntry at h
  split at h
  · simp at h
  · extract_lets allowed at h
    split at h
    · exact absurd (congrArg (fun x => x.2.1) h) ‹_›
    · split at h
      · simp at h
      · exact (congrArg Prod.fst h).symm

theorem trackingPeakRead_answers {s t : State} {via : Via} {die : Fin 4} {bs : Bytes} (hk : s.power.hkUp = true) (hv : s.viaMay via = true)
    (h : s.readEntry via 0x3600 (die + 1) = (t, 0, bs)) :
    exec (.trackingPeakRead via (.peak die)) s = .next ((t.emit (.value (leNat bs))).answerVia via 0 0x3600 (die + 1)) ∧
      (s.boot.mode ≠ .dim → t = s.dset 0x3600 (die + 1) 0) := by
  refine ⟨?_, fun hd => ?_⟩
  · rw [exec_trackingPeakRead, execTrackingPeakRead]
    dsimp only
    rw [h, State.accessed, hk, hv]
    rfl
  · rw [State.readEntry_effect h]
    exact if_pos ⟨rfl, Nat.succ_ne_zero _, hd⟩

/-! ### Host ports (R376, R377) -/

theorem State.port_of_host {s t : State} (h : t.host = s.host) (p : Nat) : t.port p = s.port p := by rw [State.port, h, ← State.port]
theorem State.port_setPort (s : State) (p : Nat) (h : HostPort) : (s.setPort p h).port p = h := by
  unfold State.setPort
  split
  · exact if_pos ‹_›
  · exact if_neg ‹_›
theorem State.mirrorCheck_host (s : State) : s.mirrorCheck.host = s.host := State.ite_keeps (part := State.host) (State.dadd_host ..) rfl

/-- A port that is reset, its configuration space with it (R377). -/
theorem State.resetPort_port (s : State) (p : Nat) (l0 : Bool) : ((s.resetPort p l0).port p).l0 = l0 ∧ ((s.resetPort p l0).port p).d3hot = false ∧
    ((s.resetPort p l0).port p).busMaster = false ∧ ((s.resetPort p l0).port p).bar2 = 38 := by
  have hspdm (t : State) (ts : List Nat) : (t.spdmLost ts).port p = t.port p := rfl
  unfold State.resetPort
  dsimp only
  rw [State.port_of_host (State.mirrorCheck_host _), hspdm, State.port_setPort]
  exact ⟨rfl, rfl, rfl, rfl⟩

theorem configurationWrite_completes {s : State} {port : Fin 2} {bm d3 : Bool} {size : Nat} (hu : s.portsUp = true) (hl : (s.port port).l0 = true)
    (hlo : 30 ≤ size) (hhi : size ≤ 42) :
    (((s.port port).d3hot = false ∨ d3 = true) → Completes (.configurationWrite port bm d3 size) s (fun u => (u.port port).busMaster = bm ∧
      (u.port port).d3hot = d3 ∧ (u.port port).bar2 = size ∧ (u.port port).l0 = true)) ∧
    ((s.port port).d3hot = true → d3 = false → Completes (.configurationWrite port bm d3 size) s (fun u => (u.port port).l0 = true ∧
      (u.port port).d3hot = false ∧ (u.port port).busMaster = false ∧ (u.port port).bar2 = 38)) := by
  have hx : exec (.configurationWrite port bm d3 size) s = .next (if (s.port port).d3hot && !d3 then s.resetPort port true
      else (s.setPort port { s.port port with busMaster := bm, d3hot := d3, bar2 := size }).mirrorCheck) := by
    have hmay : (s.portsUp && (s.port port).l0) = true := by simp [hu, hl]
    rw [exec_configurationWrite, execConfigurationWrite, if_neg (by omega)]
    dsimp only
    rw [hmay, when_true]
  refine ⟨fun h => completes_of_next hx ?_, fun h hd => completes_of_next hx ?_⟩
  · have hc : ¬ ((s.port port).d3hot && !d3) = true := by
      rcases h with h | h <;> simp [h]
    rw [if_neg hc, State.port_of_host (State.mirrorCheck_host _), State.port_setPort]
    exact ⟨rfl, rfl, rfl, hl⟩
  · rw [if_pos (by simp [h, hd])]
    exact s.resetPort_port port true

theorem pcieLinkUp_completes {s : State} {port : Fin 2} (hu : s.portsUp = true) (hl : (s.port port).l0 = false) :
    Completes (.pcieLinkUp port) s (fun u => (u.port port).l0 = true ∧ (u.port port).bar2 = (s.port port).bar2) := by
  refine completes_of_when (exec_pcieLinkUp port s) (by simp [hu, hl]) ?_
  rw [State.port_setPort]
  exact ⟨rfl, rfl⟩

/-! ### Links, ENTDAA, power loss and Lodestars -/

theorem ethLinkLost_completes {s : State} {l : Fin 36} (h : (s.link l).state = .ethUp) :
    Completes (.ethLinkLost l) s (fun u => (u.link l).state = .ethTraining ∧ u.eth = s.eth) := by
  refine completes_of_when (exec_ethLinkLost l s) (by simp [h]) ?_
  rw [State.link_setLink]
  exact ⟨rfl, rfl⟩

theorem entdaa_completes {s : State} (a : Fin 128) (hv : s.viaMay .i3c = true) (ha : s.prot.i3cAddr = none) :
    Completes (.entdaa a) s (fun u => u.prot.i3cAddr = some a.val) :=
  completes_of_when (exec_entdaa a s) (by simp [hv, ha]) rfl

theorem powerLoss_completes {s : State} {mv : Nat} (hk : s.power.hkUp = true) (hm : mv < 20000) :
    Completes (.powerLoss mv) s (fun u => u.power.hkUp = false ∧ u.power.supply = .reset ∧ u.boot.inReset = true ∧ u.boot.lastCause = 0x01 ∧
      u.boot.priorCause = s.boot.lastCause ∧ u.boot.memLost = true ∧ u.mem.cells = [] ∧ u.log.ring = s.log.ring ∧ u.boot.bootCount = s.boot.bootCount) :=
  completes_of_when (exec_powerLoss mv s) (by simp [hk, hm]) ⟨rfl, rfl, rfl, rfl, rfl, rfl, rfl, rfl, rfl⟩

theorem State.loseLodestar_lost (s : State) (die : Fin 4) : (s.loseLodestar die).lodestar die = false := by
  fin_cases die <;> simp [State.loseLodestar, State.lodestar]

theorem lodestarFailure_completes {s : State} {die : Fin 4} (hr : s.boot.inReset = false) (hl : s.lodestar die = true)
    (hs : die.val ≠ s.leader ∨ s.standbyReady = false) :
    Completes (.lodestarFailure die) s (fun u => u.lodestar die = false ∧ u.boot.leader = s.boot.leader ∧ u.mem = s.mem) := by
  have hmay : (die.val != s.leader || !s.standbyReady) = true := by simpa using hs
  refine completes_of_when (exec_lodestarFailure die s) (by rw [hr, hl, hmay]; rfl) ⟨s.loseLodestar_lost die, ?_, ?_⟩
  · exact State.ite_keeps (part := fun t => t.boot.leader) rfl rfl
  · exact State.ite_keeps (part := State.mem) rfl rfl

/-! ### A fill whose line is another's by now -/

/-- A write of one byte to LPA 1024, held at its slice. -/
def heldWrite : Req :=
  { id := 1, agent := .thread 0 0, die := 0, kind := .store, target := .here 1024, len := 1, data := [0], done := false, eaves := false, alloc := false,
    irregular := false, poison := none, reg := 99, signed := false, off := 0, desc := 1, next := none, step := 0, asid := 0, va := 1024, pos := (0, 0, 0) }
/-- A package whose storage line 4 is being filled for a write to LPA 1024, and is by now, with quad 0 package-wide, that of LPA 4096 (R265). -/
def remappedFill : State :=
  { boot := { mode := .ready, inReset := false }, host := { p0 := { l0 := true } }, longs := [(entryKey 0x2501 0, [1])],
    cache := { fills := [⟨4, 1, false, false, 0, [1]⟩] }, trans := { reqs := [heldWrite] }, mem := ⟨[], none, 0, []⟩ }
/-- A guard over LPAs 1024 to 1279, on, with its stamp at LPA 4096 (R358). -/
def remappedGuard : Bytes := natLe 24 (1024 * 2 ^ 148 + 1280 * 2 ^ 104 + 4096 * 2 ^ 60 + 1)

theorem remappedFill_may : remappedFill.mayWriteLong (.bar0 0) 0x2010 ((0 : Fin 64) + 1) = true := by decide +kernel
theorem remappedFill_check : remappedFill.longCheck 0x2010 ((0 : Fin 64) + 1) (cleanLong 0x2010 remappedGuard) = 0 := by decide +kernel

/-- The stamp rewritten lands the fill, and the write held on it counts once more. -/
theorem remappedFill_version :
    tget 0 (((remappedFill.putGuard (0 : Fin 64) (cleanLong 0x2010 remappedGuard)).rewriteStamp (0 : Fin 64)).answerVia (.bar0 0) 0 0x2010 1).cache.versions 0 = 2 := by
  decide +kernel

/-- Refutes O51: the version of a guard rises by more than 1 when rewriting its stamp lands a fill that holds a write into the guard's range (R255, R359). The statement leaves such fills open; one of the stamp's line can hold a write of another line once the interleave has changed (R265, R266). With no fill outstanding for the stamp's line the clause is `shardGuardWrite_completes`. The other clauses hold: `trackingPeakRead_answers`, `configurationWrite_completes`, `pcieLinkUp_completes`, `ethLinkLost_completes`, `entdaa_completes`, `powerLoss_completes` and `lodestarFailure_completes`. -/
theorem not_lateCommands : ¬ Obligations.LateCommands := by
  intro h
  obtain ⟨hguard, -⟩ := h remappedFill
  obtain ⟨u, hx, -, hv⟩ := hguard (.bar0 0) 0 remappedGuard remappedFill_may (natLe_length 24 _) remappedFill_check
  cases (exec_shardGuardWrite_accepted remappedFill_may (natLe_length 24 _) remappedFill_check).symm.trans hx
  exact absurd (hv.symm.trans remappedFill_version) (by decide)

end Sys2Proof.Machine
end

section
/-! SUPPORT. Rafter links in training (R311 to R314, R319, R462): what sending leaves of the links themselves, what training leaves of the rest of the package, and what each command of training does to its link. -/

namespace Sys2Proof.Machine

/-! ### What sending leaves of a link -/

/-- A link put back with a part of it as it was leaves that part of every link alone. -/
theorem State.setLink_part {β : Type} {part : Link → β} (s : State) (l : Nat) (k : Link) (j : Nat) (h : part k = part (s.link l)) :
    part ((s.setLink l k).link j) = part (s.link j) := by
  by_cases hj : j = l
  · rw [hj, State.link_setLink, h]
  · rw [State.link_setLink_other _ _ _ _ hj]

theorem State.link_sendControl (s : State) (l : Nat) (nak : Bool) (j : Nat) : (s.sendControl l nak).link j = s.link j :=
  State.ite_keeps (part := fun t => t.link j) rfl rfl

/-- A part of a link that its queue and the flits it has freed do not belong to. -/
structure QueueFrame {β : Type} (part : Link → β) : Prop where
  txq : ∀ k q, part { k with txq := q } = part k
  freed : ∀ k f, part { k with freed := f } = part k

/-- A part of a link that nothing of what sending a flit notes belongs to. -/
structure FlitFrame {β : Type} (part : Link → β) : Prop extends QueueFrame part where
  sent : ∀ k q r t p f v, part { k with txq := q, replay := r, txSeq := t, progress := p, flight := f, turn := v } = part k

section
variable {β : Type} {part : Link → β}

theorem QueueFrame.freeFlits (h : QueueFrame part) (s : State) (l vc n j : Nat) : part ((s.freeFlits l vc n).link j) = part (s.link j) :=
  State.ite_keeps (part := fun t => part (t.link j)) rfl
    ((congrArg part (State.link_sendControl _ _ _ j)).trans (State.setLink_part s l _ j (h.freed _ _)))

theorem QueueFrame.strand (h : QueueFrame part) (s : State) (l : Nat) (f : TxFrame) (j : Nat) : part ((s.strand l f).link j) = part (s.link j) :=
  State.ite_keeps (part := fun t => part (t.link j)) (h.freeFlits ..)
    (State.ite_keeps (part := fun t => part (t.link j)) (h.freeFlits ..) (State.setLink_part s l _ j (h.txq _ _)))

theorem FlitFrame.sendFlit (h : FlitFrame part) (s : State) (l j : Nat) : part ((Machine.sendFlit s l).link j) = part (s.link j) := by
  have hs (k : Link) (o : Out) (hk : part k = part (s.link l)) : part (((s.setLink l k).emit o).link j) = part (s.link j) := State.setLink_part s l k j hk
  unfold Machine.sendFlit
  dsimp only
  split
  · rfl
  · split
    · rfl
    · split
      · rfl
      · exact State.ite_keeps (part := fun t => part (t.link j)) ((h.freeFlits ..).trans (hs _ _ (h.sent ..))) (hs _ _ (h.sent ..))

theorem FlitFrame.pumpLink (h : FlitFrame part) (l n : Nat) (s : State) (j : Nat) : part ((Machine.pumpLink l n s).link j) = part (s.link j) := by
  induction n generalizing s with
  | zero => rfl
  | succ n ih => exact (ih _).trans (h.sendFlit s l j)

theorem FlitFrame.pump (h : FlitFrame part) (s : State) (l j : Nat) : part ((s.pump l).link j) = part (s.link j) :=
  State.ite_keeps (part := fun t => part (t.link j)) rfl (h.pumpLink ..)

end

/-- What a link knows of its peer. -/
def Link.peer (k : Link) : Option IdentityMsg × BitVec 10 × BitVec 6 := (k.peerMsg, k.peerRank, k.peerLink)
theorem FlitFrame.peer : FlitFrame Link.peer := ⟨⟨fun _ _ => rfl, fun _ _ => rfl⟩, fun _ _ _ _ _ _ _ => rfl⟩

/-- A link's state and its sequence state (R462). -/
def Link.session (k : Link) : LinkSt × Nat × Nat × List (Nat × BitVec 1600) := (k.state, k.txSeq, k.rxSeq, k.replay)
theorem QueueFrame.session : QueueFrame Link.session := ⟨fun _ _ => rfl, fun _ _ => rfl⟩

/-! ### A link that goes down (R319, R462) -/

/-- The record of a link that goes down: LINK_LOST when flits were unacknowledged. -/
def State.noteDown (s : State) (l : Nat) : State :=
  if (s.link l).replay ≠ [] then s.fatal 0x90 (linkDie l) .link 0xFFFFFFFF l 0xFFFF (s.linkDetail l 0)
  else s.event 0x91 .link (linkDie l) l (s.linkDetail l 0)

/-- What is left of a link that has gone down. -/
def Link.downed (k : Link) : Link := { laneMap := k.laneMap, polarity := k.polarity, peerRank := k.peerRank, peerLink := k.peerLink }

/-- The frames that came by a link hold no credits of it any more. -/
def Link.forget (l : Nat) (k : Link) : Link := { k with txq := mapIf (fun f => f.inLink == l) (fun f => { f with inFlits := 0 }) k.txq }

/-- The recovered clock of a link is gone, and so are the credits that frames held of it. -/
def State.forgetLink (s : State) (l : Nat) : State :=
  { s with
    time := { s.time with rxClock := s.time.rxClock &&& ~~~ (BitVec.ofNat 36 (2 ^ l)) }
    fab := { s.fab with
      links := s.fab.links.map (fun p => (p.1, p.2.forget l))
      inbox := mapIf (fun r => r.link == l) (fun r => { r with flits := 0 }) s.fab.inbox } }

theorem State.linkDown_eq (s : State) (l : Nat) :
    s.linkDown l = (s.link l).txq.foldl (fun t f => t.strand l f) (((s.noteDown l).setLink l (s.link l).downed).forgetLink l) := rfl

theorem State.link_forgetLink (s : State) (l j : Nat) : (s.forgetLink l).link j = (s.link j).forget l :=
  tget_map ({} : Link) (Link.forget l) rfl s.fab.links j

theorem State.linkDown_part {β : Type} {part : Link → β} (h : QueueFrame part) (s : State) (l : Nat) :
    part ((s.linkDown l).link l) = part (s.link l).downed := by
  rw [State.linkDown_eq, State.foldl_keeps (fun t => part (t.link l)) _ (fun t f => h.strand t l f l), State.link_forgetLink, State.link_setLink]
  exact h.txq _ _

/-- The recovered clock of a link that has gone down is gone. -/
theorem State.linkDown_rxClock (s : State) (l : Fin 36) : (s.linkDown l).time.rxClock.getLsbD l = false := by
  rw [State.linkDown_eq, State.foldl_keeps State.time _ (fun t f => t.strand_time l f)]
  have hbit : (BitVec.ofNat 36 (2 ^ l.val)).getLsbD l = true := by
    rw [BitVec.getLsbD_ofNat, Nat.testBit_two_pow_self, decide_eq_true l.isLt]
    rfl
  rw [State.forgetLink, BitVec.getLsbD_and, BitVec.getLsbD_not, hbit]
  simp

/-! ### What training leaves of the package -/

/-- A part of the state that links, delivered frames, the log and the time unit do not belong to. -/
structure TrainFrame {β : Type} (part : State → β) : Prop extends LinkFrame part where
  log : ∀ (s : State) l, part { s with log := l } = part s
  conj : ∀ (s : State) c, part { s with conj := c } = part s
  reset : ∀ (s : State) t k i, part { s with time := t, fab := { s.fab with links := k, inbox := i } } = part s

theorem LinkFrame.pump {β : Type} {part : State → β} (h : LinkFrame part) (s : State) (l : Nat) : part (s.pump l) = part s :=
  State.ite_keeps rfl (h.pumpLink ..)

namespace TrainFrame
section
variable {β : Type} {part : State → β} (h : TrainFrame part)
include h

theorem event (s : State) (code : Nat) (src : Source) (die loc : Nat) (detail : Bytes) : part (s.event code src die loc detail) = part s := h.log _ _
theorem fatal (s : State) (code die : Nat) (src : Source) (step loc sub : Nat) (detail : Bytes) : part (s.fatal code die src step loc sub detail) = part s :=
  (h.conj _ _).trans (h.log _ _)

theorem enterLink (s : State) (l : Nat) (st : LinkSt) (code : Nat) : part (s.enterLink l st code) = part s :=
  State.ite_keeps ((h.event ..).trans (h.setLink _ _ _)) (h.setLink _ _ _)

theorem compareIdentity (s : State) (l : Nat) : part (s.compareIdentity l) = part s := by
  unfold State.compareIdentity
  split
  · rfl
  · refine State.ite_keeps rfl ?_
    split
    · exact (h.pump _ _).trans (h.enterLink ..)
    · exact h.enterLink ..
    · exact h.enterLink ..

theorem strand (s : State) (l : Nat) (f : TxFrame) : part (s.strand l f) = part s :=
  State.ite_keeps (h.freeFlits ..) (State.ite_keeps ((h.freeFlits ..).trans (h.fatal ..)) (h.setLink _ _ _))

theorem linkDown (s : State) (l : Nat) : part (s.linkDown l) = part s := by
  have hnote : part (s.noteDown l) = part s := State.ite_keeps (h.fatal ..) (h.event ..)
  have hforget (t : State) : part (t.forgetLink l) = part t := h.reset t _ _ _
  rw [State.linkDown_eq, State.foldl_keeps part _ (fun t f => h.strand t l f), hforget, h.setLink, hnote]

theorem reviewLink (s : State) (l : Nat) : part (s.reviewLink l) = part s := by
  have heth : part (match (s.link l).state with | .ethTraining | .ethUp => s | _ => s.setLink l { s.link l with state := .ethTraining }) = part s := by
    split
    · rfl
    · rfl
    · exact h.setLink _ _ _
  refine State.ite_keeps (State.ite_keeps rfl (h.setLink _ _ _)) (State.ite_keeps heth ?_)
  split
  · exact h.linkDown ..
  · exact h.linkDown ..
  · exact h.linkDown ..
  · exact h.compareIdentity ..
  · exact h.compareIdentity ..
  · exact h.compareIdentity ..
  · exact h.compareIdentity ..
  · rfl

end
end TrainFrame

theorem TrainFrame.dict : TrainFrame State.dict := ⟨⟨fun _ _ _ => rfl, fun _ _ => rfl⟩, fun _ _ => rfl, fun _ _ => rfl, fun _ _ _ _ => rfl⟩
theorem TrainFrame.committedOnce : TrainFrame (fun s => s.fab.committedOnce) :=
  ⟨⟨fun _ _ _ => rfl, fun _ _ => rfl⟩, fun _ _ => rfl, fun _ _ => rfl, fun _ _ _ _ => rfl⟩

/-! ### States entered and left -/

theorem State.enterLink_link (s : State) (l : Nat) (st : LinkSt) (code : Nat) :
    (s.enterLink l st code).link l = { s.link l with state := st, wiringFault := BitVec.ofNat 8 code } := by
  unfold State.enterLink
  dsimp only
  split
  · exact State.link_setLink ..
  · exact State.link_setLink ..

/-- A link that enters a state without a wiring fault is not reported. -/
theorem State.enterLink_sound (s : State) (l : Nat) (st : LinkSt) : s.enterLink l st 0 = s.setLink l { s.link l with state := st, wiringFault := 0 } := rfl

theorem linkRetryTimer_completes (s : State) (l : Fin 36) (hon : s.linksOn = true) (he : pmEnable (s.portMap l) = true) :
    ((s.link l).state = .down → Completes (.linkRetryTimer l) s (fun u =>
      (u.link l).state = (if s.ethRole l = true then .ethTraining else .detect) ∧ (u.link l).wiringFault = 0)) ∧
    ((s.link l).state = .detect → Completes (.linkRetryTimer l) s (fun u => (u.link l).state = .detect ∧
      (u.link l).wiringFault = (if (s.link l).wiringFault = 0 then 1 else (s.link l).wiringFault))) := by
  constructor
  · intro hs
    refine completes_of_next (u := s.enterLink l (if s.ethRole l = true then .ethTraining else .detect) 0) ?_ ?_
    · simp only [exec_linkRetryTimer, execLinkRetryTimer, hon, he, hs, Bool.not_true, Bool.false_eq_true, if_false]
      split <;> rfl
    · rw [State.enterLink_link]
      exact ⟨rfl, rfl⟩
  · intro hs
    refine completes_of_next (u := s.enterLink l .detect (if (s.link l).wiringFault = 0 then 1 else (s.link l).wiringFault.toNat)) ?_ ?_
    · simp only [exec_linkRetryTimer, execLinkRetryTimer, hon, he, hs, Bool.not_true, Bool.false_eq_true, if_false]
    · rw [State.enterLink_link]
      refine ⟨rfl, ?_⟩
      dsimp only
      split
      · rfl
      · exact BitVec.ofNat_toNat ..

theorem linkDetected_completes (s : State) (l : Fin 36) (hon : s.linksOn = true) (hs : (s.link l).state = .detect) :
    Completes (.linkDetected l) s (fun u => (u.link l).state = .equalise ∧ u.mem = s.mem) :=
  completes_of_when (exec_linkDetected l s) (by simp [hon, hs]) ⟨by rw [State.enterLink_link], rfl⟩

theorem State.equalised_link (s : State) (l : Nat) (laneMap : BitVec 24) (polarity : BitVec 8) :
    (s.equalised l laneMap polarity).link l =
      { s.link l with state := .identify, wiringFault := 0, laneMap := laneMap, polarity := polarity, peerMsg := none } := by
  refine (State.link_setLink (s.enterLink l .identify 0) l _).trans ?_
  rw [State.enterLink_sound, State.link_setLink]

theorem linkEqualised_completes (s : State) (l : Fin 36) (hon : s.linksOn = true) (hs : (s.link l).state = .equalise) (laneMap : BitVec 24)
    (polarity : BitVec 8) :
    Completes (.linkEqualised l laneMap polarity true) s (fun u => (u.link l).state = .identify ∧ (u.link l).laneMap = laneMap ∧
      (u.link l).polarity = polarity ∧ u.out = .flit l ((u.link l).controlFlit false 1 (identityBits (u.ownIdentity l))) :: s.out) ∧
    Completes (.linkEqualised l laneMap polarity false) s (fun u => (u.link l).state = .detect ∧ (u.link l).wiringFault = 2) := by
  refine ⟨completes_of_when (exec_linkEqualised l laneMap polarity true s) (by simp [hon, hs]) ?_,
    completes_of_when (exec_linkEqualised l laneMap polarity false s) (by simp [hon, hs]) ?_⟩
  · rw [if_pos rfl]
    have hl := s.equalised_link l laneMap polarity
    exact ⟨by rw [hl], by rw [hl], by rw [hl], rfl⟩
  · rw [if_neg (by decide), State.enterLink_link]
    exact ⟨rfl, rfl⟩

/-! ### Identity messages (R313) -/

/-- Comparing a peer's message changes nothing of what the link knows of its peer. -/
theorem State.compareIdentity_peer (s : State) (l : Nat) : ((s.compareIdentity l).link l).peer = (s.link l).peer := by
  have henter (st : LinkSt) (code : Nat) : ((s.enterLink l st code).link l).peer = (s.link l).peer := by
    rw [State.enterLink_link]
    rfl
  unfold State.compareIdentity
  split
  · rfl
  · refine State.ite_keeps (part := fun t => (t.link l).peer) rfl ?_
    split
    · exact (FlitFrame.peer.pump ..).trans (henter _ _)
    · exact henter _ _
    · exact henter _ _

theorem identity_completes (s : State) (l : Fin 36) (hon : s.linksOn = true) (hs : (s.link l).state = .identify ∨ (s.link l).state = .miswired)
    (x : BitVec 1600) (ht : flitType x.toNat = 0) (hm : field x.toNat 1472 8 = 1) :
    (flitCrcOk x.toNat = true → Completes (.identity l x) s (fun u => (u.link l).peerMsg = some (identityOf x.toNat) ∧
      (u.link l).peerRank = (identityOf x.toNat).rank ∧ (u.link l).peerLink = (identityOf x.toNat).link)) ∧
    (flitCrcOk x.toNat = false → exec (.identity l x) s = .next s) := by
  have hx : exec (.identity l x) s = .next (if flitCrcOk x.toNat then s.takeIdentity l (identityOf x.toNat) else s) := by
    have hmay : (s.linksOn && ((s.link l).state == .identify || (s.link l).state == .miswired)) = true := by simp [hon, hs]
    simp only [exec_identity, execIdentity, ht, hm, ne_eq, not_true_eq_false, or_self, if_false, hmay, when_true]
  refine ⟨fun hc => completes_of_next (u := s.takeIdentity l (identityOf x.toNat)) (by rw [hx, if_pos hc]) ?_, fun hc => by rw [hx, hc]; rfl⟩
  have hp : ((s.takeIdentity l (identityOf x.toNat)).link l).peer = (some (identityOf x.toNat), (identityOf x.toNat).rank, (identityOf x.toNat).link) :=
    (State.compareIdentity_peer _ _).trans (congrArg Link.peer (State.link_setLink ..))
  simpa only [Link.peer, Prod.mk.injEq] using hp

/-! ### Retrains and links that go down (R314, R317, R319, R462) -/

theorem linkRetrains_size : ∀ l : Fin 36, (findEntry 0x3701 (l + 1)).map Entry.size = some 8 := by decide +kernel

theorem linkRetrain_completes (s : State) (l : Fin 36) (hq : s.quiet = false) (hs : (s.link l).state ∈ [LinkSt.active, .fenced, .miswired, .identify])
    (hd : (s.link l).retrainDue = true ∨ (s.inDusk = true ∧ (s.link l).fecDue = true ∧ 2000 + l.val ∉ s.log.deferred)) :
    Completes (.linkRetrain l) s (fun u => u.link l = { s.link l with retrainDue := false, fecDue := false, fec := (0, 0), resends := 0 } ∧
      u.dget 0x3701 (l + 1) = (s.dget 0x3701 (l + 1) + 1) % 2 ^ 64) := by
  have hmay : (!s.quiet && ((s.link l).state == .active || (s.link l).state == .fenced || (s.link l).state == .miswired || (s.link l).state == .identify) &&
      ((s.link l).retrainDue || (s.inDusk && (s.link l).fecDue && !decide (2000 + l.val ∈ s.log.deferred)))) = true := by
    simpa [hq, or_assoc, and_assoc] using And.intro hs hd
  have hdict : (s.retrain l).dict = (s.dadd 0x3701 (l + 1) 1).dict := State.setLink_dict ..
  refine completes_of_when (exec_linkRetrain l s) hmay ⟨?_, ?_⟩
  · rw [State.retrain, State.link_setLink, State.link_dadd]
  · rw [State.dget_dict _ _ _ _ hdict, s.dget_dadd_of_size _ _ _ (linkRetrains_size l)]

theorem linkDown_completes (s : State) (l : Fin 36) (hs : (s.link l).state ∉ [LinkSt.down, .disabled, .ethTraining, .ethUp]) :
    Completes (.linkDown l) s (fun u => (u.link l).state = .down ∧ (u.link l).txSeq = 0 ∧ (u.link l).rxSeq = 0 ∧ (u.link l).replay = [] ∧
      u.time.rxClock.getLsbD l = false) := by
  have hx : exec (.linkDown l) s = .next (s.linkDown l) := by
    rw [exec_linkDown, execLinkDown]
    split
    case h_5 => rfl
    all_goals exact absurd (by simp [*]) hs
  have hp : ((s.linkDown l).link l).session = (.down, 0, 0, []) := State.linkDown_part QueueFrame.session s l
  simp only [Link.session, Prod.mk.injEq] at hp
  obtain ⟨hst, htx, hrx, hr⟩ := hp
  exact completes_of_next hx ⟨hst, htx, hrx, hr, s.linkDown_rxClock l⟩

/-- Settles O33, command by command; the sequence numbers of a link that has gone down begin at 0 (log 20). -/
theorem linkTraining : Obligations.LinkTraining := by
  intro s l
  exact ⟨linkRetryTimer_completes s l, linkDetected_completes s l, fun hon hs m p => linkEqualised_completes s l hon hs m p,
    fun hon hs x ht hm => identity_completes s l hon hs x ht hm, linkRetrain_completes s l, linkDown_completes s l⟩

end Sys2Proof.Machine
end

section
/-! SUPPORT. Reductions and token exchanges (R338, R339, R342, R503): the fields of a frame's extension, frames that match nothing, segments granted, contributed and acknowledged, parts of count vectors, and requests abandoned after a halt. -/

namespace Sys2Proof.Machine

/-! ### Fields of bytes (R9) -/

theorem leNat_append (a b : Bytes) : leNat (a ++ b) = leNat a + 256 ^ a.length * leNat b := by
  induction a with
  | nil => simp [leNat]
  | cons x a ih =>
    rw [List.cons_append, leNat, ih, leNat, List.length_cons, pow_succ]
    ring

theorem getElem?_slice (bs : Bytes) (off n i : Nat) : (slice bs off n)[i]? = if i < n then some (bs.getD (off + i) 0) else none := by
  simp only [slice, List.getElem?_append, List.length_take, List.length_drop, List.getElem?_take, List.getElem?_drop, List.getElem?_replicate,
    List.getD_eq_getElem?_getD]
  by_cases hi : i < n <;> by_cases hb : off + i < bs.length
  · simp [hi, hb, show i < bs.length - off by omega]
  · simp [hi, List.getElem?_eq_none (Nat.not_lt.mp hb)]
    omega
  · simp [hi]
    omega
  · simp [hi]
    omega

theorem slice_add (bs : Bytes) (off m n : Nat) : slice bs off (m + n) = slice bs off m ++ slice bs (off + m) n := by
  refine List.ext_getElem? fun i => ?_
  rw [List.getElem?_append, slice_length]
  simp only [getElem?_slice]
  by_cases hm : i < m
  · simp [hm, Nat.lt_add_right n hm]
  · simp only [hm, if_false, show off + m + (i - m) = off + i by omega, show (i - m < n) = (i < m + n) from propext (by omega)]

theorem leAt_add (bs : Bytes) (off m n : Nat) : leAt bs off (m + n) = leAt bs off m + 256 ^ m * leAt bs (off + m) n := by
  rw [leAt, slice_add, leNat_append, slice_length, leAt, leAt]

/-- Whole bytes within a number of bytes are that number's field there. -/
theorem field_leAt (bs : Bytes) (off i k m : Nat) : field (leAt bs off (i + (k + m))) (8 * i) (8 * k) = leAt bs (off + i) k := by
  have h256 (n : Nat) : 2 ^ (8 * n) = 256 ^ n := pow_mul 2 8 n
  rw [field_eq, leAt_add, leAt_add, h256, h256, Nat.add_mul_div_left _ _ (pow_pos (by decide) i), Nat.div_eq_of_lt (leAt_lt bs off i), Nat.zero_add,
    Nat.add_mul_mod_self_left, Nat.mod_eq_of_lt (leAt_lt ..)]

/-- INDEX, COUNT and SEGMENT of the 8-byte extension of a reduction's frame (R321). -/
theorem field_extension (bs : Bytes) : field (leAt bs 0 8) 0 16 = leAt bs 0 2 ∧ field (leAt bs 0 8) 16 16 = leAt bs 2 2 ∧
    field (leAt bs 0 8) 32 32 = leAt bs 4 4 := ⟨field_leAt bs 0 0 2 6, field_leAt bs 0 2 2 4, field_leAt bs 0 4 4 0⟩

/-! ### Frames taken -/

/-- What sending leaves of the fabric's state: all but links, delivered frames and the counters of the route groups. -/
theorem SendFrame.of_fab {β : Type} {part : FabState → β} (h : ∀ b k i g, part { b with links := k, inbox := i, groupCtr := g } = part b) :
    SendFrame (fun s => part s.fab) :=
  ⟨⟨fun s _ _ => h s.fab _ s.fab.inbox s.fab.groupCtr, fun _ _ => rfl⟩, fun s i => h s.fab s.fab.links i s.fab.groupCtr,
    fun s g => h s.fab s.fab.links s.fab.inbox g, fun _ _ => rfl, fun _ _ _ _ _ _ _ _ => rfl, fun _ _ _ => rfl, fun _ _ => rfl⟩

theorem SendFrame.grants : SendFrame (fun s => s.fab.grants) := .of_fab fun _ _ _ _ => rfl
theorem SendFrame.roots : SendFrame (fun s => s.fab.roots) := .of_fab fun _ _ _ _ => rfl
theorem SendFrame.contribs : SendFrame (fun s => s.fab.contribs) := .of_fab fun _ _ _ _ => rfl
theorem SendFrame.exchanges : SendFrame (fun s => s.fab.exchanges) := .of_fab fun _ _ _ _ => rfl
theorem SendFrame.tokInbox : SendFrame (fun s => s.fab.tokInbox) := .of_fab fun _ _ _ _ => rfl

/-- A frame of a reduction or an exchange is taken by its type's command. -/
theorem fabricFrame_taken (s : State) (c : Instr) (ftype : Nat) (take : State → Frame → State)
    (hc : (c, ftype, take) ∈ [(Instr.reduceGrant, 0x30, State.takeGrant), (.reduceContrib, 0x31, State.takeContrib), (.reduceAck, 0x32, State.takeReduceAck),
      (.tokenAck, 0x3A, State.takeTokenAck)])
    (r : RxFrame) (f : Frame) (t : State) (h : s.takeFrame ftype = some (r, f, t)) : exec c s = .next ((take t f).free_ r) := by
  simp only [List.mem_cons, Prod.mk.injEq, List.not_mem_nil, or_false] at hc
  rcases hc with ⟨rfl, rfl, rfl⟩ | ⟨rfl, rfl, rfl⟩ | ⟨rfl, rfl, rfl⟩ | ⟨rfl, rfl, rfl⟩
  · rw [exec_reduceGrant, execReduceGrant, h]
  · rw [exec_reduceContrib, execReduceContrib, h]
  · rw [exec_reduceAck, execReduceAck, h]
  · rw [exec_tokenAck, execTokenAck, h]

theorem layoutDrops_size : (findEntry 0x3703 0).map Entry.size = some 8 := by rfl

/-- A frame that matches nothing is counted (R339). -/
theorem State.stagingDrop_counts (s : State) (die tag : Nat) (r : RxFrame) :
    ((s.stagingDrop die tag).free_ r).dget 0x3703 0 = (s.dget 0x3703 0 + 1) % 2 ^ 64 :=
  ((LinkFrame.dget 0x3703 0).freeFrame _ _).trans (s.dget_dadd_of_size 0x3703 0 1 layoutDrops_size)

/-- A frame that matches nothing changes no reduction and no exchange. -/
theorem State.stagingDrop_fab (s : State) (die tag : Nat) : (s.stagingDrop die tag).fab = s.fab := State.dadd_fab s 0x3703 0 1

/-! ### Grants, contributions and acknowledgements (R338) -/

theorem reduceGrant_kept {s : State} {r : RxFrame} {f : Frame} {t : State} (h : s.takeFrame 0x30 = some (r, f, t))
    (hn : ∀ k ∈ s.fab.contribs, ¬(rdTag k.desc.toNat = f.tf % 2 ^ 32 ∧ rdGen k.desc.toNat = f.gen ∧ k.index = leAt f.body 0 2)) :
    Completes .reduceGrant s (fun u => u.fab.grants =
      s.fab.grants ++ [⟨f.src, f.inc, f.tf % 2 ^ 32, f.gen, leAt f.body 0 2, leAt f.body 4 4, leAt f.body 2 2⟩]) := by
  obtain ⟨-, -, ht⟩ := State.takeFrame_keeps h
  obtain ⟨hi, hc, hs⟩ := field_extension f.body
  have hnone : t.fab.contribs.find? (fun c => rdTag c.desc.toNat == f.tf % 2 ^ 32 && rdGen c.desc.toNat == f.gen && c.index == leAt f.body 0 2) = none := by
    rw [ht]
    simpa only [List.find?_eq_none, Bool.and_eq_true, beq_iff_eq, and_assoc] using hn
  refine completes_of_next (fabricFrame_taken s .reduceGrant 0x30 State.takeGrant (by simp) r f t h) ?_
  rw [SendFrame.grants.freeFrame, State.takeGrant]
  simp only [hi, hc, hs, hnone]
  rw [ht]

/-- The root whose open segment has taken a part. -/
def RedRoot.takePart (k : RedRoot) (seg index : Nat) (part : Bytes) : RedRoot :=
  { k with open_ := mapIf (fun x => x.seg == seg) (fun x => { x with got := x.got ++ [(index, part)] }) k.open_ }

/-- The root that a contributed segment belongs to, by tag and generation. -/
def State.rootOf (s : State) (f : Frame) : Option RedRoot :=
  s.fab.roots.find? (fun k => rdTag k.desc.toNat == f.tf % 2 ^ 32 && rdGen k.desc.toNat == f.gen)

section
variable {s : State} {f : Frame} {k : RedRoot}

theorem State.takeContrib_taken (hk : s.rootOf f = some k) (ha : k.accepts (leAt f.body 4 4) (leAt f.body 0 2) = true) :
    s.takeContrib f = (s.setRoot (k.takePart (leAt f.body 4 4) (leAt f.body 0 2) (f.body.drop 8))).send 0x32 f.src f.gen k.die f.parity (f.tf % 2 ^ 32)
      (grantExt (leAt f.body 4 4) 1 (leAt f.body 0 2)) (f.tf % 2 ^ 32) := by
  obtain ⟨hi, -, hs⟩ := field_extension f.body
  rw [State.rootOf] at hk
  unfold State.takeContrib
  simp only [hi, hs, hk, ha]
  rfl

theorem State.takeContrib_refused (hk : s.rootOf f = some k) (ha : k.accepts (leAt f.body 4 4) (leAt f.body 0 2) = false) :
    s.takeContrib f = s.stagingDrop k.die (f.tf % 2 ^ 32) := by
  obtain ⟨hi, -, hs⟩ := field_extension f.body
  rw [State.rootOf] at hk
  unfold State.takeContrib
  simp only [hi, hs, hk, ha]
  rfl

theorem State.takeContrib_unknown (hk : s.rootOf f = none) : s.takeContrib f = s.stagingDrop 0xFF (f.tf % 2 ^ 32) := by
  rw [State.rootOf] at hk
  unfold State.takeContrib
  simp only [hk]

end

theorem reduceContrib_completes {s : State} {r : RxFrame} {f : Frame} {t : State} (h : s.takeFrame 0x31 = some (r, f, t)) :
    (∀ k, s.rootOf f = some k →
      (k.accepts (leAt f.body 4 4) (leAt f.body 0 2) = true → Completes .reduceContrib s (fun u => ∃ k' ∈ u.fab.roots, k'.action = k.action ∧
        k'.open_ = k.open_.map (fun x => if x.seg = leAt f.body 4 4 then { x with got := x.got ++ [(leAt f.body 0 2, f.body.drop 8)] } else x))) ∧
      (k.accepts (leAt f.body 4 4) (leAt f.body 0 2) = false → Completes .reduceContrib s (fun u => u.fab.roots = s.fab.roots ∧
        u.dget 0x3703 0 = (s.dget 0x3703 0 + 1) % 2 ^ 64))) ∧
    (s.rootOf f = none → Completes .reduceContrib s (fun u => u.fab.roots = s.fab.roots ∧ u.dget 0x3703 0 = (s.dget 0x3703 0 + 1) % 2 ^ 64)) := by
  obtain ⟨-, -, ht⟩ := State.takeFrame_keeps h
  have hx := fabricFrame_taken s .reduceContrib 0x31 State.takeContrib (by simp) r f t h
  have hroot : t.rootOf f = s.rootOf f := by rw [ht]; rfl
  have hdrop (die : Nat) (hd : t.takeContrib f = t.stagingDrop die (f.tf % 2 ^ 32)) : Completes .reduceContrib s (fun u =>
      u.fab.roots = s.fab.roots ∧ u.dget 0x3703 0 = (s.dget 0x3703 0 + 1) % 2 ^ 64) := by
    refine completes_of_next (hx.trans (congrArg (fun v : State => Host.Outcome.next (v.free_ r)) hd)) ⟨?_, ?_⟩
    · rw [SendFrame.roots.freeFrame, State.stagingDrop_fab, ht]
    · rw [State.stagingDrop_counts, ht]
      rfl
  refine ⟨fun k hk => ⟨fun ha => completes_of_next hx ?_, fun ha => hdrop k.die (State.takeContrib_refused (hroot.trans hk) ha)⟩,
    fun hn => hdrop 0xFF (State.takeContrib_unknown (hroot.trans hn))⟩
  have hmem : k ∈ t.fab.roots := List.mem_of_find?_eq_some (hroot.trans hk)
  refine ⟨k.takePart (leAt f.body 4 4) (leAt f.body 0 2) (f.body.drop 8), ?_, rfl, by simp only [RedRoot.takePart, mapIf, beq_iff_eq]⟩
  rw [SendFrame.roots.freeFrame, State.takeContrib_taken (hroot.trans hk) ha, SendFrame.roots.send]
  exact mem_mapIf (f := fun _ => k.takePart (leAt f.body 4 4) (leAt f.body 0 2) (f.body.drop 8)) hmem (beq_self_eq_true k.action)

theorem reduceAck_noted {s : State} {r : RxFrame} {f : Frame} {t : State} {k : RedContrib} (h : s.takeFrame 0x32 = some (r, f, t))
    (hk : s.fab.contribs.find? (fun c => rdTag c.desc.toNat == f.tf % 2 ^ 32 && rdGen c.desc.toNat == f.gen && c.index == leAt f.body 0 2 &&
      decide (leAt f.body 4 4 ∈ c.sent) && !decide (leAt f.body 4 4 ∈ c.acked)) = some k) (hl : k.acked.length + 1 ≠ redSegments k.desc.toNat) :
    Completes .reduceAck s (fun u => ({ k with acked := k.acked ++ [leAt f.body 4 4] } : RedContrib) ∈ u.fab.contribs) := by
  obtain ⟨-, -, ht⟩ := State.takeFrame_keeps h
  obtain ⟨hi, -, hs⟩ := field_extension f.body
  have htc : t.fab.contribs = s.fab.contribs := by rw [ht]
  have htake : t.takeReduceAck f = t.setContrib { k with acked := k.acked ++ [leAt f.body 4 4] } := by
    have hlen : (k.acked ++ [leAt f.body 4 4]).length ≠ redSegments k.desc.toNat := by simpa using hl
    unfold State.takeReduceAck
    simp only [hi, hs, htc, hk, if_neg hlen]
  refine completes_of_next (fabricFrame_taken s .reduceAck 0x32 State.takeReduceAck (by simp) r f t h) ?_
  rw [SendFrame.contribs.freeFrame, htake]
  exact mem_mapIf (f := fun _ => ({ k with acked := k.acked ++ [leAt f.body 4 4] } : RedContrib)) (htc ▸ List.mem_of_find?_eq_some hk) (by simp)

theorem reduceSegmentCombine_whole {s : State} {root seg : Nat} {r : RedRoot} {a : Action} {x : RedSeg} (hr : s.fab.roots.find? (fun r => r.action == root) = some r)
    (ha : s.action root = some a) (hx : r.open_.find? (fun x => x.seg == seg) = some x) (hm : s.fabricMay = true) (hl : x.got.length = r.entries.length) :
    exec (.reduceSegmentCombine root seg) s = .next (s.combineSegment a r x) := by
  rw [exec_reduceSegmentCombine, execReduceSegmentCombine, hr, ha]
  dsimp only
  rw [hx]
  simp [hm, hl]

/-! ### Token exchanges (R342) -/

/-- What an element of a list is replaced by stands in the list. -/
theorem mem_replace_of_mem {α : Type} [BEq α] [LawfulBEq α] {a b : α} {l : List α} (h : a ∈ l) : b ∈ l.replace a b := by
  induction l with
  | nil => cases h
  | cons x l ih =>
    rw [List.replace_cons]
    split
    · exact List.mem_cons_self
    · rename_i hne
      have hax : a ≠ x := by simpa using hne
      exact List.mem_cons_of_mem _ (ih ((List.mem_cons.mp h).resolve_left hax))

/-- A part that enters an inbox stands in it under its tag, generation and source rank. -/
theorem State.addPart_holds (s : State) (f : Frame) : ∃ v ∈ (s.addPart f).fab.tokInbox, v.tag = f.tf % 2 ^ 32 ∧ v.gen = f.gen ∧ v.rank = f.src ∧
    (leAt f.body 0 4, numbers 4 (f.body.drop 4)) ∈ v.parts := by
  unfold State.addPart
  dsimp only
  split
  · rename_i v hv
    have hlack := List.find?_some hv
    simp only [Bool.and_eq_true, beq_iff_eq] at hlack
    obtain ⟨⟨⟨htag, hgen⟩, hrank⟩, -⟩ := hlack
    refine ⟨{ v with parts := v.parts ++ [(leAt f.body 0 4, numbers 4 (f.body.drop 4))] }, ?_, htag, hgen, hrank, by simp⟩
    exact mem_replace_of_mem (List.mem_of_find?_eq_some hv)
  · exact ⟨_, List.mem_append_right _ (List.mem_singleton.mpr rfl), rfl, rfl, rfl, List.mem_singleton.mpr rfl⟩

theorem tokenCounts_completes {s : State} {r : RxFrame} {f : Frame} {t : State} (h : s.takeFrame 0x38 = some (r, f, t)) :
    (2 ^ 20 < (t.addPart f).inboxBytes f.die → exec .tokenCounts s = .next s) ∧
    ((t.addPart f).inboxBytes f.die ≤ 2 ^ 20 → exec .tokenCounts s = .next ((t.takeCounts f).free_ r)) ∧
    ((t.addPart f).inboxBytes f.die ≤ 2 ^ 20 → s.exchOf f = none → Completes .tokenCounts s (fun u => ∃ v ∈ u.fab.tokInbox,
      v.tag = f.tf % 2 ^ 32 ∧ v.gen = f.gen ∧ v.rank = f.src ∧ (leAt f.body 0 4, numbers 4 (f.body.drop 4)) ∈ v.parts)) := by
  obtain ⟨-, -, ht⟩ := State.takeFrame_keeps h
  have hx : exec .tokenCounts s = when (decide ((t.addPart f).inboxBytes f.die ≤ 2 ^ 20)) s ((t.takeCounts f).free_ r) := by
    rw [exec_tokenCounts, execTokenCounts, h]
  have hroom (hr : (t.addPart f).inboxBytes f.die ≤ 2 ^ 20) : exec .tokenCounts s = .next ((t.takeCounts f).free_ r) := by
    rw [hx, decide_eq_true hr, when_true]
  refine ⟨fun hf => by rw [hx, decide_eq_false (Nat.not_le.mpr hf), when_false], hroom, fun hr hn => completes_of_next (hroom hr) ?_⟩
  have hnone : (t.addPart f).exchOf f = none := by rw [ht]; exact hn
  have htake : t.takeCounts f = t.addPart f := by
    unfold State.takeCounts
    simp only [hnone, Option.bind_none]
  rw [SendFrame.tokInbox.freeFrame, htake]
  exact t.addPart_holds f

theorem tokenRow_completes {s : State} {r : RxFrame} {f : Frame} {t : State} (h : s.takeFrame 0x39 = some (r, f, t)) :
    (s.exchOf f = none → Completes .tokenRow s (fun u => u.fab.exchanges = s.fab.exchanges ∧ u.dget 0x3703 0 = (s.dget 0x3703 0 + 1) % 2 ^ 64 ∧
      u.mem = s.mem)) ∧
    (∀ x a, s.exchOf f = some x → s.action x.action = some a → exec .tokenRow s = .next ((t.takeRow a x f).free_ r)) := by
  obtain ⟨-, -, ht⟩ := State.takeFrame_keeps h
  have hex : t.exchOf f = s.exchOf f := by rw [ht]; rfl
  have hact (id : Nat) : t.action id = s.action id := by rw [ht]; rfl
  constructor
  · intro hn
    refine completes_of_next (u := (t.stagingDrop 0xFF (f.tf % 2 ^ 32)).free_ r) ?_ ⟨?_, ?_, ?_⟩
    · rw [exec_tokenRow, execTokenRow, h]
      dsimp only
      rw [hex, hn]
    · rw [SendFrame.exchanges.freeFrame, State.stagingDrop_fab, ht]
    · rw [State.stagingDrop_counts, ht]
      rfl
    · rw [SendFrame.mem.freeFrame, State.stagingDrop_mem, ht]
  · intro x a hx ha
    rw [exec_tokenRow, execTokenRow, h]
    dsimp only
    rw [hex, hx]
    dsimp only
    rw [hact, ha]

/-- An exchange without its allocation is not done. -/
theorem State.exchDone_unallocated (s : State) (x : Exchange) (h : x.allocated = false) : (s.setExch x).exchDone x.action = s.setExch x := by
  unfold State.exchDone
  split
  · rfl
  · rename_i y hy
    have hy' : y.allocated = false := by
      obtain ⟨z, -, hz⟩ := List.mem_map.mp (List.mem_of_find?_eq_some hy)
      have hact := List.find?_some hy
      split at hz
      · rw [← hz, h]
      · rename_i hne
        exact absurd (hz ▸ hact) hne
    rw [if_neg (by simp [hy'])]

theorem tokenAck_completes {s : State} {r : RxFrame} {f : Frame} {t : State} {x : Exchange} (h : s.takeFrame 0x3A = some (r, f, t))
    (hx : s.exchOf f = some x) (ha : x.allocated = false) :
    Completes .tokenAck s (fun u => ({ x with unacked := x.unacked - leAt f.body 0 4 } : Exchange) ∈ u.fab.exchanges) := by
  obtain ⟨-, -, ht⟩ := State.takeFrame_keeps h
  have hex : t.exchOf f = some x := by rw [ht]; exact hx
  refine completes_of_next (fabricFrame_taken s .tokenAck 0x3A State.takeTokenAck (by simp) r f t h) ?_
  rw [SendFrame.exchanges.freeFrame, State.takeTokenAck, hex]
  dsimp only
  rw [t.exchDone_unallocated { x with unacked := x.unacked - leAt f.body 0 4 } ha]
  exact mem_mapIf (f := fun _ => ({ x with unacked := x.unacked - leAt f.body 0 4 } : Exchange)) (List.mem_of_find?_eq_some hex) (beq_self_eq_true x.action)

/-! ### Requests abandoned after a halt (R503) -/

/-- The units stopped at SDT n, and no request to another package is unanswered. -/
def State.Abandoned (n : Nat) (s : State) : Prop := s.trans.stopSdt = n ∧ s.unanswered = []

section
variable {n : Nat} {s : State}

theorem State.Abandoned.of_trans (h : s.Abandoned n) {t : State} (ht : t.trans = s.trans) : t.Abandoned n := by
  rw [State.Abandoned, State.unanswered, ht]
  exact h

/-- A request answered is no unanswered one. -/
theorem State.Abandoned.mapReq (h : s.Abandoned n) (id : Nat) (f : Req → Req) (hf : ∀ q, (f q).done = true) : (s.mapReq id f).Abandoned n := by
  obtain ⟨hn, hu⟩ := h
  refine ⟨hn, List.filter_eq_nil_iff.mpr fun q hq => ?_⟩
  obtain ⟨p, hp, rfl⟩ := List.mem_map.mp hq
  split
  · simp [hf]
  · exact List.filter_eq_nil_iff.mp hu p hp

theorem State.Abandoned.foldl {α : Type} {f : State → α → State} (hf : ∀ t a, t.Abandoned n → (f t a).Abandoned n) (l : List α) (h : s.Abandoned n) :
    (l.foldl f s).Abandoned n :=
  List.foldlRecOn l f h (fun t ht a _ => hf t a ht)

theorem State.Abandoned.perform (h : s.Abandoned n) (r : Req) : (s.perform r).Abandoned n := by
  unfold State.perform
  dsimp only
  split
  · split
    · exact h.mapReq _ _ fun _ => rfl
    · exact (h.of_trans (State.applyWrite_trans ..)).mapReq _ _ fun _ => rfl
    · exact (h.of_trans (State.applyAdd_trans ..)).mapReq _ _ fun _ => rfl
  · exact h

theorem State.landFill_foldl (s : State) (f : Fill) (e : EccEvent) : ∃ t : State, t.trans = s.trans ∧
    s.landFill f e = f.held.foldl (fun s id => match s.req id with | some r => s.serve r f.line | none => s) t := by
  refine ⟨_, ?_, rfl⟩
  dsimp only
  repeat' split
  all_goals simp [State.poisonFound]

theorem State.Abandoned.settle (h : s.Abandoned n) (line : Nat) : (s.settle line).Abandoned n := by
  unfold State.settle
  split
  · rename_i f _
    obtain ⟨t, ht, hl⟩ := s.landFill_foldl f .clean
    rw [hl]
    refine State.Abandoned.foldl (fun v id hv => ?_) _ (h.of_trans ht)
    split
    · exact (hv.perform _).of_trans (State.serve_keeps ..).2
    · exact hv
  · exact h

theorem State.Abandoned.saveBytes (h : s.Abandoned n) (off : Nat) (bs : Bytes) : (s.saveBytes off bs).Abandoned n := by
  refine State.Abandoned.foldl (fun v p hv => ?_) _ h
  split
  · exact hv.of_trans (State.dadd_trans ..)
  · exact (hv.settle _).of_trans (State.acceptWrite_trans ..)

theorem State.Abandoned.saveHalt (h : s.Abandoned n) (count : Nat) : (s.saveHalt count).Abandoned n := by
  unfold State.saveHalt
  split
  · exact h
  · have hfold (f : Nat → Nat) (g : Nat → Bytes) (v : State) (hv : v.Abandoned n) : ((List.range 384).foldl (fun t k => t.saveBytes (f k) (g k)) v).Abandoned n :=
      State.Abandoned.foldl (fun t k ht => ht.saveBytes (f k) (g k)) _ hv
    unfold State.writeSaveArea
    rw [if_neg (by decide)]
    exact hfold _ _ _ (hfold _ _ _ (((h.saveBytes _ _).saveBytes _ _).saveBytes _ _))

end

theorem SliceFrame.haltWait : SliceFrame (fun s => s.fab.haltWait) :=
  ⟨fun _ _ => rfl, fun _ _ => rfl, fun _ _ => rfl, fun _ _ => rfl, fun _ _ => rfl, fun _ _ _ _ _ => rfl⟩

theorem State.stopAt_sdt (s : State) (r : Req) : (s.stopAt r).sdt = s.sdt := by
  unfold State.stopAt
  repeat' split
  all_goals rfl

theorem State.abandon_completes (s : State) : s.abandon.Abandoned s.sdt ∧ s.abandon.fab.haltWait = none := by
  unfold State.abandon
  refine ⟨State.Abandoned.saveHalt ⟨State.foldl_keeps State.sdt _ (fun t r => t.stopAt_sdt r) _ _, ?_⟩ _, SliceFrame.haltWait.saveHalt _ _⟩
  simp [State.unanswered, List.filter_filter]

theorem quietRequestAbandon_completes {s : State} {t : Nat} (hw : s.fab.haltWait = some t) (hu : s.unanswered ≠ []) (ht : t + 1600000 ≤ s.sdt) :
    Completes .quietRequestAbandon s (fun u => u.unanswered = [] ∧ u.fab.haltWait = none ∧ u.trans.stopSdt = s.sdt) := by
  obtain ⟨⟨hn, hnone⟩, hh⟩ := s.abandon_completes
  refine completes_of_next (u := s.abandon) ?_ ⟨hnone, hh, hn⟩
  rw [exec_quietRequestAbandon, execQuietRequestAbandon, hw]
  dsimp only
  rw [if_neg hu, decide_eq_true ht, when_true]

/-- Settles O36, frame by frame; which die's inbox a count part fills, and that it waits while there is no room, are log 57. -/
theorem reduceAndTokens : Obligations.ReduceAndTokens := by
  intro s
  exact ⟨fabricFrame_taken s, fun r f t h hn => reduceGrant_kept h hn, fun r f t h => reduceContrib_completes h, fun r f t k h hk hl => reduceAck_noted h hk hl,
    fun root seg r a x hr ha hx hm hl => reduceSegmentCombine_whole hr ha hx hm hl, fun r f t h => tokenCounts_completes h,
    fun r f t h => tokenRow_completes h, fun r f t x h hx ha => tokenAck_completes h hx ha, fun t hw hu ht => quietRequestAbandon_completes hw hu ht⟩

end Sys2Proof.Machine
end

section
/-! SUPPORT. The fabric's registers and the Ethernet-mode links (R323, R325, R328, R330 to R332, R344 to R346): port map records written in a run, what a packet sent leaves alone, and the transport's timers. -/

namespace Sys2Proof.Machine

/-! ### The registers of the fabric -/

theorem findEntry_fabricCommit : findEntry 0x2740 0 = some ⟨0x2740, 0, 0, "FABRIC_COMMIT", 0x11, 1, .wo, .command, 0, 0, 0, 255⟩ := by rfl
theorem findEntry_incarnation : findEntry 0x2701 0 = some ⟨0x2701, 0, 0, "INCARNATION", 0x12, 2, .rwa, .plain, 0, 0, 0, 65535⟩ := by rfl

theorem findEntry_index {idx sub : Nat} {e : Entry} (h : findEntry idx sub = some e) : e.index = idx := by
  unfold findEntry at h
  split at h
  · rename_i row hrow
    cases h
    have hp := List.find?_some hrow
    simp only [Bool.and_eq_true, beq_iff_eq] at hp
    exact hp.1.1
  · split at h
    · unfold recordRow at h
      split at h
      · cases h
        rfl
      · cases h
    · cases h

/-- A review of LOCK_STATE changes the time unit alone. -/
theorem State.reviewLock_keeps_part {β : Type} {part : State → β} (h : ∀ (s : State) t, part { s with time := t } = part s) (s : State) :
    part s.reviewLock = part s := by
  unfold State.reviewLock
  repeat' split
  all_goals exact h s _

/-- The answer to an accepted access changes no entry and nothing of the fabric. -/
theorem State.answerVia_ok (s : State) (via : Via) (idx sub : Nat) :
    (s.answerVia via 0 idx sub).dict = s.dict ∧ (s.answerVia via 0 idx sub).fab = s.fab ∧ (s.answerVia via 0 idx sub).mem = s.mem := by
  cases via
  all_goals exact ⟨rfl, rfl, rfl⟩

/-- A record written for each link, to a value that the records written before it do not change, holds that value. -/
theorem State.find_foldl_dset {i : Nat} {v : State → Nat → Nat} {l : List Nat} (hv : ∀ (t : State), ∀ k ∈ l, ∀ w j, v (t.dset i (k + 1) w) j = v t j)
    (s : State) {k : Nat} (hk : k ∈ l) : tfind (l.foldl (fun t k => t.dset i (k + 1) (v t k)) s).dict (entryKey i (k + 1)) = some (v s k) := by
  induction l using List.reverseRecOn with
  | nil => cases hk
  | append_singleton l a ih =>
    have hvl : ∀ (t : State), ∀ k ∈ l, ∀ w j, v (t.dset i (k + 1) w) j = v t j := fun t k h => hv t k (List.mem_append_left _ h)
    rw [List.foldl_append, List.foldl_cons, List.foldl_nil, State.dset]
    by_cases h : k = a
    · have hkeep : v (l.foldl (fun t k => t.dset i (k + 1) (v t k)) s) k = v s k :=
        List.foldlRecOn (motive := fun t => v t k = v s k) l _ rfl (fun t ht a ha => (hvl t a ha _ k).trans ht)
      rw [← h, tfind_tset_same, hkeep]
    · rw [tfind_tset_other _ _ _ _ (by simp only [entryKey]; omega)]
      exact ih hvl (by simpa [h] using hk)

theorem State.portMap_of_find {s : State} {l v : Nat} (h : tfind s.dict (entryKey 0x2720 (l + 1)) = some v) : s.portMap l = v := by rw [State.portMap, h]
theorem State.portMapStaged_of_find {s : State} {l v : Nat} (h : tfind s.dict (entryKey 0x2721 (l + 1)) = some v) : s.portMapStaged l = v := by
  rw [State.portMapStaged, h]

/-- An active record written leaves the staged ones alone. -/
theorem State.portMapStaged_dset (s : State) {k : Nat} (hk : k < 36) (w j : Nat) : (s.dset 0x2720 (k + 1) w).portMapStaged j = s.portMapStaged j := by
  rw [State.portMapStaged, State.dset, tfind_tset_other _ _ _ _ (by simp only [entryKey]; omega), ← State.portMapStaged]

/-- The state in which every staged port map record has been written as the active one. -/
def State.commitMap (s : State) : State := (List.range 36).foldl (fun t l => t.dset 0x2720 (l + 1) (t.portMapStaged l)) s

theorem State.commitMap_find (s : State) (l : Fin 36) : tfind s.commitMap.dict (entryKey 0x2720 (l + 1)) = some (s.portMapStaged l) :=
  State.find_foldl_dset (v := State.portMapStaged) (fun t _ hk w j => t.portMapStaged_dset (List.mem_range.mp hk) w j) s (List.mem_range.mpr l.isLt)

/-- The state in which the route groups have been written as the active ones. -/
def State.commitGroups (s : State) (groups : List Nat) : State := (List.range 16).foldl (fun t g => t.dset 0x2732 (g + 1) (groups.getD g 0)) s

/-- The state that knows of a commit. -/
def State.markCommitted (s : State) : State := { s with fab := { s.fab with committedOnce := true } }

theorem State.commitFabric_eq (s : State) : s.commitFabric = (List.range 36).foldl (fun t l => t.reviewLink l)
    ((s.commitMap.lset 0x2730 0 s.routeStaged).commitGroups ((List.range 16).map s.groupStaged)).markCommitted := by
  simp only [State.commitFabric, State.commitMap, State.commitGroups, State.markCommitted]

theorem State.commitGroups_find (s : State) (groups : List Nat) (l : Fin 36) :
    tfind (s.commitGroups groups).dict (entryKey 0x2720 (l + 1)) = tfind s.dict (entryKey 0x2720 (l + 1)) :=
  State.foldl_keeps (fun t => tfind t.dict (entryKey 0x2720 (l + 1))) _
    (fun _ _ => tfind_tset_other _ _ _ _ (by simp only [entryKey]; omega)) _ _

/-- A commit makes every staged record active (R328). -/
theorem State.commitFabric_find (s : State) (l : Fin 36) : tfind s.commitFabric.dict (entryKey 0x2720 (l + 1)) = some (s.portMapStaged l) := by
  rw [s.commitFabric_eq, State.foldl_keeps State.dict _ TrainFrame.dict.reviewLink, State.markCommitted, State.commitGroups_find, State.lset_dict,
    s.commitMap_find]

theorem State.commitFabric_committedOnce (s : State) : s.commitFabric.fab.committedOnce = true := by
  rw [s.commitFabric_eq, State.foldl_keeps (fun t => t.fab.committedOnce) _ TrainFrame.committedOnce.reviewLink, State.markCommitted]

theorem fabricCommit_completes (s : State) (via : Via) (hm : s.mayWrite via 0x2740 0 = true) :
    (s.running = false → Completes (.fabricCommit via) s (fun u => u.fab.committedOnce = true ∧ ∀ l : Fin 36, u.portMap l = s.portMapStaged l)) ∧
    (s.running = true → exec (.fabricCommit via) s = .next (s.answerVia via 0x0A 0x2740 0)) := by
  have hc : s.shortCheck ⟨0x2740, 0, 0, "FABRIC_COMMIT", 0x11, 1, .wo, .command, 0, 0, 0, 255⟩ 0 1 = if s.running then 0x0A else 0 := by
    simp [State.shortCheck, State.unitCheck]
  have hx : exec (.fabricCommit via) s = _ := (exec_fabricCommit via s).trans (State.regWrite_of_mayWrite s via _ _ _ _ findEntry_fabricCommit (by decide) hm (by decide))
  rw [hc] at hx
  constructor
  · intro hr
    rw [hr] at hx
    obtain ⟨hd, hf, -⟩ := State.answerVia_ok s.commitFabric.reviewLock via 0x2740 0
    refine completes_of_next (u := s.commitFabric.reviewLock.answerVia via 0 0x2740 0) hx ⟨?_, fun l => State.portMap_of_find ?_⟩
    · rw [hf, State.reviewLock_keeps_part (part := State.fab) (fun _ _ => rfl), State.commitFabric_committedOnce]
    · rw [hd, State.reviewLock_keeps_part (part := State.dict) (fun _ _ => rfl), State.commitFabric_find]
  · intro hr
    rw [hr] at hx
    exact hx

/-! ### Geometry and incarnation (R323, R325, R330, R332) -/

/-- The default port map record of a link in the present geometry. -/
def State.geometryMap (s : State) (l : Nat) : Nat := defaultPortMap (s.dget 0x2700 1) (s.dget 0x2700 2) (s.dget 0x2700 3) (s.dget 0x2700 4) l

theorem State.dget_geometry_dset (s : State) (k w : Nat) {j : Nat} (hj : j < 256) : (s.dset 0x2721 (k + 1) w).dget 0x2700 j = s.dget 0x2700 j :=
  s.dget_dset_other _ _ _ _ _ (by simp only [entryKey]; omega)

theorem State.recomputeStaged_geometry (s : State) {j : Nat} (hj : j < 256) : s.recomputeStaged.dget 0x2700 j = s.dget 0x2700 j :=
  State.foldl_keeps (fun t => t.dget 0x2700 j) _ (fun t k => t.dget_geometry_dset k _ hj) _ _

theorem State.recomputeStaged_find (s : State) (l : Fin 36) : tfind s.recomputeStaged.dict (entryKey 0x2721 (l + 1)) = some (s.geometryMap l) :=
  State.find_foldl_dset (v := State.geometryMap)
    (fun t k _ w j => by simp only [State.geometryMap, t.dget_geometry_dset k w (show 1 < 256 by decide), t.dget_geometry_dset k w (show 2 < 256 by decide),
      t.dget_geometry_dset k w (show 3 < 256 by decide), t.dget_geometry_dset k w (show 4 < 256 by decide)]) s (List.mem_range.mpr l.isLt)

theorem domainGeometryWrite_completes (s : State) (via : Via) (sub : Fin 256) (e : Entry) (v : Nat) (he : findEntry 0x2700 sub = some e)
    (hm : s.mayWrite via 0x2700 sub = true) (hv : v < 2 ^ (8 * e.size)) (hc : s.shortCheck e sub v = 0) :
    Completes (.domainGeometryWrite via sub v) s (fun u => u.dget 0x2700 sub = v ∧
      ∀ l : Fin 36, u.portMapStaged l = defaultPortMap (u.dget 0x2700 1) (u.dget 0x2700 2) (u.dget 0x2700 3) (u.dget 0x2700 4) l) := by
  have hi := findEntry_index he
  have hx := State.regWrite_of_mayWrite s via 0x2700 sub v e he (by rw [hi]; decide) hm hv
  have hu : s.shortApply e sub v = (s.dset 0x2700 sub v).recomputeStaged.reviewLock := by
    unfold State.shortApply
    simp only [hi]
  rw [if_pos hc, hu] at hx
  obtain ⟨hd, -, -⟩ := State.answerVia_ok (s.dset 0x2700 sub v).recomputeStaged.reviewLock via 0x2700 sub
  rw [State.reviewLock_keeps_part (part := State.dict) (fun _ _ => rfl)] at hd
  have hg (j : Nat) (hj : j < 256) : ((s.dset 0x2700 sub v).recomputeStaged.reviewLock.answerVia via 0 0x2700 sub).dget 0x2700 j = (s.dset 0x2700 sub v).dget 0x2700 j :=
    (State.dget_dict _ _ _ _ hd).trans (State.recomputeStaged_geometry _ hj)
  refine completes_of_next ((exec_domainGeometryWrite via sub v s).trans hx) ⟨?_, fun l => ?_⟩
  · rw [hg _ sub.isLt, State.dget_dset]
  · rw [hg 1 (by decide), hg 2 (by decide), hg 3 (by decide), hg 4 (by decide)]
    exact State.portMapStaged_of_find ((congrArg (fun d => tfind d (entryKey 0x2721 (l + 1))) hd).trans (State.recomputeStaged_find _ l))

theorem incarnationWrite_completes (s : State) (via : Via) (v : BitVec 16) (hm : s.mayWrite via 0x2701 0 = true) :
    Completes (.incarnationWrite via v.toNat) s (fun u => u.incarnation = v.toNat ∧ u.fab.fenced = false ∧ u.mem = s.mem) := by
  have hv := v.isLt
  have hc : s.shortCheck ⟨0x2701, 0, 0, "INCARNATION", 0x12, 2, .rwa, .plain, 0, 0, 0, 65535⟩ 0 v.toNat = 0 := by
    simp [State.shortCheck, State.unitCheck]
    omega
  have hx := State.regWrite_of_mayWrite s via _ _ _ _ findEntry_incarnation (by decide) hm hv
  rw [if_pos hc] at hx
  obtain ⟨hd, hf, hmem⟩ := State.answerVia_ok (s.dset 0x2701 0 v.toNat).unfence via 0x2701 0
  refine completes_of_next (u := (s.dset 0x2701 0 v.toNat).unfence.answerVia via 0 0x2701 0) ((exec_incarnationWrite via v.toNat s).trans hx)
    ⟨?_, by rw [hf]; rfl, hmem⟩
  exact (State.dget_dict _ _ _ _ hd).trans (State.dget_dset s 0x2701 0 v.toNat)

/-! ### What a packet sent leaves alone (R345, R346) -/

/-- A part of the state that the Ethernet ports, the free values and what the package shows do not belong to. -/
structure PacketFrame {β : Type} (part : State → β) : Prop where
  emit : ∀ (s : State) o, part (s.emit o) = part s
  setEthPort : ∀ (s : State) l e, part (s.setEthPort l e) = part s
  takeFree : ∀ (s : State) w, part (s.takeFree w).2 = part s

namespace PacketFrame
section
variable {β : Type} {part : State → β} (h : PacketFrame part)
include h

theorem ethSend (s : State) (l sport tx : Nat) (ackOnly : Bool) (frame : Bytes) : part (s.ethSend l sport tx ackOnly frame) = part s :=
  (h.emit _ _).trans ((h.setEthPort _ _ _).trans (h.takeFree s 20))

theorem ethResend (s : State) (l : Nat) : part (s.ethResend l) = part s :=
  State.ite_keeps rfl (State.foldl_keeps part _ (fun _ _ => h.ethSend ..) _ _)

theorem ethPump (l fuel : Nat) (s : State) : part (Machine.ethPump l fuel s) = part s := by
  induction fuel generalizing s with
  | zero => rfl
  | succ fuel ih =>
    rw [Machine.ethPump]
    split
    · rfl
    · exact State.ite_keeps rfl ((ih _).trans ((h.setEthPort _ _ _).trans (h.ethSend ..)))

theorem pumpEth (s : State) (l : Nat) : part (s.pumpEth l) = part s := State.ite_keeps rfl (h.ethPump ..)

end
end PacketFrame

theorem PacketFrame.fab : PacketFrame State.fab := ⟨fun _ _ => rfl, fun _ _ _ => rfl, fun _ _ => rfl⟩
theorem PacketFrame.dict : PacketFrame State.dict := ⟨fun _ _ => rfl, fun _ _ _ => rfl, fun _ _ => rfl⟩

/-- A packet sent acknowledges what has come. -/
theorem State.ethPort_ethSend (s : State) (l sport tx : Nat) (ackOnly : Bool) (frame : Bytes) :
    (s.ethSend l sport tx ackOnly frame).ethPort l = { s.ethPort l with sinceAck := 0, eceDue := false } := State.ethPort_setEthPort _ _ _
theorem State.ethSend_out (s : State) (l sport tx : Nat) (ackOnly : Bool) (frame : Bytes) :
    (s.ethSend l sport tx ackOnly frame).out.length = s.out.length + 1 := rfl

/-- Packets sent one after another are as many more shown, and the transport's unacknowledged ones stay. -/
theorem State.foldl_ethSend (l : Nat) (ps : List (Nat × Bytes)) (s : State) :
    (ps.foldl (fun s p => s.ethSend l (leAt p.2 0 2) p.1 false (p.2.drop 2)) s).out.length = s.out.length + ps.length ∧
    ((ps.foldl (fun s p => s.ethSend l (leAt p.2 0 2) p.1 false (p.2.drop 2)) s).ethPort l).unacked = (s.ethPort l).unacked := by
  induction ps generalizing s with
  | nil => exact ⟨rfl, rfl⟩
  | cons p ps ih =>
    obtain ⟨ho, hu⟩ := ih (s.ethSend l (leAt p.2 0 2) p.1 false (p.2.drop 2))
    rw [List.foldl_cons, ho, hu, State.ethSend_out, State.ethPort_ethSend, List.length_cons]
    exact ⟨by omega, rfl⟩

/-! ### Ethernet-mode links (R344 to R346) -/

theorem ethLinkUp_completes (s : State) (l : Fin 36) (hon : s.linksOn = true) (hs : (s.link l).state = .ethTraining) :
    Completes (.ethLinkUp l) s (fun u => (u.link l).state = .ethUp) := by
  refine completes_of_when (exec_ethLinkUp l s) (by simp [hon, hs]) ?_
  rw [State.link_of_fab ((PacketFrame.fab.pumpEth _ _).trans (PacketFrame.fab.ethResend _ _)), State.link_setLink]

theorem State.ethPort_ethDrop (s : State) (l : Nat) : ((s.ethDrop l).ethPort l).dropped = (s.ethPort l).dropped + 1 := by
  rw [State.ethDrop, State.ethPort_setEthPort]

theorem ethPacket_completes (s : State) (l : Fin 36) (packet : List Byte) (hs : (s.link l).state = .ethUp) :
    (s.ethBarred l = true → exec (.ethPacket l packet) s = .next s) ∧
    (s.ethBarred l = false → parseNet packet = none → Completes (.ethPacket l packet) s (fun u =>
      (u.ethPort l).dropped = (s.ethPort l).dropped + 1 ∧ u.mem = s.mem)) := by
  have hx : exec (.ethPacket l packet) s = .next (if s.ethBarred l then s else s.ethPacket l packet) := by
    rw [exec_ethPacket, execEthPacket, hs]
    rfl
  refine ⟨fun hb => by rw [hx, hb]; rfl, fun hb hp => completes_of_next (u := s.ethDrop l) ?_ ⟨s.ethPort_ethDrop l, rfl⟩⟩
  rw [hx, hb, State.ethPacket, hp]
  rfl

theorem ethRetransmits_size : ∀ l : Fin 36, (findEntry 0x3705 (ethSub l)).map Entry.size = some 8 := by decide +kernel

/-- A counter of resends raised bars no link. -/
theorem State.ethBarred_dadd (s : State) (l : Fin 36) (n : Nat) : (s.dadd 0x3705 (ethSub l) n).ethBarred l = s.ethBarred l := by
  have hq : (s.dadd 0x3705 (ethSub l) n).quiet = s.quiet := State.quiet_congr (by simp) (by simp) (by simp)
  have hp : (s.dadd 0x3705 (ethSub l) n).portMap l = s.portMap l := by
    unfold State.dadd
    split
    · have hkey : entryKey 0x2720 (l + 1) ≠ entryKey 0x3705 (ethSub l) := by simp only [entryKey]; omega
      simp only [State.portMap, State.dset, tfind_tset_other _ _ _ _ hkey]
    · rfl
  rw [State.ethBarred, hq, hp, ← State.ethBarred]

theorem ethRetransmitTimeout_completes (s : State) (l : Fin 36) (hlive : s.ethLive l = true) (hu : (s.ethPort l).unacked ≠ [])
    (he : s.elapsed (s.ethPort l).progress (1600 * s.dget 0x2758 0) = true) :
    Completes (.ethRetransmitTimeout l) s (fun u => u.out.length = s.out.length + (s.ethPort l).unacked.length ∧
      (u.ethPort l).unacked = (s.ethPort l).unacked ∧
      u.dget 0x3705 (ethSub l) = (s.dget 0x3705 (ethSub l) + (s.ethPort l).unacked.length) % 2 ^ 64) := by
  have hbar : s.ethBarred l = false := by
    simp only [State.ethLive, Bool.and_eq_true, Bool.not_eq_true'] at hlive
    exact hlive.2
  refine completes_of_when (exec_ethRetransmitTimeout l s) (by simp [hlive, he, List.length_pos_iff.mpr hu]) ?_
  have hport : (s.dadd 0x3705 (ethSub l) (s.ethPort l).unacked.length).ethPort l = s.ethPort l := by rw [State.ethPort, State.dadd_eth, ← State.ethPort]
  obtain ⟨ho, hk⟩ := State.foldl_ethSend l (s.ethPort l).unacked (s.dadd 0x3705 (ethSub l) (s.ethPort l).unacked.length)
  have hresend : (s.dadd 0x3705 (ethSub l) (s.ethPort l).unacked.length).ethResend l =
      (s.ethPort l).unacked.foldl (fun s p => s.ethSend l (leAt p.2 0 2) p.1 false (p.2.drop 2)) (s.dadd 0x3705 (ethSub l) (s.ethPort l).unacked.length) := by
    rw [State.ethResend, s.ethBarred_dadd, hbar, hport]
    rfl
  refine ⟨?_, ?_, ?_⟩
  · rw [State.setEthPort_out, hresend, ho, State.dadd_out]
  · rw [State.ethPort_setEthPort, hresend, hk, hport]
  · rw [State.dget_dict (s.dadd 0x3705 (ethSub l) (s.ethPort l).unacked.length) _ _ _ (by rw [State.setEthPort_dict, PacketFrame.dict.ethResend])]
    exact s.dget_dadd_of_size _ _ _ (ethRetransmits_size l)

/-- A packet answered, or dropped and counted when there is no answer to it. -/
def State.answerPacket (s : State) (l : Nat) : Option NetPacket → State
  | some p => s.emit (.eth l p.encode)
  | none => s.ethDrop l

/-- State u shows the answer to a packet, or counts one more packet dropped. -/
def State.Answers (s : State) (l : Nat) (answer : Option NetPacket) (u : State) : Prop :=
  match answer with
  | some p => u.out = .eth l p.encode :: s.out
  | none => u.out = s.out ∧ (u.ethPort l).dropped = (s.ethPort l).dropped + 1

theorem State.answerPacket_answers (s : State) (l : Nat) (answer : Option NetPacket) : s.Answers l answer (s.answerPacket l answer) := by
  cases answer with
  | some p => exact rfl
  | none => exact ⟨rfl, s.ethPort_ethDrop l⟩

section
variable {s : State} {l : Fin 36} (hlive : s.ethLive l = true)
include hlive

theorem State.ethLive_up : (s.link l).state = .ethUp ∧ s.ethBarred l = false := by
  simpa only [State.ethLive, Bool.and_eq_true, beq_iff_eq, Bool.not_eq_true'] using hlive

theorem ethAckTimer_completes : Completes (.ethAckTimer l) s (fun u => u.out.length = s.out.length + 1 ∧ (u.ethPort l).sinceAck = 0 ∧
    (u.ethPort l).txSeq = (s.ethPort l).txSeq) := by
  obtain ⟨-, hb⟩ := State.ethLive_up hlive
  refine completes_of_when (exec_ethAckTimer l s) hlive ?_
  rw [State.ethAck, hb, if_neg (by decide), State.ethPort_ethSend]
  exact ⟨rfl, rfl, rfl⟩

/-- A packet of discovery that a live link receives is taken. -/
theorem ethDiscovery_completes {c : Instr} {t : State} {P : State → Prop} (hx : exec c s = when ((s.link l).state == .ethUp) s (if s.ethBarred l then s else t))
    (hp : P t) : Completes c s P := by
  obtain ⟨hup, hb⟩ := State.ethLive_up hlive
  refine completes_of_when hx (by simp [hup]) ?_
  rwa [hb, if_neg (by decide)]

end

/-- Settles O37, register by register and packet by packet. -/
theorem fabricRegistersAndEthernet : Obligations.FabricRegistersAndEthernet := by
  intro s
  refine ⟨fabricCommit_completes s, domainGeometryWrite_completes s, incarnationWrite_completes s, fun l =>
    ⟨ethLinkUp_completes s l, fun packet hs => ethPacket_completes s l packet hs, fun hlive => ⟨ethRetransmitTimeout_completes s l hlive, ethAckTimer_completes hlive,
      fun packet => ⟨?_, ?_⟩⟩⟩⟩
  · refine ethDiscovery_completes hlive (exec_ethNeighborSolicitation l packet s) ?_
    generalize (parseNet packet).bind (answerNs (s.ethLocal l) (ethMac l)) = answer
    exact s.answerPacket_answers l answer
  · refine ethDiscovery_completes hlive (exec_ethEchoRequest l packet s) ?_
    generalize (parseNet packet).bind (answerEcho (s.ethLocal l) (ethMac l)) = answer
    exact s.answerPacket_answers l answer

end Sys2Proof.Machine
end

section
/-! SUPPORT. The host ports (R376 to R379, R382, R384, R387): what reads at the slices leave alone, the header of a port, its reset, its aperture, the mirror's period, the gates of a host, and the pieces of movers in host memory. -/

namespace Sys2Proof.Machine

/-! ### What reads at the slices leave alone (R254 to R256) -/

theorem SliceFrame.out : SliceFrame State.out := ⟨fun _ _ => rfl, fun _ _ => rfl, fun _ _ => rfl, fun _ _ => rfl, fun _ _ => rfl, fun _ _ _ _ _ => rfl⟩

namespace SliceFrame
section
variable {β : Type} {part : State → β} (h : SliceFrame part)
include h

theorem loftTouch (s : State) (l : LoftLine) : part (s.loftTouch l) = part s := by
  refine (h.loftRefresh ..).trans ?_
  split
  · exact h.outcome ..
  · rfl

theorem settleRead (s : State) (line : Nat) : part (s.settleRead line) = part s := by
  unfold State.settleRead
  split
  · exact State.ite_keeps ((h.landFill ..).trans (h.outcome ..)) (h.landFill ..)
  · rfl

theorem loftRead (s : State) (a n : Nat) (alloc : Bool) : part (s.loftRead a n alloc) = part s := by
  unfold State.loftRead
  dsimp only
  repeat' split
  all_goals simp only [h.loftRefresh, h.loftInstall, h.checkSector, h.loftTouch, h.dadd, h.settleRead, Nat.reduceLT]

theorem loftReads (s : State) (a n : Nat) (alloc : Bool) : part (s.loftReads a n alloc) = part s :=
  State.foldl_keeps part _ (fun _ _ => h.loftRead ..) _ _

end
end SliceFrame

/-- What is under way at the slices and what of memory is bad: fills, bad sectors beneath the Loft, and poison. -/
def State.marks (s : State) : List Fill × List Nat × List Nat := (s.cache.fills, s.cache.under, s.cache.poison)

theorem State.dadd_marks (s : State) (i j n : Nat) : (s.dadd i j n).marks = s.marks := congrArg (fun c => (c.fills, c.under, c.poison)) (s.dadd_cache i j n)
theorem State.loftRefresh_marks (s : State) (l : LoftLine) : (s.loftRefresh l).marks = s.marks := rfl

theorem State.outcome_marks (s : State) (die useful late unused : Nat) : (s.outcome die useful late unused).marks = s.marks := by
  unfold State.outcome
  simp only [State.dadd_marks]
  rfl

theorem State.loftTouch_marks (s : State) (l : LoftLine) : (s.loftTouch l).marks = s.marks := by
  refine (State.loftRefresh_marks ..).trans ?_
  split
  · exact s.outcome_marks ..
  · rfl

theorem State.checkSector_marks (s : State) (line : Nat) : (s.checkSector line).marks = s.marks := by
  unfold State.checkSector
  split <;> rfl

theorem State.under_of_marks {s t : State} (h : t.marks = s.marks) : t.cache.under = s.cache.under := congrArg (fun m => m.2.1) h

/-- A line that leaves the Loft poisons nothing when no bad sector lies beneath. -/
theorem State.loftEvict_marks (s : State) (l : LoftLine) (hu : s.cache.under = []) : (s.loftEvict l).marks = s.marks := by
  have hout (t : State) (ht : t.marks = s.marks) (loft : List LoftLine) (c : CacheState) :
      (if t.cache.under = [] then { t with cache := { t.cache with loft := loft } } else { t with cache := c }).marks = s.marks := by
    rw [if_pos ((State.under_of_marks ht).trans hu)]
    exact ht
  unfold State.loftEvict
  split
  · exact hout _ (s.outcome_marks ..) _ _
  · exact hout s rfl _ _

theorem State.loftInstall_marks (s : State) (l : LoftLine) (hu : s.cache.under = []) : (s.loftInstall l).marks = s.marks := by
  unfold State.loftInstall
  dsimp only
  split
  · exact s.loftEvict_marks _ hu
  · rfl

/-- With no fill outstanding and no bad sector beneath the Loft, a read at the slice starts no fill and poisons nothing. -/
theorem State.loftRead_marks (s : State) (a n : Nat) (alloc : Bool) (hf : s.cache.fills = []) (hu : s.cache.under = []) :
    (s.loftRead a n alloc).marks = s.marks := by
  have hs (line : Nat) : s.settleRead line = s := by simp [State.settleRead, State.fill, hf]
  have hc (line i j : Nat) : ((s.dadd i j 1).checkSector line).marks = s.marks := (State.checkSector_marks ..).trans (State.dadd_marks ..)
  have ht (l : LoftLine) (i j : Nat) : ((s.dadd i j 1).loftTouch l).marks = s.marks := (State.loftTouch_marks ..).trans (State.dadd_marks ..)
  unfold State.loftRead
  dsimp only
  simp only [hs]
  split
  case h_3 => rfl
  all_goals
    split
    · refine State.ite_keeps (part := State.marks) (ht ..) (State.ite_keeps (part := State.marks) ?_ ?_)
      · exact (State.checkSector_marks ..).trans (ht ..)
      · exact (State.checkSector_marks ..).trans (ht ..)
    · exact State.ite_keeps (part := State.marks) ((State.loftInstall_marks _ _ ((State.under_of_marks (hc ..)).trans hu)).trans (hc ..)) (hc ..)

/-- With no fill outstanding and no bad sector beneath the Loft, reads change neither what memory holds nor what of it is poisoned. -/
theorem State.loftReads_keeps (s : State) (a n : Nat) (alloc : Bool) (hf : s.cache.fills = []) (hu : s.cache.under = []) :
    (s.loftReads a n alloc).stored = s.stored ∧ (s.loftReads a n alloc).marks = s.marks := by
  refine List.foldlRecOn (motive := fun t : State => t.stored = s.stored ∧ t.marks = s.marks) _ _ ⟨rfl, rfl⟩ fun t ⟨hs, hm⟩ p _ => ?_
  have hft : t.cache.fills = [] := (congrArg Prod.fst hm).trans hf
  exact ⟨(t.loftRead_stored p.1 p.2 alloc hft).trans hs, (t.loftRead_marks p.1 p.2 alloc hft ((State.under_of_marks hm).trans hu)).trans hm⟩

theorem State.noteOne_keeps (s : State) (die : Nat) : (s.noteOne die).stored = s.stored ∧ (s.noteOne die).marks = s.marks :=
  ⟨State.ite_keeps (part := State.stored) rfl rfl, State.ite_keeps (part := State.marks) rfl rfl⟩

/-- What of an access is poisoned depends on the interleave and on the poisoned sectors alone. -/
theorem State.poisonedAt_congr {s t : State} (hs : t.stored = s.stored) (hm : t.marks = s.marks) (a n : Nat) : t.poisonedAt a n = s.poisonedAt a n := by
  have hp : t.cache.poison = s.cache.poison := congrArg (fun m => m.2.2) hm
  have hsec (x : Nat) : t.sector x = s.sector x := by rw [State.sector, State.place_congr (congrArg Prod.fst hs), ← State.sector]
  simp only [State.poisonedAt, hp, hsec]

/-! ### The header and the reset of a port (R376, R377) -/

theorem configHeader_ids (p : Nat) : slice (configHeader p) 0 4 = natLe 2 (Config.pciIds 0).toNat ++ natLe 2 (deviceId p) := by
  simp only [configHeader, List.append_assoc]
  rw [← List.append_assoc]
  exact slice_append_left (natLe 2 (Config.pciIds 0).toNat ++ natLe 2 (deviceId p)) _

theorem configHeader_classCode (p : Nat) : slice (configHeader p) 9 3 = natLe 3 classCode := by
  have hsplit : configHeader p = (natLe 2 (Config.pciIds 0).toNat ++ natLe 2 (deviceId p) ++ natLe 5 0) ++ (natLe 3 classCode ++ (natLe 2 0 ++ (natLe 1 0 ++
      (natLe 29 0 ++ (natLe 2 (Config.pciIds 1).toNat ++ natLe 2 (Config.pciIds 2).toNat))))) := by simp only [configHeader, List.append_assoc]
  rw [hsplit]
  exact (slice_append_right (natLe 2 (Config.pciIds 0).toNat ++ natLe 2 (deviceId p) ++ natLe 5 0) _ 3).trans (slice_append_left (natLe 3 classCode) _)

theorem State.mirrorCheck_trans (s : State) : s.mirrorCheck.trans = s.trans := State.ite_keeps (part := State.trans) (State.dadd_trans ..) rfl

theorem State.resetPort_trans (s : State) (p : Nat) (l0 : Bool) : (s.resetPort p l0).trans = s.trans :=
  (State.mirrorCheck_trans _).trans (State.setPort_trans ..)

/-- The requests in flight on a port are discarded when it is reset. -/
theorem State.resetPort_discards (s : State) (p : Nat) (l0 : Bool) {r : Req} {a : Nat} (hr : r ∈ s.trans.reqs) (hd : r.done = false)
    (ht : r.target = .host p a) : r.id ∈ ((s.resetPort p l0).port p).discarded := by
  have hspdm (t : State) (ts : List Nat) : (t.spdmLost ts).port p = t.port p := rfl
  unfold State.resetPort
  dsimp only
  rw [State.port_of_host (State.mirrorCheck_host _), hspdm, State.port_setPort]
  exact List.mem_map.mpr ⟨r, List.mem_filter.mpr ⟨hr, by simp [hd, ht]⟩, rfl⟩

theorem portReset_completes {s : State} (port : Fin 2) (hu : s.portsUp = true) :
    Completes (.portReset port) s (fun u => (u.port port).l0 = false ∧ (u.port port).d3hot = false ∧ (u.port port).busMaster = false ∧
      (u.port port).bar2 = 38 ∧ u.mem = s.mem ∧ u.trans = s.trans ∧
      ∀ r ∈ s.trans.reqs, r.done = false → (∃ a, r.target = .host port a) → r.id ∈ (u.port port).discarded) := by
  obtain ⟨hl, hd3, hbm, hbar⟩ := s.resetPort_port port false
  exact completes_of_when (exec_portReset port s) hu ⟨hl, hd3, hbm, hbar, s.resetPort_mem port false, s.resetPort_trans port false,
    fun _ hr hd ⟨_, ht⟩ => s.resetPort_discards port false hr hd ht⟩

/-! ### The memory aperture (R378, R379) -/

section
variable {s : State} {port : Fin 2} {o : BitVec 64} {n : Nat} (hfit : o.toNat % 4096 + n ≤ 4096) (hin : o.toNat + n ≤ 2 ^ (s.port port).bar2)
include hfit hin

/-- A read within 4 KiB and the aperture is the port's to answer, if it answers at all. -/
theorem exec_bar2Read_within (h0 : 0 < n) : exec (.bar2Read port o n) s = when (s.portAnswers port) s (s.bar2Read port o.toNat n) := by
  rw [exec_bar2Read, execBar2Read, if_neg (by omega), decide_eq_true hin, Bool.and_true]

/-- A write within 4 KiB and the aperture is the port's to take, if it answers at all. -/
theorem exec_bar2Write_within {bs : Bytes} (hn : bs.length = n) (h0 : bs ≠ []) (hmost : bs.length ≤ 256) :
    exec (.bar2Write port o bs) s = when (s.portAnswers port) s (s.bar2Write port o.toNat bs) := by
  subst hn
  rw [exec_bar2Write, execBar2Write, if_neg (not_or.mpr ⟨h0, by omega⟩), decide_eq_true hin, Bool.and_true]

end

theorem State.bar2Read_dim {s : State} (hd : s.boot.mode = .dim) (p off n : Nat) :
    s.bar2Read p off n = s.emit (.completion p 0 (List.replicate n 0xFF)) := if_pos hd

/-- Outside Dim mode the completion carries what memory holds and whether that is poisoned, or all ones where memory does not reach. -/
theorem State.bar2Read_answers {s : State} (hd : s.boot.mode ≠ .dim) (hf : s.cache.fills = []) (hu : s.cache.under = []) (p off n : Nat) :
    (s.bar2Read p off n).mem = s.mem ∧ (s.bar2Read p off n).out = (if bar2Reaches (s.bar2Lpa p off) n = true
        then .completion p (if (s.poisonedAt (s.bar2Lpa p off) n).isSome = true then 1 else 0) (s.read (s.bar2Lpa p off) n)
        else .completion p 0 (List.replicate n 0xFF)) :: s.out := by
  unfold State.bar2Read
  dsimp only
  rw [if_neg hd]
  by_cases hr : bar2Reaches (s.bar2Lpa p off) n = true
  · obtain ⟨hs, hm⟩ := s.loftReads_keeps (s.bar2Lpa p off) n true hf hu
    obtain ⟨hns, hnm⟩ := (s.loftReads (s.bar2Lpa p off) n true).noteOne_keeps (2 * p)
    have hout := (SliceFrame.out.noteOne (s.loftReads (s.bar2Lpa p off) n true) (2 * p)).trans (SliceFrame.out.loftReads ..)
    rw [if_neg (by simp [hr]), if_pos hr, State.poisonedAt_congr (hns.trans hs) (hnm.trans hm), State.read_of_stored (hns.trans hs), State.emit, hout]
    refine ⟨congrArg (fun x => x.2.2) (hns.trans hs), ?_⟩
    cases (s.poisonedAt (s.bar2Lpa p off) n).isSome <;> rfl
  · rw [if_pos (by simpa using hr), if_neg hr]
    exact ⟨s.bar2Refused_mem p, congrArg (List.cons _) (State.dadd_out ..)⟩

theorem findEntry_bar2Refused : ∀ p : Fin 2, (findEntry 0x3110 (p + 1)).map Entry.size = some 8 := by decide +kernel

theorem State.bar2Write_dim {s : State} (hd : s.boot.mode = .dim) (p off : Nat) (bs : Bytes) : s.bar2Write p off bs = s := if_pos hd
theorem State.bar2Write_beyond {s : State} (hd : s.boot.mode ≠ .dim) {p off : Nat} {bs : Bytes} (hr : bar2Reaches (s.bar2Lpa p off) bs.length = false) :
    s.bar2Write p off bs = s.bar2Refused p := (if_neg hd).trans (if_pos (by simp [hr]))
theorem State.bar2Write_reaches {s : State} (hd : s.boot.mode ≠ .dim) {p off : Nat} {bs : Bytes} (hr : bar2Reaches (s.bar2Lpa p off) bs.length = true) :
    s.bar2Write p off bs = (s.arriveWrite noDie (s.bar2Lpa p off) bs true .hostPort p 0xFFFF 0xFFFFFFFF).noteOne (2 * p) :=
  (if_neg hd).trans (if_neg (by simp [hr]))

theorem bar2Read_completes {s : State} (port : Fin 2) (o : BitVec 64) (n : Nat) (ha : s.portAnswers port = true) (h0 : 0 < n)
    (hfit : o.toNat % 4096 + n ≤ 4096) (hin : o.toNat + n ≤ 2 ^ (s.port port).bar2) :
    (s.boot.mode = .dim → exec (.bar2Read port o n) s = .next (s.emit (.completion port 0 (List.replicate n 0xFF)))) ∧
    (s.boot.mode ≠ .dim → s.cache.fills = [] → s.cache.under = [] → Completes (.bar2Read port o n) s (fun u => u.mem = s.mem ∧
      u.out = (if bar2Reaches (s.bar2Lpa port o.toNat) n = true
        then .completion port (if (s.poisonedAt (s.bar2Lpa port o.toNat) n).isSome = true then 1 else 0) (s.read (s.bar2Lpa port o.toNat) n)
        else .completion port 0 (List.replicate n 0xFF)) :: s.out)) := by
  have hx := exec_bar2Read_within hfit hin h0
  exact ⟨fun hd => by rw [hx, ha, when_true, State.bar2Read_dim hd],
    fun hd hf hu => completes_of_when hx ha (State.bar2Read_answers hd hf hu port o.toNat n)⟩

theorem bar2Write_completes {s : State} (port : Fin 2) (o : BitVec 64) (bs : Bytes) (ha : s.portAnswers port = true) (h0 : bs ≠ [])
    (hmost : bs.length ≤ 256) (hfit : o.toNat % 4096 + bs.length ≤ 4096) (hin : o.toNat + bs.length ≤ 2 ^ (s.port port).bar2) :
    (s.boot.mode = .dim → exec (.bar2Write port o bs) s = .next s) ∧
    (s.boot.mode ≠ .dim → bar2Reaches (s.bar2Lpa port o.toNat) bs.length = false → Completes (.bar2Write port o bs) s (fun u => u.mem = s.mem ∧
      u.dget 0x3110 (port + 1) = (s.dget 0x3110 (port + 1) + 1) % 2 ^ 64)) ∧
    (s.boot.mode ≠ .dim → bar2Reaches (s.bar2Lpa port o.toNat) bs.length = true →
      exec (.bar2Write port o bs) s = .next ((s.arriveWrite noDie (s.bar2Lpa port o.toNat) bs true .hostPort port 0xFFFF 0xFFFFFFFF).noteOne (2 * port))) := by
  have hx := exec_bar2Write_within hfit hin rfl h0 hmost
  refine ⟨fun hd => ?_, fun hd hr => completes_of_when hx ha ?_, fun hd hr => ?_⟩
  · rw [hx, ha, when_true, State.bar2Write_dim hd]
  · rw [State.bar2Write_beyond hd hr]
    exact ⟨s.bar2Refused_mem port, s.dget_dadd_of_size _ _ _ (findEntry_bar2Refused port)⟩
  · rw [hx, ha, when_true, State.bar2Write_reaches hd hr]

/-! ### The mirror's period (R382) -/

theorem findEntry_mirrorPeriod : findEntry 0x1121 2 = some ⟨0x1121, 2, 2, "MIRROR_PERIOD_SLOTS", 0x12, 2, .rw, .plain, 0, 0, 0, 65535⟩ := by rfl

/-- A port that the mirror may write by: in L0 and D0, with bus mastering. -/
def HostPort.carries (p : HostPort) : Bool := p.l0 && !p.d3hot && p.busMaster

theorem HostPort.carries_iff (p : HostPort) : p.carries = true ↔ p.l0 = true ∧ p.d3hot = false ∧ p.busMaster = true := by
  simp [HostPort.carries, and_assoc]

/-- The status after the check: a running mirror is suspended when its port does not carry it. -/
theorem State.mirrorCheck_status (s : State) :
    s.mirrorCheck.dget 0x1121 4 = if s.mirrorOn = true ∧ ¬ s.mirrorPort.carries = true then 1 else s.dget 0x1121 4 := by
  have hc : (s.mirrorOn && !(s.mirrorPort.l0 && !s.mirrorPort.d3hot && s.mirrorPort.busMaster)) = true ↔ s.mirrorOn = true ∧ ¬ s.mirrorPort.carries = true := by
    rw [← HostPort.carries, Bool.and_eq_true, Bool.not_eq_true', Bool.not_eq_true]
  simp only [State.mirrorCheck, hc]
  split
  · rw [State.dget_dadd_other _ _ _ _ _ _ (by decide), State.dget_dset]
  · rfl

theorem State.mirrorCheck_period (s : State) : s.mirrorCheck.dget 0x1121 2 = s.dget 0x1121 2 :=
  State.ite_keeps (part := fun t => t.dget 0x1121 2)
    ((State.dget_dadd_other _ _ _ _ _ _ (by decide)).trans (State.dget_dset_other _ _ _ _ _ _ (by decide))) rfl

/-- The state with a new period: the mirror begins anew and is not suspended. -/
def State.setMirrorPeriod (s : State) (v : Nat) : State :=
  { (s.dset 0x1121 2 v).dset 0x1121 4 0 with host := { s.host with mirrorCount := 0 } }

theorem State.setMirrorPeriod_period (s : State) (v : Nat) : (s.setMirrorPeriod v).dget 0x1121 2 = v :=
  (State.dget_dset_other _ 0x1121 4 0x1121 2 0 (by decide)).trans (State.dget_dset ..)
theorem State.setMirrorPeriod_status (s : State) (v : Nat) : (s.setMirrorPeriod v).dget 0x1121 4 = 0 := State.dget_dset (s.dset 0x1121 2 v) 0x1121 4 0

theorem State.setMirrorPeriod_port (s : State) (v : Nat) : (s.setMirrorPeriod v).mirrorPort = s.mirrorPort := by
  have hp : (s.setMirrorPeriod v).dget 0x1121 3 = s.dget 0x1121 3 :=
    (State.dget_dset_other _ 0x1121 4 0x1121 3 0 (by decide)).trans (State.dget_dset_other _ _ _ _ _ _ (by decide))
  rw [State.mirrorPort, hp]
  rfl

theorem State.setMirrorPeriod_on (s : State) (v : Nat) : (s.setMirrorPeriod v).mirrorOn = true ↔ v ≠ 0 := by
  rw [State.mirrorOn, s.setMirrorPeriod_period, s.setMirrorPeriod_status]
  simp

/-- A mirror with a new period is suspended at once when it has a period and its port does not carry it. -/
theorem State.setMirrorPeriod_checked (s : State) (v : Nat) : (s.setMirrorPeriod v).mirrorCheck.dget 0x1121 4 =
    if v = 0 ∨ (s.mirrorPort.l0 = true ∧ s.mirrorPort.d3hot = false ∧ s.mirrorPort.busMaster = true) then 0 else 1 := by
  rw [State.mirrorCheck_status, s.setMirrorPeriod_status, s.setMirrorPeriod_port]
  simp only [State.setMirrorPeriod_on, ne_eq, ← not_or, ite_not, HostPort.carries_iff]

/-- A period from 1 to 7 is refused. -/
theorem State.shortCheck_mirrorPeriod (s : State) (v : BitVec 16) :
    s.shortCheck ⟨0x1121, 2, 2, "MIRROR_PERIOD_SLOTS", 0x12, 2, .rw, .plain, 0, 0, 0, 65535⟩ 2 v.toNat = if 0 < v.toNat ∧ v.toNat < 8 then 0x06 else 0 := by
  have hv : ¬ 65535 < v.toNat := by have := v.isLt; omega
  simp [State.shortCheck, State.bootCheck, hv]

theorem mirrorPeriodWrite_completes {s : State} (via : Via) (v : BitVec 16) (hm : s.mayWrite via 0x1121 2 = true) :
    (v = 0 ∨ 8 ≤ v.toNat → Completes (.mirrorPeriodWrite via v.toNat) s (fun u => u.dget 0x1121 2 = v.toNat ∧ u.host.mirrorCount = 0 ∧
      u.dget 0x1121 4 = (if v = 0 ∨ (s.mirrorPort.l0 = true ∧ s.mirrorPort.d3hot = false ∧ s.mirrorPort.busMaster = true) then 0 else 1))) ∧
    (v ≠ 0 → v.toNat < 8 → exec (.mirrorPeriodWrite via v.toNat) s = .next (s.answerVia via 0x06 0x1121 2)) := by
  have hx := State.regWrite_of_mayWrite s via 0x1121 2 v.toNat _ findEntry_mirrorPeriod (by decide) hm v.isLt
  have hc := s.shortCheck_mirrorPeriod v
  have hz : v = 0 ↔ v.toNat = 0 := by simp [← BitVec.toNat_inj]
  refine ⟨fun h => ?_, fun h0 h8 => ?_⟩
  · rw [if_neg (by rw [hz] at h; omega)] at hc
    rw [if_pos hc] at hx
    refine completes_of_next (u := (s.setMirrorPeriod v.toNat).mirrorCheck.answerVia via 0 0x1121 2) hx ⟨?_, ?_, ?_⟩
    · rw [State.answerVia_ok_dget, State.mirrorCheck_period, s.setMirrorPeriod_period]
    · have hh (t : State) : (t.answerVia via 0 0x1121 2).host = t.host := by cases via <;> rfl
      rw [hh, State.mirrorCheck_host]
      rfl
    · rw [State.answerVia_ok_dget, s.setMirrorPeriod_checked]
      simp only [hz]
  · rw [if_pos ⟨Nat.pos_of_ne_zero (mt hz.mpr h0), h8⟩] at hc
    rw [if_neg (by rw [hc]; decide), hc] at hx
    exact hx

/-! ### Gates of a host (R384) -/

theorem findEntry_hostGateInc : findEntry 0x1124 0 = some ⟨0x1124, 0, 0, "HOST_GATE_INC", 0x12, 2, .wo, .command, 0, 0, 0, 65535⟩ := by rfl

theorem State.answerVia_ok_gates (s : State) (via : Via) (idx sub : Nat) : (s.answerVia via 0 idx sub).gates = s.gates := by cases via <;> rfl

theorem hostGateInc_completes {s : State} (via : Via) (v : BitVec 16) (hm : s.mayWrite via 0x1124 0 = true) (hg : field v.toNat 0 12 ≠ 0) :
    Completes (.hostGateInc via v.toNat) s (fun u => u.gate (field v.toNat 0 12) (bit v.toNat 12) = s.gate (field v.toNat 0 12) (bit v.toNat 12) + 1) := by
  have hv := v.isLt
  have hc : s.shortCheck ⟨0x1124, 0, 0, "HOST_GATE_INC", 0x12, 2, .wo, .command, 0, 0, 0, 65535⟩ 0 v.toNat = 0 := by
    simp [State.shortCheck, State.bootCheck]
    omega
  have hx := State.regWrite_of_mayWrite s via 0x1124 0 v.toNat _ findEntry_hostGateInc (by decide) hm hv
  rw [if_pos hc] at hx
  refine completes_of_next (u := (s.bumpGate (field v.toNat 0 12) (bit v.toNat 12)).answerVia via 0 0x1124 0) hx ?_
  have hlt : field v.toNat 0 12 < 4096 := by
    rw [field_eq]
    omega
  rw [State.gate_of_gates (State.answerVia_ok_gates ..), State.gate_bumpGate _ _ _ hg hlt]

/-! ### Pieces of movers in host memory (R387) -/

section
variable {s : State} {req p a : Nat} {r : Req} (hr : s.req req = some r) (ht : r.target = .host p a)
include hr ht

theorem exec_hostPieceCompletion_answers {bytes : Bytes} (hl : bytes.length = (if r.kind = .load then r.len else 0)) (hh : s.atHost p r = true) :
    exec (.hostPieceCompletion req bytes) s =
      .next ((s.mapReq req (fun q => { q with done := true, data := if q.kind = .load then bytes else q.data })).respond { r with done := true }) := by
  have hok : (if r.kind = .load then bytes.length == r.len else bytes.length == 0) = true := by
    split at hl <;> simp [*]
  rw [exec_hostPieceCompletion, execHostPieceCompletion, hr]
  dsimp only
  rw [ht]
  dsimp only
  rw [hok, hh]
  rfl

/-- A piece that fails ends its mover, and its request goes. -/
theorem hostAccess_completes {d m : Nat} (status : Fin 256) (hg : r.agent = .mover d m ∨ r.agent = .moverDesc d m) (hd : r.done = false) :
    Completes (.hostAccess req status) s (fun u => (u.mover d m).status = .idle ∧ (u.mover d m).desc = none ∧ ∀ q ∈ u.trans.reqs, q.id ≠ req) := by
  have hx : exec (.hostAccess req status) s = when (!r.done) s (((s.dropReq req).hostFault d r.step m p status a).endMover d m) := by
    rw [exec_hostAccess, execHostAccess, hr]
    dsimp only
    rcases hg with hg | hg <;> rw [ht, hg]
  refine completes_of_when hx (by rw [hd]; rfl) ?_
  rw [State.endMover, State.mover_setMover]
  exact ⟨rfl, rfl, fun q hq => by simpa using (List.mem_filter.mp hq).2⟩

end

/-- Settles O38: the reset and the header of a port, its aperture, the mirror's period, a host's gates and the pieces of movers. -/
theorem hostPorts : Obligations.HostPorts := by
  intro s
  refine ⟨portReset_completes, fun port => ⟨configHeader_ids port, configHeader_classCode port⟩, bar2Read_completes, bar2Write_completes,
    fun port o n bs ha => ⟨fun h0 hfit hin => ?_, fun h0 hmost hfit hin => ?_⟩, mirrorPeriodWrite_completes, hostGateInc_completes,
    fun req r p a hr ht => ⟨fun bytes => exec_hostPieceCompletion_answers hr ht, fun d m status => hostAccess_completes hr ht status⟩⟩
  · rw [exec_bar2Read_within hfit hin h0, ha, when_false]
  · rw [exec_bar2Write_within hfit hin rfl h0 hmost, ha, when_false]

end Sys2Proof.Machine
end

section
/-! SUPPORT. What each operation of the state leaves of the threads, the gate counters and the open sessions: one frame lemma per operation, in the order of the model (R405). -/

namespace Sys2Proof.Machine

/-! ### The parts that stand still -/

/-- Threads, gate counters and the open sessions. -/
def State.rest (s : State) : Tab Thread × Tab (BitVec 32) × List Session := (s.threads, s.gates, s.prot.sessions)

/-- Threads, gate counters and the open sessions are as they were. -/
abbrev Still (s u : State) : Prop := u.threads = s.threads ∧ u.gates = s.gates ∧ u.prot.sessions = s.prot.sessions

theorem Still.rfl {s : State} : Still s s := ⟨.refl _, .refl _, .refl _⟩
theorem Still.trans {s t u : State} (h : Still t u) (k : Still s t) : Still s u := ⟨h.1.trans k.1, h.2.1.trans k.2.1, h.2.2.trans k.2.2⟩
theorem still_of_rest {s u : State} (h : u.rest = s.rest) : Still s u := ⟨congrArg (·.1) h, congrArg (·.2.1) h, congrArg (·.2.2) h⟩

theorem Still.rest {s u : State} (h : Still s u) : u.rest = s.rest := Prod.ext h.1 (Prod.ext h.2.1 h.2.2)

theorem SliceFrame.rest : SliceFrame State.rest := ⟨fun _ _ => .refl _, fun _ _ => .refl _, fun _ _ => .refl _, fun _ _ => .refl _, fun _ _ => .refl _, fun _ _ _ _ _ => .refl _⟩
theorem SendFrame.rest : SendFrame State.rest :=
  ⟨⟨fun _ _ _ => .refl _, fun _ _ => .refl _⟩, fun _ _ => .refl _, fun _ _ => .refl _, fun _ _ => .refl _, fun _ _ _ _ _ _ _ _ => .refl _, fun _ _ _ => .refl _, fun _ _ => .refl _⟩
theorem IssueFrame.rest : IssueFrame State.rest := ⟨SendFrame.rest, fun _ _ => .refl _, fun _ _ => .refl _⟩
theorem TrainFrame.rest : TrainFrame State.rest := ⟨SendFrame.rest.toLinkFrame, fun _ _ => .refl _, fun _ _ => .refl _, fun _ _ _ _ => .refl _⟩

@[simp] theorem State.ite_threads (c : Prop) [Decidable c] (s t : State) : (if c then s else t).threads = if c then s.threads else t.threads := apply_ite _ _ _ _
@[simp] theorem State.ite_gates (c : Prop) [Decidable c] (s t : State) : (if c then s else t).gates = if c then s.gates else t.gates := apply_ite _ _ _ _
@[simp] theorem State.ite_sessions (c : Prop) [Decidable c] (s t : State) :
    (if c then s else t).prot.sessions = if c then s.prot.sessions else t.prot.sessions := apply_ite (fun s : State => s.prot.sessions) _ _ _

theorem State.ite_sessions_same {c : Prop} [Decidable c] {s t u : State} (ht : t.prot.sessions = s.prot.sessions) (hu : u.prot.sessions = s.prot.sessions) :
    (if c then t else u).prot.sessions = s.prot.sessions := State.ite_keeps (part := fun s => s.prot.sessions) ht hu
theorem State.ite_bounded {c : Prop} [Decidable c] {t u : State} (ht : t.prot.sessions.length ≤ 4) (hu : u.prot.sessions.length ≤ 4) :
    (if c then t else u).prot.sessions.length ≤ 4 := by split <;> assumption

@[simp] theorem State.foldl_still {α : Type} (f : State → α → State) (hf : ∀ s a, Still s (f s a)) (l : List α) (s : State) : Still s (l.foldl f s) :=
  still_of_rest (State.foldl_keeps State.rest f (fun s a => (hf s a).rest) l s)
@[simp] theorem State.foldl_sessions {α : Type} (f : State → α → State) (hf : ∀ s a, (f s a).prot.sessions = s.prot.sessions) (l : List α) (s : State) : (l.foldl f s).prot.sessions = s.prot.sessions :=
  State.foldl_keeps (fun s => s.prot.sessions) f hf l s

theorem still_ite {s t u : State} {c : Prop} [Decidable c] (ht : Still s t) (hu : Still s u) : Still s (if c then t else u) := by
  split <;> assumption
theorem still_of_fst {α : Type} {s t : State} {x : State × α} {r : α} (hx : Still s x.1) (he : x = (t, r)) : Still s t := by
  rw [he] at hx
  exact hx
theorem sessions_of_fst {α : Type} {s t : State} {x : State × α} {r : α} (hx : x.1.prot.sessions = s.prot.sessions) (he : x = (t, r)) : t.prot.sessions = s.prot.sessions := by
  rw [he] at hx
  exact hx

/-! ### Time, the log, votes, gates and actions -/

@[simp] theorem State.passTo_still (s : State) (t : Nat) : Still s (s.passTo t) := by
  unfold State.passTo
  dsimp only
  split <;> simp [Still]

@[simp] theorem State.invalidLanes_still (s : State) (g n : Nat) : Still s (s.invalidLanes g n) := by simp [Still, State.invalidLanes]

@[simp] theorem State.vote_still (s : State) (veto : Bool) (step src die core : Nat) : Still s (s.vote veto step src die core) := still_of_rest (SliceFrame.rest.vote ..)

@[simp] theorem State.nonfiniteOn_still (s : State) (die core step src : Nat) : Still s (s.nonfiniteOn die core step src) := by simp [Still, State.nonfiniteOn]

@[simp] theorem State.nonfinite_still (s : State) (die step src : Nat) : Still s (s.nonfinite die step src) := still_of_rest (SliceFrame.rest.nonfinite ..)

@[simp] theorem State.bumpGate_sessions (s : State) (g : Nat) (odd : Bool) : (s.bumpGate g odd).prot.sessions = s.prot.sessions := by simp [State.bumpGate]

@[simp] theorem State.localInc_sessions (s : State) (g : Nat) (odd : Bool) (step die core : Nat) : (s.localInc g odd step die core).prot.sessions = s.prot.sessions := by
  simp [State.localInc]

@[simp] theorem State.completeAction_sessions (s : State) (id : Nat) : (s.completeAction id).prot.sessions = s.prot.sessions := by
  unfold State.completeAction
  split <;> simp

@[simp] theorem State.countStop_still (s : State) (agent : Nat) : Still s (s.countStop agent) := by simp [Still, State.countStop]

/-! ### Links, flits and frames -/

@[simp] theorem State.sendControl_still (s : State) (l : Nat) (nak : Bool) : Still s (s.sendControl l nak) := still_of_rest (SendFrame.rest.sendControl ..)

@[simp] theorem State.freeFlits_still (s : State) (l vc n : Nat) : Still s (s.freeFlits l vc n) := still_of_rest (SendFrame.rest.freeFlits ..)

@[simp] theorem sendFlit_still (s : State) (l : Nat) : Still s (sendFlit s l) := still_of_rest (SendFrame.rest.sendFlit ..)

@[simp] theorem pumpLink_still (l n : Nat) (s : State) : Still s (pumpLink l n s) := still_of_rest (SendFrame.rest.pumpLink ..)

@[simp] theorem State.pump_still (s : State) (l : Nat) : Still s (s.pump l) := by simp [Still, State.pump]

@[simp] theorem State.enqueue_still (s : State) (l vc : Nat) (half : Bool) (bytes : Bytes) (inLink inFlits : Nat) : Still s (s.enqueue l vc half bytes inLink inFlits) := still_of_rest (SendFrame.rest.enqueue ..)

@[simp] theorem State.noRoute_still (s : State) (l tag : Nat) : Still s (s.noRoute l tag) := still_of_rest (SendFrame.rest.noRoute ..)

@[simp] theorem State.deliver_still (s : State) (r : RxFrame) : Still s (s.deliver r) := still_of_rest (SendFrame.rest.deliver ..)

@[simp] theorem State.forward_still (s : State) (f : Frame) (key inLink : Nat) (inHalf : Bool) (inFlits : Nat) : Still s (s.forward f key inLink inHalf inFlits) := still_of_rest (SendFrame.rest.forward ..)

@[simp] theorem State.send_still (s : State) (ftype dest gen die : Nat) (parity : Bool) (tf : Nat) (body : Bytes) (key : Nat) : Still s (s.send ftype dest gen die parity tf body key) := still_of_rest (SendFrame.rest.send ..)

@[simp] theorem State.sendOn_still (s : State) (l ftype gen die : Nat) (parity : Bool) (tf : Nat) (body : Bytes) (dest : Nat) : Still s (s.sendOn l ftype gen die parity tf body dest) := still_of_rest (SendFrame.rest.sendOn ..)

@[simp] theorem State.sendAll_still (s : State) (ftype tf : Nat) (body : Bytes) : Still s (s.sendAll ftype tf body) := still_of_rest (SendFrame.rest.sendAll ..)

theorem State.takeFrame_still (s : State) (ftype : Nat) (r : RxFrame) (f : Frame) (t : State) (h : s.takeFrame ftype = some (r, f, t)) : Still s t := by
  unfold State.takeFrame at h
  split at h
  · cases h
  · cases h; exact .rfl

@[simp] theorem State.freeFrame_still (s : State) (r : RxFrame) : Still s (s.free_ r) := still_of_rest (SendFrame.rest.freeFrame ..)

/-! ### Stores, the Loft and Eaves caches and requests -/

@[simp] theorem State.store_still (s : State) (a : Nat) (bs : Bytes) : Still s (s.store a bs) := still_of_rest (SliceFrame.rest.store ..)

@[simp] theorem State.poisonSector_still (s : State) (storage : Nat) : Still s (s.poisonSector storage) := still_of_rest (SliceFrame.rest.poisonSector ..)

@[simp] theorem State.eccCorrected_still (s : State) (storage sub unit : Nat) : Still s (s.eccCorrected storage sub unit) := still_of_rest (SliceFrame.rest.eccCorrected ..)

@[simp] theorem State.poisonFound_still (s : State) (storage : Nat) : Still s (s.poisonFound storage) := by simp [Still, State.poisonFound]

@[simp] theorem State.memoryPoison_still (s : State) (lpa : Nat) (src : Source) (die step loc sub : Nat) : Still s (s.memoryPoison lpa src die step loc sub) := by simp [Still, State.memoryPoison]

@[simp] theorem State.outcome_still (s : State) (die useful late unused : Nat) : Still s (s.outcome die useful late unused) := still_of_rest (SliceFrame.rest.outcome ..)

@[simp] theorem State.loftEvict_still (s : State) (l : LoftLine) : Still s (s.loftEvict l) := still_of_rest (SliceFrame.rest.loftEvict ..)

@[simp] theorem State.loftInstall_still (s : State) (l : LoftLine) : Still s (s.loftInstall l) := still_of_rest (SliceFrame.rest.loftInstall ..)

@[simp] theorem State.loftRefresh_still (s : State) (l : LoftLine) : Still s (s.loftRefresh l) := still_of_rest (SliceFrame.rest.loftRefresh ..)

@[simp] theorem State.loftTouch_still (s : State) (l : LoftLine) : Still s (s.loftTouch l) := still_of_rest (SliceFrame.rest.loftTouch ..)

@[simp] theorem State.checkSector_still (s : State) (line : Nat) : Still s (s.checkSector line) := still_of_rest (SliceFrame.rest.checkSector ..)

@[simp] theorem State.exportLine_still (s : State) (line : Nat) : Still s (s.export_ line) := by simp [Still, State.export_]

@[simp] theorem State.markWrite_still (s : State) (a n : Nat) (alloc : Bool) (src : Source) (loc sub step : Nat) : Still s (s.markWrite a n alloc src loc sub step) := still_of_rest (SliceFrame.rest.markWrite ..)

@[simp] theorem State.countGuards_still (s : State) (gs : List Nat) : Still s (s.countGuards gs) := still_of_rest (SliceFrame.rest.countGuards ..)

@[simp] theorem State.putBytes_still (s : State) (gs : List Nat) (a : Nat) (bs : Bytes) : Still s (s.putBytes gs a bs) := still_of_rest (SliceFrame.rest.putBytes ..)

@[simp] theorem State.putSector_still (s : State) (gs : List Nat) (a : Nat) (bs : Bytes) : Still s (s.putSector gs a bs) := still_of_rest (SliceFrame.rest.putSector ..)

@[simp] theorem State.acceptWrite_still (s : State) (a : Nat) (bs : Bytes) (alloc : Bool) (src : Source) (loc sub step : Nat) : Still s (s.acceptWrite a bs alloc src loc sub step) := still_of_rest (SliceFrame.rest.acceptWrite ..)

@[simp] theorem State.applyWrite_still (s : State) (a : Nat) (bs : Bytes) (alloc : Bool) (src : Source) (loc sub step : Nat) : Still s (s.applyWrite a bs alloc src loc sub step) := still_of_rest (SliceFrame.rest.applyWrite ..)

@[simp] theorem State.applyAdd_still (s : State) (a fmt : Nat) (bs : Bytes) (src : Source) (loc sub step : Nat) : Still s (s.applyAdd a fmt bs src loc sub step).1 := by
  unfold State.applyAdd
  split <;> simp [Still]

@[simp] theorem State.eavesTouch_still (s : State) (l : EavesLine) : Still s (s.eavesTouch l) := by simp [Still, State.eavesTouch]

@[simp] theorem State.eavesInstall_still (s : State) (die line : Nat) (sectors : BitVec 8) (off : Nat) (bs : Bytes) : Still s (s.eavesInstall die line sectors off bs) := by
  unfold State.eavesInstall
  simp [Still]

@[simp] theorem State.eavesDrop_still (s : State) (die : Nat) (t : Target) : Still s (s.eavesDrop die t) := still_of_rest (IssueFrame.rest.eavesDrop ..)

@[simp] theorem State.eavesInvalidate_still (s : State) : Still s s.eavesInvalidate := by simp [Still, State.eavesInvalidate]

@[simp] theorem State.mapReq_still (s : State) (id : Nat) (f : Req → Req) : Still s (s.mapReq id f) := by simp [Still, State.mapReq]

@[simp] theorem State.perform_still (s : State) (r : Req) : Still s (s.perform r) := still_of_rest (SliceFrame.rest.perform ..)

@[simp] theorem State.serve_still (s : State) (r : Req) (line : Nat) : Still s (s.serve r line) := still_of_rest (SliceFrame.rest.serve ..)

@[simp] theorem State.loftEcc_still (s : State) (line : Nat) (e : EccEvent) : Still s (s.loftEcc line e) := by
  unfold State.loftEcc
  repeat' split
  all_goals simp [Still]

@[simp] theorem State.memoryEcc_still (s : State) (line : Nat) (e : EccEvent) : Still s (s.memoryEcc line e) := still_of_rest (SliceFrame.rest.memoryEcc ..)

@[simp] theorem State.readEcc_still (s : State) (line : Nat) (e : EccEvent) : Still s (s.readEcc line e) := by simp [Still, State.readEcc]

@[simp] theorem State.landFill_still (s : State) (f : Fill) (e : EccEvent) : Still s (s.landFill f e) := still_of_rest (SliceFrame.rest.landFill ..)

@[simp] theorem State.settle_still (s : State) (line : Nat) : Still s (s.settle line) := still_of_rest (SliceFrame.rest.settle ..)

@[simp] theorem State.settleRead_still (s : State) (line : Nat) : Still s (s.settleRead line) := still_of_rest (SliceFrame.rest.settleRead ..)

@[simp] theorem State.loftRead_still (s : State) (a n : Nat) (alloc : Bool) : Still s (s.loftRead a n alloc) := by
  unfold State.loftRead
  dsimp only
  repeat' split
  all_goals simp [Still]

@[simp] theorem State.loftReads_still (s : State) (a n : Nat) (alloc : Bool) : Still s (s.loftReads a n alloc) := by simp [Still, State.loftReads]

@[simp] theorem State.arriveWrite_still (s : State) (die a : Nat) (bs : Bytes) (alloc : Bool) (src : Source) (loc sub step : Nat) : Still s (s.arriveWrite die a bs alloc src loc sub step) := still_of_rest (SliceFrame.rest.arriveWrite ..)

@[simp] theorem State.ownWrite_still (s : State) (a : Nat) (bs : Bytes) : Still s (s.ownWrite a bs) := still_of_rest (SliceFrame.rest.ownWrite ..)

@[simp] theorem State.forgetBytes_still (s : State) (a n : Nat) (src : Source) (loc sub step : Nat) : Still s (s.forgetBytes a n src loc sub step) := by
  unfold State.forgetBytes
  split <;> simp [Still]

@[simp] theorem State.rewriteStamp_still (s : State) (g : Nat) : Still s (s.rewriteStamp g) := by simp [Still, State.rewriteStamp]

/-! ### Walks, translations, parks and engine reads -/

@[simp] theorem State.fillTlb_still (s : State) (c : XCtx) (e : TlbEntry) : Still s (s.fillTlb c e) := by
  unfold State.fillTlb
  split <;> simp [Still]

@[simp] theorem walkLevels_still (die asid va : Nat) (lvs : List Level) (table : Nat) (s : State) : Still s (walkLevels die asid va lvs table s).1 := by
  induction lvs generalizing table s with
  | nil => exact Still.rfl
  | cons lv rest ih =>
    unfold walkLevels
    dsimp only
    repeat' split
    all_goals simp [Still, ih]

@[simp] theorem State.peakAt_still (s : State) (die n : Nat) : Still s (s.peakAt die n) := by simp [Still, State.peakAt]

@[simp] theorem State.notePeak_still (s : State) (die : Nat) : Still s (s.notePeak die) := still_of_rest (IssueFrame.rest.notePeak ..)

@[simp] theorem State.noteOne_still (s : State) (die : Nat) : Still s (s.noteOne die) := still_of_rest (SliceFrame.rest.noteOne ..)

@[simp] theorem State.walk_still (s : State) (die asid va : Nat) : Still s (s.walk die asid va).1 := by
  unfold State.walk
  dsimp only
  repeat' split
  all_goals simp [Still]

@[simp] theorem State.walkFor_still (s : State) (c : XCtx) : Still s (s.walkFor c).1 := by
  unfold State.walkFor
  have hw := s.walk_still c.die c.asid c.va
  repeat' split
  all_goals simp_all [Still]

@[simp] theorem State.translate_still (s : State) (c : XCtx) : Still s (s.translate c).1 := by
  unfold State.translate
  split <;> simp [Still]

@[simp] theorem State.translateRange_still (c : XCtx) (ps : List (Nat × Nat)) (s : State) : Still s (State.translateRange c ps s).1 := by
  induction ps generalizing s with
  | nil => exact Still.rfl
  | cons p rest ih =>
    unfold State.translateRange
    have ht := s.translate_still { c with va := p.1 }
    split
    · rename_i s' _ _ _
      have hr := ih s'
      split <;> simp_all [Still]
    · simp_all [Still]

@[simp] theorem State.xFault_still (s : State) (code die step loc sub asid va agent : Nat) : Still s (s.xFault code die step loc sub asid va agent) := by
  simp [Still, State.xFault]

@[simp] theorem State.park_still (s : State) (p : ParkInfo) : Still s (s.park p) := by simp [Still, State.park]

@[simp] theorem State.writePark_still (s : State) (r : ParkRec) : Still s (s.writePark r) := by simp [Still, State.writePark]

@[simp] theorem State.hostFault_still (s : State) (die step mover port status addr : Nat) : Still s (s.hostFault die step mover port status addr) := by
  simp [Still, State.hostFault]

@[simp] theorem State.issue_still (s : State) (r : Req) (mayEaves : Bool) : Still s (s.issue r mayEaves).1 := by
  unfold State.issue
  dsimp only
  repeat' split
  all_goals simp [Still]

@[simp] theorem State.dropReq_still (s : State) (id : Nat) : Still s (s.dropReq id) := by simp [Still, State.dropReq]

@[simp] theorem State.dropAgent_still (s : State) (a : Agent) : Still s (s.dropAgent a) := by simp [Still, State.dropAgent]

@[simp] theorem State.fetchPieces_still (s : State) (agent : Agent) (die step asid : Nat) (pos : Nat × Nat × Nat) (ps : List (Nat × Nat × Target × Nat)) : Still s (s.fetchPieces agent die step asid pos ps).1 := by
  unfold State.fetchPieces
  dsimp only
  split
  · exact State.foldl_still _ (fun s p => by split <;> simp [Still]) _ _
  · split
    · exact Still.rfl
    · split <;> exact State.foldl_still _ (fun s p => by split <;> simp [Still]) _ _

/-! ### The prefetcher -/

@[simp] theorem State.prefetchLine_still (s : State) (die lpa : Nat) : Still s (s.prefetchLine die lpa) := still_of_rest (IssueFrame.rest.prefetchLine ..)

@[simp] theorem prefetchRun_still (die asid va : Nat) (stride : Int) (page : Option TlbEntry) (stop : Option Nat) (ns : List Nat) (s : State) :
    Still s (prefetchRun die asid va stride page stop ns s).1 := still_of_rest (IssueFrame.rest.prefetchRun ..)

@[simp] theorem State.train_still (s : State) (die reader asid va : Nat) : Still s (s.train die reader asid va) := still_of_rest (IssueFrame.rest.train ..)

/-! ### The memory slices and scrubbing -/

@[simp] theorem State.countSectors_still (s : State) (die : Nat) (sectors : BitVec 8) : Still s (s.countSectors die sectors) := by
  simp [Still, State.countSectors]

@[simp] theorem State.countIrregular_still (s : State) (r : Req) (line : Nat) (asked : BitVec 8) : Still s (s.countIrregular r line asked) := by
  unfold State.countIrregular
  split <;> simp [Still]

@[simp] theorem State.holdOn_still (s : State) (f : Fill) (r : Req) (need : BitVec 8) : Still s (s.holdOn f r need) := by simp [Still, State.holdOn]

@[simp] theorem State.newFill_still (s : State) (line : Nat) (r : Req) (sectors : BitVec 8) (install : Bool) : Still s (s.newFill line r sectors install) := by simp [Still, State.newFill]

@[simp] theorem State.sliceRead_still (s : State) (r : Req) (a : Nat) (e : EccEvent) : Still s (s.sliceRead r a e) := by
  unfold State.sliceRead
  dsimp only
  repeat' split
  all_goals simp [Still]

@[simp] theorem State.sliceWrite_still (s : State) (r : Req) (a : Nat) (e : EccEvent) : Still s (s.sliceWrite r a e) := by
  unfold State.sliceWrite
  dsimp only
  repeat' split
  all_goals simp [Still]

@[simp] theorem State.sliceAdd_still (s : State) (r : Req) (a : Nat) (e : EccEvent) : Still s (s.sliceAdd r a e) := by
  unfold State.sliceAdd
  dsimp only
  repeat' split
  all_goals simp [Still]

@[simp] theorem State.landEaves_still (s : State) (f : EavesFill) (r : Req) : Still s (s.landEaves f r) := by simp [Still, State.landEaves]

@[simp] theorem State.scrubPoison_still (s : State) (sector : Nat) : Still s (s.scrubPoison sector) := by simp [Still, State.scrubPoison]

@[simp] theorem State.scrubFound_still (s : State) (sector : Nat) (e : EccEvent) : Still s (s.scrubFound sector e) := by
  unfold State.scrubFound
  split <;> simp [Still]

@[simp] theorem State.scrubAdvance_still (s : State) (die : Nat) (thatch : Bool) : Still s (s.scrubAdvance die thatch) := by simp [Still, State.scrubAdvance]

@[simp] theorem State.scrubMark_still (s : State) (die : Nat) : Still s (s.scrubMark die) := by simp [Still, State.scrubMark]

@[simp] theorem State.passEnd_still (s : State) (die : Nat) (thatch : Bool) : Still s (s.passEnd die thatch) := by simp [Still, State.passEnd]

@[simp] theorem State.sramScrubFound_still (s : State) (g lpa : Nat) (e : EccEvent) : Still s (s.sramScrubFound g lpa e) := by
  unfold State.sramScrubFound
  split <;> simp [Still]

@[simp] theorem State.cacheScrubFound_still (s : State) (die : Nat) (eaves : Bool) (line : Nat) (e : EccEvent) : Still s (s.cacheScrubFound die eaves line e) := by
  unfold State.cacheScrubFound
  repeat' split
  all_goals simp [Still]

@[simp] theorem State.dropSet_still (s : State) (die : Nat) (eaves : Bool) (line : Nat) : Still s (s.dropSet die eaves line) := by simp [Still, State.dropSet]

@[simp] theorem State.tagScrubFound_still (s : State) (die : Nat) (eaves : Bool) (line : Nat) (e : EccEvent) : Still s (s.tagScrubFound die eaves line e) := by
  unfold State.tagScrubFound
  split <;> simp [Still]

/-! ### Threads -/

@[simp] theorem State.overwrite_still (s : State) (g t : Nat) (keys : List Nat) : Still s (s.overwrite g t keys) := by simp [Still, State.overwrite]

@[simp] theorem State.threadsDone_sessions (s : State) (launch n : Nat) : (s.threadsDone launch n).prot.sessions = s.prot.sessions := by
  unfold State.threadsDone
  split <;> simp

@[simp] theorem State.failLaunch_still (s : State) (launch : Nat) : Still s (s.failLaunch launch) := by simp [Still, State.failLaunch]

@[simp] theorem State.endThread_sessions (s : State) (g t : Nat) (failed : Bool) : (s.endThread g t failed).prot.sessions = s.prot.sessions := by simp [State.endThread]

@[simp] theorem State.threadFault_sessions (s : State) (g t code : Nat) : (s.threadFault g t code).prot.sessions = s.prot.sessions := by simp [State.threadFault]

@[simp] theorem State.sramFault_still (s : State) (src : Source) (g sub step lpa : Nat) : Still s (s.sramFault src g sub step lpa) := by
  simp [Still, State.sramFault]

@[simp] theorem State.stall_still (s : State) (g cause : Nat) : Still s (s.stall g cause) := by simp [Still, State.stall]

@[simp] theorem State.checkPc_sessions (s : State) (g t : Nat) : (s.checkPc g t).prot.sessions = s.prot.sessions := by
  unfold State.checkPc
  split <;> simp

@[simp] theorem State.next_sessions (s : State) (g t : Nat) : (s.next g t).prot.sessions = s.prot.sessions := by simp [State.next]

@[simp] theorem State.lostBank_still (s : State) (g : Nat) : Still s (s.lostBank g) := by simp [Still, State.lostBank]

@[simp] theorem State.scratchEcc_sessions (s : State) (g t : Nat) (th : Thread) (o : Nat) (ecc : WordEcc) (k : State → State) (hk : ∀ s, (k s).prot.sessions = s.prot.sessions) : (s.scratchEcc g t th o ecc k).prot.sessions = s.prot.sessions := by
  unfold State.scratchEcc
  split <;> simp [hk]

@[simp] theorem scratchStoreEffect_sessions (g t : Nat) (cycle : ScratchCycle) (s : State) (th : Thread) (w : Nat) : (scratchStoreEffect g t cycle s th w).prot.sessions = s.prot.sessions := by
  unfold scratchStoreEffect
  split <;> simp

@[simp] theorem State.issueParts_still (s : State) (g t : Nat) (th : Thread) (kind : ReqKind) (key : Nat) (signed : Bool) (total : Nat) (data : Bytes)
    (base : Nat) (ps : List (Nat × Nat × Target × Nat)) : Still s (s.issueParts g t th kind key signed total data base ps) := by
  induction ps generalizing s with
  | nil => exact Still.rfl
  | cons p rest ih => simp [Still, State.issueParts, ih]

@[simp] theorem memoryEffect_sessions (g t : Nat) (kind : ReqKind) (signed : Bool) (s : State) (th : Thread) (w : Nat) : (memoryEffect g t kind signed s th w).prot.sessions = s.prot.sessions := by
  unfold memoryEffect
  dsimp only
  repeat' split
  all_goals simp

@[simp] theorem State.cinc_still (s : State) (g n : Nat) (amount : BitVec 32) : Still s (s.cinc g n amount) := by simp [Still, State.cinc]

@[simp] theorem State.startThreads_sessions (s : State) (a : Action) (g : Nat) (img : Image) (entry : Nat) : (s.startThreads a g img entry).prot.sessions = s.prot.sessions := by
  unfold State.startThreads
  dsimp only
  split
  · rfl
  · exact State.foldl_sessions _ (fun s t => by simp) _ _

@[simp] theorem State.launchFails_sessions (s : State) (a : Action) (g : Nat) : (s.launchFails a g).prot.sessions = s.prot.sessions := by
  unfold State.launchFails
  rw [State.threadsDone_sessions, (State.failLaunch_still ..).2.2]
  exact State.foldl_sessions _ (fun s t => by simp) _ _

@[simp] theorem State.imageMalformed_sessions (s : State) (a : Action) (g : Nat) : (s.imageMalformed a g).prot.sessions = s.prot.sessions := by simp [State.imageMalformed]

@[simp] theorem State.readThrough_still (s : State) (a : Action) (g va n : Nat) : Still s (s.readThrough a g va n).1 := by
  unfold State.readThrough
  have ht := State.translateRange_still ⟨a.asid, va, 3, false, some g, coreDie g⟩ (vaPieces va n) s
  split
  · simp_all [Still]
  · rename_i s' ps _
    have hf := s'.fetchPieces_still (.image g a.id) (coreDie g) a.step a.asid (0, 0, 0) ps
    split <;> simp_all [Still]

@[simp] theorem State.launchOn_sessions (s : State) (a : Action) (g : Nat) : (s.launchOn a g).prot.sessions = s.prot.sessions := by
  unfold State.launchOn
  have hr := (s.readThrough_still a g a.transit.addr 32).2.2
  dsimp only
  repeat' split
  all_goals simp_all

@[simp] theorem State.dropFetch_still (s : State) (g launch : Nat) : Still s (s.dropFetch g launch) := by simp [Still, State.dropFetch]

@[simp] theorem State.fetchFailed_sessions (s : State) (a : Action) (g : Nat) (f : State → State) (hf : ∀ s, (f s).prot.sessions = s.prot.sessions) : (s.fetchFailed a g f).prot.sessions = s.prot.sessions := by
  simp [State.fetchFailed, hf]

@[simp] theorem State.parkFetch_sessions (s : State) (a : Action) (g va kind level : Nat) : (s.parkFetch a g va kind level).prot.sessions = s.prot.sessions := by
  simp [State.parkFetch]

@[simp] theorem State.imageArrives_sessions (s : State) (a : Action) (g : Nat) : (s.imageArrives a g).prot.sessions = s.prot.sessions := by
  unfold State.imageArrives
  dsimp only
  split
  · have hr := sessions_of_fst (s.readThrough_still a g a.transit.addr 32).2.2 ‹_›
    split <;> simp [hr]
  · have hr := sessions_of_fst (s.readThrough_still a g a.transit.addr 32).2.2 ‹_›
    split
    · simp [hr]
    · split
      · simp [hr]
      · split
        · have hr' := (sessions_of_fst (State.readThrough_still _ _ _ _ _).2.2 ‹_›).trans hr
          split <;> simp [hr']
        · have hr' := (sessions_of_fst (State.readThrough_still _ _ _ _ _).2.2 ‹_›).trans hr
          repeat' split
          all_goals simp [hr']

@[simp] theorem State.imageParity_still (s : State) (a : Action) (g : Nat) : Still s (s.imageParity a g) := by simp [Still, State.imageParity]

/-! ### Movers and parks -/

@[simp] theorem State.endMover_still (s : State) (d m : Nat) : Still s (s.endMover d m) := by simp [Still, State.endMover]

@[simp] theorem State.dropJob_still (s : State) (id : Nat) : Still s (s.dropJob id) := by simp [Still, State.dropJob]

@[simp] theorem State.endAgent_sessions (s : State) (a : Agent) : (s.endAgent a).prot.sessions = s.prot.sessions := by
  unfold State.endAgent
  repeat' split
  all_goals simp

@[simp] theorem State.setParked_sessions (s : State) (a : Agent) : (s.setParked a).prot.sessions = s.prot.sessions := by
  unfold State.setParked
  split <;> simp

@[simp] theorem State.unpark_sessions (s : State) (a : Agent) : (s.unpark a).prot.sessions = s.prot.sessions := by
  unfold State.unpark
  repeat' split
  all_goals simp

@[simp] theorem State.parkAgent_sessions (s : State) (p : ParkInfo) : (s.parkAgent p).prot.sessions = s.prot.sessions := by
  unfold State.parkAgent
  split <;> simp

@[simp] theorem State.moverFault_still (s : State) (d m code va agent : Nat) : Still s (s.moverFault d m code va agent) := by simp [Still, State.moverFault]

@[simp] theorem State.moverPoison_still (s : State) (d m lpa : Nat) : Still s (s.moverPoison d m lpa) := by simp [Still, State.moverPoison]

@[simp] theorem State.moverHostFault_still (s : State) (d m p a : Nat) : Still s (s.moverHostFault d m p a) := by simp [Still, State.moverHostFault]

@[simp] theorem State.moverRead_still (s : State) (d m va access n : Nat) : Still s (s.moverRead d m va access n).1 := by
  unfold State.moverRead
  dsimp only
  split
  · rename_i t a _
    have hf := s.fetchPieces_still (.moverDesc d m) d (s.stepOf (s.mover d m).action) (s.mover d m).asid ((s.mover d m).cur, (s.mover d m).elem, (s.mover d m).off)
      [(va, n, t, a)]
    repeat' split
    all_goals simp_all [Still]
  · exact Still.rfl
  · exact Still.rfl

@[simp] theorem State.readDesc_still (s : State) (d m i : Nat) : Still s (s.readDesc d m i).1 := by
  unfold State.readDesc
  dsimp only
  repeat' split
  all_goals simp [Still]

@[simp] theorem State.moverReadEnd_still (s : State) (d m va agent : Nat) (x1 : MoverRead) : Still s (s.moverReadEnd d m va agent x1) := by
  unfold State.moverReadEnd
  split <;> simp [Still]

@[simp] theorem State.takeDesc_still (s : State) (d m desc : Nat) : Still s (s.takeDesc d m desc) := by simp [Still, State.takeDesc]

@[simp] theorem State.readIndex_still (s : State) (d m desc : Nat) : Still s (s.readIndex d m desc).1 := by
  unfold State.readIndex
  split <;> simp [Still]

@[simp] theorem State.moverXlate_still (s : State) (d m va : Nat) (x1 : Xlate) : Still s (s.moverXlate d m va x1) := by
  unfold State.moverXlate
  split <;> simp [Still]

@[simp] theorem State.issuePiece_still (s : State) (d m desc idx : Nat) : Still s (s.issuePiece d m desc idx) := by
  unfold State.issuePiece
  dsimp only
  repeat' split
  all_goals simp [Still]

@[simp] theorem State.retire_sessions (s : State) (d m : Nat) (o : MoverDesc) : (s.retire d m o).prot.sessions = s.prot.sessions := by simp [State.retire]

@[simp] theorem State.threadResponse_sessions (s : State) (r : Req) (g t : Nat) : (s.threadResponse r g t).prot.sessions = s.prot.sessions := by
  unfold State.threadResponse
  split <;> simp

@[simp] theorem State.moverResponse_still (s : State) (r : Req) (d m : Nat) : Still s (s.moverResponse r d m) := by
  unfold State.moverResponse
  dsimp only
  repeat' split
  all_goals simp [Still]

@[simp] theorem State.respond_sessions (s : State) (r : Req) : (s.respond r).prot.sessions = s.prot.sessions := by
  unfold State.respond
  dsimp only
  repeat' split
  all_goals simp

@[simp] theorem State.setParks_still (s : State) (ps : List ParkRec) : Still s (s.setParks ps) := by simp [Still, State.setParks]

@[simp] theorem State.writeParkOf_still (s : State) (p : ParkInfo) : Still s (s.writeParkOf p) := by
  unfold State.writeParkOf
  dsimp only
  repeat' split
  all_goals simp [Still]

@[simp] theorem State.releasePark_sessions (s : State) (r : ParkRec) : (s.releasePark r).prot.sessions = s.prot.sessions := by simp [State.releasePark]

@[simp] theorem State.abandonPark_sessions (s : State) (r : ParkRec) (code : Nat) : (s.abandonPark r code).prot.sessions = s.prot.sessions := by simp [State.abandonPark]

@[simp] theorem State.parkRelease_sessions (s : State) (v : Nat) : (s.parkRelease v).prot.sessions = s.prot.sessions := by
  unfold State.parkRelease
  split <;> simp

@[simp] theorem State.discardParks_still (s : State) : Still s s.discardParks := by simp [Still, State.discardParks]

@[simp] theorem State.purge_still (s : State) (c : InvalCmd) : Still s (s.purge c) := by simp [Still, State.purge]

@[simp] theorem State.invalidate_still (s : State) (kind : Nat) : Still s (s.invalidate kind) := by simp [Still, State.invalidate]

/-! ### The matrix arrays -/

@[simp] theorem State.matCount_still (s : State) (g w : Nat) : Still s (s.matCount g w) := by simp [Still, State.matCount]

@[simp] theorem State.mapMat_still (s : State) (g seq : Nat) (f : MatInstr → MatInstr) : Still s (s.mapMat g seq f) := by simp [Still, State.mapMat]

@[simp] theorem State.matDone_still (s : State) (g : Nat) (m : MatInstr) (arrays : BitVec 4) : Still s (s.matDone g m arrays) := by simp [Still, State.matDone]

@[simp] theorem State.loadComplete_still (s : State) (g n : Nat) (m : MatInstr) : Still s (s.loadComplete g n m) := by simp [Still, State.loadComplete]

@[simp] theorem State.rowFails_still (s : State) (g : Nat) (m : MatInstr) (n kblock loc : Nat) (e0 e1 : Int) : Still s (s.rowFails g m n kblock loc e0 e1) := by simp [Still, State.rowFails]

@[simp] theorem State.rowPasses_still (s : State) (g : Nat) (m : MatInstr) (rows : List (Nat × WeightSet × ActRow × List (List Int))) : Still s (s.rowPasses g m rows) := by simp [Still, State.rowPasses]

@[simp] theorem State.streamRow_still (s : State) (g : Nat) (m : MatInstr) (busErr : Bool) (u : List (Fin 4 × Fin 130 × Fin 8 × Int)) : Still s (s.streamRow g m busErr u) := by
  unfold State.streamRow
  dsimp only
  repeat' split
  all_goals simp [Still]

@[simp] theorem State.nonfinites_still (s : State) (die step src n : Nat) : Still s (s.nonfinites die step src n) := by simp [Still, State.nonfinites]

@[simp] theorem State.drainPlain_still (s : State) (g n i : Nat) (m : MatInstr) (vs : List Val) : Still s (s.drainPlain g n i m vs) := still_of_rest (SliceFrame.rest.drainPlain ..)

@[simp] theorem State.putBit_still (s : State) (g o index : Nat) (v : Bool) : Still s (s.putBit g o index v) := by simp [Still, State.putBit]

@[simp] theorem State.drainBlock_still (s : State) (g i k : Nat) (m : MatInstr) (f : Fmt) (vs : List (Val × Nat)) : Still s (s.drainBlock g i k m f vs) := still_of_rest (SliceFrame.rest.drainBlock ..)

@[simp] theorem State.drainMx_still (s : State) (g n i : Nat) (m : MatInstr) (f : Fmt) (vs : List Val) : Still s (s.drainMx g n i m f vs) := still_of_rest (SliceFrame.rest.drainMx ..)

@[simp] theorem State.drainStep_still (s : State) (g n : Nat) (m : MatInstr) : Still s (s.drainStep g n m) := by
  unfold State.drainStep
  dsimp only
  repeat' split
  all_goals simp [Still]

/-! ### The update engine -/

@[simp] theorem State.setJob_still (s : State) (j : UpdJob) : Still s (s.setJob j) := by simp [Still, State.setJob]

@[simp] theorem State.jobFault_still (s : State) (j : UpdJob) (code : Nat) : Still s (s.jobFault j code) := by simp [Still, State.jobFault]

@[simp] theorem State.forgetStaging_still (s : State) (cores : List Nat) : Still s (s.forgetStaging cores) := by simp [Still, State.forgetStaging]

@[simp] theorem State.clearArrays_still (s : State) (cores : List Nat) : Still s (s.clearArrays cores) := by simp [Still, State.clearArrays]

@[simp] theorem State.finishJob_sessions (s : State) (id : Nat) : (s.finishJob id).prot.sessions = s.prot.sessions := by
  unfold State.finishJob
  split <;> simp

@[simp] theorem State.retireEntry_sessions (s : State) (id : Nat) : (s.retireEntry id).prot.sessions = s.prot.sessions := by
  unfold State.retireEntry
  split <;> simp

@[simp] theorem State.translateSpans_still (ctx : Nat → Bool → XCtx) (sps : List Span) (s : State) : Still s (State.translateSpans ctx sps s).1 := by
  induction sps generalizing s with
  | nil => exact Still.rfl
  | cons sp rest ih =>
    unfold State.translateSpans
    have h1 := State.translateRange_still (ctx sp.va false) (if sp.write && sp.read then vaPieces sp.va sp.len else []) s
    split <;> rename_i he <;> rw [he] at h1
    · exact h1
    · rename_i s1 _
      have h2 := State.translateRange_still (ctx sp.va sp.write) (vaPieces sp.va sp.len) s1
      split <;> rename_i he' <;> rw [he'] at h2
      · exact h2.trans h1
      · rename_i s2 _
        have h3 := (ih s2).trans (h2.trans h1)
        split <;> rename_i he'' <;> rw [he''] at h3 <;> exact h3

@[simp] theorem State.spanData_still (s : State) (ctx : Nat → Bool → XCtx) (a : Agent) (die step asid : Nat) (pos : Nat × Nat × Nat) (spans : List Span) : Still s (s.spanData ctx a die step asid pos spans).1 := by
  unfold State.spanData
  have ht := State.translateSpans_still ctx spans s
  split <;> rename_i he <;> rw [he] at ht
  · exact ht
  · rename_i s1 pss
    have hf := (s1.fetchPieces_still a die step asid pos (((spans.zip pss).map (fun p => if p.1.read then p.2 else [])).flatten)).trans ht
    dsimp only
    split <;> rename_i he' <;> rw [he'] at hf <;> exact hf

@[simp] theorem State.dropLoads_still (s : State) (a : Agent) : Still s (s.dropLoads a) := by simp [Still, State.dropLoads]

@[simp] theorem State.parkJob_sessions (s : State) (j : UpdJob) (kind level va : Nat) (write : Bool) (unit : Nat) : (s.parkJob j kind level va write unit).prot.sessions = s.prot.sessions := by simp [State.parkJob]

@[simp] theorem State.unitData_still (s : State) (j : UpdJob) (unit : Nat) (spans : List Span) : Still s (s.unitData j unit spans).1 := by
  simp [Still, State.unitData]

@[simp] theorem State.unitWork_sessions (s : State) (j : UpdJob) (unit : Nat) (spans : List Span) (k : State → List Bytes → List Pieces → State)
    (hk : ∀ s bss pss, (k s bss pss).prot.sessions = s.prot.sessions) : (s.unitWork j unit spans k).prot.sessions = s.prot.sessions := by
  unfold State.unitWork
  have hd := (s.unitData_still j unit spans).2.2
  dsimp only
  split
  · rfl
  · split <;> simp_all

@[simp] theorem State.writeTarget_still (s : State) (j : UpdJob) (g va : Nat) (t : Target) (alloc : Bool) (bs : Bytes) : Still s (s.writeTarget j g va t alloc bs) := by
  unfold State.writeTarget
  split <;> simp [Still]

@[simp] theorem State.sendWaiting_still (n : Nat) (s : State) : Still s (State.sendWaiting n s) := by
  induction n generalizing s with
  | zero => exact Still.rfl
  | succ n ih => unfold State.sendWaiting; split <;> simp [Still, ih]

@[simp] theorem State.writePieces_still (s : State) (j : UpdJob) (g : Nat) (ps : Pieces) (bs : Bytes) : Still s (s.writePieces j g ps bs) :=
  List.foldlRecOn (motive := fun acc : State × Bytes => Still s acc.1) _ _ .rfl (fun acc ha p _ => Still.trans (by simp [Still]) ha)

@[simp] theorem State.pend_still (s : State) (j : UpdJob) (nothing empty : Bool) (u w : Nat) : Still s (s.pend j nothing empty u w) := by simp [Still, State.pend]

@[simp] theorem State.refuseFrozen_still (s : State) (j : UpdJob) (ps : Pieces) : Still s (s.refuseFrozen j ps) := by simp [Still, State.refuseFrozen]

@[simp] theorem State.beginEntry_sessions (s : State) (j : UpdJob) (list : List Nat) (bss : List Bytes) (pss : List Pieces) : (s.beginEntry j list bss pss).prot.sessions = s.prot.sessions := by simp [State.beginEntry]

@[simp] theorem State.takeParameter_sessions (s : State) (j : UpdJob) : (s.takeParameter j).prot.sessions = s.prot.sessions := by simp [State.takeParameter]

@[simp] theorem State.addFollow_still (s : State) (j : UpdJob) (kind : FollowKind) (pos : Nat) (desc : BitVec 1024) (rows : List UpdRow) (u w : Nat)
    (skipped : Bool) : Still s (s.addFollow j kind pos desc rows u w skipped) := by simp [Still, State.addFollow]

@[simp] theorem State.writeWords_still (s : State) (j : UpdJob) (va : Nat) (rows : List UpdRow) (bytes : UpdRow → Bytes) : Still s (s.writeWords j va rows bytes) := by simp [Still, State.writeWords]

@[simp] theorem State.takeRepublish_sessions (s : State) (j : UpdJob) : (s.takeRepublish j).prot.sessions = s.prot.sessions := by simp [State.takeRepublish]

@[simp] theorem State.takeEntry_sessions (s : State) (j : UpdJob) (e : Nat) : (s.takeEntry j e).prot.sessions = s.prot.sessions := by simp [State.takeEntry]

@[simp] theorem State.clearGrad_still (s : State) (j : UpdJob) (ps : Pieces) (n : Nat) : Still s (s.clearGrad j ps n) := by simp [Still, State.clearGrad]

@[simp] theorem State.chunkDone_still (s : State) (j : UpdJob) (bss : List Bytes) (pss : List Pieces) : Still s (s.chunkDone j bss pss) := by
  simp [Still, State.chunkDone]

@[simp] theorem State.momentumDone_still (s : State) (j : UpdJob) (bss : List Bytes) (pss : List Pieces) : Still s (s.momentumDone j bss pss) := by
  simp [Still, State.momentumDone]

@[simp] theorem State.applyDone_still (s : State) (j : UpdJob) (bss : List Bytes) (pss : List Pieces) : Still s (s.applyDone j bss pss) := by
  simp [Still, State.applyDone]

@[simp] theorem State.lazyDone_still (s : State) (j : UpdJob) (k : Nat) (bss : List Bytes) (pss : List Pieces) : Still s (s.lazyDone j k bss pss) := by
  simp [Still, State.lazyDone]

@[simp] theorem State.foldDone_still (s : State) (j : UpdJob) (bss : List Bytes) : Still s (s.foldDone j bss) := by
  unfold State.foldDone
  split <;> simp [Still]

@[simp] theorem State.forgetSpace_still (s : State) (j : UpdJob) (ps : Pieces) : Still s (s.forgetSpace j ps) := by
  unfold State.forgetSpace
  exact State.foldl_still _ (fun s p => by split <;> simp [Still]) _ _

@[simp] theorem State.tileDone_still (s : State) (j : UpdJob) : Still s (s.tileDone j) := by simp [Still, State.tileDone]

@[simp] theorem State.commitRec_still (s : State) (r : PendRec) : Still s (s.commitRec r) := by
  unfold State.commitRec
  dsimp only
  repeat' split
  all_goals simp [Still]

@[simp] theorem State.followRec_sessions (s : State) (r : PendRec) (skipped : Bool) : (s.followRec r skipped).prot.sessions = s.prot.sessions := by
  unfold State.followRec
  split <;> simp

@[simp] theorem State.updateEffect_sessions (s : State) (conj : Nat) (d : Decision) : (s.updateEffect conj d).prot.sessions = s.prot.sessions := by
  unfold State.updateEffect
  split <;> simp

@[simp] theorem State.discardUpdate_still (s : State) : Still s s.discardUpdate := by simp [Still, State.discardUpdate]

@[simp] theorem State.commitNotReady_still (s : State) (conj : Nat) (final : Bool) : Still s (s.commitNotReady conj final) := by
  simp [Still, State.commitNotReady]

@[simp] theorem State.setFollow_still (s : State) (f : FollowOn) : Still s (s.setFollow f) := by simp [Still, State.setFollow]

@[simp] theorem State.endFollow_sessions (s : State) (f : FollowOn) : (s.endFollow f).prot.sessions = s.prot.sessions := by simp [State.endFollow]

@[simp] theorem State.publishDone_sessions (s : State) (f : FollowOn) (j : UpdJob) (bss : List Bytes) (pss : List Pieces) : (s.publishDone f j bss pss).prot.sessions = s.prot.sessions := by simp [State.publishDone]

@[simp] theorem State.ratioDone_sessions (s : State) (f : FollowOn) (j : UpdJob) (ps : Pieces) : (s.ratioDone f j ps).prot.sessions = s.prot.sessions := by simp [State.ratioDone]

@[simp] theorem State.sweepCounts_still (s : State) (c : List Nat) : Still s (s.sweepCounts c) := by simp [Still, State.sweepCounts]

@[simp] theorem State.sweepDone_sessions (s : State) (f : FollowOn) (j : UpdJob) (bss : List Bytes) (pss : List Pieces) : (s.sweepDone f j bss pss).prot.sessions = s.prot.sessions := by
  simp [State.sweepDone]

/-! ### Stopping, saving and restoring -/

@[simp] theorem State.stopCoreArrays_still (s : State) (g : Nat) : Still s (s.stopCoreArrays g) := by simp [Still, State.stopCoreArrays]

@[simp] theorem State.stopArrays_still (s : State) : Still s s.stopArrays := by simp [Still, State.stopArrays]

@[simp] theorem State.stopFetches_still (s : State) : Still s s.stopFetches := by simp [Still, State.stopFetches]

@[simp] theorem State.stopUnits_still (s : State) : Still s s.stopUnits := by simp [Still, State.stopUnits]

@[simp] theorem State.preStop_still (s : State) : Still s s.preStop := by simp [Still, State.preStop]

@[simp] theorem State.preSave_still (s : State) : Still s s.preSave := by simp [Still, State.preSave]

@[simp] theorem State.preResume_still (s : State) : Still s s.preResume := by simp [Still, State.preResume]

@[simp] theorem State.restoreUpd_still (s : State) (ctx : Nat → Bytes) : Still s (s.restoreUpd ctx) := by
  unfold State.restoreUpd
  exact State.foldl_still _ (fun s p => by split <;> simp [Still]) _ _

@[simp] theorem State.saveBytes_still (s : State) (off : Nat) (bs : Bytes) : Still s (s.saveBytes off bs) := by simp [Still, State.saveBytes]

@[simp] theorem State.writeSaveArea_still (s : State) (kind abandoned : Nat) : Still s (s.writeSaveArea kind abandoned) := still_of_rest (SliceFrame.rest.writeSaveArea ..)

@[simp] theorem State.stopMovers_still (s : State) : Still s s.stopMovers := by simp [Still, State.stopMovers]

@[simp] theorem State.reachSafe_still (s : State) : Still s s.reachSafe := by simp [Still, State.reachSafe]

@[simp] theorem State.checkMovers_still (s : State) : Still s s.checkMovers := by simp [Still, State.checkMovers]

@[simp] theorem State.checkUpdates_still (s : State) : Still s s.checkUpdates := by simp [Still, State.checkUpdates]

/-- The core checks of a restore only raise faults. -/
theorem State.checkCores_keeps {β : Type} {part : State → β} (hx : ∀ (s : State) c d st l sub asid va a, part (s.xFault c d st l sub asid va a) = part s) (s : State) :
    part s.checkCores = part s := by
  unfold State.checkCores
  exact State.foldl_keeps part _ (fun u g => State.ite_keeps rfl (hx ..)) _ _

@[simp] theorem State.checkCores_still (s : State) : Still s s.checkCores :=
  still_of_rest (State.checkCores_keeps (fun _ _ _ _ _ _ _ _ _ => (State.xFault_still ..).rest) s)

@[simp] theorem State.checkArrays_still (s : State) : Still s s.checkArrays := by simp [Still, State.checkArrays]

/-- A restore writes threads, movers, cores, update jobs and memory. -/
theorem State.restoreAll_keeps {β : Type} {part : State → β} (hu : ∀ (s : State) t m k, part { s with threads := t, movers := m, cores := k } = part s)
    (hr : ∀ (s : State) ctx, part (s.restoreUpd ctx) = part s) (hs : ∀ (s : State) a bs, part (s.store a bs) = part s) (s : State) :
    part s.restoreAll = part s := by
  unfold State.restoreAll
  exact (State.foldl_keeps part _ (fun t g => (hs ..).trans (hs ..)) _ _).trans ((hr ..).trans (hu ..))

@[simp] theorem State.restoreAll_sessions (s : State) : s.restoreAll.prot.sessions = s.prot.sessions :=
  State.restoreAll_keeps (part := fun s => s.prot.sessions) (fun _ _ _ _ => .refl _) (fun s ctx => (s.restoreUpd_still ctx).2.2) (fun s a bs => (s.store_still a bs).2.2) s

@[simp] theorem State.restartFetches_sessions (s : State) : s.restartFetches.prot.sessions = s.prot.sessions := by
  unfold State.restartFetches
  exact State.foldl_sessions _ (fun s p => State.foldl_sessions _ (fun s l => by split <;> simp) _ _) _ _

@[simp] theorem State.goOn_sessions (s : State) : s.goOn.prot.sessions = s.prot.sessions := by simp [State.goOn]

@[simp] theorem State.applyReleases_sessions (seqs abandons : List Nat) (s : State) : (State.applyReleases seqs abandons s).prot.sessions = s.prot.sessions := by
  unfold State.applyReleases
  exact (State.foldl_sessions _ (fun s q => by split <;> simp) _ _).trans (State.foldl_sessions _ (fun s q => by split <;> simp) _ _)

@[simp] theorem State.checkHeader_still (s : State) : Still s s.checkHeader := by simp [Still, State.checkHeader]

@[simp] theorem State.checkSaved_still (s : State) : Still s s.checkSaved := by simp [Still, State.checkSaved]

/-! ### Halts -/

@[simp] theorem State.stopThreads_sessions (s : State) : s.stopThreads.prot.sessions = s.prot.sessions := by simp [State.stopThreads]

@[simp] theorem State.saveHalt_still (s : State) (abandoned : Nat) : Still s (s.saveHalt abandoned) := still_of_rest (SliceFrame.rest.saveHalt ..)

@[simp] theorem State.finishHalt_sessions (s : State) : s.finishHalt.prot.sessions = s.prot.sessions := by simp [State.finishHalt]

@[simp] theorem State.haltNow_sessions (s : State) (code : Nat) (missing : BitVec 512) : (s.haltNow code missing).prot.sessions = s.prot.sessions := by simp [State.haltNow]

@[simp] theorem State.enterFence_sessions (s : State) (l : Nat) : (s.enterFence l).prot.sessions = s.prot.sessions := by simp [State.enterFence]

@[simp] theorem State.stopAt_sessions (s : State) (r : Req) : (s.stopAt r).prot.sessions = s.prot.sessions := by
  unfold State.stopAt
  repeat' split
  all_goals simp

@[simp] theorem State.abandon_sessions (s : State) : s.abandon.prot.sessions = s.prot.sessions := by
  unfold State.abandon
  exact (State.saveHalt_still _ _).2.2.trans (State.foldl_sessions _ (fun s r => s.stopAt_sessions r) _ _)

/-! ### The link layer -/

@[simp] theorem State.enterLink_still (s : State) (l : Nat) (st : LinkSt) (code : Nat) : Still s (s.enterLink l st code) := still_of_rest (TrainFrame.rest.enterLink ..)

@[simp] theorem State.compareIdentity_still (s : State) (l : Nat) : Still s (s.compareIdentity l) := still_of_rest (TrainFrame.rest.compareIdentity ..)

@[simp] theorem State.equalised_still (s : State) (l : Nat) (laneMap : BitVec 24) (polarity : BitVec 8) : Still s (s.equalised l laneMap polarity) := by simp [Still, State.equalised]

@[simp] theorem State.takeIdentity_still (s : State) (l : Nat) (m : IdentityMsg) : Still s (s.takeIdentity l m) := by simp [Still, State.takeIdentity]

@[simp] theorem State.strand_still (s : State) (l : Nat) (f : TxFrame) : Still s (s.strand l f) := still_of_rest (TrainFrame.rest.strand ..)

@[simp] theorem State.linkDown_still (s : State) (l : Nat) : Still s (s.linkDown l) := still_of_rest (TrainFrame.rest.linkDown ..)

@[simp] theorem State.retrain_still (s : State) (l : Nat) : Still s (s.retrain l) := by simp [Still, State.retrain]

@[simp] theorem State.takeCredits_still (s : State) (l x : Nat) : Still s (s.takeCredits l x) := by simp [Still, State.takeCredits]

@[simp] theorem State.resend_still (s : State) (l : Nat) : Still s (s.resend l) := by
  unfold State.resend
  dsimp only
  split
  · exact .rfl
  · exact (State.foldl_still _ (fun s p => by simp [Still]) _ _).trans (by simp [Still])

@[simp] theorem State.frameArrived_still (s : State) (l vc : Nat) (p : RxPart) : Still s (s.frameArrived l vc p) := by simp [Still, State.frameArrived]

@[simp] theorem State.takePayload_still (s : State) (l x : Nat) : Still s (s.takePayload l x) := by
  unfold State.takePayload
  dsimp only
  repeat' split
  all_goals simp [Still]

@[simp] theorem State.acceptFlit_still (s : State) (l x : Nat) : Still s (s.acceptFlit l x) := by simp [Still, State.acceptFlit]

@[simp] theorem State.discardFlit_still (s : State) (l : Nat) : Still s (s.discardFlit l) := by simp [Still, State.discardFlit]

@[simp] theorem State.fecCorrected_still (s : State) (l n : Nat) : Still s (s.fecCorrected l n) := by simp [Still, State.fecCorrected]

@[simp] theorem State.dropStale_still (s : State) : Still s s.dropStale := by simp [Still, State.dropStale]

@[simp] theorem State.reviewLink_still (s : State) (l : Nat) : Still s (s.reviewLink l) := still_of_rest (TrainFrame.rest.reviewLink ..)

@[simp] theorem State.commitFabric_still (s : State) : Still s s.commitFabric := by simp [Still, State.commitFabric]

@[simp] theorem State.recomputeStaged_still (s : State) : Still s s.recomputeStaged := by
  unfold State.recomputeStaged
  exact State.foldl_still _ (fun s l => by simp [Still]) _ _

@[simp] theorem State.unfence_still (s : State) : Still s s.unfence := by simp [Still, State.unfence]

@[simp] theorem State.seamCredit_still (s : State) (route : List Nat) (hop vc : Nat) : Still s (s.seamCredit route hop vc) := by
  unfold State.seamCredit
  split <;> simp [Still]

@[simp] theorem State.seamFlit_still (s : State) (dir hand cls : Nat) (header ok : Bool) : Still s (s.seamFlit dir hand cls header ok) := by
  simp [Still, State.seamFlit]

/-! ### The fabric -/

@[simp] theorem State.dropFabric_still (s : State) (id : Nat) : Still s (s.dropFabric id) := by simp [Still, State.dropFabric]

@[simp] theorem State.descFault_still (s : State) (a : Action) (l tag va : Nat) : Still s (s.descFault a l tag va) := by simp [Still, State.descFault]

@[simp] theorem State.fabricXFault_still (s : State) (a : Action) (tag va : Nat) (x : Xlate) : Still s (s.fabricXFault a tag va x) := by
  unfold State.fabricXFault
  split <;> simp [Still]

@[simp] theorem State.actionWork_still (s : State) (a : Action) (tag : Nat) (spans : List Span) (k : State → List Bytes → List Pieces → State)
    (hk : ∀ s bss pss, Still s (k s bss pss)) : Still s (s.actionWork a tag spans k) := by
  unfold State.actionWork
  have hd := s.spanData_still a.ctx (.action a.id) a.transit.die a.step a.asid (0, 0, 0) spans
  split <;> simp_all [Still]

@[simp] theorem State.actionWork_sessions (s : State) (a : Action) (tag : Nat) (spans : List Span) (k : State → List Bytes → List Pieces → State)
    (hk : ∀ s bss pss, (k s bss pss).prot.sessions = s.prot.sessions) : (s.actionWork a tag spans k).prot.sessions = s.prot.sessions := by
  unfold State.actionWork
  have hd := (s.spanData_still a.ctx (.action a.id) a.transit.die a.step a.asid (0, 0, 0) spans).2.2
  split <;> simp_all

@[simp] theorem State.actionStore_still (s : State) (a : Action) (va : Nat) (t : Target) (alloc : Bool) (bs : Bytes) : Still s (s.actionStore a va t alloc bs) := by
  unfold State.actionStore
  split <;> simp [Still]

@[simp] theorem State.actionWrite_still (s : State) (a : Action) (ps : Pieces) (bs : Bytes) : Still s (s.actionWrite a ps bs) :=
  List.foldlRecOn (motive := fun acc : State × Bytes => Still s acc.1) _ _ .rfl (fun acc ha p _ => Still.trans (by simp [Still]) ha)

@[simp] theorem State.closeAction_sessions (s : State) (id : Nat) : (s.closeAction id).prot.sessions = s.prot.sessions := by simp [State.closeAction]

@[simp] theorem State.takeGateInc_sessions (s : State) (f : Frame) : (s.takeGateInc f).prot.sessions = s.prot.sessions := by simp [State.takeGateInc]

@[simp] theorem State.takeGateAck_sessions (s : State) (f : Frame) : (s.takeGateAck f).prot.sessions = s.prot.sessions := by
  unfold State.takeGateAck
  split <;> simp

@[simp] theorem State.openWindow_still (s : State) (a : Action) (d : Nat) (dst : Pieces) : Still s (s.openWindow a d dst) := by simp [Still, State.openWindow]

@[simp] theorem State.startWindow_still (s : State) (a : Action) : Still s (s.startWindow a) := by simp [Still, State.startWindow]

@[simp] theorem State.windowOut_still (s : State) (a : Action) (w : WinOut) (t : Target) (body : Bytes) (eth : Nat → Nat → Frame → State → State)
    (heth : ∀ l n f s, Still s (eth l n f s)) : Still s (s.windowOut a w t body eth) := by
  simp [Still, State.windowOut, heth]

@[simp] theorem State.sendWindow_still (s : State) (a : Action) (w : WinOut) (eth : Nat → Nat → Frame → State → State)
    (heth : ∀ l n f s, Still s (eth l n f s)) : Still s (s.sendWindow a w eth) := by
  simp [Still, State.sendWindow, heth]

@[simp] theorem State.finishWindow_sessions (s : State) (w : WinOut) : (s.finishWindow w).prot.sessions = s.prot.sessions := by
  unfold State.finishWindow
  split <;> simp

@[simp] theorem State.finishWindows_sessions (s : State) : s.finishWindows.prot.sessions = s.prot.sessions := by simp [State.finishWindows]

@[simp] theorem State.foreignWrite_still (s : State) (a : Nat) (bs : Bytes) : Still s (s.foreignWrite a bs) := by simp [Still, State.foreignWrite]

@[simp] theorem State.takeWindow_sessions (s : State) (f : Frame) (back : Frame → State → State) (hback : ∀ f s, (back f s).prot.sessions = s.prot.sessions) : (s.takeWindow f back).prot.sessions = s.prot.sessions := by
  simp [State.takeWindow, hback]

@[simp] theorem State.takeWindowDone_sessions (s : State) (f : Frame) : (s.takeWindowDone f).prot.sessions = s.prot.sessions := by
  unfold State.takeWindowDone
  split <;> simp

/-! ### Ethernet-mode links -/

@[simp] theorem State.ethSend_still (s : State) (l sport tx : Nat) (ackOnly : Bool) (frame : Bytes) : Still s (s.ethSend l sport tx ackOnly frame) := still_of_rest (SendFrame.rest.ethSend ..)

@[simp] theorem ethPump_still (l n : Nat) (s : State) : Still s (ethPump l n s) := still_of_rest (SendFrame.rest.ethPump ..)

@[simp] theorem State.pumpEth_still (s : State) (l : Nat) : Still s (s.pumpEth l) := by simp [Still, State.pumpEth]

@[simp] theorem ethFrame_still (l seq : Nat) (f : Frame) (s : State) : Still s (ethFrame l seq f s) := still_of_rest (SendFrame.rest.ethFrame ..)

@[simp] theorem State.ethAck_still (s : State) (l : Nat) : Still s (s.ethAck l) := by simp [Still, State.ethAck]

@[simp] theorem State.ethDrop_still (s : State) (l : Nat) : Still s (s.ethDrop l) := by simp [Still, State.ethDrop]

@[simp] theorem State.relay_still (s : State) (l : Nat) (f : Frame) : Still s (s.relay l f).2 := by
  unfold State.relay
  dsimp only
  repeat' split
  all_goals simp [Still]

@[simp] theorem State.relayFrame_still (s : State) (l : Nat) (f : Frame) : Still s (s.relayFrame l f) := by simp [Still, State.relayFrame]

@[simp] theorem State.ethDeliver_still (s : State) (l : Nat) (bs : Bytes) : Still s (s.ethDeliver l bs) := by simp [Still, State.ethDeliver]

@[simp] theorem State.ethDatagram_still (s : State) (l : Nat) (ce : Bool) (data : Bytes) : Still s (s.ethDatagram l ce data) := by simp [Still, State.ethDatagram]

@[simp] theorem State.ethPacket_still (s : State) (l : Nat) (bs : Bytes) : Still s (s.ethPacket l bs) := by
  unfold State.ethPacket
  repeat' split
  all_goals simp [Still]

@[simp] theorem State.ethResend_still (s : State) (l : Nat) : Still s (s.ethResend l) := by simp [Still, State.ethResend]

@[simp] theorem State.takeDone_sessions (s : State) (f : Frame) : (s.takeDone f).prot.sessions = s.prot.sessions := by
  unfold State.takeDone
  split <;> simp

@[simp] theorem windowBack_still (r : RxFrame) (f : Frame) (s : State) : Still s (windowBack r f s) := still_of_rest (SendFrame.rest.windowBack ..)

theorem State.takeWindowFrame_still (s : State) (r : RxFrame) (f : Frame) (t : State) (h : s.takeWindowFrame = some (r, f, t)) : Still s t := by
  unfold State.takeWindowFrame at h
  split at h
  · cases h
  · cases h; exact .rfl

/-! ### Reductions -/

@[simp] theorem State.setRoot_still (s : State) (r : RedRoot) : Still s (s.setRoot r) := by simp [Still, State.setRoot]

@[simp] theorem State.grantMore_still (s : State) (a : Action) (r : RedRoot) : Still s (s.grantMore a r) := by simp [Still, State.grantMore]

@[simp] theorem State.reduceDone_sessions (s : State) (id : Nat) : (s.reduceDone id).prot.sessions = s.prot.sessions := by simp [State.reduceDone]

@[simp] theorem State.setContrib_still (s : State) (c : RedContrib) : Still s (s.setContrib c) := by simp [Still, State.setContrib]

@[simp] theorem pumpContrib_still (a : Action) (index n : Nat) (s : State) : Still s (pumpContrib a index n s) := by
  induction n generalizing s with
  | zero => exact Still.rfl
  | succ n ih =>
    unfold pumpContrib
    repeat' split
    all_goals simp [Still, ih]

@[simp] theorem State.pumpContribs_still (s : State) (a : Action) : Still s (s.pumpContribs a) := by simp [Still, State.pumpContribs]

@[simp] theorem State.takeEarly_still (s : State) (c : RedContrib) : Still s (s.takeEarly c).1 := by simp [Still, State.takeEarly]

@[simp] theorem State.openReduce_still (s : State) (a : Action) (d : Nat) (entries : List Nat) (root : Bool) (mine : List (Nat × Nat)) : Still s (s.openReduce a d entries root mine) := by simp [Still, State.openReduce]

@[simp] theorem State.startReduce_sessions (s : State) (a : Action) : (s.startReduce a).prot.sessions = s.prot.sessions := by simp [State.startReduce]

@[simp] theorem State.stagingDrop_still (s : State) (die tag : Nat) : Still s (s.stagingDrop die tag) := by simp [Still, State.stagingDrop]

@[simp] theorem State.takeGrant_still (s : State) (f : Frame) : Still s (s.takeGrant f) := by
  unfold State.takeGrant
  dsimp only
  repeat' split
  all_goals simp [Still]

@[simp] theorem State.takeContrib_still (s : State) (f : Frame) : Still s (s.takeContrib f) := by
  unfold State.takeContrib
  dsimp only
  repeat' split
  all_goals simp [Still]

@[simp] theorem State.takeReduceAck_sessions (s : State) (f : Frame) : (s.takeReduceAck f).prot.sessions = s.prot.sessions := by
  unfold State.takeReduceAck
  dsimp only
  repeat' split
  all_goals simp

@[simp] theorem State.segmentWritten_sessions (s : State) (a : Action) (r : RedRoot) (seg : Nat) : (s.segmentWritten a r seg).prot.sessions = s.prot.sessions := by
  simp [State.segmentWritten]

@[simp] theorem State.combineSegment_sessions (s : State) (a : Action) (r : RedRoot) (x : RedSeg) : (s.combineSegment a r x).prot.sessions = s.prot.sessions := by
  simp [State.combineSegment]

/-! ### Token exchanges -/

@[simp] theorem State.useVectors_still (s : State) (x : Exchange) : Still s (s.useVectors x) := by simp [Still, State.useVectors]

@[simp] theorem State.setExch_still (s : State) (x : Exchange) : Still s (s.setExch x) := by simp [Still, State.setExch]

@[simp] theorem State.exchDone_sessions (s : State) (id : Nat) : (s.exchDone id).prot.sessions = s.prot.sessions := by
  unfold State.exchDone
  split <;> simp

@[simp] theorem State.sendFragment_still (s : State) (a : Action) (x : Exchange) (t : TokSend) (rest : List TokSend) : Still s (s.sendFragment a x t rest) := by simp [Still, State.sendFragment]

@[simp] theorem pumpRows_still (a : Action) (n : Nat) (s : State) : Still s (pumpRows a n s) := by
  induction n generalizing s with
  | zero => exact Still.rfl
  | succ n ih =>
    unfold pumpRows
    repeat' split
    all_goals simp [Still, ih]

@[simp] theorem State.pumpExch_sessions (s : State) (a : Action) : (s.pumpExch a).prot.sessions = s.prot.sessions := by
  unfold State.pumpExch
  split <;> simp

@[simp] theorem State.beginRows_sessions (s : State) (a : Action) (x : Exchange) (n : List (List Nat)) : (s.beginRows a x n).prot.sessions = s.prot.sessions := by
  simp [State.beginRows]

@[simp] theorem State.tryRows_sessions (s : State) (a : Action) : (s.tryRows a).prot.sessions = s.prot.sessions := by
  unfold State.tryRows
  repeat' split
  all_goals simp

@[simp] theorem State.sendCounts_still (s : State) (a : Action) (x : Exchange) : Still s (s.sendCounts a x) := by simp [Still, State.sendCounts]

@[simp] theorem State.startDispatch_sessions (s : State) (a : Action) (d : Nat) (group : List Nat) (map : List (Nat × Nat)) : (s.startDispatch a d group map).prot.sessions = s.prot.sessions := by simp [State.startDispatch]

@[simp] theorem State.startReturn_sessions (s : State) (a : Action) (d : Nat) (group : List Nat) (map : List (Nat × Nat)) : (s.startReturn a d group map).prot.sessions = s.prot.sessions := by
  unfold State.startReturn
  refine State.actionWork_sessions _ _ _ _ _ (fun s bs pss => ?_)
  refine State.actionWork_sessions _ _ _ _ _ (fun s bs pss => ?_)
  refine State.actionWork_sessions _ _ _ _ _ (fun s bs pss => ?_)
  exact (State.pumpExch_sessions _ _).trans (State.foldl_sessions _ (fun s ps => by simp) _ _)

@[simp] theorem State.startExchange_sessions (s : State) (a : Action) : (s.startExchange a).prot.sessions = s.prot.sessions := by
  unfold State.startExchange
  exact State.ite_sessions_same (by simp) (State.actionWork_sessions _ _ _ _ _ (fun s bs pss => State.ite_sessions_same (by simp) (by simp)))

@[simp] theorem State.addPart_still (s : State) (f : Frame) : Still s (s.addPart f) := by simp [Still, State.addPart]

@[simp] theorem State.takeCounts_sessions (s : State) (f : Frame) : (s.takeCounts f).prot.sessions = s.prot.sessions := by
  unfold State.takeCounts
  dsimp only
  repeat' split
  all_goals simp

@[simp] theorem State.rowComplete_sessions (s : State) (a : Action) (x : Exchange) (f : Frame) (r : TokRow) : (s.rowComplete a x f r).prot.sessions = s.prot.sessions := by
  simp [State.rowComplete]

@[simp] theorem State.takeRow_sessions (s : State) (a : Action) (x : Exchange) (f : Frame) : (s.takeRow a x f).prot.sessions = s.prot.sessions := by simp [State.takeRow]

@[simp] theorem State.takeTokenAck_sessions (s : State) (f : Frame) : (s.takeTokenAck f).prot.sessions = s.prot.sessions := by
  unfold State.takeTokenAck
  split <;> simp

/-! ### Remote accesses -/

@[simp] theorem State.answer_still (s : State) (ftype : Nat) (f : Frame) (poison : Option Nat) (data : Bytes) : Still s (s.answer ftype f poison data) := by
  simp [Still, State.answer]

@[simp] theorem State.refuseForeign_still (s : State) (lpa : Nat) : Still s (s.refuseForeign lpa) := by simp [Still, State.refuseForeign]

@[simp] theorem State.countForeign_still (s : State) (f : Frame) : Still s (s.countForeign f) := by simp [Still, State.countForeign]

@[simp] theorem State.serveRead_still (s : State) (f : Frame) : Still s (s.serveRead f) := by
  unfold State.serveRead
  dsimp only
  repeat' split
  all_goals simp [Still]

@[simp] theorem State.serveWrite_still (s : State) (f : Frame) : Still s (s.serveWrite f) := by simp [Still, State.serveWrite]

@[simp] theorem State.serveAdd_still (s : State) (f : Frame) : Still s (s.serveAdd f) := by simp [Still, State.serveAdd]

@[simp] theorem State.resumeAction_sessions (s : State) (id : Nat) : (s.resumeAction id).prot.sessions = s.prot.sessions := by
  unfold State.resumeAction
  repeat' split
  all_goals simp

@[simp] theorem State.takeReadData_sessions (s : State) (f : Frame) : (s.takeReadData f).prot.sessions = s.prot.sessions := by
  unfold State.takeReadData
  repeat' split
  all_goals simp

@[simp] theorem State.takeWriteAck_sessions (s : State) (f : Frame) : (s.takeWriteAck f).prot.sessions = s.prot.sessions := by
  unfold State.takeWriteAck
  repeat' split
  all_goals simp

/-! ### The Sidereal unit -/

@[simp] theorem idleTick_still (s : State) : Still s (idleTick s) := by
  unfold idleTick
  split <;> simp [Still]

@[simp] theorem State.atBoundary_still (s : State) : Still s s.atBoundary := by
  unfold State.atBoundary
  dsimp only
  repeat' split
  all_goals simp [Still]

@[simp] theorem State.atGuard_still (s : State) : Still s s.atGuard := by simp [Still, State.atGuard]

@[simp] theorem State.follow_still (s : State) (l : Nat) : Still s (s.follow l) := by simp [Still, State.follow]

@[simp] theorem State.clockLost_still (s : State) : Still s s.clockLost := by
  unfold State.clockLost
  dsimp only
  repeat' split
  all_goals simp [Still]

@[simp] theorem State.sendBeacon_still (s : State) (l : Nat) : Still s (s.sendBeacon l) := by simp [Still, State.sendBeacon]

theorem State.takeBeacon_still (s : State) (response : Bool) (r : RxFrame) (f : Frame) (t : State) (h : s.takeBeacon response = some (r, f, t)) : Still s t := by
  unfold State.takeBeacon at h
  dsimp only at h
  split at h
  · cases h
  · cases h; exact .rfl

@[simp] theorem State.goodBeacon_still (s : State) (r : RxFrame) (f : Frame) : Still s (s.goodBeacon r f).2 := by
  unfold State.goodBeacon
  dsimp only
  repeat' split
  all_goals simp [Still]

@[simp] theorem State.answerBeacon_still (s : State) (r : RxFrame) (f : Frame) (t2frac t3frac turn : Nat) : Still s (s.answerBeacon r f t2frac t3frac turn) := by simp [Still, State.answerBeacon]

@[simp] theorem State.sampled_still (s : State) : Still s s.sampled := by
  unfold State.sampled
  dsimp only
  repeat' split
  all_goals simp [Still]

@[simp] theorem State.takeResponse_still (s : State) (b : Beacon) (l : Nat) (t4 : Int) : Still s (s.takeResponse b l t4) := by simp [Still, State.takeResponse]

@[simp] theorem State.slew_still (s : State) : Still s s.slew := by
  unfold State.slew
  dsimp only
  repeat' split
  all_goals simp [Still]

/-! ### The Almanac -/

@[simp] theorem State.checkPoison_still (s : State) (a n code : Nat) (k : State → State × CheckResult) (hk : ∀ s, Still s (k s).1) : Still s (s.checkPoison a n code k).1 := by
  unfold State.checkPoison
  dsimp only
  split <;> simp [Still, hk]

@[simp] theorem State.checkTable_still (s : State) (h : AlmHeader) (size crc : Nat) : Still s (s.checkTable h size crc).1 := by
  unfold State.checkTable
  split
  · exact .rfl
  · split
    · exact .rfl
    · refine State.checkPoison_still _ _ _ _ _ (fun s => ?_)
      dsimp only
      repeat' split
      all_goals exact .rfl

@[simp] theorem State.checkBuffer_still (s : State) (buf : Buf) : Still s (s.checkBuffer buf).1 := by
  unfold State.checkBuffer
  dsimp only
  split
  · exact Still.rfl
  · refine State.checkPoison_still _ _ _ _ _ (fun s => ?_)
    repeat' split
    all_goals simp [Still]

@[simp] theorem State.leaveHalted_sessions (s : State) : s.leaveHalted.prot.sessions = s.prot.sessions := by simp [State.leaveHalted]

@[simp] theorem State.dropStaged_still (s : State) : Still s s.dropStaged := by simp [Still, State.dropStaged]

@[simp] theorem State.arm_sessions (s : State) (buf : Buf) : (s.arm buf).prot.sessions = s.prot.sessions := by simp [State.arm]

@[simp] theorem State.stage_still (s : State) (buf : Buf) : Still s (s.stage buf) := by simp [Still, State.stage]

@[simp] theorem State.disarm_sessions (s : State) : s.disarm.prot.sessions = s.prot.sessions := by simp [State.disarm]

@[simp] theorem State.armClears_still (s : State) : Still s s.armClears := by simp [Still, State.armClears]

@[simp] theorem State.freshAlmanac_still (s : State) (h : AlmHeader) : Still s (s.freshAlmanac h) := by simp [Still, State.freshAlmanac]

@[simp] theorem State.armDone_still (s : State) (h : AlmHeader) : Still s (s.armDone h) := by simp [Still, State.armDone]

@[simp] theorem State.armChecked_still (s : State) (buf : Buf) : Still s (s.armChecked buf) := by
  unfold State.armChecked
  dsimp only
  repeat' split
  all_goals simp [Still]

@[simp] theorem State.stageChecked_still (s : State) (buf : Buf) : Still s (s.stageChecked buf) := by
  unfold State.stageChecked
  dsimp only
  repeat' split
  all_goals simp [Still]

@[simp] theorem State.evaluateGates_still (s : State) : Still s s.evaluateGates := by simp [Still, State.evaluateGates]

@[simp] theorem State.startAlmanac_sessions (s : State) : s.startAlmanac.prot.sessions = s.prot.sessions := by simp [State.startAlmanac]

@[simp] theorem State.readDescriptor_still (s : State) (h : AlmHeader) (a : Nat) : Still s (s.readDescriptor h a) := by
  unfold State.readDescriptor
  split <;> simp [Still]

@[simp] theorem State.readDue_still (n : Nat) (s : State) : Still s (State.readDue n s) := by
  induction n generalizing s with
  | zero => exact Still.rfl
  | succ n ih =>
    unfold State.readDue
    split
    · split <;> simp [Still, ih]
    · exact Still.rfl

/-! ### Conjunctions -/

@[simp] theorem State.contributed_still (s : State) : Still s s.contributed := by simp [Still, State.contributed]

@[simp] theorem State.openConjunction_still (s : State) (h : AlmHeader) (k c : Nat) : Still s (s.openConjunction h k c) := by simp [Still, State.openConjunction]

@[simp] theorem State.guardSample_still (s : State) : Still s s.guardSample := by
  unfold State.guardSample
  dsimp only
  repeat' split
  all_goals simp [Still]

@[simp] theorem State.setWindow_still (s : State) (w : Window) : Still s (s.setWindow w) := by simp [Still, State.setWindow]

@[simp] theorem State.sendVector_still (s : State) (w : Window) : Still s (s.sendVector w) := by simp [Still, State.sendVector]

@[simp] theorem State.sendSeal_still (s : State) (w : Window) : Still s (s.sendSeal w) := by simp [Still, State.sendSeal]

@[simp] theorem State.lateFrame_still (s : State) : Still s s.lateFrame := by simp [Still, State.lateFrame]

@[simp] theorem State.takeVector_still (s : State) (f : Frame) : Still s (s.takeVector f) := by
  unfold State.takeVector
  split <;> simp [Still]

@[simp] theorem State.takeSeal_still (s : State) (f : Frame) : Still s (s.takeSeal f) := by
  unfold State.takeSeal
  split <;> simp [Still]

@[simp] theorem State.windowSlot_still (s : State) (w : Window) : Still s (s.windowSlot w) := by simp [Still, State.windowSlot]

@[simp] theorem State.windowSlots_still (s : State) : Still s s.windowSlots := by simp [Still, State.windowSlots]

@[simp] theorem State.latch_still (s : State) (w : Window) : Still s (s.latch w) := by simp [Still, State.latch]

@[simp] theorem State.bindSkip_still (s : State) (step : Nat) : Still s (s.bindSkip step) := by simp [Still, State.bindSkip]

@[simp] theorem State.completeAlmanac_still (s : State) : Still s s.completeAlmanac := by simp [Still, State.completeAlmanac]

@[simp] theorem State.activate_sessions (s : State) (h : AlmHeader) : (s.activate h).prot.sessions = s.prot.sessions := by simp [State.activate]

@[simp] theorem State.applyDecision_sessions (s : State) (w : Window) : (s.applyDecision w).prot.sessions = s.prot.sessions := by
  unfold State.applyDecision
  dsimp only
  repeat' split
  all_goals simp

@[simp] theorem State.conjunctionEffect_sessions (s : State) (w : Window) : (s.conjunctionEffect w).prot.sessions = s.prot.sessions := by
  unfold State.conjunctionEffect
  split <;> simp

/-! ### The log, telemetry and test -/

@[simp] theorem State.enqueueRec_still (s : State) (r : LogRec) : Still s (s.enqueueRec r) := by simp [Still, State.enqueueRec]

@[simp] theorem State.arriveRec_still (s : State) (r : LogRec) : Still s (s.arriveRec r) := by simp [Still, State.arriveRec]

@[simp] theorem State.lostRec_still (s : State) : Still s s.lostRec := by simp [Still, State.lostRec]

@[simp] theorem State.programRec_still (s : State) (r : LogRec) : Still s (s.programRec r) := by simp [Still, State.programRec]

@[simp] theorem State.flushLog_still (s : State) : Still s s.flushLog := by simp [Still, State.flushLog]

@[simp] theorem State.teleQueue_still (s : State) (bs : Bytes) : Still s (s.teleQueue bs) := by simp [Still, State.teleQueue]

@[simp] theorem State.teleSample_still (s : State) : Still s s.teleSample := by simp [Still, State.teleSample]

@[simp] theorem State.teleStore_still (s : State) (off : Nat) (bs : Bytes) : Still s (s.teleStore off bs) := by simp [Still, State.teleStore]

@[simp] theorem State.teleWrite_still (s : State) (bs : Bytes) (rest : List Bytes) : Still s (s.teleWrite bs rest) := by simp [Still, State.teleWrite]

@[simp] theorem State.testCore_still (s : State) (g : Nat) : Still s (s.testCore g) := by simp [Still, State.testCore]

@[simp] theorem State.startTest_still (s : State) (v : Nat) : Still s (s.startTest v) := by simp [Still, State.startTest]

@[simp] theorem State.tap_still (s : State) (d : Nat) (op : TapOp) : Still s (s.tap d op) := by
  unfold State.tap
  dsimp only
  repeat' split
  all_goals simp [Still]

/-! ### The start sequence and resets -/

@[simp] theorem State.cleanStop_sessions (s : State) : s.cleanStop.prot.sessions = s.prot.sessions := by
  unfold State.cleanStop
  split <;> simp

@[simp] theorem State.resetTo_sessions (s : State) (cause : Nat) (lost : Bool) : (s.resetTo cause lost).prot.sessions = [] := rfl

@[simp] theorem State.packageReset_sessions (s : State) (cause : Nat) : (s.packageReset cause).prot.sessions = [] := rfl

@[simp] theorem State.setFwSlot_still (s : State) (i : Nat) (f : FlashSlot) : Still s (s.setFwSlot i f) := by simp [Still, State.setFwSlot]

@[simp] theorem State.noteVerdict_still (s : State) (i v : Nat) : Still s (s.noteVerdict i v) := by simp [Still, State.noteVerdict]

@[simp] theorem State.takeChunk_still (s : State) (bytes : Bytes) : Still s (s.takeChunk bytes) := by simp [Still, State.takeChunk]

@[simp] theorem State.measure_still (s : State) (n : Nat) (bs : Bytes) : Still s (s.measure n bs) := by simp [Still, State.measure]

@[simp] theorem State.measureImage_still (s : State) (i : Nat) : Still s (s.measureImage i) := by simp [Still, State.measureImage]

@[simp] theorem State.measureFuses_still (s : State) : Still s s.measureFuses := by simp [Still, State.measureFuses]

@[simp] theorem State.measureConfig_still (s : State) : Still s s.measureConfig := by simp [Still, State.measureConfig]

@[simp] theorem State.measureKeys_still (s : State) : Still s s.measureKeys := by simp [Still, State.measureKeys]

@[simp] theorem State.attest_still (s : State) (nonce : Bytes) : Still s (s.attest nonce) := by simp [Still, State.attest]

@[simp] theorem State.toPhase_still (s : State) (n : Nat) : Still s (s.toPhase n) := by simp [Still, State.toPhase]

@[simp] theorem State.bootEvent_still (s : State) (code value slot : Nat) : Still s (s.bootEvent code value slot) := by simp [Still, State.bootEvent]

@[simp] theorem State.enterDim_still (s : State) (reason : Nat) : Still s (s.enterDim reason) := by simp [Still, State.enterDim]

@[simp] theorem State.failStart_still (s : State) (phase : Nat) : Still s (s.failStart phase) := by simp [Still, State.failStart]

@[simp] theorem State.startReplay_still (s : State) : Still s s.startReplay := by simp [Still, State.startReplay]

@[simp] theorem State.trySlots_still (s : State) (verdict : Nat → Nat) (is : List Nat) : Still s (s.trySlots verdict is).1 := by
  induction is generalizing s with
  | nil => exact Still.rfl
  | cons i rest ih =>
    unfold State.trySlots
    dsimp only
    split <;> split <;> simp [Still, ih]

@[simp] theorem State.selectImage_still (s : State) (a b : ImageCheck) : Still s (s.selectImage a b) := by
  unfold State.selectImage
  dsimp only
  split
  · have ht := still_of_fst (State.trySlots_still ..) ‹_›
    simp [Still, ht]
  · have ht := still_of_fst (State.trySlots_still ..) ‹_›
    split <;> simp [Still, ht]

@[simp] theorem State.reviewLock_still (s : State) : Still s s.reviewLock := by
  unfold State.reviewLock
  dsimp only
  repeat' split
  all_goals simp [Still]

@[simp] theorem State.inherit_still (s : State) (d n : Nat) : Still s (s.inherit d n) := by
  unfold State.inherit
  split <;> simp [Still]

@[simp] theorem State.retireOn_still (s : State) (d : Nat) (failed : List Nat) : Still s (s.retireOn d failed) := by simp [Still, State.retireOn]

@[simp] theorem State.trainLinks_still (s : State) : Still s s.trainLinks := by
  unfold State.trainLinks
  exact State.foldl_still _ (fun s l => by simp [Still]) _ _

@[simp] theorem State.startComplete_still (s : State) : Still s s.startComplete := by simp [Still, State.startComplete]

@[simp] theorem State.loseLodestar_still (s : State) (d : Nat) : Still s (s.loseLodestar d) := by simp [Still, State.loseLodestar]

@[simp] theorem State.spdmLost_still (s : State) (ts : List Nat) : Still s (s.spdmLost ts) := by simp [Still, State.spdmLost]

@[simp] theorem State.changeLeader_still (s : State) : Still s s.changeLeader := by simp [Still, State.changeLeader]

/-! ### Power -/

@[simp] theorem State.powerEvent_still (s : State) (code die which : Nat) (reading : Int) (cause : Nat) : Still s (s.powerEvent code die which reading cause) := by simp [Still, State.powerEvent]

@[simp] theorem State.quotient_still (s : State) (n d : Nat) : Still s (s.quotient n d).2 := by
  unfold State.quotient
  split <;> simp [Still]

@[simp] theorem State.reviewDemand_still (s : State) : Still s s.reviewDemand := by simp [Still, State.reviewDemand]

@[simp] theorem State.setThrottle_still (s : State) (t step : Nat) : Still s (s.setThrottle t step) := by simp [Still, State.setThrottle]

@[simp] theorem State.setSupply_still (s : State) (st : SupplyState) (mv : Nat) : Still s (s.setSupply st mv) := by simp [Still, State.setSupply]

@[simp] theorem State.supplyReset_sessions (s : State) (cause : Nat) (reading : Int) (volts : Bool) : (s.supplyReset cause reading volts).prot.sessions = [] := rfl

@[simp] theorem State.railsOff_still (s : State) : Still s s.railsOff := by simp [Still, State.railsOff]

@[simp] theorem State.setThermal_still (s : State) (n : Nat) : Still s (s.setThermal n) := by simp [Still, State.setThermal]

@[simp] theorem State.holdCold_still (s : State) : Still s s.holdCold := by simp [Still, State.holdCold]

@[simp] theorem State.junctionSample_still (s : State) (readings : List (List Int)) : Still s (s.junctionSample readings) := by
  unfold State.junctionSample
  refine State.foldl_still _ (fun s d => ?_) _ _
  dsimp only
  split <;> simp [Still]

@[simp] theorem State.trip_sessions (s : State) (d : Nat) : (s.trip d).prot.sessions = s.prot.sessions := by simp [State.trip]

@[simp] theorem State.coolant_still (s : State) (tin tout : Int) (power : Nat) : Still s (s.coolant tin tout power) := by simp [Still, State.coolant]

@[simp] theorem State.inletCeiling_still (s : State) : Still s s.inletCeiling.2 := by
  unfold State.inletCeiling
  dsimp only
  repeat' split
  all_goals simp [Still]

@[simp] theorem State.publishCeiling_still (s : State) : Still s s.publishCeiling := by simp [Still, State.publishCeiling]

@[simp] theorem State.controlPower_still (s : State) (power ma : Nat) : Still s (s.controlPower power ma) := by simp [Still, State.controlPower]

@[simp] theorem State.canary_still (s : State) (d : Nat) (m : Int) : Still s (s.canary d m) := by simp [Still, State.canary]

/-! ### Clocks and crossings -/

@[simp] theorem State.pllLock_still (s : State) (d : Nat) : Still s (s.pllLock d) := by
  unfold State.pllLock
  dsimp only
  repeat' split
  all_goals simp [Still]

@[simp] theorem State.setCrossing_still (s : State) (n : Nat) (c : Crossing) : Still s (s.setCrossing n c) := by simp [Still, State.setCrossing]

@[simp] theorem State.overrun_still (s : State) (n : Nat) : Still s (s.overrun n) := by simp [Still, State.overrun]

@[simp] theorem State.clearOverruns_still (s : State) : Still s s.clearOverruns := by simp [Still, State.clearOverruns]

@[simp] theorem State.requestReset_still (s : State) (cause : Nat) : Still s (s.requestReset cause) := by
  unfold State.requestReset
  split <;> simp [Still]

/-! ### The host ports -/

@[simp] theorem State.skySnapshot_still (s : State) : Still s s.skySnapshot := by simp [Still, State.skySnapshot]

@[simp] theorem State.mirrorCheck_still (s : State) : Still s s.mirrorCheck := by simp [Still, State.mirrorCheck]

@[simp] theorem State.mirrorWrite_still (s : State) : Still s s.mirrorWrite := by
  unfold State.mirrorWrite
  exact State.foldl_still _ (fun s n => by simp [Still]) _ _

@[simp] theorem State.mirrorStep_still (s : State) : Still s s.mirrorStep := by simp [Still, State.mirrorStep]

@[simp] theorem State.resetPort_still (s : State) (p : Nat) (l0 : Bool) : Still s (s.resetPort p l0) := by simp [Still, State.resetPort]

@[simp] theorem State.bar2Refused_still (s : State) (p : Nat) : Still s (s.bar2Refused p) := by simp [Still, State.bar2Refused]

@[simp] theorem State.bar2Read_still (s : State) (p off n : Nat) : Still s (s.bar2Read p off n) := by simp [Still, State.bar2Read]

@[simp] theorem State.bar2Write_still (s : State) (p off : Nat) (bs : Bytes) : Still s (s.bar2Write p off bs) := by simp [Still, State.bar2Write]

/-! ### The Object Dictionary -/

@[simp] theorem State.readEffect_still (s : State) (idx sub : Nat) : Still s (s.readEffect idx sub) := by simp [Still, State.readEffect]

@[simp] theorem State.setKey_bounded (s : State) (slot : Nat) (bs : Bytes) (h : s.prot.sessions.length ≤ 4) : (s.setKey slot bs).prot.sessions.length ≤ 4 := by
  simpa [State.setKey] using (List.length_filter_le ..).trans h

@[simp] theorem State.longApply_bounded (s : State) (idx sub : Nat) (bs : Bytes) (h : s.prot.sessions.length ≤ 4) : (s.longApply idx sub bs).prot.sessions.length ≤ 4 := by
  unfold State.longApply
  split <;> simp [h]

@[simp] theorem State.writeLong_bounded (s : State) (via : Via) (e : Entry) (sub : Nat) (bs : Bytes) (h : s.prot.sessions.length ≤ 4) : (s.writeLong via e sub bs).1.prot.sessions.length ≤ 4 := by
  unfold State.writeLong
  dsimp only
  repeat' split
  all_goals simp [h]

@[simp] theorem State.segSnapshot_still (s : State) (p : Nat) : Still s (s.segSnapshot p).1 := by
  unfold State.segSnapshot
  dsimp only
  repeat' split
  all_goals simp [Still]

@[simp] theorem State.segCommit_bounded (s : State) (p : Nat) (h : s.prot.sessions.length ≤ 4) : (s.segCommit p).1.prot.sessions.length ≤ 4 := by
  unfold State.segCommit
  dsimp only
  repeat' split
  all_goals simp [h]

@[simp] theorem State.segDiscard_still (s : State) (p : Nat) : Still s (s.segDiscard p).1 := by simp [Still, State.segDiscard]

@[simp] theorem State.segCommand_bounded (s : State) (p v : Nat) (h : s.prot.sessions.length ≤ 4) : (s.segCommand p v).1.prot.sessions.length ≤ 4 := by
  unfold State.segCommand
  split <;> simp [h]

@[simp] theorem State.segChoose_still (s : State) (p v : Nat) : Still s (s.segChoose p v).1 := by
  unfold State.segChoose
  repeat' split
  all_goals simp [Still]

@[simp] theorem State.segWrite_still (s : State) (p w : Nat) (bs : Bytes) : Still s (s.segWrite p w bs).1 := by
  unfold State.segWrite
  dsimp only
  repeat' split
  all_goals simp [Still]

@[simp] theorem State.segView_still (s : State) (p w n : Nat) : Still s (s.segView p w n).1 := by
  unfold State.segView
  dsimp only
  repeat' split
  all_goals simp [Still]

@[simp] theorem State.fwControl_still (s : State) (v : Nat) : Still s (s.fwControl v) := by
  unfold State.fwControl
  split <;> simp [Still]

@[simp] theorem State.requestRetire_still (s : State) (d n : Nat) : Still s (s.requestRetire d n) := by simp [Still, State.requestRetire]

@[simp] theorem State.almanacControl_sessions (s : State) (v : Nat) : (s.almanacControl v).prot.sessions = s.prot.sessions := by
  unfold State.almanacControl
  split <;> simp

@[simp] theorem State.preControl_still (s : State) (v : Nat) : Still s (s.preControl v) := by
  unfold State.preControl
  split <;> simp [Still]

@[simp] theorem State.teleMoved_still (s : State) : Still s s.teleMoved := by simp [Still, State.teleMoved]

@[simp] theorem State.shortApply_bounded (s : State) (e : Entry) (sub v : Nat) (h : s.prot.sessions.length ≤ 4) : (s.shortApply e sub v).prot.sessions.length ≤ 4 := by
  unfold State.shortApply
  split <;> simp [h]

@[simp] theorem State.writeShort_bounded (s : State) (via : Via) (e : Entry) (sub : Nat) (bs : Bytes) (h : s.prot.sessions.length ≤ 4) : (s.writeShort via e sub bs).1.prot.sessions.length ≤ 4 := by
  unfold State.writeShort
  dsimp only
  repeat' split
  all_goals simp [h]

@[simp] theorem State.writeEntry_bounded (s : State) (via : Via) (idx sub : Nat) (bs : Bytes) (h : s.prot.sessions.length ≤ 4) : (s.writeEntry via idx sub bs).1.prot.sessions.length ≤ 4 := by
  unfold State.writeEntry
  repeat' split
  all_goals simp [h]

@[simp] theorem State.answerVia_still (s : State) (via : Via) (code idx sub : Nat) : Still s (s.answerVia via code idx sub) := by
  unfold State.answerVia
  split <;> simp [Still]

@[simp] theorem State.readEntry_still (s : State) (via : Via) (idx sub : Nat) : Still s (s.readEntry via idx sub).1 := by
  unfold State.readEntry
  repeat' split
  all_goals simp [Still]

@[simp] theorem State.slotRead_still (s : State) (p : Fin 2) (idx sub at_ n : Nat) : Still s (s.slotRead p idx sub at_ n).1 := by
  unfold State.slotRead
  dsimp only
  split
  · exact .rfl
  · split
    · exact .rfl
    · split
      · split <;> exact .rfl
      · have hr := s.readEntry_still (.bar0 p) idx sub
        split <;> rename_i he <;> rw [he] at hr <;> exact hr

@[simp] theorem State.slotWrite_bounded (s : State) (p : Fin 2) (idx sub at_ : Nat) (bs : Bytes) (h : s.prot.sessions.length ≤ 4) : (s.slotWrite p idx sub at_ bs).1.prot.sessions.length ≤ 4 := by
  unfold State.slotWrite
  dsimp only
  repeat' split
  all_goals simp [h]

/-! ### The Dictionary Protocol, MCTP and I3C -/

@[simp] theorem State.takeCounter_still (s : State) (slot counter : Nat) : Still s (s.takeCounter slot counter) := by simp [Still, State.takeCounter]

@[simp] theorem State.dropSegs_still (s : State) (p : ProtSeg → Bool) : Still s (s.dropSegs p) := by simp [Still, State.dropSegs]

@[simp] theorem State.editSegs_still (s : State) (holder : Nat) (f : ProtSeg → ProtSeg) : Still s (s.editSegs holder f) := by simp [Still, State.editSegs]

@[simp] theorem State.putSeg_still (s : State) (g : ProtSeg) : Still s (s.putSeg g) := by simp [Still, State.putSeg]

@[simp] theorem State.segTake_still (s : State) (holder idx sub : Nat) (bs : Bytes) : Still s (s.segTake holder idx sub bs) := by simp [Still, State.segTake]

@[simp] theorem State.segRead_still (s : State) (via : Via) (holder idx sub off n : Nat) : Still s (s.segRead via holder idx sub off n).1 := by
  unfold State.segRead
  dsimp only
  repeat' split
  all_goals simp [Still]

@[simp] theorem State.segStage_still (s : State) (e : Entry) (holder sub off : Nat) (data : Bytes) : Still s (s.segStage e holder sub off data).1 := by
  unfold State.segStage
  dsimp only
  repeat' split
  all_goals simp [Still]

@[simp] theorem State.segApply_bounded (s : State) (via : Via) (e : Entry) (holder sub : Nat) (h : s.prot.sessions.length ≤ 4) : (s.segApply via e holder sub).1.prot.sessions.length ≤ 4 := by
  unfold State.segApply
  dsimp only
  repeat' split
  all_goals simp [h]

@[simp] theorem State.dpRead_still (s : State) (m : DpMsg) : Still s (s.dpRead m).1 := by
  unfold State.dpRead
  dsimp only
  repeat' split
  all_goals simp [Still]

@[simp] theorem State.dpWriteCode_bounded (s : State) (m : DpMsg) (idx sub off total n : Nat) (data : Bytes) (h : s.prot.sessions.length ≤ 4) : (s.dpWriteCode m idx sub off total n data).1.prot.sessions.length ≤ 4 := by
  unfold State.dpWriteCode
  dsimp only
  repeat' split
  all_goals simp [h]

@[simp] theorem State.dpWrite_bounded (s : State) (m : DpMsg) (h : s.prot.sessions.length ≤ 4) : (s.dpWrite m).1.prot.sessions.length ≤ 4 := by simp [State.dpWrite, h]

/-- A fifth session is not opened (R405). -/
theorem State.dpOpen_full (s : State) (m : DpMsg) (h : 4 ≤ s.prot.sessions.length) : (s.dpOpen m).1 = s := by
  simp only [State.dpOpen, h, if_true]
  split_ifs <;> simp_all

/-- A request adds one session at most. -/
theorem State.dpOpen_length (s : State) (m : DpMsg) : (s.dpOpen m).1.prot.sessions.length ≤ s.prot.sessions.length + 1 := by
  simp only [State.dpOpen]
  split_ifs <;> simp

@[simp] theorem State.dpOpen_bounded (s : State) (m : DpMsg) (h : s.prot.sessions.length ≤ 4) : (s.dpOpen m).1.prot.sessions.length ≤ 4 := by
  by_cases hfull : 4 ≤ s.prot.sessions.length
  · rw [s.dpOpen_full m hfull]; exact h
  · exact (s.dpOpen_length m).trans (by omega)

theorem State.endSession_length (s : State) (id : Nat) : (s.endSession id).prot.sessions.length ≤ s.prot.sessions.length := by
  simpa [State.endSession] using List.length_filter_le ..

@[simp] theorem State.endSession_bounded (s : State) (id : Nat) (h : s.prot.sessions.length ≤ 4) : (s.endSession id).prot.sessions.length ≤ 4 :=
  (s.endSession_length id).trans h

@[simp] theorem State.dpClose_bounded (s : State) (m : DpMsg) (h : s.prot.sessions.length ≤ 4) : (s.dpClose m).1.prot.sessions.length ≤ 4 := by
  unfold State.dpClose
  dsimp only
  exact State.ite_bounded (s.endSession_bounded _ h) h

@[simp] theorem State.dpDiscover_still (s : State) (m : DpMsg) : Still s (s.dpDiscover m).1 := by simp [Still, State.dpDiscover]

@[simp] theorem State.touchSession_length (s : State) (m : DpMsg) : (s.touchSession m).prot.sessions.length = s.prot.sessions.length := by
  simp [State.touchSession, mapIf]

@[simp] theorem State.dpAct_bounded (s : State) (m : DpMsg) (h : s.prot.sessions.length ≤ 4) : (s.dpAct m).1.prot.sessions.length ≤ 4 := by
  unfold State.dpAct
  split <;> simp [h]

@[simp] theorem State.dpRequest_bounded (s : State) (m : DpMsg) (full sigOk : Bool) (h : s.prot.sessions.length ≤ 4) : (s.dpRequest m full sigOk).1.prot.sessions.length ≤ 4 := by
  unfold State.dpRequest
  dsimp only
  repeat' split
  all_goals simp [h]

/-! ### SPDM -/

@[simp] theorem State.mctpAnswer_still (s : State) (request bs : Bytes) : Still s (s.mctpAnswer request bs) := by simp [Still, State.mctpAnswer]

@[simp] theorem State.spdmSend_still (s : State) (tr : Nat) (bs : Bytes) : Still s (s.spdmSend tr bs) := by simp [Still, State.spdmSend]

@[simp] theorem State.spdmError_still (s : State) (tr code data : Nat) : Still s (s.spdmError tr code data) := by simp [Still, State.spdmError]

@[simp] theorem State.spdmFresh_still (s : State) (tr : Nat) (cert meas : Bool) : Still s (s.spdmFresh tr cert meas) := by simp [Still, State.spdmFresh]

@[simp] theorem State.spdmMove_still (s : State) (tr state : Nat) (bs : Bytes) : Still s (s.spdmMove tr state bs) := by simp [Still, State.spdmMove]

@[simp] theorem State.spdmNonce_still (s : State) : Still s s.spdmNonce.2 := by simp [Still, State.spdmNonce]

@[simp] theorem State.spdmCertAnswer_still (s : State) (tr : Nat) (request answer : Bytes) : Still s (s.spdmCertAnswer tr request answer) := by
  simp [Still, State.spdmCertAnswer]

/-! ### The slot boundary -/

@[simp] theorem State.addressFault_still (s : State) (a : Action) : Still s (s.addressFault a) := by simp [Still, State.addressFault]

@[simp] theorem State.storeAt_sessions (s : State) (a : Action) (bs : Bytes) : (s.storeAt a bs).prot.sessions = s.prot.sessions := by
  unfold State.storeAt
  have ht := (State.translateSpans_still a.ctx [⟨a.transit.addr, bs.length, true, false⟩] s).2.2
  split <;> rename_i he <;> rw [he] at ht <;> simpa using ht

@[simp] theorem State.mark_sessions (s : State) (a : Action) : (s.mark a).prot.sessions = s.prot.sessions := by simp [State.mark]
@[simp] theorem State.snapshotAction_sessions (s : State) (a : Action) : (s.snapshotAction a).prot.sessions = s.prot.sessions := by simp [State.snapshotAction]
@[simp] theorem State.launch_sessions (s : State) (a : Action) : (s.launch a).prot.sessions = s.prot.sessions := by simp [State.launch]
@[simp] theorem State.startMover_sessions (s : State) (a : Action) : (s.startMover a).prot.sessions = s.prot.sessions := by simp [State.startMover]

@[simp] theorem State.startGate_sessions (s : State) (a : Action) : (s.startGate a).prot.sessions = s.prot.sessions := by simp [State.startGate]
@[simp] theorem State.startUpdate_sessions (s : State) (a : Action) : (s.startUpdate a).prot.sessions = s.prot.sessions := by simp [State.startUpdate]

@[simp] theorem State.startAction_sessions (s : State) (a : Action) : (s.startAction a).prot.sessions = s.prot.sessions := by
  unfold State.startAction
  split <;> simp

@[simp] theorem State.requeue_still (s : State) (q : QTransit) (new : List QTransit) : Still s (s.requeue q new) := by simp [Still, State.requeue]
@[simp] theorem State.noteFired_sessions (s : State) (iter : Nat) : (s.noteFired iter).prot.sessions = s.prot.sessions := by simp [State.noteFired]
@[simp] theorem State.fire_sessions (s : State) (h : AlmHeader) (q : QTransit) : (s.fire h q).prot.sessions = s.prot.sessions := by simp [State.fire]

@[simp] theorem State.fireNext_sessions (h : AlmHeader) (d : Nat) (qs : List QTransit) (blocked : List Nat) (s : State) :
    (State.fireNext h d qs blocked s).1.prot.sessions = s.prot.sessions := by
  induction qs generalizing blocked s with
  | nil => rfl
  | cons q rest ih =>
    unfold State.fireNext
    split
    · rfl
    · split
      · simp
      · exact (ih _ _).trans (State.requeue_still ..).2.2

@[simp] theorem State.fireTick_sessions (h : AlmHeader) (p : State × PerDie Turn) : (State.fireTick h p).1.prot.sessions = p.1.prot.sessions :=
  List.foldlRecOn (motive := fun q : State × PerDie Turn => q.1.prot.sessions = p.1.prot.sessions) _ _ rfl
    (fun _ hq _ _ => (State.fireNext_sessions ..).trans hq)

@[simp] theorem State.fireTicks_sessions (h : AlmHeader) (base n : Nat) (turns : PerDie Turn) (s : State) :
    (State.fireTicks h base n turns s).prot.sessions = s.prot.sessions := by
  induction n generalizing turns s with
  | zero => rfl
  | succ n ih =>
    unfold State.fireTicks
    split
    · rfl
    · have hf := State.fireTick_sessions h (s.setSdt (base + (1983 - n)), turns)
      generalize State.fireTick h (s.setSdt (base + (1983 - n)), turns) = p at hf
      exact (ih _ _).trans hf

@[simp] theorem State.firePass_sessions (s : State) : s.firePass.prot.sessions = s.prot.sessions := by
  have hr := (State.readDue_still 7936 s).2.2
  unfold State.firePass
  split
  · exact State.ite_sessions_same ((State.fireTicks_sessions ..).trans hr) hr
  · rfl

@[simp] theorem State.newSlot_still (s : State) : Still s s.newSlot := by
  unfold State.newSlot
  repeat' split
  all_goals simp [Still]

@[simp] theorem State.newEpoch_still (s : State) : Still s s.newEpoch := by simp [Still, State.newEpoch]

@[simp] theorem State.countStops_still (s : State) : Still s s.countStops := by simp [Still, State.countStops]

@[simp] theorem State.compareSdt_still (s : State) (upset : BitVec 4) (held : PerDie (BitVec 64)) : Still s (s.compareSdt upset held) := by
  simp [Still, State.compareSdt]

@[simp] theorem State.deferTask_still (s : State) (key : Nat) : Still s (s.deferTask key) := by simp [Still, State.deferTask]

@[simp] theorem State.duskSlot_still (s : State) : Still s s.duskSlot := by simp [Still, State.duskSlot]

@[simp] theorem State.workSlot_sessions (s : State) : s.workSlot.prot.sessions = s.prot.sessions := by simp [State.workSlot]

@[simp] theorem State.skySlot_still (s : State) : Still s s.skySlot := by simp [Still, State.skySlot]

@[simp] theorem State.countSecond_still (s : State) : Still s s.countSecond := by simp [Still, State.countSecond]

@[simp] theorem State.boundary_sessions (s : State) (junction : List (List Int)) (upset : BitVec 4) (held : PerDie (BitVec 64)) : (s.boundary junction upset held).prot.sessions = s.prot.sessions := by simp [State.boundary]

/-! ### The vector engine -/

@[simp] theorem State.gatherCycles_still (s : State) (g n : Nat) : Still s (s.gatherCycles g n) := by simp [Still, State.gatherCycles]

@[simp] theorem vscatterEffect_sessions (g t : Nat) (s : State) (th : Thread) (w : Nat) : (vscatterEffect g t s th w).prot.sessions = s.prot.sessions := by
  unfold vscatterEffect
  refine State.ite_sessions_same (by simp) ((State.next_sessions _ _ _).trans ?_)
  refine (State.foldl_sessions _ (fun s p => ?_) _ _).trans (by simp)
  split <;> simp

@[simp] theorem scatterAdd_still (g ty : Nat) (s : State) (o x : Nat) : Still s (scatterAdd g ty s o x) := by simp [Still, scatterAdd]

@[simp] theorem vscataddEffect_sessions (g t : Nat) (s : State) (th : Thread) (w : Nat) : (vscataddEffect g t s th w).prot.sessions = s.prot.sessions := by
  unfold vscataddEffect
  refine State.ite_sessions_same (by simp) ((State.next_sessions _ _ _).trans ?_)
  refine (State.foldl_sessions _ (fun s p => ?_) _ _).trans (by simp)
  split <;> simp

/-! ### Page walks -/

@[simp] theorem State.walkOutcome_sessions (s : State) (a : Agent) (c : XCtx) (x : Xlate) : (s.walkOutcome a c x).prot.sessions = s.prot.sessions := by
  unfold State.walkOutcome
  repeat' split
  all_goals simp

@[simp] theorem State.walkEcc_still (s : State) (c : XCtx) (e : EccEvent) : Still s (s.walkEcc c e) := by
  unfold State.walkEcc
  split <;> simp [Still]

@[simp] theorem State.pageWalk_sessions (s : State) (a : Agent) (c : XCtx) (e : EccEvent) : (s.pageWalk a c e).prot.sessions = s.prot.sessions := by simp [State.pageWalk]

end Sys2Proof.Machine
end

section
/-! SUPPORT. What each command leaves of memory, threads, gate counters and the number of open sessions: the commands of leavesMemory, the others, and the step (R405). -/

namespace Sys2Proof.Machine

/-! ### Results -/

/-- Every next state of the result meets P. -/
def Result.All (P : State → Prop) (r : Result) : Prop := ∀ u, r = .next u → P u

@[simp] theorem next_all (P : State → Prop) (s : State) : Result.All P (.next s) ↔ P s := ⟨fun h => h s rfl, fun h u e => by cases e; exact h⟩
@[simp] theorem refused_all (P : State → Prop) (r : Refusal) : Result.All P (.refused r) := fun _ e => nomatch e
@[simp] theorem ite_all (P : State → Prop) (c : Prop) [Decidable c] (r q : Result) : Result.All P (if c then r else q) ↔ if c then r.All P else q.All P := by
  split <;> rfl
@[simp] theorem when_all (P : State → Prop) (c : Bool) (s t : State) : Result.All P (when c s t) ↔ if c then P t else P s := by
  cases c <;> simp [when]

/-- Memory, threads and gate counters are as they were, and no session is open that was not. -/
abbrev AtRest (s u : State) : Prop := u.mem = s.mem ∧ u.threads = s.threads ∧ u.gates = s.gates ∧ u.prot.sessions.length ≤ s.prot.sessions.length

/-- Every next state of the result has at most four open sessions. -/
abbrev Result.Bounded (r : Result) : Prop := r.All (fun u => u.prot.sessions.length ≤ 4)

theorem ite_prop {c P Q : Prop} [Decidable c] (hp : P) (hq : Q) : if c then P else Q := by
  split <;> assumption
theorem AtRest.rfl {s : State} : AtRest s s := ⟨.refl _, .refl _, .refl _, Nat.le_refl _⟩
theorem atRest_ite {c : Prop} [Decidable c] {s t u : State} (ht : AtRest s t) (hu : AtRest s u) : AtRest s (if c then t else u) := by
  split <;> assumption
theorem bounded_of_sessions {s u : State} (h : s.prot.sessions.length ≤ 4) (hu : u.prot.sessions = s.prot.sessions) : u.prot.sessions.length ≤ 4 := by
  rwa [hu]

/-! ### Frames taken -/

section
variable {s t : State} {r : RxFrame} {f : Frame}

theorem takeFrame_atRest {ftype : Nat} (he : s.takeFrame ftype = some (r, f, t)) : t.mem = s.mem ∧ Still s t :=
  ⟨State.takeFrame_mem _ _ _ _ _ he, State.takeFrame_still _ _ _ _ _ he⟩
theorem takeBeacon_atRest {response : Bool} (he : s.takeBeacon response = some (r, f, t)) : t.mem = s.mem ∧ Still s t :=
  ⟨State.takeBeacon_mem _ _ _ _ _ he, State.takeBeacon_still _ _ _ _ _ he⟩

end

/-! ### Operations that commands share -/

@[simp] theorem State.serveAt_bounded (s : State) (req : Nat) (p : ReqKind → Bool) (k : Req → Nat → State) (hk : ∀ r n, Still s (k r n))
    (h : s.prot.sessions.length ≤ 4) : Result.Bounded (s.serveAt req p k) := by
  unfold State.serveAt
  split
  · simp [h, (hk _ _).2.2]
  · simp [h]

@[simp] theorem State.issueInstr_bounded (s : State) (g t : Nat) (mine bad : Nat → Bool) (regs : Nat → Regs) (effect : State → Thread → Nat → State)
    (heffect : ∀ s th n, (effect s th n).prot.sessions = s.prot.sessions) (h : s.prot.sessions.length ≤ 4) :
    Result.Bounded (s.issueInstr g t mine bad regs effect) := by
  simp [State.issueInstr, h, heffect]

@[simp] theorem State.vector_bounded (s : State) (g t cls op : Nat) (regs : Nat → Regs) (effect : State → Thread → Nat → State)
    (heffect : ∀ s th w, (effect s th w).prot.sessions = s.prot.sessions) (h : s.prot.sessions.length ≤ 4) :
    Result.Bounded (s.vector g t cls op regs effect) := by
  simp [State.vector, h, heffect]

@[simp] theorem State.takeOp_bounded (s : State) (d m op : Nat) (h : s.prot.sessions.length ≤ 4) : Result.Bounded (s.takeOp d m op) := by
  have hr := (s.readDesc_still d m (s.mover d m).cur).2.2
  unfold State.takeOp
  dsimp only
  repeat' split
  all_goals simp_all

@[simp] theorem State.jobTurn_bounded (s : State) (j : UpdJob) (ok : Bool) (t : State) (h : s.prot.sessions.length ≤ 4) (ht : t.prot.sessions.length ≤ 4) :
    Result.Bounded (s.jobTurn j ok t) := by
  unfold State.jobTurn
  split <;> simp [h, ht]

@[simp] theorem State.takeRequest_bounded (s : State) (ftype : Nat) (serve : Frame → State → State) (hserve : ∀ f s, Still s (serve f s))
    (h : s.prot.sessions.length ≤ 4) : Result.Bounded (s.takeRequest ftype serve) := by
  unfold State.takeRequest
  split
  · simp [h]
  · have ht := (takeFrame_atRest ‹_›).2
    simp [h, ht, (hserve _ _).2.2]

@[simp] theorem State.deadline_rests (s : State) (n closed : Nat) : Result.All (AtRest s) (s.deadline n closed) := by
  unfold State.deadline
  split <;> simp [AtRest]

@[simp] theorem State.mgmtAnswer_rests (s : State) (p : Option NetPacket) : Result.All (AtRest s) (s.mgmtAnswer p) := by
  unfold State.mgmtAnswer
  split <;> simp [AtRest]

@[simp] theorem State.mctpControl_rests (s : State) (code : Nat) (request : Bytes) (f : Bytes → State) (hf : ∀ bs, AtRest s (f bs)) :
    Result.All (AtRest s) (s.mctpControl code request f) := by
  unfold State.mctpControl
  split
  · simp
  · rw [when_all]; exact ite_prop (hf _) .rfl

@[simp] theorem State.spdmRequest_rests (s : State) (tr code len ver least : Nat) (request : Bytes) (f : State → State) (hf : AtRest s (f s)) :
    Result.All (AtRest s) (s.spdmRequest tr code len ver least request f) := by
  unfold State.spdmRequest
  rw [ite_all, when_all]
  refine ite_prop (refused_all _ _) (ite_prop ?_ .rfl)
  exact atRest_ite (by simp [AtRest]) (atRest_ite (by simp [AtRest]) (atRest_ite (by simp [AtRest]) hf))

/-! ### Writes of the dictionary -/

@[simp] theorem State.accessed_bounded (s : State) (via : Via) (idx sub : Nat) (r : State × Nat) (h : s.prot.sessions.length ≤ 4)
    (hr : r.1.prot.sessions.length ≤ 4) : Result.Bounded (s.accessed via idx sub r) := by
  unfold State.accessed
  split <;> simp [h, hr]

@[simp] theorem State.access_bounded (s : State) (via : Via) (idx sub : Nat) (bs : Bytes) (h : s.prot.sessions.length ≤ 4) :
    Result.Bounded (s.access via idx sub bs) := by simp [State.access, h]

@[simp] theorem State.regWrite_bounded (s : State) (via : Via) (idx sub v : Nat) (h : s.prot.sessions.length ≤ 4) : Result.Bounded (s.regWrite via idx sub v) := by
  unfold State.regWrite
  split <;> simp [h]

@[simp] theorem State.bar0Write_bounded (s : State) (p : Fin 2) (o : Nat) (bs : Bytes) (h : s.prot.sessions.length ≤ 4) : Result.Bounded (s.bar0Write p o bs) := by
  unfold State.bar0Write
  dsimp only
  split
  · exact refused_all _ _
  · refine s.accessed_bounded _ _ _ _ h ?_
    split <;> simp [h]

theorem State.accessed_rests (s : State) (via : Via) (idx sub : Nat) (r : State × Nat) (hr : AtRest s r.1) : Result.All (AtRest s) (s.accessed via idx sub r) := by
  unfold State.accessed
  rw [ite_all, when_all]
  exact ite_prop ((next_all ..).mpr .rfl) (ite_prop (by simpa [AtRest] using hr) .rfl)

@[simp] theorem State.bar0Read_rests (s : State) (p : Fin 2) (o n : Nat) : Result.All (AtRest s) (s.bar0Read p o n) := by
  unfold State.bar0Read
  dsimp only
  rw [ite_all]
  refine ite_prop (refused_all _ _) (s.accessed_rests _ _ _ _ ?_)
  split <;> simp [AtRest]

theorem leNat_natLe_of_lt {w v : Nat} (h : v < 2 ^ (8 * w)) : leNat (natLe w v) = v := by
  rw [leNat_natLe, Nat.mod_eq_of_lt (by rwa [show 256 = 2 ^ 8 from rfl, ← Nat.pow_mul])]

/-- A write of a number to a short entry keeps the state at rest if the entry's effect does. -/
theorem State.regWrite_rests (s : State) (via : Via) (idx sub v : Nat) (hw : ∀ e, e.index = idx → v < 2 ^ (8 * e.size) → AtRest s (s.writeShort via e sub (natLe e.size v)).1) :
    Result.All (AtRest s) (s.regWrite via idx sub v) := by
  unfold State.regWrite
  split
  · exact s.accessed_rests _ _ _ _ .rfl
  · next e he =>
    rw [ite_all]
    split
    · exact s.accessed_rests _ _ _ _ .rfl
    · next hn =>
      simp only [Bool.or_eq_true, decide_eq_true_eq, not_or, Bool.not_eq_true, Nat.not_le] at hn
      refine s.accessed_rests _ _ _ _ ?_
      rw [State.writeEntry, he]
      dsimp only
      rw [hn.1]
      exact hw e (findEntry_index he) hn.2

/-- A write of an entry that no segment window belongs to. -/
theorem State.regWrite_applies_rests (s : State) (via : Via) (idx sub v : Nat) (hi : idx ≠ 0x1105 ∧ idx ≠ 0x1106)
    (hw : ∀ e, e.index = idx → AtRest s (s.shortApply e sub v)) : Result.All (AtRest s) (s.regWrite via idx sub v) := by
  refine s.regWrite_rests _ _ _ _ (fun e he hv => ?_)
  unfold State.writeShort
  dsimp only
  split
  · exact .rfl
  · split
    · exact .rfl
    · split
      · rw [if_neg (by simp [he, hi]), if_neg (by simp [he, hi]), leNat_natLe_of_lt hv]
        exact hw e he
      · exact .rfl

@[simp] theorem State.dpFrom_bounded (s : State) (type : Nat) (frame : Bytes) (full sigOk : Bool) (h : s.prot.sessions.length ≤ 4) :
    Result.Bounded (s.dpFrom type frame full sigOk) := by
  unfold State.dpFrom
  split
  · exact refused_all _ _
  · split
    · exact (next_all ..).mpr h
    · split
      · exact (next_all ..).mpr h
      · split
        · exact (next_all ..).mpr h
        · next m _ =>
          have hr := s.dpRequest_bounded m full sigOk h
          split <;> rename_i he <;> rw [he] at hr <;> exact (next_all ..).mpr hr

@[simp] theorem execEavesFillReturn_rests (die : Fin 4) (line : Nat) (s : State) : Result.All (AtRest s) (execEavesFillReturn die line s) := by
  unfold execEavesFillReturn
  split <;> simp [AtRest]

@[simp] theorem execPrefetchDistanceRevise_rests (die : Fin 4) (s : State) : Result.All (AtRest s) (execPrefetchDistanceRevise die s) := by
  simp [AtRest, execPrefetchDistanceRevise]

@[simp] theorem execScrubDusk_rests (die : Fin 4) (found : List (Nat × EccEvent)) (s : State) : Result.All (AtRest s) (execScrubDusk die found s) := by simp [AtRest, Still, Still, execScrubDusk]

@[simp] theorem execScrubPassEnd_rests (die : Fin 4) (thatch : Bool) (s : State) : Result.All (AtRest s) (execScrubPassEnd die thatch s) := by
  simp [AtRest, execScrubPassEnd]

@[simp] theorem execSramScrub_rests (core : Fin 384) (lpa : Nat) (found : EccEvent) (s : State) : Result.All (AtRest s) (execSramScrub core lpa found s) := by simp [AtRest, execSramScrub]

@[simp] theorem execCacheScrub_rests (die : Fin 4) (part : SlicePart) (line : Nat) (found : EccEvent) (s : State) : Result.All (AtRest s) (execCacheScrub die part line found s) := by simp [AtRest, execCacheScrub]

@[simp] theorem execIdleBankScrub_rests (core : Fin 384) (found : EccEvent) (s : State) : Result.All (AtRest s) (execIdleBankScrub core found s) := by simp [AtRest, execIdleBankScrub]

@[simp] theorem execHostAccess_rests (req : Nat) (status : Fin 256) (s : State) : Result.All (AtRest s) (execHostAccess req status s) := by
  unfold execHostAccess
  repeat' split
  all_goals simp [AtRest]

@[simp] theorem execInvalComplete_rests (s : State) : Result.All (AtRest s) (execInvalComplete s) := by simp [AtRest, execInvalComplete]

@[simp] theorem execMwloadStart_rests (core : Fin 384) (array : Fin 4) (s : State) : Result.All (AtRest s) (execMwloadStart core array s) := by
  unfold execMwloadStart
  split <;> simp [AtRest]

@[simp] theorem execMwloadComplete_rests (core : Fin 384) (array : Fin 4) (s : State) : Result.All (AtRest s) (execMwloadComplete core array s) := by
  unfold execMwloadComplete
  split <;> simp [AtRest]

@[simp] theorem execMstreamStart_rests (core : Fin 384) (array : Fin 4) (s : State) : Result.All (AtRest s) (execMstreamStart core array s) := by
  unfold execMstreamStart
  split <;> simp [AtRest]

@[simp] theorem execMstreamComplete_rests (core : Fin 384) (s : State) : Result.All (AtRest s) (execMstreamComplete core s) := by
  unfold execMstreamComplete
  split <;> simp [AtRest]

@[simp] theorem execMdrainStart_rests (core : Fin 384) (array : Fin 4) (s : State) : Result.All (AtRest s) (execMdrainStart core array s) := by
  unfold execMdrainStart
  split <;> simp [AtRest]

@[simp] theorem execMdrainComplete_rests (core : Fin 384) (array : Fin 4) (s : State) : Result.All (AtRest s) (execMdrainComplete core array s) := by
  unfold execMdrainComplete
  split <;> simp [AtRest]

@[simp] theorem execLinkRetryTimer_rests (link : Fin 36) (s : State) : Result.All (AtRest s) (execLinkRetryTimer link s) := by
  unfold execLinkRetryTimer
  dsimp only
  repeat' split
  all_goals simp [AtRest]

@[simp] theorem execLinkDetected_rests (link : Fin 36) (s : State) : Result.All (AtRest s) (execLinkDetected link s) := by
  simp [AtRest, execLinkDetected]

@[simp] theorem execLinkEqualised_rests (link : Fin 36) (laneMap : BitVec 24) (polarity : BitVec 8) (ok : Bool) (s : State) : Result.All (AtRest s) (execLinkEqualised link laneMap polarity ok s) := by simp [AtRest, execLinkEqualised]

@[simp] theorem execLinkDown_rests (link : Fin 36) (s : State) : Result.All (AtRest s) (execLinkDown link s) := by
  unfold execLinkDown
  split <;> simp [AtRest]

@[simp] theorem execLinkRetrain_rests (link : Fin 36) (s : State) : Result.All (AtRest s) (execLinkRetrain link s) := by
  simp [AtRest, execLinkRetrain]

@[simp] theorem execIdentity_rests (link : Fin 36) (flit : BitVec 1600) (s : State) : Result.All (AtRest s) (execIdentity link flit s) := by
  simp [AtRest, execIdentity]

@[simp] theorem execCreditUpdate_rests (link : Fin 36) (flit : BitVec 1600) (s : State) : Result.All (AtRest s) (execCreditUpdate link flit s) := by simp [AtRest, execCreditUpdate]

@[simp] theorem execNak_rests (link : Fin 36) (flit : BitVec 1600) (s : State) : Result.All (AtRest s) (execNak link flit s) := by
  simp [AtRest, execNak]

@[simp] theorem execReplayTimeout_rests (link : Fin 36) (s : State) : Result.All (AtRest s) (execReplayTimeout link s) := by
  simp [AtRest, execReplayTimeout]

@[simp] theorem execFlitReceived_rests (link : Fin 36) (flit : RxFlit) (s : State) : Result.All (AtRest s) (execFlitReceived link flit s) := by
  simp [AtRest, execFlitReceived]

@[simp] theorem execFenceNoticeSend_rests (link : Fin 36) (s : State) : Result.All (AtRest s) (execFenceNoticeSend link s) := by
  simp [AtRest, execFenceNoticeSend]

@[simp] theorem execSeamRidgeFlit_rests (hop : SeamHop) (load : SeamLoad) (wire : SeamWire) (s : State) : Result.All (AtRest s) (execSeamRidgeFlit hop load wire s) := by
  unfold execSeamRidgeFlit
  dsimp only
  repeat' split
  all_goals simp [AtRest]

@[simp] theorem execDieLost_rests (die : Fin 4) (s : State) : Result.All (AtRest s) (execDieLost die s) := by simp [AtRest, execDieLost]

@[simp] theorem execEthPacket_rests (link : Fin 36) (packet : List Byte) (s : State) : Result.All (AtRest s) (execEthPacket link packet s) := by
  simp [AtRest, execEthPacket]

@[simp] theorem execEthLinkUp_rests (link : Fin 36) (s : State) : Result.All (AtRest s) (execEthLinkUp link s) := by simp [AtRest, execEthLinkUp]

@[simp] theorem execEthLinkLost_rests (link : Fin 36) (s : State) : Result.All (AtRest s) (execEthLinkLost link s) := by
  simp [AtRest, execEthLinkLost]

@[simp] theorem execEthRetransmitTimeout_rests (link : Fin 36) (s : State) : Result.All (AtRest s) (execEthRetransmitTimeout link s) := by
  simp [AtRest, execEthRetransmitTimeout]

@[simp] theorem execEthAckTimer_rests (link : Fin 36) (s : State) : Result.All (AtRest s) (execEthAckTimer link s) := by
  simp [AtRest, execEthAckTimer]

@[simp] theorem execEthNeighborSolicitation_rests (link : Fin 36) (packet : List Byte) (s : State) : Result.All (AtRest s) (execEthNeighborSolicitation link packet s) := by
  unfold execEthNeighborSolicitation
  repeat' split
  all_goals simp [AtRest]

@[simp] theorem execEthEchoRequest_rests (link : Fin 36) (packet : List Byte) (s : State) : Result.All (AtRest s) (execEthEchoRequest link packet s) := by
  unfold execEthEchoRequest
  repeat' split
  all_goals simp [AtRest]

@[simp] theorem execReduceContrib_rests (s : State) : Result.All (AtRest s) (execReduceContrib s) := by
  unfold execReduceContrib
  split
  · exact (next_all ..).mpr .rfl
  · have ht := takeFrame_atRest ‹_›
    simp [AtRest, ht]

@[simp] theorem execParentClockLost_rests (s : State) : Result.All (AtRest s) (execParentClockLost s) := by simp [AtRest, execParentClockLost]

@[simp] theorem execParentLinkRecovered_rests (link : Fin 36) (s : State) : Result.All (AtRest s) (execParentLinkRecovered link s) := by
  unfold execParentLinkRecovered
  split <;> simp [AtRest]

@[simp] theorem execBeaconRequestSend_rests (s : State) : Result.All (AtRest s) (execBeaconRequestSend s) := by simp [AtRest, execBeaconRequestSend]

@[simp] theorem execUnusedParentBeacon_rests (link : Fin 36) (s : State) : Result.All (AtRest s) (execUnusedParentBeacon link s) := by
  simp [AtRest, execUnusedParentBeacon]

@[simp] theorem execBeaconRequest_rests (t2frac t3frac : Fin 256) (turn : Nat) (s : State) : Result.All (AtRest s) (execBeaconRequest t2frac t3frac turn s) := by
  unfold execBeaconRequest
  split
  · exact (next_all ..).mpr .rfl
  · have ht := takeBeacon_atRest ‹_›
    simp [AtRest, ht]

@[simp] theorem execBeaconResponse_rests (t4frac : Fin 256) (s : State) : Result.All (AtRest s) (execBeaconResponse t4frac s) := by
  unfold execBeaconResponse
  split
  · exact (next_all ..).mpr .rfl
  · have ht := takeBeacon_atRest ‹_›
    dsimp only
    rw [next_all]
    split <;> simp [AtRest, ht]

@[simp] theorem execPauseResume_rests (s : State) : Result.All (AtRest s) (execPauseResume s) := by simp [AtRest, execPauseResume]

@[simp] theorem execAlmanacDescriptorRead_rests (s : State) : Result.All (AtRest s) (execAlmanacDescriptorRead s) := by
  unfold execAlmanacDescriptorRead
  split <;> simp [AtRest]

@[simp] theorem execGuardBandSample_rests (s : State) : Result.All (AtRest s) (execGuardBandSample s) := by simp [AtRest, execGuardBandSample]

@[simp] theorem execAgreement_rests (s : State) : Result.All (AtRest s) (execAgreement s) := by
  unfold execAgreement
  split
  · exact (next_all ..).mpr .rfl
  · have ht := takeFrame_atRest ‹_›
    simp [AtRest, ht]

@[simp] theorem execSeal_rests (s : State) : Result.All (AtRest s) (execSeal s) := by
  unfold execSeal
  split
  · exact (next_all ..).mpr .rfl
  · have ht := takeFrame_atRest ‹_›
    simp [AtRest, ht]

@[simp] theorem execVectorDeadline_rests (s : State) : Result.All (AtRest s) (execVectorDeadline s) := by simp [execVectorDeadline]

@[simp] theorem execSealDeadline_rests (s : State) : Result.All (AtRest s) (execSealDeadline s) := by simp [execSealDeadline]

@[simp] theorem execConjunctionDecision_rests (s : State) : Result.All (AtRest s) (execConjunctionDecision s) := by
  unfold execConjunctionDecision
  split <;> simp [AtRest]

@[simp] theorem execLogRecordArrival_rests (s : State) : Result.All (AtRest s) (execLogRecordArrival s) := by
  unfold execLogRecordArrival
  split <;> simp [AtRest]

@[simp] theorem execLogProgram_rests (s : State) : Result.All (AtRest s) (execLogProgram s) := by
  unfold execLogProgram
  split <;> simp [AtRest]

@[simp] theorem execTelemetrySample_rests (s : State) : Result.All (AtRest s) (execTelemetrySample s) := by simp [AtRest, execTelemetrySample]

@[simp] theorem execCoreTestDone_rests (failed : List (Fin 384)) (block : Nat) (s : State) : Result.All (AtRest s) (execCoreTestDone failed block s) := by simp [AtRest, execCoreTestDone]

@[simp] theorem execTapInstruction_rests (d01 d23 : TapOp × TapOp) (s : State) : Result.All (AtRest s) (execTapInstruction d01 d23 s) := by
  simp [AtRest, Still, Still, execTapInstruction]

@[simp] theorem execTestLogicReset_rests (s : State) : Result.All (AtRest s) (execTestLogicReset s) := by simp [AtRest, execTestLogicReset]

@[simp] theorem execFwEraseDone_rests (s : State) : Result.All (AtRest s) (execFwEraseDone s) := by
  unfold execFwEraseDone
  split <;> simp [AtRest]

@[simp] theorem execVerifyTargetDone_rests (check : ImageCheck) (s : State) : Result.All (AtRest s) (execVerifyTargetDone check s) := by
  simp [AtRest, execVerifyTargetDone]

@[simp] theorem execPackageResetRelease_rests (s : State) : Result.All (AtRest s) (execPackageResetRelease s) := by
  simp [AtRest, execPackageResetRelease]

@[simp] theorem execRomPhaseDone_rests (ok0 ok2 : Bool) (s : State) : Result.All (AtRest s) (execRomPhaseDone ok0 ok2 s) := by
  simp [AtRest, execRomPhaseDone]

@[simp] theorem execPowerPhaseDone_rests (s : State) : Result.All (AtRest s) (execPowerPhaseDone s) := by simp [AtRest, execPowerPhaseDone]

@[simp] theorem execClocksPhaseDone_rests (refclkGood : Bool) (s : State) : Result.All (AtRest s) (execClocksPhaseDone refclkGood s) := by
  simp [AtRest, execClocksPhaseDone]

@[simp] theorem execFirmwareLoadPhaseDone_rests (s : State) : Result.All (AtRest s) (execFirmwareLoadPhaseDone s) := by
  simp [AtRest, execFirmwareLoadPhaseDone]

@[simp] theorem execLinksPhaseDone_rests (s : State) : Result.All (AtRest s) (execLinksPhaseDone s) := by simp [AtRest, execLinksPhaseDone]

@[simp] theorem execDictionaryPhaseDone_rests (s : State) : Result.All (AtRest s) (execDictionaryPhaseDone s) := by
  simp [AtRest, execDictionaryPhaseDone]

@[simp] theorem execLeaderHeartbeat_rests (s : State) : Result.All (AtRest s) (execLeaderHeartbeat s) := by simp [AtRest, execLeaderHeartbeat]

@[simp] theorem execLeaderChange_rests (s : State) : Result.All (AtRest s) (execLeaderChange s) := by simp [AtRest, execLeaderChange]

@[simp] theorem execLodestarFailure_rests (die : Fin 4) (s : State) : Result.All (AtRest s) (execLodestarFailure die s) := by
  simp [AtRest, execLodestarFailure]

@[simp] theorem execThrottleStepRaise_rests (s : State) : Result.All (AtRest s) (execThrottleStepRaise s) := by simp [AtRest, execThrottleStepRaise]

@[simp] theorem execThrottleStepLower_rests (s : State) : Result.All (AtRest s) (execThrottleStepLower s) := by
  unfold execThrottleStepLower
  split <;> simp [AtRest]

@[simp] theorem execSupplyWarning_rests (mv : Nat) (s : State) : Result.All (AtRest s) (execSupplyWarning mv s) := by
  simp [AtRest, execSupplyWarning]

@[simp] theorem execSupplyLow_rests (mv : Nat) (s : State) : Result.All (AtRest s) (execSupplyLow mv s) := by simp [AtRest, execSupplyLow]

@[simp] theorem execSupplyLowCleared_rests (mv : Nat) (s : State) : Result.All (AtRest s) (execSupplyLowCleared mv s) := by
  simp [AtRest, execSupplyLowCleared]

@[simp] theorem execSupplyRecovered_rests (mv : Nat) (s : State) : Result.All (AtRest s) (execSupplyRecovered mv s) := by
  simp [AtRest, execSupplyRecovered]

@[simp] theorem execOverVoltage_rests (mv : Nat) (s : State) : Result.All (AtRest s) (execOverVoltage mv s) := by simp [AtRest, execOverVoltage]

@[simp] theorem execOverVoltageCleared_rests (mv : Nat) (s : State) : Result.All (AtRest s) (execOverVoltageCleared mv s) := by
  simp [AtRest, execOverVoltageCleared]

@[simp] theorem execVinRise_rests (mv : Nat) (s : State) : Result.All (AtRest s) (execVinRise mv s) := by simp [AtRest, execVinRise]

@[simp] theorem execVinStable_rests (mv : Nat) (s : State) : Result.All (AtRest s) (execVinStable mv s) := by simp [AtRest, execVinStable]

@[simp] theorem execReversePolarity_rests (s : State) : Result.All (AtRest s) (execReversePolarity s) := by simp [AtRest, execReversePolarity]

@[simp] theorem execSenseOpen_rests (kind : Nat) (die : Fin 4) (which reading : Nat) (s : State) : Result.All (AtRest s) (execSenseOpen kind die which reading s) := by
  unfold execSenseOpen
  repeat' split
  all_goals simp [AtRest]

@[simp] theorem execCoolantSensor_rests (sensor : Fin 4) (failed : Bool) (reading : Int) (s : State) : Result.All (AtRest s) (execCoolantSensor sensor failed reading s) := by simp [AtRest, execCoolantSensor]

@[simp] theorem execThermalDemandRevise_rests (s : State) : Result.All (AtRest s) (execThermalDemandRevise s) := by
  simp [AtRest, execThermalDemandRevise]

@[simp] theorem execThermalTripShutdown_rests (s : State) : Result.All (AtRest s) (execThermalTripShutdown s) := by
  simp [AtRest, execThermalTripShutdown]

@[simp] theorem execCoolantAverage_rests (sensors : List Int) (tin tout : Int) (power : Nat) (s : State) :
    Result.All (AtRest s) (execCoolantAverage sensors tin tout power s) := by
  unfold execCoolantAverage
  rw [ite_all, when_all]
  refine ite_prop (refused_all _ _) (ite_prop ?_ .rfl)
  simp [AtRest, Still, State.foldl_mem _ (fun (s : State) (i : Nat) => s.dset_mem _ _ _)]

@[simp] theorem execPowerCeilingPublish_rests (s : State) : Result.All (AtRest s) (execPowerCeilingPublish s) := by
  simp [AtRest, execPowerCeilingPublish]

@[simp] theorem execPowerControl_rests (power ma : Nat) (s : State) : Result.All (AtRest s) (execPowerControl power ma s) := by
  simp [AtRest, execPowerControl]

@[simp] theorem execCanaryMeasure_rests (margins : List Int) (s : State) : Result.All (AtRest s) (execCanaryMeasure margins s) := by
  simp [AtRest, Still, Still, execCanaryMeasure]

@[simp] theorem execGuardBandRaise_rests (die : Fin 4) (s : State) : Result.All (AtRest s) (execGuardBandRaise die s) := by
  simp [AtRest, execGuardBandRaise]

@[simp] theorem execSensorCalibration_rests (s : State) : Result.All (AtRest s) (execSensorCalibration s) := by simp [AtRest, execSensorCalibration]

@[simp] theorem execCurrentSenseCalibration_rests (s : State) : Result.All (AtRest s) (execCurrentSenseCalibration s) := by
  simp [AtRest, execCurrentSenseCalibration]

@[simp] theorem execInterfaceCalibration_rests (s : State) : Result.All (AtRest s) (execInterfaceCalibration s) := by
  simp [AtRest, execInterfaceCalibration]

@[simp] theorem execFlashGarbageCollect_rests (wear : Nat) (s : State) : Result.All (AtRest s) (execFlashGarbageCollect wear s) := by
  simp [AtRest, execFlashGarbageCollect]

@[simp] theorem execRootPllLock_rests (die : Fin 4) (s : State) : Result.All (AtRest s) (execRootPllLock die s) := by simp [AtRest, execRootPllLock]

@[simp] theorem execPllUnlock_rests (die : Fin 4) (s : State) : Result.All (AtRest s) (execPllUnlock die s) := by simp [AtRest, execPllUnlock]

@[simp] theorem execRefSwitch_rests (s : State) : Result.All (AtRest s) (execRefSwitch s) := by simp [AtRest, execRefSwitch]

@[simp] theorem execCrossingOverrun_rests (crossing : Nat) (s : State) : Result.All (AtRest s) (execCrossingOverrun crossing s) := by
  simp [AtRest, execCrossingOverrun]

@[simp] theorem execCrossingReset_rests (crossing : Nat) (s : State) : Result.All (AtRest s) (execCrossingReset crossing s) := by
  simp [AtRest, execCrossingReset]

@[simp] theorem execCrossingReleaseHandshake_rests (crossing : Nat) (s : State) : Result.All (AtRest s) (execCrossingReleaseHandshake crossing s) := by simp [AtRest, execCrossingReleaseHandshake]

@[simp] theorem execDimSkylightSnapshot_rests (s : State) : Result.All (AtRest s) (execDimSkylightSnapshot s) := by
  simp [AtRest, execDimSkylightSnapshot]

@[simp] theorem execPortReset_rests (port : Fin 2) (s : State) : Result.All (AtRest s) (execPortReset port s) := by simp [AtRest, execPortReset]

@[simp] theorem execConfigurationWrite_rests (port : Fin 2) (busMaster d3hot : Bool) (bar2 : Nat) (s : State) : Result.All (AtRest s) (execConfigurationWrite port busMaster d3hot bar2 s) := by simp [AtRest, execConfigurationWrite]

@[simp] theorem execPcieLinkUp_rests (port : Fin 2) (s : State) : Result.All (AtRest s) (execPcieLinkUp port s) := by simp [AtRest, execPcieLinkUp]

@[simp] theorem execSegWindowWrite_rests (port : Fin 2) (offset : Nat) (bytes : List Byte) (s : State) :
    Result.All (AtRest s) (execSegWindowWrite port offset bytes s) := s.accessed_rests _ _ _ _ (by simp [AtRest])

@[simp] theorem execTrackingPeakRead_rests (via : Via) (access : RegRead) (s : State) : Result.All (AtRest s) (execTrackingPeakRead via access s) := by
  unfold execTrackingPeakRead
  split
  · next die =>
    have hr : AtRest s (s.readEntry via 0x3600 (die + 1)).1 := by simp [AtRest]
    exact s.accessed_rests _ _ _ _ (atRest_ite hr hr)
  · exact s.bar0Read_rests _ _ _
  · exact refused_all _ _

@[simp] theorem execSessionTimeout_rests (session : Nat) (s : State) : Result.All (AtRest s) (execSessionTimeout session s) :=
  (when_all ..).mpr (ite_prop ⟨s.endSession_mem _, .refl _, .refl _, s.endSession_length _⟩ .rfl)

@[simp] theorem execSegmentLapse_rests (holder : Nat) (s : State) : Result.All (AtRest s) (execSegmentLapse holder s) := by
  simp [AtRest, execSegmentLapse]

@[simp] theorem execMgmtLinkUp_rests (duplicate : Bool) (s : State) : Result.All (AtRest s) (execMgmtLinkUp duplicate s) := by
  simp [AtRest, execMgmtLinkUp]

@[simp] theorem execMgmtNeighborSolicitation_rests (packet : List Byte) (s : State) : Result.All (AtRest s) (execMgmtNeighborSolicitation packet s) := by simp [execMgmtNeighborSolicitation]

@[simp] theorem execMgmtEchoRequest_rests (packet : List Byte) (s : State) : Result.All (AtRest s) (execMgmtEchoRequest packet s) := by
  simp [execMgmtEchoRequest]

@[simp] theorem execEntdaa_rests (address : Fin 128) (s : State) : Result.All (AtRest s) (execEntdaa address s) := by simp [AtRest, execEntdaa]

@[simp] theorem execI3cTargetReset_rests (s : State) : Result.All (AtRest s) (execI3cTargetReset s) := by simp [AtRest, execI3cTargetReset]

@[simp] theorem execSetEndpointId_rests (request : List Byte) (s : State) : Result.All (AtRest s) (execSetEndpointId request s) := by
  simp [AtRest, execSetEndpointId]

@[simp] theorem execGetEndpointId_rests (request : List Byte) (s : State) : Result.All (AtRest s) (execGetEndpointId request s) := by
  simp [AtRest, execGetEndpointId]

@[simp] theorem execGetMctpVersionSupport_rests (request : List Byte) (s : State) : Result.All (AtRest s) (execGetMctpVersionSupport request s) := by simp [AtRest, execGetMctpVersionSupport]

@[simp] theorem execGetMessageTypeSupport_rests (request : List Byte) (s : State) : Result.All (AtRest s) (execGetMessageTypeSupport request s) := by simp [AtRest, execGetMessageTypeSupport]

@[simp] theorem execI3cDictionaryRead_rests (request : List Byte) (s : State) : Result.All (AtRest s) (execI3cDictionaryRead request s) := by
  unfold execI3cDictionaryRead
  dsimp only
  repeat' split
  all_goals simp [AtRest]

@[simp] theorem execGetVersion_rests (transport : Fin 3) (request : List Byte) (s : State) : Result.All (AtRest s) (execGetVersion transport request s) := by simp [AtRest, execGetVersion]

@[simp] theorem execGetCapabilities_rests (transport : Fin 3) (request : List Byte) (s : State) : Result.All (AtRest s) (execGetCapabilities transport request s) := by simp [AtRest, execGetCapabilities]

@[simp] theorem execNegotiateAlgorithms_rests (transport : Fin 3) (request : List Byte) (s : State) : Result.All (AtRest s) (execNegotiateAlgorithms transport request s) := by simp [AtRest, execNegotiateAlgorithms]

@[simp] theorem execGetDigests_rests (transport : Fin 3) (request : List Byte) (s : State) : Result.All (AtRest s) (execGetDigests transport request s) := by simp [AtRest, execGetDigests]

@[simp] theorem execGetCertificate_rests (transport : Fin 3) (request : List Byte) (s : State) : Result.All (AtRest s) (execGetCertificate transport request s) := by simp [AtRest, execGetCertificate]

@[simp] theorem execChallenge_rests (transport : Fin 3) (request : List Byte) (s : State) : Result.All (AtRest s) (execChallenge transport request s) := by simp [AtRest, execChallenge]

@[simp] theorem execGetMeasurements_rests (transport : Fin 3) (request : List Byte) (s : State) : Result.All (AtRest s) (execGetMeasurements transport request s) := by simp [AtRest, execGetMeasurements]

@[simp] theorem execSpdmUnsupportedRequest_rests (transport : Fin 3) (request : List Byte) (s : State) : Result.All (AtRest s) (execSpdmUnsupportedRequest transport request s) := by simp [AtRest, execSpdmUnsupportedRequest]

@[simp] theorem execMoverDescriptorReadahead_bounded (die : Fin 4) (mover : Fin 64) (s : State) (h : s.prot.sessions.length ≤ 4) :
    Result.Bounded (execMoverDescriptorReadahead die mover s) := by
  unfold execMoverDescriptorReadahead
  dsimp only
  split
  · simp [h]
  · have ht := (s.translate_still (moverCtx die (s.mover die mover)
      ((s.mover die mover).descVa ((s.mover die mover).cur + 1 + (s.mover die mover).ahead.length)) 3)).2.2
    split
    · rename_i s' _ _ _
      have hr := (s'.readDesc_still die mover ((s.mover die mover).cur + 1 + (s.mover die mover).ahead.length)).2.2
      split <;> simp_all
    · simp_all

@[simp] theorem execMoverPieceIssue_bounded (die : Fin 4) (mover : Fin 64) (s : State) (h : s.prot.sessions.length ≤ 4) :
    Result.Bounded (execMoverPieceIssue die mover s) := by
  unfold execMoverPieceIssue
  split
  · simp [h]
  · next desc _ =>
    have hr := (s.readIndex_still die mover desc.toNat).2.2
    split
    · simp [h]
    · split <;> simp_all

@[simp] theorem execWindowFrameSend_bounded (window : Nat) (s : State) (h : s.prot.sessions.length ≤ 4) : Result.Bounded (execWindowFrameSend window s) := by
  unfold execWindowFrameSend
  repeat' split
  all_goals simp [Still, h]

@[simp] theorem execReduceGrant_bounded (s : State) (h : s.prot.sessions.length ≤ 4) : Result.Bounded (execReduceGrant s) := by
  unfold execReduceGrant
  split
  · exact (next_all ..).mpr h
  · have ht := (takeFrame_atRest ‹_›).2.2.2
    simp [ht, h]

@[simp] theorem execMemRead_bounded (s : State) (h : s.prot.sessions.length ≤ 4) : Result.Bounded (execMemRead s) :=
  s.takeRequest_bounded _ _ (fun f s => s.serveRead_still f) h

@[simp] theorem execAlmanacCheckDone_bounded (s : State) (h : s.prot.sessions.length ≤ 4) : Result.Bounded (execAlmanacCheckDone s) := by
  unfold execAlmanacCheckDone
  split <;> simp [h]

@[simp] theorem execBar2Read_bounded (port : Fin 2) (offset : BitVec 64) (len : Nat) (s : State) (h : s.prot.sessions.length ≤ 4) : Result.Bounded (execBar2Read port offset len s) := by simp [execBar2Read, h]

@[simp] theorem execLoftRead_bounded (of_ : LoftSource) (ecc : EccEvent) (s : State) (h : s.prot.sessions.length ≤ 4) : Result.Bounded (execLoftRead of_ ecc s) := by
  unfold execLoftRead
  split
  · exact s.serveAt_bounded _ _ _ (fun r a => s.sliceRead_still r a ecc) h
  · simp [h]

@[simp] theorem execLoftWrite_bounded (req : Nat) (ecc : EccEvent) (s : State) (h : s.prot.sessions.length ≤ 4) : Result.Bounded (execLoftWrite req ecc s) :=
  s.serveAt_bounded _ _ _ (fun r a => s.sliceWrite_still r a ecc) h

@[simp] theorem execControllerWriteAdd_bounded (req : Nat) (ecc : EccEvent) (s : State) (h : s.prot.sessions.length ≤ 4) : Result.Bounded (execControllerWriteAdd req ecc s) :=
  s.serveAt_bounded _ _ _ (fun r a => s.sliceAdd_still r a ecc) h

@[simp] theorem execLoftFillReturn_bounded (line : Nat) (ecc : EccEvent) (s : State) (h : s.prot.sessions.length ≤ 4) : Result.Bounded (execLoftFillReturn line ecc s) := by
  unfold execLoftFillReturn
  split <;> simp [h]

@[simp] theorem execStampRewrite_bounded (guard : Fin 64) (s : State) (h : s.prot.sessions.length ≤ 4) : Result.Bounded (execStampRewrite guard s) := by
  simp [execStampRewrite, h]

@[simp] theorem execScratchStore_bounded (thread : Fin 384 × Fin 32) (cycle : Option ScratchCycle) (s : State) (h : s.prot.sessions.length ≤ 4) : Result.Bounded (execScratchStore thread cycle s) := by simp [execScratchStore, h]

@[simp] theorem execMemoryLoad_bounded (core : Fin 384) (thread : Fin 32) (signed : Option Bool) (s : State) (h : s.prot.sessions.length ≤ 4) : Result.Bounded (execMemoryLoad core thread signed s) := by simp [execMemoryLoad, h]

@[simp] theorem execMemoryStore_bounded (thread : Fin 384 × Fin 32) (reserved : Bool) (s : State) (h : s.prot.sessions.length ≤ 4) : Result.Bounded (execMemoryStore thread reserved s) := by simp [execMemoryStore, h]

@[simp] theorem execImageFetchDone_bounded (core : Fin 384) (fetch : ImageFetch) (s : State) (h : s.prot.sessions.length ≤ 4) : Result.Bounded (execImageFetchDone core fetch s) := by
  unfold execImageFetchDone
  repeat' split
  all_goals simp [h]

@[simp] theorem execDescriptorRetire_bounded (die : Fin 4) (mover : Fin 64) (s : State) (h : s.prot.sessions.length ≤ 4) : Result.Bounded (execDescriptorRetire die mover s) := by
  unfold execDescriptorRetire
  split <;> simp [h]

@[simp] theorem execMemoryResponse_bounded (req : Nat) (s : State) (h : s.prot.sessions.length ≤ 4) : Result.Bounded (execMemoryResponse req s) := by
  unfold execMemoryResponse
  split <;> simp [h]

@[simp] theorem execHostPieceCompletion_bounded (req : Nat) (bytes : List Byte) (s : State) (h : s.prot.sessions.length ≤ 4) : Result.Bounded (execHostPieceCompletion req bytes s) := by
  unfold execHostPieceCompletion
  repeat' split
  all_goals simp [h]

@[simp] theorem execParkRecordWrite_bounded (s : State) (h : s.prot.sessions.length ≤ 4) : Result.Bounded (execParkRecordWrite s) := by
  unfold execParkRecordWrite
  repeat' split
  all_goals simp [h]

@[simp] theorem execParkTimeout_bounded (seq : Nat) (s : State) (h : s.prot.sessions.length ≤ 4) : Result.Bounded (execParkTimeout seq s) := by
  unfold execParkTimeout
  split <;> simp [h]

@[simp] theorem execMstreamRow_bounded (core : Fin 384) (busErr : Bool) (upset : List (Fin 4 × Fin 130 × Fin 8 × Int)) (s : State) (h : s.prot.sessions.length ≤ 4) : Result.Bounded (execMstreamRow core busErr upset s) := by
  unfold execMstreamRow
  split <;> simp [h]

@[simp] theorem execMdrainStep_bounded (core : Fin 384) (array : Fin 4) (s : State) (h : s.prot.sessions.length ≤ 4) : Result.Bounded (execMdrainStep core array s) := by
  unfold execMdrainStep
  split <;> simp [h]

@[simp] theorem execUpdateEntry_bounded (job : Nat) (s : State) (h : s.prot.sessions.length ≤ 4) : Result.Bounded (execUpdateEntry job s) := by
  unfold execUpdateEntry
  split <;> simp [h]

@[simp] theorem execUpdateChunk_bounded (job : Nat) (s : State) (h : s.prot.sessions.length ≤ 4) : Result.Bounded (execUpdateChunk job s) := by
  unfold execUpdateChunk
  repeat' split
  all_goals simp [h]

@[simp] theorem execLazyAdamRow_bounded (job : Nat) (s : State) (h : s.prot.sessions.length ≤ 4) : Result.Bounded (execLazyAdamRow job s) := by
  unfold execLazyAdamRow
  repeat' split
  all_goals simp [h]

@[simp] theorem execChunkSumFold_bounded (job : Nat) (s : State) (h : s.prot.sessions.length ≤ 4) : Result.Bounded (execChunkSumFold job s) := by
  unfold execChunkSumFold
  repeat' split
  all_goals simp [h]

@[simp] theorem execOrthoProductTile_bounded (job : Nat) (s : State) (h : s.prot.sessions.length ≤ 4) : Result.Bounded (execOrthoProductTile job s) := by
  unfold execOrthoProductTile
  split <;> simp [h]

@[simp] theorem execPublishRow_bounded (rec : Nat) (s : State) (h : s.prot.sessions.length ≤ 4) : Result.Bounded (execPublishRow rec s) := by
  unfold execPublishRow
  split
  · simp [h]
  · refine s.jobTurn_bounded _ _ _ h ?_
    split <;> simp [h]

@[simp] theorem execRatioRecordWrite_bounded (rec : Nat) (s : State) (h : s.prot.sessions.length ≤ 4) : Result.Bounded (execRatioRecordWrite rec s) := by
  unfold execRatioRecordWrite
  split <;> simp [h]

@[simp] theorem execScaleSweepBlock_bounded (rec : Nat) (s : State) (h : s.prot.sessions.length ≤ 4) : Result.Bounded (execScaleSweepBlock rec s) := by
  unfold execScaleSweepBlock
  split <;> simp [h]

/-- A command that leaves a state's sessions as they are but for a part of the translation unit. -/
theorem when_trans_bounded {s t : State} (c : Bool) (x : TransState) (h : s.prot.sessions.length ≤ 4) (ht : t.prot.sessions = s.prot.sessions) :
    Result.Bounded (when c s { t with trans := x }) := by simp [h, ht]

@[simp] theorem execPreemptStopDone_bounded (s : State) (h : s.prot.sessions.length ≤ 4) : Result.Bounded (execPreemptStopDone s) :=
  when_trans_bounded _ _ h ((State.writeSaveArea_still ..).2.2.trans s.reachSafe_still.2.2)

@[simp] theorem execPreemptSaveDone_bounded (s : State) (h : s.prot.sessions.length ≤ 4) : Result.Bounded (execPreemptSaveDone s) :=
  when_trans_bounded _ _ h ((State.writeSaveArea_still ..).2.2.trans (State.ite_sessions_same rfl s.reachSafe_still.2.2))

@[simp] theorem execPreemptRestoreDone_bounded (s : State) (h : s.prot.sessions.length ≤ 4) : Result.Bounded (execPreemptRestoreDone s) := by
  simp [execPreemptRestoreDone, h]

@[simp] theorem execQuietRequestAbandon_bounded (s : State) (h : s.prot.sessions.length ≤ 4) : Result.Bounded (execQuietRequestAbandon s) := by
  unfold execQuietRequestAbandon
  split <;> simp [h]

@[simp] theorem execFenceNotice_bounded (link : Fin 36) (incarnation : BitVec 16) (s : State) (h : s.prot.sessions.length ≤ 4) : Result.Bounded (execFenceNotice link incarnation s) := by simp [execFenceNotice, h]

@[simp] theorem execGateInc_bounded (s : State) (h : s.prot.sessions.length ≤ 4) : Result.Bounded (execGateInc s) := by
  unfold execGateInc
  split
  · exact (next_all ..).mpr h
  · have ht := (takeFrame_atRest ‹_›).2.2.2
    simp [ht, h]

@[simp] theorem execGateAck_bounded (s : State) (h : s.prot.sessions.length ≤ 4) : Result.Bounded (execGateAck s) := by
  unfold execGateAck
  split
  · exact (next_all ..).mpr h
  · have ht := (takeFrame_atRest ‹_›).2.2.2
    simp [ht, h]

@[simp] theorem execWindowDone_bounded (s : State) (h : s.prot.sessions.length ≤ 4) : Result.Bounded (execWindowDone s) := by
  unfold execWindowDone
  split
  · exact (next_all ..).mpr h
  · have ht := (takeFrame_atRest ‹_›).2.2.2
    simp [ht, h]

@[simp] theorem execWindowData_bounded (s : State) (h : s.prot.sessions.length ≤ 4) : Result.Bounded (execWindowData s) := by
  unfold execWindowData
  split
  · exact (next_all ..).mpr h
  · have ht := (State.takeWindowFrame_still _ _ _ _ ‹_›).2.2
    simp [ht, h]

@[simp] theorem execReduceAck_bounded (s : State) (h : s.prot.sessions.length ≤ 4) : Result.Bounded (execReduceAck s) := by
  unfold execReduceAck
  split
  · exact (next_all ..).mpr h
  · have ht := (takeFrame_atRest ‹_›).2.2.2
    simp [ht, h]

@[simp] theorem execReduceSegmentCombine_bounded (root segment : Nat) (s : State) (h : s.prot.sessions.length ≤ 4) : Result.Bounded (execReduceSegmentCombine root segment s) := by
  unfold execReduceSegmentCombine
  repeat' split
  all_goals simp [h]

@[simp] theorem execTokenCounts_bounded (s : State) (h : s.prot.sessions.length ≤ 4) : Result.Bounded (execTokenCounts s) := by
  unfold execTokenCounts
  split
  · exact (next_all ..).mpr h
  · have ht := (takeFrame_atRest ‹_›).2.2.2
    simp [ht, h]

@[simp] theorem execTokenRow_bounded (s : State) (h : s.prot.sessions.length ≤ 4) : Result.Bounded (execTokenRow s) := by
  unfold execTokenRow
  split
  · exact (next_all ..).mpr h
  · have ht := (takeFrame_atRest ‹_›).2.2.2
    refine (next_all ..).mpr (bounded_of_sessions h ((State.freeFrame_still ..).2.2.trans ?_))
    split
    · exact ht
    · split
      · exact (State.takeRow_sessions ..).trans ht
      · exact ht

@[simp] theorem execTokenAck_bounded (s : State) (h : s.prot.sessions.length ≤ 4) : Result.Bounded (execTokenAck s) := by
  unfold execTokenAck
  split
  · exact (next_all ..).mpr h
  · have ht := (takeFrame_atRest ‹_›).2.2.2
    simp [ht, h]

@[simp] theorem execMemWrite_bounded (s : State) (h : s.prot.sessions.length ≤ 4) : Result.Bounded (execMemWrite s) :=
  s.takeRequest_bounded _ _ (fun f s => s.serveWrite_still f) h

@[simp] theorem execMemWriteAdd_bounded (s : State) (h : s.prot.sessions.length ≤ 4) : Result.Bounded (execMemWriteAdd s) :=
  s.takeRequest_bounded _ _ (fun f s => s.serveAdd_still f) h

@[simp] theorem execReadData_bounded (s : State) (h : s.prot.sessions.length ≤ 4) : Result.Bounded (execReadData s) := by
  unfold execReadData
  split
  · exact (next_all ..).mpr h
  · have ht := (takeFrame_atRest ‹_›).2.2.2
    simp [ht, h]

@[simp] theorem execWriteAck_bounded (s : State) (h : s.prot.sessions.length ≤ 4) : Result.Bounded (execWriteAck s) := by
  unfold execWriteAck
  split
  · exact (next_all ..).mpr h
  · have ht := (takeFrame_atRest ‹_›).2.2.2
    simp [ht, h]

@[simp] theorem execAlmanacStart_bounded (s : State) (h : s.prot.sessions.length ≤ 4) : Result.Bounded (execAlmanacStart s) := by simp [execAlmanacStart, h]

@[simp] theorem execConjunctionEffect_bounded (s : State) (h : s.prot.sessions.length ≤ 4) : Result.Bounded (execConjunctionEffect s) := by
  unfold execConjunctionEffect
  split <;> simp [h]

@[simp] theorem execTelemetryWrite_bounded (s : State) (h : s.prot.sessions.length ≤ 4) : Result.Bounded (execTelemetryWrite s) := by
  unfold execTelemetryWrite
  split <;> simp [h]

@[simp] theorem execImagePhaseDone_bounded (a b : ImageCheck) (s : State) (h : s.prot.sessions.length ≤ 4) : Result.Bounded (execImagePhaseDone a b s) := by
  simp [execImagePhaseDone, h]

@[simp] theorem execPairingPhaseDone_bounded (s : State) (h : s.prot.sessions.length ≤ 4) : Result.Bounded (execPairingPhaseDone s) := by
  unfold execPairingPhaseDone
  split <;> simp [h]

@[simp] theorem execSramPhaseDone_bounded (s : State) (h : s.prot.sessions.length ≤ 4) : Result.Bounded (execSramPhaseDone s) := by simp [execSramPhaseDone, h]

@[simp] theorem execCoresPhaseDone_bounded (failed : List (Fin 4 × Nat)) (s : State) (h : s.prot.sessions.length ≤ 4) : Result.Bounded (execCoresPhaseDone failed s) := by
  simp [execCoresPhaseDone, h]

@[simp] theorem execMemoryPhaseDone_bounded (s : State) (h : s.prot.sessions.length ≤ 4) : Result.Bounded (execMemoryPhaseDone s) := by simp [execMemoryPhaseDone, h]

@[simp] theorem execStartFailed_bounded (s : State) (h : s.prot.sessions.length ≤ 4) : Result.Bounded (execStartFailed s) := by simp [execStartFailed, h]

@[simp] theorem execSupplyReset_bounded (mv : Nat) (s : State) (h : s.prot.sessions.length ≤ 4) : Result.Bounded (execSupplyReset mv s) := by simp [execSupplyReset, h]

@[simp] theorem execOverVoltageReset_bounded (mv : Nat) (s : State) (h : s.prot.sessions.length ≤ 4) : Result.Bounded (execOverVoltageReset mv s) := by
  simp [execOverVoltageReset, h]

@[simp] theorem execOverCurrentReset_bounded (ma : Nat) (s : State) (h : s.prot.sessions.length ≤ 4) : Result.Bounded (execOverCurrentReset ma s) := by
  simp [execOverCurrentReset, h]

@[simp] theorem execPowerLoss_bounded (mv : Nat) (s : State) (h : s.prot.sessions.length ≤ 4) : Result.Bounded (execPowerLoss mv s) := by simp [execPowerLoss, h]

@[simp] theorem execRailFault_bounded (die : Fin 4) (rail mv : Nat) (s : State) (h : s.prot.sessions.length ≤ 4) : Result.Bounded (execRailFault die rail mv s) := by
  simp [execRailFault, h]

@[simp] theorem execRailFaultReset_bounded (s : State) (h : s.prot.sessions.length ≤ 4) : Result.Bounded (execRailFaultReset s) := by simp [execRailFaultReset, h]

@[simp] theorem execThermalTrip_bounded (die : Fin 4) (s : State) (h : s.prot.sessions.length ≤ 4) : Result.Bounded (execThermalTrip die s) := by simp [execThermalTrip, h]

@[simp] theorem execThermalCooldownReset_bounded (s : State) (h : s.prot.sessions.length ≤ 4) : Result.Bounded (execThermalCooldownReset s) := by
  simp [execThermalCooldownReset, h]

@[simp] theorem execThermalCutoff_bounded (die : Fin 4) (s : State) (h : s.prot.sessions.length ≤ 4) : Result.Bounded (execThermalCutoff die s) := by
  simp [execThermalCutoff, h]

@[simp] theorem execResetDelayExpiry_bounded (s : State) (h : s.prot.sessions.length ≤ 4) : Result.Bounded (execResetDelayExpiry s) := by
  unfold execResetDelayExpiry
  split <;> simp [h]

@[simp] theorem execResetForceWritebackTimeout_bounded (s : State) (h : s.prot.sessions.length ≤ 4) : Result.Bounded (execResetForceWritebackTimeout s) := by
  simp [execResetForceWritebackTimeout, h]

@[simp] theorem execBar2Write_bounded (port : Fin 2) (offset : BitVec 64) (bytes : List Byte) (s : State) (h : s.prot.sessions.length ≤ 4) : Result.Bounded (execBar2Write port offset bytes s) := by simp [execBar2Write, h]

@[simp] theorem execRegisterWrite_bounded (via : Via) (index : BitVec 16) (sub : BitVec 8) (value : RegValue) (s : State) (h : s.prot.sessions.length ≤ 4) :
    Result.Bounded (execRegisterWrite via index sub value s) := by
  unfold execRegisterWrite
  split
  · exact s.regWrite_bounded _ _ _ _ h
  · exact s.bar0Write_bounded _ _ _ h
  · exact refused_all _ _

@[simp] theorem execParkRelease_bounded (via : Via) (value : BitVec 64) (s : State) (h : s.prot.sessions.length ≤ 4) : Result.Bounded (execParkRelease via value s) := by
  simp [execParkRelease, h]

@[simp] theorem execParkAbandon_bounded (via : Via) (value : BitVec 64) (s : State) (h : s.prot.sessions.length ≤ 4) : Result.Bounded (execParkAbandon via value s) := by
  simp [execParkAbandon, h]

@[simp] theorem execMboxRequest_bounded (port : Fin 2) (commit : MboxCommit) (s : State) (h : s.prot.sessions.length ≤ 4) : Result.Bounded (execMboxRequest port commit s) := by
  unfold execMboxRequest
  repeat' split
  all_goals simp [h]

@[simp] theorem execI3cProvisioningWrite_bounded (request : List Byte) (s : State) (h : s.prot.sessions.length ≤ 4) : Result.Bounded (execI3cProvisioningWrite request s) := by
  unfold execI3cProvisioningWrite
  dsimp only
  repeat' split
  all_goals simp [h]

@[simp] theorem execSlotBoundary_bounded (junction : List (List Int)) (upset : BitVec 4) (held : PerDie (BitVec 64)) (s : State) (h : s.prot.sessions.length ≤ 4) : Result.Bounded (execSlotBoundary junction upset held s) := by simp [execSlotBoundary, h]

@[simp] theorem execVscatter_bounded (core : Fin 384) (thread : Fin 32) (s : State) (h : s.prot.sessions.length ≤ 4) : Result.Bounded (execVscatter core thread s) := by
  simp [execVscatter, h]

@[simp] theorem execVscatadd_bounded (core : Fin 384) (thread : Fin 32) (s : State) (h : s.prot.sessions.length ≤ 4) : Result.Bounded (execVscatadd core thread s) := by
  simp [execVscatadd, h]

@[simp] theorem execPageWalk_bounded (agent : Agent) (write : Bool) (ecc : EccEvent) (s : State) (h : s.prot.sessions.length ≤ 4) : Result.Bounded (execPageWalk agent write ecc s) := by
  unfold execPageWalk
  split <;> simp [h]

/-! ### Writes of the dictionary that leave the state at rest -/

/-- A write of value v into this entry changes no memory, no thread and no gate counter. -/
def quietWrite (idx v : Nat) : Bool :=
  decide (idx ∈ [0x1121, 0x1203, 0x1204, 0x1303, 0x2116, 0x2203, 0x2610, 0x2700, 0x2701, 0x2740, 0x2900, 0x2912, 0x5000]) ||
    (idx == 0x2112 && decide (v ∈ [3, 4, 5]))

theorem State.stagingControl_rests (s : State) {v : Nat} (h : v ∈ [3, 4, 5]) : AtRest s (s.almanacControl v) := by
  fin_cases h <;> simp [AtRest, State.almanacControl]

theorem State.shortApply_rests (s : State) (e : Entry) (sub v : Nat) (h : quietWrite e.index v = true) : AtRest s (s.shortApply e sub v) := by
  unfold State.shortApply
  dsimp only
  split
  case h_2 | h_7 | h_13 | h_14 | h_23 => simp_all [quietWrite]
  case h_9 => exact s.stagingControl_rests (by simp_all [quietWrite])
  all_goals simp [AtRest]

theorem State.regWrite_quiet_rests (s : State) (via : Via) (idx sub v : Nat) (h : quietWrite idx v = true) : Result.All (AtRest s) (s.regWrite via idx sub v) := by
  refine s.regWrite_applies_rests _ _ _ _ ⟨?_, ?_⟩ (fun e he => s.shortApply_rests e sub v (he ▸ h))
  all_goals rintro rfl; exact absurd h (by simp [quietWrite])

/-! ### The segment windows of BAR0 (R399, R400) -/

@[simp] theorem State.segChoose_rests (s : State) (p v : Nat) : AtRest s (s.segChoose p v).1 := by
  unfold State.segChoose
  repeat' split
  all_goals simp [AtRest]

theorem State.segSnapshotOrDiscard_rests (s : State) (p : Nat) {v : Nat} (h : v = 1 ∨ v = 3) : AtRest s (s.segCommand p v).1 := by
  obtain rfl | rfl := h <;> simp [AtRest, State.segCommand]

/-- A selection, a snapshot and a discard change the port's records alone. -/
theorem State.segPort_rests (s : State) (p : Fin 2) (sub v : Nat) (h : sub = 1 ∨ sub = 2 ∧ (v = 1 ∨ v = 3)) :
    Result.All (AtRest s) (s.regWrite (.bar0 p) (0x1105 + p) sub v) := by
  have hp : 0x1105 + p.val = 0x1105 ∨ 0x1105 + p.val = 0x1106 := by omega
  refine s.regWrite_rests _ _ _ _ (fun e he hv => ?_)
  unfold State.writeShort
  dsimp only
  rw [leNat_natLe_of_lt hv, he]
  split
  · exact .rfl
  · split
    · exact .rfl
    · split
      · obtain rfl | ⟨rfl, hv⟩ := h
        · rw [if_pos ⟨hp, rfl⟩]
          exact s.segChoose_rests _ _
        · rw [if_neg (by simp), if_pos ⟨hp, rfl⟩]
          exact s.segSnapshotOrDiscard_rests _ hv
      · exact .rfl

/-! ### Every command -/

/-- The commands of leavesMemory change no byte of memory, no thread and no gate counter, and open no session. -/
theorem exec_rests (c : Instr) (s : State) (h : leavesMemory c = true) : Result.All (AtRest s) (exec c s) := by
  cases c
  case stageA | stageB | unstage | resumeSdtWrite | invalRange | invalAsid | invalAll | fabricCommit | domainGeometryWrite | incarnationWrite |
      mirrorPeriodWrite | verifyTarget | trialTarget | cancelTrial | svnFloorWrite | fwKey0Revoke | coreRetireRequest | overrunClear |
      resetRequest | resetForce | testAccessWrite =>
    simp only [exec_stageA, exec_stageB, exec_unstage, exec_resumeSdtWrite, exec_invalRange, exec_invalAsid, exec_invalAll, exec_fabricCommit, exec_domainGeometryWrite, exec_incarnationWrite, exec_mirrorPeriodWrite, exec_verifyTarget, exec_trialTarget, exec_cancelTrial, exec_svnFloorWrite, exec_fwKey0Revoke, exec_coreRetireRequest, exec_overrunClear, exec_resetRequest, exec_resetForce, exec_testAccessWrite]
    refine s.regWrite_quiet_rests _ _ _ _ ?_
    rfl
  case segSelect => simp only [exec_segSelect]; exact s.segPort_rests _ _ _ (.inl rfl)
  case segSnapshot => simp only [exec_segSnapshot]; exact s.segPort_rests _ _ _ (.inr ⟨rfl, .inl rfl⟩)
  case segDiscard => simp only [exec_segDiscard]; exact s.segPort_rests _ _ _ (.inr ⟨rfl, .inr rfl⟩)
  all_goals cases h
  all_goals simp

/-- A thread's instruction that stores nothing leaves the open sessions as they are. -/
theorem threadOnly_bounded {g : Fin 384} {t : Fin 32} {c : Instr} (hc : threadOnly g t c) (s : State) (h : s.prot.sessions.length ≤ 4) :
    Result.Bounded (exec c s) := fun u hu => by
  obtain ⟨-, -, -, -, -, -, -, -, -, -, -, hprot, -⟩ := threadFrame s g t c hc u hu
  rw [hprot]; exact h

theorem exec_bounded (c : Instr) (s : State) (h : s.prot.sessions.length ≤ 4) : Result.Bounded (exec c s) := by
  cases hl : leavesMemory c
  case true => exact fun u hu => (exec_rests c s hl u hu).2.2.2.trans h
  cases c
  case scalar op form => exact threadOnly_bounded (.inl ⟨op, form, rfl⟩) s h
  case branch cond => exact threadOnly_bounded (.inr (.inl ⟨cond, rfl⟩)) s h
  case scratchLoad signed cycle => exact threadOnly_bounded (.inr (.inr (.inl ⟨signed, cycle, rfl⟩))) s h
  case cinc | cwait | cread | barrier | ginc | gread | sdtr | slotr | waitsdt | endThread | fence | mwload | mstream | mdrain | vadd | vsub | vmul | vfma | vmax | vmin | vabs | vneg | vcmp | vsel | vrsum | vrmax | vrmin | vbcast | vgather | vand | vor | vxor | vshl | vshr | vcvt | vquant | vdequant | vsplit | vscale | vexp | vexp2 | vln | vlog2 | vrcp | vrsqrt | vtanh | vsigmoid | vsinpi | vcospi =>
    rename_i g t
    exact threadOnly_bounded (g := g) (t := t) (.inr (.inr (.inr (by simp)))) s h
  case armA | armB | disarm | stop | save | resume | hostGateInc | dimExit | coreTest | segCommit => simp [h, execArmA, execArmB, execDisarm, execStop, execSave, execResume, execHostGateInc, execDimExit, execCoreTest, execSegCommit]
  case fwChunk | attestNonce | operatorKeyWrite | shardGuardWrite => simp [h, execFwChunk, execAttestNonce, execOperatorKeyWrite, execShardGuardWrite]
  case dpRead | dpWrite | sessionOpen | sessionClose | discover => simp [h, execDpRead, execDpWrite, execSessionOpen, execSessionClose, execDiscover]
  case stream | gather | scatter | streamAdd | scatterAdd => simp [h, execStream, execGather, execScatter, execStreamAdd, execScatterAdd]
  all_goals cases hl
  all_goals simp [h]

/-! ### The step -/

/-- A step is the meaning of the front command or an idle tick. -/
theorem step_bounded (s : State) (h : s.prot.sessions.length ≤ 4) : Result.Bounded (step s) := by
  cases hp : s.pending with
  | nil => rw [step_idle s hp]; exact (next_all ..).mpr (bounded_of_sessions h (idleTick_still s).2.2)
  | cons c rest => rw [step_front s c rest hp]; exact exec_bounded c _ h

/-- Settles O55: SESSION_OPEN alone adds a session, and it refuses a fifth. -/
theorem stepKeepsSessionsBounded : Obligations.StepKeepsSessionsBounded := fun s u h hu => step_bounded s h u hu

end Sys2Proof.Machine
end

section
/-! SUPPORT. What reads at the slices leave alone when no fill is outstanding (R254 to R256): the walks, engines, movers and fabric actions that read in one step, and their commands. -/

namespace Sys2Proof.Machine

/-! ### Reads at the slices with no fill outstanding (R255, R256) -/

/-- Memory and the fills outstanding. -/
def State.bank (s : State) : Memory × List Fill := (s.mem, s.cache.fills)

/-- From a state with no fill outstanding, memory is as it was and no fill is begun. -/
structure Calm (s u : State) : Prop where
  keeps : s.cache.fills = [] → u.mem = s.mem ∧ u.cache.fills = []

theorem Calm.refl (s : State) : Calm s s := ⟨fun hf => ⟨rfl, hf⟩⟩
theorem Calm.trans {s t u : State} (h : Calm s t) (k : Calm t u) : Calm s u := ⟨fun hf =>
  have ⟨hm, ht⟩ := h.keeps hf
  have ⟨km, ku⟩ := k.keeps ht
  ⟨km.trans hm, ku⟩⟩
theorem calm_of_bank {s u : State} (h : u.bank = s.bank) : Calm s u := ⟨fun hf => ⟨congrArg (·.1) h, (congrArg (·.2) h).trans hf⟩⟩
theorem calm_ite {s t u : State} {c : Prop} [Decidable c] (ht : Calm s t) (hu : Calm s u) : Calm s (if c then t else u) := by
  split <;> assumption
theorem calm_foldl {α : Type} (f : State → α → State) (hf : ∀ s a, Calm s (f s a)) (l : List α) (s : State) : Calm s (l.foldl f s) := by
  induction l generalizing s with
  | nil => exact .refl s
  | cons a l ih => exact (hf s a).trans (ih _)
/-- The state that an operation leaves beside its answer. -/
theorem Calm.fst {α : Type} {s t : State} {x : State × α} {r : α} (hx : Calm s x.1) (he : x = (t, r)) : Calm s t := by
  rw [he] at hx; exact hx

theorem SendFrame.bank : SendFrame State.bank :=
  ⟨⟨fun _ _ _ => rfl, fun _ _ => rfl⟩, fun _ _ => rfl, fun _ _ => rfl, fun _ _ => rfl, fun _ _ _ _ _ _ _ _ => rfl, fun _ _ _ => rfl, fun _ _ => rfl⟩

theorem State.dadd_bank (s : State) (i j n : Nat) : (s.dadd i j n).bank = s.bank := SendFrame.bank.dadd s i j n

theorem State.noteOne_bank (s : State) (die : Nat) : (s.noteOne die).bank = s.bank := State.ite_keeps (part := State.bank) rfl rfl
theorem State.notePeak_bank (s : State) (die : Nat) : (s.notePeak die).bank = s.bank := State.ite_keeps (part := State.bank) rfl rfl

theorem State.outcome_bank (s : State) (die useful late unused : Nat) : (s.outcome die useful late unused).bank = s.bank := by
  unfold State.outcome
  simp only [State.dadd_bank]
  rfl

theorem State.loftEvict_bank (s : State) (l : LoftLine) : (s.loftEvict l).bank = s.bank := by
  unfold State.loftEvict
  dsimp only
  split
  · exact State.ite_keeps (part := State.bank) (s.outcome_bank ..) (s.outcome_bank ..)
  · exact State.ite_keeps (part := State.bank) rfl rfl

theorem State.loftInstall_bank (s : State) (l : LoftLine) : (s.loftInstall l).bank = s.bank := by
  unfold State.loftInstall
  dsimp only
  split
  · exact s.loftEvict_bank _
  · rfl

theorem State.loftRefresh_bank (s : State) (l : LoftLine) : (s.loftRefresh l).bank = s.bank := rfl

theorem State.loftTouch_bank (s : State) (l : LoftLine) : (s.loftTouch l).bank = s.bank := by
  unfold State.loftTouch
  rw [State.loftRefresh_bank]
  split
  · exact s.outcome_bank ..
  · rfl

theorem State.checkSector_bank (s : State) (line : Nat) : (s.checkSector line).bank = s.bank := by
  unfold State.checkSector
  split <;> rfl

theorem State.loftRead_calm (s : State) (a n : Nat) (alloc : Bool) : Calm s (s.loftRead a n alloc) := by
  refine ⟨fun hf => ?_⟩
  have hs (line : Nat) : s.settleRead line = s := by simp [State.settleRead, State.fill, hf]
  refine (calm_of_bank ?_).keeps hf
  unfold State.loftRead
  dsimp only
  simp only [hs]
  repeat' split
  all_goals simp only [State.loftRefresh_bank, State.loftInstall_bank, State.loftTouch_bank, State.checkSector_bank, State.dadd_bank]

theorem State.loftReads_calm (s : State) (a n : Nat) (alloc : Bool) : Calm s (s.loftReads a n alloc) := calm_foldl _ (fun _ _ => State.loftRead_calm ..) _ _

/-! ### Walks, translations and engine reads -/

theorem walkLevels_calm (die asid va : Nat) (lvs : List Level) (table : Nat) (s : State) : Calm s (walkLevels die asid va lvs table s).1 := by
  induction lvs generalizing table s with
  | nil => exact .refl s
  | cons lv rest ih =>
    have hr := s.loftRead_calm (table + 8 * field va lv.lsb lv.width) 8 true
    unfold walkLevels
    dsimp only
    split
    · exact hr
    · split
      · exact hr
      · split
        · exact hr
        · split
          · exact hr
          · refine hr.trans (.trans ?_ (ih _ _))
            exact calm_of_bank rfl

theorem State.walk_calm (s : State) (die asid va : Nat) : Calm s (s.walk die asid va).1 := by
  have hn : Calm s ((s.dadd 0x3602 (die + 1) 1).noteOne die) := calm_of_bank ((State.noteOne_bank _ _).trans (State.dadd_bank ..))
  unfold State.walk
  dsimp only
  split
  · exact hn.trans (walkLevels_calm ..)
  · split
    · exact hn
    · have hr := hn.trans (State.loftRead_calm _ ((State.noteOne (s.dadd 0x3602 (die + 1) 1) die).dget 0x2600 0 + 8 * asid) 8 true)
      split
      · exact hr
      · split
        · exact hr
        · split
          · exact hr
          · exact hr.trans (walkLevels_calm ..)

theorem State.fillTlb_bank (s : State) (c : XCtx) (e : TlbEntry) : (s.fillTlb c e).bank = s.bank := by
  unfold State.fillTlb
  split <;> rfl

theorem State.walkFor_calm (s : State) (c : XCtx) : Calm s (s.walkFor c).1 := by
  have hw := s.walk_calm c.die c.asid c.va
  unfold State.walkFor
  split
  · exact .refl s
  · split <;> rename_i he <;> have hw := hw.fst he
    · exact hw
    · exact hw
    · exact hw
    · split
      · exact hw.trans (calm_of_bank (State.fillTlb_bank ..))
      · exact hw

theorem State.translate_calm (s : State) (c : XCtx) : Calm s (s.translate c).1 := by
  unfold State.translate
  split
  · exact s.walkFor_calm c
  · exact .refl s

theorem State.translateRange_calm (c : XCtx) (ps : List (Nat × Nat)) (s : State) : Calm s (State.translateRange c ps s).1 := by
  induction ps generalizing s with
  | nil => exact .refl s
  | cons p rest ih =>
    have ht := s.translate_calm { c with va := p.1 }
    unfold State.translateRange
    split <;> rename_i he <;> have ht := ht.fst he
    · split <;> rename_i hr <;> exact ht.trans ((ih _).fst hr)
    · exact ht

theorem State.translateSpans_calm (ctx : Nat → Bool → XCtx) (sps : List Span) (s : State) : Calm s (State.translateSpans ctx sps s).1 := by
  induction sps generalizing s with
  | nil => exact .refl s
  | cons sp rest ih =>
    have h1 := State.translateRange_calm (ctx sp.va false) (if sp.write && sp.read then vaPieces sp.va sp.len else []) s
    unfold State.translateSpans
    split <;> rename_i he <;> have h1 := h1.fst he
    · exact h1
    · have h2 := h1.trans (State.translateRange_calm (ctx sp.va sp.write) (vaPieces sp.va sp.len) _)
      split <;> rename_i he' <;> have h2 := h2.fst he'
      · exact h2
      · split <;> rename_i he'' <;> exact h2.trans ((ih _).fst he'')

theorem State.eavesDrop_bank (s : State) (die : Nat) (t : Target) : (s.eavesDrop die t).bank = s.bank := by
  unfold State.eavesDrop
  split <;> rfl

theorem State.issue_fills (s : State) (r : Req) (mayEaves : Bool) : (s.issue r mayEaves).1.cache.fills = s.cache.fills := by
  have hdrop (t : State) (die : Nat) (x : Target) : (t.eavesDrop die x).cache.fills = t.cache.fills := congrArg (·.2) (t.eavesDrop_bank die x)
  have hpeak (t : State) (die : Nat) : (t.notePeak die).cache.fills = t.cache.fills := congrArg (·.2) (t.notePeak_bank die)
  have hsend (t : State) (ftype dest gen die : Nat) (parity : Bool) (tf : Nat) (body : Bytes) (key : Nat) :
      (t.send ftype dest gen die parity tf body key).cache.fills = t.cache.fills := congrArg (·.2) (SendFrame.bank.send ..)
  have hite (c : Prop) [Decidable c] (t u : State) : (if c then t else u).cache.fills = if c then t.cache.fills else u.cache.fills :=
    apply_ite (fun t : State => t.cache.fills) _ _ _
  have htouch (t : State) (l : EavesLine) : (t.eavesTouch l).cache.fills = t.cache.fills := rfl
  unfold State.issue
  dsimp only
  split
  · simp [hpeak, htouch, hdrop, hite]
  · repeat' split
    all_goals simp [hpeak, hsend, hdrop]

theorem State.issue_bank (s : State) (r : Req) (mayEaves : Bool) : (s.issue r mayEaves).1.bank = s.bank :=
  Prod.ext (State.issue_mem s r mayEaves) (s.issue_fills r mayEaves)

theorem State.fetchPieces_calm (s : State) (agent : Agent) (die step asid : Nat) (pos : Nat × Nat × Nat) (ps : List (Nat × Nat × Target × Nat)) :
    Calm s (s.fetchPieces agent die step asid pos ps).1 := by
  have hread (t : State) : Calm t (ps.foldl (fun s p => match p.2.2.1 with | .here a => (s.loftRead a p.2.1 (bit p.2.2.2 0)).noteOne die | _ => s) t) :=
    calm_foldl _ (fun t p => by
      split
      · exact (State.loftRead_calm ..).trans (calm_of_bank (State.noteOne_bank ..))
      · exact .refl t) _ _
  unfold State.fetchPieces
  dsimp only
  split
  · exact calm_foldl _ (fun t p => calm_ite (calm_of_bank (State.issue_bank ..)) (.refl t)) _ _
  · split
    · exact .refl s
    · split
      · exact hread s
      · exact hread s

theorem State.spanData_calm (s : State) (ctx : Nat → Bool → XCtx) (a : Agent) (die step asid : Nat) (pos : Nat × Nat × Nat) (spans : List Span) :
    Calm s (s.spanData ctx a die step asid pos spans).1 := by
  have ht := State.translateSpans_calm ctx spans s
  unfold State.spanData
  split <;> rename_i he <;> have ht := ht.fst he
  · exact ht
  · rename_i t pss
    have hf := ht.trans (t.fetchPieces_calm a die step asid pos (((spans.zip pss).map (fun p => if p.1.read then p.2 else [])).flatten))
    dsimp only
    split <;> rename_i he' <;> exact hf.fst he'

/-! ### Movers -/

theorem State.moverRead_calm (s : State) (d m va access n : Nat) : Calm s (s.moverRead d m va access n).1 := by
  unfold State.moverRead
  dsimp only
  split
  · rename_i t a _
    split
    · exact .refl s
    · have hf := s.fetchPieces_calm (.moverDesc d m) d (s.stepOf (s.mover d m).action) (s.mover d m).asid ((s.mover d m).cur, (s.mover d m).elem, (s.mover d m).off)
        [(va, n, t, a)]
      split <;> rename_i he <;> have hf := hf.fst he
      · exact hf.trans (calm_of_bank rfl)
      · exact hf.trans (calm_of_bank rfl)
      · exact hf
  · exact .refl s
  · exact .refl s

theorem State.readDesc_calm (s : State) (d m i : Nat) : Calm s (s.readDesc d m i).1 := by
  unfold State.readDesc
  dsimp only
  split
  · exact .refl s
  · exact s.moverRead_calm ..

theorem State.readIndex_calm (s : State) (d m desc : Nat) : Calm s (s.readIndex d m desc).1 := by
  unfold State.readIndex
  split
  · exact s.moverRead_calm ..
  · exact .refl s

/-! ### The fabric (R338, R502) -/

theorem State.dropFabric_bank (s : State) (id : Nat) : (s.dropFabric id).bank = s.bank := rfl

theorem State.memoryPoison_bank (s : State) (lpa : Nat) (src : Source) (die step loc sub : Nat) : (s.memoryPoison lpa src die step loc sub).bank = s.bank := by
  unfold State.memoryPoison
  exact SendFrame.bank.fatal ..

theorem State.fabricXFault_bank (s : State) (a : Action) (tag va : Nat) (x : Xlate) : (s.fabricXFault a tag va x).bank = s.bank := by
  unfold State.fabricXFault
  split
  · rfl
  · rfl
  · exact (State.dropFabric_bank ..).trans (State.memoryPoison_bank ..)
  · rfl

theorem State.actionWork_calm (s : State) (a : Action) (tag : Nat) (spans : List Span) (k : State → List Bytes → List Pieces → State)
    (hk : ∀ s bss pss, Calm s (k s bss pss)) : Calm s (s.actionWork a tag spans k) := by
  have hd := s.spanData_calm a.ctx (.action a.id) a.transit.die a.step a.asid (0, 0, 0) spans
  unfold State.actionWork
  split <;> rename_i he <;> have hd := hd.fst he
  · exact hd.trans (calm_of_bank (State.fabricXFault_bank ..))
  · exact hd
  · exact hd.trans (calm_of_bank ((State.dropFabric_bank ..).trans (State.memoryPoison_bank ..)))
  · exact hd.trans (hk ..)

theorem pumpContrib_calm (a : Action) (index n : Nat) (s : State) : Calm s (pumpContrib a index n s) := by
  induction n generalizing s with
  | zero => exact .refl s
  | succ n ih =>
    unfold pumpContrib
    split
    · exact .refl s
    · split
      · exact .refl s
      · refine .trans (State.actionWork_calm _ _ _ _ _ fun t bs _ => ?_) (ih _)
        exact calm_of_bank (SendFrame.bank.send ..)

theorem State.pumpContribs_calm (s : State) (a : Action) : Calm s (s.pumpContribs a) :=
  calm_ite (.refl s) (calm_foldl _ (fun _ _ => pumpContrib_calm ..) _ _)

theorem State.takeGrant_calm (s : State) (f : Frame) : Calm s (s.takeGrant f) := by
  unfold State.takeGrant
  dsimp only
  split
  · exact calm_of_bank rfl
  · split
    · refine .trans ?_ (State.pumpContribs_calm ..)
      exact calm_of_bank rfl
    · exact calm_of_bank rfl

theorem State.windowOut_bank (s : State) (a : Action) (w : WinOut) (t : Target) (body : Bytes) : (s.windowOut a w t body ethFrame).bank = s.bank := by
  unfold State.windowOut
  dsimp only
  split
  · exact SendFrame.bank.send ..
  · split
    · exact SendFrame.bank.ethFrame ..
    · split
      · exact SendFrame.bank.sendOn ..
      · exact SendFrame.bank.noRoute ..

theorem State.sendWindow_calm (s : State) (a : Action) (w : WinOut) : Calm s (s.sendWindow a w ethFrame) :=
  State.actionWork_calm _ _ _ _ _ fun _ _ _ => calm_of_bank (State.windowOut_bank ..)

theorem State.serveRead_calm (s : State) (f : Frame) : Calm s (s.serveRead f) := by
  obtain ⟨hs, hc⟩ := s.countForeign_keeps f
  have hcount : (s.countForeign f).bank = s.bank := Prod.ext (congrArg (fun p => p.2.2) hs) (congrArg CacheState.fills hc)
  have hr := (calm_of_bank hcount).trans ((s.countForeign f).loftRead_calm (f.tf % 2 ^ 44) f.reqLen (f.alloc || f.eaves))
  have hexport (t : State) (line : Nat) : Calm t (if f.eaves then t.export_ line else t) := calm_ite (calm_of_bank rfl) (.refl t)
  have hx := hr.trans (hexport _ (((s.countForeign f).loftRead (f.tf % 2 ^ 44) f.reqLen (f.alloc || f.eaves)).line (f.tf % 2 ^ 44)))
  unfold State.serveRead
  dsimp only
  split
  · exact calm_of_bank rfl
  · split
    · refine .trans hx (calm_of_bank ?_)
      exact (SendFrame.bank.send ..).trans (SendFrame.bank.takeFree ..)
    · exact .trans hx (calm_of_bank (SendFrame.bank.send ..))

/-! ### The checks of a buffer (R53) -/

theorem State.checkPoison_calm (s : State) (a n code : Nat) (k : State → State × CheckResult) (hk : ∀ s, Calm s (k s).1) : Calm s (s.checkPoison a n code k).1 := by
  have hr := (s.loftReads_calm a n true).trans (calm_of_bank (State.noteOne_bank _ s.leader))
  unfold State.checkPoison
  dsimp only
  split
  · exact hr.trans (calm_of_bank rfl)
  · exact hr.trans (hk _)

theorem State.checkTable_calm (s : State) (h : AlmHeader) (size crc : Nat) : Calm s (s.checkTable h size crc).1 := by
  unfold State.checkTable
  split
  · exact .refl s
  · split
    · exact .refl s
    · refine State.checkPoison_calm _ _ _ _ _ (fun t => ?_)
      dsimp only
      repeat' split
      all_goals exact .refl t

theorem State.checkBuffer_calm (s : State) (buf : Buf) : Calm s (s.checkBuffer buf).1 := by
  unfold State.checkBuffer
  dsimp only
  split
  · exact .refl s
  · refine State.checkPoison_calm _ _ _ _ _ (fun t => ?_)
    split
    · exact .refl t
    · split
      · exact .refl t
      · exact State.checkTable_calm ..

/-! ### The commands that read at once (R254, R255) -/

theorem atRest_of_calm {s u : State} (hf : s.cache.fills = []) (hc : Calm s u) (hs : Still s u) : AtRest s u :=
  ⟨(hc.keeps hf).1, hs.1, hs.2.1, Nat.le_of_eq (congrArg List.length hs.2.2)⟩

theorem atRest_after {s t u : State} (ht : AtRest s t) (hm : u.mem = t.mem) (hs : Still t u) : AtRest s u := by
  obtain ⟨h1, h2, h3, h4⟩ := ht
  obtain ⟨k1, k2, k3⟩ := hs
  exact ⟨hm.trans h1, k1.trans h2, k2.trans h3, by rw [k3]; exact h4⟩

theorem takeFrame_calm {s : State} {ftype : Nat} {r : RxFrame} {f : Frame} {t : State} (he : s.takeFrame ftype = some (r, f, t)) : Calm s t := by
  obtain ⟨-, -, ht⟩ := State.takeFrame_keeps he
  exact calm_of_bank (by rw [ht]; rfl)

section
variable {s : State} (hf : s.cache.fills = [])
include hf

theorem armChecked_atRest (buf : Buf) : AtRest s (s.armChecked buf) := by
  refine ⟨?_, (s.armChecked_still buf).1, (s.armChecked_still buf).2.1, Nat.le_of_eq (congrArg List.length (s.armChecked_still buf).2.2)⟩
  have hc := ((s.checkBuffer_calm buf).keeps hf).1
  unfold State.armChecked
  dsimp only
  repeat' split
  all_goals simpa using hc

theorem stageChecked_atRest (buf : Buf) : AtRest s (s.stageChecked buf) := by
  refine atRest_of_calm hf ((s.checkBuffer_calm buf).trans ?_) (s.stageChecked_still buf)
  unfold State.stageChecked
  dsimp only
  split
  · exact calm_of_bank rfl
  · exact calm_of_bank rfl

theorem execAlmanacCheckDone_rests : Result.All (AtRest s) (execAlmanacCheckDone s) := by
  unfold execAlmanacCheckDone
  split
  · exact (when_all ..).mpr (ite_prop (armChecked_atRest hf _) .rfl)
  · exact (when_all ..).mpr (ite_prop (stageChecked_atRest hf _) .rfl)
  · exact (next_all ..).mpr .rfl

theorem readDesc_atRest (d m i : Nat) : AtRest s (s.readDesc d m i).1 := atRest_of_calm hf (s.readDesc_calm d m i) (s.readDesc_still d m i)

theorem takeOp_rests (d m op : Nat) : Result.All (AtRest s) (s.takeOp d m op) := by
  have hr := readDesc_atRest hf d m (s.mover d m).cur
  unfold State.takeOp
  dsimp only
  split
  · exact (next_all ..).mpr .rfl
  · split
    · exact (next_all ..).mpr ⟨by simp, by simp, by simp, by simp⟩
    · split <;> rename_i he <;> rw [he] at hr
      · split
        · exact (next_all ..).mpr (atRest_after hr (by simp) (State.takeDesc_still ..))
        · exact (next_all ..).mpr hr
      · exact (next_all ..).mpr (atRest_after hr (by simp) (State.moverReadEnd_still ..))

theorem execMoverDescriptorReadahead_rests (die : Fin 4) (mover : Fin 64) : Result.All (AtRest s) (execMoverDescriptorReadahead die mover s) := by
  unfold execMoverDescriptorReadahead
  dsimp only
  split
  · exact (next_all ..).mpr .rfl
  · have ht := s.translate_calm (moverCtx die (s.mover die mover) ((s.mover die mover).descVa ((s.mover die mover).cur + 1 + (s.mover die mover).ahead.length)) 3)
    have hs := s.translate_still (moverCtx die (s.mover die mover) ((s.mover die mover).descVa ((s.mover die mover).cur + 1 + (s.mover die mover).ahead.length)) 3)
    split <;> rename_i he <;> rw [he] at ht hs
    · rename_i t _ _
      have hr := ht.trans (t.readDesc_calm die mover ((s.mover die mover).cur + 1 + (s.mover die mover).ahead.length))
      have hk := Still.trans (t.readDesc_still die mover ((s.mover die mover).cur + 1 + (s.mover die mover).ahead.length)) hs
      split <;> rename_i he' <;> rw [he'] at hr hk
      · refine (next_all ..).mpr (atRest_ite (atRest_of_calm hf hr hk) ?_)
        exact atRest_after (atRest_of_calm hf hr hk) rfl .rfl
      · exact (next_all ..).mpr (atRest_of_calm hf hr hk)
    · exact (next_all ..).mpr (atRest_of_calm hf ht hs)

theorem execMoverPieceIssue_rests (die : Fin 4) (mover : Fin 64) : Result.All (AtRest s) (execMoverPieceIssue die mover s) := by
  unfold execMoverPieceIssue
  split
  · exact (next_all ..).mpr .rfl
  · rename_i desc _
    have hr := atRest_of_calm hf (s.readIndex_calm die mover desc.toNat) (s.readIndex_still die mover desc.toNat)
    split
    · exact (next_all ..).mpr .rfl
    · split <;> rename_i he <;> rw [he] at hr
      · exact (next_all ..).mpr (atRest_after hr (by simp) (State.issuePiece_still ..))
      · exact (next_all ..).mpr (atRest_after hr (by simp) (State.moverReadEnd_still ..))

theorem execMemRead_rests : Result.All (AtRest s) (execMemRead s) := by
  unfold execMemRead State.takeRequest
  split
  · exact (next_all ..).mpr .rfl
  · rename_i r f t he
    have hc := ((takeFrame_calm he).trans (t.serveRead_calm f)).trans (calm_of_bank (SendFrame.bank.freeFrame _ r))
    have hs := (((t.serveRead f).freeFrame_still r).trans (t.serveRead_still f)).trans (takeFrame_atRest he).2
    exact (when_all ..).mpr (ite_prop (atRest_of_calm hf hc hs) .rfl)

theorem execWindowFrameSend_rests (window : Nat) : Result.All (AtRest s) (execWindowFrameSend window s) := by
  unfold execWindowFrameSend
  split
  · exact (next_all ..).mpr .rfl
  · split
    · exact (next_all ..).mpr .rfl
    · split
      · exact (next_all ..).mpr .rfl
      · exact (when_all ..).mpr (ite_prop (atRest_of_calm hf (s.sendWindow_calm ..) (s.sendWindow_still _ _ _ ethFrame_still)) .rfl)

theorem execReduceGrant_rests : Result.All (AtRest s) (execReduceGrant s) := by
  unfold execReduceGrant
  split
  · exact (next_all ..).mpr .rfl
  · rename_i r f t he
    have hc := ((takeFrame_calm he).trans (t.takeGrant_calm f)).trans (calm_of_bank (SendFrame.bank.freeFrame _ r))
    have hs := (((t.takeGrant f).freeFrame_still r).trans (t.takeGrant_still f)).trans (takeFrame_atRest he).2
    exact (next_all ..).mpr (atRest_of_calm hf hc hs)

theorem bar2Read_atRest (p off n : Nat) : AtRest s (s.bar2Read p off n) := by
  refine atRest_of_calm hf ?_ (s.bar2Read_still p off n)
  have hr := (s.loftReads_calm (s.bar2Lpa p off) n true).trans (calm_of_bank (State.noteOne_bank _ (2 * p)))
  unfold State.bar2Read
  refine calm_ite (calm_of_bank rfl) (calm_ite (calm_of_bank ?_) (hr.trans (calm_of_bank rfl)))
  exact State.dadd_bank ..

theorem execBar2Read_rests (port : Fin 2) (offset : BitVec 64) (len : Nat) : Result.All (AtRest s) (execBar2Read port offset len s) := by
  unfold execBar2Read
  dsimp only
  split
  · exact refused_all _ _
  · exact (when_all ..).mpr (ite_prop (bar2Read_atRest hf ..) .rfl)

end

/-- The commands that read at once leave memory, threads and gate counters as they are when no fill is outstanding. -/
theorem exec_readsAtOnce_rests (c : Instr) (s : State) (hf : s.cache.fills = []) (h : readsAtOnce c = true) : Result.All (AtRest s) (exec c s) := by
  cases c
  case almanacCheckDone => exact execAlmanacCheckDone_rests hf
  case stream die mover => exact takeOp_rests hf die mover 1
  case gather die mover => exact takeOp_rests hf die mover 2
  case scatter die mover => exact takeOp_rests hf die mover 3
  case streamAdd die mover => exact takeOp_rests hf die mover 4
  case scatterAdd die mover => exact takeOp_rests hf die mover 5
  case moverDescriptorReadahead die mover => exact execMoverDescriptorReadahead_rests hf die mover
  case moverPieceIssue die mover => exact execMoverPieceIssue_rests hf die mover
  case memRead => exact execMemRead_rests hf
  case windowFrameSend window => exact execWindowFrameSend_rests hf window
  case reduceGrant => exact execReduceGrant_rests hf
  case bar2Read port offset len => exact execBar2Read_rests hf port offset len
  all_goals cases h

/-- Settles O59: by cases on the command, each of its operations keeps memory, threads and gate counters. -/
theorem frameNoMemory : Obligations.FrameNoMemory := by
  intro c s h u hu
  have hrest : AtRest s u := h.elim (fun hl => exec_rests c s hl u hu) (fun ⟨hr, hf⟩ => exec_readsAtOnce_rests c s hf hr u hu)
  obtain ⟨hmem, hthreads, hgates, -⟩ := hrest
  exact ⟨hmem, hthreads, hgates⟩

end Sys2Proof.Machine
end

section
/-! SUPPORT. When a command is refused (log 2): every operation answers a next state, and a command whose operands have a form is refused exactly without it. -/

namespace Sys2Proof.Machine

/-! ### Results that are next states -/

/-- The result is a next state. -/
def Result.Answers (r : Result) : Prop := ∃ t, r = .next t

@[simp] theorem next_answers (s : State) : Result.Answers (.next s) := ⟨s, rfl⟩
@[simp] theorem when_answers (c : Bool) (s t : State) : Result.Answers (when c s t) := ⟨_, rfl⟩
@[simp] theorem ite_answers (c : Prop) [Decidable c] (r q : Result) : Result.Answers (if c then r else q) ↔ if c then r.Answers else q.Answers := by
  split <;> rfl

/-! ### Operations that commands share -/

@[simp] theorem State.serveAt_answers (s : State) (req : Nat) (p : ReqKind → Bool) (k : Req → Nat → State) : (s.serveAt req p k).Answers := by
  unfold State.serveAt
  split <;> simp

@[simp] theorem State.issueInstr_answers (s : State) (g t : Nat) (mine bad : Nat → Bool) (regs : Nat → Regs) (effect : State → Thread → Nat → State) :
    (s.issueInstr g t mine bad regs effect).Answers := by
  simp [State.issueInstr]

@[simp] theorem State.vector_answers (s : State) (g t cls op : Nat) (regs : Nat → Regs) (effect : State → Thread → Nat → State) :
    (s.vector g t cls op regs effect).Answers := by
  simp [State.vector]

@[simp] theorem State.takeOp_answers (s : State) (d m op : Nat) : (s.takeOp d m op).Answers := by
  unfold State.takeOp
  dsimp only
  split
  · simp
  · split
    · simp
    · split <;> simp

@[simp] theorem State.jobTurn_answers (s : State) (j : UpdJob) (ok : Bool) (t : State) : (s.jobTurn j ok t).Answers := by
  unfold State.jobTurn
  split <;> simp

@[simp] theorem State.takeRequest_answers (s : State) (ftype : Nat) (serve : Frame → State → State) : (s.takeRequest ftype serve).Answers := by
  unfold State.takeRequest
  split <;> simp

@[simp] theorem State.deadline_answers (s : State) (n closed : Nat) : (s.deadline n closed).Answers := by
  unfold State.deadline
  split <;> simp

@[simp] theorem State.mgmtAnswer_answers (s : State) (p : Option NetPacket) : (s.mgmtAnswer p).Answers := when_answers ..

@[simp] theorem State.accessed_answers (s : State) (via : Via) (idx sub : Nat) (r : State × Nat) : (s.accessed via idx sub r).Answers := by simp [State.accessed]

@[simp] theorem State.access_answers (s : State) (via : Via) (idx sub : Nat) (bs : Bytes) : (s.access via idx sub bs).Answers := State.accessed_answers ..

@[simp] theorem State.regWrite_answers (s : State) (via : Via) (idx sub v : Nat) : (s.regWrite via idx sub v).Answers := by
  unfold State.regWrite
  split <;> simp

/-! ### Commands that look at a part of the state first -/

@[simp] theorem execLoftRead_answers (of_ : LoftSource) (ecc : EccEvent) (s : State) : (execLoftRead of_ ecc s).Answers := by
  unfold execLoftRead
  repeat' split
  all_goals simp

@[simp] theorem execLoftFillReturn_answers (line : Nat) (ecc : EccEvent) (s : State) : (execLoftFillReturn line ecc s).Answers := by
  unfold execLoftFillReturn
  repeat' split
  all_goals simp

@[simp] theorem execEavesFillReturn_answers (die : Fin 4) (line : Nat) (s : State) : (execEavesFillReturn die line s).Answers := by
  unfold execEavesFillReturn
  repeat' split
  all_goals simp

@[simp] theorem execImageFetchDone_answers (core : Fin 384) (fetch : ImageFetch) (s : State) : (execImageFetchDone core fetch s).Answers := by
  unfold execImageFetchDone
  repeat' split
  all_goals simp

@[simp] theorem execMoverDescriptorReadahead_answers (die : Fin 4) (mover : Fin 64) (s : State) : (execMoverDescriptorReadahead die mover s).Answers := by
  unfold execMoverDescriptorReadahead
  dsimp only
  split
  · simp
  · split
    · split <;> simp
    · simp

@[simp] theorem execMoverPieceIssue_answers (die : Fin 4) (mover : Fin 64) (s : State) : (execMoverPieceIssue die mover s).Answers := by
  unfold execMoverPieceIssue
  repeat' split
  all_goals simp

@[simp] theorem execDescriptorRetire_answers (die : Fin 4) (mover : Fin 64) (s : State) : (execDescriptorRetire die mover s).Answers := by
  unfold execDescriptorRetire
  repeat' split
  all_goals simp

@[simp] theorem execMemoryResponse_answers (req : Nat) (s : State) : (execMemoryResponse req s).Answers := by
  unfold execMemoryResponse
  repeat' split
  all_goals simp

@[simp] theorem execHostPieceCompletion_answers (req : Nat) (bytes : List Byte) (s : State) : (execHostPieceCompletion req bytes s).Answers := by
  unfold execHostPieceCompletion
  repeat' split
  all_goals simp

@[simp] theorem execHostAccess_answers (req : Nat) (status : Fin 256) (s : State) : (execHostAccess req status s).Answers := by
  unfold execHostAccess
  repeat' split
  all_goals simp

@[simp] theorem execParkRecordWrite_answers (s : State) : (execParkRecordWrite s).Answers := by
  unfold execParkRecordWrite
  repeat' split
  all_goals simp

@[simp] theorem execParkTimeout_answers (seq : Nat) (s : State) : (execParkTimeout seq s).Answers := by
  unfold execParkTimeout
  repeat' split
  all_goals simp

@[simp] theorem execMwloadStart_answers (core : Fin 384) (array : Fin 4) (s : State) : (execMwloadStart core array s).Answers := by
  unfold execMwloadStart
  repeat' split
  all_goals simp

@[simp] theorem execMwloadComplete_answers (core : Fin 384) (array : Fin 4) (s : State) : (execMwloadComplete core array s).Answers := by
  unfold execMwloadComplete
  repeat' split
  all_goals simp

@[simp] theorem execMstreamStart_answers (core : Fin 384) (array : Fin 4) (s : State) : (execMstreamStart core array s).Answers := by
  unfold execMstreamStart
  repeat' split
  all_goals simp

@[simp] theorem execMstreamRow_answers (core : Fin 384) (busErr : Bool) (upset : List (Fin 4 × Fin 130 × Fin 8 × Int)) (s : State) : (execMstreamRow core busErr upset s).Answers := by
  unfold execMstreamRow
  repeat' split
  all_goals simp

@[simp] theorem execMstreamComplete_answers (core : Fin 384) (s : State) : (execMstreamComplete core s).Answers := by
  unfold execMstreamComplete
  repeat' split
  all_goals simp

@[simp] theorem execMdrainStart_answers (core : Fin 384) (array : Fin 4) (s : State) : (execMdrainStart core array s).Answers := by
  unfold execMdrainStart
  repeat' split
  all_goals simp

@[simp] theorem execMdrainStep_answers (core : Fin 384) (array : Fin 4) (s : State) : (execMdrainStep core array s).Answers := by
  unfold execMdrainStep
  repeat' split
  all_goals simp

@[simp] theorem execMdrainComplete_answers (core : Fin 384) (array : Fin 4) (s : State) : (execMdrainComplete core array s).Answers := by
  unfold execMdrainComplete
  repeat' split
  all_goals simp

@[simp] theorem execUpdateEntry_answers (job : Nat) (s : State) : (execUpdateEntry job s).Answers := by
  unfold execUpdateEntry
  repeat' split
  all_goals simp

@[simp] theorem execUpdateChunk_answers (job : Nat) (s : State) : (execUpdateChunk job s).Answers := by
  unfold execUpdateChunk
  repeat' split
  all_goals simp

@[simp] theorem execLazyAdamRow_answers (job : Nat) (s : State) : (execLazyAdamRow job s).Answers := by
  unfold execLazyAdamRow
  repeat' split
  all_goals simp

@[simp] theorem execChunkSumFold_answers (job : Nat) (s : State) : (execChunkSumFold job s).Answers := by
  unfold execChunkSumFold
  repeat' split
  all_goals simp

@[simp] theorem execOrthoProductTile_answers (job : Nat) (s : State) : (execOrthoProductTile job s).Answers := by
  unfold execOrthoProductTile
  repeat' split
  all_goals simp

@[simp] theorem execPublishRow_answers (rec : Nat) (s : State) : (execPublishRow rec s).Answers := by
  unfold execPublishRow
  repeat' split
  all_goals simp

@[simp] theorem execRatioRecordWrite_answers (rec : Nat) (s : State) : (execRatioRecordWrite rec s).Answers := by
  unfold execRatioRecordWrite
  repeat' split
  all_goals simp

@[simp] theorem execScaleSweepBlock_answers (rec : Nat) (s : State) : (execScaleSweepBlock rec s).Answers := by
  unfold execScaleSweepBlock
  repeat' split
  all_goals simp

@[simp] theorem execQuietRequestAbandon_answers (s : State) : (execQuietRequestAbandon s).Answers := by
  unfold execQuietRequestAbandon
  repeat' split
  all_goals simp

@[simp] theorem execLinkRetryTimer_answers (link : Fin 36) (s : State) : (execLinkRetryTimer link s).Answers := by
  unfold execLinkRetryTimer
  dsimp only
  split
  · simp
  · split
    · simp
    · split
      · exact next_answers _
      · exact next_answers _
      · exact next_answers _

@[simp] theorem execLinkDown_answers (link : Fin 36) (s : State) : (execLinkDown link s).Answers := by
  unfold execLinkDown
  repeat' split
  all_goals simp

@[simp] theorem execSeamRidgeFlit_answers (hop : SeamHop) (load : SeamLoad) (wire : SeamWire) (s : State) : (execSeamRidgeFlit hop load wire s).Answers := by
  unfold execSeamRidgeFlit
  dsimp only
  split <;> simp

@[simp] theorem execGateInc_answers (s : State) : (execGateInc s).Answers := by
  unfold execGateInc
  repeat' split
  all_goals simp

@[simp] theorem execGateAck_answers (s : State) : (execGateAck s).Answers := by
  unfold execGateAck
  repeat' split
  all_goals simp

@[simp] theorem execWindowFrameSend_answers (window : Nat) (s : State) : (execWindowFrameSend window s).Answers := by
  unfold execWindowFrameSend
  repeat' split
  all_goals simp

@[simp] theorem execWindowDone_answers (s : State) : (execWindowDone s).Answers := by
  unfold execWindowDone
  repeat' split
  all_goals simp

@[simp] theorem execWindowData_answers (s : State) : (execWindowData s).Answers := by
  unfold execWindowData
  repeat' split
  all_goals simp

@[simp] theorem execReduceGrant_answers (s : State) : (execReduceGrant s).Answers := by
  unfold execReduceGrant
  repeat' split
  all_goals simp

@[simp] theorem execReduceContrib_answers (s : State) : (execReduceContrib s).Answers := by
  unfold execReduceContrib
  repeat' split
  all_goals simp

@[simp] theorem execReduceAck_answers (s : State) : (execReduceAck s).Answers := by
  unfold execReduceAck
  repeat' split
  all_goals simp

@[simp] theorem execReduceSegmentCombine_answers (root segment : Nat) (s : State) : (execReduceSegmentCombine root segment s).Answers := by
  unfold execReduceSegmentCombine
  repeat' split
  all_goals simp

@[simp] theorem execTokenCounts_answers (s : State) : (execTokenCounts s).Answers := by
  unfold execTokenCounts
  repeat' split
  all_goals simp

@[simp] theorem execTokenRow_answers (s : State) : (execTokenRow s).Answers := by
  unfold execTokenRow
  repeat' split
  all_goals simp

@[simp] theorem execTokenAck_answers (s : State) : (execTokenAck s).Answers := by
  unfold execTokenAck
  repeat' split
  all_goals simp

@[simp] theorem execReadData_answers (s : State) : (execReadData s).Answers := by
  unfold execReadData
  repeat' split
  all_goals simp

@[simp] theorem execWriteAck_answers (s : State) : (execWriteAck s).Answers := by
  unfold execWriteAck
  repeat' split
  all_goals simp

@[simp] theorem execBeaconRequest_answers (t2frac t3frac : Fin 256) (turn : Nat) (s : State) : (execBeaconRequest t2frac t3frac turn s).Answers := by
  unfold execBeaconRequest
  repeat' split
  all_goals simp

@[simp] theorem execBeaconResponse_answers (t4frac : Fin 256) (s : State) : (execBeaconResponse t4frac s).Answers := by
  unfold execBeaconResponse
  repeat' split
  all_goals simp

@[simp] theorem execAlmanacCheckDone_answers (s : State) : (execAlmanacCheckDone s).Answers := by
  unfold execAlmanacCheckDone
  repeat' split
  all_goals simp

@[simp] theorem execAlmanacDescriptorRead_answers (s : State) : (execAlmanacDescriptorRead s).Answers := by
  unfold execAlmanacDescriptorRead
  repeat' split
  all_goals simp

@[simp] theorem execAgreement_answers (s : State) : (execAgreement s).Answers := by
  unfold execAgreement
  repeat' split
  all_goals simp

@[simp] theorem execSeal_answers (s : State) : (execSeal s).Answers := by
  unfold execSeal
  repeat' split
  all_goals simp

@[simp] theorem execConjunctionDecision_answers (s : State) : (execConjunctionDecision s).Answers := by
  unfold execConjunctionDecision
  repeat' split
  all_goals simp

@[simp] theorem execConjunctionEffect_answers (s : State) : (execConjunctionEffect s).Answers := by
  unfold execConjunctionEffect
  repeat' split
  all_goals simp

@[simp] theorem execLogRecordArrival_answers (s : State) : (execLogRecordArrival s).Answers := by
  unfold execLogRecordArrival
  repeat' split
  all_goals simp

@[simp] theorem execLogProgram_answers (s : State) : (execLogProgram s).Answers := by
  unfold execLogProgram
  repeat' split
  all_goals simp

@[simp] theorem execTelemetryWrite_answers (s : State) : (execTelemetryWrite s).Answers := by
  unfold execTelemetryWrite
  repeat' split
  all_goals simp

@[simp] theorem execFwEraseDone_answers (s : State) : (execFwEraseDone s).Answers := by
  unfold execFwEraseDone
  repeat' split
  all_goals simp

@[simp] theorem execThrottleStepLower_answers (s : State) : (execThrottleStepLower s).Answers := by
  unfold execThrottleStepLower
  repeat' split
  all_goals simp

@[simp] theorem execResetDelayExpiry_answers (s : State) : (execResetDelayExpiry s).Answers := by
  unfold execResetDelayExpiry
  repeat' split
  all_goals simp

@[simp] theorem execMboxRequest_answers (port : Fin 2) (commit : MboxCommit) (s : State) : (execMboxRequest port commit s).Answers := by
  unfold execMboxRequest
  repeat' split
  all_goals simp

@[simp] theorem execPageWalk_answers (agent : Agent) (write : Bool) (ecc : EccEvent) (s : State) : (execPageWalk agent write ecc s).Answers := by
  unfold execPageWalk
  repeat' split
  all_goals simp

/-! ### Commands whose operands have a form -/

/-- The result is the refusal when the form is lacking, and a next state when it is there. -/
def Result.Formed (form : Bool) (r : Result) : Prop := (form = false → r = .refused .malformedCommand) ∧ (form = true → r.Answers)

theorem formed_of_answers {r : Result} (h : r.Answers) : r.Formed true := ⟨nofun, fun _ => h⟩
theorem formed_refused : Result.Formed false (.refused .malformedCommand) := ⟨fun _ => rfl, nofun⟩
/-- A command that refuses under a condition on its operands alone. -/
theorem formed_ite {form : Bool} {c : Prop} [Decidable c] {r : Result} (hc : c ↔ form = false) (hr : r.Answers) :
    Result.Formed form (if c then .refused .malformedCommand else r) := by
  refine ⟨fun h => if_pos (hc.mpr h), fun h => ?_⟩
  rw [if_neg (fun k => absurd (hc.mp k) (by rw [h]; decide))]
  exact hr

theorem execIdentity_formed (link : Fin 36) (flit : BitVec 1600) (s : State) : (execIdentity link flit s).Formed (identityForm flit) :=
  formed_ite (by simp [identityForm, flitType, Decidable.or_iff_not_imp_left]) (when_answers ..)

theorem execCreditUpdate_formed (link : Fin 36) (flit : BitVec 1600) (s : State) : (execCreditUpdate link flit s).Formed (controlForm flit false) :=
  formed_ite (by simp [controlForm, flitType, Decidable.or_iff_not_imp_left]) (when_answers ..)

theorem execNak_formed (link : Fin 36) (flit : BitVec 1600) (s : State) : (execNak link flit s).Formed (controlForm flit true) :=
  formed_ite (by simp [controlForm, flitType, Decidable.or_iff_not_imp_left]) (when_answers ..)

theorem execFlitReceived_formed (link : Fin 36) (flit : RxFlit) (s : State) : (execFlitReceived link flit s).Formed (field flit.bits.toNat 1598 2 != 0) :=
  formed_ite (by simp [flitType]) (when_answers ..)

theorem execCoreTestDone_formed (failed : List (Fin 384)) (block : Nat) (s : State) :
    (execCoreTestDone failed block s).Formed (decide (block ≤ 5) && (block == 0) == (failed == [])) := by
  refine formed_ite ?_ (when_answers ..)
  by_cases hb : block = 0 <;> cases failed <;> simp [hb]

theorem execSenseOpen_formed (kind : Nat) (die : Fin 4) (which reading : Nat) (s : State) :
    (execSenseOpen kind die which reading s).Formed (decide (kind ≤ 2)) := by
  match kind with
  | 0 => exact formed_of_answers (when_answers ..)
  | 1 => exact formed_of_answers (when_answers ..)
  | 2 => exact formed_of_answers (when_answers ..)
  | n + 3 => exact formed_refused

theorem execCoolantAverage_formed (sensors : List Int) (tin tout : Int) (power : Nat) (s : State) :
    (execCoolantAverage sensors tin tout power s).Formed (sensors.length == 4) :=
  formed_ite (by simp) (when_answers ..)

theorem execCanaryMeasure_formed (margins : List Int) (s : State) : (execCanaryMeasure margins s).Formed (margins.length == 4) :=
  formed_ite (by simp) (when_answers ..)

theorem execConfigurationWrite_formed (port : Fin 2) (busMaster d3hot : Bool) (bar2 : Nat) (s : State) :
    (execConfigurationWrite port busMaster d3hot bar2 s).Formed (decide (30 ≤ bar2) && decide (bar2 ≤ 42)) :=
  formed_ite (by simp; omega) (when_answers ..)

theorem execBar2Read_formed (port : Fin 2) (offset : BitVec 64) (len : Nat) (s : State) :
    (execBar2Read port offset len s).Formed (decide (0 < len) && decide (offset.toNat % 4096 + len ≤ 4096)) :=
  formed_ite (by simp; omega) (when_answers ..)

theorem execBar2Write_formed (port : Fin 2) (offset : BitVec 64) (bytes : List Byte) (s : State) :
    (execBar2Write port offset bytes s).Formed (decide (0 < bytes.length) && decide (bytes.length ≤ 256) && decide (offset.toNat % 4096 + bytes.length ≤ 4096)) := by
  refine formed_ite ?_ (when_answers ..)
  simp only [← List.length_eq_zero_iff, Bool.and_eq_false_iff, decide_eq_false_iff_not]
  omega

/-! ### Accesses of BAR0 (R378, R398) -/

theorem barOffset_lt (index : BitVec 16) (sub : BitVec 8) (at_ : Fin 8) : barOffset index sub at_ < 0x8000000 := by
  have hi := (index - 0x1000).isLt
  have hs := sub.isLt
  have ha := at_.isLt
  unfold barOffset
  omega

theorem State.bar0Write_formed (s : State) (p : Fin 2) (o : Nat) (bs : Bytes) : (s.bar0Write p o bs).Formed (bar0Fits o bs.length 256) :=
  formed_ite (by simp) (State.accessed_answers ..)

theorem State.bar0Read_formed (s : State) (p : Fin 2) (o n : Nat) : (s.bar0Read p o n).Formed (bar0Fits o n 4096) :=
  formed_ite (by simp) (State.accessed_answers ..)

theorem execRegisterWrite_formed (via : Via) (index : BitVec 16) (sub : BitVec 8) (value : RegValue) (s : State) :
    (execRegisterWrite via index sub value s).Formed (Instr.wellFormed (.registerWrite via index sub value)) := by
  cases value with
  | whole v => cases via <;> exact formed_of_answers (State.regWrite_answers ..)
  | bytes at_ bs =>
    cases via with
    | bar0 port =>
      have h := s.bar0Write_formed port (barOffset index sub at_) bs
      rwa [bar0Fits, decide_eq_true (barOffset_lt index sub at_), Bool.and_true] at h
    | key _ _ => exact formed_refused
    | unsigned => exact formed_refused
    | i3c => exact formed_refused

theorem execTrackingPeakRead_formed (via : Via) (access : RegRead) (s : State) :
    (execTrackingPeakRead via access s).Formed (Instr.wellFormed (.trackingPeakRead via access)) := by
  cases access with
  | peak die => cases via <;> exact formed_of_answers (State.accessed_answers ..)
  | bytes offset len =>
    cases via with
    | bar0 port => exact s.bar0Read_formed port offset len
    | key _ _ => exact formed_refused
    | unsigned => exact formed_refused
    | i3c => exact formed_refused

theorem execParkRelease_formed (via : Via) (value : BitVec 64) (s : State) : (execParkRelease via value s).Formed (!bit value.toNat 32) :=
  formed_ite (by simp) (State.regWrite_answers ..)

theorem execParkAbandon_formed (via : Via) (value : BitVec 64) (s : State) : (execParkAbandon via value s).Formed (bit value.toNat 32) := by
  unfold execParkAbandon
  cases bit value.toNat 32
  · exact formed_refused
  · exact formed_of_answers (by simp)

/-! ### Messages (R401, R402, R409, R410, R422) -/

theorem State.dpFrom_formed (s : State) (type : Nat) (frame : Bytes) (full sigOk : Bool) : (s.dpFrom type frame full sigOk).Formed (dpForm type frame) := by
  refine formed_ite (by simp) ?_
  split
  · simp
  · split
    · simp
    · split
      · simp
      · split <;> simp

theorem execDpRead_formed (frame : List Byte) (full sigOk : Bool) (s : State) : (execDpRead frame full sigOk s).Formed (dpForm 0x01 frame) := State.dpFrom_formed ..
theorem execDpWrite_formed (frame : List Byte) (full sigOk : Bool) (s : State) : (execDpWrite frame full sigOk s).Formed (dpForm 0x02 frame) := State.dpFrom_formed ..
theorem execSessionOpen_formed (frame : List Byte) (full sigOk : Bool) (s : State) : (execSessionOpen frame full sigOk s).Formed (dpForm 0x10 frame) := State.dpFrom_formed ..
theorem execSessionClose_formed (frame : List Byte) (full sigOk : Bool) (s : State) : (execSessionClose frame full sigOk s).Formed (dpForm 0x11 frame) := State.dpFrom_formed ..
theorem execDiscover_formed (frame : List Byte) (full sigOk : Bool) (s : State) : (execDiscover frame full sigOk s).Formed (dpForm 0x20 frame) := State.dpFrom_formed ..

theorem mctpData_isSome (code : Nat) (request : Bytes) : (mctpData code request).isSome = controlMessage code request := by
  unfold mctpData controlMessage
  split
  · next h => simp [h.1, h.2.1, h.2.2.1, h.2.2.2]
  · next h =>
    symm
    simpa [and_assoc] using h

theorem State.mctpControl_formed (s : State) (code : Nat) (request : Bytes) (f : Bytes → State) : (s.mctpControl code request f).Formed (controlMessage code request) := by
  rw [← mctpData_isSome]
  unfold State.mctpControl
  split <;> rename_i h <;> rw [h]
  · exact formed_refused
  · exact formed_of_answers (when_answers ..)

theorem execSetEndpointId_formed (request : List Byte) (s : State) : (execSetEndpointId request s).Formed (controlMessage 1 request) := State.mctpControl_formed ..
theorem execGetEndpointId_formed (request : List Byte) (s : State) : (execGetEndpointId request s).Formed (controlMessage 2 request) := State.mctpControl_formed ..
theorem execGetMctpVersionSupport_formed (request : List Byte) (s : State) : (execGetMctpVersionSupport request s).Formed (controlMessage 4 request) := State.mctpControl_formed ..
theorem execGetMessageTypeSupport_formed (request : List Byte) (s : State) : (execGetMessageTypeSupport request s).Formed (controlMessage 5 request) := State.mctpControl_formed ..

theorem execI3cDictionaryRead_formed (request : List Byte) (s : State) : (execI3cDictionaryRead request s).Formed (vendorForm 0x01 13 request) := by
  refine formed_ite (by simp) ?_
  split <;> simp

theorem execI3cProvisioningWrite_formed (request : List Byte) (s : State) : (execI3cProvisioningWrite request s).Formed (vendorForm 0x02 47 request) := by
  refine formed_ite (by simp) ?_
  split <;> simp

theorem State.spdmRequest_formed (s : State) (tr code len ver least : Nat) (request : Bytes) (f : State → State) :
    (s.spdmRequest tr code len ver least request f).Formed (spdmForm code len request) :=
  formed_ite (by simp [spdmForm, Decidable.or_iff_not_imp_left]) (when_answers ..)

theorem execGetVersion_formed (transport : Fin 3) (request : List Byte) (s : State) : (execGetVersion transport request s).Formed (spdmForm 0x84 4 request) := by
  unfold execGetVersion
  exact State.spdmRequest_formed ..
theorem execGetCapabilities_formed (transport : Fin 3) (request : List Byte) (s : State) : (execGetCapabilities transport request s).Formed (spdmForm 0xE1 20 request) := by
  unfold execGetCapabilities
  exact State.spdmRequest_formed ..
theorem execNegotiateAlgorithms_formed (transport : Fin 3) (request : List Byte) (s : State) : (execNegotiateAlgorithms transport request s).Formed (spdmForm 0xE3 32 request) := by
  unfold execNegotiateAlgorithms
  exact State.spdmRequest_formed ..
theorem execGetDigests_formed (transport : Fin 3) (request : List Byte) (s : State) : (execGetDigests transport request s).Formed (spdmForm 0x81 4 request) := by
  unfold execGetDigests
  exact State.spdmRequest_formed ..
theorem execGetCertificate_formed (transport : Fin 3) (request : List Byte) (s : State) : (execGetCertificate transport request s).Formed (spdmForm 0x82 8 request) := by
  unfold execGetCertificate
  exact State.spdmRequest_formed ..
theorem execChallenge_formed (transport : Fin 3) (request : List Byte) (s : State) : (execChallenge transport request s).Formed (spdmForm 0x83 36 request) := by
  unfold execChallenge
  exact State.spdmRequest_formed ..
theorem execGetMeasurements_formed (transport : Fin 3) (request : List Byte) (s : State) : (execGetMeasurements transport request s).Formed (spdmForm 0xE0 (if bit (leAt request 2 1) 0 then 37 else 4) request) := by
  unfold execGetMeasurements
  exact State.spdmRequest_formed ..

theorem execSpdmUnsupportedRequest_formed (transport : Fin 3) (request : List Byte) (s : State) :
    (execSpdmUnsupportedRequest transport request s).Formed (decide (4 ≤ request.length) && decide (leAt request 1 1 ∈ spdmUnsupported)) :=
  formed_ite (by simp [Decidable.or_iff_not_imp_left]) (when_answers ..)

/-! ### Every command -/

/-- A command is refused when its operands lack their form, and answers a next state when they have it. -/
theorem exec_formed (c : Instr) (s : State) : Result.Formed c.wellFormed (exec c s) := by
  cases c
  case identity link flit => exact execIdentity_formed link flit s
  case creditUpdate link flit => exact execCreditUpdate_formed link flit s
  case nak link flit => exact execNak_formed link flit s
  case flitReceived link flit => exact execFlitReceived_formed link flit s
  case coreTestDone failed block => exact execCoreTestDone_formed failed block s
  case senseOpen kind die which reading => exact execSenseOpen_formed kind die which reading s
  case coolantAverage sensors tin tout power => exact execCoolantAverage_formed sensors tin tout power s
  case canaryMeasure margins => exact execCanaryMeasure_formed margins s
  case configurationWrite port busMaster d3hot bar2 => exact execConfigurationWrite_formed port busMaster d3hot bar2 s
  case bar2Read port offset len => exact execBar2Read_formed port offset len s
  case bar2Write port offset bytes => exact execBar2Write_formed port offset bytes s
  case registerWrite via index sub value => exact execRegisterWrite_formed via index sub value s
  case trackingPeakRead via access => exact execTrackingPeakRead_formed via access s
  case parkRelease via value => exact execParkRelease_formed via value s
  case parkAbandon via value => exact execParkAbandon_formed via value s
  case dpRead frame full sigOk => exact execDpRead_formed frame full sigOk s
  case dpWrite frame full sigOk => exact execDpWrite_formed frame full sigOk s
  case sessionOpen frame full sigOk => exact execSessionOpen_formed frame full sigOk s
  case sessionClose frame full sigOk => exact execSessionClose_formed frame full sigOk s
  case discover frame full sigOk => exact execDiscover_formed frame full sigOk s
  case setEndpointId request => exact execSetEndpointId_formed request s
  case getEndpointId request => exact execGetEndpointId_formed request s
  case getMctpVersionSupport request => exact execGetMctpVersionSupport_formed request s
  case getMessageTypeSupport request => exact execGetMessageTypeSupport_formed request s
  case i3cDictionaryRead request => exact execI3cDictionaryRead_formed request s
  case i3cProvisioningWrite request => exact execI3cProvisioningWrite_formed request s
  case getVersion transport request => exact execGetVersion_formed transport request s
  case getCapabilities transport request => exact execGetCapabilities_formed transport request s
  case negotiateAlgorithms transport request => exact execNegotiateAlgorithms_formed transport request s
  case getDigests transport request => exact execGetDigests_formed transport request s
  case getCertificate transport request => exact execGetCertificate_formed transport request s
  case challenge transport request => exact execChallenge_formed transport request s
  case getMeasurements transport request => exact execGetMeasurements_formed transport request s
  case spdmUnsupportedRequest transport request => exact execSpdmUnsupportedRequest_formed transport request s
  all_goals refine formed_of_answers ?_
  all_goals simp [execLoftWrite, execControllerWriteAdd, execStampRewrite, execPrefetchDistanceRevise, execScrubDusk, execScrubPassEnd, execSramScrub, execCacheScrub,
      execIdleBankScrub, execScalar, execBranch, execScratchLoad, execScratchStore, execMemoryLoad, execMemoryStore, execCinc, execCwait, execCread,
      execBarrier, execGinc, execGread, execSdtr, execSlotr, execWaitsdt, execEndThread, execFence, execStream, execGather, execScatter,
      execStreamAdd, execScatterAdd, execInvalComplete, execMwload, execMstream, execMdrain, execPreemptStopDone, execPreemptSaveDone,
      execPreemptRestoreDone, execLinkDetected, execLinkEqualised, execLinkRetrain, execReplayTimeout, execFenceNotice, execFenceNoticeSend,
      execDieLost, execEthPacket, execEthLinkUp, execEthLinkLost, execEthRetransmitTimeout, execEthAckTimer, execEthNeighborSolicitation,
      execEthEchoRequest, execMemRead, execMemWrite, execMemWriteAdd, execParentClockLost, execParentLinkRecovered, execBeaconRequestSend,
      execUnusedParentBeacon, execAlmanacStart, execPauseResume, execGuardBandSample, execVectorDeadline, execSealDeadline, execTelemetrySample,
      execTapInstruction, execTestLogicReset, execVerifyTargetDone, execPackageResetRelease, execRomPhaseDone, execImagePhaseDone, execPowerPhaseDone,
      execClocksPhaseDone, execPairingPhaseDone, execSramPhaseDone, execCoresPhaseDone, execMemoryPhaseDone, execFirmwareLoadPhaseDone,
      execLinksPhaseDone, execDictionaryPhaseDone, execStartFailed, execLeaderHeartbeat, execLeaderChange, execLodestarFailure, execThrottleStepRaise,
      execSupplyWarning, execSupplyLow, execSupplyLowCleared, execSupplyRecovered, execOverVoltage, execOverVoltageCleared, execSupplyReset,
      execOverVoltageReset, execOverCurrentReset, execVinRise, execVinStable, execPowerLoss, execReversePolarity, execRailFault, execRailFaultReset,
      execCoolantSensor, execThermalDemandRevise, execThermalTrip, execThermalTripShutdown, execThermalCooldownReset, execThermalCutoff,
      execPowerCeilingPublish, execPowerControl, execGuardBandRaise, execSensorCalibration, execCurrentSenseCalibration, execInterfaceCalibration,
      execFlashGarbageCollect, execRootPllLock, execPllUnlock, execRefSwitch, execCrossingOverrun, execCrossingReset, execCrossingReleaseHandshake,
      execResetForceWritebackTimeout, execDimSkylightSnapshot, execPortReset, execPcieLinkUp, execArmA, execArmB, execStageA, execStageB, execUnstage,
      execDisarm, execResumeSdtWrite, execInvalRange, execInvalAsid, execInvalAll, execStop, execSave, execResume, execFabricCommit,
      execDomainGeometryWrite, execIncarnationWrite, execMirrorPeriodWrite, execHostGateInc, execDimExit, execVerifyTarget, execTrialTarget,
      execCancelTrial, execSvnFloorWrite, execFwKey0Revoke, execCoreRetireRequest, execOverrunClear, execResetRequest, execResetForce, execCoreTest,
      execTestAccessWrite, execFwChunk, execAttestNonce, execOperatorKeyWrite, execShardGuardWrite, execSegSelect, execSegSnapshot, execSegCommit,
      execSegDiscard, execSegWindowWrite, execSessionTimeout, execSegmentLapse, execMgmtLinkUp, execMgmtNeighborSolicitation, execMgmtEchoRequest,
      execEntdaa, execI3cTargetReset, execSlotBoundary, execVadd, execVsub, execVmul, execVfma, execVmax, execVmin, execVabs, execVneg, execVcmp,
      execVsel, execVrsum, execVrmax, execVrmin, execVbcast, execVgather, execVscatter, execVscatadd, execVand, execVor, execVxor, execVshl, execVshr,
      execVcvt, execVquant, execVdequant, execVsplit, execVscale, execVexp, execVexp2, execVln, execVlog2, execVrcp, execVrsqrt, execVtanh,
      execVsigmoid, execVsinpi, execVcospi]

/-- Settles O57: each command with a form refuses exactly when its operands lack it, and the others have no refusal. -/
theorem illFormedRefused : Obligations.IllFormedRefused := exec_formed

end Sys2Proof.Machine
end

section
/-! SUPPORT. The input supply (R432 to R438, R451): its states at their thresholds, the resets that it asserts, power-on and rail faults. -/

namespace Sys2Proof.Machine

/-! ### Demands and the dictionary -/

theorem State.reviewDemand_dget (s : State) (i j : Nat) : s.reviewDemand.dget i j = s.dget i j := rfl

/-! ### The supply's states (R432, R433, R435) -/

theorem State.setSupply_keeps (s : State) (st : SupplyState) (mv : Nat) :
    (s.setSupply st mv).power.supply = st ∧ (s.setSupply st mv).log = s.log ∧ (s.setSupply st mv).mem = s.mem ∧ (s.setSupply st mv).alm = s.alm := ⟨rfl, rfl, rfl, rfl⟩

theorem State.powerEvent_arrivals (s : State) (code die which : Nat) (reading : Int) (cause : Nat) :
    (s.powerEvent code die which reading cause).log.arrivals.length = s.log.arrivals.length + 1 := by
  simp [State.powerEvent, State.event, State.record]

theorem warnings_size : (findEntry 0x3800 1).map Entry.size = some 8 := by rfl

section
variable {s : State} {mv : Nat} (hw : s.watched = true)
include hw

theorem supplyWarning_completes (hs : s.power.supply = .normal ∨ s.power.supply = .over) (hmv : mv < 34000) :
    Completes (.supplyWarning mv) s (fun u => u.power.supply = .warning ∧ u.dget 0x3800 1 = (s.dget 0x3800 1 + 1) % 2 ^ 64 ∧ u.mem = s.mem ∧ u.alm = s.alm) := by
  obtain ⟨hst, -, hmem, halm⟩ := s.setSupply_keeps .warning mv
  have hd : (s.setSupply .warning mv).dget 0x3800 1 = s.dget 0x3800 1 := s.dget_dset_other 0x2800 0 0x3800 1 _ (by decide)
  refine completes_of_when (exec_supplyWarning mv s) (by rcases hs with hs | hs <;> simp [hw, hs, hmv]) ⟨?_, ?_, ?_, ?_⟩
  · exact (congrArg PowerState.supply (State.dadd_power ..)).trans hst
  · exact (State.dget_dadd_of_size _ _ _ _ warnings_size).trans (by rw [hd])
  · exact (State.dadd_mem ..).trans hmem
  · exact (State.dadd_alm ..).trans halm

theorem supplyLow_completes (hs : s.power.supply = .warning) (hmv : mv < 32000) :
    Completes (.supplyLow mv) s (fun u => u.power.supply = .low ∧ u.mem = s.mem ∧ u.alm = s.alm) :=
  completes_of_when (exec_supplyLow mv s) (by simp [hw, hs, hmv]) ⟨rfl, rfl, rfl⟩

theorem supplyLowCleared_completes (hs : s.power.supply = .low) (hmv : 33000 < mv) :
    Completes (.supplyLowCleared mv) s (fun u => u.power.supply = .warning ∧ u.log = s.log) :=
  completes_of_when (exec_supplyLowCleared mv s) (by simp [hw, hs, hmv]) ⟨rfl, rfl⟩

theorem supplyRecovered_completes (hs : s.power.supply = .warning) (hmv : 35000 < mv) :
    Completes (.supplyRecovered mv) s (fun u => u.power.supply = .normal ∧ u.log.arrivals.length = s.log.arrivals.length + 1) :=
  completes_of_when (exec_supplyRecovered mv s) (by simp [hw, hs, hmv]) ⟨rfl, State.powerEvent_arrivals ..⟩

theorem overVoltage_completes (hs : s.power.supply ≠ .over) (hmv : 44000 < mv) :
    Completes (.overVoltage mv) s (fun u => u.power.supply = .over ∧ u.log.arrivals.length = s.log.arrivals.length + 1) :=
  completes_of_when (exec_overVoltage mv s) (by simp [hw, hs, hmv]) ⟨rfl, State.powerEvent_arrivals ..⟩

theorem overVoltageCleared_completes (hs : s.power.supply = .over) (hmv : mv < 43500) :
    Completes (.overVoltageCleared mv) s (fun u => u.power.supply = .normal ∧ u.log = s.log) :=
  completes_of_when (exec_overVoltageCleared mv s) (by simp [hw, hs, hmv]) ⟨rfl, rfl⟩

/-! ### Resets of the supply (R434 to R436) -/

omit hw in
/-- A reset of the supply is in force with its cause, after the clean stop and its record. -/
theorem State.supplyReset_asserts (s : State) (cause : Nat) (reading : Int) (volts : Bool) :
    (s.supplyReset cause reading volts).power.supply = .reset ∧ (s.supplyReset cause reading volts).power.resetOver = volts ∧
    (s.supplyReset cause reading volts).boot.inReset = true ∧ (s.boot.inReset = false → (s.supplyReset cause reading volts).boot.lastCause = cause) := by
  obtain ⟨hr, -, hc⟩ := (s.cleanStop.powerEvent 0xD2 0xFF 0 reading cause).flushLog.resetTo_asserts cause false
  have hb : (s.cleanStop.powerEvent 0xD2 0xFF 0 reading cause).flushLog.boot = s.boot := by
    rw [State.flushLog_boot]
    exact s.cleanStop_boot
  exact ⟨rfl, rfl, hr, fun h => hc (by rw [hb]; exact h)⟩

theorem supplyReset_completes (hmv : mv < 30000) :
    Completes (.supplyReset mv) s (fun u => u.power.supply = .reset ∧ u.boot.inReset = true ∧ (s.boot.inReset = false → u.boot.lastCause = 0x02)) := by
  obtain ⟨hs, -, hr, hc⟩ := s.supplyReset_asserts 0x02 mv false
  exact completes_of_when (exec_supplyReset mv s) (by simp [hw, hmv]) ⟨hs, hr, hc⟩

theorem overVoltageReset_completes (hmv : 48000 < mv) :
    Completes (.overVoltageReset mv) s (fun u => u.power.supply = .reset ∧ u.boot.inReset = true ∧ u.power.resetOver = true) := by
  obtain ⟨hs, ho, hr, -⟩ := s.supplyReset_asserts 0x03 mv true
  exact completes_of_when (exec_overVoltageReset mv s) (by simp [hw, hmv]) ⟨hs, hr, ho⟩

theorem overCurrentReset_completes (hmv : 200000 ≤ mv) :
    Completes (.overCurrentReset mv) s (fun u => u.power.supply = .reset ∧ u.boot.inReset = true ∧ (s.boot.inReset = false → u.boot.lastCause = 0x03)) := by
  obtain ⟨hs, -, hr, hc⟩ := s.supplyReset_asserts 0x03 mv false
  exact completes_of_when (exec_overCurrentReset mv s) (by simp [hw, hmv]) ⟨hs, hr, hc⟩

end

/-! ### Power-on (R435, R436, R451) -/

section
variable {s : State} {mv : Nat}

theorem vinRise_completes (hk : s.power.hkUp = false) (hc : s.power.charging = false) (hmv : 31000 < mv) :
    Completes (.vinRise mv) s (fun u => u.power.charging = true ∧ u.power.reversed = false ∧ u.power.hkUp = false) :=
  completes_of_when (exec_vinRise mv s) (by simp [hk, hc, hmv]) ⟨rfl, rfl, hk⟩

theorem reversePolarity_completes (hk : s.power.hkUp = false) :
    Completes .reversePolarity s (fun u => u.power.reversed = true ∧ u.power.charging = false ∧ u.power.hkUp = false) :=
  completes_of_when (exec_reversePolarity s) (by simp [hk]) ⟨rfl, rfl, hk⟩

theorem vinStable_completes (hs : s.power.supply = .reset) (hc : s.power.hkUp = true ∨ s.power.charging = true) (hlow : 31000 < mv)
    (hhigh : s.power.resetOver = true → mv < 46000) :
    Completes (.vinStable mv) s (fun u => u.power.supply = .normal ∧ u.power.hkUp = true ∧ u.dget 0x2800 0 = mv % 65536) := by
  refine completes_of_when (exec_vinStable mv s) ?_ ⟨rfl, rfl, State.dget_dset _ _ _ _⟩
  cases ho : s.power.resetOver <;> rcases hc with hc | hc <;> simp_all

/-! ### Rail faults (R438) -/

/-- The rails are off and memory is lost, of a start as of a package that runs. -/
theorem railFault_completes (die : Fin 4) (rail : Nat) (hr : s.boot.inReset = false) (hf : s.power.railFault = false) (hu : s.power.railsUp = true ∨ s.boot.phase = 3) :
    Completes (.railFault die rail mv) s (fun u => u.power.railFault = true ∧ u.power.railsUp = false ∧ u.mem.cells = [] ∧
      (s.boot.mode = .starting → u.boot.lastFailedPhase = 0x03 ∧ u.boot.failedStarts = min 255 (s.boot.failedStarts + 1))) := by
  refine completes_of_when (exec_railFault die rail mv s) (by rcases hu with hu | hu <;> simp [hr, hf, hu]) ?_
  cases hm : s.boot.mode
  case starting => exact ⟨rfl, rfl, rfl, fun _ => ⟨rfl, rfl⟩⟩
  all_goals exact ⟨rfl, rfl, rfl, nofun⟩

theorem railFaultReset_completes (hf : s.power.railFault = true) :
    Completes .railFaultReset s (fun u => u.boot.inReset = true ∧ u.mem.cells = [] ∧ (s.boot.inReset = false → u.boot.lastCause = 0x04)) := by
  obtain ⟨hr, -, hc⟩ := s.flushLog.resetTo_asserts 0x04 true
  rw [State.flushLog_boot] at hc
  exact completes_of_when (exec_railFaultReset s) hf ⟨hr, State.resetTo_lost_cells .., hc⟩

end

/-- Settles O46: the supply's states at their thresholds, its resets, power-on and rail faults. -/
theorem supplyStates : Obligations.SupplyStates := fun _ =>
  ⟨fun hw _ => ⟨supplyWarning_completes hw, supplyLow_completes hw, supplyLowCleared_completes hw, supplyRecovered_completes hw, overVoltage_completes hw,
      overVoltageCleared_completes hw, supplyReset_completes hw, overVoltageReset_completes hw, overCurrentReset_completes hw⟩,
    fun hk => ⟨fun _ => vinRise_completes hk, reversePolarity_completes hk⟩, fun _ => vinStable_completes, fun die rail _ => railFault_completes die rail,
    railFaultReset_completes⟩

end Sys2Proof.Machine
end

section
/-! SUPPORT. Heat and power (R439 to R447): the thermal demand, trips, shutdown and cutoff, the throttle step, the published ceiling and the power demand. -/

namespace Sys2Proof.Machine

/-! ### Thermal demand (R439, R443) -/

theorem thermalDemandRevise_completes {s : State} (hc : s.clockOn = true) (hn : 8 ≤ s.power.thermSlots) :
    Completes .thermalDemandRevise s (fun u => u.power.thermSlots = 0 ∧ u.dget 0x2811 3 = max s.leastThermal
      (if 10300 ≤ s.tjMax then 7 else if 10000 ≤ s.tjMax then min 7 (s.dget 0x2811 3 + 1) else if s.tjMax ≤ 9700 then s.dget 0x2811 3 - 1 else s.dget 0x2811 3)) := by
  refine completes_of_when (exec_thermalDemandRevise s) (by simp [hc, hn]) ⟨rfl, ?_⟩
  exact (State.dget_dset ..).trans (Nat.max_comm _ _)

/-! ### Trips, shutdown and cutoff (R444) -/

/-- What a stop leaves of a thread. -/
def Thread.halted (th : Thread) : Thread := if th.status = .running then { th with status := .stopped } else th

theorem Thread.halted_status (th : Thread) : th.halted.status ≠ .running := by
  unfold Thread.halted
  split
  · exact nofun
  · assumption

theorem State.stopThreads_thread (s : State) (g t : Nat) : s.stopThreads.thread g t = (s.thread g t).halted :=
  @tget_map Thread {} Thread.halted rfl s.threads (threadKey g t)

theorem entryTable_hi : entryTable.all (fun e => decide (e.hi < 256)) = true := by decide +kernel

theorem findEntry_sub_lt {idx sub : Nat} {e : Entry} (h : findEntry idx sub = some e) : sub < 256 := by
  unfold findEntry at h
  split at h
  · rename_i row hrow
    have hhi := of_decide_eq_true (List.all_eq_true.mp entryTable_hi row (List.mem_of_find?_eq_some hrow))
    have hp := List.find?_some hrow
    simp only [Bool.and_eq_true, decide_eq_true_eq] at hp
    omega
  · split at h
    · omega
    · cases h

/-- A counter of one index leaves the entries of every other. -/
theorem State.dget_dadd_index (s : State) (i j n i' j' : Nat) (h : i' ≠ i) (hj : j' < 256) : (s.dadd i j n).dget i' j' = s.dget i' j' := by
  unfold State.dadd
  split
  · rename_i he
    have hs := findEntry_sub_lt he
    exact State.dget_dset_other _ _ _ _ _ _ (by unfold entryKey; omega)
  · rfl

theorem State.countStop_dict (s : State) (agent : Nat) : (s.countStop agent).dict = s.dict := State.ite_keeps rfl rfl

/-- Stopping the arrays counts requests in 0x2225 alone. -/
theorem State.stopCoreArrays_dget (s : State) (g i j : Nat) (h : i ≠ 0x2225) (hj : j < 256) : (s.stopCoreArrays g).dget i j = s.dget i j := by
  have hfold (l : List Nat) (t : State) : (l.foldl (fun s n => s.countStop (stopKeyArray g n)) t).dget i j = t.dget i j :=
    State.foldl_keeps (fun t => t.dget i j) _ (fun _ _ => State.dget_dict _ _ _ _ (State.countStop_dict ..)) l t
  have hadd (t : State) (c : Prop) [Decidable c] (n : Nat) : (if c then t else t.dadd 0x2225 (coreDie g + 1) n).dget i j = t.dget i j :=
    State.ite_keeps (part := fun t => t.dget i j) rfl (State.dget_dadd_index _ _ _ _ _ _ h hj)
  unfold State.stopCoreArrays
  dsimp only
  exact State.ite_keeps (part := fun t => t.dget i j) ((hfold _ _).trans (hadd _ _ _)) (hadd _ _ _)

theorem State.stopUnits_trips (s : State) : s.stopUnits.dget 0x3800 2 = s.dget 0x3800 2 :=
  State.foldl_keeps (fun t => t.dget 0x3800 2) State.stopCoreArrays (fun t g => t.stopCoreArrays_dget g _ _ (by decide) (by decide)) _ s

theorem trips_size : (findEntry 0x3800 2).map Entry.size = some 8 := by rfl

theorem thermalTrip_completes {s : State} (die : Fin 4) {t : Nat} (ha : s.alive = true) (hn : s.power.tripped = false) (hs : s.power.hotSince = some t)
    (ht : t + 160000 ≤ s.sdt) (hj : 10500 ≤ s.tj die) :
    Completes (.thermalTrip die) s (fun u => u.power.tripped = true ∧ u.power.trippedAt = some s.sdt ∧ u.conj.fault = true ∧
      u.dget 0x3800 2 = (s.dget 0x3800 2 + 1) % 2 ^ 64 ∧ ∀ (g : Fin 384) (t : Fin 32), (u.thread g t).status ≠ .running) := by
  have hb : s.stopUnits.stopThreads.stopMovers.boot = s.boot := s.stopUnits_boot
  have hm : s.stopUnits.stopThreads.stopMovers.time = s.time := s.stopUnits_time
  have hsdt : (s.stopUnits.stopThreads.stopMovers.dadd 0x3800 2 1).sdt = s.sdt := by
    simp only [State.sdt, State.leader, State.dadd_boot, State.dadd_time, hb, hm]
  refine completes_of_when (exec_thermalTrip die s) (by simp [ha, hn, hs, ht, hj]) ⟨rfl, congrArg some hsdt, rfl, ?_, fun g t => ?_⟩
  · exact (State.dget_dadd_of_size _ _ _ _ trips_size).trans (congrArg (fun n => (n + 1) % 2 ^ 64) s.stopUnits_trips)
  · have hth : (s.trip die).threads = s.stopUnits.stopThreads.threads := State.dadd_threads s.stopUnits.stopThreads.stopMovers 0x3800 2 1
    rw [State.thread_of_threads hth, State.stopThreads_thread]
    exact Thread.halted_status _

theorem thermalTripShutdown_completes {s : State} {t : Nat} (hs : s.power.trippedAt = some t) (ht : t + 16000000 ≤ s.sdt) (hn : s.power.shutdown = false)
    (hr : s.boot.inReset = false) (hj : 10500 ≤ s.tjMax) :
    Completes .thermalTripShutdown s (fun u => u.power.shutdown = true ∧ u.quiet = true ∧ u.mem = s.mem) :=
  completes_of_when (exec_thermalTripShutdown s) (by simp [hs, ht, hn, hr, hj]) ⟨rfl, by simp [State.quiet], rfl⟩

theorem thermalCooldownReset_completes {s : State} {t : Nat} (hs : s.power.shutdown = true) (hc : s.power.coolSince = some t) (ht : t + 1600000000 ≤ s.sdt) :
    Completes .thermalCooldownReset s (fun u => u.boot.inReset = true ∧ (s.boot.inReset = false → u.boot.lastCause = 0x05)) := by
  obtain ⟨hr, -, hl⟩ := s.flushLog.resetTo_asserts 0x05 false
  rw [State.flushLog_boot] at hl
  exact completes_of_when (exec_thermalCooldownReset s) (by simp [hs, hc, ht]) ⟨hr, hl⟩

theorem thermalCutoff_completes {s : State} (die : Fin 4) (hw : s.watched = true) (hr : s.boot.inReset = false) (hu : s.power.railsUp = true) :
    Completes (.thermalCutoff die) s (fun u => u.power.cutoffLatch = true ∧ u.boot.inReset = true ∧ u.boot.lastCause = 0x05 ∧ u.mem.cells = []) := by
  obtain ⟨hi, -, hl⟩ := s.flushLog.resetTo_asserts 0x05 true
  rw [State.flushLog_boot] at hl
  exact completes_of_when (exec_thermalCutoff die s) (by simp [hw, hr, hu]) ⟨rfl, hi, hl hr, State.resetTo_lost_cells s.flushLog 0x05⟩

/-! ### The throttle step (R441) -/

theorem State.sdt_of_passTo (s : State) (t : Nat) : (s.passTo t).sdt = t % 2 ^ 64 := by simp [State.sdt]

theorem throttleStepRaise_completes {s : State} (hd : s.throttle < s.demand) (hw : s.windowMay (windowBoundary s.sdt) = true) :
    Completes .throttleStepRaise s (fun u => u.throttle = s.demand ∧ u.sdt = windowBoundary s.sdt % 2 ^ 64) :=
  completes_of_when (exec_throttleStepRaise s) (by simp [hd, hw]) ⟨State.dget_dset .., s.sdt_of_passTo _⟩

theorem throttleStepLower_completes {s : State} {w : Nat} (hl : s.power.lowerFrom = some w)
    (hw : s.windowMay (windowBoundary (max s.sdt (sdtOfWork (w + 16384)))) = true) :
    Completes .throttleStepLower s (fun u => u.throttle = s.throttle - 1 ∧ u.sdt = windowBoundary (max s.sdt (sdtOfWork (w + 16384))) % 2 ^ 64) := by
  have hx := exec_throttleStepLower s
  rw [execThrottleStepLower, hl] at hx
  exact completes_of_when hx hw ⟨State.dget_dset .., s.sdt_of_passTo _⟩

/-! ### The power ceiling and the power demand (R446, R447) -/

/-- A rounded quotient takes at most a free value. -/
theorem State.quotient_keeps {β : Type} {part : State → β} (h : ∀ (s : State) w, part (s.takeFree w).2 = part s) (s : State) (n d : Nat) :
    part (s.quotient n d).2 = part s := by
  unfold State.quotient
  split
  · rfl
  · exact h s 1

theorem State.inletCeiling_keeps {β : Type} {part : State → β} (h : ∀ (s : State) w, part (s.takeFree w).2 = part s) (s : State) : part s.inletCeiling.2 = part s := by
  unfold State.inletCeiling
  dsimp only
  split
  · rfl
  · split
    · exact State.quotient_keeps h ..
    · rfl

theorem powerCeilingPublish_completes {s : State} (hw : s.watched = true) :
    Completes .powerCeilingPublish s (fun u => u.dget 0x2810 2 ≤ 6400 ∧ u.dget 0x2810 2 ≤ s.dget 0x2810 1 ∧ u.dget 0x2810 2 ≤ s.power.flowCeiling ∧ u.dget 0x2810 3 ≤ 4) := by
  have hcap : s.inletCeiling.2.dget 0x2810 1 = s.dget 0x2810 1 := State.inletCeiling_keeps (part := fun t => t.dget 0x2810 1) (fun _ _ => rfl) s
  have hflow : s.inletCeiling.2.power.flowCeiling = s.power.flowCeiling := State.inletCeiling_keeps (part := fun t => t.power.flowCeiling) (fun _ _ => rfl) s
  have hleast : s.publishCeiling.dget 0x2810 2 = min (min 6400 (s.dget 0x2810 1)) (min s.inletCeiling.1 s.power.flowCeiling) := by
    rw [← hcap, ← hflow]
    exact (State.dget_dset_other _ _ _ _ _ _ (by decide)).trans (State.dget_dset ..)
  refine completes_of_when (exec_powerCeilingPublish s) hw ⟨by omega, by omega, by omega, ?_⟩
  refine (State.dget_dset ..).trans_le ?_
  repeat' split
  all_goals decide

/-- What an average of the power unit leaves of the entries that it does not publish. -/
theorem State.published_dget (s : State) {n d v w i j : Nat} (h2 : entryKey i j ≠ entryKey 0x2802 0) (h1 : entryKey i j ≠ entryKey 0x2801 0) :
    (((s.quotient n d).2.dset 0x2802 0 v).dset 0x2801 0 w).dget i j = s.dget i j := by
  rw [State.dget_dset_other _ _ _ _ _ _ h1, State.dget_dset_other _ _ _ _ _ _ h2]
  exact State.quotient_keeps (part := fun t => t.dget i j) (fun _ _ => rfl) ..

theorem State.controlPower_current (s : State) (power ma : Nat) : (s.controlPower power ma).dget 0x2801 0 = ma % 2 ^ 32 :=
  (State.dget_dset_other _ _ _ _ _ _ (by decide)).trans (State.dget_dset ..)

/-- The power demand rises above the ceiling. -/
theorem State.controlPower_rise (s : State) (power ma : Nat) (hp : s.dget 0x2810 2 < power) : (s.controlPower power ma).dget 0x2811 4 = min 7 (s.dget 0x2811 4 + 1) := by
  have hc := s.published_dget (n := ((power :: s.power.samples).take 10).sum) (d := ((power :: s.power.samples).take 10).length)
    (v := (s.quotient ((power :: s.power.samples).take 10).sum ((power :: s.power.samples).take 10).length).1 % 65536) (w := ma % 2 ^ 32) (i := 0x2810) (j := 2) (by decide) (by decide)
  refine (State.dget_dset ..).trans ((if_pos (lt_of_eq_of_lt hc hp)).trans (congrArg (fun n => min 7 (n + 1)) ?_))
  exact s.published_dget (by decide) (by decide)

theorem powerControl_completes {s : State} (power ma : Nat) (hw : s.watched = true) (hr : s.boot.inReset = false) (hu : s.power.railsUp = true) (hm : s.boot.mode ≠ .dim) :
    Completes (.powerControl power ma) s (fun u => u.dget 0x2801 0 = ma % 2 ^ 32 ∧ u.power.samples = (power :: s.power.samples).take 10 ∧
      (s.dget 0x2810 2 < power → u.dget 0x2811 4 = min 7 (s.dget 0x2811 4 + 1))) := by
  refine completes_of_when (exec_powerControl power ma s) (by simp [hw, hr, hu, hm]) ⟨s.controlPower_current power ma, rfl, s.controlPower_rise power ma⟩

/-- Settles O47: the thermal demand, trips and cutoff, the throttle step, the ceiling and the power demand. -/
theorem thermalAndThrottle : Obligations.ThermalAndThrottle := fun _ =>
  ⟨thermalDemandRevise_completes, fun die _ => thermalTrip_completes die, fun _ => thermalTripShutdown_completes, fun _ => thermalCooldownReset_completes,
    thermalCutoff_completes, throttleStepRaise_completes, fun _ => throttleStepLower_completes, powerCeilingPublish_completes, powerControl_completes⟩

end Sys2Proof.Machine
end

section
/-! SUPPORT. Background work of the power unit (R432, R439, R445, R448 to R450): sense failures, coolant sensors and averages, canary margins, guard bands, calibrations and flash wear. -/

namespace Sys2Proof.Machine

/-! ### Sense inputs and coolant sensors (R432, R439) -/

theorem senseOpens_size : (findEntry 0x3800 4).map Entry.size = some 8 := by rfl

/-- A failure of a sense input or of a coolant sensor, as it is counted and logged. -/
def State.senseFailure (s : State) (code die which : Nat) (reading : Int) : State := (s.dadd 0x3800 4 1).powerEvent code die which reading 0

section
variable (s : State) (code die which : Nat) (reading : Int)

theorem State.senseFailure_count : (s.senseFailure code die which reading).dget 0x3800 4 = (s.dget 0x3800 4 + 1) % 2 ^ 64 := State.dget_dadd_of_size _ _ _ _ senseOpens_size
theorem State.senseFailure_logged : (s.senseFailure code die which reading).log.arrivals.length = s.log.arrivals.length + 1 :=
  (State.powerEvent_arrivals ..).trans (congrArg (fun l : LogState => l.arrivals.length + 1) (State.dadd_log ..))
theorem State.senseFailure_mem : (s.senseFailure code die which reading).mem = s.mem := State.dadd_mem ..
theorem State.senseFailure_power : (s.senseFailure code die which reading).power = s.power := State.dadd_power ..
theorem State.senseFailure_demand : (s.senseFailure code die which reading).dget 0x2811 3 = s.dget 0x2811 3 := State.dget_dadd_other _ _ _ _ _ _ (by decide)

end

theorem mem_addNew_self {α : Type} [DecidableEq α] (a : α) (l : List α) : a ∈ addNew a l := (mem_addNew a a l).mpr (.inl rfl)

section
variable {s : State} (hw : s.watched = true)
include hw

theorem senseOpen_remote (die : Fin 4) (which reading : Nat) (hu : s.power.railsUp = true) :
    Completes (.senseOpen 0 die which reading) s (fun u => u.dget 0x3800 4 = (s.dget 0x3800 4 + 1) % 2 ^ 64 ∧ u.log.arrivals.length = s.log.arrivals.length + 1 ∧
      (die.val, which) ∈ u.power.localSense ∧ u.mem = s.mem) :=
  completes_of_when (exec_senseOpen 0 die which reading s) (by simp [hw, hu])
    ⟨s.senseFailure_count 0xD6 die which reading, s.senseFailure_logged 0xD6 die which reading, mem_addNew_self _ _, s.senseFailure_mem 0xD6 die which reading⟩

theorem senseOpen_divider (die : Fin 4) (which reading : Nat) :
    Completes (.senseOpen 1 die which reading) s (fun u => u.dget 0x3800 4 = (s.dget 0x3800 4 + 1) % 2 ^ 64 ∧ u.dget 0x2800 0 = reading % 65536 ∧ u.mem = s.mem) :=
  completes_of_when (exec_senseOpen 1 die which reading s) hw
    ⟨(State.dget_dset_other _ _ _ _ _ _ (by decide)).trans (s.senseFailure_count 0xD6 0xFF which reading), State.dget_dset .., s.senseFailure_mem 0xD6 0xFF which reading⟩

theorem senseOpen_junction (die : Fin 4) (which reading : Nat) (hu : s.power.railsUp = true) (hn : which < 48) :
    Completes (.senseOpen 2 die which reading) s (fun u => (die.val, which) ∈ u.power.excluded ∧ u.dget 0x2811 3 = max (s.dget 0x2811 3) u.leastThermal ∧ u.mem = s.mem) := by
  refine completes_of_when (exec_senseOpen 2 die which reading s) (by simp [hw, hu, hn]) ⟨mem_addNew_self _ _, ?_, s.senseFailure_mem 0xD6 die which reading⟩
  exact (State.dget_dset ..).trans (congrArg (fun n => max n _) (s.senseFailure_demand 0xD6 die which reading))

theorem coolantSensor_failed (i : Fin 4) (reading : Int) :
    Completes (.coolantSensor i true reading) s (fun u => u.power.coolantFailed.getLsbD i = true ∧ u.dget 0x3800 4 = (s.dget 0x3800 4 + 1) % 2 ^ 64) := by
  have hhold {β : Type} (part : State → β) (h : ∀ (t : State) p, part { t with power := { t.power with flowCeiling := 3200, flowValid := p } } = part t) (t : State) :
      part t.holdCold = part t := State.ite_keeps (h t false) rfl
  refine completes_of_when (exec_coolantSensor i true reading s) hw ⟨?_, ?_⟩
  · refine (congrArg (fun b : BitVec 4 => b.getLsbD i) (hhold (fun t => t.power.coolantFailed) (fun _ _ => rfl) _)).trans ?_
    have hb : ∀ i : Fin 4, (BitVec.ofNat 4 (2 ^ i.val)).getLsbD i = true := by decide
    rw [BitVec.getLsbD_or, hb i, Bool.or_true]
  · exact (hhold (fun t => t.dget 0x3800 4) (fun _ _ => rfl) _).trans (s.senseFailure_count 0xD9 0xFF i reading)

theorem coolantSensor_reported (i : Fin 4) (reading : Int) :
    Completes (.coolantSensor i false reading) s (fun u => u.power.coolantFailed = s.power.coolantFailed ∧ u.dget 0x3800 4 = (s.dget 0x3800 4 + 1) % 2 ^ 64) :=
  completes_of_when (exec_coolantSensor i false reading s) hw ⟨congrArg PowerState.coolantFailed (s.senseFailure_power 0xD9 0xFF i reading), s.senseFailure_count 0xD9 0xFF i reading⟩

end

/-! ### Coolant averages (R445) -/

/-- The inlet's average taken: an inlet that becomes hot is counted and logged. -/
def State.takeInlet (s : State) (tin : Int) : State :=
  let t := if 4500 < tin && !s.power.inletHot then s.senseFailure 0xD9 0xFF 0 tin else s
  { t with power := { t.power with tIn := tin, inletHot := 4500 < tin } }

/-- The flow and the flow ceiling of the averages. -/
def State.takeFlow (s : State) (tin tout : Int) (power : Nat) : State :=
  let flow := s.quotient (582000 * power) (s.dget 0x2822 0 * (tout - tin).toNat)
  let ceiling := flow.2.quotient (power * (7000 - tin).toNat) (tout - tin).toNat
  { ceiling.2.dset 0x2821 0 (flow.1 % 65536) with power := { ceiling.2.power with flowCeiling := ceiling.1, flowValid := true } }

theorem State.coolant_eq (s : State) (tin tout : Int) (power : Nat) : s.coolant tin tout power =
    if (s.takeInlet tin).pairFailed then (s.takeInlet tin).holdCold
    else if 200 ≤ tout - tin ∧ 1000 ≤ power then (s.takeInlet tin).takeFlow tin tout power else s.takeInlet tin := rfl

/-- What the averages of the coolant leave alone: all but the power unit, the flow and the alarms. -/
theorem State.coolant_keeps {β : Type} {part : State → β} (hpower : ∀ (s : State) p, part { s with power := p } = part s)
    (hfree : ∀ (s : State) w, part (s.takeFree w).2 = part s) (hflow : ∀ (s : State) v, part (s.dset 0x2821 0 v) = part s)
    (hwarm : ∀ (s : State) reading, part (s.senseFailure 0xD9 0xFF 0 reading) = part s) (s : State) (tin tout : Int) (power : Nat) :
    part (s.coolant tin tout power) = part s := by
  have hinlet : part (s.takeInlet tin) = part s := (hpower _ _).trans (State.ite_keeps (hwarm s tin) rfl)
  have hcold (t : State) : part t.holdCold = part t := State.ite_keeps (hpower _ _) rfl
  have htake (t : State) : part (t.takeFlow tin tout power) = part t :=
    (hpower _ _).trans ((hflow _ _).trans ((State.quotient_keeps hfree ..).trans (State.quotient_keeps hfree ..)))
  rw [State.coolant_eq]
  exact State.ite_keeps ((hcold _).trans hinlet) (State.ite_keeps ((htake _).trans hinlet) hinlet)

theorem State.coolant_tIn (s : State) (tin tout : Int) (power : Nat) : (s.coolant tin tout power).power.tIn = tin := by
  have hcold (t : State) : t.holdCold.power.tIn = t.power.tIn := State.ite_keeps (part := fun t => t.power.tIn) rfl rfl
  have hquot (t : State) (n d : Nat) : (t.quotient n d).2.power.tIn = t.power.tIn := State.quotient_keeps (part := fun t => t.power.tIn) (fun _ _ => rfl) t n d
  rw [State.coolant_eq]
  split
  · exact hcold _
  · split
    · exact (hquot _ _ _).trans (hquot _ _ _)
    · rfl

theorem State.coolant_dget (s : State) (tin tout : Int) (power : Nat) (j : Nat) (hj : j < 256) : (s.coolant tin tout power).dget 0x2820 j = s.dget 0x2820 j :=
  State.coolant_keeps (part := fun t => t.dget 0x2820 j) (fun _ _ => rfl) (fun _ _ => rfl)
    (fun _ _ => State.dget_dset_other _ _ _ _ _ _ (by simp only [entryKey]; omega)) (fun s _ => s.dget_dadd_index _ _ _ _ _ (by decide) hj) s tin tout power

theorem coolantAverage_completes {s : State} (a b c d tin tout : Int) (power : Nat) (hw : s.watched = true) :
    Completes (.coolantAverage [a, b, c, d] tin tout power) s (fun u => u.dget 0x2820 1 = ofSigned 16 a ∧ u.dget 0x2820 2 = ofSigned 16 b ∧
      u.dget 0x2820 3 = ofSigned 16 c ∧ u.dget 0x2820 4 = ofSigned 16 d ∧ u.power.tIn = tin ∧ u.mem = s.mem) := by
  have hother (t : State) (i j v : Nat) (h : j ≠ i) : (t.dset 0x2820 i v).dget 0x2820 j = t.dget 0x2820 j :=
    State.dget_dset_other _ _ _ _ _ _ (by simp only [entryKey]; omega)
  have hmem (t : State) : (t.coolant tin tout power).mem = t.mem :=
    State.coolant_keeps (fun _ _ => rfl) (fun _ _ => rfl) (fun _ _ => rfl) (fun t _ => t.senseFailure_mem ..) t tin tout power
  have hx : exec (.coolantAverage [a, b, c, d] tin tout power) s = when s.watched s
      (((((s.dset 0x2820 1 (ofSigned 16 a)).dset 0x2820 2 (ofSigned 16 b)).dset 0x2820 3 (ofSigned 16 c)).dset 0x2820 4 (ofSigned 16 d)).coolant tin tout power) := rfl
  refine completes_of_when hx hw ⟨?_, ?_, ?_, ?_, State.coolant_tIn .., hmem _⟩ <;> rw [State.coolant_dget _ _ _ _ _ (by decide)] <;> simp [hother]

/-! ### Background work in dusk slots (R448 to R450) -/

section
variable {s : State} (hd : s.duskOn = true)
include hd

theorem sensorCalibration_completes (hn : s.deferredNow sensorKey = false) (hi : s.power.sensorNext ≤ s.duskIndex) :
    Completes .sensorCalibration s (fun u => u.power.sensorNext = s.duskIndex + 65536 ∧ u.mem = s.mem) :=
  completes_of_when (exec_sensorCalibration s) (by simp [hd, hn, hi]) ⟨rfl, rfl⟩

theorem currentSenseCalibration_completes (hn : s.deferredNow phaseKey = false) (hi : s.power.phaseNext ≤ s.duskIndex) :
    Completes .currentSenseCalibration s (fun u => u.power.calPhase = s.power.calPhase + 1 ∧ u.mem = s.mem) :=
  completes_of_when (exec_currentSenseCalibration s) (by simp [hd, hn, hi]) ⟨rfl, rfl⟩

theorem interfaceCalibration_completes (hn : s.deferredNow s.power.calChannel = false) (hi : s.power.channelNext ≤ s.duskIndex) :
    Completes .interfaceCalibration s (fun u => u.power.calChannel = (s.power.calChannel + 1) % 1088 ∧ u.mem = s.mem) :=
  completes_of_when (exec_interfaceCalibration s) (by simp [hd, hn, hi]) ⟨rfl, rfl⟩

theorem flashGarbageCollect_completes (wear : Nat) (hs : s.served = true) (ho : s.dget 0x2850 0 ≤ wear) :
    Completes (.flashGarbageCollect wear) s (fun u => u.dget 0x2850 0 = wear % 2 ^ 32 ∧ u.mem = s.mem) := by
  refine completes_of_when (exec_flashGarbageCollect wear s) (by simp [hd, hs, ho]) ⟨?_, State.ite_keeps (u := s) rfl rfl⟩
  split
  · exact State.dget_dset ..
  · exact State.dget_dset ..

theorem guardBandRaise_completes (die : Fin 4) (hr : pget s.power.raiseDue die = true) (hi : s.power.canaryNext < s.duskIndex + 4096) :
    Completes (.guardBandRaise die) s (fun u => u.dget 0x2840 (die + 1) = s.dget 0x2840 (die + 1) + 5 ∧ pget u.power.raiseDue die = false) := by
  refine completes_of_when (exec_guardBandRaise die s) (by simp [hd, hr, hi]) ⟨?_, ?_⟩
  · split
    · exact State.dget_dset ..
    · exact State.dget_dset ..
  · split
    · exact pget_pset_same ..
    · exact pget_pset_same ..

omit hd in
/-- A margin of one die changes nothing of another. -/
theorem State.canary_other (s : State) {d e : Fin 4} (h : d ≠ e) (m : Int) :
    (s.canary e m).dget 0x2841 (d + 1) = s.dget 0x2841 (d + 1) ∧ (s.canary e m).dget 0x2840 (d + 1) = s.dget 0x2840 (d + 1) ∧
    pget (s.canary e m).power.canaryLow d = pget s.power.canaryLow d ∧ pget (s.canary e m).power.raiseDue d = pget s.power.raiseDue d := by
  have hv : d.val ≠ e.val := fun hv => h (Fin.ext hv)
  refine ⟨State.dget_dset_other _ _ _ _ _ _ (by simp only [entryKey]; omega), State.dget_dset_other _ _ _ _ _ _ (by simp only [entryKey]; omega),
    pget_pset_other _ _ _ _ h, ?_⟩
  exact (apply_ite (fun p => pget p d.val) _ _ _).trans ((ite_congr rfl (fun _ => pget_pset_other _ _ _ _ h) (fun _ => rfl)).trans (ite_self _))

end

/-- What a margin m of a die gives: it is published, and it counts towards a rise of the guard band. -/
def Measured (s u : State) (d : Fin 4) (m : Int) : Prop :=
  u.dget 0x2841 (d + 1) = ofSigned 16 m ∧
  (m < 12 → pget s.power.canaryLow d = 7 → s.dget 0x2840 (d + 1) < 60 → pget u.power.raiseDue d = true) ∧
  (12 ≤ m → pget u.power.canaryLow d = 0 ∧ pget u.power.raiseDue d = pget s.power.raiseDue d)

theorem State.canary_measured (s : State) (d : Fin 4) (m : Int) : Measured s (s.canary d m) d m := by
  refine ⟨State.dget_dset .., fun hm hl hg => ?_, fun hm => ?_⟩
  · simp [State.canary, hm, hl, hg]
  · simp [State.canary, Int.not_lt.mpr hm]

namespace Measured
section
variable {s u : State} {d e : Fin 4} {m : Int} (h : d ≠ e) (n : Int)
include h

theorem after (hu : Measured s u d m) : Measured s (u.canary e n) d m := by
  obtain ⟨h1, -, h3, h4⟩ := u.canary_other h n
  rw [Measured, h1, h3, h4]
  exact hu

theorem before (hu : Measured (s.canary e n) u d m) : Measured s u d m := by
  obtain ⟨-, h2, h3, h4⟩ := s.canary_other h n
  rw [Measured, h2, h3, h4] at hu
  exact hu

end
end Measured

/-- The four margins of a measurement, each of its die. -/
theorem canaries_measured (s : State) (m : Nat → Int) (d : Fin 4) : Measured s ((List.range 4).foldl (fun s d => s.canary d (m d)) s) d (m d) := by
  have hx : (List.range 4).foldl (fun s d => s.canary d (m d)) s = (((s.canary (0 : Fin 4) (m 0)).canary (1 : Fin 4) (m 1)).canary (2 : Fin 4) (m 2)).canary (3 : Fin 4) (m 3) := rfl
  rw [hx]
  match d with
  | 0 => exact ((State.canary_measured ..).after (by decide) _ |>.after (by decide) _).after (by decide) _
  | 1 => exact (((State.canary_measured ..).before (by decide) _).after (by decide) _).after (by decide) _
  | 2 => exact (((State.canary_measured ..).before (by decide) _).before (by decide) _).after (by decide) _
  | 3 => exact (((State.canary_measured ..).before (by decide) _).before (by decide) _).before (by decide) _

theorem canaryMeasure_completes {s : State} (hd : s.duskOn = true) (margins : List Int) (hl : margins.length = 4) (hi : s.power.canaryNext ≤ s.duskIndex) :
    Completes (.canaryMeasure margins) s (fun u => u.power.canaryNext = s.duskIndex + 4096 ∧ ∀ d : Fin 4, Measured s u d (margins.getD d 0)) := by
  have hx := exec_canaryMeasure margins s
  rw [execCanaryMeasure, if_neg (not_not.mpr hl)] at hx
  exact completes_of_when hx (by simp [hd, hi]) ⟨rfl, fun d => canaries_measured s (fun d => margins.getD d 0) d⟩

/-- Settles O48: sense failures, coolant sensors and averages, and the background work of dusk slots. -/
theorem powerBackground : Obligations.PowerBackground := fun _ =>
  ⟨fun die which reading hw => ⟨senseOpen_remote hw die which reading, senseOpen_divider hw die which reading, senseOpen_junction hw die which reading⟩,
    fun i reading hw => ⟨coolantSensor_failed hw i reading, coolantSensor_reported hw i reading⟩, coolantAverage_completes,
    fun hd => ⟨canaryMeasure_completes hd, guardBandRaise_completes hd, sensorCalibration_completes hd, currentSenseCalibration_completes hd,
      interfaceCalibration_completes hd, flashGarbageCollect_completes hd⟩⟩

end Sys2Proof.Machine
end

section
/-! SUPPORT. SPDM connections (R412, R413, R420, R422): how a request is answered by its connection's state, and what each request leaves. -/

namespace Sys2Proof.Machine

/-! ### Requests of a connection (R422) -/

section
variable {s : State} {tr code len ver least : Nat} {request : Bytes} {f : State → State} (hs : s.spdmServed tr = true)
  (hlen : len ≤ request.length) (hcode : leAt request 1 1 = code)
include hs hlen hcode

theorem State.spdmRequest_served : s.spdmRequest tr code len ver least request f = .next
    (if s.spdmState tr = 4 ∧ code ≠ 0x84 then s.spdmError tr 0x43 0
      else if leAt request 0 1 ≠ ver then s.spdmError tr 0x41 0
      else if s.spdmState tr < least then s.spdmError tr 0x04 0
      else f s) := by
  rw [State.spdmRequest, if_neg (by simp [hlen, hcode]), hs, when_true]

theorem State.spdmRequest_lost (hst : s.spdmState tr = 4) (hc : code ≠ 0x84) : s.spdmRequest tr code len ver least request f = .next (s.spdmError tr 0x43 0) := by
  rw [State.spdmRequest_served hs hlen hcode, if_pos ⟨hst, hc⟩]

theorem State.spdmRequest_mismatch (hst : s.spdmState tr ≠ 4) (hv : leAt request 0 1 ≠ ver) :
    s.spdmRequest tr code len ver least request f = .next (s.spdmError tr 0x41 0) := by
  rw [State.spdmRequest_served hs hlen hcode, if_neg (fun h => hst h.1), if_pos hv]

theorem State.spdmRequest_early (hst : s.spdmState tr ≠ 4) (hv : leAt request 0 1 = ver) (hl : s.spdmState tr < least) :
    s.spdmRequest tr code len ver least request f = .next (s.spdmError tr 0x04 0) := by
  rw [State.spdmRequest_served hs hlen hcode, if_neg (fun h => hst h.1), if_neg (not_not.mpr hv), if_pos hl]

theorem State.spdmRequest_acts (hst : s.spdmState tr ≠ 4 ∨ code = 0x84) (hv : leAt request 0 1 = ver) (hl : least ≤ s.spdmState tr) :
    s.spdmRequest tr code len ver least request f = .next (f s) := by
  rw [State.spdmRequest_served hs hlen hcode, if_neg (fun h => hst.elim (absurd h.1) h.2), if_neg (not_not.mpr hv), if_neg (Nat.not_lt.mpr hl)]

/-- A request whose state is not the first answers an error in a connection that was lost, under another version, and before a version is known. -/
theorem errors_of_request {c : Instr} (hx : exec c s = s.spdmRequest tr code len ver least request f) (hc : code ≠ 0x84) (h0 : s.spdmState tr = 0 →
    leAt request 0 1 = ver → s.spdmState tr < least ∨ f s = s.spdmError tr 0x04 0) :
    (s.spdmState tr = 4 → exec c s = .next (s.spdmError tr 0x43 0)) ∧
    (s.spdmState tr ≠ 4 → leAt request 0 1 ≠ ver → exec c s = .next (s.spdmError tr 0x41 0)) ∧
    (s.spdmState tr = 0 → leAt request 0 1 = ver → exec c s = .next (s.spdmError tr 0x04 0)) := by
  refine ⟨fun h => hx.trans (State.spdmRequest_lost hs hlen hcode h hc), fun h hv => hx.trans (State.spdmRequest_mismatch hs hlen hcode h hv), fun h hv => ?_⟩
  rw [hx, State.spdmRequest_served hs hlen hcode, if_neg (by omega), if_neg (not_not.mpr hv)]
  split
  · rfl
  · rw [(h0 h hv).resolve_left (by assumption)]

/-- A request that its connection's state allows is acted on. -/
theorem completes_of_request {c : Instr} {P : State → Prop} (hx : exec c s = s.spdmRequest tr code len ver least request f) (hst : s.spdmState tr ≠ 4 ∨ code = 0x84)
    (hv : leAt request 0 1 = ver) (hl : least ≤ s.spdmState tr) (hp : P (f s)) : Completes c s P :=
  completes_of_next (hx.trans (State.spdmRequest_acts hs hlen hcode hst hv hl)) hp

end

/-! ### What answers leave of a connection -/

theorem State.spdmState_spdmMove (s : State) (tr state : Nat) (bs : Bytes) : (s.spdmMove tr state bs).spdmState tr = state := tget_tset_same ..

/-! ### Version, capabilities and algorithms -/

section
variable {s : State} {tr : Fin 3} {request : Bytes} (hs : s.spdmServed tr = true)
include hs

theorem getVersion_completes (hlen : 4 ≤ request.length) (hcode : leAt request 1 1 = 0x84) (hv : leAt request 0 1 = 0x10) :
    Completes (.getVersion tr request) s (fun u => u.spdmState tr = 1 ∧ u.out = .spdm tr [0x10, 0x04, 0, 0, 0, 1, 0x00, 0x12] :: s.out) := by
  have hx := exec_getVersion tr request s
  dsimp only [execGetVersion] at hx
  refine completes_of_request hs hlen hcode hx (.inr rfl) hv (Nat.zero_le _) ⟨?_, rfl⟩
  exact State.spdmState_spdmMove ..

theorem getCapabilities_completes (hlen : 20 ≤ request.length) (hcode : leAt request 1 1 = 0xE1) (hv : leAt request 0 1 = 0x12) (hst : s.spdmState tr = 1) :
    Completes (.getCapabilities tr request) s (fun u => u.spdmState tr = 2 ∧ u.free = s.free + 2) := by
  have hx := exec_getCapabilities tr request s
  dsimp only [execGetCapabilities] at hx
  refine completes_of_request hs hlen hcode hx (.inl (by omega)) hv (Nat.zero_le _) ?_
  rw [if_neg (not_not.mpr hst)]
  exact ⟨State.spdmState_spdmMove .., rfl⟩

theorem getCapabilities_unexpected (hlen : 20 ≤ request.length) (hcode : leAt request 1 1 = 0xE1) (hv : leAt request 0 1 = 0x12) (hst : s.spdmState tr ≠ 1)
    (hl : s.spdmState tr ≠ 4) : exec (.getCapabilities tr request) s = .next (s.spdmError tr 0x04 0) := by
  have hx := exec_getCapabilities tr request s
  dsimp only [execGetCapabilities] at hx
  obtain ⟨u, hu, rfl⟩ := completes_of_request (P := fun u => u = s.spdmError tr 0x04 0) hs hlen hcode hx (.inl hl) hv (Nat.zero_le _)
    (if_pos hst)
  exact hu

theorem negotiateAlgorithms_completes (hlen : 32 ≤ request.length) (hcode : leAt request 1 1 = 0xE3) (hv : leAt request 0 1 = 0x12) (hst : s.spdmState tr = 2)
    (ha : leAt request 8 4 &&& 0x400 ≠ 0) (hh : leAt request 12 4 &&& 0x04 ≠ 0) :
    Completes (.negotiateAlgorithms tr request) s (fun u => u.spdmState tr = 3) := by
  have hx := exec_negotiateAlgorithms tr request s
  dsimp only [execNegotiateAlgorithms] at hx
  refine completes_of_request hs hlen hcode hx (.inl (by omega)) hv (Nat.zero_le _) ?_
  rw [if_neg (not_not.mpr hst), if_neg (by simp [ha, hh])]
  exact State.spdmState_spdmMove ..

theorem negotiateAlgorithms_refused (hlen : 32 ≤ request.length) (hcode : leAt request 1 1 = 0xE3) (hv : leAt request 0 1 = 0x12) (hst : s.spdmState tr = 2)
    (ha : leAt request 8 4 &&& 0x400 = 0 ∨ leAt request 12 4 &&& 0x04 = 0) : exec (.negotiateAlgorithms tr request) s = .next (s.spdmError tr 0x01 0) := by
  have hx := exec_negotiateAlgorithms tr request s
  dsimp only [execNegotiateAlgorithms] at hx
  obtain ⟨u, hu, rfl⟩ := completes_of_request (P := fun u => u = s.spdmError tr 0x01 0) hs hlen hcode hx (.inl (by omega)) hv
    (Nat.zero_le _) ((if_neg (not_not.mpr hst)).trans (if_pos ha))
  exact hu

/-! ### Certificates, challenges and measurements -/

section
variable (hv : leAt request 0 1 = 0x12) (hst : s.spdmState tr = 3)
include hv hst

theorem getDigests_completes (hlen : 4 ≤ request.length) (hcode : leAt request 1 1 = 0x81) :
    Completes (.getDigests tr request) s (fun u => u.spdmState tr = 3 ∧ u.out = .spdm tr (spdmMsg 0x01 0 1 (digest spdmChain)) :: s.out) :=
  completes_of_request hs hlen hcode (exec_getDigests tr request s) (.inl (by omega)) hv (by omega) ⟨hst, rfl⟩

theorem getCertificate_completes (hlen : 8 ≤ request.length) (hcode : leAt request 1 1 = 0x82) (hslot : leAt request 2 1 % 16 = 0)
    (hoff : leAt request 4 2 < spdmChain.length) (n : Nat) (hn : n = min (min (leAt request 6 2) 1024) (spdmChain.length - leAt request 4 2)) :
    Completes (.getCertificate tr request) s (fun u => u.spdmState tr = 3 ∧
      u.out = .spdm tr (spdmMsg 0x02 0 0 (natLe 2 n ++ natLe 2 (spdmChain.length - leAt request 4 2 - n) ++ slice spdmChain (leAt request 4 2) n)) :: s.out) := by
  subst hn
  have hx := exec_getCertificate tr request s
  dsimp only [execGetCertificate] at hx
  refine completes_of_request hs hlen hcode hx (.inl (by omega)) hv (by omega) ?_
  rw [if_neg (not_or.mpr ⟨not_not.mpr hslot, Nat.not_le.mpr hoff⟩)]
  exact ⟨hst, rfl⟩

omit hs hv hst in
theorem spdmMsg_append (code p1 p2 : Nat) (rest sig : Bytes) : spdmMsg code p1 p2 rest ++ sig = spdmMsg code p1 p2 (rest ++ sig) := by
  simp only [spdmMsg, List.append_assoc]

theorem challenge_completes (hlen : 36 ≤ request.length) (hcode : leAt request 1 1 = 0x83) (hslot : leAt request 2 1 = 0) (hkind : leAt request 3 1 ∈ [0, 1, 255]) :
    Completes (.challenge tr request) s (fun u => u.free = s.free + 1 ∧ ∃ rest : Bytes,
      u.out = .spdm tr (spdmMsg 0x03 0 1 (digest spdmChain ++ (List.range 32).map (Config.nonce s.free) ++ rest)) :: s.out) := by
  have hx := exec_challenge tr request s
  dsimp only [execChallenge] at hx
  refine completes_of_request hs hlen hcode hx (.inl (by omega)) hv (by omega) ?_
  rw [if_neg (by simp [hslot, hkind])]
  refine ⟨rfl, ?_⟩
  simp only [State.spdmSend, State.emit, spdmMsg_append, List.append_assoc]
  exact ⟨_, rfl⟩

theorem getMeasurements_counts (hlen : 4 ≤ request.length) (hcode : leAt request 1 1 = 0xE0) (hsign : leAt request 2 1 % 2 = 0) (hidx : leAt request 3 1 = 0) :
    Completes (.getMeasurements tr request) s (fun u => u.free = s.free + 1 ∧
      u.out = .spdm tr (spdmMsg 0x60 9 0 ([0, 0, 0, 0] ++ (List.range 32).map (Config.nonce s.free) ++ [0, 0])) :: s.out) := by
  have hbit : bit (leAt request 2 1) 0 = false := by simp [bit, field, hsign]
  have hx := exec_getMeasurements tr request s
  dsimp only [execGetMeasurements] at hx
  refine completes_of_request hs (by rw [hbit]; exact hlen) hcode hx (.inl (by omega)) hv (by omega) ?_
  simp only [hbit, hidx]
  rw [if_neg (by simp), if_neg Bool.false_ne_true]
  refine ⟨rfl, ?_⟩
  simp only [State.spdmSend, State.emit, if_true]
  rfl

end
end

/-- Settles O45: the order of a connection's states, what each request is answered with, and the errors otherwise. -/
theorem spdmConnection : Obligations.SpdmConnection := by
  intro s tr request hs
  refine ⟨getVersion_completes hs, fun hlen hcode hv => ⟨getCapabilities_completes hs hlen hcode hv, getCapabilities_unexpected hs hlen hcode hv⟩,
    fun hlen hcode hv hst => ⟨negotiateAlgorithms_completes hs hlen hcode hv hst, negotiateAlgorithms_refused hs hlen hcode hv hst⟩,
    fun hv hst => ⟨getDigests_completes hs hv hst, getCertificate_completes hs hv hst, challenge_completes hs hv hst, getMeasurements_counts hs hv hst⟩,
    fun c code len hc hlen hcode => ?_, fun hlen hcode => ?_⟩
  · simp only [List.mem_cons, Prod.mk.injEq, List.not_mem_nil, or_false] at hc
    obtain ⟨rfl, rfl, rfl⟩ | ⟨rfl, rfl, rfl⟩ | ⟨rfl, rfl, rfl⟩ | ⟨rfl, rfl, rfl⟩ | ⟨rfl, rfl, rfl⟩ | ⟨rfl, rfl, rfl⟩ := hc
    · have hx := exec_getCapabilities tr request s
      dsimp only [execGetCapabilities] at hx
      exact errors_of_request hs hlen hcode hx (by decide) fun h _ => .inr (if_pos (by omega))
    · have hx := exec_negotiateAlgorithms tr request s
      dsimp only [execNegotiateAlgorithms] at hx
      exact errors_of_request hs hlen hcode hx (by decide) fun h _ => .inr (if_pos (by omega))
    · exact errors_of_request hs hlen hcode (exec_getDigests tr request s) (by decide) fun h _ => .inl (by omega)
    · have hx := exec_getCertificate tr request s
      dsimp only [execGetCertificate] at hx
      exact errors_of_request hs hlen hcode hx (by decide) fun h _ => .inl (by omega)
    · have hx := exec_challenge tr request s
      dsimp only [execChallenge] at hx
      exact errors_of_request hs hlen hcode hx (by decide) fun h _ => .inl (by omega)
    · have hx := exec_getMeasurements tr request s
      dsimp only [execGetMeasurements] at hx
      exact errors_of_request hs (by split <;> omega) hcode hx (by decide) fun h _ => .inl (by omega)
  · rw [exec_spdmUnsupportedRequest, execSpdmUnsupportedRequest]
    rw [if_neg (by simp [hlen, hcode]), hs, when_true]

end Sys2Proof.Machine
end

section
/-! SUPPORT. O42: the management port below UDP, and the I3C target port (R401, R409 to R411) -/

namespace Sys2Proof.Machine

/-! ### The management port below UDP (R401) -/

theorem mgmtLinkUp_completes {s : State} (hd : s.dpServed = true) (dup : Bool) :
    Completes (.mgmtLinkUp dup) s (fun u => u.prot.mgmtUp = !dup ∧ u.out = .mgmt dadPacket.encode :: s.out) :=
  completes_of_when (exec_mgmtLinkUp dup s) hd ⟨rfl, rfl⟩

theorem State.mgmtAnswer_served {s : State} (hd : s.dpServed = true) (hu : s.prot.mgmtUp = true) (p : Option NetPacket) :
    s.mgmtAnswer p = .next (match p with | some q => s.emit (.mgmt q.encode) | none => s) := by
  unfold State.mgmtAnswer
  rw [hd, hu]
  rfl

/-! ### Vendor messages over I3C (R410) -/

/-- The first byte of a message of this vendor. -/
theorem leAt_vendorHead_append (bs : Bytes) : leAt (vendorHead ++ bs) 0 1 = 0x7E := by
  rw [vendorHead, List.append_assoc, leAt_natLe_append]
  rfl

/-- A vendor message of this vendor has the form of one. -/
theorem vendorForm_of_data {code n : Nat} {request d : Bytes} (h : vendorData code n request = some d) : vendorForm code (4 + n) request = true := by
  unfold vendorData at h
  split at h
  · rename_i hm
    obtain ⟨hlen, hhead, hcode⟩ := hm
    have h0 : leAt request 0 1 = 0x7E := by rw [← List.take_append_drop 3 request, hhead, leAt_vendorHead_append]
    simp [vendorForm, hlen, h0, hcode]
  · cases h

section
variable {s : State} (hs : s.i3cServed = true) {request d : Bytes}
include hs

theorem i3cDictionaryRead_unflagged (hd : vendorData 0x01 9 request = some d) (hf : ∀ e, findEntry (leAt d 0 2) (leAt d 2 1) = some e → bit e.flags 2 = false) :
    exec (.i3cDictionaryRead request) s = .next (s.emit (.i3c (vendorHead ++ [0x81, 0x01]))) := by
  rw [exec_i3cDictionaryRead, execI3cDictionaryRead, if_neg (by simp [vendorForm_of_data hd]), hd]
  dsimp only
  rw [hs]
  cases he : findEntry (leAt d 0 2) (leAt d 2 1) with
  | none => rfl
  | some e =>
    dsimp only
    rw [hf e he]
    rfl

theorem i3cDictionaryRead_short (hd : vendorData 0x01 9 request = some d) {e : Entry} {t : State} {code : Nat} {bs : Bytes}
    (he : findEntry (leAt d 0 2) (leAt d 2 1) = some e) (hf : bit e.flags 2 = true) (hl : e.isLong = false) (ho : leAt d 3 4 = 0) (hn : leAt d 7 2 = e.size)
    (hr : s.readEntry .i3c (leAt d 0 2) (leAt d 2 1) = (t, code, bs)) :
    exec (.i3cDictionaryRead request) s = .next (t.emit (.i3c (vendorHead ++ [0x81] ++ natLe 1 code ++ bs))) := by
  rw [exec_i3cDictionaryRead, execI3cDictionaryRead, if_neg (by simp [vendorForm_of_data hd]), hd]
  dsimp only
  rw [hs, he]
  dsimp only
  rw [if_neg (by simp [hf]), if_neg (by simp [hl]), if_neg (by simp [ho]), if_neg (by simp [hn]), hr]
  rfl

theorem i3cProvisioningWrite_refused (hd : vendorData 0x02 43 request = some d) (hk : leAt d 0 2 ≠ 0x1210 ∨ leAt d 2 1 = 0 ∨ 8 < leAt d 2 1) :
    exec (.i3cProvisioningWrite request) s = .next (s.emit (.i3c (vendorHead ++ [0x82, 0x05]))) := by
  rw [exec_i3cProvisioningWrite, execI3cProvisioningWrite, if_neg (by simp [vendorForm_of_data hd]), hd]
  dsimp only
  rw [hs, if_neg (by omega)]
  rfl

theorem i3cProvisioningWrite_key (hd : vendorData 0x02 43 request = some d) (hi : leAt d 0 2 = 0x1210) (h1 : 1 ≤ leAt d 2 1) (h8 : leAt d 2 1 ≤ 8) (t : State) (code : Nat)
    (hw : s.writeEntry .i3c 0x1210 (leAt d 2 1) (d.drop 3) = (t, code)) :
    exec (.i3cProvisioningWrite request) s = .next (t.emit (.i3c (vendorHead ++ [0x82] ++ natLe 1 code))) := by
  rw [exec_i3cProvisioningWrite, execI3cProvisioningWrite, if_neg (by simp [vendorForm_of_data hd]), hd]
  dsimp only
  rw [hs, if_pos ⟨hi, h1, h8⟩, hi, hw]
  rfl

/-! ### MCTP control messages (R409) -/

theorem State.mctpControl_served {code : Nat} {data : Bytes} (hd : mctpData code request = some data) (f : Bytes → State) :
    s.mctpControl code request f = .next (f data) := by
  rw [State.mctpControl, hd]
  dsimp only
  rw [hs, when_true]

theorem setEndpointId_completes {data : Bytes} (hd : mctpData 1 request = some data) (hlen : data.length = 2) (hop : leAt data 0 1 % 4 < 2) (h0 : leAt data 1 1 ≠ 0)
    (h255 : leAt data 1 1 ≠ 255) : Completes (.setEndpointId request) s (fun u => u.prot.eid = some (leAt data 1 1)) := by
  refine completes_of_next (State.mctpControl_served hs hd _) ?_
  rw [if_neg (by simp [hlen]), if_neg (by omega)]
  rfl

theorem setEndpointId_invalid {data : Bytes} (hd : mctpData 1 request = some data) (he : leAt data 1 1 = 0 ∨ leAt data 1 1 = 255) :
    Completes (.setEndpointId request) s (fun u => u.prot.eid = s.prot.eid) := by
  refine completes_of_next (State.mctpControl_served hs hd _) ?_
  split
  · rfl
  · rw [if_pos (by omega)]
    rfl

theorem getEndpointId_answers {data : Bytes} (hd : mctpData 2 request = some data) :
    exec (.getEndpointId request) s = .next (s.mctpAnswer request ([0x00] ++ natLe 1 (s.prot.eid.getD 0) ++ [0x00, 0x00])) := by
  rw [exec_getEndpointId, execGetEndpointId, State.mctpControl_served hs hd, List.append_assoc, List.append_assoc, List.append_assoc]
  rfl

theorem getMctpVersionSupport_answers {data : Bytes} (hd : mctpData 4 request = some data) (ht : leAt data 0 1 ∈ [0x00, 0x05, 0x7E, 0xFF]) :
    ∃ v : BitVec 32, exec (.getMctpVersionSupport request) s = .next (({ s with free := s.free + 1 } : State).mctpAnswer request ([0x00, 0x01] ++ natLe 4 v.toNat)) := by
  refine ⟨BitVec.ofNat 32 (Config.free s.free), ?_⟩
  rw [exec_getMctpVersionSupport, execGetMctpVersionSupport, State.mctpControl_served hs hd, if_pos ht, BitVec.toNat_ofNat]
  rfl

theorem getMctpVersionSupport_unsupported {data : Bytes} (hd : mctpData 4 request = some data) (ht : leAt data 0 1 ∉ [0x00, 0x05, 0x7E, 0xFF]) :
    exec (.getMctpVersionSupport request) s = .next (s.mctpAnswer request [0x80]) := by
  rw [exec_getMctpVersionSupport, execGetMctpVersionSupport, State.mctpControl_served hs hd, if_neg ht]
  rfl

theorem getMessageTypeSupport_answers {data : Bytes} (hd : mctpData 5 request = some data) :
    exec (.getMessageTypeSupport request) s = .next (s.mctpAnswer request [0x00, 0x03, 0x00, 0x05, 0x7E]) := by
  rw [exec_getMessageTypeSupport, execGetMessageTypeSupport, State.mctpControl_served hs hd]
  rfl

end

theorem i3cTargetReset_completes {s : State} (hv : s.viaMay .i3c = true) :
    Completes .i3cTargetReset s (fun u => u.prot.i3cAddr = none ∧ u.prot.eid = none ∧ tget 0 u.prot.spdm 0 = 4 ∧ ∀ g ∈ u.prot.segs, g.holder ≠ i3cHolder) := by
  refine completes_of_when (exec_i3cTargetReset s) hv ⟨rfl, rfl, tget_tset_same .., fun g hg => ?_⟩
  simpa using (List.mem_filter.mp hg).2

/-- Settles O42: the management port below UDP, vendor and control messages over I3C, and its target reset. -/
theorem managementAndI3c : Obligations.ManagementAndI3c := fun _ =>
  ⟨mgmtLinkUp_completes, fun hd hu _ => ⟨State.mgmtAnswer_served hd hu _, State.mgmtAnswer_served hd hu _⟩,
    fun hs _ _ => ⟨fun hd => ⟨i3cDictionaryRead_unflagged hs hd, fun _ _ _ _ => i3cDictionaryRead_short hs hd⟩,
      fun hd => ⟨i3cProvisioningWrite_refused hs hd, i3cProvisioningWrite_key hs hd⟩⟩,
    fun hs _ _ => ⟨fun hd => ⟨setEndpointId_completes hs hd, setEndpointId_invalid hs hd⟩, getEndpointId_answers hs,
      fun hd => ⟨getMctpVersionSupport_answers hs hd, getMctpVersionSupport_unsupported hs hd⟩, getMessageTypeSupport_answers hs⟩,
    i3cTargetReset_completes⟩

end Sys2Proof.Machine
end

section
/-! SUPPORT. O39: a write of a short entry (R390 to R399): the order of its refusals, its effect, and a write of bytes over BAR0 -/

namespace Sys2Proof.Machine

/-! ### What a path gets for an access (R394, R399) -/

section
variable {s : State} {via : Via} (hk : s.power.hkUp = true) (hv : s.viaMay via = true)
include hk hv

/-- An access by a path that reaches the dictionary is answered with its code. -/
theorem State.accessed_served (idx sub : Nat) (r : State × Nat) : s.accessed via idx sub r = .next (r.1.answerVia via r.2 idx sub) := by
  rw [State.accessed, hk, hv]
  rfl

/-! ### A write of a number (R390 to R394) -/

theorem State.regWrite_unknown {idx sub v : Nat} (hn : findEntry idx sub = none) : s.regWrite via idx sub v = .next (s.answerVia via 0x01 idx sub) := by
  rw [State.regWrite, hn]
  exact State.accessed_served hk hv ..

theorem State.regWrite_unsuited {idx sub v : Nat} {e : Entry} (he : findEntry idx sub = some e) (hw : e.isLong = true ∨ 2 ^ (8 * e.size) ≤ v) :
    s.regWrite via idx sub v = .next (s.answerVia via 0x07 idx sub) := by
  rw [State.regWrite, he]
  exact (if_pos (by simpa using hw)).trans (State.accessed_served hk hv ..)

/-- A number that fits a short entry is written to it. -/
theorem State.regWrite_fits {idx sub v : Nat} {e : Entry} (he : findEntry idx sub = some e) (hl : e.isLong = false) (hf : v < 2 ^ (8 * e.size)) :
    s.regWrite via idx sub v =
      .next ((s.writeShort via e sub (natLe e.size v)).1.answerVia via (s.writeShort via e sub (natLe e.size v)).2 idx sub) := by
  have hw : s.writeEntry via idx sub (natLe e.size v) = s.writeShort via e sub (natLe e.size v) := by rw [State.writeEntry, he]; exact if_neg (by simp [hl])
  rw [State.regWrite, he]
  refine (if_neg (by simpa [hl] using hf)).trans ?_
  rw [State.access, State.accessed_served hk hv, hw]

end

section
variable {s : State} {via : Via} {e : Entry} {sub v : Nat}

theorem State.writeShort_unauthorised {bs : Bytes} (hc : s.writeCode via e sub ≠ 0) : s.writeShort via e sub bs = (s, s.writeCode via e sub) := if_pos hc

theorem State.writeShort_foreign {bs : Bytes} (hc : s.writeCode via e sub = 0) (ho : otherWindow via e.index = true) : s.writeShort via e sub bs = (s, 0x07) := by
  rw [State.writeShort]
  exact (if_neg (by simp [hc])).trans (if_pos (.inr ho))

section
variable (hf : v < 2 ^ (8 * e.size)) (hc : s.writeCode via e sub = 0) (ho : otherWindow via e.index = false)
include hf hc ho

/-- A write that has its authority and its form depends on its value's check. -/
theorem State.writeShort_checks : s.writeShort via e sub (natLe e.size v) =
    match s.shortCheck e sub v with
    | 0 =>
      if (e.index = 0x1105 ∨ e.index = 0x1106) ∧ sub = 1 then s.segChoose (e.index - 0x1105) v
      else if (e.index = 0x1105 ∨ e.index = 0x1106) ∧ sub = 2 then s.segCommand (e.index - 0x1105) v
      else (s.shortApply e sub v, 0)
    | c => (s, c) := by
  rw [State.writeShort, leNat_natLe_of_lt hf]
  exact (if_neg (by simp [hc])).trans (if_neg (by simp [ho]))

theorem State.writeShort_invalid (hs : s.shortCheck e sub v ≠ 0) : s.writeShort via e sub (natLe e.size v) = (s, s.shortCheck e sub v) := by
  rw [State.writeShort_checks hf hc ho]
  split
  · contradiction
  · rfl

theorem State.writeShort_applies (hs : s.shortCheck e sub v = 0) (hw : ¬((e.index = 0x1105 ∨ e.index = 0x1106) ∧ (sub = 1 ∨ sub = 2))) :
    s.writeShort via e sub (natLe e.size v) = (s.shortApply e sub v, 0) := by
  rw [State.writeShort_checks hf hc ho, hs]
  exact (if_neg (fun h => hw ⟨h.1, .inl h.2⟩)).trans (if_neg (fun h => hw ⟨h.1, .inr h.2⟩))

end

/-! ### The code of a write before its value is looked at (R392, R394, R398) -/

theorem State.unitCode_dimServed {idx : Nat} (h : dimServed idx = true) : s.unitCode idx = 0 := if_pos h
theorem State.unitCode_starting {idx : Nat} (h : dimServed idx = false) (hm : s.boot.mode = .starting) : s.unitCode idx = 0x0A := by
  rw [State.unitCode, hm, h]
  rfl
theorem State.unitCode_dim {idx : Nat} (h : dimServed idx = false) (hm : s.boot.mode = .dim) : s.unitCode idx = 0x0D := by
  rw [State.unitCode, hm, h]
  rfl
theorem State.unitCode_ready {idx : Nat} (hm : s.boot.mode = .ready) : s.unitCode idx = 0 := by
  rw [State.unitCode, hm]
  exact ite_self ..

section
variable (ha : s.authority via e = 0)
include ha

theorem State.writeCode_unit (hu : s.unitCode e.index ≠ 0) : s.writeCode via e sub = s.unitCode e.index := by
  rw [State.writeCode]
  exact (if_neg (by simp [ha])).trans (if_pos hu)

theorem State.writeCode_class (hu : s.unitCode e.index = 0) : s.writeCode via e sub =
    match e.access with
    | .const | .ro => 0x02
    | .rwa => if s.rwaLocked && (s.otherBuffer e.index sub).isNone then 0x04 else 0
    | _ => 0 := by
  rw [State.writeCode]
  exact (if_neg (by simp [ha])).trans (if_neg (by simp [hu]))

theorem State.writeCode_readOnly (hd : dimServed e.index = true) (hr : e.access = .ro ∨ e.access = .const) : s.writeCode via e sub = 0x02 := by
  rw [State.writeCode_class ha (State.unitCode_dimServed hd)]
  rcases hr with hr | hr
  · rw [hr]
  · rw [hr]

theorem State.writeCode_locked (hm : s.boot.mode = .ready) (hr : e.access = .rwa) (hl : s.rwaLocked = true) (ho : s.otherBuffer e.index sub = none) :
    s.writeCode via e sub = 0x04 := by
  rw [State.writeCode_class ha (State.unitCode_ready hm), hr, hl, ho]
  rfl

end

theorem State.rwaLocked_of_mem (h : s.alm.state ∈ [AlmanacState.checking, .armed, .running, .paused]) : s.rwaLocked = true := by
  unfold State.rwaLocked
  revert h
  cases s.alm.state
  all_goals simp

theorem State.otherBuffer_none {idx : Nat} (h : ¬((idx = 0x2110 ∧ sub ≠ 0 ∧ s.alm.activeBuf ≠ .a) ∨ (idx = 0x2111 ∧ sub ≠ 0 ∧ s.alm.activeBuf ≠ .b))) :
    s.otherBuffer idx sub = none := (if_neg (fun ha => h (.inl ha))).trans (if_neg (fun hb => h (.inr hb)))

theorem State.shortCheck_range (h : v < e.min ∨ e.max < v) : s.shortCheck e sub v = 0x06 := if_pos h

theorem State.authority_bar0_secure (p : Fin 2) (hr : e.access = .rws) (h : e.index ≠ 0x1210 ∨ s.hasAdmin = true) : s.authority (.bar0 p) e = 0x05 := by
  have hp : (e.index == 0x1210 && !s.hasAdmin) = false := by simpa using imp_iff_not_or.mpr h
  simp [State.authority, hp, hr]

end

/-! ### A write of bytes at an offset of BAR0 (R398, R400) -/

section
variable {s : State} {port : Fin 2} (hk : s.power.hkUp = true) (hv : s.viaMay (.bar0 port) = true)
  {o i j k : Nat} {bs : Bytes} {e : Entry} (hp : bar0Place port o = .slot i j k) (hfit : bar0Fits o bs.length 256 = true) (he : findEntry i j = some e)
include hk hv hp hfit

theorem State.bar0Write_slot : s.bar0Write port o bs = .next ((s.slotWrite port i j k bs).1.answerVia (.bar0 port) (s.slotWrite port i j k bs).2 i j) := by
  rw [State.bar0Write, hp]
  exact (if_neg (by simp [hfit])).trans (State.accessed_served hk hv ..)

include he

theorem State.bar0Write_covers (hk0 : k = 0) (hl : e.isLong = false) (hn : bs.length = 8 ∨ bs.length = 4) (hs : e.size ≤ bs.length) (hz : ∀ b ∈ bs.drop e.size, b = 0) :
    s.bar0Write port o bs = .next ((s.writeEntry (.bar0 port) i j (bs.take e.size)).1.answerVia (.bar0 port) (s.writeEntry (.bar0 port) i j (bs.take e.size)).2 i j) := by
  have hw : s.slotWrite port i j k bs = s.writeEntry (.bar0 port) i j (bs.take e.size) := by
    rw [State.slotWrite, he]
    refine if_neg ?_
    have hz' : ((bs.drop e.size).all (fun b => b == 0)) = true := List.all_eq_true.mpr (by simpa using hz)
    have hn' : (bs.length == 8 || bs.length == 4) = true := by simpa using hn
    simp only [hl, hk0, hs, hn', hz', beq_self_eq_true, decide_true, Bool.and_self, Bool.not_true, Bool.or_self, Bool.false_eq_true, not_false_eq_true]
  rw [State.bar0Write_slot hk hv hp hfit, hw]

theorem State.bar0Write_unsuited (hw : e.isLong = true ∨ k ≠ 0 ∨ (bs.length ≠ 8 ∧ bs.length ≠ 4) ∨ bs.length < e.size) :
    s.bar0Write port o bs = .next (s.answerVia (.bar0 port) 0x07 i j) := by
  have hw : s.slotWrite port i j k bs = (s, 0x07) := by
    rw [State.slotWrite, he]
    refine if_pos ?_
    simp only [Bool.or_eq_true, Bool.not_eq_true', Bool.and_eq_false_iff, beq_eq_false_iff_ne, decide_eq_false_iff_not, Bool.or_eq_false_iff]
    rcases hw with h | h | h | h
    · exact .inl h
    · exact .inr (.inl (.inl (.inl h)))
    · exact .inr (.inl (.inr h))
    · exact .inr (.inl (.inl (.inr (by omega))))
  rw [State.bar0Write_slot hk hv hp hfit, hw]

end

/-! ### The answer (R394, R399) -/

theorem State.answerVia_bar0_refused (s : State) (p : Fin 2) (idx : BitVec 16) (sub : BitVec 8) {code : Nat} (hc : code ≠ 0) :
    s.answerVia (.bar0 p) code idx.toNat sub.toNat = s.dset 0x1101 (p + 1) (code * 2 ^ 24 + idx.toNat * 2 ^ 8 + sub.toNat) := by
  have hi : idx.toNat % 65536 = idx.toNat := Nat.mod_eq_of_lt idx.isLt
  have hs : sub.toNat % 256 = sub.toNat := Nat.mod_eq_of_lt sub.isLt
  rw [State.answerVia, hi, hs]
  exact if_neg hc

theorem State.answerVia_other (s : State) {via : Via} (h : ∀ p, via ≠ .bar0 p) (code idx sub : Nat) : s.answerVia via code idx sub = s.emit (.status code) := by
  cases via with
  | bar0 p => exact absurd rfl (h p)
  | key | unsigned | i3c => rfl

/-- Settles O39: the order of a write's refusals, its effect, and its answer. -/
theorem registerWrite : Obligations.RegisterWrite := by
  intro s via idx sub v hk hv
  have hx : exec (.registerWrite via idx sub (.whole v)) s = s.regWrite via idx.toNat sub.toNat v := by
    rw [exec_registerWrite]
    cases via
    all_goals rfl
  rw [hx]
  refine ⟨State.regWrite_unknown hk hv, fun e he hw => State.regWrite_unsuited hk hv he hw, fun e he hl hf => ?_, ?_, ?_, ?_⟩
  · have hi : e.index = idx.toNat := findEntry_index he
    have hwrite := State.regWrite_fits hk hv he hl hf
    refine ⟨fun hc => ?_, fun hc ho => ?_, fun hc ho hs => ?_, fun hc ho hs hw => ?_, fun ha hd hr => State.writeCode_readOnly ha hd hr, fun ha hm hr hstate hb => ?_,
      fun ha hd => ⟨fun hm => ?_, fun hm => ?_⟩, State.shortCheck_range, ?_⟩
    · rw [hwrite, State.writeShort_unauthorised hc]
    · rw [hwrite, State.writeShort_foreign hc ho]
    · rw [hwrite, State.writeShort_invalid hf hc ho hs]
    · have hseg : ¬((e.index = 0x1105 ∨ e.index = 0x1106) ∧ (sub.toNat = 1 ∨ sub.toNat = 2)) := by
        rw [hi]
        bv_omega
      rw [hwrite, State.writeShort_applies hf hc ho hs hseg]
    · refine State.writeCode_locked ha hm hr (State.rwaLocked_of_mem hstate) (State.otherBuffer_none ?_)
      rw [hi]
      bv_omega
    · have hu := State.unitCode_starting hd hm
      rw [State.writeCode_unit ha (by simp [hu]), hu]
    · have hu := State.unitCode_dim hd hm
      rw [State.writeCode_unit ha (by simp [hu]), hu]
    · rintro p rfl hr h
      exact State.authority_bar0_secure p hr h
  · rintro port i j at_ bs e rfl hp hfit he hl hn hs hz
    exact (exec_registerWrite ..).trans (State.bar0Write_covers hk hv hp hfit he rfl hl hn hs hz)
  · rintro port i j k at_ bs e rfl hp hfit he hw
    exact (exec_registerWrite ..).trans (State.bar0Write_unsuited hk hv hp hfit he hw)
  · intro code
    refine ⟨?_, fun h => State.answerVia_other s h ..⟩
    rintro p rfl hc
    exact State.answerVia_bar0_refused s p idx sub hc

end Sys2Proof.Machine
end

section
/-! SUPPORT. O40: the segment windows of BAR0 and the operator keys (R395, R399, R400, R404 to R406) -/

namespace Sys2Proof.Machine

/-! ### The segment entries of a port (R400) -/

theorem findEntry_segSelect (port : Fin 2) : findEntry (0x1105 + port) 1 = some ⟨0x1105 + port, 1, 1, "SEG_SELECT", 0x14, 4, .rw, .view, 0, 0, 0, 4294967295⟩ := by
  fin_cases port
  · rfl
  · rfl
theorem findEntry_segCommand (port : Fin 2) : findEntry (0x1105 + port) 2 = some ⟨0x1105 + port, 2, 2, "SEG_COMMAND", 0x11, 1, .wo, .command, 0, 0, 0, 255⟩ := by
  fin_cases port
  · rfl
  · rfl

theorem otherWindow_own (port : Fin 2) : otherWindow (.bar0 port) (0x1105 + port) = false := by
  fin_cases port
  · rfl
  · rfl

/-- Of the segment entries only SEG_BASE has a rule beyond its range. -/
theorem State.bootCheck_segment (s : State) (port : Fin 2) {sub v : Nat} (h : sub ≠ 4) : s.bootCheck (0x1105 + port) sub v = 0 := by
  fin_cases port
  · exact if_neg (by simp [h])
  · exact if_neg (by simp [h])

theorem State.shortCheck_segment {s : State} {port : Fin 2} {e : Entry} {sub v : Nat} (hi : e.index = 0x1105 + port) (h : sub ≠ 4) (hlo : e.min ≤ v) (hhi : v ≤ e.max) :
    s.shortCheck e sub v = 0 := by
  rw [State.shortCheck, if_neg (by omega), hi, if_pos (by omega), State.bootCheck_segment s port h]

/-- A port's accepted access leaves no answer in LAST_ACCESS_STATUS. -/
theorem State.answerVia_bar0_ok (s : State) (p : Fin 2) (idx sub : Nat) : s.answerVia (.bar0 p) 0 idx sub = s := rfl

/-- What is let through to a short entry reaches the dictionary with authority, unit and class allowing it. -/
theorem State.mayWrite_gives {s : State} {via : Via} {idx sub : Nat} {e : Entry} (he : findEntry idx sub = some e) (hm : s.mayWrite via idx sub = true) :
    s.power.hkUp = true ∧ s.viaMay via = true ∧ e.isLong = false ∧ s.writeCode via e sub = 0 := by
  simp only [State.mayWrite, he, Bool.and_eq_true, Bool.not_eq_true', beq_iff_eq] at hm
  obtain ⟨⟨⟨hk, hv⟩, hl⟩, hc⟩ := hm
  exact ⟨hk, hv, hl, hc⟩

section
variable {s : State} {port : Fin 2}

theorem State.writeShort_segSelect {e : Entry} {v : Nat} (hi : e.index = 0x1105 + port) (hf : v < 2 ^ (8 * e.size)) (hc : s.writeCode (.bar0 port) e 1 = 0)
    (hlo : e.min ≤ v) (hhi : v ≤ e.max) : s.writeShort (.bar0 port) e 1 (natLe e.size v) = s.segChoose port v := by
  rw [State.writeShort_checks hf hc (hi ▸ otherWindow_own port), State.shortCheck_segment hi (by decide) hlo hhi]
  refine (if_pos (by omega)).trans ?_
  rw [hi, Nat.add_sub_cancel_left]

theorem State.writeShort_segCommand {e : Entry} {v : Nat} (hi : e.index = 0x1105 + port) (hf : v < 2 ^ (8 * e.size)) (hc : s.writeCode (.bar0 port) e 2 = 0)
    (hlo : e.min ≤ v) (hhi : v ≤ e.max) : s.writeShort (.bar0 port) e 2 (natLe e.size v) = s.segCommand port v := by
  rw [State.writeShort_checks hf hc (hi ▸ otherWindow_own port), State.shortCheck_segment hi (by decide) hlo hhi]
  refine (if_neg (by omega)).trans ((if_pos (by omega)).trans ?_)
  rw [hi, Nat.add_sub_cancel_left]

theorem State.regWrite_segSelect (hm : s.mayWrite (.bar0 port) (0x1105 + port) 1 = true) {v : Nat} (h : v ≤ 0xFFFFFFFF) :
    s.regWrite (.bar0 port) (0x1105 + port) 1 v = .next ((s.segChoose port v).1.answerVia (.bar0 port) (s.segChoose port v).2 (0x1105 + port) 1) := by
  obtain ⟨hk, hv, hl, hc⟩ := State.mayWrite_gives (findEntry_segSelect port) hm
  have hf : v < 2 ^ (8 * 4) := by omega
  rw [State.regWrite_fits hk hv (findEntry_segSelect port) hl hf, State.writeShort_segSelect rfl hf hc (Nat.zero_le v) h]

theorem State.regWrite_segCommand (hm : s.mayWrite (.bar0 port) (0x1105 + port) 2 = true) {v : Nat} (h : v ≤ 0xFF) :
    s.regWrite (.bar0 port) (0x1105 + port) 2 v = .next ((s.segCommand port v).1.answerVia (.bar0 port) (s.segCommand port v).2 (0x1105 + port) 2) := by
  obtain ⟨hk, hv, hl, hc⟩ := State.mayWrite_gives (findEntry_segCommand port) hm
  have hf : v < 2 ^ (8 * 1) := by omega
  rw [State.regWrite_fits hk hv (findEntry_segCommand port) hl hf, State.writeShort_segCommand rfl hf hc (Nat.zero_le v) h]

/-! ### SEG_SELECT, SNAPSHOT, COMMIT, DISCARD -/

theorem segSelect_selects (hm : s.mayWrite (.bar0 port) (0x1105 + port) 1 = true) {v : BitVec 32} {e : Entry}
    (he : findEntry (field v.toNat 8 16) (field v.toNat 0 8) = some e) (hl : e.isLong = true) : Completes (.segSelect port v) s (fun u =>
      (u.port port).segSelect = BitVec.ofNat 32 (v.toNat % 2 ^ 24) ∧ (u.port port).segSnap = none ∧ (u.port port).segStage = none) := by
  refine completes_of_next ((exec_segSelect ..).trans (State.regWrite_segSelect hm (by have := v.isLt; omega))) ?_
  rw [State.segChoose, he]
  dsimp only
  rw [if_pos hl, State.answerVia_bar0_ok, State.port_setPort]
  exact ⟨rfl, rfl, rfl⟩

theorem segSnapshot_captures (hm : s.mayWrite (.bar0 port) (0x1105 + port) 2 = true) {idx sub : Nat} {e : Entry} (hs : s.segEntry port = some (idx, sub, e))
    (hu : s.unitCode idx ≠ 0x0A) : Completes (.segSnapshot port) s (fun u => (u.port port).segSnap = some (s.entryValue e sub)) := by
  refine completes_of_next ((exec_segSnapshot ..).trans (State.regWrite_segCommand hm (by decide))) ?_
  rw [State.segCommand, State.segSnapshot, hs]
  dsimp only
  rw [if_neg hu, State.answerVia_bar0_ok, State.port_setPort]

theorem segCommit_applies (hm : s.mayWrite (.bar0 port) (0x1105 + port) 2 = true) {idx sub : Nat} {e : Entry} (hs : s.segEntry port = some (idx, sub, e))
    {bs : Bytes} {t : State} (hl : (s.port port).stageLost = false) (hb : (s.port port).segStage = some bs) (hw : s.writeLong (.bar0 port) e sub bs = (t, 0)) :
    exec (.segCommit port) s = .next (t.setPort port { t.port port with segStage := none }) := by
  have hp : (if port.val = 0 then (0 : Fin 2) else 1) = port := by
    fin_cases port
    · rfl
    · rfl
  rw [exec_segCommit, execSegCommit, State.regWrite_segCommand hm (by decide), State.segCommand, State.segCommit, hs, hb]
  dsimp only
  rw [hl, hp, hw]
  rfl

theorem segDiscard_empties (hm : s.mayWrite (.bar0 port) (0x1105 + port) 2 = true) (hl : (s.port port).stageLost = false) : Completes (.segDiscard port) s (fun u =>
    (u.port port).segStage = none ∧ (u.port port).segSnap = (s.port port).segSnap ∧ u.mem = s.mem ∧ u.dict = s.dict) := by
  refine completes_of_next ((exec_segDiscard ..).trans (State.regWrite_segCommand hm (by decide))) ?_
  rw [State.segCommand, State.segDiscard]
  dsimp only
  rw [hl, if_neg (by decide), State.answerVia_bar0_ok, State.port_setPort]
  exact ⟨rfl, rfl, State.setPort_mem .., State.setPort_dict ..⟩

/-- What the first COMMIT or DISCARD after a loss leaves: the loss is told once, with 0x09 (R395). -/
theorem State.lossTold_keeps {h : HostPort} (hh : h.stageLost = false) :
    (((s.setPort port h).answerVia (.bar0 port) 0x09 (0x1105 + port) 2).port port).stageLost = false ∧
    ((s.setPort port h).answerVia (.bar0 port) 0x09 (0x1105 + port) 2).dget 0x1101 (port + 1) = 0x09 * 2 ^ 24 + (0x1105 + port) * 2 ^ 8 + 2 ∧
    ((s.setPort port h).answerVia (.bar0 port) 0x09 (0x1105 + port) 2).mem = s.mem := by
  have ha : (s.setPort port h).answerVia (.bar0 port) 0x09 (0x1105 + port) 2 = (s.setPort port h).dset 0x1101 (port + 1) (0x09 * 2 ^ 24 + (0x1105 + port) * 2 ^ 8 + 2) := by
    fin_cases port
    · rfl
    · rfl
  rw [ha]
  refine ⟨?_, State.dget_dset .., State.setPort_mem ..⟩
  exact (congrArg HostPort.stageLost ((State.port_of_host (s := s.setPort port h) rfl port).trans (State.port_setPort ..))).trans hh

theorem segCommand_lost (hm : s.mayWrite (.bar0 port) (0x1105 + port) 2 = true) (hl : (s.port port).stageLost = true) :
    ∀ c ∈ [(Instr.segDiscard port, 3), (.segCommit port, 2)], Completes c.1 s (fun u => (u.port port).stageLost = false ∧
      u.dget 0x1101 (port + 1) = 0x09 * 2 ^ 24 + (0x1105 + port) * 2 ^ 8 + 2 ∧ u.mem = s.mem) := by
  intro c hc
  simp only [List.mem_cons, List.not_mem_nil, or_false] at hc
  rcases hc with rfl | rfl
  · refine completes_of_next ((exec_segDiscard ..).trans (State.regWrite_segCommand hm (by decide))) ?_
    rw [State.segCommand, State.segDiscard]
    dsimp only
    rw [if_pos hl]
    exact State.lossTold_keeps rfl
  · refine completes_of_next ((exec_segCommit ..).trans (State.regWrite_segCommand hm (by decide))) ?_
    rw [State.segCommand, State.segCommit]
    dsimp only
    rw [if_pos hl]
    exact State.lossTold_keeps rfl

/-! ### The window -/

/-- The form of an access of a window: 4 or 8 bytes, aligned. -/
theorem windowForm {n w : Nat} (hn : n = 4 ∨ n = 8) (hw : n ∣ w) : ((n == 4 || n == 8) && decide (w % n = 0)) = true := by
  simp [hn, Nat.mod_eq_zero_of_dvd hw]

section
variable (hk : s.power.hkUp = true) (hv : s.viaMay (.bar0 port) = true)
include hk hv

theorem windowRead_completes {o w n : Nat} {bs : Bytes} (hp : bar0Place port o = .window w) (hfit : bar0Fits o n 4096 = true) (hn : n = 4 ∨ n = 8) (hw : n ∣ w)
    (hl : (s.port port).segLost = false) (hb : (s.port port).segSnap = some bs) :
    Completes (.trackingPeakRead (.bar0 port) (.bytes o n)) s (fun u => u.out = .completion port 0 (slice bs (s.dget (0x1105 + port) 4 + w) n) :: s.out ∧ u.mem = s.mem ∧
      (s.dget (0x1105 + port) 4 + w + n ≤ bs.length → u.dict = s.dict)) := by
  have hview : s.segView port w n = (s, if bs.length < s.dget (0x1105 + port) 4 + w + n then 0x08 else 0, slice bs (s.dget (0x1105 + port) 4 + w) n) := by
    rw [State.segView, hb, hl, windowForm hn hw]
    rfl
  have hx : exec (.trackingPeakRead (.bar0 port) (.bytes o n)) s = _ := exec_trackingPeakRead ..
  rw [execTrackingPeakRead, State.bar0Read, hp] at hx
  dsimp only at hx
  rw [hview, if_neg (by simp [hfit]), State.accessed_served hk hv] at hx
  refine completes_of_next hx ?_
  by_cases hin : bs.length < s.dget (0x1105 + port) 4 + w + n
  · dsimp only
    rw [if_pos hin]
    exact ⟨rfl, rfl, fun h => absurd hin (by omega)⟩
  · dsimp only
    rw [if_neg hin]
    exact ⟨rfl, rfl, fun _ => rfl⟩

theorem segWindowWrite_stages {w idx sub : Nat} {bs : Bytes} {e : Entry} (hs : s.segEntry port = some (idx, sub, e)) (hl : (s.port port).stageLost = false)
    (hn : bs.length = 4 ∨ bs.length = 8) (hw : bs.length ∣ w) (hin : w + bs.length ≤ 0x400000) (hfit : s.dget (0x1105 + port) 4 + w + bs.length ≤ entrySize e) :
    Completes (.segWindowWrite port w bs) s (fun u => (u.port port).segStage =
      some (patch ((s.port port).segStage.getD (s.entryValue e sub)) (s.dget (0x1105 + port) 4 + w) bs)) := by
  have hwrite : s.segWrite port w bs = (s.setPort port { s.port port with
      segStage := some (patch ((s.port port).segStage.getD (s.entryValue e sub)) (s.dget (0x1105 + port) 4 + w) bs) }, 0) := by
    rw [State.segWrite, hs]
    dsimp only
    rw [windowForm hn hw, if_neg (by simpa using hin), hl, if_neg (by decide), if_neg (by omega)]
  refine completes_of_next ((exec_segWindowWrite ..).trans (State.accessed_served hk hv ..)) ?_
  rw [hwrite, State.answerVia_bar0_ok, State.port_setPort]

end
end

/-! ### Operator keys (R404 to R406) -/

theorem findEntry_operatorKey (slot : Fin 8) :
    findEntry 0x1210 (slot + 1) = some ⟨0x1210, 1, 8, "OPERATOR_KEY", 0x40, 40, .rws, .long, 0, 1, 0, 18446744073709551615⟩ := by
  fin_cases slot
  all_goals rfl

theorem State.lget_lset_other (s : State) {i j i' j' : Nat} (v : Bytes) (h : entryKey i' j' ≠ entryKey i j) : (s.lset i j v).lget i' j' = s.lget i' j' := by
  simp [State.lget, State.lset, tfind_tset_other _ _ _ _ h]

theorem State.setKey_lget (s : State) (slot : Fin 8) (bs : Bytes) : (s.setKey slot bs).lget 0x1210 (slot + 1) = bs :=
  (State.lget_lset_other _ _ (by simp only [entryKey]; omega)).trans (State.lget_lset ..)
theorem State.replay_of_find {s : State} {slot n : Nat} (h : tfind s.prot.replay slot = some n) : s.replay slot = n := by rw [State.replay, h]
theorem State.setKey_replay (s : State) (slot : Nat) (bs : Bytes) : tfind (s.setKey slot bs).prot.replay slot = some 0 := tfind_tset_same ..
theorem State.setKey_sessions (s : State) (slot : Nat) (bs : Bytes) : (s.setKey slot bs).prot.sessions = s.prot.sessions.filter (fun x => x.slot.val != slot) := rfl
theorem State.answerVia_prot (s : State) (via : Via) (code idx sub : Nat) : (s.answerVia via code idx sub).prot = s.prot := by
  cases via with
  | bar0 p => exact State.ite_keeps (part := State.prot) rfl rfl
  | key | unsigned | i3c => rfl

theorem operatorKeyWrite_replaces {s : State} {via : Via} {slot : Fin 8} {value : Bytes} (hm : s.mayWriteLong via 0x1210 (slot + 1) = true) (hl : value.length = 40)
    (hc : s.longCheck 0x1210 (slot + 1) (cleanLong 0x1210 value) = 0) : Completes (.operatorKeyWrite via slot value) s (fun u =>
      u.lget 0x1210 (slot + 1) = cleanLong 0x1210 value ∧ u.replay slot = 0 ∧ ∀ x ∈ u.prot.sessions, x.slot ≠ slot) := by
  refine completes_of_next ((exec_operatorKeyWrite ..).trans (State.access_of_mayWriteLong (findEntry_operatorKey slot) hm hl hc)) ⟨?_, ?_, fun x hx => ?_⟩
  · rw [State.lget_of_longs (State.answerVia_longs ..)]
    exact State.setKey_lget ..
  · refine State.replay_of_find ?_
    rw [State.answerVia_prot]
    exact State.setKey_replay s slot _
  · rw [State.answerVia_prot] at hx
    have hne : x.slot.val ≠ slot := by simpa using (List.mem_filter.mp hx).2
    exact fun h => hne (congrArg Fin.val h)

/-- Settles O40: the segment windows and the operator keys. -/
theorem longEntries : Obligations.LongEntries := fun _ _ =>
  ⟨fun _ _ hm he hl => segSelect_selects hm he hl,
    fun _ _ _ hm hs => ⟨segSnapshot_captures hm hs, fun _ _ => segCommit_applies hm hs⟩,
    fun hm => ⟨segDiscard_empties hm, fun c hc hl => segCommand_lost hm hl c hc⟩,
    fun _ _ _ _ hk hv => windowRead_completes hk hv,
    fun _ _ _ _ _ hk hv => segWindowWrite_stages hk hv,
    fun _ _ _ => operatorKeyWrite_replaces⟩

end Sys2Proof.Machine
end

section
/-! SUPPORT. O41: the Dictionary Protocol (R401 to R408): how a request is answered, its sessions and time-outs, and the mailbox -/

namespace Sys2Proof.Machine

/-! ### A request of the Dictionary Protocol (R402, R406, R408) -/

section
variable {s : State} {m : DpMsg} {sigOk : Bool}

theorem State.dpRequest_full : s.dpRequest m true sigOk = (s.dadd 0x3120 3 1, none) := rfl
theorem State.dpRequest_foreign (ht : s.dpTakes m = false) : s.dpRequest m false sigOk = (s, none) := by
  rw [State.dpRequest, ht]
  rfl
theorem State.dpRequest_unauthentic (ht : s.dpTakes m = true) (ha : s.dpAuthentic m sigOk = false) :
    s.dpRequest m false sigOk = (s.dadd 0x3120 2 1, none) := by
  rw [State.dpRequest, ht, ha]
  rfl
theorem State.dpRequest_accepted (ht : s.dpTakes m = true) (ha : s.dpAuthentic m sigOk = true) {t : State}
    (h : t = (if m.signed = true then (s.dadd 0x3120 1 1).takeCounter (m.keySlot - 1) m.counter else s.dadd 0x3120 1 1)) :
    s.dpRequest m false sigOk = ((t.dpAct m).1, some (t.dpAct m).2) := by
  rw [State.dpRequest, ht, ha, h]
  rfl

theorem State.takeCounter_replay (s : State) (slot counter : Nat) : (s.takeCounter slot counter).replay slot = counter :=
  State.replay_of_find (tfind_tset_same ..)

/-- A signed message passes R406 only with a right signature, of a slot that holds a key, with a COUNTER above the slot's. -/
theorem State.dpAuthentic_fails (hs : m.signed = true)
    (h : sigOk = false ∨ m.keySlot = 0 ∨ 8 < m.keySlot ∨ s.role (m.keySlot - 1) = 0 ∨ m.counter ≤ s.replay (m.keySlot - 1)) : s.dpAuthentic m sigOk = false := by
  simp only [State.dpAuthentic, hs, Bool.not_true, Bool.false_or, Bool.and_eq_false_iff, decide_eq_false_iff_not, bne_eq_false_iff_eq, Nat.not_le, Nat.not_lt,
    Nat.lt_one_iff]
  tauto

end

/-! ### A frame on the management port (R401) -/

section
variable {s : State} {frame : Bytes} {full sigOk : Bool} {type : Nat} (hd : s.dpServed = true) (hform : dpForm type frame = true)
include hform

theorem State.dpFrom_none (hn : s.dpDatagram frame = none) : s.dpFrom type frame full sigOk = .next s := by
  rw [State.dpFrom, hform, hn]
  exact (if_neg (by decide)).trans (ite_self _)

include hd

theorem State.dpFrom_request {p : NetPacket} {sport : Nat} {data : Bytes} {m : DpMsg} (hu : s.prot.mgmtUp = true)
    (hg : s.dpDatagram frame = some (p, sport, data)) (hm : parseDp data = some m) :
    s.dpFrom type frame full sigOk = match s.dpRequest m full sigOk with
      | (t, some bs) => .next (t.emit (.mgmt (t.dpReply p sport bs).encode))
      | (t, none) => .next t := by
  rw [State.dpFrom, hform, hd, hu, hg]
  dsimp only
  rw [hm]
  rfl

end

/-- The requests that come as frames, each with its type. -/
theorem dpCommand_exec {c : Instr} {frame : Bytes} {full sigOk : Bool} {type : Nat} (s : State)
    (h : (c, type) ∈ [(Instr.dpRead frame full sigOk, 0x01), (.dpWrite frame full sigOk, 0x02), (.sessionOpen frame full sigOk, 0x10),
      (.sessionClose frame full sigOk, 0x11), (.discover frame full sigOk, 0x20)]) : exec c s = s.dpFrom type frame full sigOk := by
  simp only [List.mem_cons, List.not_mem_nil, or_false, Prod.mk.injEq] at h
  rcases h with ⟨rfl, rfl⟩ | ⟨rfl, rfl⟩ | ⟨rfl, rfl⟩ | ⟨rfl, rfl⟩ | ⟨rfl, rfl⟩
  · exact exec_dpRead ..
  · exact exec_dpWrite ..
  · exact exec_sessionOpen ..
  · exact exec_sessionClose ..
  · exact exec_discover ..

/-! ### Sessions (R405) -/

section
variable {s : State} {m : DpMsg}

theorem State.dpOpen_opens (hs : m.signed = true) (hl : m.body.length = 16) (hroom : s.prot.sessions.length < 4) :
    (s.dpOpen m).1.prot.sessions = ⟨s.prot.nextSession, Fin.ofNat _ (m.keySlot - 1), s.sdt⟩ :: s.prot.sessions ∧
      (s.dpOpen m).1.prot.nextSession = s.prot.nextSession + 1 := by
  have hcode : (if !m.signed then 0x05 else if m.body.length ≠ 16 then 0x07 else if 4 ≤ s.prot.sessions.length then 0x09 else 0) = 0 := by
    rw [hs, if_neg (by decide), if_neg (by simpa using hl), if_neg (by omega)]
  rw [State.dpOpen, hcode]
  exact ⟨rfl, rfl⟩

theorem State.endSession_ids (id : Nat) : ∀ x ∈ (s.endSession id).prot.sessions, x.id ≠ id := fun _ hx => by simpa using (List.mem_filter.mp hx).2

theorem State.dpClose_closes (hs : m.signed = true) (h0 : m.session ≠ 0) (hc : s.sessionCode m = 0) : ∀ x ∈ (s.dpClose m).1.prot.sessions, x.id ≠ m.session := by
  have hcode : (if m.session = 0 ∨ (!m.signed) = true then 0x05 else s.sessionCode m) = 0 := by rw [if_neg (by simp [hs, h0]), hc]
  have hend : (s.dpClose m).1 = s.endSession m.session := if_pos hcode
  rw [hend]
  exact State.endSession_ids _

end

/-- A record is idle no more once its snapshot and staging buffer went. -/
theorem State.segIdle_cleared (s : State) (g : ProtSeg) : s.segIdle (if s.segIdle g then { g with snapshot := none, staging := none } else g) = false := by
  by_cases hidle : s.segIdle g = true
  · rw [if_pos hidle]
    rfl
  · rw [if_neg hidle]
    exact Bool.eq_false_iff.mpr hidle

theorem padTo_length (n : Nat) (bs : Bytes) : (padTo n bs).length = n := slice_length ..
theorem padTo_nil (n : Nat) : padTo n [] = List.replicate n 0 := by simp [padTo, slice]

/-- What a mailbox then shows. -/
theorem State.lget_answered (t : State) (i : Nat) (bs : Bytes) : ((t.lset i 2 (padTo 1232 bs)).dset i 3 2).lget i 2 = padTo 1232 bs :=
  (State.lget_of_longs (s := t.lset i 2 (padTo 1232 bs)) rfl i 2).trans (State.lget_lset ..)

/-! ### Time-outs and the mailbox (R403, R405, R407) -/

section
variable {s : State} (hd : s.dpServed = true)
include hd

theorem sessionTimeout_ends {id : Nat} (h : ∃ x ∈ s.prot.sessions, x.id = id ∧ s.elapsed x.last 96000000000 = true) :
    Completes (.sessionTimeout id) s (fun u => ∀ x, x ∈ u.prot.sessions ↔ (x ∈ s.prot.sessions ∧ x.id ≠ id)) := by
  have hc : (s.prot.sessions.any (fun x => x.id == id && s.elapsed x.last 96000000000) && s.dpServed) = true := by
    obtain ⟨x, hx, hid, hel⟩ := h
    rw [hd, Bool.and_true]
    exact List.any_eq_true.mpr ⟨x, hx, by simp [hid, hel]⟩
  refine completes_of_when (exec_sessionTimeout ..) hc (fun x => ?_)
  show x ∈ s.prot.sessions.filter _ ↔ _
  rw [List.mem_filter, bne_iff_ne]

theorem segmentLapse_drops {h : Nat} (hi : ∃ g ∈ s.prot.segs, g.holder = h ∧ s.segIdle g = true) : Completes (.segmentLapse h) s (fun u =>
    (∀ g ∈ u.prot.segs, g.holder = h → s.segIdle g = false) ∧ (∀ g ∈ s.prot.segs, g.stands = true → g.holder ≠ h → g ∈ u.prot.segs)) := by
  have hc : (s.prot.segs.any (fun g => g.holder == h && s.segIdle g) && s.dpServed) = true := by
    obtain ⟨g, hg, hh, hidle⟩ := hi
    rw [hd, Bool.and_true]
    exact List.any_eq_true.mpr ⟨g, hg, by simp [hh, hidle]⟩
  refine completes_of_when (exec_segmentLapse ..) hc ⟨fun g hg hh => ?_, fun g hg hs hh => ?_⟩
  · obtain ⟨g0, -, rfl⟩ := List.mem_map.mp (List.mem_filter.mp hg).1
    by_cases h0 : (g0.holder == h) = true
    · rw [if_pos h0]
      exact s.segIdle_cleared g0
    · rw [if_neg h0] at hh
      exact absurd (beq_iff_eq.mpr hh) h0
  · exact List.mem_filter.mpr ⟨List.mem_map.mpr ⟨g, hg, if_neg (by simpa using hh)⟩, hs⟩

theorem mboxRequest_answers {port : Fin 2} {full sigOk : Bool} {bytes : Bytes} (hb : (s.port port).mbox = some bytes) :
    Completes (.mboxRequest port ⟨full, sigOk⟩) s (fun u => u.dget (0x1140 + port) 3 = 2 ∧ (u.lget (0x1140 + port) 2).length = 1232 ∧
      (parseDp bytes = none → u.lget (0x1140 + port) 2 = List.replicate 1232 0 ∧ (u.port port).mbox = none)) := by
  have hx : exec (.mboxRequest port ⟨full, sigOk⟩) s = _ := exec_mboxRequest ..
  rw [execMboxRequest, hb] at hx
  dsimp only at hx
  rw [hd, when_true] at hx
  refine completes_of_next hx ⟨State.dget_dset .., ?_, fun hn => ?_⟩
  · exact (congrArg List.length (State.lget_answered ..)).trans (padTo_length ..)
  · rw [hn]
    refine ⟨?_, ?_⟩
    · exact (State.lget_answered ..).trans (padTo_nil 1232)
    · exact congrArg HostPort.mbox ((State.port_of_host (s := s.setPort port { s.port port with mbox := none }) rfl port).trans (State.port_setPort ..))

end

/-- Settles O41: requests of the Dictionary Protocol, its sessions and segments, and the mailbox. -/
theorem dictionaryProtocol : Obligations.DictionaryProtocol := by
  intro s hd
  refine ⟨?_, fun frame full sigOk hform hn => (exec_dpRead ..).trans (State.dpFrom_none hform hn), fun m hs sigOk => State.dpAuthentic_fails hs,
    fun m => ⟨State.dpOpen_opens, State.dpOpen_full s m, State.dpClose_closes⟩, fun id => sessionTimeout_ends hd, fun h => segmentLapse_drops hd,
    fun port full sigOk bytes => mboxRequest_answers hd⟩
  intro frame full sigOk p sport data m hu hg hm c type hc hform
  rw [dpCommand_exec s hc, State.dpFrom_request hd hform hu hg hm]
  refine ⟨?_, ?_, ?_, ?_⟩
  · rintro rfl
    rfl
  · rintro rfl ht
    rw [State.dpRequest_foreign ht]
  · rintro rfl ht ha
    rw [State.dpRequest_unauthentic ht ha]
  · rintro rfl ht ha t rfl
    rw [State.dpRequest_accepted ht ha rfl]
    refine ⟨rfl, fun hs => ?_⟩
    rw [if_pos hs, State.takeCounter_replay]

end Sys2Proof.Machine
end
